-- ==== Sys2Proof/Word.lean ====
section
/-! DEFINITION. Word.lean: the word types of the model and nothing else. Bytes are 8-bit vectors (the spec's byte);
an FP32 value is held as its 32-bit pattern (spec/04 R137); scalars that software reads are natural numbers with their
width in the object catalogue. -/
namespace Sys2Proof

/-- One byte. -/
abbrev Byte := BitVec 8

/-- A run of bytes, the first at the lowest address. -/
abbrev Bytes := List Byte

/-- An FP32 value as its bit pattern (spec/04 R137). -/
abbrev F32 := BitVec 32

/-- A finite map from natural numbers, kept as a list of pairs. An absent key reads as the caller's default. -/
abbrev Map (α : Type) := List (Nat × α)

end Sys2Proof
end

