-- ==== Sys2Proof/Types.lean ====
section
/-! DEFINITION. Types.lean: the operand types of the commands: who sends a GDP request and what it carries, the functions of
the dictionary, the frames of the Hinge fabric, and the analogue results that commands report. -/
namespace Sys2Proof

/-- How a GDP request arrives (spec/03 Table 3.1). -/
inductive GdpPath where
  /-- A UDP datagram at the management port: source address, source port, destination port (R86). -/
  | mgmt (src port dst : Nat)
  /-- An MCTP message on I3C: source endpoint, message type, vendor identifier (R87). -/
  | i3c (src kind vendor : Nat)
  /-- A doorbell of a function's mailbox; `irq` is what the host wrote to MBX_IRQ before it, if it wrote it (R88). -/
  | mailbox (fn : Nat) (irq : Option Nat := none)
  deriving DecidableEq, Repr

/-- The header fields of a request that a command with its own object does not fix (spec/03 Table 3.3). -/
structure ReqHead where
  session : Nat
  seq     : Nat
  detail  : Nat := 0
  target  : Nat := 0
  deriving DecidableEq, Repr

/-- A function of the dictionary (spec/03 R123): a model slot n (0x2410+n), a Hinge port p (0x3010+p), a keyway n
(0x8000+0x100n). -/
inductive Func where
  | slot (n : Nat) | port (p : Nat) | keyway (n : Nat)
  deriving DecidableEq, Repr

/-- A unit of the crossing hierarchies, named as UNIT_QUERY names it (spec/02 Table 2.7). -/
abbrev UnitId := Nat

/-- One byte of host memory with its address. -/
abbrev HostCell := Nat × Byte

/-- A block of integers with its scale code; −128 marks a zero block (spec/04 R138). -/
structure DBlock where
  code : Int
  d    : List Int
  deriving DecidableEq, Repr

/-- A pass of an N4, N3 or N2 drive, or the H or L pass of an N8c pair (spec/05 R176). -/
inductive PassHalf where
  | single | h | l
  deriving DecidableEq, Repr

/-- A pass that the core sequencer is to start (spec/06 R233): engine and tier, half, the request served, its activation vector
(spec/06 R238), the activation blocks of the engine's rows, the scale codes of the chunk's other blocks (spec/04 R154), and the number of
outlier rows. Plan, gain and layer are those of the tile in the tier. -/
structure PassOrder where
  eng     : Nat
  tier    : Nat
  half    : PassHalf
  req     : Nat
  vec     : Nat := 0
  blocks  : List DBlock
  others  : List Int
  outRows : Nat
  deriving DecidableEq, Repr

/-- Counts of a pass as the converters deliver them: sign × tick for column pairs 0–511 and spares 0–31 (544 values), ±511 where
no crossing occurred (spec/05 R179). -/
structure PassResult where
  eng   : Nat
  ticks : List Int
  deriving DecidableEq, Repr

/-- One cell pair as a read-back counts it: row 0–519 (512 on are reference rows), column pair 0–511 (a spare's count stands in
place of the column it replaces, spec/05 R197), corrected count. A pair that is not listed counts exactly what it was programmed
to. -/
structure CellRead where
  row   : Nat
  col   : Nat
  count : Int
  deriving DecidableEq, Repr

/-- A total of spec/06 R238: request, layer, activation vector, logical output; `draft` marks a layer of the request's draft. -/
structure TotalKey where
  req   : Nat
  layer : Nat
  vec   : Nat
  out   : Nat
  draft : Bool := false
  deriving DecidableEq, Repr

/-- Where a block to be narrowed comes from and goes to (spec/04, "From wide to narrow"): to a layer's array edge, the block's first input row
given, in the layer's drive format; or between the Keeper's work and host data, in a format named. -/
inductive NarrowPlace where
  | arrayEdge (draft : Bool) (layer row : Nat)
  | keeper (fmt : Nat)
  | hostData (fmt : Nat)
  deriving DecidableEq, Repr

/-- What a memory read found under SECDED (spec/02 R50–R52). -/
inductive EccResult where
  | clean | single | double
  deriving DecidableEq, Repr

/-- Work items of a Keeper (spec/06 R221). `engs` and `tier` name the engines of a chunk. The place of an output in its tile, the join mode, the
drive format and what is held digitally follow from the placement map. -/
inductive KeeperWork where
  /-- Promote a chunk sum into the total (R235–R242). -/
  | promote (tot : TotalKey) (tier : Nat) (engs : List Nat) (half : PassHalf)
  /-- Recompute an output digitally (R227, R333), from the unaligned activation blocks of the engine's rows where no pass holds them. -/
  | repair (tot : TotalKey) (tier : Nat) (engs : List Nat) (eng : Nat) (blocks : List DBlock)
  /-- Add a split term (R228, R238). -/
  | splitTerm (tot : TotalKey) (tier : Nat) (engs : List Nat) (eng : Nat) (half : PassHalf)
  /-- Add an outlier term: row of the tile and BF16 value (R230). -/
  | outlier (tot : TotalKey) (tier : Nat) (engs : List Nat) (eng row value : Nat)
  /-- Add an adapter term from the layer's input (R247). -/
  | adapter (tot : TotalKey) (x : List F32)
  /-- An output of an exact-tier layer from its INT8 activation blocks (R251). -/
  | exactTier (tot : TotalKey) (shard : Nat) (blocks : List DBlock)
  /-- End a total: form it in the order of R238, an exact one converted to FP32 once (R244). -/
  | finish (tot : TotalKey)
  /-- A reduction of an exact-tier layer over the vector unit's 64 lanes (R251). -/
  | reduce (req : Nat) (x : List F32)
  /-- Narrow a block of 32 values into core SRAM (R150, R241). -/
  | narrow (req : Nat) (place : NarrowPlace) (x : List F32)
  /-- Read a block as an operand (R144). -/
  | readBlock (req fmt used : Nat) (data : Bytes) (scale : Nat)
  /-- Read a word of SRAM of a unit: row, word address, what SECDED found (R51, R52). -/
  | sramRead (req : Nat) (unit : UnitId) (row addr : Nat) (ecc : EccResult)
  /-- Write a word of SRAM whole (R53). -/
  | sramWrite (unit : UnitId) (addr : Nat)
  /-- A word crosses an internal bus, a die bridge or a memory-stack interface for a request: the receiving unit, the word's address, what SECDED
  found (R50, R53). -/
  | transfer (req : Nat) (unit : UnitId) (addr : Nat) (ecc : EccResult)
  /-- A residue check of the core's Keeper mismatches (spec/14 R568). -/
  | residue
  deriving DecidableEq, Repr

/-- Counts of the 8 sub-passes of a split recompute (spec/06 R228): for each sub-pass the 544 ticks. -/
structure SplitResult where
  eng   : Nat
  ticks : List (List Int)
  deriving DecidableEq, Repr

/-- Sums of the counts of a ramp stage: for each of 17 groups, for each of 4 sources, the sum over the group's columns and
passes, how many were summed, and whether any carried SAT (spec/07 R275). -/
structure RampSum where
  sum : Int
  n   : Nat
  sat : Bool
  deriving DecidableEq, Repr

/-- Sums of a tier stage for one column pair or spare: pass types P1 to P6, each summed over the stage's repeats, and whether any
count carried SAT or failed its range check (spec/07 R276, R277). -/
structure ColSum where
  col : Nat
  p   : List Int
  bad : Bool
  deriving DecidableEq, Repr

/-- A standby record (spec/11 Table 11.10). The spec gives the records' content and no layout, so a frame carries them as data
(log 19). -/
inductive StandbyRec where
  /-- A slot record of R346 without placement or image digests, and the current version's manifest. -/
  | slot (n state : Nat) (enable : Bool) (owner share source swap model version : Nat) (manifest : Bytes)
  /-- The attention map of a slot's current version (R373). -/
  | map (n version : Nat) (bytes : Bytes)
  /-- An adapter's descriptor (Table 6.4) and its planes, each with its keyway address. -/
  | adapter (kw id : Nat) (desc : Bytes) (planes : List (Nat × Bytes))
  /-- A request: descriptor, prompt, request index, VERSION, DEADLINE. -/
  | request (idx kw : Nat) (desc : Bytes) (prompt : List Nat) (version deadline : Nat)
  /-- A step: tokens delivered in the previous step, RING_PROD, GENERATED, DEADLINE. -/
  | step (idx : Nat) (tokens : List Nat) (ringProd generated deadline : Nat)
  /-- A request has ended. -/
  | ended (idx : Nat)
  deriving DecidableEq, Repr

/-- A query vector in its Q_FORMAT (spec/09 Table 9.6): INT8 blocks, or BF16 values. -/
inductive QVec where
  | int8 (b : List DBlock) | bf16 (x : List Nat)
  deriving DecidableEq, Repr

/-- A query row: its position, its query head index in the layer and the query. -/
structure QRow where
  pos  : Nat
  head : Nat
  q    : QVec
  deriving DecidableEq, Repr

/-- What a frame whose payload the spec gives no layout carries (log 19). -/
inductive FrameBody where
  | none
  /-- IDENT (spec/11 R448): physical and logical address, PART_CODE, STEPPING, boot count, MAP_EPOCH. -/
  | ident (phys logical part stepping boot epoch : Nat)
  /-- REACH (spec/11 R453): for each trained global port its number, the partner's group and the occupancy in per cent; for each
  member the state of the link to it. -/
  | reach (globals : List (Nat × Nat × Nat)) (links : List (Nat × Nat))
  | standby (recs : List StandbyRec)
  /-- Query rows of a layer, of the draft's or the main model's (R398). -/
  | ringQuery (draft : Bool) (rows : List QRow)
  /-- Rows of FP32 m, l, o (R399). -/
  | ringPartial (rows : List (F32 × F32 × List F32))
  deriving DecidableEq, Repr

/-- A frame of the Hinge fabric: the header fields of spec/11 Table 11.5, the payload (ciphertext when ENC is set) and the tag.
LENGTH is the payload's length. -/
structure HFrame where
  type    : Nat
  flags   : Nat := 0
  dst     : Nat := 0
  src     : Nat := 0
  via     : Nat := 0
  flow    : Nat := 0
  seq     : Nat := 0
  keyway  : Nat := 0xFF
  keySlot : Nat := 0xFF
  hops    : Nat := 0
  status  : Nat := 0
  payload : Bytes := []
  tag     : Bytes := []
  body    : FrameBody := .none
  deriving DecidableEq, Repr

/-- Who sends a latch operation (spec/11 R483, R485): the host through a function's latch registers, with the owner's logical
address when LATCH_ADDR sets REMOTE and the TAG; or a unit of the device working for a keyway. -/
inductive LatchUser where
  | host (fn : Nat) (remote : Option Nat) (tag : Nat)
  | unit (kw : Nat) (u : UnitId)
  deriving DecidableEq, Repr

/-- What a version's part of a step was measured to cost (spec/10 R423): slot, version, run time in 2⁻¹⁶ notches, energy in microjoules. -/
structure StepCost where
  slot    : Nat
  version : Nat
  time    : Nat
  energy  : Nat
  deriving DecidableEq, Repr

/-- What a beat boundary is told of its work (spec/01 R36, spec/13 R538): the energy in nJ accounted beside the passes' own, and how many frees and
admissions its open phase has time for, all where none is given. -/
structure OpenWork where
  energy : Nat
  frees  : Option Nat
  admits : Option Nat
  deriving DecidableEq, Repr

/-- The reset of a controller (spec/02 R55, R59): by the parent that watches it, or by the Ward directly. -/
structure CtrlOrder where
  unit : UnitId
  ward : Bool
  deriving DecidableEq, Repr

/-- A frame sent again on a port from the replay buffer (spec/11 R446); `again` says that it is the one sent again before, still not acknowledged. -/
structure Resend where
  port  : Nat
  again : Bool
  deriving DecidableEq, Repr

/-- A failure that memory BIST found (spec/14 R591, Table 14.11): unit with its physical site, KIND, what could be done (ACTION), bit, address. -/
structure BistFail where
  unit   : UnitId
  kind   : Nat
  action : Nat
  bit    : Nat
  addr   : Nat
  deriving DecidableEq, Repr

/-- An SPDM connection. -/
inductive SpdmConn where
  | doe (fn : Nat) | i3c (src : Nat)
  deriving DecidableEq, Repr

/-- An SPDM response, by what it carries (log 33). -/
inductive SpdmMsg where
  | error (code : Nat)
  | version (l : List Nat)
  | capabilities
  /-- ECDSA P-384 and SHA-384. -/
  | algorithms
  | digests (l : List Bytes)
  /-- Slot, portion of its chain, bytes left. -/
  | certificate (slot : Nat) (portion : Bytes) (left : Nat)
  /-- Digest of the chain, the responder's nonce, signature. -/
  | challengeAuth (digest nonce sig : Bytes)
  /-- Number of blocks, the blocks asked for, the responder's nonce, signature. -/
  | measurements (count : Nat) (blocks : List (Nat × Bytes)) (nonce sig : Bytes)
  deriving DecidableEq, Repr

/-- Completion of a configuration request. -/
inductive ConfigReply where
  | retry | ok (v : Nat) | unsupported
  deriving DecidableEq, Repr

/-- A lane task (spec/09 R356, R357): the sequence, the lane, the cluster whose attention engine runs it, the position of the step's first new
keys and values, for each new position and KV head the key and the value channels in FP32, and the query rows. -/
structure LaneWork where
  seq     : Nat
  lane    : Nat
  cluster : Nat
  first   : Nat
  keys    : List (List (List F32))
  vals    : List (List (List F32))
  rows    : List QRow
  deriving DecidableEq, Repr

end Sys2Proof
end

