-- ==== Sys2Proof/Syntax.lean ====
section
/-! DEFINITION. Syntax.lean: the commands of the block, one constructor per row of spec/opcode_table.json. Every command
carries first the instant t, in picoseconds of the hub oscillator, at which the happening takes place (spec/95). -/
namespace Sys2Proof

/-- A command of the P920. -/
inductive Instr where
  /-- BEAT_PIN_EDGE (R23): A rising edge on BEAT_P/N arrives and is tested against the predicted boundary, then accepted or counted toward a lock. -/
  | beatPinEdge (t : Nat)
  /-- BEAT_MARKER (R18): A BEAT_MARK frame arrives on a Hinge port; it places a boundary when the port is the link source, and otherwise serves as a beat echo. -/
  | beatMarker (t : Nat) (port number state : Nat)
  /-- MISSED_BEAT (R28): An acceptance window closes with no accepted edge, so the boundary is placed at the predicted time. -/
  | missedBeat (t : Nat)
  /-- BEAT_SELF_TIMED (R29): The sixteenth consecutive missed beat in FREERUN moves BEAT_STATE to SELF. -/
  | beatSelfTimed (t : Nat)
  /-- SEEKING_LOCK_TIMEOUT (R29): 2,000 ms pass in SEEKING without a lock, so BEAT_STATE becomes SELF. -/
  | seekingLockTimeout (t : Nat)
  /-- TRANSITION_BEAT_TIMEOUT (R30): The acceptance window around the predicted first new edge closes with no edge, so the transition beat ends in FREERUN. -/
  | transitionBeatTimeout (t : Nat)
  /-- BEAT_BOUNDARY (R35): A beat boundary begins notch 0, and the open phase runs the bank swap, the root swap, frees, admissions and the batch build in fixed order. -/
  | beatBoundary (t : Nat) (host : List HostCell) (costs : List StepCost) (quiet : Nat) (work : OpenWork)
  /-- RUN_PHASE_START (R36): The run phase starts at OPEN_END, or when a late batch build ends. -/
  | runPhaseStart (t : Nat)
  /-- QUIET_WINDOW_START (R37): At QUIET_START the quiet window opens for calibration, scrub and audit work. -/
  | quietWindowStart (t : Nat)
  /-- STEP_WORK_END (R38): A core's step work ends, and its waiting quiet-window tasks may start. -/
  | stepWorkEnd (t : Nat) (core : Nat)
  /-- CONTROLLER_HEARTBEAT (R59): A controller's heartbeat reaches its parent and restarts the parent's 2 ms watch. -/
  | controllerHeartbeat (t : Nat) (ctrl : UnitId)
  /-- CTRL_RESET (R60): A missed heartbeat makes the parent reset the silent controller. -/
  | ctrlReset (t : Nat) (ctrl : CtrlOrder)
  /-- CTRL_RESTART_DONE (R62): A reset controller is live again, and held requests resume with late tokens flagged. -/
  | ctrlRestartDone (t : Nat) (ctrl : UnitId)
  /-- HASP_HOLD_EXPIRY (R62): A Hasp core not live within 2 beats of its reset has its held requests failed and freed. -/
  | haspHoldExpiry (t : Nat) (hc : Nat)
  /-- HASP_WORK_DELIVERY (R57): A Hasp core delivers its admissions and decode work to the step leader for merging into the batch. -/
  | haspWorkDelivery (t : Nat) (hc : Nat)
  /-- ISOLATE_MANAGEMENT (R64): A Ward command isolates a unit for management, effective at the next boundary. -/
  | isolateManagement (t : Nat) (unit : UnitId)
  /-- ISOLATE_FAULT (R65): A Ward command isolates a unit for a fault at once and discards its in-flight results. -/
  | isolateFault (t : Nat) (unit : UnitId)
  /-- STEP_ORDER (R66): A step order or steward command reaches a unit, and is refused back to the owner if the unit is isolated. -/
  | stepOrder (t : Nat) (unit : UnitId)
  /-- QUAD_GATE_REQ (R84): A write to QUAD_GATE_REQ asks DSd to gate or open quadrants. -/
  | quadGateReq (t : Nat) (p : GdpPath) (h : ReqHead) (v : Nat)
  /-- QUAD_OPEN_DONE (R69): A gated quadrant finishes opening and takes work from the next step. -/
  | quadOpenDone (t : Nat) (quad : Nat)
  /-- UNIT_QUERY (R83): A write of UNIT_QUERY selects the unit whose state UNIT_STATE returns for the session. -/
  | unitQuery (t : Nat) (p : GdpPath) (h : ReqHead) (v : Nat)
  /-- GDP_READ (R110): A READ frame returns an object's value, and a clear-on-read object is reset to its default. -/
  | gdpRead (t : Nat) (p : GdpPath) (frame : Bytes)
  /-- GDP_WRITE (R114): A WRITE frame range-checks and clamps each field and accepts the value for the next boundary; it covers every object without a row of its own. -/
  | gdpWrite (t : Nat) (p : GdpPath) (frame : Bytes)
  /-- GDP_READ_BLOCK (R109): A READ_BLOCK frame returns up to 1,020 bytes of a BLOB from an offset. -/
  | gdpReadBlock (t : Nat) (p : GdpPath) (frame : Bytes)
  /-- GDP_WRITE_BLOCK (R106): A WRITE_BLOCK frame stages a segment, and the last segment has the whole value checked and accepted. -/
  | gdpWriteBlock (t : Nat) (p : GdpPath) (frame : Bytes)
  /-- GDP_DESCRIBE (R632): A DESCRIBE frame returns the type, access, level, default and limits of an object. -/
  | gdpDescribe (t : Nat) (p : GdpPath) (frame : Bytes)
  /-- GDP_RESTORE (R111): A RESTORE frame resets a writable subindex, or a whole index, to its default. -/
  | gdpRestore (t : Nat) (p : GdpPath) (frame : Bytes)
  /-- GDP_STORE (R112): A STORE frame writes the persisted subindices of an index to flash. -/
  | gdpStore (t : Nat) (p : GdpPath) (frame : Bytes)
  /-- SESSION_OPEN (R633): A SESSION_OPEN frame takes a session place and returns a challenge. -/
  | sessionOpen (t : Nat) (p : GdpPath) (frame : Bytes)
  /-- SESSION_PROVE (R96): A SESSION_PROVE frame checks the HMAC proof under the management key and authenticates the session. -/
  | sessionProve (t : Nat) (p : GdpPath) (frame : Bytes)
  /-- SESSION_CLOSE (R633): A SESSION_CLOSE frame closes a session and frees its place. -/
  | sessionClose (t : Nat) (p : GdpPath) (frame : Bytes)
  /-- MBX_STATUS_READ (R89): A read of MBX_STATUS returns the status and clears OVERRUN and DROPPED. -/
  | mbxStatusRead (t : Nat) (fn : Nat)
  /-- SESSION_IDLE_TIMEOUT (R99): A session idle for 60 s is closed. -/
  | sessionIdleTimeout (t : Nat) (sid : Nat)
  /-- HALF_OPEN_TIMEOUT (R96): A session not proved within 10 s of its open reply is closed. -/
  | halfOpenTimeout (t : Nat) (sid : Nat)
  /-- SOURCE_MUTE_END (R96): The 60 s mute of a source ends. -/
  | sourceMuteEnd (t : Nat) (p : GdpPath)
  /-- BLOCK_SEQUENCE_TIMEOUT (R106): A WRITE_BLOCK sequence idle for 10 s is discarded and nothing is applied. -/
  | blockSequenceTimeout (t : Nat) (sid : Nat)
  /-- SEEKING_WRITE_APPLY (R105): In SEEKING a write that waits for a boundary takes effect within 1 ms of acceptance. -/
  | seekingWriteApply (t : Nat)
  /-- FUNC_ENABLE (R123): A write of FUNC_ENABLE moves a function through OFF, OPENING, ON and CLOSING, or latches a re-enable. -/
  | funcEnable (t : Nat) (p : GdpPath) (h : ReqHead) (f : Func) (v : Nat)
  /-- FUNC_OPEN_COMPLETE (R123): An OPENING function completes its opening and becomes ON. -/
  | funcOpenComplete (t : Nat) (f : Func)
  /-- FUNC_OPEN_LIMIT (R630): OPENING passes FUNC_OPEN_LIMIT, so the function returns to OFF with FUNC_OPEN_FAILED. -/
  | funcOpenLimit (t : Nat) (f : Func)
  /-- FUNC_CLOSE_COMPLETE (R123): CLOSING completes and the function becomes OFF. -/
  | funcCloseComplete (t : Nat) (f : Func)
  /-- FUNC_CLOSE_LIMIT (R630): CLOSING passes FUNC_CLOSE_LIMIT, so the function is forced OFF and its units are reset. -/
  | funcCloseLimit (t : Nat) (f : Func)
  /-- FUNC_POWERUP_START (R628): Once its owner has started and settings are loaded, an enabled function enters OPENING. -/
  | funcPowerupStart (t : Nat) (f : Func)
  /-- CORE_SLOT (R233): The core sequencer starts one pass per engine in a core slot, stretched when the outlier load exceeds its budget. -/
  | coreSlot (t : Nat) (core : Nat) (passes : List PassOrder)
  /-- COUNT_WORDS_READY (R182): A pass ends and its count words reach the Keeper for residual correction and checks. -/
  | countWordsReady (t : Nat) (r : PassResult)
  /-- DIAG_READBACK_DONE (R201): A tier read-back ends and its cell pairs are compared against the expected digits. -/
  | diagReadbackDone (t : Nat) (eng tier : Nat) (cells : List CellRead)
  /-- SPARE_VERIFIED (R205): Spare programming ends, and a verified entry goes to the shadow remap bank while a failed spare is marked BAD. -/
  | spareVerified (t : Nat) (eng tier spare : Nat) (ok : Bool) (energy : Nat)
  /-- ENG_RETIRE_REQ (R211): A write of ENG_RETIRE_REQ commands the retirement of an engine or tier. -/
  | engRetireReq (t : Nat) (p : GdpPath) (h : ReqHead) (v : Nat)
  /-- ENG_QUERY (R217): A write of ENG_QUERY selects the engine or tier for the session's ENG_INFO, REMAP_TABLE, CAL_INFO and RESID_TABLE. -/
  | engQuery (t : Nat) (p : GdpPath) (h : ReqHead) (v : Nat)
  /-- KEEPER_WORK_ITEM (R221): The Keeper runs a work item: promotion, repair, outlier terms, exact-tier or adapter work, in priority order. -/
  | keeperWorkItem (t : Nat) (core : Nat) (w : KeeperWork)
  /-- SPLIT_RECOMPUTE_DONE (R228): The sub-passes end and the split term is formed from their summed corrected counts. -/
  | splitRecomputeDone (t : Nat) (r : SplitResult)
  /-- TILE_AUDIT (R254): In the quiet window the auditor recomputes captured outputs exactly and compares them with tolerance. -/
  | tileAudit (t : Nat) (core : Nat)
  /-- MASK_AND (R257): The vector unit ANDs 2 to 8 masks bit by bit. -/
  | maskAnd (t : Nat) (len : Nat) (masks : List Nat)
  /-- MASK_OR (R257): The vector unit ORs 2 to 8 masks bit by bit. -/
  | maskOr (t : Nat) (len : Nat) (masks : List Nat)
  /-- MASK_XOR (R257): The vector unit XORs 2 to 8 masks bit by bit. -/
  | maskXor (t : Nat) (len : Nat) (masks : List Nat)
  /-- MASK_ANDNOT (R257): The vector unit computes the first mask AND NOT the second. -/
  | maskAndnot (t : Nat) (len a b : Nat)
  /-- MASK_POPCNT (R257): The vector unit counts the set bits of a mask. -/
  | maskPopcnt (t : Nat) (len a : Nat)
  /-- MASK_ANY (R257): The vector unit reports whether any bit of a mask is set. -/
  | maskAny (t : Nat) (len a : Nat)
  /-- MASK_ALL (R257): The vector unit reports whether every bit of a mask is set. -/
  | maskAll (t : Nat) (len a : Nat)
  /-- MASK_FIRST (R257): The vector unit returns the lowest set index of a mask. -/
  | maskFirst (t : Nat) (len a : Nat)
  /-- VREF_COMPARE (R263): The sense block measures a die reference against VBG_H and stores the deviation. -/
  | vrefCompare (t : Nat) (die : Nat) (dev : Int)
  /-- CAL_STAGE_START (R283): Once a core's step work has ended, a calibration stage that fits before notch 0 starts. -/
  | calStageStart (t : Nat) (eng : Nat)
  /-- CAL_RAMP_STAGE_DONE (R275): The ramp stage ends and sets ramp selection, failed sources and RAMP_TRIM in the shadow bank. -/
  | calRampStageDone (t : Nat) (eng : Nat) (r : List (List RampSum))
  /-- CAL_COARSE_STAGE_DONE (R276): A coarse stage ends and sets the tier's gain and offset trims. -/
  | calCoarseStageDone (t : Nat) (eng tier : Nat) (r : List ColSum)
  /-- CAL_FINE_STAGE_DONE (R277): A fine stage ends, checks plausibility and writes the tier's residual entries. -/
  | calFineStageDone (t : Nat) (eng tier : Nat) (r : List ColSum)
  /-- CAL_DISCARD_STANDOFF_END (R281): The 256-beat stand-off ends and the engine is placed on the due list again. -/
  | calDiscardStandoffEnd (t : Nat) (eng : Nat)
  /-- TRIM_STORE_WRITE (R268): After a commit, once CAL_NV_INTERVAL allows, the older trim record is rewritten with the new state. -/
  | trimStoreWrite (t : Nat) (eng : Nat)
  /-- CAL_RUN_REQ (R299): A write of CAL_RUN_REQ places the named engine in due class 1. -/
  | calRunReq (t : Nat) (p : GdpPath) (h : ReqHead) (v : Nat)
  /-- SENSE_SELFCAL_START (R295): A sense converter begins self-calibration after a temperature move or its period, when no channel is in its fast band. -/
  | senseSelfcalStart (t : Nat) (conv : Nat)
  /-- SENSE_SELFCAL_DONE (R294): Self-calibration ends after 2.048 ms and the new coefficients are accepted or kept out. -/
  | senseSelfcalDone (t : Nat) (conv : Nat) (offset gain : Int)
  /-- SLOT_LOAD (R332): SLOT_CMD LOAD starts a load from SLOT_MANIFEST at the next boundary. -/
  | slotLoad (t : Nat) (p : GdpPath) (h : ReqHead) (n : Nat)
  /-- SLOT_ABORT (R332): SLOT_CMD ABORT abandons a load or a pending version and frees its tiles and pages. -/
  | slotAbort (t : Nat) (p : GdpPath) (h : ReqHead) (n : Nat)
  /-- SLOT_EMPTY (R332): SLOT_CMD EMPTY frees every version of an OFF slot. -/
  | slotEmpty (t : Nat) (p : GdpPath) (h : ReqHead) (n : Nat)
  /-- SHARD_PUT (R314): A write of PUT_CTRL with GO queues a put naming a shard buffer, or sets UNREQUESTED. -/
  | shardPut (t : Nat) (fn : Nat) (addrLo addrHi len ctrl : Nat)
  /-- PUT_STATUS_READ (R313): A read of PUT_STATUS returns the free put entries and clears UNREQUESTED. -/
  | putStatusRead (t : Nat) (fn : Nat)
  /-- RING_CONS (R312): A write of RING_CONS reports consumed request-ring entries and frees room. -/
  | ringCons (t : Nat) (fn v : Nat)
  /-- SHARD_ARRIVAL (R316): A put shard has been read by DMA and is checked for length, header, digest and blocks. -/
  | shardArrival (t : Nat) (fn : Nat) (buf : Option Bytes)
  /-- SHARD_TIMEOUT (R317): No put arrives within SHARD_TIMEOUT beats, so the shard is requested again. -/
  | shardTimeout (t : Nat) (slot index : Nat)
  /-- ADAPTER_LOAD (R320): A write of ADAPTER_LOAD loads an adapter shard into keyway addresses. -/
  | adapterLoad (t : Nat) (p : GdpPath) (h : ReqHead) (payload : Bytes) (buf : Option Bytes)
  /-- TIER_PROGRAM_START (R327): A tier program starts when programming power permits, and the erase raises the program count. -/
  | tierProgramStart (t : Nat) (eng tier : Nat)
  /-- TIER_PROGRAM_DONE (R326): A tier program ends, COLMAX is recorded, and the read-back digest is checked against the image. -/
  | tierProgramDone (t : Nat) (eng tier : Nat) (bad badSpares badRefs : List Nat) (cells : List CellRead) (energy : Nat)
  /-- REPLACE_RETRY (R335): Every 256 beats, placement of an unplaced chunk is tried again. -/
  | replaceRetry (t : Nat) (slot chunk : Nat)
  /-- SCRUB_READBACK (R342): A placed tier is read back in a quiet window and compared against its reference image. -/
  | scrubReadback (t : Nat) (eng tier : Nat) (cells : List CellRead)
  /-- SCRUB_OVERDUE (R343): A tier passes SCRUB_INTERVAL hours without a read-back. -/
  | scrubOverdue (t : Nat) (eng tier : Nat)
  /-- IMAGE_DIGEST_CHECK (R344): A reference image's digest is recomputed, and a mismatch starts the two-way test. -/
  | imageDigestCheck (t : Nat) (eng tier : Nat) (flips : List (Nat × Byte))
  /-- DIGITAL_DIGEST_CHECK (R345): The digest of a memory-resident shard is recomputed. -/
  | digitalDigestCheck (t : Nat) (slot index : Nat) (flips : List (Nat × Byte))
  /-- PLACE_QUERY (R351): A write of PLACE_QUERY selects the chunk index that PLACE_WINDOW returns. -/
  | placeQuery (t : Nat) (p : GdpPath) (h : ReqHead) (n v : Nat)
  /-- LANE_TASK (R356): An attention engine runs one sequence, lane and step: it writes new keys and values, walks pages and computes partials. -/
  | laneTask (t : Nat) (w : LaneWork)
  /-- LANE_TASK_DONE (R391): A lane task's last page read ends and it releases its walk epoch. -/
  | laneTaskDone (t : Nat) (seq lane : Nat)
  /-- PAGE_SEAL (R386): A fully committed page is sealed and its blocks are registered in the leading-block tree. -/
  | pageSeal (t : Nat) (seq : Nat)
  /-- NEXT_ROOT_BUILD (R389): Firmware prepares the next-step root of a sequence with copies and truncations. -/
  | nextRootBuild (t : Nat) (seq : Nat)
  /-- RING_ROUND (R397): A ring member starts the next rotation round on the KV set it received, forwarding it on. -/
  | ringRound (t : Nat) (seq : Nat)
  /-- RING_ROUND_TIMEOUT (R400): A KV set or partial not arrived within RING_ROUND_TIMEOUT notches faults the step on every member. -/
  | ringRoundTimeout (t : Nat) (seq : Nat)
  /-- ATTN_MAP (R374): A write of ATTN_MAP is range-checked field by field and takes effect for its version. -/
  | attnMap (t : Nat) (p : GdpPath) (h : ReqHead) (n : Nat) (payload : Bytes)
  /-- SEQ_QUERY (R401): A write of SEQ_QUERY selects the sequence that SEQ_INFO returns. -/
  | seqQuery (t : Nat) (p : GdpPath) (h : ReqHead) (v : Nat)
  /-- SUBMIT_TAIL (R403): A write of SUBMIT_TAIL hands new descriptors in the submission ring to the P920. -/
  | submitTail (t : Nat) (fn tail : Nat) (host : List HostCell)
  /-- ADMIT_TIMEOUT (R408): A request still QUEUED ADMIT_TIMEOUT beats after it was taken ends with END_CAUSE 7. -/
  | admitTimeout (t : Nat) (idx : Nat)
  /-- TOKEN_SAMPLE (R426): A logit vector is ready and a token is chosen by greedy or seeded sampling. -/
  | tokenSample (t : Nat) (idx : Nat) (logits : List (List F32)) (drafts : List (Nat × List F32))
  /-- TOKEN_IRQ_GAP_END (R416): A suppression gap ends and the held interrupt is signalled once. -/
  | tokenIrqGapEnd (t : Nat) (fn : Nat)
  /-- CANCEL (R430): A CANCEL register write with GO records a cancellation of a request index. -/
  | cancel (t : Nat) (fn v : Nat)
  /-- REQ_CANCEL (R430): A write of REQ_CANCEL records a cancellation of a request index. -/
  | reqCancel (t : Nat) (p : GdpPath) (h : ReqHead) (v : Nat)
  /-- REARM (R434): A REARM register write with GO re-arms a disarmed request's draft. -/
  | rearm (t : Nat) (fn v : Nat)
  /-- REQ_REARM (R434): A write of REQ_REARM re-arms a disarmed request's draft. -/
  | reqRearm (t : Nat) (p : GdpPath) (h : ReqHead) (v : Nat)
  /-- SPEC_REARM_TIMEOUT (R434): SPEC_REARM_BEATS after disarming, the request is re-armed. -/
  | specRearmTimeout (t : Nat) (idx : Nat)
  /-- SERVE_STATUS_READ (R404): A read of SERVE_STATUS returns its flags and clears them. -/
  | serveStatusRead (t : Nat) (fn : Nat)
  /-- RING_STALL_LIMIT_EXPIRY (R409): A request held for ring room RING_STALL_LIMIT beats ends with END_CAUSE 12. -/
  | ringStallLimitExpiry (t : Nat) (idx : Nat)
  /-- KV_WAIT_LIMIT_EXPIRY (R409): A request held for page memory KV_WAIT_LIMIT beats ends with END_CAUSE 13. -/
  | kvWaitLimitExpiry (t : Nat) (idx : Nat)
  /-- HANDOFF_TIMEOUT (R438): A request still in WAIT_KV after HANDOFF_TIMEOUT beats ends with END_CAUSE 11. -/
  | handoffTimeout (t : Nat) (idx : Nat)
  /-- HIST_QUERY (R441): A write of HIST_QUERY selects the histogram that HIST_WINDOW returns. -/
  | histQuery (t : Nat) (p : GdpPath) (h : ReqHead) (v : Nat)
  /-- HIST_CLEAR (R441): A write of HIST_CLEAR clears the view's histograms at the next boundary. -/
  | histClear (t : Nat) (p : GdpPath) (h : ReqHead) (v : Nat)
  /-- REQ_QUERY (R409): A write of REQ_QUERY selects the request entry that REQ_INFO returns. -/
  | reqQuery (t : Nat) (p : GdpPath) (h : ReqHead) (v : Nat)
  /-- LINK_TRAINED (R449): A port's link training completes and the port becomes UP or UP_X2. `lanes` is the mask of the lanes that
  train: 15, or a pair, 3 or 12. -/
  | linkTrained (t : Nat) (port lanes : Nat)
  /-- IDENT (R448): A partner's IDENT frame arrives and the link delay is measured. -/
  | ident (t : Nat) (port : Nat) (f : HFrame) (roundTrip : Nat)
  /-- LINK_DOWN (R446): A frame resent 8 times or 2 µs without FEC lock takes the link DOWN and reroutes its flows. -/
  | linkDown (t : Nat) (port : Nat)
  /-- FRAME_REPLAY (R446): A frame touched by an uncorrectable codeword is resent from the replay buffer. -/
  | frameReplay (t : Nat) (port : Resend)
  /-- FAB_LANE_DEGRADED (R447): A failed lane or a high symbol error rate retrains the port on two lanes. -/
  | fabLaneDegraded (t : Nat) (port lanes : Nat)
  /-- FABRIC_MAP (R451): A write of FABRIC_MAP stages a map, with SPARE fields clamped. -/
  | fabricMap (t : Nat) (p : GdpPath) (h : ReqHead) (payload : Bytes)
  /-- REACH_SEND (R453): Every 10 µs a REACH frame with global reach and occupancy is sent to every group member. -/
  | reachSend (t : Nat) (occ : List Nat)
  /-- REACH (R453): A REACH frame from a group member is received. -/
  | reach (t : Nat) (port : Nat) (f : HFrame)
  /-- LOSS_NOTICE (R473): A LOSS_NOTICE is received and the device fences, reroutes and ends flows as Table 11.9 gives. -/
  | lossNotice (t : Nat) (port : Nat) (f : HFrame)
  /-- ADOPT (R477): An ADOPT frame names the spare that takes the lost address. -/
  | adopt (t : Nat) (port : Nat) (f : HFrame)
  /-- TRAIN_HEAD (R467): A TRAIN_HEAD frame arrives and page memory is reserved. -/
  | trainHead (t : Nat) (port : Nat) (f : HFrame)
  /-- TRAIN_PAGE (R466): A TRAIN_PAGE frame arrives carrying part of a page. -/
  | trainPage (t : Nat) (port : Nat) (f : HFrame)
  /-- TRAIN_END (R467): A TRAIN_END frame arrives; headers and CRC are checked and pages installed. -/
  | trainEnd (t : Nat) (port : Nat) (f : HFrame)
  /-- TRAIN_ACK (R466): A TRAIN_ACK frame arrives, advancing the window or reporting a status. -/
  | trainAck (t : Nat) (port : Nat) (f : HFrame)
  /-- TRAIN_TIMEOUT (R468): A train making no acknowledged progress for TRAIN_TIMEOUT notches fails. -/
  | trainTimeout (t : Nat) (flow : Nat)
  /-- SHARD_REQ (R469): A SHARD_REQ frame arrives and the source answers from its shard store. -/
  | shardReq (t : Nat) (port : Nat) (f : HFrame)
  /-- SHARD_DATA (R469): A SHARD_DATA frame arrives carrying part of a shard or STATUS 1. -/
  | shardData (t : Nat) (port : Nat) (f : HFrame)
  /-- RING_QUERY (R398): A RING_QUERY frame brings decode query rows to a ring member, which returns its partial. -/
  | ringQuery (t : Nat) (port : Nat) (f : HFrame)
  /-- RING_PARTIAL (R399): A RING_PARTIAL frame arrives, and partials are merged in ascending origin order. -/
  | ringPartial (t : Nat) (port : Nat) (f : HFrame)
  /-- FLOW_REPLY_TIMEOUT (R464): A single-frame flow's reply is missing after 20 µs, so the frame is resent. -/
  | flowReplyTimeout (t : Nat) (flow : Nat)
  /-- FAB_ECHO_MISSING (R471): ECHO_MISS_LIMIT boundaries without a partner marker make the port SILENT. -/
  | fabEchoMissing (t : Nat) (port : Nat)
  /-- LOSS_DECISION (R472): The group lead declares a member lost after LOSS_CONFIRM_BEATS, and floods LOSS_NOTICE and ADOPT. -/
  | lossDecision (t : Nat) (member : Nat)
  /-- SPARE_ADOPT (R477): A write of SPARE_ADOPT makes an idle spare adopt a lost address. -/
  | spareAdopt (t : Nat) (p : GdpPath) (h : ReqHead) (v : Nat)
  /-- STANDBY (R475): A STANDBY frame arrives at a spare and its records are kept. -/
  | standby (t : Nat) (port : Nat) (f : HFrame)
  /-- LATCH_OP (R484): A LATCH_OP frame arrives and acts on the owner's latch in the same keyway. -/
  | latchOp (t : Nat) (port : Nat) (f : HFrame)
  /-- LATCH_REPLY (R484): A LATCH_REPLY frame completes a remote latch operation at its source. -/
  | latchReply (t : Nat) (port : Nat) (f : HFrame)
  /-- LATCH_SIGNAL (R482): SIGNAL adds v to COUNT, saturating, and releases waiters whose targets are met. -/
  | latchSignal (t : Nat) (w : LatchUser) (num v : Nat)
  /-- LATCH_SET (R482): SET writes COUNT and releases waiters whose targets are met. -/
  | latchSet (t : Nat) (w : LatchUser) (num v : Nat)
  /-- LATCH_READ (R481): READ returns a latch's COUNT. -/
  | latchRead (t : Nat) (w : LatchUser) (num : Nat)
  /-- LATCH_WAIT (R482): WAIT registers a waiter, or completes at once or FULL. -/
  | latchWait (t : Nat) (w : LatchUser) (num target timeout : Nat)
  /-- LATCH_WAIT_TIMEOUT (R481): A WAIT's timeout of n notches passes before its target, so it completes TIMEOUT. -/
  | latchWaitTimeout (t : Nat) (num : Nat)
  /-- LATCH_CPL_CONS (R485): A write of LATCH_CPL_CONS reports consumed completion records and frees ring room. -/
  | latchCplCons (t : Nat) (fn v : Nat)
  /-- LATCH_COMPLETION_WRITE (R485): A waiting host completion is written to the completion ring once room exists, and LATCH_VECTOR is signalled. -/
  | latchCompletionWrite (t : Nat) (fn : Nat)
  /-- LATCH_STATUS_READ (R485): A read of LATCH_STATUS returns its status and clears DONE. -/
  | latchStatusRead (t : Nat) (fn : Nat)
  /-- LATCH_QUERY (R488): A write of LATCH_QUERY selects the latch that LATCH_INFO returns. -/
  | latchQuery (t : Nat) (p : GdpPath) (h : ReqHead) (v : Nat)
  /-- FLR (R493): A Function Level Reset of a keyway stops its DMA and starts its removal at once. -/
  | flr (t : Nat) (fn : Nat)
  /-- KEY_DRAIN_EXPIRY (R519): KEY_DRAIN notches after B0, the keyway's remaining transfers are dropped by tag. -/
  | keyDrainExpiry (t : Nat) (kw : Nat)
  /-- ZEROING_DONE (R502): A zeroing job ends and its pages return to the free pool. -/
  | zeroingDone (t : Nat) (kw : Nat)
  /-- KEY_INSTALL (R509): A write of KEY_INSTALL unwraps a key into a slot or rekeys it. -/
  | keyInstall (t : Nat) (p : GdpPath) (h : ReqHead) (payload : Bytes)
  /-- KEY_CLOSE (R512): A write of KEY_CLOSE puts a key slot in CLOSING at the next boundary. -/
  | keyClose (t : Nat) (p : GdpPath) (h : ReqHead) (v : Nat)
  /-- KEY_GENERATION_DESTROY (R511): A previous key generation is destroyed once none holds it or KEY_DRAIN passes. -/
  | keyGenerationDestroy (t : Nat) (slot : Nat)
  /-- MGMT_KEY_INSTALL (R523): A write of MGMT_KEY_INSTALL installs or replaces the management key, claiming a PROVISIONED device. -/
  | mgmtKeyInstall (t : Nat) (p : GdpPath) (h : ReqHead) (payload : Bytes)
  /-- LC_REQUEST (R524): A write of LC_REQUEST requests a signed life-cycle transition. -/
  | lcRequest (t : Nat) (p : GdpPath) (h : ReqHead) (payload : Bytes)
  /-- DEBUG_UNLOCK (R518): A write of DEBUG_UNLOCK opens JTAG under a signed record and extends MEAS_4. -/
  | debugUnlock (t : Nat) (p : GdpPath) (h : ReqHead) (payload : Bytes)
  /-- SPDM_GET_VERSION (R506): The Ward answers SPDM GET_VERSION. -/
  | spdmGetVersion (t : Nat) (c : SpdmConn)
  /-- SPDM_GET_CAPABILITIES (R506): The Ward answers SPDM GET_CAPABILITIES. -/
  | spdmGetCapabilities (t : Nat) (c : SpdmConn)
  /-- SPDM_NEGOTIATE_ALGORITHMS (R506): The Ward answers SPDM NEGOTIATE_ALGORITHMS with P-384 and SHA-384. -/
  | spdmNegotiateAlgorithms (t : Nat) (c : SpdmConn)
  /-- SPDM_GET_DIGESTS (R506): The Ward answers SPDM GET_DIGESTS. -/
  | spdmGetDigests (t : Nat) (c : SpdmConn)
  /-- SPDM_GET_CERTIFICATE (R506): The Ward returns its certificate chain. -/
  | spdmGetCertificate (t : Nat) (c : SpdmConn) (slot off len : Nat)
  /-- SPDM_CHALLENGE (R506): The Ward answers an SPDM CHALLENGE signed by the Alias key. -/
  | spdmChallenge (t : Nat) (c : SpdmConn) (nonce : Bytes)
  /-- SPDM_GET_MEASUREMENTS (R506): The Ward returns the measurement blocks, including the keyway window block. -/
  | spdmGetMeasurements (t : Nat) (c : SpdmConn) (which : Nat) (nonce : Bytes)
  /-- IDE_KM (R515): An IDE_KM message over DOE manages an IDE stream key. -/
  | ideKm (t : Nat) (kw stream : Nat) (k : Nat)
  /-- CONFIG_REQUEST (R608): A PCIe configuration request is answered, with Request Retry Status until HOST_READY. -/
  | configRequest (t : Nat) (fn : Nat) (write : Bool) (reg v : Nat)
  /-- PHASE_ADD (R531): A domain's current needs another phase, which is added within 2 µs. -/
  | phaseAdd (t : Nat) (k : Nat)
  /-- PHASE_DROP (R531): A phase whose need has been absent for 100 µs is dropped. -/
  | phaseDrop (t : Nat) (k : Nat)
  /-- AVS_SLACK_REPORT (R532): A critical-path monitor reports slack, and low slack raises the die's VCORE setpoint by 5 mV. -/
  | avsSlackReport (t : Nat) (die mon : Nat) (slack : Int)
  /-- RAIL_OVERVOLTAGE (R533): A rail above setpoint + 10 % for 1 µs is shut off. -/
  | railOvervoltage (t : Nat) (k : Nat)
  /-- RAIL_UNDERVOLTAGE (R533): A rail below setpoint − 10 % for 20 µs is shut off. -/
  | railUndervoltage (t : Nat) (k : Nat)
  /-- RAIL_OVERCURRENT (R533): A domain above its overcurrent limit for 10 µs is shut off. -/
  | railOvercurrent (t : Nat) (k : Nat)
  /-- IMON_MONITOR_FAULT (R533): An IMON outside its window for 10 µs counts the domain at its limit. -/
  | imonMonitorFault (t : Nat) (k : Nat)
  /-- PACKAGE_POWER_SAMPLE (R534): Every 10 µs package power is computed, and the guard asserts or ends a stall. -/
  | packagePowerSample (t : Nat) (mv : List Nat) (imon : List Int)
  /-- SENSE_READING (R542): A converter finishes averaging a channel and publishes its reading. -/
  | senseReading (t : Nat) (chan conv raw : Nat)
  /-- MEM_TEMP_READING (R553): A memory stack's sensor reading is taken over its interface. -/
  | memTempReading (t : Nat) (stack : Nat) (temp : Int)
  /-- XCHK (R547): Every 1 ms both converters convert XREF and the cross-check is judged. -/
  | xchk (t : Nat) (a b : Int)
  /-- SYSCAL_ZERO (R550): SYSCAL_CMD 1 captures the zero of the selected channel. -/
  | syscalZero (t : Nat) (p : GdpPath) (h : ReqHead)
  /-- SYSCAL_FULL_SCALE (R550): SYSCAL_CMD 2 captures the full scale and computes OFFSET and GAIN. -/
  | syscalFullScale (t : Nat) (p : GdpPath) (h : ReqHead)
  /-- SYSCAL_APPLY (R550): SYSCAL_CMD 3 applies and persists the computed coefficients. -/
  | syscalApply (t : Nat) (p : GdpPath) (h : ReqHead)
  /-- SYSCAL_DISCARD (R550): SYSCAL_CMD 4 discards the computed coefficients. -/
  | syscalDiscard (t : Nat) (p : GdpPath) (h : ReqHead)
  /-- SYSCAL_CAPTURE_DONE (R550): A 256-sample system-calibration capture ends. -/
  | syscalCaptureDone (t : Nat) (v : Int)
  /-- SYSCAL_TIMEOUT (R552): No apply or discard within 60 s of step 1 discards the procedure. -/
  | syscalTimeout (t : Nat)
  /-- SYSCAL_CHAN (R552): A write of SYSCAL_CHAN selects the channel and discards any procedure in progress. -/
  | syscalChan (t : Nat) (p : GdpPath) (h : ReqHead) (v : Nat)
  /-- THERM_TRIP (R558): A trip comparator or stack over-temperature output fires, THERM_TRIP_N goes low and the PWM outputs go to mid. -/
  | thermTrip (t : Nat) (src : Nat)
  /-- RESIDUE_QUARANTINE_END (R569): After RESIDUE_QUARANTINE beats, an isolated unit's known-answer test is due. -/
  | residueQuarantineEnd (t : Nat) (unit : UnitId)
  /-- KAT_DONE (R569): A known-answer test ends and the unit returns to ONLINE or is FAULTED. -/
  | katDone (t : Nat) (unit : UnitId) (pass : Bool)
  /-- EVENT_RECORD_WRITE (R576): A queued event is written to the flash ring, VALID last. -/
  | eventRecordWrite (t : Nat)
  /-- EVT_IRQ_GAP_END (R583): The 16-notch suppression gap of EVT_VECTOR ends and a held signal is sent. -/
  | evtIrqGapEnd (t : Nat) (fn : Nat)
  /-- RATE_TOKEN_SUMMARY (R579): A rate-limit token arrives with a suppressed count, and a SUMMARY record is written. -/
  | rateTokenSummary (t : Nat) (code kw : Nat)
  /-- EVT_HEARTBEAT (R582): Every EVT_HEARTBEAT ms a heartbeat datagram with EVT_NEWEST_SEQ is sent. -/
  | evtHeartbeat (t : Nat)
  /-- EVT_ACK (R584): A write of EVT_ACK acknowledges critical records up to a SEQ. -/
  | evtAck (t : Nat) (p : GdpPath) (h : ReqHead) (v : Nat)
  /-- EVT_QUERY (R597): A write of EVT_QUERY selects the SEQ from which EVT_WINDOW reads. -/
  | evtQuery (t : Nat) (p : GdpPath) (h : ReqHead) (v : Nat)
  /-- OP_HOUR_PERSIST (R577): At each whole hour, the operating time count is persisted. -/
  | opHourPersist (t : Nat)
  /-- WARD_WDT_RESTART (R585): The Ward restarts its watchdog counter. -/
  | wardWdtRestart (t : Nat)
  /-- WARD_WDT_EXPIRY (R585): The watchdog expires, drives ALERT_N low and resets the Ward. -/
  | wardWdtExpiry (t : Nat)
  /-- MBIST_QUERY (R597): A write of MBIST_QUERY selects the entry from which MBIST_WINDOW reads. -/
  | mbistQuery (t : Nat) (p : GdpPath) (h : ReqHead) (v : Nat)
  /-- BIST_AUTH (R592): A write of BIST_AUTH grants BIST and repair authority until reset. -/
  | bistAuth (t : Nat) (p : GdpPath) (h : ReqHead) (payload : Bytes)
  /-- LBIST_RUN (R593): A write of LBIST_RUN isolates a unit and starts logic BIST. -/
  | lbistRun (t : Nat) (p : GdpPath) (h : ReqHead) (v : Nat)
  /-- LBIST_DONE (R593): Logic BIST ends and writes BIST_RESULT as pass or fail. -/
  | lbistDone (t : Nat) (first : Option Nat) (misr : Nat)
  /-- ARRAY_TEST_RUN (R594): A write of ARRAY_TEST_RUN programs and reads back an engine's tiers. -/
  | arrayTestRun (t : Nat) (p : GdpPath) (h : ReqHead) (v : Nat)
  /-- ARRAY_TEST_DONE (R594): The array test ends with failures remapped. -/
  | arrayTestDone (t : Nat) (bad : List (Nat × Nat × Nat)) (pass : Bool)
  /-- POR_N_RISE (R599): POR_N rises and the start controller brings VAUX up. -/
  | porNRise (t : Nat)
  /-- POR_N_FALL (R600): POR_N falls, cold-resetting the device with PWM outputs to mid. -/
  | porNFall (t : Nat)
  /-- RAIL_STEP_DONE (R601): A power-up step's domains reach static tolerance and the next step starts. -/
  | railStepDone (t : Nat) (trips : List Nat) (fails : List BistFail) (ms : Nat)
  /-- RAIL_START_TIMEOUT (R602): A domain not in tolerance 5 ms after its ramp began is handled as a rail fault. -/
  | railStartTimeout (t : Nat) (k : Nat)
  /-- WARD_IMAGE_START (R504): The WARD image runs, loads settings, generates its key exchange pair and starts the rails. -/
  | wardImageStart (t : Nat)
  /-- FIRMWARE_START (R612): HASP and STEW images are verified, measured and started. -/
  | firmwareStart (t : Nat)
  /-- POWER_DOWN_STEP (R603): A power-down step ends when its domains fall below 10 % or after 2 ms, and the next begins. -/
  | powerDownStep (t : Nat)
  /-- WARM_RESET (R604): DEV_POWER_CMD 1 ends requests, saves state and restarts from the Ward ROM. -/
  | warmReset (t : Nat) (p : GdpPath) (h : ReqHead)
  /-- ORDERLY_POWER_DOWN (R604): DEV_POWER_CMD 2 saves state and deferred trims and stops with VAUX up. -/
  | orderlyPowerDown (t : Nat) (p : GdpPath) (h : ReqHead)
  /-- PERST_ASSERT (R607): PERST# low resets the PCIe interface and removes every keyway. -/
  | perstAssert (t : Nat)
  /-- PERST_DEASSERT (R607): PERST# high lets the link train and enabled keyways reopen. -/
  | perstDeassert (t : Nat)
  /-- FW_COMMIT (R616): A write of FW_COMMIT starts checking and writing a staged image to its inactive bank. -/
  | fwCommit (t : Nat) (p : GdpPath) (h : ReqHead) (v : Nat)
  /-- FW_COMMIT_DONE (R616): The commit ends with the bank PENDING, or is rejected. -/
  | fwCommitDone (t : Nat)
  /-- FW_BANK_SELECT (R616): A write of FW_BANK_SELECT makes the non-active VALID bank of a kind PENDING. -/
  | fwBankSelect (t : Nat) (p : GdpPath) (h : ReqHead) (v : Nat)
  /-- LINK_TRAINING_FAILED (R629): A link-training attempt of a Hinge port ends without the link coming up. -/
  | linkTrainingFailed (t : Nat) (port : Nat)
  /-- V3P3_SB_LOSS (R606): The standby supply V3P3_SB is lost, cold-resetting the device as at power loss. -/
  | v3p3SbLoss (t : Nat)
  /-- LC_ERASURES_DONE (R525): The Ward completes the erasures of an accepted life-cycle transition, raises LC_TRANSITION and resets the device. -/
  | lcErasuresDone (t : Nat)
  deriving DecidableEq, Repr

end Sys2Proof
end

