-- ==== Sys2Proof/Machine/Float.lean ====
section
/-! DEFINITION. Machine/Float.lean: IEEE 754 arithmetic on bit patterns (spec/04 R137, R147; spec/06 R239): values are
taken apart into a sign, a mantissa and a power of two, computed exactly, and rounded once, to nearest, ties to even. -/
namespace Sys2Proof.Machine
open Sys2Proof

/-- `n / 2^k` rounded to nearest, ties to even. -/
def shiftRne (n k : Nat) : Nat :=
  let q := n >>> k
  let r := n - (q <<< k)
  let h := 2 * r
  let u := 1 <<< k
  if h > u || (h == u && q % 2 == 1) then q + 1 else q

/-- `n / d` rounded to nearest, ties to even (`d > 0`), for integers. -/
def divRne (n : Int) (d : Nat) : Int :=
  let q := n / (d : Int)
  let r := n - q * (d : Int)
  if 2 * r > d || (2 * r == d && q % 2 == 1) then q + 1 else q

/-- A binary format of IEEE 754: fraction bits and exponent bits. -/
structure FmtSpec where
  mb : Nat
  eb : Nat
  deriving DecidableEq, Repr

/-- binary32. -/
def fp32 : FmtSpec := ⟨23, 8⟩
/-- binary16. -/
def fp16 : FmtSpec := ⟨10, 5⟩
/-- bfloat16. -/
def bf16 : FmtSpec := ⟨7, 8⟩

/-- Exponent bias. -/
def FmtSpec.bias (f : FmtSpec) : Nat := 2 ^ (f.eb - 1) - 1
/-- The bit pattern of +infinity. -/
def FmtSpec.inf (f : FmtSpec) : Nat := (2 ^ f.eb - 1) * 2 ^ f.mb
/-- The canonical quiet NaN (R147). -/
def FmtSpec.nan (f : FmtSpec) : Nat := f.inf + 2 ^ (f.mb - 1)
/-- The sign bit's weight. -/
def FmtSpec.signW (f : FmtSpec) : Nat := 2 ^ (f.mb + f.eb)

/-- A value taken apart. -/
inductive Parts where
  | nan
  | inf (neg : Bool)
  | fin (neg : Bool) (m : Nat) (e : Int)
  deriving DecidableEq, Repr

/-- Take a bit pattern apart; a zero has mantissa 0. -/
def FmtSpec.parts (f : FmtSpec) (b : Nat) : Parts :=
  let neg := b / f.signW % 2 == 1
  let ex := b / 2 ^ f.mb % 2 ^ f.eb
  let fr := b % 2 ^ f.mb
  if ex == 2 ^ f.eb - 1 then (if fr == 0 then .inf neg else .nan)
  else if ex == 0 then .fin neg fr (1 - (f.bias : Int) - f.mb)
  else .fin neg (fr + 2 ^ f.mb) ((ex : Int) - f.bias - f.mb)

/-- Round `± m × 2^e` into a format: nearest, ties to even; a magnitude beyond the range is an infinity (R147). -/
def FmtSpec.round (f : FmtSpec) (neg : Bool) (m : Nat) (e : Int) : Nat :=
  let s := if neg then f.signW else 0
  if m == 0 then s else
  let top : Int := (m.log2 : Int) + e
  let qmin : Int := 1 - (f.bias : Int) - f.mb
  let q : Int := max (top - f.mb) qmin
  let sh : Int := q - e
  let mant := if sh ≤ 0 then m * 2 ^ (-sh).toNat else shiftRne m sh.toNat
  let b := (q - qmin).toNat * 2 ^ f.mb + mant
  s + min b f.inf

/-- Put parts together in a format. -/
def FmtSpec.make (f : FmtSpec) : Parts → Nat
  | .nan => f.nan
  | .inf neg => (if neg then f.signW else 0) + f.inf
  | .fin neg m e => f.round neg m e

/-- Convert between formats (R147). -/
def convert (src dst : FmtSpec) (b : Nat) : Nat := dst.make (src.parts b)

/-- The sum of two values, exact before rounding. -/
def Parts.add : Parts → Parts → Parts
  | .nan, _ => .nan
  | _, .nan => .nan
  | .inf a, .inf b => if a == b then .inf a else .nan
  | .inf a, _ => .inf a
  | _, .inf b => .inf b
  | .fin na ma ea, .fin nb mb eb =>
    let e := min ea eb
    let a : Int := (if na then -1 else 1) * (ma * 2 ^ (ea - e).toNat : Nat)
    let b : Int := (if nb then -1 else 1) * (mb * 2 ^ (eb - e).toNat : Nat)
    let t := a + b
    if t == 0 then .fin (na && nb) 0 e else .fin (t < 0) t.natAbs e

/-- The product of two values, exact before rounding. -/
def Parts.mul : Parts → Parts → Parts
  | .nan, _ => .nan
  | _, .nan => .nan
  | .inf a, .inf b => .inf (a != b)
  | .inf a, .fin nb m _ => if m == 0 then .nan else .inf (a != nb)
  | .fin na m _, .inf b => if m == 0 then .nan else .inf (na != b)
  | .fin na ma ea, .fin nb mb eb => .fin (na != nb) (ma * mb) (ea + eb)

/-- The quotient of two values to 64 bits and a sticky bit, so that one rounding to binary32 is exact rounding. -/
def Parts.div : Parts → Parts → Parts
  | .nan, _ => .nan
  | _, .nan => .nan
  | .inf _, .inf _ => .nan
  | .inf a, .fin nb _ _ => .inf (a != nb)
  | .fin na _ _, .inf b => .fin (na != b) 0 0
  | .fin na ma ea, .fin nb mb eb =>
    if mb == 0 then (if ma == 0 then .nan else .inf (na != nb))
    else
      let n := ma * 2 ^ 64
      let q := n / mb
      .fin (na != nb) (2 * q + (if n % mb == 0 then 0 else 1)) (ea - eb - 65)

/-- Parts of an FP32 value. -/
def F32.parts (a : F32) : Parts := fp32.parts a.toNat
/-- An FP32 value from parts, rounded once. -/
def F32.ofParts (p : Parts) : F32 := BitVec.ofNat 32 (fp32.make p)
/-- FP32 addition (R239). -/
def F32.add (a b : F32) : F32 := F32.ofParts ((F32.parts a).add (F32.parts b))
/-- FP32 negation. -/
def F32.neg (a : F32) : F32 := a ^^^ 0x80000000#32
/-- FP32 subtraction (R239). -/
def F32.sub (a b : F32) : F32 := F32.add a (F32.neg b)
/-- FP32 multiplication (R239). -/
def F32.mul (a b : F32) : F32 := F32.ofParts ((F32.parts a).mul (F32.parts b))
/-- FP32 division. -/
def F32.div (a b : F32) : F32 := F32.ofParts ((F32.parts a).div (F32.parts b))
/-- The magnitude. -/
def F32.abs (a : F32) : F32 := a &&& 0x7fffffff#32
/-- +0.0. -/
def F32.zero : F32 := 0#32
/-- 1.0. -/
def F32.one : F32 := 0x3f800000#32
/-- The canonical NaN (R239). -/
def F32.nan : F32 := 0x7fc00000#32

/-- Neither an infinity nor a NaN. -/
def F32.finite (a : F32) : Bool := a.toNat / 2 ^ 23 % 256 != 255

/-- An integer as FP32, rounded once. -/
def F32.ofInt (i : Int) : F32 := F32.ofParts (.fin (i < 0) i.natAbs 0)

/-- `i × 2^e` as FP32, rounded once. -/
def F32.ofScaled (i : Int) (e : Int) : F32 := F32.ofParts (.fin (i < 0) i.natAbs e)

/-- A rank that orders every value but NaN; both zeros have rank 0. -/
def F32.rank (a : F32) : Int :=
  if a.toNat / 2 ^ 31 == 1 then -((a.toNat % 2 ^ 31 : Nat) : Int) else (a.toNat : Int)

/-- `a < b` for values that are not NaN. -/
def F32.lt (a b : F32) : Bool := F32.rank a < F32.rank b
/-- `a ≤ b` for values that are not NaN. -/
def F32.le (a b : F32) : Bool := F32.rank a ≤ F32.rank b
/-- The larger of two values that are not NaN. -/
def F32.max (a b : F32) : F32 := if F32.lt a b then b else a

/-- A finite value rounded to the nearest integer, ties to even; 0 for a value that is not finite. -/
def F32.toIntRne (a : F32) : Int :=
  match F32.parts a with
  | .fin neg m e =>
    let n : Nat := if e ≥ 0 then m * 2 ^ e.toNat else shiftRne m (-e).toNat
    if neg then -(n : Int) else (n : Int)
  | _ => 0

/-- A finite value as a numerator over 2^k with its k; 0 for a value that is not finite. -/
def F32.toRatio (a : F32) : Int × Nat :=
  match F32.parts a with
  | .fin neg m e =>
    let n : Int := if neg then -(m : Int) else (m : Int)
    if e ≥ 0 then (n * 2 ^ e.toNat, 0) else (n, (-e).toNat)
  | _ => (0, 0)

/-- BF16 bits to FP32. -/
def F32.ofBf16 (b : Nat) : F32 := BitVec.ofNat 32 (convert bf16 fp32 b)
/-- FP32 to BF16 bits (R147). -/
def F32.toBf16 (a : F32) : Nat := convert fp32 bf16 a.toNat

end Sys2Proof.Machine
end

