-- ==== Sys2Proof/Machine/Formats.lean ====
section
/-! DEFINITION. Machine/Formats.lean: balanced base-15 digits, quarter-step scales, narrowing, widening and alignment
(spec/04 R134–R162). Scale codes are integers here; −128 stands for the zero-block code 0x80 (R138). -/
namespace Sys2Proof.Machine
open Sys2Proof

/-- What Table 4.1 gives a format code: element bits, data bytes per block, whether scaled. -/
structure FmtRow where
  bits   : Nat
  bytes  : Nat
  scaled : Bool
  deriving DecidableEq, Repr

/-- Table 4.1; an unknown code has no row (R135). -/
def fmtRow (code : Nat) : Option FmtRow :=
  match code with
  | 0x01 => some ⟨4, 16, true⟩
  | 0x02 => some ⟨8, 32, true⟩
  | 0x03 => some ⟨8, 32, true⟩
  | 0x04 => some ⟨16, 64, false⟩
  | 0x05 => some ⟨3, 12, true⟩
  | 0x06 => some ⟨2, 8, true⟩
  | 0x07 => some ⟨16, 64, false⟩
  | 0x08 => some ⟨32, 128, false⟩
  | 0x11 => some ⟨4, 16, true⟩
  | 0x12 => some ⟨3, 12, true⟩
  | 0x13 => some ⟨2, 8, true⟩
  | 0x14 => some ⟨8, 32, true⟩
  | _ => none

/-- A weight format (Table 4.1). -/
def isWeightFmt (code : Nat) : Bool := code == 0x11 || code == 0x12 || code == 0x13 || code == 0x14
/-- A KV format (R158). -/
def isKvFmt (code : Nat) : Bool := code == 1 || code == 2 || code == 3 || code == 4
/-- A composite format: a hi and a lo digit per element (R134). -/
def isComposite (code : Nat) : Bool := code == 0x02 || code == 0x14

/-- Width order N4 < N8c < INT8 < BF16 (R160). -/
def kvWidth (code : Nat) : Nat := code

/-- Slice plan legal for a weight format (R136): 1, 2 and 4 stand for S1, S2, S4. -/
def planLegal (fmt plan : Nat) : Bool :=
  match fmt with
  | 0x11 => plan == 1 || plan == 2
  | 0x12 => plan == 1
  | 0x13 => plan == 1
  | 0x14 => plan == 4
  | _ => false

/-- The largest magnitude dmax of a scaled format (R150). -/
def dmax (code : Nat) : Nat :=
  match code with
  | 0x01 => 7 | 0x11 => 7
  | 0x05 => 3 | 0x12 => 3
  | 0x06 => 1 | 0x13 => 1
  | 0x02 => 112 | 0x14 => 112
  | _ => 127

/-- F[f] of Table 4.2. -/
def qF (f : Nat) : F32 :=
  match f with
  | 0 => 0x3F800000#32 | 1 => 0x3F9837F0#32 | 2 => 0x3FB504F3#32 | _ => 0x3FD744FD#32

/-- G[f] of Table 4.2. -/
def qG (f : Nat) : F32 :=
  match f with
  | 0 => 0x3F800000#32 | 1 => 0x3F5744FD#32 | 2 => 0x3F3504F3#32 | _ => 0x3F1837F0#32

/-- 2^k as FP32. -/
def pow2F (k : Int) : F32 := F32.ofScaled 1 k

/-- q(c) (R139). -/
def qls (c : Int) : F32 := F32.mul (qF (c % 4).toNat) (pow2F (c / 4))

/-- `x` divided by the scale of code `c` (R140): two FP32 products, in the order written. -/
def qlsDiv (x : F32) (c : Int) : F32 := F32.mul (F32.mul x (qG (c % 4).toNat)) (pow2F (-(c / 4)))

/-- The scale code that a byte holds (R138): −128 is the zero block. -/
def scaleOf (b : Nat) : Int := signed 8 b

/-- The value of an element of a scaled block (R138, R139). -/
def elemValue (d : Int) (c : Int) : F32 :=
  if c == -128 then F32.zero else F32.mul (F32.ofInt d) (qls c)

/-- Clamp an integer. -/
def clampInt (lo hi x : Int) : Int := max lo (min hi x)

/-- hi digit of a composite integer (R150). -/
def hiDigit (d : Int) : Int := (d + 7) / 15
/-- lo digit of a composite integer (R150). -/
def loDigit (d : Int) : Int := d - 15 * hiDigit d

/-- One element's code in its format (Table 4.4). -/
def encodeElem (fmt : Nat) (d : Int) : Nat :=
  match fmt with
  | 0x01 => unsigned 4 d | 0x11 => unsigned 4 d
  | 0x05 => unsigned 3 d | 0x12 => unsigned 3 d
  | 0x06 => unsigned 2 d | 0x13 => unsigned 2 d
  | 0x02 => unsigned 4 (hiDigit d) * 16 + unsigned 4 (loDigit d)
  | 0x14 => unsigned 4 (hiDigit d) * 16 + unsigned 4 (loDigit d)
  | _ => unsigned 8 d

/-- The integer an element's code spells; none where Table 4.4 marks the code invalid. -/
def decodeElem (fmt : Nat) (v : Nat) : Option Int :=
  match fmt with
  | 0x01 => if v == 8 then none else some (signed 4 v)
  | 0x11 => if v == 8 then none else some (signed 4 v)
  | 0x05 => if v == 4 then none else some (signed 3 v)
  | 0x12 => if v == 4 then none else some (signed 3 v)
  | 0x06 => if v == 2 then none else some (signed 2 v)
  | 0x13 => if v == 2 then none else some (signed 2 v)
  | 0x02 => if v / 16 == 8 || v % 16 == 8 then none else some (15 * signed 4 (v / 16) + signed 4 (v % 16))
  | 0x14 => if v / 16 == 8 || v % 16 == 8 then none else some (15 * signed 4 (v / 16) + signed 4 (v % 16))
  | _ => some (signed 8 v)

/-- `n` fields of `w` bits of a number, lowest first (R142). -/
def fieldsOf : Nat → Nat → Nat → List Nat
  | 0, _, _ => []
  | n + 1, w, v => v % 2 ^ w :: fieldsOf n w (v / 2 ^ w)

/-- Fields of `w` bits joined, lowest first. -/
def joinFields (w : Nat) : List Nat → Nat
  | [] => 0
  | x :: r => x + 2 ^ w * joinFields w r

/-- The data bytes of a block of 32 integers (R142). -/
def encodeBlock (fmt : Nat) (d : List Int) : Bytes :=
  match fmtRow fmt with
  | some r => leBytes r.bytes (joinFields r.bits (d.map (encodeElem fmt)))
  | none => []

/-- The 32 element codes of a block's data bytes (R142). -/
def blockCodes (fmt : Nat) (data : Bytes) : List Nat :=
  match fmtRow fmt with
  | some r => fieldsOf 32 r.bits (leNat data)
  | none => []

/-- A well-formed block's integers (R143, R144): `used` elements count, the rest are padding and read 0; none when malformed. -/
def decodeBlock (fmt : Nat) (used : Nat) (data : Bytes) (c : Int) : Option (List Int) :=
  if c == -128 then some (List.replicate 32 0) else
  let cs := (blockCodes fmt data).take used
  let ds := cs.map (decodeElem fmt)
  if ds.any Option.isNone then none
  else some (ds.map (fun o => o.getD 0) ++ List.replicate (32 - used) 0)

/-- The FP32 values of a wide block (BF16, FP16, FP32); padding reads 0. -/
def decodeWide (fmt : Nat) (used : Nat) (data : Bytes) : List F32 :=
  let cs := (blockCodes fmt data).take used
  let f (v : Nat) : F32 :=
    match fmt with
    | 0x04 => BitVec.ofNat 32 (convert bf16 fp32 v)
    | 0x07 => BitVec.ofNat 32 (convert fp16 fp32 v)
    | _ => BitVec.ofNat 32 v
  cs.map f ++ List.replicate (32 - used) 0

/-- Data bytes of a wide block from FP32 values (R147). -/
def encodeWide (fmt : Nat) (x : List F32) : Bytes :=
  match fmtRow fmt with
  | some r =>
    let f (a : F32) : Nat :=
      match fmt with
      | 0x04 => convert fp32 bf16 a.toNat
      | 0x07 => convert fp32 fp16 a.toNat
      | _ => a.toNat
    leBytes r.bytes (joinFields r.bits (x.map f))
  | none => []

/-- What a narrowing uses of the format objects (R148) and of its place. -/
structure NarrowCfg where
  fmt      : Nat
  edge     : Bool := false
  outliers : Bool := false
  thresh   : Int := 16
  maxOut   : Nat := 2
  octaves  : Bool := false
  deriving DecidableEq, Repr

/-- A narrowed block: scale code (−128 for a zero block), integers, outlier entries (index, BF16), whether the scale was clamped. -/
structure Narrowed where
  code    : Int
  d       : List Int
  outs    : List (Nat × Nat)
  clamped : Bool
  deriving DecidableEq, Repr

/-- The place of the largest magnitude among candidates, the lowest place at equal magnitudes (R150). -/
def largestAt : List (Nat × F32) → Option (Nat × F32)
  | [] => none
  | p :: r =>
    match largestAt r with
    | none => some p
    | some b => if F32.lt p.2 b.2 then some b else some p

/-- Up to `n` candidates, the largest first (R150). -/
def pickOutliers : Nat → List (Nat × F32) → List Nat
  | 0, _ => []
  | n + 1, l =>
    match largestAt l with
    | none => []
    | some p => p.1 :: pickOutliers n (l.filter (fun q => q.1 != p.1))

/-- The outlier places of a block (R150, R151), in ascending order. -/
def outlierPlaces (k : NarrowCfg) (x : List F32) (digital : List Bool) : List Nat :=
  if k.edge && k.outliers && k.maxOut > 0 then
    let ab := x.map F32.abs
    let s := ab.foldl F32.add F32.zero
    let t := qls k.thresh
    let cand := (ab.zip digital).zipIdx.filter (fun p =>
      let r := F32.div (F32.sub s p.1.1) (F32.ofInt 31)
      p.1.2 && F32.lt F32.zero r && F32.lt (F32.mul r t) p.1.1)
    let picked := pickOutliers k.maxOut (cand.map (fun p => (p.2, p.1.1)))
    (List.range 32).filter (fun i => picked.contains i)
  else []

/-- The scale codes a narrowing may choose, in ascending order (R150, R162). -/
def scaleCodes (octaves : Bool) : List Int :=
  if octaves then (List.range 63).map (fun i : Nat => (i : Int) * 4 - 124)
  else (List.range 255).map (fun i : Nat => (i : Int) - 127)

/-- Narrow one block of 32 FP32 values (R150); none when an element is not finite (R149). -/
def narrow (k : NarrowCfg) (x : List F32) (digital : List Bool) : Option Narrowed :=
  if x.any (fun a => !F32.finite a) then none else
  let outs := outlierPlaces k x digital
  let rest := x.zipIdx.map (fun p => if outs.contains p.2 then F32.zero else p.1)
  let m := (rest.map F32.abs).foldl F32.max F32.zero
  let oe := outs.map (fun i => (i, F32.toBf16 (x.getD i F32.zero)))
  if F32.rank m == 0 then some ⟨-128, List.replicate 32 0, oe, false⟩ else
  let top := F32.ofInt (dmax k.fmt)
  let found := (scaleCodes k.octaves).find? (fun c => F32.le m (F32.mul top (qls c)))
  let code := found.getD (if k.octaves then 124 else 127)
  let lim : Int := dmax k.fmt
  let d := rest.map (fun a => clampInt (-lim) lim (F32.toIntRne (qlsDiv a code)))
  some ⟨code, d, oe, found.isNone⟩

/-- The outlier entries of a block as 32-bit words (Table 4.5, R145). -/
def outlierPlane (outs : List (Nat × Nat)) : Bytes :=
  padTo 32 ((outs.take 8).flatMap (fun p => leBytes 4 (p.2 * 65536 + 32768 + p.1)))

/-- The group code of an alignment group (R154): the largest code of the blocks that are not zero blocks. -/
def groupCode (g : List DBlock) : Option Int :=
  g.foldl (fun a b => if b.code == -128 then a else
    match a with
    | none => some b.code
    | some m => some (max m b.code)) none

/-- One block re-rounded to the group code (R155). -/
def alignBlock (cg : Int) (b : DBlock) : List Int :=
  if b.code == -128 then b.d.map (fun _ => 0)
  else b.d.map (fun x => F32.toIntRne (qlsDiv (F32.ofInt x) (cg - b.code)))

/-- A group aligned: its code (−128 when every block is a zero block) and its digits, block by block (R154, R155). -/
def alignGroup (g : List DBlock) : Int × List (List Int) :=
  match groupCode g with
  | none => (-128, g.map (fun b => b.d.map (fun _ => 0)))
  | some cg => (cg, g.map (alignBlock cg))

/-- Non-zero digits that alignment turns into 0 (R156). -/
def alignZeroed (g : List DBlock) : Nat :=
  let a := (alignGroup g).2
  ((g.zip a).map (fun p =>
    if p.1.code == -128 then 0
    else ((p.1.d.zip p.2).filter (fun q => q.1 != 0 && q.2 == 0)).length)).foldl (· + ·) 0

/-! ### Sums in a fixed order (spec/06 R251) -/

/-- One level of the binary tree of R251. -/
def pairAdd : List F32 → List F32
  | a :: b :: r => F32.add a b :: pairAdd r
  | l => l

/-- Sum of a list in ascending order. -/
def sumAsc : List F32 → F32
  | [] => F32.zero
  | a :: r => r.foldl F32.add a

/-- A sum in the fixed order of the vector unit (spec/06 R251): 64 lanes, element i in lane i mod 64, then the binary tree (log 28). -/
def laneSum (x : List F32) : F32 :=
  let lane (i : Nat) : F32 := sumAsc ((x.zipIdx.filter (fun p => p.2 % 64 == i)).map Prod.fst)
  (pairAdd (pairAdd (pairAdd (pairAdd (pairAdd (pairAdd ((List.range 64).map lane))))))).headD F32.zero

end Sys2Proof.Machine
end

