-- ==== Sys2Proof/Config.lean ====
section
/-! DEFINITION. Config.lean: what the spec leaves open or names by another document. Every constant here is opaque: nothing in
Lean can evaluate it, so a statement about it holds for every value. -/
namespace Sys2Proof

/-- The free values of the model, in the order a counter of the state draws them (log 4). -/
opaque Config.freeNat : Nat → Nat

/-- Bytes of the Ward's random number generator, one per draw (log 6). -/
opaque Config.randomByte : Nat → Byte

/-- e^x in FP32 (spec/09 R370; log 7). -/
opaque Config.expF : F32 → F32

/-- Natural logarithm in FP32 (spec/10; log 7). -/
opaque Config.lnF : F32 → F32

/-- AES-256-GCM opening: key, nonce, additional data, ciphertext with tag; none when authentication fails (log 8). -/
opaque Config.gcmOpen : Bytes → Bytes → Bytes → Bytes → Option Bytes

/-- AES-256-GCM sealing: key, nonce, additional data, plaintext; ciphertext and tag (log 8). -/
opaque Config.gcmSeal : Bytes → Bytes → Bytes → Bytes → Bytes

/-- AES-256 key unwrap under a key agreed with the device's key exchange pair of a power-up: draw of the pair, salt, the installer's public
key, the wrapped key; none when the unwrap fails (log 8). -/
opaque Config.keyUnwrap : Nat → Bytes → Bytes → Bytes → Option Bytes

/-- The public half of a key exchange pair, 97 bytes (log 8). -/
opaque Config.kexPublic : Nat → Bytes

/-- ECDSA P-384 verification: which public key, message, signature (log 8). -/
opaque Config.ecdsaOk : Nat → Bytes → Bytes → Bool

/-- ECDSA P-384 signature by the Alias key that follows from MEAS_0: MEAS_0, message, draw (log 8). -/
opaque Config.aliasSign : Bytes → Bytes → Nat → Bytes

/-- The certificate chain of the Alias key that follows from MEAS_0, as certified at a boot (spec/12 R505; log 8). -/
opaque Config.certChain : Bytes → Nat → Bytes

/-- The address the device gives its n-th allocation of memory, in the stacks of a die: die, n (spec/09 R355, R359; log 27). -/
opaque Config.memAddr : Nat → Nat → Nat

/-- The transfer of a diode channel's front end with its fused ideality (spec/13 R544): channel, mean code × 256; 1/16 °C (log 37). -/
opaque Config.diodeTemp : Nat → Nat → Int

/-- The VCORE setpoint in mV that a die is fused with (spec/13 R532; log 38). -/
opaque Config.vcoreFused : Nat → Nat

/-- The low and high marks of a die's critical-path monitor (spec/13 R532; log 38). -/
opaque Config.avsLow : Nat → Nat → Int
opaque Config.avsHigh : Nat → Nat → Int

/-- The expected signature of logic BIST that the Ward ROM holds: unit type, patterns (spec/14 R593; log 44). -/
opaque Config.lbistSig : Nat → Nat → Nat

/-- The PCI vendor identifier that the configuration space presents (spec/03 R87; log 9). -/
opaque Config.pciVendor : Nat

/-- Values fixed at manufacture that no command shows otherwise: which, byte (log 9). -/
opaque Config.asBuilt : Nat → Nat → Byte

end Sys2Proof
end

