-- ==== Sys2Proof/ObjNames.lean ====
section
/-! DEFINITION. ObjNames.lean: the names of the objects of the dictionary, one constructor per row of the object tables
of spec/ (Tables 0.2, 1.3, 2.8, 3.10, 3.12, 4.6, 5.18, 6.6, 7.9, 8.12, 8.13, 9.9, 10.9, 10.10, 11.16-11.18, 12.1, 12.10,
13.10-13.12, 14.13-14.15, 15.14). Index, subindex, type, access, level, default and range stand in
Machine/Catalogue.lean. -/
namespace Sys2Proof

/-- An object of the dictionary (spec/03 R107, R113). -/
inductive Obj where
  -- 00_scope.md, Table 0.2
  | PART_CODE
  | STEPPING
  | COMPUTE_DIES
  | CLUSTERS_PER_DIE
  | CORES_PER_CLUSTER
  | ENGINES_PER_CORE
  | ENGINE_ROWS
  | ENGINE_COL_PAIRS
  | ENGINE_TIERS
  | SPARE_COL_PAIRS
  | ENGINES_BUILT
  | ATTN_ENGINES
  | MEM_STACKS
  | STACK_SIZE
  | CORE_SRAM
  | CLUSTER_SRAM
  | MODEL_SLOTS
  | REQ_ENTRIES
  | LATCHES
  | KEYWAYS
  | HINGE_LOCAL_PORTS
  | HINGE_GLOBAL_PORTS
  -- 01_beat_and_notch.md, Table 1.3
  | BEAT_SOURCE
  | BEAT_LINK_PORT
  | BEAT_STATE
  | BEAT_PERIOD_EST
  | BEAT_PHASE_ERR
  | BEAT_PHASE_ERR_MAX
  | BEAT_JITTER_TOL
  | BEAT_LOCK_COUNT
  | BEAT_FREERUN_LIMIT
  | BEAT_SELF_PERIOD
  | OPEN_END
  | QUIET_START
  | BEAT_NUMBER
  | BEAT_NUMBER_SET
  | NOTCH_NOW
  | GLITCH_COUNT
  | STEP_OVERRUN_COUNT
  | LINK_BEAT_OFFSET
  -- 02_crossing_hierarchies.md, Table 2.8
  | CLUSTERS_ONLINE
  | QUAD_GATE_REQ
  | QUAD_GATED
  | HASP_LIVE
  | STEP_LEADER
  | SRAM_CORRECTED_COUNT
  | SRAM_UNCORR_COUNT
  | SRAM_LAST_ERR_UNIT
  | SRAM_LAST_ERR_ADDR
  | UNIT_QUERY
  | UNIT_STATE
  | CTRL_RESET_COUNT
  | CORE_SITE_MAP_n
  -- 03_object_dictionary.md, Table 3.10
  | CLAMP_COUNT
  | RESP_LOG_COUNT
  | GDP_BAD_FRAMES
  | SESSIONS_OPEN
  | CLAMP_NEXT
  | RESP_NEXT
  | CLAMP_REC_n
  | RESP_REC_n
  -- 03_object_dictionary.md, Table 3.12
  | FUNC_ENABLE
  | FUNC_STATE
  | FUNC_LATCHED
  | FUNC_OPEN_LIMIT
  | FUNC_CLOSE_LIMIT
  | FUNC_FAIL_CAUSE
  -- 04_number_formats.md, Table 4.6
  | ACT_FORMAT
  | OUTLIER_ENABLE
  | OUTLIER_THRESH
  | OUTLIER_MAX_BLOCK
  | SCALE_MODE
  | KV_FORMAT_DEFAULT
  | FMT_NONFINITE_COUNT
  | FMT_BAD_BLOCK_COUNT
  | FMT_SCALE_CLAMP_COUNT
  | OUTLIERS_SELECTED
  | ALIGN_DIGITS_ZEROED
  -- 05_analogue_engine.md, Table 5.18
  | ENGINES_AVAILABLE
  | ENGINES_RETIRED
  | TIERS_GOOD
  | TIERS_SUSPECT
  | TIERS_WORN
  | TIERS_RETIRED
  | SPARES_USED
  | COUNT_GAIN_DEFAULT
  | SAT_RETRY
  | RANGE_MARGIN
  | RANGE_FAIL_LIMIT
  | SPARES_LOW_MARK
  | PASS_COUNT
  | SAT_RETRY_COUNT
  | SAT_COUNT
  | RANGE_FAIL_COUNT
  | ENG_QUERY
  | ENG_INFO
  | REMAP_TABLE
  | ENG_RETIRE_REQ
  | PASS_E_FIXED
  | PASS_E_ROW
  | PASS_E_TIER
  -- 06_keeper_and_join.md, Table 6.6
  | JOIN_MODE_DEFAULT
  | EXACT_FRAC_DEFAULT
  | OUTLIER_LOAD_BUDGET
  | OUTLIER_DERATE_COUNT
  | OUTLIER_DERATE_NS
  | SAT_REPAIR_COUNT
  | SPLIT_RECOMPUTE_COUNT
  | DIGITAL_REPAIR_COUNT
  | REPAIR_FAIL_COUNT
  | CHUNK_OVF_COUNT
  | EXACT_INEXACT_COUNT
  | NONFINITE_LOGIT_COUNT
  | AUDIT_ENABLE
  | AUDIT_TILES
  | AUDIT_TOL_TICKS
  | AUDIT_TOL_GAIN
  | AUDIT_COUNT
  | AUDIT_FAIL_COUNT
  | AUDIT_SKIPPED
  | AUDIT_EXPORT
  | RESID_TABLE
  | ADAPTERS_MAX
  | ADAPTER_TABLE
  -- 07_calibration.md, Table 7.9
  | CAL_DUE_COUNT
  | CAL_RUNS_DONE
  | CAL_RUNS_DISCARDED
  | CAL_COLUMNS_REJECTED
  | CAL_OVERRUN_COUNT
  | CAL_SKIPPED_BEATS
  | CAL_DT_WORST
  | CAL_REF_DEV_d
  | CAL_DIES_HALTED
  | CAL_ENGINES_PER_CORE
  | CAL_REPEATS
  | CAL_POWERUP_RUN
  | CAL_DT_THRESH
  | CAL_DT_ALARM
  | CAL_MAX_AGE
  | CAL_GAIN_LIMIT
  | CAL_OFFSET_LIMIT
  | CAL_LIN_LIMIT
  | CAL_STEP_LIMIT
  | CAL_COL_FAIL_MAX
  | CAL_RAMP_FAIL_PCT
  | CAL_REF_TOL
  | CAL_NV_INTERVAL
  | CAL_SENSE_PERIOD
  | CAL_INFO
  | TRIM_TABLE
  | CAL_RUN_REQ
  -- 08_model_weights.md, Table 8.12
  | SLOTS_SERVING
  | ENGINES_IDLE
  | TIERS_FREE
  | SHARD_RETRY_MAX
  | SHARD_TIMEOUT
  | SHARD_INFLIGHT
  | PROG_POWER_MAX
  | PROG_MAX_STEPS
  | SCRUB_INTERVAL
  | SCRUB_TIERS_PER_CORE
  | PROG_W_TIER
  | PROG_TIERS_COUNT
  | SCRUB_TIERS_COUNT
  | SCRUB_MISMATCH_COUNT
  | SCRUB_OVERDUE
  | REQ_RING_ADDR
  | REQ_RING_LEN
  | REQ_RING_VECTOR
  | IMAGE_REBUILD_COUNT
  | ADAPTER_LOAD
  -- 08_model_weights.md, Table 8.13
  | SLOT_STATE
  | SLOT_CMD
  | SLOT_CMD_RESULT
  | LOAD_FAIL_CODE
  | SLOT_MANIFEST
  | SLOT_OWNER
  | SLOT_SHARE
  | SLOT_SOURCE
  | SWAP_MODE
  | SWAP_STATE
  | MODEL_ID
  | CURRENT_VERSION
  | PENDING_VERSION
  | OLD_VERSION
  | MANIFEST_DIGEST
  | SHARDS_PENDING
  | SHARD_RETRIES
  | TILES_PLACED
  | TILES_DIGITAL
  | PLACE_QUERY
  | PLACE_WINDOW
  -- 09_attention_and_kv.md, Table 9.9
  | KV_PAGE_TOKENS_DEFAULT
  | PREFIX_ENABLE
  | PREFIX_MAX_PCT
  | KV_BYTES_USED
  | KV_PAGES_USED
  | SEQS_ACTIVE
  | PREFIX_LOOKUP_TOKENS
  | PREFIX_HIT_TOKENS
  | PREFIX_EVICTIONS
  | COW_COPIES
  | REFCOUNT_SATURATED
  | FREES_DEFERRED
  | EPOCH_OLDEST
  | KV_WALK_FAULTS
  | RING_ROUND_TIMEOUT
  | RING_SEQS
  | SEQ_QUERY
  | SEQ_INFO
  | KV_NO_PAGE_COUNT
  | ATTN_MAP
  | ATTN_MAP_VERSIONS
  -- 10_serving.md, Table 10.9
  | ROLE
  | SUBMIT_RING_ADDR
  | SUBMIT_RING_LEN
  | CONS_TABLE_ADDR
  | TOKEN_VECTOR
  | TOKEN_IRQ_GAP
  | STEP_FILL_PCT
  | PREFILL_CHUNK_MAX
  | ADMIT_MAX_PER_BEAT
  | ADMIT_TIMEOUT
  | STEP_RETRY_MAX
  | SPEC_REJECT_LIMIT
  | SPEC_REARM_BEATS
  | HANDOFF_TIMEOUT
  | RING_STALL_LIMIT
  | KV_WAIT_LIMIT
  | REQS_ACTIVE
  | REQS_QUEUED
  | TOKENS_DELIVERED
  | TOKENS_LATE
  | STEPS_FAULTED
  | REQS_FAILED
  | RING_STALLS
  | ENERGY_HELD_STEPS
  | SPEC_PROPOSED
  | SPEC_ACCEPTED
  | HANDOFF_ORPHANS
  | REQ_QUERY
  | REQ_INFO
  | REQ_CANCEL
  | REQ_REARM
  | HIST_QUERY
  | HIST_WINDOW
  | HIST_CLEAR
  -- 10_serving.md, Table 10.10
  | TTFT_BUDGET
  | TOKEN_BUDGET
  | LATE_POLICY
  | LATE_LIMIT
  | CLASS_TOKENS
  | CLASS_TOKENS_LATE
  -- 11_hinge_fabric.md, Table 11.16
  | FABRIC_ADDR
  | LOGICAL_ADDR
  | FABRIC_MAP
  | MAP_EPOCH
  | MAP_APPLY_BEAT
  | NSLOT
  | OWN_SLOT
  | JOB_TABLE
  | ROUTE_MODE
  | ADAPT_THRESH
  | SPARE_AUTO
  | REPLAY_KEYWAYS
  | STANDBY_MAX
  | ECHO_MISS_LIMIT
  | LOSS_CONFIRM_BEATS
  | TRAIN_WINDOW
  | TRAIN_TIMEOUT
  | FAB_SHARD_STORE
  | SPARE_ADOPT
  | FAB_ROLE_STATE
  | LINK_AUTH_FAIL
  | FRAMES_NONMIN
  | FRAMES_DISCARDED
  | LAST_LOST
  | REPLAYS_DONE
  | REPLAYS_FAILED
  | STANDBY_BYTES
  -- 11_hinge_fabric.md, Table 11.17
  | PORT_MEDIA
  | PORT_LINK
  | PARTNER_ADDR
  | PARTNER_LOGICAL
  | LINK_DELAY
  | LANES_UP
  | FEC_CORRECTED
  | FEC_UNCORR
  | LINK_RETRIES
  | ECHO_MISSES
  | TX_BYTES
  | RX_BYTES
  -- 11_hinge_fabric.md, Table 11.18
  | LATCHES_IN_VIEW
  | LATCH_QUERY
  | LATCH_INFO
  | LATCH_CPL_ADDR
  | LATCH_CPL_LOG2
  | LATCH_VECTOR
  | LATCH_OPS
  | LATCH_TIMEOUTS
  | LATCH_DENIED
  -- 12_keyways_and_trust.md, Table 12.1
  | KW_EXPERT_ALLOWED
  | KW_CONFIDENTIAL
  | QUOTA_CORE_FIRST
  | QUOTA_CORE_COUNT
  | QUOTA_MEM_PAGES
  | QUOTA_REQ
  | QUOTA_RINGS
  | QUOTA_LATCH_FIRST
  | QUOTA_LATCH_COUNT
  | ENERGY_SHARE
  | DMA_KEY_SLOT
  | LINK_KEY_SLOT
  | IDE_STREAM
  | KW_MEM_USED
  -- 12_keyways_and_trust.md, Table 12.10
  | LC_STATE
  | LC_RETURNS
  | LC_NONCE
  | LC_REQUEST
  | JTAG_STATE
  | DEBUG_UNLOCK
  | MGMT_KEY_INSTALL
  | MGMT_MAC
  | MGMT_IPV4
  | MGMT_IPV4_PREFIX
  | MGMT_IPV4_GW
  | MGMT_IPV6
  | MGMT_IPV6_PREFIX
  | KEX_ID
  | KEX_PUBLIC
  | KEY_INSTALL
  | KEY_CLOSE
  | KEY_QUERY
  | KEY_INFO
  | KEY_DRAIN
  | MEAS_REG
  | KEYWAYS_CONFIDENTIAL
  | SEALED_AUTH_FAIL
  | VFS_ENABLED
  -- 13_power_heat_sense.md, Table 13.10
  | SENSE_READINGS
  | SENSE_STATE
  | SENSE_AVG_LOG2
  | SENSE_SHIFT
  | XCHK_TOL
  | XCHK_DIFF
  | XCHK_FAIL_COUNT
  | SENSE_LATE_COUNT
  | SYSCAL_CHAN
  | SYSCAL_CMD
  | SYSCAL_FS_VALUE
  | SYSCAL_STATUS
  | SYSCAL_COEF
  | TH_PULLUP
  | TH_NOMINAL
  | TH_BETA
  | VIN_RATIO
  -- 13_power_heat_sense.md, Table 13.11
  | THERM_ONSET
  | THERM_EMERG
  | MEM_ONSET
  | MEM_EMERG
  | TH_LIMIT
  | THERM_HYST
  | DETENT
  | THROTTLE_STEP
  | PACE_STATE
  | TJ_MAX_SEEN
  | HOTTEST_SOURCE
  | MEM_TEMPS
  | THROTTLE_BEATS
  | EMERG_COUNT
  | TRIP_TEMP
  -- 13_power_heat_sense.md, Table 13.12
  | PWR_LIMIT
  | PWR_FLOOR
  | BOOT_POWER_MAX
  | PWR_NOW
  | P_THR
  | ENERGY_BUDGET
  | ENERGY_BASE
  | ENERGY_USED_LAST
  | PWR_STALL_NS
  | PWM_FREQ
  | PHASE_SHED
  | AVS_ENABLE
  | VCORE_FIXED
  | VCORE_SET
  | IMON_SCALE
  | RAIL_INFO
  | RAIL_FAULT_COUNT
  -- 14_faults_and_records.md, Table 14.13
  | RESIDUE_MISMATCH_COUNT
  | AUDIT_AFFECTED_COUNT
  | AUDIT_AFFECTED_LIST
  | ESCALATE_TIERS
  | ESCALATE_COLS
  | RESIDUE_QUARANTINE
  | KAT_COUNT
  | WARD_WDT_RESETS
  | CPER_ENABLE
  | CPER_WARN
  | CPER_RING_ADDR
  | CPER_RING_LOG2
  | CPER_VECTOR
  | CPER_WRITTEN
  | CPER_LAST
  -- 14_faults_and_records.md, Table 14.14
  | EVT_NEWEST_SEQ
  | EVT_OLDEST_SEQ
  | EVT_QUERY
  | EVT_WINDOW
  | EVT_RATE_BURST
  | EVT_RATE_PERIOD
  | EVT_DROPPED
  | EVT_DAMAGED
  | POWER_CYCLES
  | OP_HOURS
  | EVT_SINK_ADDR
  | EVT_NOTIFY_MIN_CLASS
  | EVT_HEARTBEAT
  | EVT_VECTOR
  | CRIT_UNACK
  | EVT_ACK
  | EVT_LAST
  -- 14_faults_and_records.md, Table 14.15
  | MBIST_RESULT
  | MBIST_FAIL_COUNT
  | MBIST_QUERY
  | MBIST_WINDOW
  | MBIST_TIME
  | BIST_AUTH
  | LBIST_RUN
  | LBIST_PATTERNS
  | ARRAY_TEST_RUN
  | BIST_RESULT
  -- 15_startup_pins_electrical.md, Table 15.14
  | BOOT_STATE
  | LIMITED_CAUSE
  | HOST_READY
  | IMAGE_INFO
  | BANK_STATE
  | IF_REVS
  | FW_TARGET
  | FW_SEG_SEL
  | FW_SEG
  | FW_COMMIT
  | FW_COMMIT_RESULT
  | FW_BANK_SELECT
  | DEV_POWER_CMD
  | BOOT_TIMES
  | RESET_CAUSE
  | HOST_RESETS
  deriving DecidableEq, Repr

/-- A cell of the dictionary: the object, the instance (slot, class, port, window, template position; 0 otherwise)
and the keyway whose instance it is (0 for the physical function; spec/03 R128). -/
structure OKey where
  obj  : Obj
  inst : Nat
  kw   : Nat
  deriving DecidableEq, Repr

/-- The value of an object: a scalar held as the unsigned number its bits spell (a signed object in two's complement of
its own size, an F32 as its bit pattern), or the bytes of a BLOB. -/
inductive OVal where
  | num (n : Nat)
  | blob (b : Bytes)
  deriving DecidableEq, Repr

end Sys2Proof
end

