-- ==== Sys2Proof/Machine/Catalogue.lean ====
section
/-! DEFINITION. Machine/Catalogue.lean: what each object of the dictionary is: its place, type, access, level, default,
legal values, whether each keyway has its own instance, whether it is persisted and when a write takes effect. One arm
per row of the object tables of spec/, in the tables' order. -/
namespace Sys2Proof

/-- Type codes of Table 3.5 (spec/03 R108); only those an object table uses. -/
inductive ObjTy where
  | bool | u8 | u16 | u32 | u64 | i16 | i32 | f32 | blob
  deriving DecidableEq, Repr

/-- Access codes of Table 3.6 (spec/03 R110). -/
inductive Access where
  | ro | cor | rw | wo
  deriving DecidableEq, Repr

/-- When an accepted write takes effect (spec/03 R103 and the chapters' own times). -/
inductive Effect where
  | boundary | now | opening | powerUp
  deriving DecidableEq, Repr

/-- Default of an object: a number, one for each part (P920-A, P920-C), one for KW0's window on each part with 0 for the
other windows (spec/12 Table 12.1), or none in the table. -/
inductive Dflt where
  | none | num (n : Nat) | part (a c : Nat) | kw0 (a c : Nat)
  deriving DecidableEq, Repr

/-- Legal values of a scalar (spec/03 R115): no range given; parts in ascending order; multiples of a step between two
limits; powers of two between two limits; FP32 values between two bit patterns of positive numbers. -/
inductive Range where
  | any | segs (l : List (Int × Int)) | mult (lo hi step : Nat) | pow2 (lo hi : Nat) | f32 (lo hi : Nat)
  deriving DecidableEq, Repr

/-- One row of an object table. -/
structure ObjSpec where
  index     : Nat
  sub       : Nat
  ty        : ObjTy
  acc       : Access
  expert    : Bool := false
  perKw     : Bool := false
  persisted : Bool := false
  effect    : Effect := .boundary
  len       : Nat := 0
  nIdx      : Nat := 1
  stride    : Nat := 1
  nSub      : Nat := 1
  dflt      : Dflt := .none
  range     : Range := .any
  deriving DecidableEq, Repr

/-- The object tables of spec/. The common function subindices (Table 3.12) have index 0 here: their index is the
function's own (spec/03 R123). -/
def Obj.spec : Obj → ObjSpec
  | .PART_CODE => { index := 0x1000, sub := 0x01, ty := .u16, acc := .ro, dflt := .part 37386 37388 }
  | .STEPPING => { index := 0x1000, sub := 0x02, ty := .u16, acc := .ro, dflt := .part 177 177, range := .segs [(160, 255)] }
  | .COMPUTE_DIES => { index := 0x1000, sub := 0x03, ty := .u8, acc := .ro, dflt := .part 4 4 }
  | .CLUSTERS_PER_DIE => { index := 0x1000, sub := 0x04, ty := .u8, acc := .ro, dflt := .part 16 16 }
  | .CORES_PER_CLUSTER => { index := 0x1000, sub := 0x05, ty := .u8, acc := .ro, dflt := .part 24 20 }
  | .ENGINES_PER_CORE => { index := 0x1000, sub := 0x06, ty := .u8, acc := .ro, dflt := .part 16 16 }
  | .ENGINE_ROWS => { index := 0x1000, sub := 0x07, ty := .u16, acc := .ro, dflt := .part 512 512 }
  | .ENGINE_COL_PAIRS => { index := 0x1000, sub := 0x08, ty := .u16, acc := .ro, dflt := .part 512 512 }
  | .ENGINE_TIERS => { index := 0x1000, sub := 0x09, ty := .u8, acc := .ro, dflt := .part 4 4 }
  | .SPARE_COL_PAIRS => { index := 0x1000, sub := 0x0A, ty := .u8, acc := .ro, expert := true, dflt := .part 32 32 }
  | .ENGINES_BUILT => { index := 0x1000, sub := 0x0B, ty := .u32, acc := .ro, dflt := .part 24576 20480 }
  | .ATTN_ENGINES => { index := 0x1000, sub := 0x0C, ty := .u8, acc := .ro, dflt := .part 64 64 }
  | .MEM_STACKS => { index := 0x1000, sub := 0x0D, ty := .u8, acc := .ro, dflt := .part 8 8 }
  | .STACK_SIZE => { index := 0x1000, sub := 0x0E, ty := .u16, acc := .ro, dflt := .part 72 72 }
  | .CORE_SRAM => { index := 0x1000, sub := 0x0F, ty := .u16, acc := .ro, dflt := .part 512 512 }
  | .CLUSTER_SRAM => { index := 0x1000, sub := 0x10, ty := .u16, acc := .ro, dflt := .part 8192 8192 }
  | .MODEL_SLOTS => { index := 0x1000, sub := 0x11, ty := .u8, acc := .ro, dflt := .part 16 16 }
  | .REQ_ENTRIES => { index := 0x1000, sub := 0x12, ty := .u16, acc := .ro, dflt := .part 32768 32768 }
  | .LATCHES => { index := 0x1000, sub := 0x13, ty := .u16, acc := .ro, dflt := .part 16384 16384 }
  | .KEYWAYS => { index := 0x1000, sub := 0x14, ty := .u8, acc := .ro, dflt := .part 64 64 }
  | .HINGE_LOCAL_PORTS => { index := 0x1000, sub := 0x15, ty := .u8, acc := .ro, dflt := .part 15 15 }
  | .HINGE_GLOBAL_PORTS => { index := 0x1000, sub := 0x16, ty := .u8, acc := .ro, dflt := .part 8 8 }
  | .BEAT_SOURCE => { index := 0x1100, sub := 0x01, ty := .u8, acc := .rw, dflt := .num 2, range := .segs [(0, 2)] }
  | .BEAT_LINK_PORT => { index := 0x1100, sub := 0x02, ty := .u8, acc := .rw, dflt := .num 0, range := .segs [(0, 22)] }
  | .BEAT_STATE => { index := 0x1100, sub := 0x03, ty := .u8, acc := .ro, dflt := .num 0, range := .segs [(0, 3)] }
  | .BEAT_PERIOD_EST => { index := 0x1100, sub := 0x04, ty := .u32, acc := .ro, dflt := .num 0, range := .segs [(4000000, 64000000)] }
  | .BEAT_PHASE_ERR => { index := 0x1100, sub := 0x05, ty := .i32, acc := .ro, dflt := .num 0 }
  | .BEAT_PHASE_ERR_MAX => { index := 0x1100, sub := 0x06, ty := .u32, acc := .cor, expert := true, dflt := .num 0 }
  | .BEAT_JITTER_TOL => { index := 0x1100, sub := 0x07, ty := .u16, acc := .rw, expert := true, dflt := .num 2000, range := .segs [(100, 20000)] }
  | .BEAT_LOCK_COUNT => { index := 0x1100, sub := 0x08, ty := .u8, acc := .rw, expert := true, dflt := .num 4, range := .segs [(2, 16)] }
  | .BEAT_FREERUN_LIMIT => { index := 0x1100, sub := 0x09, ty := .u8, acc := .ro, expert := true, dflt := .num 16 }
  | .BEAT_SELF_PERIOD => { index := 0x1100, sub := 0x0A, ty := .u32, acc := .rw, dflt := .num 0, range := .segs [(0, 0), (4000000, 64000000)] }
  | .OPEN_END => { index := 0x1100, sub := 0x0B, ty := .u16, acc := .rw, expert := true, dflt := .num 64, range := .segs [(16, 256)] }
  | .QUIET_START => { index := 0x1100, sub := 0x0C, ty := .u16, acc := .rw, expert := true, dflt := .num 3968, range := .segs [(3584, 4064)] }
  | .BEAT_NUMBER => { index := 0x1100, sub := 0x0D, ty := .u64, acc := .ro, dflt := .num 0, range := .segs [(0, 281474976710655)] }
  | .BEAT_NUMBER_SET => { index := 0x1100, sub := 0x0E, ty := .u64, acc := .rw, expert := true, dflt := .num 0, range := .segs [(0, 281474976710655)] }
  | .NOTCH_NOW => { index := 0x1100, sub := 0x0F, ty := .u16, acc := .ro, dflt := .num 0, range := .segs [(0, 4095)] }
  | .GLITCH_COUNT => { index := 0x1100, sub := 0x10, ty := .u32, acc := .ro, expert := true, dflt := .num 0 }
  | .STEP_OVERRUN_COUNT => { index := 0x1100, sub := 0x11, ty := .u32, acc := .ro, dflt := .num 0 }
  | .LINK_BEAT_OFFSET => { index := 0x1100, sub := 0x12, ty := .i32, acc := .rw, expert := true, dflt := .num 0, range := .segs [(-100000, 100000)] }
  | .CLUSTERS_ONLINE => { index := 0x1200, sub := 0x01, ty := .u64, acc := .ro, dflt := .num 18446744073709551615 }
  | .QUAD_GATE_REQ => { index := 0x1200, sub := 0x02, ty := .u16, acc := .rw, expert := true, dflt := .num 0, range := .segs [(0, 65535)] }
  | .QUAD_GATED => { index := 0x1200, sub := 0x03, ty := .u16, acc := .ro, dflt := .num 0 }
  | .HASP_LIVE => { index := 0x1200, sub := 0x04, ty := .u8, acc := .ro, dflt := .num 255 }
  | .STEP_LEADER => { index := 0x1200, sub := 0x05, ty := .u8, acc := .ro, dflt := .num 0, range := .segs [(0, 7)] }
  | .SRAM_CORRECTED_COUNT => { index := 0x1200, sub := 0x06, ty := .u32, acc := .cor, expert := true, dflt := .num 0 }
  | .SRAM_UNCORR_COUNT => { index := 0x1200, sub := 0x07, ty := .u32, acc := .ro, dflt := .num 0 }
  | .SRAM_LAST_ERR_UNIT => { index := 0x1200, sub := 0x08, ty := .u32, acc := .ro, expert := true, dflt := .num 0 }
  | .SRAM_LAST_ERR_ADDR => { index := 0x1200, sub := 0x09, ty := .u32, acc := .ro, expert := true, dflt := .num 0 }
  | .UNIT_QUERY => { index := 0x1200, sub := 0x0A, ty := .u32, acc := .rw, effect := .now, dflt := .num 0 }
  | .UNIT_STATE => { index := 0x1200, sub := 0x0B, ty := .u8, acc := .ro, dflt := .num 0, range := .segs [(0, 6)] }
  | .CTRL_RESET_COUNT => { index := 0x1200, sub := 0x0C, ty := .u32, acc := .ro, expert := true, dflt := .num 0 }
  | .CORE_SITE_MAP_n => { index := 0x1200, sub := 0x10, ty := .u32, acc := .ro, expert := true, nSub := 64 }
  | .CLAMP_COUNT => { index := 0x1F00, sub := 0x01, ty := .u32, acc := .ro, dflt := .num 0 }
  | .RESP_LOG_COUNT => { index := 0x1F00, sub := 0x02, ty := .u32, acc := .ro, dflt := .num 0 }
  | .GDP_BAD_FRAMES => { index := 0x1F00, sub := 0x03, ty := .u32, acc := .cor, expert := true, dflt := .num 0 }
  | .SESSIONS_OPEN => { index := 0x1F00, sub := 0x04, ty := .u8, acc := .ro, dflt := .num 0, range := .segs [(0, 20)] }
  | .CLAMP_NEXT => { index := 0x1F00, sub := 0x05, ty := .u8, acc := .ro, dflt := .num 0, range := .segs [(0, 31)] }
  | .RESP_NEXT => { index := 0x1F00, sub := 0x06, ty := .u8, acc := .ro, dflt := .num 0, range := .segs [(0, 63)] }
  | .CLAMP_REC_n => { index := 0x1F00, sub := 0x10, ty := .blob, acc := .ro, len := 32, nSub := 32 }
  | .RESP_REC_n => { index := 0x1F00, sub := 0x40, ty := .blob, acc := .ro, len := 24, nSub := 64 }
  | .FUNC_ENABLE => { index := 0x0000, sub := 0xF0, ty := .bool, acc := .rw, persisted := true, nIdx := 0, stride := 0, range := .segs [(0, 1)] }
  | .FUNC_STATE => { index := 0x0000, sub := 0xF1, ty := .u8, acc := .ro, nIdx := 0, stride := 0, dflt := .num 0, range := .segs [(0, 3)] }
  | .FUNC_LATCHED => { index := 0x0000, sub := 0xF2, ty := .bool, acc := .ro, nIdx := 0, stride := 0, dflt := .num 0, range := .segs [(0, 1)] }
  | .FUNC_OPEN_LIMIT => { index := 0x0000, sub := 0xF3, ty := .u16, acc := .ro, expert := true, nIdx := 0, stride := 0, range := .segs [(1, 1024)] }
  | .FUNC_CLOSE_LIMIT => { index := 0x0000, sub := 0xF4, ty := .u16, acc := .ro, expert := true, nIdx := 0, stride := 0, range := .segs [(1, 1024)] }
  | .FUNC_FAIL_CAUSE => { index := 0x0000, sub := 0xF5, ty := .u16, acc := .ro, nIdx := 0, stride := 0, dflt := .num 0 }
  | .ACT_FORMAT => { index := 0x2000, sub := 0x01, ty := .u8, acc := .rw, perKw := true, dflt := .num 1, range := .segs [(1, 2)] }
  | .OUTLIER_ENABLE => { index := 0x2000, sub := 0x02, ty := .bool, acc := .rw, perKw := true, dflt := .num 1, range := .segs [(0, 1)] }
  | .OUTLIER_THRESH => { index := 0x2000, sub := 0x03, ty := .u8, acc := .rw, expert := true, perKw := true, dflt := .num 16, range := .segs [(4, 40)] }
  | .OUTLIER_MAX_BLOCK => { index := 0x2000, sub := 0x04, ty := .u8, acc := .rw, expert := true, perKw := true, dflt := .num 2, range := .segs [(0, 8)] }
  | .SCALE_MODE => { index := 0x2000, sub := 0x05, ty := .u8, acc := .rw, expert := true, perKw := true, dflt := .num 0, range := .segs [(0, 1)] }
  | .KV_FORMAT_DEFAULT => { index := 0x2000, sub := 0x06, ty := .u8, acc := .rw, perKw := true, dflt := .num 2, range := .segs [(1, 4)] }
  | .FMT_NONFINITE_COUNT => { index := 0x2000, sub := 0x07, ty := .u32, acc := .ro, perKw := true, dflt := .num 0 }
  | .FMT_BAD_BLOCK_COUNT => { index := 0x2000, sub := 0x08, ty := .u32, acc := .ro, perKw := true, dflt := .num 0 }
  | .FMT_SCALE_CLAMP_COUNT => { index := 0x2000, sub := 0x09, ty := .u32, acc := .cor, expert := true, perKw := true, dflt := .num 0 }
  | .OUTLIERS_SELECTED => { index := 0x2000, sub := 0x0A, ty := .u64, acc := .ro, expert := true, perKw := true, dflt := .num 0 }
  | .ALIGN_DIGITS_ZEROED => { index := 0x2000, sub := 0x0B, ty := .u64, acc := .ro, expert := true, perKw := true, dflt := .num 0 }
  | .ENGINES_AVAILABLE => { index := 0x2100, sub := 0x01, ty := .u32, acc := .ro, dflt := .part 24576 20480 }
  | .ENGINES_RETIRED => { index := 0x2100, sub := 0x02, ty := .u32, acc := .ro, dflt := .num 0 }
  | .TIERS_GOOD => { index := 0x2100, sub := 0x03, ty := .u32, acc := .ro, dflt := .part 98304 81920 }
  | .TIERS_SUSPECT => { index := 0x2100, sub := 0x04, ty := .u32, acc := .ro, dflt := .num 0 }
  | .TIERS_WORN => { index := 0x2100, sub := 0x05, ty := .u32, acc := .ro, dflt := .num 0 }
  | .TIERS_RETIRED => { index := 0x2100, sub := 0x06, ty := .u32, acc := .ro, dflt := .num 0 }
  | .SPARES_USED => { index := 0x2100, sub := 0x07, ty := .u32, acc := .ro, expert := true, dflt := .num 0 }
  | .COUNT_GAIN_DEFAULT => { index := 0x2100, sub := 0x08, ty := .u8, acc := .rw, expert := true, persisted := true, dflt := .num 1, range := .segs [(0, 3)] }
  | .SAT_RETRY => { index := 0x2100, sub := 0x09, ty := .bool, acc := .rw, expert := true, persisted := true, dflt := .num 1, range := .segs [(0, 1)] }
  | .RANGE_MARGIN => { index := 0x2100, sub := 0x0A, ty := .u8, acc := .rw, expert := true, persisted := true, dflt := .num 4, range := .segs [(2, 32)] }
  | .RANGE_FAIL_LIMIT => { index := 0x2100, sub := 0x0B, ty := .u8, acc := .rw, expert := true, persisted := true, dflt := .num 4, range := .segs [(1, 64)] }
  | .SPARES_LOW_MARK => { index := 0x2100, sub := 0x0C, ty := .u8, acc := .rw, expert := true, persisted := true, dflt := .num 4, range := .segs [(0, 31)] }
  | .PASS_COUNT => { index := 0x2100, sub := 0x0D, ty := .u64, acc := .ro, expert := true, dflt := .num 0 }
  | .SAT_RETRY_COUNT => { index := 0x2100, sub := 0x0E, ty := .u64, acc := .ro, expert := true, dflt := .num 0 }
  | .SAT_COUNT => { index := 0x2100, sub := 0x0F, ty := .u64, acc := .ro, dflt := .num 0 }
  | .RANGE_FAIL_COUNT => { index := 0x2100, sub := 0x10, ty := .u32, acc := .ro, dflt := .num 0 }
  | .ENG_QUERY => { index := 0x2100, sub := 0x11, ty := .u32, acc := .rw, effect := .now, dflt := .num 1073741824 }
  | .ENG_INFO => { index := 0x2100, sub := 0x12, ty := .blob, acc := .ro, len := 64 }
  | .REMAP_TABLE => { index := 0x2100, sub := 0x13, ty := .blob, acc := .ro, expert := true, len := 64 }
  | .ENG_RETIRE_REQ => { index := 0x2100, sub := 0x14, ty := .u32, acc := .wo, expert := true }
  | .PASS_E_FIXED => { index := 0x2100, sub := 0x15, ty := .f32, acc := .ro, expert := true, dflt := .num 1137508352, range := .f32 0x43B90000 0x43E60000 }
  | .PASS_E_ROW => { index := 0x2100, sub := 0x16, ty := .f32, acc := .ro, expert := true, dflt := .num 1043811271, range := .f32 0x3E23D70A 0x3E4CCCCD }
  | .PASS_E_TIER => { index := 0x2100, sub := 0x17, ty := .f32, acc := .ro, expert := true, dflt := .num 1109393408, range := .f32 0x41F00000 0x42480000 }
  | .JOIN_MODE_DEFAULT => { index := 0x2200, sub := 0x01, ty := .u8, acc := .rw, expert := true, persisted := true, dflt := .num 0, range := .segs [(0, 1)] }
  | .EXACT_FRAC_DEFAULT => { index := 0x2200, sub := 0x02, ty := .u8, acc := .rw, expert := true, persisted := true, dflt := .num 24, range := .segs [(0, 56)] }
  | .OUTLIER_LOAD_BUDGET => { index := 0x2200, sub := 0x03, ty := .u32, acc := .ro, expert := true, dflt := .num 98304 }
  | .OUTLIER_DERATE_COUNT => { index := 0x2200, sub := 0x04, ty := .u64, acc := .ro, expert := true, perKw := true, dflt := .num 0 }
  | .OUTLIER_DERATE_NS => { index := 0x2200, sub := 0x05, ty := .u64, acc := .ro, expert := true, perKw := true, dflt := .num 0 }
  | .SAT_REPAIR_COUNT => { index := 0x2200, sub := 0x06, ty := .u64, acc := .ro, perKw := true, dflt := .num 0 }
  | .SPLIT_RECOMPUTE_COUNT => { index := 0x2200, sub := 0x07, ty := .u64, acc := .ro, expert := true, perKw := true, dflt := .num 0 }
  | .DIGITAL_REPAIR_COUNT => { index := 0x2200, sub := 0x08, ty := .u64, acc := .ro, expert := true, perKw := true, dflt := .num 0 }
  | .REPAIR_FAIL_COUNT => { index := 0x2200, sub := 0x09, ty := .u32, acc := .ro, perKw := true, dflt := .num 0 }
  | .CHUNK_OVF_COUNT => { index := 0x2200, sub := 0x0A, ty := .u32, acc := .ro, perKw := true, dflt := .num 0 }
  | .EXACT_INEXACT_COUNT => { index := 0x2200, sub := 0x0B, ty := .u64, acc := .ro, expert := true, perKw := true, dflt := .num 0 }
  | .NONFINITE_LOGIT_COUNT => { index := 0x2200, sub := 0x0C, ty := .u32, acc := .ro, perKw := true, dflt := .num 0 }
  | .AUDIT_ENABLE => { index := 0x2200, sub := 0x0D, ty := .bool, acc := .rw, expert := true, persisted := true, dflt := .num 1, range := .segs [(0, 1)] }
  | .AUDIT_TILES => { index := 0x2200, sub := 0x0E, ty := .u8, acc := .rw, expert := true, persisted := true, dflt := .num 1, range := .segs [(0, 8)] }
  | .AUDIT_TOL_TICKS => { index := 0x2200, sub := 0x0F, ty := .u8, acc := .rw, expert := true, persisted := true, dflt := .num 6, range := .segs [(2, 32)] }
  | .AUDIT_TOL_GAIN => { index := 0x2200, sub := 0x10, ty := .u32, acc := .rw, expert := true, persisted := true, dflt := .num 30000, range := .segs [(5000, 100000)] }
  | .AUDIT_COUNT => { index := 0x2200, sub := 0x11, ty := .u64, acc := .ro, perKw := true, dflt := .num 0 }
  | .AUDIT_FAIL_COUNT => { index := 0x2200, sub := 0x12, ty := .u32, acc := .ro, perKw := true, dflt := .num 0 }
  | .AUDIT_SKIPPED => { index := 0x2200, sub := 0x13, ty := .u64, acc := .ro, expert := true, perKw := true, dflt := .num 0 }
  | .AUDIT_EXPORT => { index := 0x2200, sub := 0x14, ty := .bool, acc := .rw, expert := true, persisted := true, dflt := .num 0, range := .segs [(0, 1)] }
  | .RESID_TABLE => { index := 0x2200, sub := 0x15, ty := .blob, acc := .ro, expert := true, len := 1088 }
  | .ADAPTERS_MAX => { index := 0x2200, sub := 0x16, ty := .u16, acc := .ro, dflt := .num 256 }
  | .ADAPTER_TABLE => { index := 0x2200, sub := 0x17, ty := .blob, acc := .rw, perKw := true, len := 16384 }
  | .CAL_DUE_COUNT => { index := 0x2300, sub := 0x01, ty := .u32, acc := .ro, dflt := .num 0 }
  | .CAL_RUNS_DONE => { index := 0x2300, sub := 0x02, ty := .u64, acc := .ro, dflt := .num 0 }
  | .CAL_RUNS_DISCARDED => { index := 0x2300, sub := 0x03, ty := .u32, acc := .ro, dflt := .num 0 }
  | .CAL_COLUMNS_REJECTED => { index := 0x2300, sub := 0x04, ty := .u32, acc := .ro, dflt := .num 0 }
  | .CAL_OVERRUN_COUNT => { index := 0x2300, sub := 0x05, ty := .u32, acc := .ro, expert := true, dflt := .num 0 }
  | .CAL_SKIPPED_BEATS => { index := 0x2300, sub := 0x06, ty := .u32, acc := .ro, expert := true, dflt := .num 0 }
  | .CAL_DT_WORST => { index := 0x2300, sub := 0x07, ty := .u16, acc := .ro, dflt := .num 0 }
  | .CAL_REF_DEV_d => { index := 0x2300, sub := 0x08, ty := .i32, acc := .ro, expert := true, nSub := 4, dflt := .num 0 }
  | .CAL_DIES_HALTED => { index := 0x2300, sub := 0x0C, ty := .u8, acc := .ro, dflt := .num 0 }
  | .CAL_ENGINES_PER_CORE => { index := 0x2310, sub := 0x01, ty := .u8, acc := .rw, expert := true, persisted := true, dflt := .num 2, range := .segs [(1, 8)] }
  | .CAL_REPEATS => { index := 0x2310, sub := 0x02, ty := .u16, acc := .rw, expert := true, persisted := true, dflt := .num 256, range := .mult 64 1024 4 }
  | .CAL_POWERUP_RUN => { index := 0x2310, sub := 0x03, ty := .bool, acc := .rw, persisted := true, dflt := .num 0, range := .segs [(0, 1)] }
  | .CAL_DT_THRESH => { index := 0x2310, sub := 0x04, ty := .u8, acc := .rw, persisted := true, dflt := .num 6, range := .segs [(2, 20)] }
  | .CAL_DT_ALARM => { index := 0x2310, sub := 0x05, ty := .u8, acc := .rw, persisted := true, dflt := .num 16, range := .segs [(4, 40)] }
  | .CAL_MAX_AGE => { index := 0x2310, sub := 0x06, ty := .u16, acc := .rw, expert := true, persisted := true, dflt := .num 24, range := .segs [(0, 0), (1, 720)] }
  | .CAL_GAIN_LIMIT => { index := 0x2310, sub := 0x07, ty := .u32, acc := .rw, expert := true, persisted := true, dflt := .num 60000, range := .segs [(10000, 75000)] }
  | .CAL_OFFSET_LIMIT => { index := 0x2310, sub := 0x08, ty := .u8, acc := .rw, expert := true, persisted := true, dflt := .num 24, range := .segs [(4, 31)] }
  | .CAL_LIN_LIMIT => { index := 0x2310, sub := 0x09, ty := .u8, acc := .rw, expert := true, persisted := true, dflt := .num 12, range := .segs [(4, 32)] }
  | .CAL_STEP_LIMIT => { index := 0x2310, sub := 0x0A, ty := .u8, acc := .rw, expert := true, persisted := true, dflt := .num 8, range := .segs [(2, 31)] }
  | .CAL_COL_FAIL_MAX => { index := 0x2310, sub := 0x0B, ty := .u8, acc := .rw, expert := true, persisted := true, dflt := .num 8, range := .segs [(1, 64)] }
  | .CAL_RAMP_FAIL_PCT => { index := 0x2310, sub := 0x0C, ty := .u8, acc := .rw, expert := true, persisted := true, dflt := .num 5, range := .segs [(2, 15)] }
  | .CAL_REF_TOL => { index := 0x2310, sub := 0x0D, ty := .u16, acc := .rw, expert := true, persisted := true, dflt := .num 5000, range := .segs [(1000, 20000)] }
  | .CAL_NV_INTERVAL => { index := 0x2310, sub := 0x0E, ty := .u16, acc := .rw, expert := true, persisted := true, dflt := .num 300, range := .segs [(60, 3600)] }
  | .CAL_SENSE_PERIOD => { index := 0x2310, sub := 0x0F, ty := .u16, acc := .rw, expert := true, persisted := true, dflt := .num 600, range := .segs [(60, 3600)] }
  | .CAL_INFO => { index := 0x2320, sub := 0x01, ty := .blob, acc := .ro, len := 64 }
  | .TRIM_TABLE => { index := 0x2320, sub := 0x02, ty := .blob, acc := .ro, expert := true, len := 1088 }
  | .CAL_RUN_REQ => { index := 0x2320, sub := 0x03, ty := .u32, acc := .wo, expert := true }
  | .SLOTS_SERVING => { index := 0x2400, sub := 0x01, ty := .u16, acc := .ro, dflt := .num 0 }
  | .ENGINES_IDLE => { index := 0x2400, sub := 0x02, ty := .u32, acc := .ro, dflt := .part 24576 20480 }
  | .TIERS_FREE => { index := 0x2400, sub := 0x03, ty := .u32, acc := .ro, dflt := .part 98304 81920 }
  | .SHARD_RETRY_MAX => { index := 0x2400, sub := 0x04, ty := .u8, acc := .rw, expert := true, persisted := true, dflt := .num 3, range := .segs [(0, 15)] }
  | .SHARD_TIMEOUT => { index := 0x2400, sub := 0x05, ty := .u16, acc := .rw, expert := true, persisted := true, dflt := .num 250, range := .segs [(16, 16384)] }
  | .SHARD_INFLIGHT => { index := 0x2400, sub := 0x06, ty := .u8, acc := .rw, expert := true, persisted := true, dflt := .num 16, range := .segs [(1, 64)] }
  | .PROG_POWER_MAX => { index := 0x2400, sub := 0x07, ty := .u16, acc := .rw, expert := true, persisted := true, dflt := .num 100, range := .segs [(10, 300)] }
  | .PROG_MAX_STEPS => { index := 0x2400, sub := 0x08, ty := .u8, acc := .rw, expert := true, persisted := true, dflt := .num 16, range := .segs [(8, 32)] }
  | .SCRUB_INTERVAL => { index := 0x2400, sub := 0x09, ty := .u16, acc := .rw, expert := true, persisted := true, dflt := .num 4, range := .segs [(1, 168)] }
  | .SCRUB_TIERS_PER_CORE => { index := 0x2400, sub := 0x0A, ty := .u8, acc := .rw, expert := true, persisted := true, dflt := .num 1, range := .segs [(1, 8)] }
  | .PROG_W_TIER => { index := 0x2400, sub := 0x0B, ty := .f32, acc := .ro, expert := true, dflt := .num 1068373115, range := .f32 0x3F99999A 0x3FE66666 }
  | .PROG_TIERS_COUNT => { index := 0x2400, sub := 0x0C, ty := .u64, acc := .ro, expert := true, dflt := .num 0 }
  | .SCRUB_TIERS_COUNT => { index := 0x2400, sub := 0x0D, ty := .u64, acc := .ro, expert := true, dflt := .num 0 }
  | .SCRUB_MISMATCH_COUNT => { index := 0x2400, sub := 0x0E, ty := .u32, acc := .ro, dflt := .num 0 }
  | .SCRUB_OVERDUE => { index := 0x2400, sub := 0x0F, ty := .u32, acc := .ro, dflt := .num 0 }
  | .REQ_RING_ADDR => { index := 0x2400, sub := 0x10, ty := .u64, acc := .rw, perKw := true, dflt := .num 0, range := .mult 0 18446744073709551615 64 }
  | .REQ_RING_LEN => { index := 0x2400, sub := 0x11, ty := .u16, acc := .rw, perKw := true, dflt := .num 64, range := .pow2 16 4096 }
  | .REQ_RING_VECTOR => { index := 0x2400, sub := 0x12, ty := .u16, acc := .rw, perKw := true, dflt := .num 0, range := .segs [(0, 2047)] }
  | .IMAGE_REBUILD_COUNT => { index := 0x2400, sub := 0x13, ty := .u32, acc := .ro, expert := true, dflt := .num 0 }
  | .ADAPTER_LOAD => { index := 0x2400, sub := 0x14, ty := .blob, acc := .wo, perKw := true, effect := .now, len := 32 }
  | .SLOT_STATE => { index := 0x2410, sub := 0x01, ty := .u8, acc := .ro, nIdx := 16, dflt := .num 0, range := .segs [(0, 8)] }
  | .SLOT_CMD => { index := 0x2410, sub := 0x02, ty := .u8, acc := .wo, nIdx := 16, range := .segs [(1, 3)] }
  | .SLOT_CMD_RESULT => { index := 0x2410, sub := 0x03, ty := .u8, acc := .ro, nIdx := 16, dflt := .num 0, range := .segs [(0, 4)] }
  | .LOAD_FAIL_CODE => { index := 0x2410, sub := 0x04, ty := .u8, acc := .ro, nIdx := 16, dflt := .num 0, range := .segs [(0, 10)] }
  | .SLOT_MANIFEST => { index := 0x2410, sub := 0x05, ty := .blob, acc := .rw, len := 262144, nIdx := 16 }
  | .SLOT_OWNER => { index := 0x2410, sub := 0x06, ty := .u8, acc := .ro, nIdx := 16, dflt := .num 0, range := .segs [(0, 63)] }
  | .SLOT_SHARE => { index := 0x2410, sub := 0x07, ty := .u64, acc := .rw, nIdx := 16, dflt := .num 0 }
  | .SLOT_SOURCE => { index := 0x2410, sub := 0x08, ty := .u16, acc := .rw, nIdx := 16, dflt := .num 65535, range := .segs [(0, 2047), (65535, 65535)] }
  | .SWAP_MODE => { index := 0x2410, sub := 0x09, ty := .u8, acc := .rw, expert := true, nIdx := 16, dflt := .num 0, range := .segs [(0, 2)] }
  | .SWAP_STATE => { index := 0x2410, sub := 0x0A, ty := .u8, acc := .ro, nIdx := 16, dflt := .num 0, range := .segs [(0, 4)] }
  | .MODEL_ID => { index := 0x2410, sub := 0x0B, ty := .u64, acc := .ro, nIdx := 16, dflt := .num 0 }
  | .CURRENT_VERSION => { index := 0x2410, sub := 0x0C, ty := .u32, acc := .ro, nIdx := 16, dflt := .num 0 }
  | .PENDING_VERSION => { index := 0x2410, sub := 0x0D, ty := .u32, acc := .ro, nIdx := 16, dflt := .num 0 }
  | .OLD_VERSION => { index := 0x2410, sub := 0x0E, ty := .u32, acc := .ro, nIdx := 16, dflt := .num 0 }
  | .MANIFEST_DIGEST => { index := 0x2410, sub := 0x0F, ty := .blob, acc := .ro, len := 48, nIdx := 16 }
  | .SHARDS_PENDING => { index := 0x2410, sub := 0x10, ty := .u16, acc := .ro, nIdx := 16, dflt := .num 0, range := .segs [(0, 2047)] }
  | .SHARD_RETRIES => { index := 0x2410, sub := 0x11, ty := .u32, acc := .ro, nIdx := 16, dflt := .num 0 }
  | .TILES_PLACED => { index := 0x2410, sub := 0x12, ty := .u32, acc := .ro, nIdx := 16, dflt := .num 0 }
  | .TILES_DIGITAL => { index := 0x2410, sub := 0x13, ty := .u32, acc := .ro, nIdx := 16, dflt := .num 0 }
  | .PLACE_QUERY => { index := 0x2410, sub := 0x14, ty := .u32, acc := .rw, expert := true, effect := .now, nIdx := 16, dflt := .num 0, range := .segs [(0, 98303)] }
  | .PLACE_WINDOW => { index := 0x2410, sub := 0x15, ty := .blob, acc := .ro, expert := true, len := 1024, nIdx := 16 }
  | .KV_PAGE_TOKENS_DEFAULT => { index := 0x2500, sub := 0x01, ty := .u16, acc := .rw, perKw := true, persisted := true, dflt := .num 256, range := .pow2 16 4096 }
  | .PREFIX_ENABLE => { index := 0x2500, sub := 0x02, ty := .bool, acc := .rw, perKw := true, persisted := true, dflt := .num 1, range := .segs [(0, 1)] }
  | .PREFIX_MAX_PCT => { index := 0x2500, sub := 0x03, ty := .u8, acc := .rw, expert := true, perKw := true, persisted := true, dflt := .num 50, range := .segs [(0, 90)] }
  | .KV_BYTES_USED => { index := 0x2500, sub := 0x04, ty := .u64, acc := .ro, perKw := true, dflt := .num 0 }
  | .KV_PAGES_USED => { index := 0x2500, sub := 0x05, ty := .u32, acc := .ro, perKw := true, dflt := .num 0 }
  | .SEQS_ACTIVE => { index := 0x2500, sub := 0x06, ty := .u16, acc := .ro, perKw := true, dflt := .num 0, range := .segs [(0, 32768)] }
  | .PREFIX_LOOKUP_TOKENS => { index := 0x2500, sub := 0x07, ty := .u64, acc := .ro, perKw := true, dflt := .num 0 }
  | .PREFIX_HIT_TOKENS => { index := 0x2500, sub := 0x08, ty := .u64, acc := .ro, perKw := true, dflt := .num 0 }
  | .PREFIX_EVICTIONS => { index := 0x2500, sub := 0x09, ty := .u64, acc := .ro, expert := true, perKw := true, dflt := .num 0 }
  | .COW_COPIES => { index := 0x2500, sub := 0x0A, ty := .u64, acc := .ro, expert := true, perKw := true, dflt := .num 0 }
  | .REFCOUNT_SATURATED => { index := 0x2500, sub := 0x0B, ty := .u32, acc := .ro, expert := true, perKw := true, dflt := .num 0 }
  | .FREES_DEFERRED => { index := 0x2500, sub := 0x0C, ty := .u32, acc := .ro, expert := true, perKw := true, dflt := .num 0 }
  | .EPOCH_OLDEST => { index := 0x2500, sub := 0x0D, ty := .u64, acc := .ro, expert := true, perKw := true, dflt := .num 0 }
  | .KV_WALK_FAULTS => { index := 0x2500, sub := 0x0E, ty := .u32, acc := .ro, perKw := true, dflt := .num 0 }
  | .RING_ROUND_TIMEOUT => { index := 0x2500, sub := 0x0F, ty := .u16, acc := .rw, expert := true, perKw := true, persisted := true, dflt := .num 512, range := .segs [(64, 4095)] }
  | .RING_SEQS => { index := 0x2500, sub := 0x10, ty := .u16, acc := .ro, perKw := true, dflt := .num 0 }
  | .SEQ_QUERY => { index := 0x2500, sub := 0x11, ty := .u16, acc := .rw, perKw := true, effect := .now, dflt := .num 0, range := .segs [(0, 32767)] }
  | .SEQ_INFO => { index := 0x2500, sub := 0x12, ty := .blob, acc := .ro, perKw := true, len := 64 }
  | .KV_NO_PAGE_COUNT => { index := 0x2500, sub := 0x13, ty := .u32, acc := .ro, perKw := true, dflt := .num 0 }
  | .ATTN_MAP => { index := 0x2510, sub := 0x01, ty := .blob, acc := .rw, len := 147472, nIdx := 16 }
  | .ATTN_MAP_VERSIONS => { index := 0x2510, sub := 0x02, ty := .blob, acc := .ro, len := 12, nIdx := 16 }
  | .ROLE => { index := 0x2600, sub := 0x01, ty := .u8, acc := .rw, persisted := true, dflt := .num 0, range := .segs [(0, 2)] }
  | .SUBMIT_RING_ADDR => { index := 0x2600, sub := 0x02, ty := .u64, acc := .rw, perKw := true, persisted := true, dflt := .num 0, range := .mult 0 18446744073709551615 128 }
  | .SUBMIT_RING_LEN => { index := 0x2600, sub := 0x03, ty := .u16, acc := .rw, perKw := true, persisted := true, dflt := .num 64, range := .pow2 16 4096 }
  | .CONS_TABLE_ADDR => { index := 0x2600, sub := 0x04, ty := .u64, acc := .rw, perKw := true, persisted := true, dflt := .num 0, range := .mult 0 18446744073709551615 64 }
  | .TOKEN_VECTOR => { index := 0x2600, sub := 0x05, ty := .u16, acc := .rw, perKw := true, persisted := true, dflt := .num 0, range := .segs [(0, 2047)] }
  | .TOKEN_IRQ_GAP => { index := 0x2600, sub := 0x06, ty := .u16, acc := .rw, expert := true, perKw := true, persisted := true, dflt := .num 16, range := .segs [(0, 4095)] }
  | .STEP_FILL_PCT => { index := 0x2600, sub := 0x07, ty := .u8, acc := .rw, expert := true, persisted := true, dflt := .num 90, range := .segs [(50, 100)] }
  | .PREFILL_CHUNK_MAX => { index := 0x2600, sub := 0x08, ty := .u16, acc := .rw, expert := true, persisted := true, dflt := .num 4096, range := .mult 256 8192 256 }
  | .ADMIT_MAX_PER_BEAT => { index := 0x2600, sub := 0x09, ty := .u16, acc := .rw, expert := true, persisted := true, dflt := .num 256, range := .segs [(1, 4096)] }
  | .ADMIT_TIMEOUT => { index := 0x2600, sub := 0x0A, ty := .u16, acc := .rw, perKw := true, persisted := true, dflt := .num 1024, range := .segs [(16, 16384)] }
  | .STEP_RETRY_MAX => { index := 0x2600, sub := 0x0B, ty := .u8, acc := .rw, expert := true, persisted := true, dflt := .num 1, range := .segs [(0, 3)] }
  | .SPEC_REJECT_LIMIT => { index := 0x2600, sub := 0x0C, ty := .u8, acc := .rw, expert := true, perKw := true, persisted := true, dflt := .num 4, range := .segs [(1, 64)] }
  | .SPEC_REARM_BEATS => { index := 0x2600, sub := 0x0D, ty := .u16, acc := .rw, expert := true, perKw := true, persisted := true, dflt := .num 256, range := .segs [(0, 65535)] }
  | .HANDOFF_TIMEOUT => { index := 0x2600, sub := 0x0E, ty := .u16, acc := .rw, perKw := true, persisted := true, dflt := .num 64, range := .segs [(4, 4096)] }
  | .RING_STALL_LIMIT => { index := 0x2600, sub := 0x0F, ty := .u16, acc := .rw, perKw := true, persisted := true, dflt := .num 0, range := .segs [(0, 65535)] }
  | .KV_WAIT_LIMIT => { index := 0x2600, sub := 0x10, ty := .u16, acc := .rw, perKw := true, persisted := true, dflt := .num 64, range := .segs [(1, 4096)] }
  | .REQS_ACTIVE => { index := 0x2600, sub := 0x11, ty := .u16, acc := .ro, perKw := true, dflt := .num 0, range := .segs [(0, 32768)] }
  | .REQS_QUEUED => { index := 0x2600, sub := 0x12, ty := .u16, acc := .ro, perKw := true, dflt := .num 0, range := .segs [(0, 32768)] }
  | .TOKENS_DELIVERED => { index := 0x2600, sub := 0x13, ty := .u64, acc := .ro, perKw := true, dflt := .num 0 }
  | .TOKENS_LATE => { index := 0x2600, sub := 0x14, ty := .u64, acc := .ro, perKw := true, dflt := .num 0 }
  | .STEPS_FAULTED => { index := 0x2600, sub := 0x15, ty := .u32, acc := .ro, perKw := true, dflt := .num 0 }
  | .REQS_FAILED => { index := 0x2600, sub := 0x16, ty := .u32, acc := .ro, perKw := true, dflt := .num 0 }
  | .RING_STALLS => { index := 0x2600, sub := 0x17, ty := .u32, acc := .ro, expert := true, perKw := true, dflt := .num 0 }
  | .ENERGY_HELD_STEPS => { index := 0x2600, sub := 0x18, ty := .u32, acc := .ro, expert := true, perKw := true, dflt := .num 0 }
  | .SPEC_PROPOSED => { index := 0x2600, sub := 0x19, ty := .u64, acc := .ro, expert := true, perKw := true, dflt := .num 0 }
  | .SPEC_ACCEPTED => { index := 0x2600, sub := 0x1A, ty := .u64, acc := .ro, expert := true, perKw := true, dflt := .num 0 }
  | .HANDOFF_ORPHANS => { index := 0x2600, sub := 0x1B, ty := .u32, acc := .ro, expert := true, perKw := true, dflt := .num 0 }
  | .REQ_QUERY => { index := 0x2600, sub := 0x1C, ty := .u16, acc := .rw, perKw := true, effect := .now, dflt := .num 0, range := .segs [(0, 32767)] }
  | .REQ_INFO => { index := 0x2600, sub := 0x1D, ty := .blob, acc := .ro, perKw := true, len := 64 }
  | .REQ_CANCEL => { index := 0x2600, sub := 0x1E, ty := .u16, acc := .wo, perKw := true, effect := .now, range := .segs [(0, 32767)] }
  | .REQ_REARM => { index := 0x2600, sub := 0x1F, ty := .u16, acc := .wo, perKw := true, effect := .now, range := .segs [(0, 32767)] }
  | .HIST_QUERY => { index := 0x2600, sub := 0x20, ty := .u16, acc := .rw, perKw := true, effect := .now, dflt := .num 0 }
  | .HIST_WINDOW => { index := 0x2600, sub := 0x21, ty := .blob, acc := .ro, perKw := true, len := 388 }
  | .HIST_CLEAR => { index := 0x2600, sub := 0x22, ty := .bool, acc := .wo, perKw := true, range := .segs [(1, 1)] }
  | .TTFT_BUDGET => { index := 0x2610, sub := 0x01, ty := .u32, acc := .rw, perKw := true, persisted := true, nIdx := 8, dflt := .num 32768, range := .segs [(64, 16777215)] }
  | .TOKEN_BUDGET => { index := 0x2610, sub := 0x02, ty := .u32, acc := .rw, perKw := true, persisted := true, nIdx := 8, dflt := .num 4096, range := .segs [(64, 16777215)] }
  | .LATE_POLICY => { index := 0x2610, sub := 0x03, ty := .u8, acc := .rw, perKw := true, persisted := true, nIdx := 8, dflt := .num 0, range := .segs [(0, 1)] }
  | .LATE_LIMIT => { index := 0x2610, sub := 0x04, ty := .u8, acc := .rw, perKw := true, persisted := true, nIdx := 8, dflt := .num 4, range := .segs [(1, 255)] }
  | .CLASS_TOKENS => { index := 0x2610, sub := 0x05, ty := .u64, acc := .ro, perKw := true, nIdx := 8, dflt := .num 0 }
  | .CLASS_TOKENS_LATE => { index := 0x2610, sub := 0x06, ty := .u64, acc := .ro, perKw := true, nIdx := 8, dflt := .num 0 }
  | .FABRIC_ADDR => { index := 0x3000, sub := 0x01, ty := .u16, acc := .rw, persisted := true, dflt := .num 65535, range := .segs [(0, 2047), (65535, 65535)] }
  | .LOGICAL_ADDR => { index := 0x3000, sub := 0x02, ty := .u16, acc := .ro, dflt := .num 65535 }
  | .FABRIC_MAP => { index := 0x3000, sub := 0x03, ty := .blob, acc := .rw, persisted := true, len := 520 }
  | .MAP_EPOCH => { index := 0x3000, sub := 0x04, ty := .u32, acc := .ro, dflt := .num 0 }
  | .MAP_APPLY_BEAT => { index := 0x3000, sub := 0x05, ty := .u64, acc := .rw, dflt := .num 0, range := .segs [(0, 281474976710655)] }
  | .NSLOT => { index := 0x3000, sub := 0x06, ty := .u16, acc := .ro, dflt := .num 0, range := .segs [(0, 2048)] }
  | .OWN_SLOT => { index := 0x3000, sub := 0x07, ty := .u16, acc := .ro, dflt := .num 65535, range := .segs [(0, 2047), (65535, 65535)] }
  | .JOB_TABLE => { index := 0x3000, sub := 0x08, ty := .blob, acc := .rw, persisted := true, len := 512 }
  | .ROUTE_MODE => { index := 0x3000, sub := 0x09, ty := .u8, acc := .rw, expert := true, persisted := true, dflt := .num 1, range := .segs [(0, 2)] }
  | .ADAPT_THRESH => { index := 0x3000, sub := 0x0A, ty := .u8, acc := .rw, expert := true, persisted := true, dflt := .num 50, range := .segs [(10, 90)] }
  | .SPARE_AUTO => { index := 0x3000, sub := 0x0B, ty := .bool, acc := .rw, persisted := true, dflt := .num 1, range := .segs [(0, 1)] }
  | .REPLAY_KEYWAYS => { index := 0x3000, sub := 0x0C, ty := .u64, acc := .rw, persisted := true, dflt := .num 0 }
  | .STANDBY_MAX => { index := 0x3000, sub := 0x0D, ty := .u16, acc := .rw, expert := true, persisted := true, dflt := .num 64, range := .segs [(0, 256)] }
  | .ECHO_MISS_LIMIT => { index := 0x3000, sub := 0x0E, ty := .u8, acc := .rw, expert := true, persisted := true, dflt := .num 3, range := .segs [(2, 16)] }
  | .LOSS_CONFIRM_BEATS => { index := 0x3000, sub := 0x0F, ty := .u8, acc := .rw, expert := true, persisted := true, dflt := .num 2, range := .segs [(1, 16)] }
  | .TRAIN_WINDOW => { index := 0x3000, sub := 0x10, ty := .u16, acc := .rw, expert := true, persisted := true, dflt := .num 1024, range := .segs [(64, 8192)] }
  | .TRAIN_TIMEOUT => { index := 0x3000, sub := 0x11, ty := .u16, acc := .rw, expert := true, persisted := true, dflt := .num 256, range := .segs [(16, 4095)] }
  | .FAB_SHARD_STORE => { index := 0x3000, sub := 0x12, ty := .bool, acc := .rw, persisted := true, dflt := .num 0, range := .segs [(0, 1)] }
  | .SPARE_ADOPT => { index := 0x3000, sub := 0x13, ty := .u16, acc := .wo, expert := true, effect := .now, range := .segs [(0, 2047)] }
  | .FAB_ROLE_STATE => { index := 0x3000, sub := 0x14, ty := .u8, acc := .ro, dflt := .num 0, range := .segs [(0, 3)] }
  | .LINK_AUTH_FAIL => { index := 0x3000, sub := 0x15, ty := .u32, acc := .ro, dflt := .num 0 }
  | .FRAMES_NONMIN => { index := 0x3000, sub := 0x16, ty := .u64, acc := .ro, expert := true, dflt := .num 0 }
  | .FRAMES_DISCARDED => { index := 0x3000, sub := 0x17, ty := .u32, acc := .ro, expert := true, dflt := .num 0 }
  | .LAST_LOST => { index := 0x3000, sub := 0x18, ty := .u16, acc := .ro, dflt := .num 65535 }
  | .REPLAYS_DONE => { index := 0x3000, sub := 0x19, ty := .u32, acc := .ro, dflt := .num 0 }
  | .REPLAYS_FAILED => { index := 0x3000, sub := 0x1A, ty := .u32, acc := .ro, dflt := .num 0 }
  | .STANDBY_BYTES => { index := 0x3000, sub := 0x1B, ty := .u64, acc := .ro, expert := true, dflt := .num 0 }
  | .PORT_MEDIA => { index := 0x3010, sub := 0x01, ty := .u8, acc := .rw, persisted := true, effect := .opening, nIdx := 23, dflt := .num 0, range := .segs [(0, 2)] }
  | .PORT_LINK => { index := 0x3010, sub := 0x02, ty := .u8, acc := .ro, nIdx := 23, dflt := .num 0, range := .segs [(0, 5)] }
  | .PARTNER_ADDR => { index := 0x3010, sub := 0x03, ty := .u16, acc := .ro, nIdx := 23, dflt := .num 65535 }
  | .PARTNER_LOGICAL => { index := 0x3010, sub := 0x04, ty := .u16, acc := .ro, nIdx := 23, dflt := .num 65535 }
  | .LINK_DELAY => { index := 0x3010, sub := 0x05, ty := .u32, acc := .ro, expert := true, nIdx := 23, dflt := .num 0 }
  | .LANES_UP => { index := 0x3010, sub := 0x06, ty := .u8, acc := .ro, expert := true, nIdx := 23, dflt := .num 0 }
  | .FEC_CORRECTED => { index := 0x3010, sub := 0x07, ty := .u64, acc := .cor, expert := true, nIdx := 23, dflt := .num 0 }
  | .FEC_UNCORR => { index := 0x3010, sub := 0x08, ty := .u32, acc := .ro, nIdx := 23, dflt := .num 0 }
  | .LINK_RETRIES => { index := 0x3010, sub := 0x09, ty := .u32, acc := .ro, expert := true, nIdx := 23, dflt := .num 0 }
  | .ECHO_MISSES => { index := 0x3010, sub := 0x0A, ty := .u32, acc := .ro, nIdx := 23, dflt := .num 0 }
  | .TX_BYTES => { index := 0x3010, sub := 0x0B, ty := .u64, acc := .ro, expert := true, nIdx := 23, dflt := .num 0 }
  | .RX_BYTES => { index := 0x3010, sub := 0x0C, ty := .u64, acc := .ro, expert := true, nIdx := 23, dflt := .num 0 }
  | .LATCHES_IN_VIEW => { index := 0x3100, sub := 0x01, ty := .u16, acc := .ro, perKw := true, dflt := .num 16384, range := .segs [(0, 16384)] }
  | .LATCH_QUERY => { index := 0x3100, sub := 0x02, ty := .u16, acc := .rw, perKw := true, effect := .now, dflt := .num 0, range := .segs [(0, 16383)] }
  | .LATCH_INFO => { index := 0x3100, sub := 0x03, ty := .blob, acc := .ro, perKw := true, len := 16 }
  | .LATCH_CPL_ADDR => { index := 0x3100, sub := 0x04, ty := .u64, acc := .rw, perKw := true, dflt := .num 0, range := .mult 0 18446744073709551615 64 }
  | .LATCH_CPL_LOG2 => { index := 0x3100, sub := 0x05, ty := .u8, acc := .rw, perKw := true, dflt := .num 8, range := .segs [(4, 16)] }
  | .LATCH_VECTOR => { index := 0x3100, sub := 0x06, ty := .u16, acc := .rw, perKw := true, dflt := .num 0, range := .segs [(0, 2047)] }
  | .LATCH_OPS => { index := 0x3100, sub := 0x07, ty := .u64, acc := .ro, expert := true, perKw := true, dflt := .num 0 }
  | .LATCH_TIMEOUTS => { index := 0x3100, sub := 0x08, ty := .u32, acc := .ro, perKw := true, dflt := .num 0 }
  | .LATCH_DENIED => { index := 0x3100, sub := 0x09, ty := .u32, acc := .ro, perKw := true, dflt := .num 0 }
  | .KW_EXPERT_ALLOWED => { index := 0x8000, sub := 0x01, ty := .bool, acc := .rw, expert := true, persisted := true, nIdx := 64, stride := 256, dflt := .num 0, range := .segs [(0, 1)] }
  | .KW_CONFIDENTIAL => { index := 0x8000, sub := 0x02, ty := .bool, acc := .rw, persisted := true, effect := .opening, nIdx := 64, stride := 256, dflt := .num 0, range := .segs [(0, 1)] }
  | .QUOTA_CORE_FIRST => { index := 0x8000, sub := 0x03, ty := .u16, acc := .rw, persisted := true, effect := .opening, nIdx := 64, stride := 256, dflt := .num 0, range := .segs [(0, 1535)] }
  | .QUOTA_CORE_COUNT => { index := 0x8000, sub := 0x04, ty := .u16, acc := .rw, persisted := true, effect := .opening, nIdx := 64, stride := 256, dflt := .kw0 1536 1280, range := .segs [(0, 1536)] }
  | .QUOTA_MEM_PAGES => { index := 0x8000, sub := 0x05, ty := .u32, acc := .rw, persisted := true, effect := .opening, nIdx := 64, stride := 256, dflt := .kw0 294912 294912, range := .segs [(0, 294912)] }
  | .QUOTA_REQ => { index := 0x8000, sub := 0x06, ty := .u16, acc := .rw, persisted := true, effect := .opening, nIdx := 64, stride := 256, dflt := .kw0 32768 32768, range := .segs [(0, 32768)] }
  | .QUOTA_RINGS => { index := 0x8000, sub := 0x07, ty := .u16, acc := .rw, persisted := true, effect := .opening, nIdx := 64, stride := 256, dflt := .kw0 32768 32768, range := .segs [(0, 32768)] }
  | .QUOTA_LATCH_FIRST => { index := 0x8000, sub := 0x08, ty := .u16, acc := .rw, persisted := true, effect := .opening, nIdx := 64, stride := 256, dflt := .num 0, range := .segs [(0, 16383)] }
  | .QUOTA_LATCH_COUNT => { index := 0x8000, sub := 0x09, ty := .u16, acc := .rw, persisted := true, effect := .opening, nIdx := 64, stride := 256, dflt := .kw0 16384 16384, range := .segs [(0, 16384)] }
  | .ENERGY_SHARE => { index := 0x8000, sub := 0x0A, ty := .u16, acc := .rw, persisted := true, nIdx := 64, stride := 256, dflt := .kw0 1000 1000, range := .segs [(0, 1000)] }
  | .DMA_KEY_SLOT => { index := 0x8000, sub := 0x0B, ty := .u8, acc := .rw, persisted := true, effect := .opening, nIdx := 64, stride := 256, dflt := .num 255, range := .segs [(0, 127), (255, 255)] }
  | .LINK_KEY_SLOT => { index := 0x8000, sub := 0x0C, ty := .u8, acc := .rw, persisted := true, effect := .opening, nIdx := 64, stride := 256, dflt := .num 255, range := .segs [(0, 127), (255, 255)] }
  | .IDE_STREAM => { index := 0x8000, sub := 0x0D, ty := .u8, acc := .rw, persisted := true, effect := .opening, nIdx := 64, stride := 256, dflt := .num 255, range := .segs [(0, 7), (255, 255)] }
  | .KW_MEM_USED => { index := 0x8000, sub := 0x0E, ty := .u32, acc := .ro, nIdx := 64, stride := 256, dflt := .num 0 }
  | .LC_STATE => { index := 0x4000, sub := 0x01, ty := .u8, acc := .ro, range := .segs [(0, 5)] }
  | .LC_RETURNS => { index := 0x4000, sub := 0x02, ty := .u8, acc := .ro, expert := true, range := .segs [(0, 4)] }
  | .LC_NONCE => { index := 0x4000, sub := 0x03, ty := .blob, acc := .ro, expert := true, len := 32 }
  | .LC_REQUEST => { index := 0x4000, sub := 0x04, ty := .blob, acc := .wo, expert := true, effect := .now, len := 132 }
  | .JTAG_STATE => { index := 0x4000, sub := 0x05, ty := .u8, acc := .ro, dflt := .num 0, range := .segs [(0, 1)] }
  | .DEBUG_UNLOCK => { index := 0x4000, sub := 0x06, ty := .blob, acc := .wo, expert := true, effect := .now, len := 132 }
  | .MGMT_KEY_INSTALL => { index := 0x4000, sub := 0x07, ty := .blob, acc := .wo, expert := true, effect := .now, len := 148 }
  | .MGMT_MAC => { index := 0x4000, sub := 0x08, ty := .u64, acc := .ro }
  | .MGMT_IPV4 => { index := 0x4000, sub := 0x09, ty := .u32, acc := .rw, persisted := true, dflt := .num 0 }
  | .MGMT_IPV4_PREFIX => { index := 0x4000, sub := 0x0A, ty := .u8, acc := .rw, persisted := true, dflt := .num 24, range := .segs [(0, 32)] }
  | .MGMT_IPV4_GW => { index := 0x4000, sub := 0x0B, ty := .u32, acc := .rw, persisted := true, dflt := .num 0 }
  | .MGMT_IPV6 => { index := 0x4000, sub := 0x0C, ty := .blob, acc := .rw, persisted := true, len := 16 }
  | .MGMT_IPV6_PREFIX => { index := 0x4000, sub := 0x0D, ty := .u8, acc := .rw, persisted := true, dflt := .num 64, range := .segs [(0, 128)] }
  | .KEX_ID => { index := 0x4000, sub := 0x0E, ty := .u32, acc := .ro }
  | .KEX_PUBLIC => { index := 0x4000, sub := 0x0F, ty := .blob, acc := .ro, len := 97 }
  | .KEY_INSTALL => { index := 0x4000, sub := 0x10, ty := .blob, acc := .wo, effect := .now, len := 148 }
  | .KEY_CLOSE => { index := 0x4000, sub := 0x11, ty := .u8, acc := .wo, expert := true, range := .segs [(0, 127)] }
  | .KEY_QUERY => { index := 0x4000, sub := 0x12, ty := .u8, acc := .rw, effect := .now, dflt := .num 0, range := .segs [(0, 127)] }
  | .KEY_INFO => { index := 0x4000, sub := 0x13, ty := .blob, acc := .ro, len := 16 }
  | .KEY_DRAIN => { index := 0x4000, sub := 0x14, ty := .u16, acc := .rw, expert := true, persisted := true, dflt := .num 512, range := .segs [(64, 4095)] }
  | .MEAS_REG => { index := 0x4000, sub := 0x15, ty := .blob, acc := .ro, len := 240 }
  | .KEYWAYS_CONFIDENTIAL => { index := 0x4000, sub := 0x16, ty := .u64, acc := .ro, dflt := .num 0 }
  | .SEALED_AUTH_FAIL => { index := 0x4000, sub := 0x17, ty := .u32, acc := .ro, dflt := .num 0 }
  | .VFS_ENABLED => { index := 0x4000, sub := 0x18, ty := .u8, acc := .ro, dflt := .num 0, range := .segs [(0, 63)] }
  | .SENSE_READINGS => { index := 0x5000, sub := 0x01, ty := .blob, acc := .ro, len := 640 }
  | .SENSE_STATE => { index := 0x5000, sub := 0x02, ty := .u8, acc := .ro, dflt := .num 0, range := .segs [(0, 4)] }
  | .SENSE_AVG_LOG2 => { index := 0x5000, sub := 0x03, ty := .blob, acc := .rw, expert := true, persisted := true, len := 40 }
  | .SENSE_SHIFT => { index := 0x5000, sub := 0x04, ty := .blob, acc := .rw, expert := true, persisted := true, len := 40 }
  | .XCHK_TOL => { index := 0x5000, sub := 0x05, ty := .u16, acc := .rw, expert := true, persisted := true, dflt := .num 2000, range := .segs [(500, 20000)] }
  | .XCHK_DIFF => { index := 0x5000, sub := 0x06, ty := .i32, acc := .ro, expert := true, dflt := .num 0 }
  | .XCHK_FAIL_COUNT => { index := 0x5000, sub := 0x07, ty := .u32, acc := .ro, dflt := .num 0 }
  | .SENSE_LATE_COUNT => { index := 0x5000, sub := 0x08, ty := .u32, acc := .cor, expert := true, dflt := .num 0 }
  | .SYSCAL_CHAN => { index := 0x5000, sub := 0x09, ty := .u8, acc := .rw, expert := true, persisted := true, dflt := .num 22, range := .segs [(22, 29), (39, 39)] }
  | .SYSCAL_CMD => { index := 0x5000, sub := 0x0A, ty := .u8, acc := .wo, expert := true, range := .segs [(1, 4)] }
  | .SYSCAL_FS_VALUE => { index := 0x5000, sub := 0x0B, ty := .u32, acc := .rw, expert := true, persisted := true, dflt := .num 1000000, range := .segs [(600000, 2300000)] }
  | .SYSCAL_STATUS => { index := 0x5000, sub := 0x0C, ty := .u8, acc := .ro, expert := true, dflt := .num 0, range := .segs [(0, 6)] }
  | .SYSCAL_COEF => { index := 0x5000, sub := 0x0D, ty := .blob, acc := .rw, expert := true, persisted := true, len := 72 }
  | .TH_PULLUP => { index := 0x5000, sub := 0x0E, ty := .blob, acc := .rw, persisted := true, len := 32 }
  | .TH_NOMINAL => { index := 0x5000, sub := 0x0F, ty := .blob, acc := .rw, persisted := true, len := 32 }
  | .TH_BETA => { index := 0x5000, sub := 0x10, ty := .blob, acc := .rw, persisted := true, len := 16 }
  | .VIN_RATIO => { index := 0x5000, sub := 0x11, ty := .f32, acc := .rw, persisted := true, dflt := .num 1090519040, range := .f32 0x3F800000 0x41A00000 }
  | .THERM_ONSET => { index := 0x5100, sub := 0x01, ty := .u8, acc := .rw, persisted := true, dflt := .num 95, range := .segs [(70, 103)] }
  | .THERM_EMERG => { index := 0x5100, sub := 0x02, ty := .u8, acc := .rw, expert := true, persisted := true, dflt := .num 102, range := .segs [(75, 104)] }
  | .MEM_ONSET => { index := 0x5100, sub := 0x03, ty := .u8, acc := .rw, persisted := true, dflt := .num 88, range := .segs [(70, 93)] }
  | .MEM_EMERG => { index := 0x5100, sub := 0x04, ty := .u8, acc := .rw, expert := true, persisted := true, dflt := .num 93, range := .segs [(75, 94)] }
  | .TH_LIMIT => { index := 0x5100, sub := 0x05, ty := .blob, acc := .rw, persisted := true, len := 8 }
  | .THERM_HYST => { index := 0x5100, sub := 0x06, ty := .u8, acc := .rw, expert := true, persisted := true, dflt := .num 3, range := .segs [(1, 10)] }
  | .DETENT => { index := 0x5100, sub := 0x07, ty := .u16, acc := .rw, persisted := true, dflt := .num 32, range := .segs [(4, 1024)] }
  | .THROTTLE_STEP => { index := 0x5100, sub := 0x08, ty := .u8, acc := .rw, expert := true, persisted := true, dflt := .num 10, range := .segs [(2, 50)] }
  | .PACE_STATE => { index := 0x5100, sub := 0x09, ty := .blob, acc := .ro, len := 24 }
  | .TJ_MAX_SEEN => { index := 0x5100, sub := 0x0A, ty := .i16, acc := .cor, dflt := .num 32768 }
  | .HOTTEST_SOURCE => { index := 0x5100, sub := 0x0B, ty := .u8, acc := .ro, dflt := .num 255 }
  | .MEM_TEMPS => { index := 0x5100, sub := 0x0C, ty := .blob, acc := .ro, len := 16 }
  | .THROTTLE_BEATS => { index := 0x5100, sub := 0x0D, ty := .u32, acc := .ro, dflt := .num 0 }
  | .EMERG_COUNT => { index := 0x5100, sub := 0x0E, ty := .u32, acc := .ro, dflt := .num 0 }
  | .TRIP_TEMP => { index := 0x5100, sub := 0x0F, ty := .u8, acc := .ro, dflt := .num 115 }
  | .PWR_LIMIT => { index := 0x5200, sub := 0x01, ty := .u16, acc := .rw, persisted := true, dflt := .num 1200, range := .segs [(300, 1200)] }
  | .PWR_FLOOR => { index := 0x5200, sub := 0x02, ty := .u16, acc := .rw, expert := true, persisted := true, dflt := .num 300, range := .segs [(200, 600)] }
  | .BOOT_POWER_MAX => { index := 0x5200, sub := 0x03, ty := .u16, acc := .rw, expert := true, persisted := true, dflt := .num 600, range := .segs [(200, 1200)] }
  | .PWR_NOW => { index := 0x5200, sub := 0x04, ty := .u16, acc := .ro, dflt := .num 0 }
  | .P_THR => { index := 0x5200, sub := 0x05, ty := .u16, acc := .ro, dflt := .num 1200 }
  | .ENERGY_BUDGET => { index := 0x5200, sub := 0x06, ty := .u32, acc := .ro, dflt := .num 0 }
  | .ENERGY_BASE => { index := 0x5200, sub := 0x07, ty := .u32, acc := .ro, expert := true, dflt := .num 0 }
  | .ENERGY_USED_LAST => { index := 0x5200, sub := 0x08, ty := .u32, acc := .ro, dflt := .num 0 }
  | .PWR_STALL_NS => { index := 0x5200, sub := 0x09, ty := .u64, acc := .ro, expert := true, dflt := .num 0 }
  | .PWM_FREQ => { index := 0x5200, sub := 0x0A, ty := .u16, acc := .rw, expert := true, persisted := true, effect := .powerUp, dflt := .num 800, range := .segs [(400, 1500)] }
  | .PHASE_SHED => { index := 0x5200, sub := 0x0B, ty := .bool, acc := .rw, expert := true, persisted := true, effect := .powerUp, dflt := .num 1, range := .segs [(0, 1)] }
  | .AVS_ENABLE => { index := 0x5200, sub := 0x0C, ty := .bool, acc := .rw, expert := true, persisted := true, dflt := .num 1, range := .segs [(0, 1)] }
  | .VCORE_FIXED => { index := 0x5200, sub := 0x0D, ty := .u16, acc := .rw, expert := true, persisted := true, dflt := .num 750, range := .segs [(650, 850)] }
  | .VCORE_SET => { index := 0x5200, sub := 0x0E, ty := .blob, acc := .ro, len := 8 }
  | .IMON_SCALE => { index := 0x5200, sub := 0x0F, ty := .blob, acc := .rw, expert := true, persisted := true, len := 96 }
  | .RAIL_INFO => { index := 0x5200, sub := 0x10, ty := .blob, acc := .ro, len := 192 }
  | .RAIL_FAULT_COUNT => { index := 0x5200, sub := 0x11, ty := .u32, acc := .ro, dflt := .num 0 }
  | .RESIDUE_MISMATCH_COUNT => { index := 0x6000, sub := 0x01, ty := .u32, acc := .ro, dflt := .num 0 }
  | .AUDIT_AFFECTED_COUNT => { index := 0x6000, sub := 0x02, ty := .u32, acc := .ro, perKw := true, dflt := .num 0 }
  | .AUDIT_AFFECTED_LIST => { index := 0x6000, sub := 0x03, ty := .blob, acc := .ro, perKw := true, len := 768 }
  | .ESCALATE_TIERS => { index := 0x6000, sub := 0x04, ty := .u8, acc := .rw, expert := true, persisted := true, dflt := .num 3, range := .segs [(2, 16)] }
  | .ESCALATE_COLS => { index := 0x6000, sub := 0x05, ty := .u8, acc := .rw, expert := true, persisted := true, dflt := .num 8, range := .segs [(2, 64)] }
  | .RESIDUE_QUARANTINE => { index := 0x6000, sub := 0x06, ty := .u16, acc := .rw, expert := true, persisted := true, dflt := .num 1024, range := .segs [(64, 16384)] }
  | .KAT_COUNT => { index := 0x6000, sub := 0x07, ty := .u32, acc := .ro, expert := true, dflt := .num 0 }
  | .WARD_WDT_RESETS => { index := 0x6000, sub := 0x08, ty := .u32, acc := .ro, dflt := .num 0 }
  | .CPER_ENABLE => { index := 0x6000, sub := 0x09, ty := .bool, acc := .rw, persisted := true, dflt := .num 1, range := .segs [(0, 1)] }
  | .CPER_WARN => { index := 0x6000, sub := 0x0A, ty := .bool, acc := .rw, expert := true, persisted := true, dflt := .num 0, range := .segs [(0, 1)] }
  | .CPER_RING_ADDR => { index := 0x6000, sub := 0x0B, ty := .u64, acc := .rw, persisted := true, dflt := .num 0, range := .mult 0 18446744073709551615 4096 }
  | .CPER_RING_LOG2 => { index := 0x6000, sub := 0x0C, ty := .u8, acc := .rw, persisted := true, dflt := .num 6, range := .segs [(4, 12)] }
  | .CPER_VECTOR => { index := 0x6000, sub := 0x0D, ty := .u16, acc := .rw, persisted := true, dflt := .num 0, range := .segs [(0, 2047)] }
  | .CPER_WRITTEN => { index := 0x6000, sub := 0x0E, ty := .u32, acc := .ro, dflt := .num 0 }
  | .CPER_LAST => { index := 0x6000, sub := 0x0F, ty := .blob, acc := .ro, len := 296 }
  | .EVT_NEWEST_SEQ => { index := 0x6100, sub := 0x01, ty := .u32, acc := .ro, dflt := .num 0 }
  | .EVT_OLDEST_SEQ => { index := 0x6100, sub := 0x02, ty := .u32, acc := .ro, dflt := .num 0 }
  | .EVT_QUERY => { index := 0x6100, sub := 0x03, ty := .u32, acc := .rw, effect := .now, dflt := .num 0 }
  | .EVT_WINDOW => { index := 0x6100, sub := 0x04, ty := .blob, acc := .ro, len := 1024 }
  | .EVT_RATE_BURST => { index := 0x6100, sub := 0x05, ty := .u8, acc := .rw, expert := true, persisted := true, dflt := .num 8, range := .segs [(1, 64)] }
  | .EVT_RATE_PERIOD => { index := 0x6100, sub := 0x06, ty := .u16, acc := .rw, expert := true, persisted := true, dflt := .num 125, range := .segs [(10, 10000)] }
  | .EVT_DROPPED => { index := 0x6100, sub := 0x07, ty := .u32, acc := .ro, dflt := .num 0 }
  | .EVT_DAMAGED => { index := 0x6100, sub := 0x08, ty := .u32, acc := .ro, expert := true, dflt := .num 0 }
  | .POWER_CYCLES => { index := 0x6100, sub := 0x09, ty := .u32, acc := .ro }
  | .OP_HOURS => { index := 0x6100, sub := 0x0A, ty := .u32, acc := .ro }
  | .EVT_SINK_ADDR => { index := 0x6100, sub := 0x0B, ty := .blob, acc := .rw, persisted := true, len := 18 }
  | .EVT_NOTIFY_MIN_CLASS => { index := 0x6100, sub := 0x0C, ty := .u8, acc := .rw, persisted := true, dflt := .num 4, range := .segs [(1, 1), (4, 4), (8, 8), (12, 12)] }
  | .EVT_HEARTBEAT => { index := 0x6100, sub := 0x0D, ty := .u16, acc := .rw, persisted := true, dflt := .num 1000, range := .segs [(100, 10000)] }
  | .EVT_VECTOR => { index := 0x6100, sub := 0x0E, ty := .u16, acc := .rw, perKw := true, persisted := true, dflt := .num 0, range := .segs [(0, 2047)] }
  | .CRIT_UNACK => { index := 0x6100, sub := 0x0F, ty := .u16, acc := .ro, dflt := .num 0 }
  | .EVT_ACK => { index := 0x6100, sub := 0x10, ty := .u32, acc := .wo }
  | .EVT_LAST => { index := 0x6100, sub := 0x11, ty := .blob, acc := .ro, len := 64 }
  | .MBIST_RESULT => { index := 0x6200, sub := 0x01, ty := .u8, acc := .ro, dflt := .num 0, range := .segs [(0, 2)] }
  | .MBIST_FAIL_COUNT => { index := 0x6200, sub := 0x02, ty := .u16, acc := .ro, dflt := .num 0, range := .segs [(0, 1024)] }
  | .MBIST_QUERY => { index := 0x6200, sub := 0x03, ty := .u16, acc := .rw, expert := true, effect := .now, dflt := .num 0, range := .segs [(0, 1023)] }
  | .MBIST_WINDOW => { index := 0x6200, sub := 0x04, ty := .blob, acc := .ro, expert := true, len := 1024 }
  | .MBIST_TIME => { index := 0x6200, sub := 0x05, ty := .u16, acc := .ro, expert := true, dflt := .num 0 }
  | .BIST_AUTH => { index := 0x6200, sub := 0x06, ty := .blob, acc := .wo, expert := true, effect := .now, len := 132 }
  | .LBIST_RUN => { index := 0x6200, sub := 0x07, ty := .u32, acc := .wo, expert := true }
  | .LBIST_PATTERNS => { index := 0x6200, sub := 0x08, ty := .u32, acc := .rw, expert := true, persisted := true, dflt := .num 65536, range := .mult 1024 1048576 1024 }
  | .ARRAY_TEST_RUN => { index := 0x6200, sub := 0x09, ty := .u32, acc := .wo, expert := true }
  | .BIST_RESULT => { index := 0x6200, sub := 0x0A, ty := .blob, acc := .ro, expert := true, len := 32 }
  | .BOOT_STATE => { index := 0x7000, sub := 0x01, ty := .u8, acc := .ro, dflt := .num 0, range := .segs [(0, 8)] }
  | .LIMITED_CAUSE => { index := 0x7000, sub := 0x02, ty := .u16, acc := .ro, dflt := .num 0 }
  | .HOST_READY => { index := 0x7000, sub := 0x03, ty := .bool, acc := .ro, dflt := .num 0, range := .segs [(0, 1)] }
  | .IMAGE_INFO => { index := 0x7000, sub := 0x04, ty := .blob, acc := .ro, len := 1152 }
  | .BANK_STATE => { index := 0x7000, sub := 0x05, ty := .blob, acc := .ro, len := 6 }
  | .IF_REVS => { index := 0x7000, sub := 0x06, ty := .blob, acc := .ro, len := 6 }
  | .FW_TARGET => { index := 0x7000, sub := 0x07, ty := .u8, acc := .rw, expert := true, dflt := .num 2, range := .segs [(1, 3)] }
  | .FW_SEG_SEL => { index := 0x7000, sub := 0x08, ty := .u8, acc := .rw, expert := true, dflt := .num 0, range := .segs [(0, 5)] }
  | .FW_SEG => { index := 0x7000, sub := 0x09, ty := .blob, acc := .wo, expert := true, len := 1048576 }
  | .FW_COMMIT => { index := 0x7000, sub := 0x0A, ty := .u32, acc := .wo, expert := true, range := .segs [(192, 6291456)] }
  | .FW_COMMIT_RESULT => { index := 0x7000, sub := 0x0B, ty := .u8, acc := .ro, expert := true, dflt := .num 0, range := .segs [(0, 4)] }
  | .FW_BANK_SELECT => { index := 0x7000, sub := 0x0C, ty := .u8, acc := .wo, expert := true, range := .segs [(1, 3)] }
  | .DEV_POWER_CMD => { index := 0x7000, sub := 0x0D, ty := .u8, acc := .wo, expert := true, range := .segs [(0, 2)] }
  | .BOOT_TIMES => { index := 0x7000, sub := 0x0E, ty := .blob, acc := .ro, len := 48 }
  | .RESET_CAUSE => { index := 0x7000, sub := 0x0F, ty := .u8, acc := .ro, dflt := .num 0, range := .segs [(0, 2)] }
  | .HOST_RESETS => { index := 0x7000, sub := 0x10, ty := .u32, acc := .ro, dflt := .num 0 }

/-- Objects of the tables, part 0. -/
def Obj.part0 : List Obj :=
  [.PART_CODE, .STEPPING, .COMPUTE_DIES, .CLUSTERS_PER_DIE, .CORES_PER_CLUSTER, .ENGINES_PER_CORE, .ENGINE_ROWS, .ENGINE_COL_PAIRS, .ENGINE_TIERS, .SPARE_COL_PAIRS, .ENGINES_BUILT, .ATTN_ENGINES, .MEM_STACKS, .STACK_SIZE, .CORE_SRAM, .CLUSTER_SRAM, .MODEL_SLOTS, .REQ_ENTRIES, .LATCHES, .KEYWAYS, .HINGE_LOCAL_PORTS, .HINGE_GLOBAL_PORTS, .BEAT_SOURCE, .BEAT_LINK_PORT, .BEAT_STATE, .BEAT_PERIOD_EST, .BEAT_PHASE_ERR, .BEAT_PHASE_ERR_MAX, .BEAT_JITTER_TOL, .BEAT_LOCK_COUNT, .BEAT_FREERUN_LIMIT, .BEAT_SELF_PERIOD, .OPEN_END, .QUIET_START, .BEAT_NUMBER, .BEAT_NUMBER_SET, .NOTCH_NOW, .GLITCH_COUNT, .STEP_OVERRUN_COUNT, .LINK_BEAT_OFFSET, .CLUSTERS_ONLINE, .QUAD_GATE_REQ, .QUAD_GATED, .HASP_LIVE, .STEP_LEADER, .SRAM_CORRECTED_COUNT, .SRAM_UNCORR_COUNT, .SRAM_LAST_ERR_UNIT, .SRAM_LAST_ERR_ADDR, .UNIT_QUERY, .UNIT_STATE, .CTRL_RESET_COUNT, .CORE_SITE_MAP_n, .CLAMP_COUNT, .RESP_LOG_COUNT, .GDP_BAD_FRAMES, .SESSIONS_OPEN, .CLAMP_NEXT, .RESP_NEXT, .CLAMP_REC_n]

/-- Objects of the tables, part 1. -/
def Obj.part1 : List Obj :=
  [.RESP_REC_n, .FUNC_ENABLE, .FUNC_STATE, .FUNC_LATCHED, .FUNC_OPEN_LIMIT, .FUNC_CLOSE_LIMIT, .FUNC_FAIL_CAUSE, .ACT_FORMAT, .OUTLIER_ENABLE, .OUTLIER_THRESH, .OUTLIER_MAX_BLOCK, .SCALE_MODE, .KV_FORMAT_DEFAULT, .FMT_NONFINITE_COUNT, .FMT_BAD_BLOCK_COUNT, .FMT_SCALE_CLAMP_COUNT, .OUTLIERS_SELECTED, .ALIGN_DIGITS_ZEROED, .ENGINES_AVAILABLE, .ENGINES_RETIRED, .TIERS_GOOD, .TIERS_SUSPECT, .TIERS_WORN, .TIERS_RETIRED, .SPARES_USED, .COUNT_GAIN_DEFAULT, .SAT_RETRY, .RANGE_MARGIN, .RANGE_FAIL_LIMIT, .SPARES_LOW_MARK, .PASS_COUNT, .SAT_RETRY_COUNT, .SAT_COUNT, .RANGE_FAIL_COUNT, .ENG_QUERY, .ENG_INFO, .REMAP_TABLE, .ENG_RETIRE_REQ, .PASS_E_FIXED, .PASS_E_ROW, .PASS_E_TIER, .JOIN_MODE_DEFAULT, .EXACT_FRAC_DEFAULT, .OUTLIER_LOAD_BUDGET, .OUTLIER_DERATE_COUNT, .OUTLIER_DERATE_NS, .SAT_REPAIR_COUNT, .SPLIT_RECOMPUTE_COUNT, .DIGITAL_REPAIR_COUNT, .REPAIR_FAIL_COUNT, .CHUNK_OVF_COUNT, .EXACT_INEXACT_COUNT, .NONFINITE_LOGIT_COUNT, .AUDIT_ENABLE, .AUDIT_TILES, .AUDIT_TOL_TICKS, .AUDIT_TOL_GAIN, .AUDIT_COUNT, .AUDIT_FAIL_COUNT, .AUDIT_SKIPPED]

/-- Objects of the tables, part 2. -/
def Obj.part2 : List Obj :=
  [.AUDIT_EXPORT, .RESID_TABLE, .ADAPTERS_MAX, .ADAPTER_TABLE, .CAL_DUE_COUNT, .CAL_RUNS_DONE, .CAL_RUNS_DISCARDED, .CAL_COLUMNS_REJECTED, .CAL_OVERRUN_COUNT, .CAL_SKIPPED_BEATS, .CAL_DT_WORST, .CAL_REF_DEV_d, .CAL_DIES_HALTED, .CAL_ENGINES_PER_CORE, .CAL_REPEATS, .CAL_POWERUP_RUN, .CAL_DT_THRESH, .CAL_DT_ALARM, .CAL_MAX_AGE, .CAL_GAIN_LIMIT, .CAL_OFFSET_LIMIT, .CAL_LIN_LIMIT, .CAL_STEP_LIMIT, .CAL_COL_FAIL_MAX, .CAL_RAMP_FAIL_PCT, .CAL_REF_TOL, .CAL_NV_INTERVAL, .CAL_SENSE_PERIOD, .CAL_INFO, .TRIM_TABLE, .CAL_RUN_REQ, .SLOTS_SERVING, .ENGINES_IDLE, .TIERS_FREE, .SHARD_RETRY_MAX, .SHARD_TIMEOUT, .SHARD_INFLIGHT, .PROG_POWER_MAX, .PROG_MAX_STEPS, .SCRUB_INTERVAL, .SCRUB_TIERS_PER_CORE, .PROG_W_TIER, .PROG_TIERS_COUNT, .SCRUB_TIERS_COUNT, .SCRUB_MISMATCH_COUNT, .SCRUB_OVERDUE, .REQ_RING_ADDR, .REQ_RING_LEN, .REQ_RING_VECTOR, .IMAGE_REBUILD_COUNT, .ADAPTER_LOAD, .SLOT_STATE, .SLOT_CMD, .SLOT_CMD_RESULT, .LOAD_FAIL_CODE, .SLOT_MANIFEST, .SLOT_OWNER, .SLOT_SHARE, .SLOT_SOURCE, .SWAP_MODE]

/-- Objects of the tables, part 3. -/
def Obj.part3 : List Obj :=
  [.SWAP_STATE, .MODEL_ID, .CURRENT_VERSION, .PENDING_VERSION, .OLD_VERSION, .MANIFEST_DIGEST, .SHARDS_PENDING, .SHARD_RETRIES, .TILES_PLACED, .TILES_DIGITAL, .PLACE_QUERY, .PLACE_WINDOW, .KV_PAGE_TOKENS_DEFAULT, .PREFIX_ENABLE, .PREFIX_MAX_PCT, .KV_BYTES_USED, .KV_PAGES_USED, .SEQS_ACTIVE, .PREFIX_LOOKUP_TOKENS, .PREFIX_HIT_TOKENS, .PREFIX_EVICTIONS, .COW_COPIES, .REFCOUNT_SATURATED, .FREES_DEFERRED, .EPOCH_OLDEST, .KV_WALK_FAULTS, .RING_ROUND_TIMEOUT, .RING_SEQS, .SEQ_QUERY, .SEQ_INFO, .KV_NO_PAGE_COUNT, .ATTN_MAP, .ATTN_MAP_VERSIONS, .ROLE, .SUBMIT_RING_ADDR, .SUBMIT_RING_LEN, .CONS_TABLE_ADDR, .TOKEN_VECTOR, .TOKEN_IRQ_GAP, .STEP_FILL_PCT, .PREFILL_CHUNK_MAX, .ADMIT_MAX_PER_BEAT, .ADMIT_TIMEOUT, .STEP_RETRY_MAX, .SPEC_REJECT_LIMIT, .SPEC_REARM_BEATS, .HANDOFF_TIMEOUT, .RING_STALL_LIMIT, .KV_WAIT_LIMIT, .REQS_ACTIVE, .REQS_QUEUED, .TOKENS_DELIVERED, .TOKENS_LATE, .STEPS_FAULTED, .REQS_FAILED, .RING_STALLS, .ENERGY_HELD_STEPS, .SPEC_PROPOSED, .SPEC_ACCEPTED, .HANDOFF_ORPHANS]

/-- Objects of the tables, part 4. -/
def Obj.part4 : List Obj :=
  [.REQ_QUERY, .REQ_INFO, .REQ_CANCEL, .REQ_REARM, .HIST_QUERY, .HIST_WINDOW, .HIST_CLEAR, .TTFT_BUDGET, .TOKEN_BUDGET, .LATE_POLICY, .LATE_LIMIT, .CLASS_TOKENS, .CLASS_TOKENS_LATE, .FABRIC_ADDR, .LOGICAL_ADDR, .FABRIC_MAP, .MAP_EPOCH, .MAP_APPLY_BEAT, .NSLOT, .OWN_SLOT, .JOB_TABLE, .ROUTE_MODE, .ADAPT_THRESH, .SPARE_AUTO, .REPLAY_KEYWAYS, .STANDBY_MAX, .ECHO_MISS_LIMIT, .LOSS_CONFIRM_BEATS, .TRAIN_WINDOW, .TRAIN_TIMEOUT, .FAB_SHARD_STORE, .SPARE_ADOPT, .FAB_ROLE_STATE, .LINK_AUTH_FAIL, .FRAMES_NONMIN, .FRAMES_DISCARDED, .LAST_LOST, .REPLAYS_DONE, .REPLAYS_FAILED, .STANDBY_BYTES, .PORT_MEDIA, .PORT_LINK, .PARTNER_ADDR, .PARTNER_LOGICAL, .LINK_DELAY, .LANES_UP, .FEC_CORRECTED, .FEC_UNCORR, .LINK_RETRIES, .ECHO_MISSES, .TX_BYTES, .RX_BYTES, .LATCHES_IN_VIEW, .LATCH_QUERY, .LATCH_INFO, .LATCH_CPL_ADDR, .LATCH_CPL_LOG2, .LATCH_VECTOR, .LATCH_OPS, .LATCH_TIMEOUTS]

/-- Objects of the tables, part 5. -/
def Obj.part5 : List Obj :=
  [.LATCH_DENIED, .KW_EXPERT_ALLOWED, .KW_CONFIDENTIAL, .QUOTA_CORE_FIRST, .QUOTA_CORE_COUNT, .QUOTA_MEM_PAGES, .QUOTA_REQ, .QUOTA_RINGS, .QUOTA_LATCH_FIRST, .QUOTA_LATCH_COUNT, .ENERGY_SHARE, .DMA_KEY_SLOT, .LINK_KEY_SLOT, .IDE_STREAM, .KW_MEM_USED, .LC_STATE, .LC_RETURNS, .LC_NONCE, .LC_REQUEST, .JTAG_STATE, .DEBUG_UNLOCK, .MGMT_KEY_INSTALL, .MGMT_MAC, .MGMT_IPV4, .MGMT_IPV4_PREFIX, .MGMT_IPV4_GW, .MGMT_IPV6, .MGMT_IPV6_PREFIX, .KEX_ID, .KEX_PUBLIC, .KEY_INSTALL, .KEY_CLOSE, .KEY_QUERY, .KEY_INFO, .KEY_DRAIN, .MEAS_REG, .KEYWAYS_CONFIDENTIAL, .SEALED_AUTH_FAIL, .VFS_ENABLED, .SENSE_READINGS, .SENSE_STATE, .SENSE_AVG_LOG2, .SENSE_SHIFT, .XCHK_TOL, .XCHK_DIFF, .XCHK_FAIL_COUNT, .SENSE_LATE_COUNT, .SYSCAL_CHAN, .SYSCAL_CMD, .SYSCAL_FS_VALUE, .SYSCAL_STATUS, .SYSCAL_COEF, .TH_PULLUP, .TH_NOMINAL, .TH_BETA, .VIN_RATIO, .THERM_ONSET, .THERM_EMERG, .MEM_ONSET, .MEM_EMERG]

/-- Objects of the tables, part 6. -/
def Obj.part6 : List Obj :=
  [.TH_LIMIT, .THERM_HYST, .DETENT, .THROTTLE_STEP, .PACE_STATE, .TJ_MAX_SEEN, .HOTTEST_SOURCE, .MEM_TEMPS, .THROTTLE_BEATS, .EMERG_COUNT, .TRIP_TEMP, .PWR_LIMIT, .PWR_FLOOR, .BOOT_POWER_MAX, .PWR_NOW, .P_THR, .ENERGY_BUDGET, .ENERGY_BASE, .ENERGY_USED_LAST, .PWR_STALL_NS, .PWM_FREQ, .PHASE_SHED, .AVS_ENABLE, .VCORE_FIXED, .VCORE_SET, .IMON_SCALE, .RAIL_INFO, .RAIL_FAULT_COUNT, .RESIDUE_MISMATCH_COUNT, .AUDIT_AFFECTED_COUNT, .AUDIT_AFFECTED_LIST, .ESCALATE_TIERS, .ESCALATE_COLS, .RESIDUE_QUARANTINE, .KAT_COUNT, .WARD_WDT_RESETS, .CPER_ENABLE, .CPER_WARN, .CPER_RING_ADDR, .CPER_RING_LOG2, .CPER_VECTOR, .CPER_WRITTEN, .CPER_LAST, .EVT_NEWEST_SEQ, .EVT_OLDEST_SEQ, .EVT_QUERY, .EVT_WINDOW, .EVT_RATE_BURST, .EVT_RATE_PERIOD, .EVT_DROPPED, .EVT_DAMAGED, .POWER_CYCLES, .OP_HOURS, .EVT_SINK_ADDR, .EVT_NOTIFY_MIN_CLASS, .EVT_HEARTBEAT, .EVT_VECTOR, .CRIT_UNACK, .EVT_ACK, .EVT_LAST]

/-- Objects of the tables, part 7. -/
def Obj.part7 : List Obj :=
  [.MBIST_RESULT, .MBIST_FAIL_COUNT, .MBIST_QUERY, .MBIST_WINDOW, .MBIST_TIME, .BIST_AUTH, .LBIST_RUN, .LBIST_PATTERNS, .ARRAY_TEST_RUN, .BIST_RESULT, .BOOT_STATE, .LIMITED_CAUSE, .HOST_READY, .IMAGE_INFO, .BANK_STATE, .IF_REVS, .FW_TARGET, .FW_SEG_SEL, .FW_SEG, .FW_COMMIT, .FW_COMMIT_RESULT, .FW_BANK_SELECT, .DEV_POWER_CMD, .BOOT_TIMES, .RESET_CAUSE, .HOST_RESETS]

/-- Every object of the dictionary, in the tables' order. -/
def Obj.all : List Obj :=
  Obj.part0 ++ Obj.part1 ++ Obj.part2 ++ Obj.part3 ++ Obj.part4 ++ Obj.part5 ++ Obj.part6 ++ Obj.part7

end Sys2Proof
end

