-- ==== Sys2Proof/Machine/State.lean ====
section
/-! DEFINITION. Machine/State.lean: everything the spec gives the machine, as plain data, and the machine after reset.
Structures are grouped by the chapter that names their state; INVENTORY.md lists each with its rule and reset value. -/
namespace Sys2Proof.Machine
open Sys2Proof

/-- A model's stop. -/
inductive Fault where
  /-- Raised by any command whose operand names a unit, function, port, slot, channel or entry that the device does not
  have: the spec gives such a command no effect, since nothing of the device can send it. Safe: the model stops where
  the hardware has nothing to do. -/
  | noSuchUnit
  deriving DecidableEq, Repr

/-- A command the model refuses. -/
inductive Refusal where
  /-- Raised by the dispatch arm of a command that has no meaning yet. Safe: the model stops. -/
  | notModelled (mnemonic : String)
  deriving DecidableEq, Repr

/-- The two builds of the device (spec/00 R1, R2). -/
inductive Part where
  | a | c
  deriving DecidableEq, Repr

/-- What a command drives outward. -/
inductive Output where
  /-- A GDP reply frame on the path of its request: from port 47900 to the source address and port (spec/03 R86, R93). -/
  | gdpReply (path : GdpPath) (frame : Bytes)
  /-- A DMA access to host memory: the function it carries as requester, whether it writes, address and length (spec/12 R492). -/
  | dma (fn : Nat) (write : Bool) (addr len : Nat)
  /-- An MSI-X signal of a PCIe function (spec/10 R416). -/
  | msix (fn vector : Nat)
  /-- A UDP datagram from port 47900 of the management port (spec/14 R582). -/
  | datagram (frame : Bytes)
  /-- An I3C In-Band Interrupt with its mandatory data byte (spec/14 R583). -/
  | ibi (mdb : Nat)
  /-- A beat marker sent on a Hinge port (spec/01 R21). -/
  | marker (port number state : Nat)
  /-- A frame sent on a Hinge port (spec/11 R456). -/
  | frame (port : Nat) (f : HFrame)
  /-- A register read's value. -/
  | reg (v : Nat)
  /-- An SPDM response on its connection (spec/12 R506). -/
  | spdm (c : SpdmConn) (msg : SpdmMsg)
  /-- A PCIe completion of a configuration request (spec/15 R608). -/
  | config (fn : Nat) (r : ConfigReply)
  /-- A refusal returned to the owning controller of a unit (spec/02 R66). -/
  | orderRefused (unit : UnitId)
  /-- A request to gate a power quadrant, refused back to the power manager (spec/02 R70). -/
  | gateRefused (quad : Nat)
  /-- The result of a mask operation of the vector unit (spec/06 R257). -/
  | mask (v : Nat)
  deriving DecidableEq, Repr

/-! ### Beat (spec/01) -/

/-- BEAT_STATE (Table 1.1). -/
inductive BeatMode where
  | seeking | locked | freerun | self
  deriving DecidableEq, Repr

/-- The beat source in use (R19). -/
inductive BeatSrc where
  | pin | link
  deriving DecidableEq, Repr

/-- Phases of a beat (R34); `none` while no step runs. -/
inductive BeatPhase where
  | none | open_ | run | quiet
  deriving DecidableEq, Repr

/-- Where a count of beats begins: the boundaries and the SEEKING notches that had passed (R41, R634). -/
structure BeatMark where
  count : Nat := 0
  seek  : Nat := 0
  deriving DecidableEq, Repr

/-- A transition beat in progress (R30): the source locked to, its lock's periods, its begin and the instant the lock predicts for the
first new edge. -/
structure Transition where
  source  : BeatSrc
  periods : List Nat
  begin_  : Nat
  predict : Nat
  deriving DecidableEq, Repr

/-- The beat's state. Instants and lengths are in picoseconds. `pinEdges` and `linkEdges` are each source's latest edges, newest first;
`periods` the last accepted beat periods (R22), `pinPeriods` and `linkPeriods` each source's own. -/
structure BeatS where
  mode         : BeatMode := .seeking
  since        : Nat := 0
  source       : BeatSrc := .pin
  pinEdges     : List Nat := []
  linkEdges    : List Nat := []
  periods      : List Nat := []
  lastAccepted : Option Nat := Option.none
  /-- A lock waiting for the next own boundary, to begin a transition beat (R30). -/
  newLock      : Option BeatSrc := Option.none
  /-- The boundary that began this beat, the predicted one that ends it, and this beat's length. -/
  last         : Nat := 0
  next         : Nat := 0
  length       : Nat := 0
  /-- Whether this beat's boundary has been decided, by an accepted edge or as missed (R29). -/
  decided      : Bool := true
  /-- The length of the next beat when its edge has been accepted ahead of the boundary (R26). -/
  early        : Option Nat := Option.none
  missed       : Nat := 0
  firstMissed  : Nat := 0
  trans        : Option Transition := Option.none
  phaseErr     : Int := 0
  number       : Nat := 0
  /-- Boundaries so far: spans of beats are counted in these, because the number may jump (R42). The model's own. -/
  count        : Nat := 0
  /-- Notches that have passed before this beat, and those of them that passed in SEEKING, in 2⁻¹⁶ notches (R41, R634). The model's own. -/
  spent        : Nat := 0
  seekSpent    : Nat := 0
  numberSet    : Option Nat := Option.none
  markNumber   : Option Nat := Option.none
  phase        : BeatPhase := .none
  /-- Cores whose step work runs, with the beat number of their step (R38, R39). -/
  busy         : List (Nat × Nat) := []
  deriving DecidableEq, Repr


/-! ### Hierarchies (spec/02) -/

/-- Unit states (Table 2.7). -/
inductive UState where
  | online | gated | isolated | resetting | retired | faulted | disabled
  deriving DecidableEq, Repr

/-- A poisoned word (R52). -/
structure Poison where
  unit : UnitId
  addr : Nat
  deriving DecidableEq, Repr

/-- The hierarchies' state. Unit maps are keyed by the canonical UNIT_ID; an absent unit is ONLINE with nothing pending. -/
structure HierS where
  own        : Map UState := []
  siteMaps   : List Nat := []
  /-- STEP_LEADER (R56). -/
  leader     : Nat := 0
  /-- When the parents' watch began, with the firmware (R59); none before. -/
  watchFrom  : Option Nat := none
  /-- Instant of each controller's last heartbeat. -/
  beatsAt    : Map Nat := []
  /-- Beats of each controller's resets that have not made it live again, newest first (R61), and the beat of its latest reset (R62). -/
  resets     : Map (List Nat) := []
  resetAt    : Map Nat := []
  /-- Owner of each range of 4,096 request entries, and of the slots n mod 8 (R63). -/
  rangeOwner : List Nat := [0, 1, 2, 3, 4, 5, 6, 7]
  /-- Hasp cores that have delivered their part for the next batch build, and those whose part the running step's build holds (R57). -/
  delivered  : List Nat := []
  merged     : List Nat := []
  /-- Units to isolate for management at a boundary (R64). -/
  isolate    : List UnitId := []
  /-- Quadrants being opened, with the instant the opening began (R69); quadrants whose gating was refused, as a bitmap (R70). -/
  opening    : Map Nat := []
  /-- Quadrants opened in this beat, which take work from the next step on (R69). -/
  opened     : List Nat := []
  gateRefused : Nat := 0
  poisoned   : List Poison := []
  corrBeats  : List (UnitId × Nat × List Nat) := []
  retiredRows : List (UnitId × Nat) := []
  rowRetire  : List (UnitId × Nat) := []
  deriving DecidableEq, Repr

/-! ### Dictionary (spec/03) -/

/-- A session (R96, R633). A mailbox session has the number 0x8000 + n (R100). -/
structure Session where
  path      : GdpPath
  expert    : Bool := false
  proved    : Bool := false
  claim     : Bool := false
  nonce     : Bytes := []
  challenge : Bytes := []
  opened    : Nat := 0
  active    : Nat := 0
  lastSeq   : Option Nat := none
  reply     : Bytes := []
  deriving DecidableEq, Repr

/-- What each session last wrote to an object that selects for the session alone (R83, R217, R351, R401, R409, R441, R488, R526,
R597). -/
structure Selector where
  session : Nat
  key     : OKey
  value   : Nat
  deriving DecidableEq, Repr

/-- A mailbox of a function (R88, R89). -/
structure Mailbox where
  busy    : Bool := false
  done    : Bool := false
  overrun : Bool := false
  dropped : Bool := false
  irq     : Nat := 0
  req     : Bytes := []
  rsp     : Bytes := []
  deriving DecidableEq, Repr

/-- An open block sequence (R106). -/
structure BlockSeq where
  session : Nat
  key     : OKey
  bytes   : List (Nat × Bytes) := []
  since   : Nat := 0
  deriving DecidableEq, Repr

/-- A clamp record (Table 3.8). -/
structure ClampRec where
  index : Nat
  sub : Nat
  field : Nat
  session : Nat
  transport : Nat
  keyway : Nat
  written : Nat
  applied : Nat
  notch : Nat
  deriving DecidableEq, Repr

/-- A response log record (Table 3.9). -/
structure RespRec where
  index : Nat
  sub : Nat
  op : Nat
  status : Nat
  detail : Nat
  session : Nat
  transport : Nat
  keyway : Nat
  notch : Nat
  deriving DecidableEq, Repr

/-- The dictionary's state. -/
structure GdpS where
  sessions : Map Session := []
  boxes    : Map Mailbox := []
  select   : List Selector := []
  /-- Sources (R96), each by its transport and address: the instants of its failed proofs, and of a mute. -/
  failed   : List ((Nat × Nat) × List Nat) := []
  muted    : List ((Nat × Nat) × Nat) := []
  blocks   : List BlockSeq := []
  clamps   : List ClampRec := []
  clampN   : Nat := 0
  resps    : List RespRec := []
  respN    : Nat := 0
  deriving DecidableEq, Repr

/-- FUNC_STATE (R123). -/
inductive FState where
  | off | opening | on | closing
  deriving DecidableEq, Repr

/-- A function's state (R123–R125, R628–R630): beats spent in the state, what a write has asked for at the next boundary. -/
structure FuncS where
  state   : FState := .off
  latched : Bool := false
  beats   : Nat := 0
  want    : Option Bool := none
  since   : Nat := 0
  cause   : Nat := 0
  deriving DecidableEq, Repr

/-! ### Analogue engines (spec/05) and their calibration (spec/07) -/

/-- Tier health (Table 5.12). -/
inductive Health where
  | good | suspect | worn | retired
  deriving DecidableEq, Repr

/-- Retire cause of an engine (Table 5.19). -/
inductive RetireCause where
  | none | noSpare | rowDriver | rampSources | allTiers | commanded
  deriving DecidableEq, Repr

/-- A remap entry (Table 5.10). -/
structure Remap where
  v      : Bool := false
  all    : Bool := false
  bad    : Bool := false
  column : Nat := 0
  deriving DecidableEq, Repr

/-- Spare programming in progress for a flagged column (R203, R204). -/
structure SpareJob where
  tier   : Nat
  column : Nat
  spare  : Nat
  all    : Bool
  left   : List Nat
  deriving DecidableEq, Repr

/-- Diagnosis in progress (R200): the flagged tier and column, tiers still to read, mismatching pairs (tier, row, column), and the beat of the
last read-back. -/
structure Diag where
  tier   : Nat
  column : Nat
  toRead : List Nat := [0, 1, 2, 3]
  bad    : List (Nat × Nat × Nat) := []
  forced : Bool := false
  readAt : Option Nat := none
  deriving DecidableEq, Repr

/-- One tier of an engine. Column numbers above 511 are spares. `weights` are the digits of the 512 × 512 cell pairs as an image packs them (R305),
none for an erased tier; `refs` says that the reference rows hold Table 5.9; `spareCols` gives the digits of the spare column pairs (R166,
R169). -/
structure TierS where
  weights    : Bytes := []
  refs       : Bool := true
  spareCols  : Map (List Int) := []
  health     : Health := .good
  programs   : Nat := 0
  remap      : Map Remap := []
  shadowMap  : Map Remap := []
  colmax     : Map Nat := []
  shadowMax  : Map Nat := []
  fails      : Map (List Nat) := []
  rangeFails : Nat := 0
  flagged    : List Nat := []
  flagBeats  : List Nat := []
  transient  : List (Nat × Nat) := []
  forced     : List Nat := []
  auditFails : List Nat := []
  trimmed    : Bool := true
  retiring   : Bool := false
  scrubHour  : Nat := 0
  overdue    : Bool := false
  /-- The notch clock and the beat of its last read-back by scrub (R342). -/
  scrubAt    : Nat := 0
  scrubIn    : Option Nat := none
  auditBeat  : Nat := 0
  commitBeat : Nat := 0
  deriving DecidableEq, Repr

/-- Trim state of one engine (Table 7.2); tables are sparse, an absent entry is 0. -/
structure TrimS where
  rampTrim   : Int := 0
  rampSel    : Map Nat := []
  rampFailed : Map Nat := []
  trims      : List (Map Nat) := [[], [], [], []]
  resid      : List (Map Nat) := [[], [], [], []]
  tcal       : Option Int := none
  deriving DecidableEq, Repr

/-- A trim store record (R268). -/
structure NvRec where
  seq   : Nat
  trims : TrimS
  tiers : List Bool
  deriving DecidableEq, Repr

/-- A calibration run in progress (R273): its class, the stages left (0 ramp, 2t + 1 coarse, 2t + 2 fine), the stage under way,
its first beat, the T_q recorded, the columns rejected by tier, the settings at its first stage, and READY. -/
structure CalRun where
  cls      : Nat
  stages   : List Nat
  running  : Option Nat := none
  firstBeat : Nat
  tqs      : List Int := []
  rejected : List (Nat × Nat) := []
  settings : List (OKey × OVal) := []
  ready    : Bool := false
  deriving DecidableEq, Repr

/-- One engine. -/
structure EngS where
  tiers     : List TierS := [{}, {}, {}, {}]
  cause     : RetireCause := .none
  sat       : Nat := 0
  rangeFail : Nat := 0
  passes    : Nat := 0
  lastCol   : Nat := 0
  healthAt  : Nat := 0
  lastTier  : Option Nat := none
  retiring  : Option RetireCause := none
  diag      : Option Diag := none
  spares    : List SpareJob := []
  escalated : Bool := false
  /-- A bank swap waits for the L pass of the pair under way (R185). -/
  swapDue   : Bool := false
  active    : TrimS := {}
  shadow    : TrimS := {}
  due       : Option Nat := none
  dueSince  : Nat := 0
  run       : Option CalRun := none
  standoff  : Option Nat := none
  discards  : Nat := 0
  backlog   : Bool := false
  runsDone  : Nat := 0
  runsDiscarded : Nat := 0
  colsRejected : Nat := 0
  lastCommit : Nat := 0
  commitHour : Nat := 0
  nvA       : Option NvRec := some ⟨1, {}, [true, true, true, true]⟩
  nvB       : Option NvRec := none
  nvWrites  : Nat := 0
  nvLast    : Option Nat := none
  nvDue     : Bool := false
  deriving DecidableEq, Repr

/-! ### Passes, the Keeper and the join (spec/05 R174–R193, spec/06) -/

/-- How a logical output left its pass (R187, R190). -/
inductive OutState where
  | ok | saturated | failed | split | repaired
  deriving DecidableEq, Repr

/-- A logical output of an ended pass: its numerator P (R235), the gain of its counts, its state, its split term (R228). -/
structure OutNum where
  state : OutState
  p     : Int
  gain  : Nat
  term  : Int := 0
  deriving DecidableEq, Repr

/-- A pass under way on an engine, or its sub-passes. `drive` holds the aligned digits of the rows driven; `remap`, `resid` and `colmax` are the
banks it uses (R185); `words` are the count words of the first pass while a retry or its sub-passes run (Table 5.5). The results of a
`dropped` pass are discarded (spec/02 R60, R65). -/
structure Pass where
  eng    : Nat
  tier   : Nat
  plan   : Nat
  half   : PassHalf
  gain   : Nat
  /-- Outputs that the tile places. -/
  cols   : Nat := 512
  ca     : Int
  drive  : List Int
  blocks : List DBlock
  remap  : Map Remap
  resid  : Map Nat
  colmax : Map Nat := []
  kw     : Nat
  req    : Nat
  layer  : Nat
  vec    : Nat := 0
  draft  : Bool := false
  retry  : Bool := false
  words  : List Nat := []
  selected : Bool := false
  split  : Bool := false
  dropped : Bool := false
  deriving DecidableEq, Repr

/-- An ended pass whose counts the Keeper holds: its 512 count words (Table 5.5), its logical outputs, and those counted as saturated and as under
split repair (R189, R226). -/
structure PassDone where
  pass : Pass
  words : List Nat := []
  outs : List OutNum
  sat  : List Nat := []
  split : List Nat := []
  deriving DecidableEq, Repr

/-- A term of a total: its FP32 value, and its exact value `num × 2^e`. -/
structure Term where
  fp  : F32
  num : Int
  e   : Int
  deriving DecidableEq, Repr

/-- A total under formation (R238, R242): its terms by their place in the order of R238, the fraction bits of exact join, its value once it
is formed. -/
structure Total where
  key   : TotalKey
  exact : Option Nat := none
  terms : List (Nat × Term) := []
  value : Option F32 := none
  deriving DecidableEq, Repr

/-- A tile captured for audit (R253): the pass, its first output, the corrected counts of the tile's column pairs, column by column of each
output, the outputs' weight group codes, their numerators and states. -/
structure Capture where
  core  : Nat
  pass  : Pass
  first : Nat
  counts : List (List Int) := []
  codes : List Int := []
  outs  : List OutNum
  beat  : Nat
  deriving DecidableEq, Repr

/-- A block narrowed into core SRAM (R141, R145): core, request, format, scale code byte, data plane and outlier plane bytes. -/
structure NarrowBlk where
  core  : Nat := 0
  req   : Nat
  fmt   : Nat
  scale : Nat
  data  : Bytes
  outs  : Bytes
  deriving DecidableEq, Repr

/-- The Keepers' state. `queue` holds the pass orders that wait for their engines (R184), `open_` the engines whose H pass has run and whose L
pass is to follow (R176); `passes` are in flight, `done` ended; `sums` are results of lane reductions (R251); `energy` is the analogue energy
of the beat in 2⁻³² pJ (R193). `outWork` gives the outlier products of issued passes still to be formed: core, request, number (R221). `seen` counts the passes of the
beat by core (R253); `stepCfg` holds, by its beat, the settings of a step that cores
still work on past its beat (R148, R258). -/
structure KprS where
  queue    : List PassOrder := []
  open_    : Map Pass := []
  outWork  : List (Nat × Nat × Nat) := []
  passes   : List Pass := []
  done     : List PassDone := []
  totals   : List Total := []
  blocks   : List NarrowBlk := []
  sums     : List (Nat × F32) := []
  captures : List Capture := []
  seen     : Map Nat := []
  energy   : Nat := 0
  stepCfg  : Map (List (OKey × OVal)) := []
  deriving DecidableEq, Repr

/-- Calibration of the dies (spec/07). `stageEngs` are the engines that ran a stage in this beat. -/
structure CalS where
  halted    : List Nat := []
  goodRow   : Map Nat := []
  refDev    : Map Int := []
  stageEngs : List Nat := []
  deriving DecidableEq, Repr

/-! ### Model slots (spec/08) -/

/-- Slot states (Table 8.8). -/
inductive SlotState where
  | empty | loading | programming | verifying | ready | serving | degraded | draining | fault
  deriving DecidableEq, Repr

/-- SWAP_STATE (Table 8.9). -/
inductive SwapState where
  | none | loading | programming | ready | cutover
  deriving DecidableEq, Repr

/-- A shard header (Table 8.2) and its bytes. -/
structure ShardHdr where
  kind    : Nat
  fmt     : Nat
  plan    : Nat
  index   : Nat
  layer   : Nat
  flags   : Nat
  rows    : Nat
  cols    : Nat
  rowOff  : Nat
  colOff  : Nat
  gain    : Nat
  act     : Nat
  frac    : Nat
  rank    : Nat
  dataLen : Nat
  scaleLen : Nat
  payLen  : Nat
  bytes   : Bytes
  deriving DecidableEq, Repr

/-- Where a tile stands on its way to service (R323–R328, R334, R348). -/
inductive TileState where
  | waiting | programming | awaitCal | ready | verify
  deriving DecidableEq, Repr

/-- A placed tile (R304, R305, R306). `chunk` numbers its chunk in the version; `tries` counts mismatches of its read-back. -/
structure Tile where
  eng    : Nat
  tier   : Nat
  shard  : Nat
  layer  : Nat
  rowOff : Nat
  colOff : Nat
  rows   : Nat
  cols   : Nat
  plan   : Nat
  chunk  : Nat
  state  : TileState := .waiting
  image  : Bytes := []
  /-- The image's column codes, kept in the slot record (log 56). -/
  codes  : Bytes := []
  digest : Bytes := []
  tries  : Nat := 0
  imageBad : Bool := false
  /-- Its image failed its digest in this beat (R344). -/
  badNext : Bool := false
  /-- In service, it is to be programmed again (R344). -/
  again : Bool := false
  replacing : Bool := false
  deriving DecidableEq, Repr

/-- A shard request (R312, R315, R317): its ring reason, its attempt, whether it has been issued, and from when its beats count: its ring entry
was written or its frame sent; none while it waits for room. -/
structure ShardReq where
  index   : Nat
  reason  : Nat
  attempt : Nat := 1
  issued  : Bool := false
  beat    : Option BeatMark := none
  deriving DecidableEq, Repr

/-- A version of a slot. -/
structure Version where
  number   : Nat
  model    : Nat
  manifest : Bytes
  shards   : List ShardHdr
  accepted : List Nat := []
  reqs     : List ShardReq := []
  tiles    : List Tile := []
  held     : List (Nat × Bytes) := []
  staged   : List (Nat × Bytes) := []
  badHeld  : List Nat := []
  allIn    : Bool := false
  nextChunk : Nat := 0
  /-- Chunks whose replacement found no place, with the beat it was tried at (R335). -/
  retry    : Map Nat := []
  deriving DecidableEq, Repr

/-- A slot record in flash (R346). -/
structure SlotRec where
  seq    : Nat
  state  : SlotState
  enable : Bool
  owner  : Nat
  share  : Nat
  source : Nat
  swap   : Nat
  cur    : Option Version
  pend   : Option Version
  deriving DecidableEq, Repr

/-- What a slot is loading: a first version, a pending version beside the current one (Table 8.9), a version staged while the slot
drains and then placed (Table 8.10), or the power-up checks (R348). -/
inductive LoadPhase where
  | none | first | beside | drain | placed | verify
  deriving DecidableEq, Repr

/-- One model slot. -/
structure SlotS where
  state   : SlotState := .empty
  result  : Nat := 0
  fail    : Nat := 0
  owner   : Nat := 0
  swapSt  : SwapState := .none
  cur     : Option Version := none
  pend    : Option Version := none
  old     : Option Version := none
  retries : Nat := 0
  phase   : LoadPhase := .none
  /-- Beats spent draining for a replacement (R340). -/
  drained : Nat := 0
  /-- The record with the pending version has been written (Table 8.9 step 3). -/
  recorded : Bool := false
  /-- Boundaries passed since the slot became READY (R331). -/
  readyFor : Nat := 0
  recA    : Option SlotRec := some ⟨1, .empty, false, 0, 0, 0xFFFF, 0, none, none⟩
  recB    : Option SlotRec := none
  deriving DecidableEq, Repr

/-- A put waiting for its DMA (R314). -/
structure Put where
  slot  : Nat
  index : Nat
  addr  : Nat
  len   : Nat
  /-- The key generation of a sealed read (R513). -/
  gen   : Option Nat := none
  deriving DecidableEq, Repr

/-- A function's request ring and put registers (R312–R314). -/
structure RingS where
  written : Nat := 0
  cons    : Nat := 0
  /-- Entries waiting for room: slot, reason, shard index, version, attempt. -/
  waiting : List (Nat × Nat × Nat × Nat × Nat) := []
  addrLo  : Nat := 0
  addrHi  : Nat := 0
  len     : Nat := 0
  puts    : List Put := []
  unrequested : Bool := false
  deriving DecidableEq, Repr

/-- A tier program under way (R327). -/
structure Program where
  eng   : Nat
  tier  : Nat
  slot  : Nat
  version : Nat
  second : Bool := false
  deriving DecidableEq, Repr

/-- Slots, rings and programming. -/
structure SlotsS where
  slots    : Map SlotS := []
  rings    : Map RingS := []
  programs : List Program := []
  deriving DecidableEq, Repr

/-! ### Attention and the KV cache (spec/09) -/

/-- A page (R359, R360): its header and, sparsely, the blocks of its K and V planes by block number (scale code byte, data bytes);
`lane` is the geometry it was made with. Addresses throughout are numbers of allocations; Config.memAddr gives the address (log 27). -/
structure PageS where
  magic   : Nat := 0x5047
  fmt     : Nat := 0
  log2    : Nat := 4
  heads   : Nat := 1
  dims    : Nat := 1
  sealed  : Bool := false
  inTree  : Bool := false
  copy    : Bool := false
  kw      : Nat := 0
  /-- The die in whose stacks it lies (R355). -/
  die     : Nat := 0
  layer   : Nat := 0
  group   : Nat := 0
  refs    : Nat := 1
  fill    : Nat := 0
  first   : Nat := 0
  slot    : Nat := 0
  version : Nat := 0
  adapter : Nat := 0
  creator : Nat := 0
  sealTime : Nat := 0
  k       : Map (Nat × Bytes) := []
  v       : Map (Nat × Bytes) := []
  deriving DecidableEq, Repr

/-- A page-table entry (Table 9.5); an absent one has V 0. -/
structure Pte where
  cow  : Bool
  log2 : Nat
  page : Nat
  deriving DecidableEq, Repr

/-- A lane's geometry, from its layer's map entry (Table 9.6, R376), fixed at admission. -/
structure Lane where
  draft   : Bool := false
  layer   : Nat
  group   : Nat
  heads   : Nat
  qper    : Nat
  dims    : Nat
  qfmt    : Nat
  ofmt    : Nat
  window  : Nat := 0
  scale   : F32
  full    : List Nat := []
  globals : List Nat := []
  fmt     : Nat
  /-- Neither the map nor the request names its format: each new page takes KV_FORMAT_DEFAULT (spec/04 R159). -/
  dflt    : Bool := false
  slot    : Nat
  version : Nat
  deriving DecidableEq, Repr

/-- A sequence record (Table 9.3). `state`: 0 free, 1 active, 2 retired, 3 faulted. -/
structure SeqS where
  state    : Nat := 0
  kw       : Nat := 0
  slot     : Nat := 0
  full     : Bool := false
  ring     : Bool := false
  forked   : Bool := false
  version  : Nat := 0
  length   : Nat := 0
  reserved : Nat := 0
  gen      : Nat := 0
  home     : Nat := 0
  log2     : Nat := 8
  adapter  : Nat := 0
  cur      : Nat := 0
  next     : Nat := 0
  /-- RESERVED_TO under the next-step root. -/
  nextTo   : Nat := 0
  dirs     : Nat := 0
  ringId   : Nat := 0xFFFF
  ringSize : Nat := 1
  ringIdx  : Nat := 0
  ringLog2 : Nat := 0
  req      : Nat := 0xFFFF
  lastSwap : Nat := 0
  lanes    : List Lane := []
  /-- Tokens at positions from 0, as far as this device knows them, and the seed of their block hashes (R383). -/
  tokens   : List Nat := []
  seed     : Nat := 0
  /-- The next-step root could not be completed (R394). -/
  noPage   : Bool := false
  /-- The root that the last swap replaced, and the beat of that swap: a step that runs on past it still reads that root (R391). -/
  oldRoot  : Nat := 0
  swapBeat : Nat := 0
  deriving DecidableEq, Repr

/-- A node of a keyway's prefix tree (R382): 16 tokens, its chained hash, its parent's number (0 the root), the pages of the page
set that holds the block, and when it was last matched. -/
structure TreeNode where
  num    : Nat
  kw     : Nat
  parent : Nat
  hash   : Nat
  tokens : List Nat
  pages  : List Nat
  slot   : Nat
  version : Nat
  used   : Nat
  deriving DecidableEq, Repr

/-- An item retired at an open phase (R392), with the memory it holds. -/
inductive Retired where
  | root (addr : Nat) | leaf (addr : Nat) | page (addr : Nat) | seq (idx : Nat) | set
  deriving DecidableEq, Repr

/-- Memory waiting to be freed: tag, owner, bytes, item. -/
structure Waste where
  tag   : Nat
  kw    : Nat
  bytes : Nat
  item  : Retired
  deriving DecidableEq, Repr

/-- A partial of a query row (R370): m, l and o. `row` numbers the row in its lane task. -/
structure Partial where
  seq    : Nat
  lane   : Nat
  row    : Nat
  origin : Nat
  m      : F32
  l      : F32
  o      : List F32
  deriving DecidableEq, Repr

/-- A KV set of a ring sequence's lane as received (R397): its origin, the step's beat, its pages and the memory they take. -/
structure RingSet where
  origin : Nat
  beat   : Nat
  pages  : List PageS
  bytes  : Nat
  deriving DecidableEq, Repr

/-- A ring step of a sequence's lane (R397, R398): whether this member's own task has begun, the query rows, the round under way and when it
began, the sets that have come; `decode` marks the step of the holding member that awaits partials. -/
structure RingRound where
  seq    : Nat
  lane   : Nat
  cluster : Nat := 0
  begun  : Bool := false
  decode : Bool := false
  rows   : List QRow := []
  round  : Nat := 0
  since  : Nat := 0
  sets   : List RingSet := []
  deriving DecidableEq, Repr

/-- An attention map held for a version of a slot (R375). -/
structure AttnMap where
  slot    : Nat
  version : Nat
  bytes   : Bytes
  deriving DecidableEq, Repr

/-- Who holds a walk epoch (R391). -/
inductive EpochBy where
  | lane (seq lane : Nat) | flow (num : Nat)
  deriving DecidableEq, Repr

/-- The KV state. `roots` hold directory entries by index, `leaves` page-table entries by index. -/
structure KvS where
  seqs     : Map SeqS := []
  pages    : Map PageS := []
  roots    : Map (Map Nat) := []
  leaves   : Map (Map Pte) := []
  maps     : List AttnMap := []
  nodes    : List TreeNode := []
  nextNode : Nat := 1
  epochs   : List (Nat × EpochBy) := []
  /-- Clusters that run lane tasks of the step, with the request. -/
  laneUse  : List (Nat × Nat) := []
  retired  : List Waste := []
  nextAddr : Nat := 1
  leaked   : List Nat := []
  partials : List Partial := []
  rounds   : List RingRound := []
  /-- Finished rows of the step: sequence, lane, row, bytes in the layer's OUT_FORMAT. -/
  outputs  : List (Nat × Nat × Nat × Bytes) := []
  deriving DecidableEq, Repr

/-! ### Serving (spec/10) -/

/-- Request states (Table 10.4). -/
inductive RState where
  | free | queued | prefill | decode | held | waitKv | ended
  deriving DecidableEq, Repr

/-- Hold causes (Table 10.5). -/
inductive Hold where
  | none | ringFull | noPage | energy | hasp | retry
  deriving DecidableEq, Repr

/-- A request's place in the step: a decode with its draft length, or a prefill chunk (R423). -/
inductive BatchItem where
  | decode (l : Nat) | prefill (n : Nat)
  deriving DecidableEq, Repr

/-- A handoff train that has arrived for a request (R438): the version it names, its prompt length, deadline and first token. -/
structure HandIn where
  version  : Nat
  prompt   : Nat
  deadline : Nat
  token    : Nat
  deriving DecidableEq, Repr

/-- A request-table entry (Table 10.3) with its descriptor and what the device holds beside it. -/
structure ReqS where
  state     : RState := .free
  kw        : Nat := 0
  slot      : Nat := 0
  cls       : Nat := 0
  version   : Nat := 0
  deadline  : Nat := 0
  admitTime : Nat := 0
  lastDelivery : Nat := 0
  promptLen : Nat := 0
  prefillDone : Nat := 0
  /-- Delivered tokens that its prefill takes after its prompt (R478). -/
  again     : Nat := 0
  generated : Nat := 0
  maxNew    : Nat := 0
  ringProd  : Nat := 0
  draftSlot : Nat := 255
  draftLen  : Nat := 0
  rejectRun : Nat := 0
  lateRun   : Nat := 0
  retries   : Nat := 0
  hold      : Hold := .none
  heldFrom  : RState := .free
  heldBeats : Nat := 0
  /-- Beats held for the present cause (Table 10.5). -/
  causeBeats : Nat := 0
  disarmed  : Bool := false
  /-- The notch time of a recorded cancellation (R430); its references are dropped and its final entry waits for a step that runs on. -/
  cancel    : Option Nat := Option.none
  cancelled : Bool := false
  desc      : Bytes := []
  /-- Notch time and beat of taking, beat of admission (R405, R571). -/
  takenAt   : Nat := 0
  takenBeat : Nat := 0
  admitBeat : Nat := 0
  /-- The boundary count at admission, 0 before. -/
  admitCount : Nat := 0
  /-- The draft's pinned version (R407), and the members of its ring, 1 on one device (R396). -/
  draftVersion : Nat := 0
  members   : Nat := 1
  adapters  : List Bytes := []
  consumed  : Nat := 0
  /-- The END_CAUSE of an end that waits for the next item 3. -/
  ending    : Option (Nat × Nat) := Option.none
  rearmNext : Bool := false
  disarmBeat : Nat := 0
  /-- Its place in the step, the DEADLINE in force when the step began, and whether the step has faulted or been sampled. -/
  batch     : Option BatchItem := Option.none
  stepDeadline : Nat := 0
  stepBeat  : Nat := 0
  faulted   : Bool := false
  sampled   : Bool := false
  /-- Tokens that the step delivered, for its standby record (spec/11 Table 11.10). -/
  stepToks  : List Nat := []
  /-- The last step delivered a late token (R422). -/
  lateNow   : Bool := false
  /-- HANDOFF_OUT (R437): the first token, its LOGPROB and DEADLINE once sampled; the train's flow. -/
  handTok   : Option (Nat × Nat × Nat) := Option.none
  handFlow  : Option Nat := Option.none
  train     : Option HandIn := Option.none
  /-- Its ring sequence has lost a member and is to be prefilled again (spec/11 R480). -/
  ringLost  : Bool := false
  deriving DecidableEq, Repr

/-- Costs a version's batch build plans with (R423): for each draft length 0–8 and for one prefill token, run time in 2⁻¹⁶ notches
and energy in microjoules; what was planned for the step. -/
structure Estimate where
  slot    : Nat
  version : Nat
  dec     : List (Nat × Nat)
  pre     : Nat × Nat
  planned : Nat × Nat := (0, 0)
  deriving DecidableEq, Repr

/-- An ended request of the end log (spec/14 R571). -/
structure EndEntry where
  idx : Nat
  kw : Nat
  slot : Nat
  version : Nat
  tag : Nat
  admitBeat : Nat
  endBeat : Nat
  deriving DecidableEq, Repr

/-- A function's submission ring and serving registers (R403, R404). -/
structure SubS where
  tail : Nat := 0
  head : Nat := 0
  unknown : Bool := false
  bad  : Bool := false
  irqLast : Option Nat := Option.none
  irqHeld : Bool := false
  deriving DecidableEq, Repr

/-- A histogram of a keyway, class and kind (R439); absent buckets are 0. -/
structure Hist where
  kw   : Nat
  cls  : Nat
  kind : Nat
  buckets : Map Nat
  deriving DecidableEq, Repr

/-- The serving state. `budget` is the step energy budget in mJ (R538). -/
structure SrvS where
  reqs  : Map ReqS := []
  subs  : Map SubS := []
  hists : List Hist := []
  ests  : List Estimate := []
  ends  : List EndEntry := []
  endsDropped : Nat := 0
  budget : Nat := 0
  /-- What the batch build has left of the step: time, energy, energy by keyway; and admissions left in the open phase (R57, R423). -/
  room : Nat × Nat × Map Nat := (0, 0, [])
  admitsLeft : Nat := 0
  /-- A request left out for cause 3 has been reported in this beat (R425). -/
  heldTold : Bool := false
  deriving DecidableEq, Repr

/-! ### The Hinge fabric and latches (spec/11) -/

/-- A Hinge port. `link` is PORT_LINK (Table 11.2); `up` the state a SILENT port returns to. -/
structure PortS where
  link     : Nat := 0
  up       : Nat := 2
  partner  : Nat := 0xFFFF
  logical  : Nat := 0xFFFF
  delay    : Nat := 0
  lanes    : Nat := 0
  ident    : Bool := false
  epoch    : Nat := 0
  boot     : Nat := 0
  /-- A marker has come since the last own boundary, consecutive boundaries without one, consecutive markers (R471). -/
  marked   : Bool := false
  misses   : Nat := 0
  marks    : Nat := 0
  /-- It runs on two lanes until its function has been closed and opened again (R447). -/
  half     : Bool := false
  /-- How many times in a row the frame last sent again has been sent again (R446). -/
  resent   : Nat := 0
  /-- When FEC_CORRECTED was last read: it holds 0 until that instant has passed (spec/03 R110). -/
  fecRead  : Option Nat := none
  deriving DecidableEq, Repr

/-- What a flow of this device carries (R464). -/
inductive FlowKind where
  /-- A handoff train of a request (R437), or a ring set of a sequence (R397). -/
  | handoff (req : Nat) | ringSet (seq : Nat)
  | shardReq (slot index : Nat) | shardData
  | latch (who : LatchUser) (num op : Nat)
  | ringQuery (seq layer : Nat) | ringPartial
  | standby
  deriving DecidableEq, Repr

/-- What a frame of a flow carries before it is sealed: TYPE, STATUS, payload, body. -/
structure FlowItem where
  type    : Nat
  status  : Nat
  payload : Bytes
  body    : FrameBody := .none
  deriving DecidableEq, Repr

/-- A flow from this device: its route (first port, intermediate group), what it carries and its frames, how many of them are acknowledged
and how many are sent, the instant and the notch clock when it last progressed, resends. `gen` is the key generation it runs under; `again` says that its train was sent once
more (R467). -/
structure Flow where
  num    : Nat
  kind   : FlowKind
  dst    : Nat
  kw     : Nat
  keySlot : Nat := 0xFF
  gen    : Nat := 0
  port   : Nat
  via    : Option Nat := none
  items  : List FlowItem
  frames : List HFrame
  acked  : Nat := 0
  sent   : Nat := 0
  since  : Nat
  progress : Nat := 0
  resends : Nat := 0
  again  : Bool := false
  deriving DecidableEq, Repr

/-- A flow to this device: source, flow, the next SEQ, frames since the last acknowledgement. -/
structure RxFlow where
  src  : Nat
  flow : Nat
  next : Nat
  kw   : Nat := 0xFF
  enc  : Bool := false
  deriving DecidableEq, Repr

/-- A train under reception (R467): its header, page bytes by page index, and the pages reserved. -/
structure RxTrain where
  src   : Nat
  flow  : Nat
  head  : Bytes
  pages : Map Bytes := []
  order : Bytes := []
  bytes : Nat := 0
  kw    : Nat := 0
  since : Nat := 0
  deriving DecidableEq, Repr

/-- A shard arriving in SHARD_DATA frames (R469). -/
structure RxShard where
  src   : Nat
  flow  : Nat
  next  : Nat := 0
  bytes : Bytes := []
  deriving DecidableEq, Repr

/-- What a member of the own group last advertised (R453). -/
structure Advert where
  globals : List (Nat × Nat × Nat) := []
  links   : List (Nat × Nat) := []
  deriving DecidableEq, Repr

/-- Standby records kept for a member, by its logical address (R475). -/
structure Standby where
  addr : Nat
  recs : List StandbyRec := []
  bytes : Nat := 0
  deriving DecidableEq, Repr

/-- A request awaiting replay (R478). -/
structure Replay where
  idx      : Nat
  kw       : Nat
  desc     : Bytes
  prompt   : List Nat
  version  : Nat
  deadline : Nat
  tokens   : List Nat := []
  ringProd : Nat := 0
  deriving DecidableEq, Repr

/-- The fabric's state. `map` is the map in force, `next` the staged one with its boundary; addresses are logical unless named
otherwise. `adopted` gives physical addresses of adopted logical ones. -/
structure FabS where
  ports    : Map PortS := []
  map      : Bytes := []
  next     : Option Bytes := none
  epoch    : Nat := 0
  logical  : Option Nat := none
  adopted  : Map Nat := []
  lost     : List Nat := []
  lastLost : Nat := 0xFFFF
  confirm  : Map Nat := []
  reach    : Map Advert := []
  own      : List (Nat × Nat × Nat) := []
  flows    : List Flow := []
  rx       : List RxFlow := []
  trains   : List RxTrain := []
  shards   : List RxShard := []
  nextFlow : Nat := 1
  floods   : List (Nat × Nat) := []
  standby  : List Standby := []
  /-- Adoption under way: the address and the boundary at which it is taken; replay still to do. -/
  adopting : Option (Nat × Nat) := none
  replays  : List Replay := []
  replaying : Bool := false
  /-- Slots that a switch-in opens once they are READY (Table 11.11 step 3). -/
  opens    : List Nat := []
  /-- Standby records of this beat that wait to be sent, with their keyway (R475). -/
  outbox   : List (Nat × StandbyRec) := []
  /-- Shard store: slot, version, shard index and bytes of accepted shards (R470). -/
  held     : List (Nat × Nat × Nat × Bytes) := []
  bootCount : Nat := 1
  deriving DecidableEq, Repr

/-- Who waits at a latch (R483, R484): the host of a function with its TAG, a unit, or a remote device with source, flow and
keyway. -/
inductive WaiterBy where
  | host (fn tag : Nat) | unit (kw : Nat) (u : UnitId) | remote (src flow kw keySlot tag : Nat)
  deriving DecidableEq, Repr

/-- A waiter: latch (physical number), number in the view, target, the notch clock at which its timeout ends. -/
structure Waiter where
  latch  : Nat
  num    : Nat
  target : Nat
  until_ : Option Nat := none
  by_    : WaiterBy
  deriving DecidableEq, Repr

/-- A completion of a host's WAIT (Table 11.15). -/
structure LatchCpl where
  num    : Nat
  tag    : Nat
  count  : Nat
  notch  : Nat
  status : Nat
  deriving DecidableEq, Repr

/-- Latch registers and completion ring of a function (Table 11.14). -/
structure LatchRegs where
  num     : Nat := 0
  addr    : Nat := 0
  value   : Nat := 0
  timeout : Nat := 0
  busy    : Bool := false
  done    : Bool := false
  status  : Nat := 0
  result  : Nat := 0
  cons    : Nat := 0
  prod    : Nat := 0
  queue   : List LatchCpl := []
  deriving DecidableEq, Repr

/-- The latch unit. `counts` holds every COUNT that is not 0, `stamps` the notch time of a latch's last operation, `waiters` in
order of arrival. -/
structure LatchS where
  counts  : Map Nat := []
  stamps  : Map Nat := []
  waiters : List Waiter := []
  regs    : Map LatchRegs := []
  deriving DecidableEq, Repr


/-! ### Keyways and the Ward (spec/12) -/

/-- An install into an ACTIVE slot, waiting for the boundary (R511): key, keyway, usage, installs it stands for. -/
structure Rekey where
  key   : Bytes
  kw    : Nat
  usage : Nat
  n     : Nat
  deriving DecidableEq, Repr

/-- A key slot (Table 12.3). State 0 EMPTY, 1 ACTIVE, 2 CLOSING. `next` is a rekey that waits for the boundary; `prev` the
previous generation and the notch clock when the new one took effect (R511). -/
structure KeySlot where
  state  : Nat := 0
  kw     : Nat := 0xFF
  usage  : Nat := 0
  gen    : Nat := 0
  key    : Bytes := []
  flows  : Nat := 0
  next   : Option Rekey := none
  prev   : Option (Bytes × Nat) := none
  /-- The notch clock when CLOSING began. -/
  since  : Nat := 0
  deriving DecidableEq, Repr

/-- Where a removal stands (Table 12.6): `flr` until B0 after a reset; `start` at B0 before item 3; `drain` during step 3; `free` while epochs hold
what step 5 frees; `zero` while its pages are zeroed. -/
inductive Removal where
  | none | flr | start | drain | free | zero
  deriving DecidableEq, Repr

/-- What the Ward holds for one keyway beside its window. -/
structure KeywayS where
  removal : Removal := .none
  /-- The notch clock at B0. -/
  b0      : Nat := 0
  /-- Step 3 has ended. -/
  drained : Bool := false
  /-- An FLR has stopped its DMA until it opens again (R493). -/
  noDma   : Bool := false
  /-- A reset of the function or of the host link started the removal, so the slots it owns are kept (Table 15.3; log 32). -/
  keep    : Bool := false
  /-- The checks of R496 passed at the boundary its OPENING began. -/
  passed  : Bool := false
  /-- Confidential mode in force (R516). -/
  conf    : Bool := false
  deriving DecidableEq, Repr

/-- The pool of 2 MiB pages (R498): bytes in use by each keyway, bytes of the device's reservations, pages reserved by keyways,
zeroing jobs in order (owner keyway or 0xFF, pages), pages withheld by memory BIST. -/
structure MemS where
  used     : Map Nat := []
  images   : Nat := 0
  store    : Nat := 0
  standby  : Nat := 0
  resv     : Map Nat := []
  zeroing  : List (Nat × Nat) := []
  /-- Pages that adapter loads have filled: keyway, page of its address space. -/
  adapters : List (Nat × Nat) := []
  withheld : Nat := 0
  deriving DecidableEq, Repr

/-- How far an SPDM connection has come: 1 after GET_VERSION, 2 after GET_CAPABILITIES, 3 after NEGOTIATE_ALGORITHMS. -/
structure SpdmS where
  stage : Nat := 0
  deriving DecidableEq, Repr

/-- The Ward. Life-cycle state 2 is PROVISIONED (Table 12.8). -/
structure WardS where
  keys     : Map KeySlot := []
  kws      : Map KeywayS := []
  lc       : Nat := 2
  returns  : Nat := 0
  nonce    : Bytes := []
  lcNext   : Option Nat := none
  erasing  : Option Nat := none
  jtag     : Bool := false
  kexId    : Nat := 0
  kexDraw  : Nat := 0
  meas     : List Bytes := []
  mgmtKey  : Option Bytes := none
  mgmtNext : Option Bytes := none
  uds      : Bool := true
  vfs      : Nat := 0
  streams  : Map Nat := []
  spdm     : List (SpdmConn × SpdmS) := []
  deriving DecidableEq, Repr


/-! ### Sense block and power (spec/13) -/

/-- A published reading of a sense channel (R542, R546). `at_` is the notch clock at its publication. -/
structure Reading where
  value  : Int
  raw    : Nat := 0
  stale  : Bool := false
  late   : Bool := false
  fast   : Bool := false
  xchk   : Bool := false
  fault  : Bool := false
  syscal : Bool := false
  notch  : Nat := 0
  conv   : Nat := 0
  at_    : Nat := 0
  deriving DecidableEq, Repr

/-- A system calibration (Table 13.6): SYSCAL_STATUS, the instant of step 1 while a procedure is under way, the capture in progress (1 zero, 2
full scale), the zero captured and the gain computed. -/
structure SysCal where
  status  : Nat := 0
  started : Option Nat := none
  capture : Option Nat := none
  zero    : Int := 0
  gain    : F32 := 0x3f800000#32
  /-- Channels whose coefficients a system calibration has applied since power-up. -/
  applied : List Nat := []
  deriving DecidableEq, Repr

/-- The sense block. Converters are 0 (SA) and 1 (SB). -/
structure SenseS where
  readings : Map Reading := []
  /-- SENSE_STATE (Table 13.5). -/
  mode     : Nat := 0
  xFails   : Nat := 0
  xPasses  : Nat := 0
  xDiff    : Int := 0
  /-- The latest reading of each converter, by 64 × converter + channel (R548). -/
  latest   : Map Int := []
  /-- The channel that each converter converts next, once it has chosen one (R543). -/
  next     : Map Nat := []
  memTemps : Map Int := []
  tjMax    : Option Int := none
  /-- Self-calibration (R294–R297): the converter at it, when each last did it, at which hub temperature, coefficients, and
  converters to do it on leaving service (R549). -/
  selfBusy : Option Nat := none
  selfLast : Map Nat := []
  selfTemp : Map Int := []
  coefs    : Map (Int × Int) := []
  selfWant : List Nat := []
  /-- Thermistor pins that read open or shorted (R545). -/
  pinFault : List Nat := []
  cal      : SysCal := {}
  deriving DecidableEq, Repr


/-- A reduction announced and not yet enforced (R555). -/
structure Cut where
  target  : Nat
  enforce : Nat
  detent  : Nat
  waited  : Nat := 0
  deriving DecidableEq, Repr

/-- The power manager. Powers are in mW, energies in nJ. -/
structure PwrS where
  /-- P_thr and the PWR_LIMIT it was last compared with, in W (R555). -/
  pthr    : Nat := 1200
  limit   : Nat := 1200
  cut     : Option Cut := none
  coolRun : Nat := 0
  /-- The emergency that the next boundary enforces: PACE cause 4 or 5 (R557); sources at or above their emergency level. -/
  emerg   : Option Nat := none
  crossed : List Nat := []
  /-- PACE_STATE. -/
  pace    : Bytes := List.replicate 24 0
  /-- Package power of the last 10 ms, newest first, at most 1,000 samples (R534). -/
  samples : List Nat := []
  stalled : Bool := false
  stallAt : Nat := 0
  /-- Energy of this beat; measured − accounted of the last beats, newest first; measured and E_total of the last beat, when one has been
  measured since SEEKING (R538, R539). -/
  energy  : Nat := 0
  counting : Bool := false
  excess  : List Int := []
  measured : Nat := 0
  total   : Nat := 0
  /-- Domains (R529–R533): state 0 on, 1 off, 2 faulted (absent: off); active phases; last voltage in mV and current in µA; since when each
  phase has not been needed (by 16 × domain + phase); domains with a monitor fault. -/
  rails   : Map Nat := []
  phases  : Map Nat := []
  mv      : Map Nat := []
  ua      : Map Nat := []
  spareAt : Map Nat := []
  monFault : List Nat := []
  /-- When an overvoltage of a domain put its PWM outputs low (Table 13.2). -/
  lowFrom : Map Nat := []
  /-- Adaptive voltage scaling by die (R532): setpoint in mV, last rise, beats in a row with every report above its high mark, dies that
  reported in this beat, dies that reported otherwise. -/
  vcore   : List Nat := [750, 750, 750, 750]
  rose    : Map Nat := []
  runs    : Map Nat := []
  seen    : List Nat := []
  low     : List Nat := []
  deriving DecidableEq, Repr

/-! ### Faults and records (spec/14) -/

/-- An event as raised, waiting for the flash (R578) or written (Table 14.7). -/
structure Event where
  code  : Nat
  kw    : Nat
  unit  : UnitId := 0
  notch : Nat := 0
  p0    : Nat := 0
  p1    : Nat := 0
  p2    : Nat := 0
  raw   : Option Bytes := none
  cont  : Bytes := []
  suppressed : Nat := 0
  summary : Bool := false
  deriving DecidableEq, Repr

/-- A record of the flash ring (Table 14.7): the event and the fields fixed as it is written. -/
structure EvRecord where
  seq    : Nat
  bytes  : Bytes
  deriving DecidableEq, Repr

/-- A rate bucket of one code and keyway (R579): tokens, the instant of the pair's first event, token arrivals counted, and
events suppressed. -/
structure Bucket where
  code   : Nat
  kw     : Nat
  tokens : Nat
  first  : Nat
  ticks  : Nat := 0
  suppressed : Nat := 0
  deriving DecidableEq, Repr

/-- The event recorder's state: the queue (critical events first), the ring's records oldest first. -/
structure EvtS where
  queue    : List Event := []
  loss     : Bool := false
  nextSeq  : Nat := 1
  ring     : List EvRecord := []
  dropped  : List (Nat × Nat) := []
  buckets  : List Bucket := []
  critUnacked : List Nat := []
  irqLast  : Map Nat := []
  irqHeld  : List Nat := []
  cperNext : Nat := 0
  cperLast : Bytes := []
  opMs     : Nat := 0
  opSince  : Option Nat := none
  opSaved  : Nat := 0
  cycles   : Nat := 0
  /-- When the last heartbeat datagram was sent (R582). -/
  hbLast   : Nat := 0
  /-- The Ward watchdog (R585, R586): last restart, expiries within 10 minutes, held in reset, the Ward restarts after an expiry, the stop of
  R586 waits for the boundary. -/
  wdtLast  : Nat := 0
  wdtTimes : List Nat := []
  wdtHeld  : Bool := false
  wdtBack  : Bool := false
  wdtStop  : Bool := false
  /-- Units isolated under R568 or R570: from when the beats of the quarantine count, and whether a residue mismatch caused it. -/
  quarantine : Map (BeatMark × Bool) := []
  /-- Residue mismatches: unit and operating time in ms (R569). -/
  mismatches : List (UnitId × Nat) := []
  /-- The last 32 AUDIT_AFFECTED payloads of each keyway, oldest first (R572). -/
  affected : Map (List Bytes) := []
  deriving DecidableEq, Repr

/-- Tests of units (R569, R590–R595). `kat` are units whose quarantine has ended; `katOk` those that return to ONLINE at the boundary; `kept` those
FAULTED by R569, persisted; `repairs` is the repair list, persisted: kind, unit, address of each word repaired (R591). `lbist` and `array` are runs in progress; `lbistOk` and `arrayOk` what has passed since the authority was granted. -/
structure BistS where
  auth    : Bool := false
  lbist   : Option (UnitId × UState) := none
  array   : Option Nat := none
  lbistOk : List UnitId := []
  arrayOk : List Nat := []
  result  : Bytes := List.replicate 32 0
  kat     : List UnitId := []
  katOk   : List UnitId := []
  kept    : List UnitId := []
  repairs : List (Nat × UnitId × Nat) := []
  /-- Entries of memory BIST (Table 14.11), oldest first, its result and its duration in ms; pages withheld: stack and page. -/
  entries : List Bytes := []
  outcome : Nat := 0
  ms      : Nat := 0
  pages   : List (Nat × Nat) := []
  deriving DecidableEq, Repr

/-! ### Start-up (spec/15) -/

/-- A flash bank of an image (R610, R612): its state (0 EMPTY, 1 VALID, 2 PENDING, 3 BAD), its sequence number, its header and body (an empty header
is that of the image the device was built with, log 9), and whether MAGIC, KIND, signature and BODY_DIGEST verify. -/
structure Bank where
  state : Nat := 0
  seq   : Nat := 0
  hdr   : Bytes := []
  body  : Bytes := []
  good  : Bool := false
  deriving DecidableEq, Repr

/-- Start-up state. `stepped` says that the first step has begun (spec/07 R292). `por` is POR_N, `perst` is set while PERST# is low, `link` while
the PCIe link is up. `banks` are WARD A, WARD B, HASP A, HASP B, STEW A, STEW B; `run` the bank of each kind that runs, 2 for none. -/
structure BootS where
  stepped  : Bool := false
  state    : Nat := 0
  por      : Bool := false
  v3p3     : Bool := true
  /-- THERM_TRIP_N is held low (spec/13 R558). -/
  trip     : Bool := false
  porAt    : Nat := 0
  limited  : Nat := 0
  ready    : Bool := false
  perst    : Bool := false
  link     : Bool := false
  recovery : Bool := false
  /-- Settings are loaded and the WARD image runs. -/
  ward     : Bool := false
  /-- Steps of Table 15.1 whose domains have reached tolerance; steps of Table 15.1 that the power-down has still to take. -/
  steps    : Nat := 0
  down     : List Nat := []
  /-- What the power-down ends in: 1 a warm restart, 2 a stop (R604). -/
  stopping : Nat := 0
  /-- DEV_POWER_CMD or a life-cycle transition waits for the boundary. -/
  command  : Nat := 0
  banks    : List Bank := [⟨1, 1, [], [], true⟩, {}, ⟨1, 1, [], [], true⟩, {}, ⟨1, 1, [], [], true⟩, {}]
  run      : List Nat := [2, 2, 2]
  times    : List Nat := List.replicate 12 0
  cause    : Nat := 0
  /-- Staged segments (R616), the length of a commit in progress and its image kind, its result. -/
  staged   : Map Bytes := []
  commit   : Option Nat := none
  commitKind : Nat := 2
  result   : Nat := 0
  /-- A PENDING bank became BAD before this boot: the event waits for the WARD image (R612). -/
  fallback : List Nat := []
  /-- Functions that R628 has started since power-up. -/
  started  : List Func := []
  /-- The next start is that of a cold reset, which POWER_CYCLES counts (R606). -/
  cold     : Bool := true
  /-- A power-up calibration run (spec/07 R292) holds the first step back. -/
  calWait  : Bool := false
  deriving DecidableEq, Repr


/-- The state of the device. -/
structure State where
  /-- Commands waiting, first in, first out (the block's queue). -/
  pending : List Instr := []
  /-- The instant of the last command, in picoseconds of the hub oscillator (log 1). -/
  now     : Nat := 0
  /-- What the last command drove outward (log 2). -/
  out     : List Output := []
  /-- The counter that free values of Config are applied to (log 4). -/
  free    : Nat := 0
  /-- The build (log 3). -/
  part    : Part := .a
  /-- Settings in force: values of RW objects that differ from a default by a write (spec/03 R103). -/
  cfg     : List (OKey × OVal) := []
  /-- Writes accepted and waiting for their time, in order of acceptance (spec/03 R103, R104). -/
  waiting : List (OKey × OVal) := []
  /-- Counters and other RO registers that are cells of their own. -/
  cnt     : List (OKey × Nat) := []
  /-- Settings persisted in flash (spec/03 R112). -/
  store   : List (OKey × OVal) := []
  beat    : BeatS := {}
  hier    : HierS := {}
  gdp     : GdpS := {}
  funcs   : List (Func × FuncS) := []
  evt     : EvtS := {}
  bist    : BistS := {}
  eng     : Map EngS := []
  kpr     : KprS := {}
  cal     : CalS := {}
  slots   : SlotsS := {}
  /-- Host memory as DMA sees it, canonical (unlisted bytes read 0). -/
  hostMem : List Host.Cell := []
  /-- Each keyway's own memory, by keyway, canonical cells (unlisted bytes read 0). -/
  kwMem   : Map (List Host.Cell) := []
  srv     : SrvS := {}
  kv      : KvS := {}
  sense   : SenseS := {}
  pwr     : PwrS := {}
  fab     : FabS := {}
  latch   : LatchS := {}
  ward    : WardS := {}
  mem     : MemS := {}
  boot    : BootS := {}
  deriving DecidableEq, Repr

/-- The machine at a cold reset (spec/15 R600): every field at its default above. -/
def State.reset : State := {}

end Sys2Proof.Machine
end

