-- ==== Sys2Proof/Machine/Ops.lean ====
section
/-! DEFINITION. Machine/Ops.lean: the operations every command shares: the clock, free values, dictionary cells, memory,
outputs, units and their states, notch time, and raising an event. -/
namespace Sys2Proof.Machine
open Sys2Proof

/-- Begin a command at an instant: the clock never runs back, and the outputs of the last command are gone (log 1, log 2). -/
def State.at (s : State) (t : Nat) : State := { s with now := max s.now t, out := [] }

/-- The cores whose step work still runs (spec/01 R38). -/
def BeatS.busyCores (b : BeatS) : List Nat := b.busy.map Prod.fst

/-- Drive an output. -/
def State.emit (s : State) (o : Output) : State := { s with out := s.out ++ [o] }

/-- Draw a free value below `n` (0 when `n` is 0); the caller goes on with `s.drawn` (log 4). -/
def State.freeBelow (s : State) (n : Nat) : Nat := Config.freeNat s.free % n

/-- The state after drawing one free value. -/
def State.drawn (s : State) : State := { s with free := s.free + 1 }

/-- `n` random bytes from a place of the draw order. -/
def randomBytes : Nat → Nat → Bytes
  | _, 0 => []
  | k, n + 1 => Config.randomByte k :: randomBytes (k + 1) n

/-- Draw `n` random bytes of the Ward (log 6). -/
def State.random (s : State) (n : Nat) : State × Bytes := ({ s with free := s.free + n }, randomBytes s.free n)

/-! ### Dictionary cells -/

/-- Size in bytes of a scalar type (Table 3.5). -/
def tySize : ObjTy → Nat
  | .bool => 1 | .u8 => 1 | .u16 => 2 | .u32 => 4 | .u64 => 8 | .i16 => 2 | .i32 => 4 | .f32 => 4 | .blob => 0

/-- `n` copies of some bytes. -/
def copies (n : Nat) (b : Bytes) : Bytes := (List.replicate n b).flatten

/-- The default of a BLOB setting whose table gives one for each field (Tables 13.10, 13.12); every other is all zeros. -/
def blobDflt (o : Obj) : Bytes :=
  match o with
  | .SENSE_AVG_LOG2 => copies 40 [4]
  | .SENSE_SHIFT => copies 40 [4]
  | .SYSCAL_COEF => copies 9 (leBytes 4 0 ++ leBytes 4 0x3F800000)
  | .TH_PULLUP => copies 8 (leBytes 4 10000)
  | .TH_NOMINAL => copies 8 (leBytes 4 10000)
  | .TH_BETA => copies 8 (leBytes 2 3435)
  | .IMON_SCALE => copies 24 (leBytes 4 0x42FA0000)
  | o => zeros o.spec.len

/-- The default of a cell (spec/03 R111). -/
def dfltOf (p : Part) (k : OKey) : OVal :=
  let sp := k.obj.spec
  let n := match sp.dflt with
    | .none => 0
    | .num n => n
    | .part a c => match p with | .a => a | .c => c
    | .kw0 a c => if k.kw == 0 then (match p with | .a => a | .c => c) else 0
  match sp.ty with
  | .blob => .blob (blobDflt k.obj)
  | _ => .num n

/-- The first value a list of cells gives a key. -/
def cellFind {α : Type} : List (OKey × α) → OKey → Option α
  | [], _ => none
  | (k, v) :: r, x => if k = x then some v else cellFind r x

/-- A list of cells with one key's value replaced, the key at its place, a new key last. -/
def cellPut {α : Type} : List (OKey × α) → OKey → α → List (OKey × α)
  | [], k, v => [(k, v)]
  | (k', v') :: r, k, v => if k' = k then (k, v) :: r else (k', v') :: cellPut r k v

/-- The value in force of a setting (spec/03 R103). -/
def State.setting (s : State) (k : OKey) : OVal := (cellFind s.cfg k).getD (dfltOf s.part k)

/-- The number of a value; a BLOB counts as the number its bytes spell. -/
def ovNat : OVal → Nat
  | .num n => n
  | .blob b => leNat b

/-- The bytes of a value; a number has none of its own size here. -/
def ovBytes : OVal → Bytes
  | .num n => leBytes 8 n
  | .blob b => b

/-- A setting of the physical function, as a number. -/
def State.set0 (s : State) (o : Obj) : Nat := ovNat (s.setting ⟨o, 0, 0⟩)
/-- A setting of a keyway, as a number. -/
def State.setK (s : State) (o : Obj) (kw : Nat) : Nat := ovNat (s.setting ⟨o, 0, kw⟩)
/-- A setting of an instance, as a number. -/
def State.setI (s : State) (o : Obj) (inst : Nat) : Nat := ovNat (s.setting ⟨o, inst, 0⟩)
/-- A field of a BLOB setting of the physical function: `n` bytes at an offset. -/
def State.setField (s : State) (o : Obj) (off n : Nat) : Nat := leAt (ovBytes (s.setting ⟨o, 0, 0⟩)) off n
/-- A byte of a BLOB setting of the physical function. -/
def State.setByte (s : State) (o : Obj) (i : Nat) : Nat := s.setField o i 1
/-- Put a setting in force. -/
def State.putSetting (s : State) (k : OKey) (v : OVal) : State := { s with cfg := cellPut s.cfg k v }

/-- A counter or read-only cell. -/
def State.count (s : State) (k : OKey) : Nat := (cellFind s.cnt k).getD (ovNat (dfltOf s.part k))
/-- Write a counter or read-only cell. -/
def State.putCount (s : State) (k : OKey) (v : Nat) : State := { s with cnt := cellPut s.cnt k v }

/-- Add to a counter. Past the width of the object the spec states no value, so the counter takes a free one (log 10). -/
def State.addCount (s : State) (k : OKey) (n : Nat) : State :=
  let w := 256 ^ tySize k.obj.spec.ty
  let v := s.count k + n
  if v < w then s.putCount k v else (s.putCount k (s.freeBelow w)).drawn

/-- Add to a counter of the physical function. -/
def State.inc (s : State) (o : Obj) (n : Nat := 1) : State := s.addCount ⟨o, 0, 0⟩ n
/-- Add to a keyway's counter and to the whole device's (spec/04 R163); the physical function's own counter is the device's. -/
def State.incK (s : State) (o : Obj) (kw : Nat) (n : Nat := 1) : State :=
  (s.addCount ⟨o, 0, 0⟩ n).addCount ⟨o, 0, kw + 1⟩ n
/-- Add to an instance's counter. -/
def State.incI (s : State) (o : Obj) (inst : Nat) (n : Nat := 1) : State := s.addCount ⟨o, inst, 0⟩ n

/-! ### Memory -/

/-- One byte of a memory held as canonical cells; an unlisted byte reads 0 (log 11). -/
def memByte : List Host.Cell → Nat → Byte
  | [], _ => 0
  | (a, b) :: r, x => if a == x then b else if x < a then 0 else memByte r x

/-- Write one byte, keeping the cells rising and free of zeros. -/
def memPut : List Host.Cell → Nat → Byte → List Host.Cell
  | [], x, v => if v == 0 then [] else [(x, v)]
  | (a, b) :: r, x, v =>
    if x < a then (if v == 0 then (a, b) :: r else (x, v) :: (a, b) :: r)
    else if a == x then (if v == 0 then r else (x, v) :: r)
    else (a, b) :: memPut r x v

/-- `n` bytes from an address. -/
def memRead (m : List Host.Cell) (a : Nat) : Nat → Bytes
  | 0 => []
  | n + 1 => memByte m a :: memRead m (a + 1) n

/-- Bytes written from an address on. -/
def memWrite (m : List Host.Cell) (a : Nat) : Bytes → List Host.Cell
  | [] => m
  | b :: r => memWrite (memPut m a b) (a + 1) r

/-- The cells rise strictly and none holds 0. -/
def memWf : List Host.Cell → Bool
  | [] => true
  | [(_, b)] => b != 0
  | (a, b) :: (c, d) :: r => b != 0 && decide (a < c) && memWf ((c, d) :: r)

/-- What the host wrote before a command. -/
def memLoad (m : List Host.Cell) : List HostCell → List Host.Cell
  | [] => m
  | (a, b) :: r => memLoad (memPut m a b) r

/-- A DMA read of host memory with a function as requester (spec/12 R492). -/
def State.dmaRead (s : State) (fn a n : Nat) : State × Bytes := (s.emit (.dma fn false a n), memRead s.hostMem a n)

/-- A DMA write of host memory with a function as requester (spec/12 R492). -/
def State.dmaWrite (s : State) (fn a : Nat) (b : Bytes) : State :=
  ({ s with hostMem := memWrite s.hostMem a b } : State).emit (.dma fn true a b.length)

/-- The host's writes reach host memory. -/
def State.hostWrote (s : State) (h : List HostCell) : State := { s with hostMem := memLoad s.hostMem h }

/-! ### Sizes and units -/

/-- CORES_PER_CLUSTER (spec/00 Table 0.2). -/
def State.coresPer (s : State) : Nat := match s.part with | .a => 24 | .c => 20
/-- Number of cores. -/
def State.numCores (s : State) : Nat := 64 * s.coresPer
/-- Number of engines. -/
def State.numEngines (s : State) : Nat := 16 * s.numCores

/-- UNIT_ID of a compute die (spec/02 Table 2.5). -/
def uidDie (d : Nat) : Nat := 0x10000000 + d * 2 ^ 26
/-- UNIT_ID of a cluster by its index. -/
def uidCluster (n : Nat) : Nat := 0x20000000 + n / 16 * 2 ^ 26 + n % 16 * 2 ^ 22
/-- UNIT_ID of an attention engine by its cluster's index. -/
def uidAttn (n : Nat) : Nat := 0x60000000 + n / 16 * 2 ^ 26 + n % 16 * 2 ^ 22
/-- UNIT_ID of a power quadrant by its index 4d + q. -/
def uidQuad (n : Nat) : Nat := 0x70000000 + n / 4 * 2 ^ 26 + n % 4 * 2 ^ 22
/-- UNIT_ID of a core by its index (R73). -/
def State.uidCore (s : State) (n : Nat) : Nat :=
  0x10000000 + uidCluster (n / s.coresPer) + n % s.coresPer * 2 ^ 17
/-- UNIT_ID of an engine by its index (R73). -/
def State.uidEngine (s : State) (n : Nat) : Nat := 0x10000000 + s.uidCore (n / 16) + n % 16 * 2 ^ 13
/-- UNIT_ID of an engine tier. -/
def State.uidTier (s : State) (n t : Nat) : Nat := 0x10000000 + s.uidEngine n + t * 2 ^ 11
/-- UNIT_ID of a memory stack. -/
def uidStack (n : Nat) : Nat := 0x80000000 + n * 2 ^ 22
/-- UNIT_ID of a Hasp core. -/
def uidHasp (n : Nat) : Nat := 0x90000000 + n * 2 ^ 22
/-- UNIT_ID of the Ward. -/
def uidWard : Nat := 0xA0000000
/-- UNIT_ID of a hub block. -/
def uidHub (n : Nat) : Nat := 0xB0000000 + n * 2 ^ 22

/-- The die of a core index. -/
def State.dieOfCore (s : State) (core : Nat) : Nat := core / s.coresPer / 16
/-- The cluster of a core index. -/
def State.clusterOfCore (s : State) (core : Nat) : Nat := core / s.coresPer
/-- The power quadrant (4d + q) of a cluster index (R67). -/
def quadOfCluster (n : Nat) : Nat := n / 16 * 4 + n % 16 / 4

/-! ### Notch time -/

/-- The notch of the present beat (R34): notch k begins k/4096 of the beat's length after its boundary (log 12). -/
def State.notchNow (s : State) : Nat :=
  if s.beat.mode = .seeking ∨ s.beat.length = 0 then 0
  else min 4095 ((s.now - s.beat.last) * 4096 / s.beat.length)

/-- The number of the beat that begins at the next boundary (R42). -/
def BeatS.nextNumber (b : BeatS) : Nat :=
  (match b.markNumber, b.numberSet with
    | some n, _ => n
    | none, some n => if b.source = BeatSrc.pin then n else b.number + 1
    | none, none => b.number + 1) % 2 ^ 48

/-- A boundary is due (R28, R34): steps run, no transition beat waits for its edge, and the predicted instant has come. -/
def State.boundaryDue (s : State) : Bool := s.beat.mode != .seeking && s.beat.trans.isNone && decide (s.now ≥ s.beat.next)

/-- The number of the beat that this instant belongs to: the instant of a boundary still to be worked off belongs to the beat it begins. -/
def State.beatNow (s : State) : Nat := if s.boundaryDue then s.beat.nextNumber else s.beat.number

/-- Notch time (R40); a stamp made in SEEKING is 0 (R634). At the instant of a boundary that is still to be worked off, notch 0 of the beat that
begins there. -/
def State.notchTime (s : State) : Nat :=
  if s.beat.mode = .seeking then 0
  else if s.boundaryDue then s.beat.nextNumber * 4096
  else s.beat.number * 4096 + s.notchNow

/-- The unit that holds a source of Table 13.9: a power quadrant or a memory stack; else the whole device. -/
def unitOfSource (src : Nat) : UnitId := if src == 0xFF then 0 else if src ≥ 0x40 then uidStack (src - 0x40) else if 1 ≤ src ∧ src ≤ 16 then uidQuad (src - 1) else 0

/-- Notches of this beat that have passed, in 2⁻¹⁶ notches: 4,096ths of the beat's length, of a 20 ms beat in SEEKING (R41, R634; log 53). -/
def State.notchesIn (s : State) : Nat :=
  if s.beat.mode = .seeking ∨ s.beat.length = 0 then (s.now - s.beat.since) * 131072 / 9765625
  else (s.now - s.beat.last) * 2 ^ 28 / s.beat.length

/-- All notches that have passed, in 2⁻¹⁶ notches: each beat counts its 4,096, whatever its length (R41). -/
def State.notchClock (s : State) : Nat := s.beat.spent + s.notchesIn

/-- `n` notches have passed since the notch clock read `c` (R41, R634). -/
def State.notchesPast (s : State) (c n : Nat) : Bool := decide (s.notchClock ≥ c + n * 65536)

/-- The SEEKING notches so far. -/
def State.seekClock (s : State) : Nat := s.beat.seekSpent + (if s.beat.mode = .seeking then s.notchesIn else 0)

/-- Where a count of beats that begins now begins. -/
def State.beatMark (s : State) : BeatMark := ⟨s.beat.count, s.seekClock⟩

/-- Beats since a mark: boundaries, and in SEEKING every 20 ms (spec/03 R630, R634). -/
def State.beatsSince (s : State) (m : BeatMark) : Nat := (s.beat.count - m.count) + (s.seekClock - m.seek) / 2 ^ 28

/-- A milestone of the boot is reached (spec/15 R609, R626): its time in ms, once. -/
def State.milestone (s : State) (row : Nat) (ps : Nat := s.now) : State :=
  if s.boot.times.getD row 0 != 0 then s
  else { s with boot := { s.boot with times := s.boot.times.set row ((ps - s.boot.porAt) / 1000000000) } }

/-! ### Events (spec/14) -/

/-- Class of an event code (R573). -/
def evClass (code : Nat) : Nat := code / 4096

/-- Codes that are never rate limited (R579). -/
def evUnlimited (code : Nat) : Bool :=
  evClass code == 0xC || code == 0x4D01 || code == 0x1D01 || code == 0x4D02 || code == 0x4E02

/-- Token arrivals of a bucket up to an instant (R579). -/
def Bucket.ticksAt (b : Bucket) (now period : Nat) : Nat := if period == 0 then 0 else (now - b.first) / period

/-- A bucket brought up to an instant: tokens that arrived while none were owed, up to the burst. -/
def Bucket.refill (b : Bucket) (now period burst : Nat) : Bucket :=
  let k := b.ticksAt now period
  { b with tokens := min burst (b.tokens + (k - b.ticks)), ticks := k }

/-- The bucket of a code and keyway, if the pair has had an event. -/
def findBucket : List Bucket → Nat → Nat → Option Bucket
  | [], _, _ => none
  | b :: r, code, kw => if b.code == code && b.kw == kw then some b else findBucket r code kw

/-- Put a bucket back. -/
def putBucket : List Bucket → Bucket → List Bucket
  | [], b => [b]
  | x :: r, b => if x.code == b.code && x.kw == b.kw then b :: r else x :: putBucket r b

/-- Put an event into the queue of 4,096: a critical event before every other class, behind earlier critical ones; an event
that meets a full queue is dropped and counted (R578). -/
def EvtS.enqueue (v : EvtS) (e : Event) : EvtS :=
  if v.queue.length ≥ 4096 then
    { v with loss := true
             dropped := (match v.dropped.find? (fun p => p.1 == e.kw) with
               | some p => v.dropped.map (fun q => if q.1 == e.kw then (q.1, p.2 + 1) else q)
               | none => v.dropped ++ [(e.kw, 1)]) }
  else if evClass e.code == 0xC then
    { v with queue := v.queue.filter (fun x => evClass x.code == 0xC) ++ e :: v.queue.filter (fun x => evClass x.code != 0xC) }
  else { v with queue := v.queue ++ [e] }

/-- Rate limiting, then the queue (R578, R579). -/
def EvtS.offer (v : EvtS) (e : Event) (now period burst : Nat) : EvtS :=
  if evUnlimited e.code then v.enqueue e else
  match findBucket v.buckets e.code e.kw with
  | none =>
    let q := v.enqueue e
    { q with buckets := v.buckets ++ [⟨e.code, e.kw, burst - 1, now, 0, 0⟩] }
  | some b0 =>
    let b := b0.refill now period burst
    if b.tokens == 0 then { v with buckets := putBucket v.buckets { b with suppressed := b.suppressed + 1 } }
    else
      let q := v.enqueue { e with suppressed := min 65535 b.suppressed }
      { q with buckets := putBucket v.buckets { b with tokens := b.tokens - 1, suppressed := 0 } }

/-- Raise an event as given (R573–R579), stamped with notch time. -/
def State.raiseEv (s : State) (e : Event) : State :=
  let stamped := { e with notch := s.notchTime }
  { s with evt := s.evt.offer stamped s.now (s.set0 .EVT_RATE_PERIOD * 1000000000) (s.set0 .EVT_RATE_BURST) }

/-- Raise an event with its three payload values (R640). -/
def State.raise (s : State) (code kw : Nat) (unit : UnitId := 0) (p0 : Nat := 0) (p1 : Nat := 0) (p2 : Nat := 0) : State :=
  s.raiseEv { code, kw, unit, p0, p1, p2 }

/-- Every occurrence of an event whose pair is rate limited is counted at once: `n` events at one instant (R579). -/
def State.raiseMany (s : State) (code kw : Nat) : Nat → State
  | 0 => s
  | n + 1 => (s.raise code kw).raiseMany code kw n

end Sys2Proof.Machine
end

