-- ==== Sys2Proof/Machine/Operands.lean ====
section
/-! DEFINITION. Machine/Operands.lean: what the operands of commands name: units by UNIT_ID, functions, keyways, and the
states units are in (spec/02 R73–R83, spec/03 R123). -/
namespace Sys2Proof.Machine
open Sys2Proof

/-- TYPE field of a UNIT_ID (Table 2.5). -/
def uidType (v : Nat) : Nat := bits v 28 4
/-- DIE field. -/
def uidDieOf (v : Nat) : Nat := bits v 26 2
/-- CLUSTER field. -/
def uidClusterOf (v : Nat) : Nat := bits v 22 4
/-- CORE field. -/
def uidCoreOf (v : Nat) : Nat := bits v 17 5
/-- ENGINE field. -/
def uidEngineOf (v : Nat) : Nat := bits v 13 4
/-- TIER field. -/
def uidTierOf (v : Nat) : Nat := bits v 11 2
/-- Unit number of a unit with no die position. -/
def uidNumber (v : Nat) : Nat := bits v 22 6

/-- The canonical UNIT_ID of a unit that exists, fields below its own level ignored; none for a unit that does not exist
(R75, R76). -/
def State.canonUnit (s : State) (v : Nat) : Option UnitId :=
  let cl := uidDieOf v * 16 + uidClusterOf v
  let core := cl * s.coresPer + uidCoreOf v
  match uidType v with
  | 0x0 => some 0
  | 0x1 => some (uidDie (uidDieOf v))
  | 0x2 => some (uidCluster cl)
  | 0x3 => if uidCoreOf v < s.coresPer then some (s.uidCore core) else none
  | 0x4 => if uidCoreOf v < s.coresPer then some (s.uidEngine (16 * core + uidEngineOf v)) else none
  | 0x5 => if uidCoreOf v < s.coresPer then some (s.uidTier (16 * core + uidEngineOf v) (uidTierOf v)) else none
  | 0x6 => some (uidAttn cl)
  | 0x7 => some (uidQuad (uidDieOf v * 4 + bits v 22 2))
  | 0x8 => if uidNumber v < 8 then some (uidStack (uidNumber v)) else none
  | 0x9 => if uidNumber v < 8 then some (uidHasp (uidNumber v)) else none
  | 0xA => some uidWard
  | 0xB => if uidNumber v < 28 then some (uidHub (uidNumber v)) else none
  | _ => none

/-- Engine index of the UNIT_ID of an engine or engine tier (R73). -/
def State.engineOf (s : State) (v : UnitId) : Nat :=
  16 * ((uidDieOf v * 16 + uidClusterOf v) * s.coresPer + uidCoreOf v) + uidEngineOf v

/-- Core index of the UNIT_ID of a core or of a unit inside one (R73). -/
def State.coreOf (s : State) (v : UnitId) : Nat :=
  (uidDieOf v * 16 + uidClusterOf v) * s.coresPer + uidCoreOf v

/-- Severity of a unit state (R78). -/
def UState.severity : UState → Nat
  | .online => 0 | .gated => 1 | .resetting => 2 | .isolated => 3 | .retired => 4 | .faulted => 5 | .disabled => 6

/-- Value of a unit state (Table 2.7). -/
def UState.code : UState → Nat
  | .online => 0 | .gated => 1 | .isolated => 2 | .resetting => 3 | .retired => 4 | .faulted => 5 | .disabled => 6

/-- The more severe of two states (R78). -/
def UState.worse (a b : UState) : UState := if a.severity < b.severity then b else a

/-- A unit's own state, apart from the units above it. -/
def State.ownState (s : State) (u : UnitId) : UState := mapGet s.hier.own u .online

/-- Set a unit's own state. -/
def State.setOwn (s : State) (u : UnitId) (x : UState) : State :=
  { s with hier := { s.hier with own := mapSet s.hier.own u x } }

/-- An engine's record. -/
def State.engine (s : State) (n : Nat) : EngS := mapGet s.eng n {}
/-- Replace an engine's record. -/
def State.putEngine (s : State) (n : Nat) (e : EngS) : State := { s with eng := mapSet s.eng n e }
/-- A tier of an engine. -/
def EngS.tier (e : EngS) (t : Nat) : TierS := e.tiers.getD t {}
/-- Replace a tier of an engine. -/
def EngS.putTier (e : EngS) (t : Nat) (x : TierS) : EngS := { e with tiers := e.tiers.set t x }
/-- Replace a tier of an engine of the device. -/
def State.putTier (s : State) (n t : Nat) (x : TierS) : State := s.putEngine n ((s.engine n).putTier t x)

/-- An engine is retired once all four of its tiers are (R211). -/
def EngS.retired (e : EngS) : Bool := e.tiers.all (fun t => t.health == .retired)

/-- The state of a die (R78): its own and the whole device's. The Hasp cores and the step leader, which command it, count among no die's
controllers: a die keeps its state while one of them restarts or is FAULTED (log 55). -/
def State.dieState (s : State) (d : Nat) : UState := (s.ownState (uidDie d)).worse (s.ownState 0)
/-- The state of a power quadrant. -/
def State.quadState (s : State) (q : Nat) : UState := (s.ownState (uidQuad q)).worse (s.dieState (q / 4))
/-- The state of a cluster (R78): its own, its quadrant's, its die's. -/
def State.clusterState (s : State) (cl : Nat) : UState := (s.ownState (uidCluster cl)).worse (s.quadState (quadOfCluster cl))
/-- The state of a core. -/
def State.coreState (s : State) (core : Nat) : UState :=
  (s.ownState (s.uidCore core)).worse (s.clusterState (s.clusterOfCore core))
/-- The state of an engine. -/
def State.engineState (s : State) (n : Nat) : UState :=
  ((s.ownState (s.uidEngine n)).worse (if (s.engine n).retired then .retired else .online)).worse (s.coreState (n / 16))
/-- The state of an engine tier (Table 5.12). -/
def State.tierState (s : State) (n t : Nat) : UState :=
  ((s.ownState (s.uidTier n t)).worse (if ((s.engine n).tier t).health = .retired then UState.retired else .online)).worse (s.engineState n)
/-- The state of an attention engine. -/
def State.attnState (s : State) (cl : Nat) : UState := (s.ownState (uidAttn cl)).worse (s.clusterState cl)

/-- The state of a unit by its canonical UNIT_ID (R78). -/
def State.unitState (s : State) (u : UnitId) : UState :=
  let cl := uidDieOf u * 16 + uidClusterOf u
  match uidType u with
  | 0x2 => s.clusterState cl
  | 0x3 => s.coreState (s.coreOf u)
  | 0x4 => s.engineState (s.engineOf u)
  | 0x5 => s.tierState (s.engineOf u) (uidTierOf u)
  | 0x6 => s.attnState cl
  | 0x1 => s.dieState (uidDieOf u)
  | 0x7 => s.quadState (uidDieOf u * 4 + bits u 22 2)
  | _ => (s.ownState u).worse (s.ownState 0)

/-- A physical site's enable bit (R79). -/
def State.siteEnabled (s : State) (cl site : Nat) : Bool :=
  match s.part with
  | .a => decide (site < 24)
  | .c => (s.hier.siteMaps.getD cl 0xFFFFF).testBit site

/-- The logical core at an enabled physical site: its rank among the enabled sites (R80). -/
def State.logicalOfSite (s : State) (cl site : Nat) : Nat :=
  ((List.range site).filter (s.siteEnabled cl)).length

/-- CORE_SITE_MAP_n (R79). -/
def State.siteMap (s : State) (cl : Nat) : Nat :=
  match s.part with
  | .a => 0x00FFFFFF
  | .c => s.hier.siteMaps.getD cl 0xFFFFF

/-- The die that a memory stack belongs to (spec/00 R9, R45). -/
def dieOfStack (n : Nat) : Nat := n / 2
/-- The stack that holds a byte of a die's memory, interleaved in 256-byte granules: address bit [8] selects it (R45). -/
def stackOf (die addr : Nat) : Nat := 2 * die + addr / 256 % 2
/-- The address in its die's memory of a byte of a stack. -/
def dieAddr (stack a : Nat) : Nat := a / 256 * 512 + stack % 2 * 256 + a % 256

/-- A Hasp core is live: neither resetting nor faulted (R56, R62). -/
def State.haspLive (s : State) (n : Nat) : Bool := s.ownState (uidHasp n) == .online

/-- The lowest-numbered live Hasp core; HC0 when none is live (R56). -/
def State.lowestLive (s : State) : Nat := ((List.range 8).find? s.haspLive).getD 0

/-- The Hasp core that answers for a slot (R54, Table 2.3): HC(n mod 8) or its successor under R63; only a live one changes the slot. -/
def State.slotOwnerLive (s : State) (n : Nat) : Bool := s.haspLive (s.hier.rangeOwner.getD (n % 8) 0)

/-- The VCORE setpoints that the dies start at with AVS_ENABLE 1 (spec/13 R532): the fused ones, within 0.650–0.850 V. -/
def fusedSetpoints : List Nat := (List.range 4).map (fun d => max 650 (min 850 (Config.vcoreFused d)))

/-- A core is in its quiet window and its step work has ended (spec/01 R37, R38). -/
def State.quietFor (s : State) (core : Nat) : Bool := s.beat.phase == .quiet && !s.beat.busyCores.contains core

/-- Every function of the dictionary (R123): slots, ports, keyways. -/
def funcExists : Func → Bool
  | .slot n => n < 16
  | .port p => p < 23
  | .keyway n => n < 64

/-- The dictionary index of a function. -/
def funcIndex : Func → Nat
  | .slot n => 0x2410 + n
  | .port p => 0x3010 + p
  | .keyway n => 0x8000 + 0x100 * n

/-- A function's record. -/
def findFunc : List (Func × FuncS) → Func → Option FuncS
  | [], _ => none
  | (g, x) :: r, f => if g = f then some x else findFunc r f

/-- Replace a function's record. -/
def putFuncIn : List (Func × FuncS) → Func → FuncS → List (Func × FuncS)
  | [], f, x => [(f, x)]
  | (g, y) :: r, f, x => if g = f then (f, x) :: r else (g, y) :: putFuncIn r f x

/-- A function's record. -/
def State.func (s : State) (f : Func) : FuncS := (findFunc s.funcs f).getD {}
/-- Replace a function's record. -/
def State.putFunc (s : State) (f : Func) (x : FuncS) : State := { s with funcs := putFuncIn s.funcs f x }

/-- FUNC_STATE values (R123). -/
def FState.code : FState → Nat
  | .off => 0 | .opening => 1 | .on => 2 | .closing => 3

/-- BEAT_STATE values (Table 1.1). -/
def BeatMode.code : BeatMode → Nat
  | .seeking => 0 | .locked => 1 | .freerun => 2 | .self => 3

/-- The setting FUNC_ENABLE of a function: its own cell, keyed by its index. -/
def funcEnableKey (f : Func) : OKey := ⟨.FUNC_ENABLE, funcIndex f, 0⟩

/-- The dictionary index of a cell (spec/03 R113, R123). -/
def keyIndex (k : OKey) : Nat :=
  let sp := k.obj.spec
  if sp.index == 0 then k.inst
  else if sp.index == 0x8000 then 0x8000 + 0x100 * k.kw
  else if sp.nSub > 1 then sp.index
  else sp.index + sp.stride * k.inst

/-- The subindex of a cell. -/
def keySub (k : OKey) : Nat := if k.obj.spec.nSub > 1 then k.obj.spec.sub + k.inst else k.obj.spec.sub

end Sys2Proof.Machine
end

