-- ==== Sys2Proof/Machine/ServeOps.lean ====
section
/-! DEFINITION. Machine/ServeOps.lean: what serving does to one request: token-ring entries, interrupts, holds, faulted steps and
ends (spec/10 R409–R431, R439). -/
namespace Sys2Proof.Machine
open Sys2Proof

/-- A request-table entry. -/
def State.req (s : State) (i : Nat) : ReqS := mapGet s.srv.reqs i {}
/-- Replace a request-table entry. -/
def State.putReq (s : State) (i : Nat) (r : ReqS) : State :=
  { s with srv := { s.srv with reqs := mapSet s.srv.reqs i r } }
/-- A function's submission ring and serving registers. -/
def State.sub (s : State) (fn : Nat) : SubS := mapGet s.srv.subs fn {}
/-- Replace a function's serving registers. -/
def State.putSub (s : State) (fn : Nat) (x : SubS) : State :=
  { s with srv := { s.srv with subs := mapSet s.srv.subs fn x } }

/-- A field of a request's descriptor (Table 10.1). -/
def ReqS.field (r : ReqS) (off n : Nat) : Nat := leAt r.desc off n
/-- FLAGS of the descriptor. -/
def ReqS.flags (r : ReqS) : Nat := r.field 4 2
/-- FULL_SPAN. -/
def ReqS.fullSpan (r : ReqS) : Bool := r.flags.testBit 0
/-- GREEDY. -/
def ReqS.greedy (r : ReqS) : Bool := r.flags.testBit 1
/-- HANDOFF_OUT. -/
def ReqS.handOut (r : ReqS) : Bool := r.flags.testBit 2
/-- HANDOFF_IN. -/
def ReqS.handIn (r : ReqS) : Bool := r.flags.testBit 3
/-- NO_PREFIX. -/
def ReqS.noPrefix (r : ReqS) : Bool := r.flags.testBit 4
/-- USER_TAG. -/
def ReqS.userTag (r : ReqS) : Nat := r.field 88 8
/-- RING_LOG2. -/
def ReqS.ringLog2 (r : ReqS) : Nat := r.field 32 1
/-- Entries of the token ring. -/
def ReqS.ringLen (r : ReqS) : Nat := 2 ^ r.ringLog2

/-- Values of request states (Table 10.4). -/
def RState.code : RState → Nat
  | .free => 0 | .queued => 1 | .prefill => 2 | .decode => 3 | .held => 4 | .waitKv => 5 | .ended => 6
/-- Values of hold causes (Table 10.5). -/
def Hold.code : Hold → Nat
  | .none => 0 | .ringFull => 1 | .noPage => 2 | .energy => 3 | .hasp => 4 | .retry => 5

/-- An active request: it holds an entry and has not ended. -/
def ReqS.active (r : ReqS) : Bool := r.state != .free && r.state != .ended

/-- The token-ring slot's bytes (Table 10.6): token, flags with PHASE (R412), log-probability, beat and position. -/
def ringEntry (n log2 tok flags logprob beat pos : Nat) : Bytes :=
  let phase := 1 - n / 2 ^ log2 % 2
  leBytes 4 tok ++ leBytes 2 (flags + 32768 * phase) ++ leBytes 2 logprob ++ leBytes 6 beat ++ leBytes 1 pos ++ [0]

/-- Signal TOKEN_VECTOR unless the last signal lies within the gap, then hold one signal back (R416). -/
def State.tokenIrq (s : State) (kw : Nat) : State :=
  let x := s.sub kw
  let within := match x.irqLast with
    | none => false
    | some c => !s.notchesPast c (s.setK .TOKEN_IRQ_GAP kw)
  if within then s.putSub kw { x with irqHeld := true }
  else (s.putSub kw { x with irqLast := some s.notchClock }).emit (.msix kw (s.setK .TOKEN_VECTOR kw))

/-- Write one entry to a request's token ring, in order, and signal (R411, R416); nothing is written for a function whose DMA an FLR has
stopped (spec/12 R493). -/
def State.ringWrite (s : State) (i tok flags logprob beat pos : Nat) : State :=
  let r := s.req i
  if (mapGet s.ward.kws r.kw {}).noDma then s else
  let a := r.field 24 8 + 16 * (r.ringProd % r.ringLen)
  let s := s.dmaWrite r.kw a (ringEntry r.ringProd r.ringLog2 tok flags logprob beat pos)
  (s.putReq i { r with ringProd := (r.ringProd + 1) % 2 ^ 32 }).tokenIrq r.kw

/-- FLAGS with FINAL that an END_CAUSE carries (Table 10.11). -/
def endFlags (cause : Nat) : Nat :=
  2 + (match cause with
    | 3 => 4 | 4 => 4
    | 5 => 1
    | 0 => 0 | 1 => 0 | 2 => 0
    | _ => 8)

/-- The request's record in the end log (spec/14 R571): the newest 65,536 are kept. -/
def State.logEnd (s : State) (i : Nat) : State :=
  let r := s.req i
  let e : EndEntry := ⟨i, r.kw, r.slot, r.version, r.userTag, r.admitBeat, s.beat.number⟩
  let l := s.srv.ends ++ [e]
  { s with srv := { s.srv with
      ends := l.drop (l.length - 65536)
      endsDropped := s.srv.endsDropped + (l.length - 65536) } }

/-- A standby record waits to be sent, when its keyway is set in REPLAY_KEYWAYS (spec/11 R475). -/
def State.note (s : State) (kw : Nat) (r : StandbyRec) : State :=
  if (s.set0 .REPLAY_KEYWAYS).testBit kw then { s with fab := { s.fab with outbox := s.fab.outbox ++ [(kw, r)] } } else s

/-- A request has ended: its state, and what an end with ERROR counts and raises (R428, Table 10.12). -/
def State.closeReq (s : State) (i cause : Nat) : State :=
  let r := s.req i
  let s := (s.logEnd i).putReq i { r with state := .ended, hold := .none, ending := none, batch := none, cancel := none }
  let s := s.note r.kw (.ended i)
  if (endFlags cause).testBit 3 then
    (s.incK .REQS_FAILED r.kw).raise 0x8A02 r.kw 0 i cause r.userTag
  else s

/-- End a request with a final entry without a token (R428, R430). -/
def State.endReq (s : State) (i cause : Nat) : State :=
  (s.ringWrite i 0xFFFFFFFF (endFlags cause + 256 * cause) 0 s.beatNow 0).closeReq i cause

/-- Hold a request (Table 10.5); the state it was held from is kept, and a new cause counts its beats from 0. Its pages, its pinned versions and its
DEADLINE stay (R410). -/
def State.holdReq (s : State) (i : Nat) (h : Hold) : State :=
  let r := s.req i
  let from_ := if r.state = .held then r.heldFrom else r.state
  s.putReq i { r with state := .held, hold := h, heldFrom := from_
                      heldBeats := if r.state = .held then r.heldBeats else 0
                      causeBeats := if r.state = .held ∧ r.hold = h then r.causeBeats else 0
                      batch := none }

/-- Release a held request to the state it was held from, with its pages, versions and DEADLINE (R410). -/
def State.releaseReq (s : State) (i : Nat) : State :=
  let r := s.req i
  if r.state = .held then s.putReq i { r with state := r.heldFrom, hold := .none, heldBeats := 0, causeBeats := 0 } else s

/-- Rows of Table 10.7, in the table's order. -/
inductive StepFault where
  | unitIsolated | splitFailed | nonfiniteLogit | nonfiniteAct | badOperand | doubleBit | layerLost | ringTimeout
  | walkFault | kvData | adapterBad
  deriving DecidableEq, Repr

/-- The row number (R639). -/
def StepFault.row : StepFault → Nat
  | .unitIsolated => 1 | .splitFailed => 2 | .nonfiniteLogit => 3 | .nonfiniteAct => 4 | .badOperand => 5
  | .doubleBit => 6 | .layerLost => 7 | .ringTimeout => 8 | .walkFault => 9 | .kvData => 10 | .adapterBad => 11

/-- Retryable causes. -/
def StepFault.retryable (f : StepFault) : Bool := f.row ≤ 8
/-- END_CAUSE of a cause. -/
def StepFault.endCause (f : StepFault) : Nat := if f.row ≤ 8 then 8 else 9

/-- The request that a sequence belongs to. -/
def State.seqReq (s : State) (seq : Nat) : Nat := (mapGet s.kv.seqs seq {}).req

/-- What a step holds for a request is dropped: orders, counts, totals, blocks, partials and rows; passes in flight end with their results discarded
(R428, spec/02 R52, R60, spec/06 R229). -/
def State.dropWork (s : State) (i : Nat) : State :=
  { s with
    kpr := { s.kpr with
      queue := s.kpr.queue.filter (fun o => o.req != i)
      open_ := s.kpr.open_.filter (fun p => p.2.req != i)
      outWork := s.kpr.outWork.filter (fun x => x.2.1 != i)
      passes := s.kpr.passes.map (fun p => if p.req == i then { p with dropped := true } else p)
      done := s.kpr.done.filter (fun d => d.pass.req != i)
      totals := s.kpr.totals.filter (fun z => z.key.req != i)
      blocks := s.kpr.blocks.filter (fun b => b.req != i)
      sums := s.kpr.sums.filter (fun x => x.1 != i) }
    kv := { s.kv with
      partials := s.kv.partials.filter (fun x => s.seqReq x.seq != i)
      outputs := s.kv.outputs.filter (fun x => s.seqReq x.1 != i) } }

/-- A request's step is faulted (R428). A request that is not in the step, or whose step is faulted already, is left as it
is. -/
def State.faultStep (s : State) (i : Nat) (f : StepFault) : State :=
  let r := s.req i
  if r.batch.isNone ∨ r.faulted then s else
  let n := min 255 (r.retries + 1)
  let s := (s.dropWork i).incK .STEPS_FAULTED r.kw
  let s := s.raise 0x8A01 r.kw 0 i (f.row + (if f.retryable then 256 else 0) + 65536 * n) r.userTag
  let r := { r with retries := n, faulted := true }
  if f.retryable && decide (n ≤ s.set0 .STEP_RETRY_MAX) then (s.putReq i r).holdReq i .retry
  else s.putReq i { r with ending := some (f.endCause, 0), batch := none }

/-- Fault the step of every request of a list. -/
def State.faultAll (s : State) (f : StepFault) : List Nat → State
  | [] => s
  | i :: r => (s.faultStep i f).faultAll f r

/-- Histogram bucket of a value in notches (R439). -/
def histBucket (v : Nat) : Nat :=
  if v == 0 then 0 else
  let e := v.log2
  let f := if e ≥ 2 then v / 2 ^ (e - 2) % 4 else v * 2 ^ (2 - e) % 4
  min 96 (1 + 4 * e + f)

/-- A histogram's buckets. -/
def State.hist (s : State) (kw cls kind : Nat) : Map Nat :=
  match s.srv.hists.find? (fun h => h.kw == kw && h.cls == cls && h.kind == kind) with
  | some h => h.buckets
  | none => []

/-- Count a value in a histogram, saturating at 2^32 − 1 (R439). -/
def State.histCount (s : State) (kw cls kind v : Nat) : State :=
  let b := histBucket v
  let m := s.hist kw cls kind
  let m' := mapSet m b (min 0xFFFFFFFF (mapGet m b 0 + 1))
  let rest := s.srv.hists.filter (fun h => !(h.kw == kw && h.cls == cls && h.kind == kind))
  { s with srv := { s.srv with hists := ⟨kw, cls, kind, m'⟩ :: rest } }

/-- The requests whose step is running and that satisfy a test. -/
def State.inStep (s : State) (p : ReqS → Bool) : List Nat :=
  (s.srv.reqs.filter (fun x => x.2.batch.isSome && p x.2)).map Prod.fst

end Sys2Proof.Machine
end

