-- ==== Sys2Proof/Machine/SlotData.lean ====
section
/-! DEFINITION. Machine/SlotData.lean: what the placed versions hold: tiles, reference images and memory-resident shards, and the
weights they give (spec/08 R303–R310). -/
namespace Sys2Proof.Machine
open Sys2Proof

/-- A slot's record. -/
def State.slot (s : State) (n : Nat) : SlotS := mapGet s.slots.slots n {}
/-- Replace a slot's record. -/
def State.putSlot (s : State) (n : Nat) (x : SlotS) : State :=
  { s with slots := { s.slots with slots := mapSet s.slots.slots n x } }

/-- Which of a slot's versions. -/
inductive Which where
  | cur | pend | old
  deriving DecidableEq, Repr

/-- A version of a slot. -/
def SlotS.ver (x : SlotS) : Which → Option Version
  | .cur => x.cur | .pend => x.pend | .old => x.old

/-- Replace a version of a slot. -/
def SlotS.putVer (x : SlotS) (w : Which) (v : Option Version) : SlotS :=
  match w with
  | .cur => { x with cur := v }
  | .pend => { x with pend := v }
  | .old => { x with old := v }

/-- Every version held, with its slot and place. -/
def State.versions (s : State) : List (Nat × Which × Version) :=
  s.slots.slots.flatMap (fun p =>
    (match p.2.cur with | some v => [(p.1, Which.cur, v)] | none => []) ++
    (match p.2.pend with | some v => [(p.1, Which.pend, v)] | none => []) ++
    (match p.2.old with | some v => [(p.1, Which.old, v)] | none => []))

/-- A slot's version by its number (a request is pinned to one, R337). -/
def State.versionNo (s : State) (slot n : Nat) : Option Version :=
  (s.versions.find? (fun p => p.1 == slot && p.2.2.number == n)).map (fun p => p.2.2)

/-- The tile held in an engine tier, with its slot, place and version. -/
def State.tileAt (s : State) (eng tier : Nat) : Option (Nat × Which × Version × Tile) :=
  match s.versions.find? (fun p => p.2.2.tiles.any (fun t => t.eng == eng && t.tier == tier)) with
  | none => none
  | some p => (p.2.2.tiles.find? (fun t => t.eng == eng && t.tier == tier)).map (fun t => (p.1, p.2.1, p.2.2, t))

/-- Change the tile in an engine tier. -/
def State.mapTile (s : State) (eng tier : Nat) (f : Tile → Tile) : State :=
  let onV (v : Version) : Version :=
    { v with tiles := v.tiles.map (fun t => if t.eng == eng && t.tier == tier then f t else t) }
  { s with slots := { s.slots with slots := s.slots.slots.map (fun p =>
      (p.1, { p.2 with cur := p.2.cur.map onV, pend := p.2.pend.map onV, old := p.2.old.map onV })) } }

/-- Column pairs of a logical output under a plan (Table 5.2). -/
def columnsOf (plan j : Nat) : List Nat :=
  match plan with
  | 2 => [j, j + 256]
  | 4 => [j, j + 128, j + 256, j + 384]
  | _ => [j]

/-- Logical outputs per pass (R304). -/
def outsOf (plan : Nat) : Nat :=
  match plan with
  | 2 => 256
  | 4 => 128
  | _ => 512

/-- Logical output of a column pair (Table 5.2). -/
def outOfColumn (plan c : Nat) : Nat := c % outsOf plan

/-- Digit of a weight row and column pair in a reference image (R305). -/
def imageDigit (img : Bytes) (row col : Nat) : Int :=
  let e := 512 * row + col
  let b := (img.getD (e / 2) 0).toNat
  signed 4 (if e % 2 == 0 then b % 16 else b / 16)

/-- Weight group code of a column pair in a reference image (R305): −128 for a zero group. -/
def imageCode (img : Bytes) (col : Nat) : Int := signed 8 (img.getD (131072 + col) 0x80).toNat

/-- Reference-row digits (Table 5.9). -/
def refDigit (r : Nat) : Int :=
  match r with
  | 2 => 7 | 3 => -7 | 4 => 3 | 5 => -3 | 6 => 1 | 7 => -1 | _ => 0

/-- The digit expected of a cell pair by row 0–519 (R201). -/
def expectedDigit (img : Bytes) (row col : Nat) : Int :=
  if row < 512 then imageDigit img row col else refDigit (row - 512)

/-- The digit a corrected count of a read-back decodes to: the nearest integer to count ÷ 7 (R326). -/
def decodeCount (c : Int) : Int := (2 * c + 7) / 14

/-! ### Cells (R166–R170, R195) -/

/-- Bytes of an image's digits; its column codes follow (R305). -/
def digitBytes : Nat := 131072

/-- The level of the cell on the positive column of a pair (R169). -/
def levelP (w : Int) : Nat := (max w 0).toNat
/-- The level of the cell on the negative column of a pair (R169). -/
def levelN (w : Int) : Nat := (max (-w) 0).toNat

/-- The digit of a cell pair of a tier: row 0–511, or 512 on for the reference rows; place 0–511, or 512 on for the spares. An erased pair's is
0 (R168). -/
def TierS.digit (t : TierS) (row place : Nat) : Int :=
  if row ≥ 512 then (if t.refs then refDigit (row - 512) else 0)
  else if place < 512 then imageDigit t.weights row place
  else (mapGet t.spareCols (place - 512) []).getD row 0

/-- The place whose cells stand for a column pair: itself, or the spare that replaces it (R197). -/
def placeOf (m : Map Remap) (col : Nat) : Nat :=
  match m.find? (fun p => p.2.v && p.2.column == col) with
  | some p => 512 + p.1
  | none => col

/-- The digits of a column of an image. -/
def columnDigits (img : Bytes) (col : Nat) : List Int := (List.range 512).map (fun i => imageDigit img i col)

/-- An image's digits with a column's replaced. -/
def putColumn (img : Bytes) (col : Nat) (ds : List Int) : Bytes :=
  ds.zipIdx.foldl (fun m x =>
    let i := 256 * x.2 + col / 2
    let b := (m.getD i 0).toNat
    let d := unsigned 4 x.1
    m.set i (BitVec.ofNat 8 (if col % 2 == 0 then b / 16 * 16 + d else d * 16 + b % 16))) img

/-- The digits that reading a tier gives, spares standing in for the columns they replace (R197). -/
def TierS.readDigits (t : TierS) : Bytes :=
  (t.remap.filter (fun p => p.2.v)).foldl (fun m p => putColumn m p.2.column (mapGet t.spareCols p.1 [])) t.weights

/-- Raise the largest magnitude noted for a column. -/
def bumpMax (m : Map Nat) (col : Nat) (d : Int) : Map Nat := if d.natAbs > mapGet m col 0 then mapSet m col d.natAbs else m

/-- COLMAX of every column pair of an image (R189), its weight rows counted: no other row is driven in a run-phase pass (R177; log 13). -/
def colMaxes (img : Bytes) : Map Nat :=
  ((img.take digitBytes).zipIdx).foldl (fun m x =>
    let b := x.1.toNat
    bumpMax (bumpMax m (2 * x.2 % 512) (signed 4 (b % 16))) (2 * x.2 % 512 + 1) (signed 4 (b / 16))) []

/-- The largest magnitude of some digits. -/
def largestDigit (l : List Int) : Nat := (l.map Int.natAbs).foldl max 0

/-- Mismatching cell pairs of a read-back against an image (R201): |count − 7 × w| ≥ 4. -/
def mismatches (img : Bytes) (cells : List CellRead) : List (Nat × Nat) :=
  (cells.filter (fun c => c.col < 512 && decide ((c.count - 7 * expectedDigit img c.row c.col).natAbs ≥ 4))).map
    (fun c => (c.row, c.col))

/-- Mismatching pairs of a tier's read-back against an image (R201): the pairs listed, and, where the image is not what was programmed, every
pair the two disagree on. -/
def TierS.mismatches (x : TierS) (img : Bytes) (cells : List CellRead) : List (Nat × Nat) :=
  let ds := x.readDigits
  Machine.mismatches img cells ++
  (if img.take digitBytes == ds then [] else
    (List.range 512).flatMap (fun i => ((List.range 512).filter (fun j =>
      imageDigit img i j != imageDigit ds i j && !(cells.any (fun c => c.row == i && c.col == j)))).map (fun j => (i, j))))

/-- A read-back decodes to the digits that were programmed (R326). -/
def readsTrue (ds : Bytes) (cells : List CellRead) : Bool :=
  cells.all (fun c => c.row ≥ 512 || c.col ≥ 512 || decodeCount c.count == imageDigit ds c.row c.col)

/-- The image that a tier's digits and a tile's column codes rebuild (R344, R348). -/
def Tile.rebuilt (t : Tile) (x : TierS) : Bytes := x.readDigits ++ t.codes

/-- The reference image of the tile in a tier; an empty tier's digits are all 0. -/
def State.imageAt (s : State) (eng tier : Nat) : Bytes :=
  match s.tileAt eng tier with
  | some (_, _, _, t) => t.image
  | none => []

/-- Mismatching pairs of a read-back of an engine tier, the digits expected taken from the slot's reference image, from what was programmed where
the tier holds no tile (R201; log 13). -/
def State.mismatchesAt (s : State) (eng tier : Nat) (cells : List CellRead) : List (Nat × Nat) :=
  let x := (s.engine eng).tier tier
  match s.tileAt eng tier with
  | some (_, _, _, t) => x.mismatches t.image cells
  | none => x.mismatches x.readDigits cells

/-- Ask for a shard again; a request for it that stands is replaced. -/
def Version.ask (v : Version) (index reason : Nat) : Version :=
  let r := v.reqs.filter (fun q => q.index != index)
  { v with reqs := r.filter (fun q => q.index < index) ++ [{ index, reason }] ++ r.filter (fun q => index < q.index)
           accepted := v.accepted.filter (· != index) }

/-- Operating time in milliseconds (spec/14 R577). -/
def State.opMsNow (s : State) : Nat :=
  s.evt.opMs + (match s.evt.opSince with
    | some t => (s.now - t) / 1000000000
    | none => 0)

/-- Hours of operation. -/
def State.opHours (s : State) : Nat := s.opMsNow / 3600000

/-- Change a version of a slot. -/
def State.mapVer (s : State) (n : Nat) (w : Which) (f : Version → Version) : State :=
  let x := s.slot n
  s.putSlot n (x.putVer w ((x.ver w).map f))

/-- A power-up read-back of a tile (R348): digits whose digest matches the record rebuild its image; a second mismatch asks for its shard with REASON
0x06, and the tile waits to be programmed again. A tier whose trims are valid needs no run. -/
def State.verifyTile (s : State) (eng tier : Nat) (cells : List CellRead) : State :=
  match s.tileAt eng tier with
  | none => s
  | some (n, w, _, t) =>
    if t.state ≠ .verify then s else
    let x := (s.engine eng).tier tier
    let s := s.putTier eng tier { x with scrubHour := s.opHours, overdue := false }
    let img := t.rebuilt x
    if readsTrue x.readDigits cells && sha384 img == t.digest then
      s.mapTile eng tier (fun t => { t with image := img, tries := 0
                                            state := if ((s.engine eng).tier tier).trimmed then .ready else .awaitCal })
    else if t.tries == 0 then s.mapTile eng tier (fun t => { t with tries := 1 })
    else (s.mapTile eng tier (fun t => { t with tries := 0, state := .waiting, image := [] })).mapVer n w
      (fun v => v.ask t.shard 6)

/-- The composite or single weight of an output in a row, from the reference image: S4 recombines hi and lo (R134). -/
def imageWeight (img : Bytes) (plan row j : Nat) : Int :=
  match plan with
  | 4 => 15 * imageDigit img row j + imageDigit img row (j + 384)
  | _ => imageDigit img row j

/-- Bytes rounded up to a multiple of 64. -/
def up64 (n : Nat) : Nat := (n + 63) / 64 * 64

/-- Blocks per output of a weight shard (R308). -/
def ShardHdr.blocksPer (h : ShardHdr) : Nat := (h.rows + 31) / 32

/-- The block of a weight shard that holds a row of an output, with its scale code and its digits; none when malformed. -/
def shardBlock (h : ShardHdr) (pay : Bytes) (row out : Nat) : Option DBlock :=
  let b := (out - h.colOff) * h.blocksPer + (row - h.rowOff) / 32
  let bb := match fmtRow h.fmt with | some r => r.bytes | none => 0
  let used := min 32 (h.rows - (row - h.rowOff) / 32 * 32)
  let code := scaleOf (pay.getD (up64 h.dataLen + b) 0x80).toNat
  (decodeBlock h.fmt used ((pay.drop (b * bb)).take bb) code).map (fun d => ⟨code, d⟩)

/-- The shard a tile is of. -/
def Version.shardOf (v : Version) (t : Tile) : Option ShardHdr := v.shards.find? (fun h => h.index == t.shard)

/-- The shard that gives a layer's settings in the placement map: its first of KIND 0x01 or 0x03. -/
def Version.layerHdr (v : Version) (layer : Nat) : Option ShardHdr :=
  v.shards.find? (fun h => h.layer == layer && (h.kind == 1 || h.kind == 3))

/-- A digital copy covers all rows and columns of a tile (R310). -/
def ShardHdr.covers (h : ShardHdr) (t : Tile) : Bool :=
  h.kind == 2 && h.layer == t.layer && h.rowOff ≤ t.rowOff && t.rowOff + t.rows ≤ h.rowOff + h.rows &&
  h.colOff ≤ t.colOff && t.colOff + t.cols ≤ h.colOff + h.cols

/-- The digital copy of a tile held by its version, if any (R226, R310, R345). -/
def Version.copyOf (v : Version) (t : Tile) : Option (ShardHdr × Bytes) :=
  match v.shards.find? (fun h => h.covers t && (v.held.any (fun p => p.1 == h.index)) && !v.badHeld.contains h.index) with
  | none => none
  | some h => (v.held.find? (fun p => p.1 == h.index)).map (fun p => (h, p.2))

/-- A tile takes no run-phase pass: its tier is SUSPECT or RETIRED, its image failed its digest, or it is being programmed again (R333, R344). -/
def State.tileDigital (s : State) (t : Tile) : Bool :=
  let h := ((s.engine t.eng).tier t.tier).health
  h == .suspect || h == .retired || t.imageBad || t.again

/-- The version that serves a request's layers, its draft's for layers of the draft (R407). -/
def State.servedBy (s : State) (req : Nat) (draft : Bool) : Option Version :=
  let r := s.req req
  if draft then s.versionNo r.draftSlot r.draftVersion else s.versionNo r.slot r.version

/-- has_digital_row of a layer's input row: every tile of the row has a digital copy (R151, R310). A layer without tiles has none. -/
def Version.digitalRow (v : Version) (layer row : Nat) : Bool :=
  let ts := v.tiles.filter (fun t => t.layer == layer && !t.replacing && t.rowOff ≤ row && row < t.rowOff + t.rows)
  !ts.isEmpty && ts.all (fun t => (v.copyOf t).isSome)

/-- A tile served by image recompute: under R333 with no digital copy (R334). -/
def State.imageRecompute (s : State) (v : Version) (t : Tile) : Bool :=
  s.tileDigital t && (v.copyOf t).isNone

end Sys2Proof.Machine
end

