-- ==== Sys2Proof/Machine/FuncOps.lean ====
section
/-! DEFINITION. Machine/FuncOps.lean: the states of the dictionary's functions (spec/03 R123–R125, R628–R630) and the pool of
memory pages (spec/12 R497, R498, R502). -/
namespace Sys2Proof.Machine
open Sys2Proof

/-- 20 ms of the hub oscillator in picoseconds: a beat for counts made in SEEKING (R630, R634). -/
def seekBeat : Nat := 20000000000

/-- FUNC_OPEN_LIMIT of a function (R331, R449, R494). -/
def openLimit : Func → Nat
  | .slot _ => 4 | .port _ => 16 | .keyway _ => 256
/-- FUNC_CLOSE_LIMIT of a function (R331, R449, R494). -/
def closeLimit : Func → Nat
  | .slot _ => 1024 | .port _ => 4 | .keyway _ => 16

/-- The keyway an event of a function names. -/
def State.funcKw (s : State) : Func → Nat
  | .slot n => (s.slot n).owner | .port _ => 0xFF | .keyway n => n

/-- A default FUNC_ENABLE: 1 for ports and for KW0, 0 for slots and other keyways (R449, R494). -/
def enableDflt : Func → Nat
  | .slot _ => 0 | .port _ => 1 | .keyway n => if n == 0 then 1 else 0

/-- FUNC_ENABLE as last accepted, in force or waiting for its boundary. -/
def State.enabled (s : State) (f : Func) : Bool :=
  match ((s.waiting.reverse.find? (fun x => x.1 == funcEnableKey f)).map Prod.snd).orElse (fun _ => cellFind s.cfg (funcEnableKey f)) with
  | some v => ovNat v != 0
  | none => enableDflt f != 0

/-- Enter a state of Table 3.13; the change is reported (R125), and an opening that succeeds clears FUNC_FAIL_CAUSE. A 0 written during OPENING
still closes a function whose opening completes before the boundary (R629). -/
def State.funcTo (s : State) (f : Func) (x : FState) : State :=
  let g := s.func f
  let cause := if g.state = .opening ∧ x = .on then 0 else g.cause
  let want := if x = .on then g.want.filter (· == false) else none
  (s.raise 0x1301 (s.funcKw f) 0 (funcIndex f) x.code g.state.code).putFunc f
    { g with state := x, beats := 0, since := s.now, want := want, cause := cause }

/-- A boundary counts in a function's state (R630, spec/08 R331). -/
def State.funcCounts (s : State) (f : Func) : Bool :=
  match f with
  | .slot n => let st := (mapGet s.slots.slots n {}).state
    (s.func f).state != .opening || st == .ready || st == .empty || st == .fault
  | _ => true

/-- Beats a function has spent in its state (R630): boundaries, the one of this instant included; beats of 20 ms in SEEKING. -/
def State.funcBeats (s : State) (f : Func) : Nat :=
  let g := s.func f
  if s.beat.mode = .seeking then g.beats + (if s.funcCounts f then (s.now - max g.since s.beat.since) / seekBeat else 0)
  else g.beats + (if s.boundaryDue && s.funcCounts f then 1 else 0)

/-- What a function's state has counted in SEEKING is kept when a condition of its count changes (R630); a beat of 20 ms that has not ended begins
anew (log 63). -/
def State.funcKeep (s : State) (f : Func) : State :=
  let g := s.func f
  if s.beat.mode = .seeking && g.state = .opening then s.putFunc f { g with beats := s.funcBeats f, since := s.now } else s

/-- An opening fails (Table 3.13): OFF, with the cause kept. A limit passed has the failure's own code as its cause. -/
def State.funcFail (s : State) (f : Func) (cause : Nat) : State :=
  let s := (s.raise 0x8301 (s.funcKw f) 0 (funcIndex f) cause (s.funcBeats f)).funcTo f .off
  s.putFunc f { s.func f with cause := if cause == 0 then 0x8301 else cause }

/-- A closing that passes its limit is forced OFF (Table 3.13). -/
def State.funcForce (s : State) (f : Func) : State :=
  let s := (s.raise 0x8302 (s.funcKw f) 0 (funcIndex f) (s.funcBeats f)).funcTo f .off
  s.putFunc f { s.func f with cause := 0x8302 }

/-! ### The pool of pages -/

/-- Bytes of a memory page of the pool. -/
def poolPage : Nat := 2097152

/-- Pages that hold a number of bytes (log 20). -/
def pagesOf (b : Nat) : Nat := (b + poolPage - 1) / poolPage

/-- Sum of a list. -/
def sumNat (l : List Nat) : Nat := l.foldl (· + ·) 0

/-- Pages of the stacks that memory BIST has not withheld (R498). -/
def MemS.total (m : MemS) : Nat := 294912 - m.withheld

/-- Pages taken: the device's reservations, the keyways' reservations, KW0's pages, pages being zeroed. -/
def MemS.taken (m : MemS) : Nat :=
  pagesOf m.images + pagesOf m.store + pagesOf m.standby + sumNat (m.resv.map Prod.snd) + pagesOf (mapGet m.used 0 0) +
    sumNat (m.zeroing.map Prod.snd)

/-- Free pages of the pool. -/
def MemS.free (m : MemS) : Nat := m.total - m.taken

/-- Pages a keyway's data holds (KW_MEM_USED, R498). -/
def MemS.pagesUsed (m : MemS) (kw : Nat) : Nat := pagesOf (mapGet m.used kw 0)

/-- A keyway may take bytes: KW0 from free pages up to its quota, another keyway within its reservation (R498). -/
def State.memFits (s : State) (kw bytes : Nat) : Bool :=
  let u := mapGet s.mem.used kw 0
  let more := pagesOf (u + bytes) - pagesOf u
  if kw == 0 then decide (pagesOf (u + bytes) ≤ s.setK .QUOTA_MEM_PAGES 0) && decide (more ≤ s.mem.free)
  else decide (pagesOf (u + bytes) ≤ mapGet s.mem.resv kw 0)

/-- Take bytes of a keyway's memory. -/
def State.memTake (s : State) (kw bytes : Nat) : State :=
  { s with mem := { s.mem with used := mapSet s.mem.used kw (mapGet s.mem.used kw 0 + bytes) } }

/-- Pages to zero before they return to the pool (R502). -/
def MemS.zeroJob (m : MemS) (owner pages : Nat) : MemS :=
  if pages == 0 then m else { m with zeroing := m.zeroing ++ [(owner, pages)] }

/-- Return bytes of a keyway's memory: KW0's pages go through zeroing to the pool, another keyway's stay in its reservation. -/
def State.memGive (s : State) (kw bytes : Nat) : State :=
  let u := mapGet s.mem.used kw 0
  let m := { s.mem with used := mapSet s.mem.used kw (u - bytes) }
  { s with mem := if kw == 0 then m.zeroJob 0 (pagesOf u - pagesOf (u - bytes)) else m }

/-- Which of the device's reservations (R498). -/
inductive DevMem where
  | images | store | standby
  deriving DecidableEq, Repr

/-- Bytes of a device reservation. -/
def MemS.dev (m : MemS) : DevMem → Nat
  | .images => m.images | .store => m.store | .standby => m.standby

/-- Set the bytes of a device reservation. -/
def MemS.putDev (m : MemS) (d : DevMem) (b : Nat) : MemS :=
  match d with
  | .images => { m with images := b }
  | .store => { m with store := b }
  | .standby => { m with standby := b }

/-- The pool can meet a device reservation. -/
def State.devFits (s : State) (d : DevMem) (bytes : Nat) : Bool :=
  decide (pagesOf (s.mem.dev d + bytes) - pagesOf (s.mem.dev d) ≤ s.mem.free)

/-- Take bytes of a device reservation. -/
def State.devTake (s : State) (d : DevMem) (bytes : Nat) : State := { s with mem := s.mem.putDev d (s.mem.dev d + bytes) }

/-- Return bytes of a device reservation; whole pages freed are zeroed first (R502). -/
def State.devGive (s : State) (d : DevMem) (bytes : Nat) : State :=
  let b := s.mem.dev d
  { s with mem := (s.mem.putDev d (b - bytes)).zeroJob 0xFF (pagesOf b - pagesOf (b - bytes)) }

/-- A reference image's bytes (R305). -/
def imageBytes : Nat := 131584

/-! ### Keyways -/

/-- What the Ward holds of a keyway. -/
def State.kway (s : State) (n : Nat) : KeywayS := mapGet s.ward.kws n {}
/-- Replace it. -/
def State.putKway (s : State) (n : Nat) (x : KeywayS) : State :=
  { s with ward := { s.ward with kws := mapSet s.ward.kws n x } }

/-- FUNC_STATE of a keyway. -/
def State.kwState (s : State) (n : Nat) : FState := (s.func (.keyway n)).state
/-- A keyway is ON. -/
def State.kwOn (s : State) (n : Nat) : Bool := s.kwState n == .on
/-- A keyway is being removed: its ring, puts, cancellations and mailbox are ignored (Table 12.6 step 1). -/
def State.kwClosing (s : State) (n : Nat) : Bool := (s.kway n).removal != .none
/-- DMA may be issued for a keyway (R493). -/
def State.kwDma (s : State) (n : Nat) : Bool := !(s.kway n).noDma

/-- A range of a keyway's window: first and one past the last (R495). -/
def State.kwRange (s : State) (first count : Obj) (bound n : Nat) : Nat × Nat :=
  let a := s.setK first n
  (a, min (a + s.setK count n) bound)

/-- A keyway's window core range. -/
def State.coreRange (s : State) (n : Nat) : Nat × Nat := s.kwRange .QUOTA_CORE_FIRST .QUOTA_CORE_COUNT s.numCores n
/-- A keyway's window latch range. -/
def State.latchRange (s : State) (n : Nat) : Nat × Nat := s.kwRange .QUOTA_LATCH_FIRST .QUOTA_LATCH_COUNT 16384 n

/-- A number lies in a range. -/
def inRange (r : Nat × Nat) (x : Nat) : Bool := decide (r.1 ≤ x) && decide (x < r.2)
/-- Two ranges share a number. -/
def overlap (a b : Nat × Nat) : Bool := decide (max a.1 b.1 < min a.2 b.2)

/-- Keyways other than KW0 that are not OFF. -/
def State.kwsNotOff (s : State) : List Nat := ((List.range 64).drop 1).filter (fun n => s.kwState n != .off)

/-- A core lies inside a keyway's core quota (R495): KW0's is its range less those of every other keyway that is not OFF. -/
def State.coreQuota (s : State) (kw core : Nat) : Bool :=
  inRange (s.coreRange kw) core && (kw != 0 || !(s.kwsNotOff.any (fun n => inRange (s.coreRange n) core)))

/-- Cores of a keyway's quota, in ascending index. -/
def State.quotaCores (s : State) (kw : Nat) : List Nat := (List.range s.numCores).filter (s.coreQuota kw)

/-- The physical latch of a number in a keyway's view (R500); the physical function, KW0, sees every latch (R481, log 21). -/
def State.latchOf (s : State) (kw num : Nat) : Option Nat :=
  if kw == 0 then (if num < 16384 then some num else none)
  else
    let r := s.latchRange kw
    if inRange r (r.1 + num) then some (r.1 + num) else none

/-- LATCHES_IN_VIEW (R481, R500). -/
def State.latchesInView (s : State) (kw : Nat) : Nat :=
  if kw == 0 then 16384 else (s.latchRange kw).2 - (s.latchRange kw).1

end Sys2Proof.Machine
end

