-- ==== Sys2Proof/Machine/FabOps.lean ====
section
/-! DEFINITION. Machine/FabOps.lean: addresses and the map of the Hinge fabric, routes, sealing and starting flows (spec/11
R450–R465), and the key slots flows run under (spec/12 R508–R512). -/
namespace Sys2Proof.Machine
open Sys2Proof

/-! ### Ports and addresses -/

/-- A Hinge port's record. -/
def State.port (s : State) (p : Nat) : PortS := mapGet s.fab.ports p {}
/-- Replace it. -/
def State.putPort (s : State) (p : Nat) (x : PortS) : State := { s with fab := { s.fab with ports := mapSet s.fab.ports p x } }
/-- A port carries routed frames (Table 11.2). -/
def PortS.live (x : PortS) : Bool := x.link == 2 || x.link == 3
/-- UNIT_ID of a port (R444). -/
def uidPort (p : Nat) : Nat := uidHub (5 + p)

/-- The physical address, 0xFFFF for none (R450). -/
def State.physAddr (s : State) : Nat := s.set0 .FABRIC_ADDR
/-- The logical address (R450). -/
def State.logAddr (s : State) : Nat := s.fab.logical.getD s.physAddr
/-- The device sends and forwards routed frames (R450). -/
def State.fabricOn (s : State) : Bool := s.physAddr != 0xFFFF
/-- Group of an address. -/
def groupOf (a : Nat) : Nat := a / 16
/-- Member of an address. -/
def memberOf (a : Nat) : Nat := a % 16

/-- GROUPS of the map in force (Table 11.3). -/
def State.groups (s : State) : Nat := leAt s.fab.map 4 1
/-- PRESENT of a group. -/
def State.present (s : State) (g : Nat) : Nat := leAt s.fab.map (8 + 4 * g) 2
/-- SPARE of a group. -/
def State.spares (s : State) (g : Nat) : Nat := leAt s.fab.map (10 + 4 * g) 2
/-- An address is a spare of the map. -/
def State.isSpare (s : State) (a : Nat) : Bool := (s.spares (groupOf a)).testBit (memberOf a)

/-- The slot ring (R454). -/
def State.slotRing (s : State) : List Nat :=
  (List.range (16 * s.groups)).filter (fun a => (s.present (groupOf a)).testBit (memberOf a) && !(s.isSpare a))
/-- NSLOT. -/
def State.nslot (s : State) : Nat := s.slotRing.length
/-- The slot of an address, if any. -/
def State.slotOf (s : State) (a : Nat) : Option Nat := s.slotRing.findIdx? (· == a)

/-- A job's FIRST_SLOT and LENGTH, clamped, by its JOB_ID (R455); the lowest entry of the table that carries it. -/
def State.job (s : State) (id : Nat) : Option (Nat × Nat) :=
  let tab := ovBytes (s.setting ⟨.JOB_TABLE, 0, 0⟩)
  if id == 0 then none else
  ((List.range 64).find? (fun i => leAt tab (8 * i) 2 == id)).map (fun i =>
    (min (leAt tab (8 * i + 2) 2) (s.nslot - 1), min (leAt tab (8 * i + 4) 2) s.nslot))
/-- The logical address of a rank of a job. -/
def State.rankAddr (s : State) (j : Nat × Nat) (i : Nat) : Nat := s.slotRing.getD ((j.1 + i) % s.nslot) 0xFFFF
/-- The rank this device holds in a job. -/
def State.ownRank (s : State) (j : Nat × Nat) : Option Nat := (List.range j.2).find? (fun i => s.rankAddr j i == s.logAddr)
/-- The ring a RING_ID names: its length and this device's index (R456); none when the descriptor is to be refused. -/
def State.ringOf (s : State) (id : Nat) : Option (Nat × Nat) :=
  match s.job id with
  | none => none
  | some j => if 2 ≤ j.2 && j.2 ≤ 64 then (s.ownRank j).map (fun i => (j.2, i)) else none

/-! ### Routes -/

/-- A port may carry a frame: its link is live, and for a new flow it is not CLOSING (R449). -/
def State.usable (s : State) (new : Bool) (p : Nat) : Bool := (s.port p).live && (!new || (s.func (.port p)).state != .closing)

/-- The live port to a member of the own group by logical address. -/
def State.portTo (s : State) (new : Bool) (a : Nat) : Option Nat := (List.range 15).find? (fun p => s.usable new p && (s.port p).logical == a)
/-- The live port to a member of the own group by its physical member number. -/
def State.portToMember (s : State) (new : Bool) (m : Nat) : Option Nat :=
  (List.range 15).find? (fun p => s.usable new p && (s.port p).partner == 16 * groupOf s.physAddr + m)

/-- The live global links of the own group, by member and port: member, port, partner's group, occupancy (R453, R460). -/
def State.globalLinks (s : State) (new : Bool) : List (Nat × Nat × Nat × Nat) :=
  let me := memberOf s.physAddr
  (List.range 16).flatMap (fun m =>
    if m == me then
      ((List.range 8).map (· + 15)).filterMap (fun p =>
        if s.usable new p && (s.port p).partner != 0xFFFF then
          some (m, p, groupOf (s.port p).partner, ((s.fab.own.find? (fun o => o.1 == p)).map (fun o => o.2.2)).getD 0)
        else none)
    else if (s.portToMember new m).isSome then ((mapGet s.fab.reach m {}).globals).map (fun o => (m, o.1, o.2.1, o.2.2)) else [])

/-- The minimal route to a group: first port and the occupancy its global leg advertises; none when it is not live (R460). -/
def State.toGroup (s : State) (new : Bool) (h flow : Nat) : Option (Nat × Nat) :=
  let l := (s.globalLinks new).filter (fun g => g.2.2.1 == h)
  match l[flow % l.length]? with
  | none => none
  | some g =>
    if g.1 == memberOf s.physAddr then some (g.2.1, g.2.2.2) else (s.portToMember new g.1).map (fun p => (p, g.2.2.2))

/-- The candidate groups of an adaptive choice (R462). -/
def State.candidates (s : State) (h flow : Nat) : List Nat :=
  let l := (List.range s.groups).filter (fun g => g != groupOf s.physAddr && g != h)
  if l.isEmpty then [] else (List.range 4).map (fun k => l.getD ((flow + 37 * k) % l.length) 0)

/-- Each live candidate with its first port and the occupancy of its busier leg. The leg beyond the candidate is another group's and
nothing advertises it here, so its occupancy is free (log 25). -/
def State.scanCandidates (s : State) (flow : Nat) : List Nat → State × List (Nat × Nat × Nat)
  | [] => (s, [])
  | c :: r =>
    match s.toGroup true c flow with
    | none => s.scanCandidates flow r
    | some (p, o) =>
      let x := (c, p, max o (s.freeBelow 101))
      let (s', l) := s.drawn.scanCandidates flow r
      (s', x :: l)

/-- The candidate of lowest occupancy, the first of equals. -/
def leastBusy : List (Nat × Nat × Nat) → Option (Nat × Nat × Nat)
  | [] => none
  | c :: r => match leastBusy r with
    | none => some c
    | some d => some (if d.2.2 < c.2.2 then d else c)

/-- The route of a flow (R460–R463): first port and intermediate group; none when no live route exists. -/
def State.route (s : State) (dst flow : Nat) : State × Option (Nat × Option Nat) :=
  if !s.fabricOn then (s, none)
  else if groupOf dst == groupOf s.physAddr then (s, (s.portTo true dst).map (fun p => (p, none)))
  else
    let h := groupOf dst
    let mini := s.toGroup true h flow
    let mode := s.set0 .ROUTE_MODE
    if s.groups < 3 then (s, mini.map (fun m => (m.1, none)))
    else match mini, mode with
      | some m, 0 => (s, some (m.1, none))
      | _, _ =>
        let (s, l) := s.scanCandidates flow (s.candidates h flow)
        let best := leastBusy l
        let th := s.set0 .ADAPT_THRESH
        match mini, best with
        | none, none => (s, none)
        | none, some b => (s, some (b.2.1, some b.1))
        | some m, none => (s, some (m.1, none))
        | some m, some b =>
          if mode == 2 || (decide (m.2 > th) && decide (b.2.2 < th)) then (s, some (b.2.1, some b.1))
          else (s, some (m.1, none))

/-- A flow that begins to run non-minimal is counted (R462). -/
def State.countVia (s : State) (via : Option Nat) : State := if via.isSome then s.inc .FRAMES_NONMIN else s

/-! ### Key slots -/

/-- A key slot's record. -/
def State.keySlot (s : State) (n : Nat) : KeySlot := mapGet s.ward.keys n {}
/-- Replace it. -/
def State.putKeySlot (s : State) (n : Nat) (k : KeySlot) : State := { s with ward := { s.ward with keys := mapSet s.ward.keys n k } }

/-- The slot a keyway's window names for links, or for DMA; none when it names none. -/
def State.namedSlot (s : State) (o : Obj) (kw : Nat) : Option Nat :=
  let v := s.setK o kw
  if v == 0xFF then none else some v

/-- A slot is ACTIVE, belongs to the keyway and has the usage bit (Table 12.3). -/
def State.keyActive (s : State) (n kw usage : Nat) : Bool :=
  let k := s.keySlot n
  k.state == 1 && k.kw == kw && k.usage.testBit usage

/-- The bytes of a frame's header with HOPS 0 (Table 11.5, R459). -/
def hfHeader (f : HFrame) : Bytes :=
  leBytes 1 f.type ++ leBytes 1 f.flags ++ leBytes 2 f.dst ++ leBytes 2 f.src ++ leBytes 2 f.via ++ leBytes 4 f.flow ++ leBytes 4 f.seq ++
    leBytes 1 f.keyway ++ leBytes 1 f.keySlot ++ leBytes 2 f.payload.length ++ [0] ++ leBytes 1 f.status ++ zeros 10

/-- The nonce of a frame (R459). -/
def hfNonce (f : HFrame) : Bytes := leBytes 2 f.src ++ leBytes 4 f.flow ++ leBytes 4 f.seq ++ leBytes 1 f.type ++ [0]

/-- A type that Table 11.6 marks "under R459". -/
def sealable (t : Nat) : Bool := [0x10, 0x11, 0x12, 0x20, 0x21, 0x30, 0x31, 0x40, 0x41, 0x50].contains t

/-- ENC of a frame. -/
def hfEnc (f : HFrame) : Bool := f.flags.testBit 0
/-- LAST of a frame. -/
def hfLast (f : HFrame) : Bool := f.flags.testBit 1

/-- A frame sealed under a key (R459). -/
def hfSealed (f : HFrame) (key : Bytes) : HFrame :=
  let c := Config.gcmSeal key (hfNonce f) (hfHeader f) f.payload
  { f with payload := c.take f.payload.length, tag := c.drop f.payload.length }

/-- A key slot's generations that may open a frame: the current one, then the previous one (R511). -/
def KeySlot.openKeys (k : KeySlot) : List Bytes := k.key :: (match k.prev with | some p => [p.1] | none => [])

/-- The plaintext of a frame under the first generation that authenticates it. -/
def openFrame (f : HFrame) : List Bytes → Option Bytes
  | [] => none
  | k :: r => match Config.gcmOpen k (hfNonce f) (hfHeader f) (f.payload ++ f.tag) with
    | some p => some p
    | none => openFrame f r

/-! ### Sending -/

/-- Bytes of a frame on the link. -/
def hfSize (f : HFrame) : Nat := 32 + f.payload.length + f.tag.length

/-- Send a frame on a port. -/
def State.sendOn (s : State) (p : Nat) (f : HFrame) : State := (s.incI .TX_BYTES p (hfSize f)).emit (.frame p f)

/-- Send frames on a port in order. -/
def State.sendAll (s : State) (p : Nat) : List HFrame → State
  | [] => s
  | f :: r => (s.sendOn p f).sendAll p r

/-- Send a flood frame on every live port but one (R458). -/
def State.floodOn (s : State) (except : Option Nat) (f : HFrame) : State :=
  (((List.range 23).filter (fun p => (s.port p).live && except != some p)).foldl (fun x p => x.sendOn p f) s)

/-- The link key a keyway's frames go under (R459): none when they go in clear; `some none` when the slot named cannot take a
new flow (it is not ACTIVE, or has carried 2^31 flows in this generation). -/
def State.linkKey (s : State) (kw : Nat) : Option (Option (Nat × KeySlot)) :=
  if kw ≥ 64 then none else
  match s.namedSlot .LINK_KEY_SLOT kw with
  | none => none
  | some n => if s.keyActive n kw 1 && decide ((s.keySlot n).flows < 2 ^ 31) then some (some (n, s.keySlot n)) else some none

/-- Frames of a flow: SEQ from 0, LAST on the last, the route and the key (R457, R459, R461). -/
def mkFrames (src dst flow kw : Nat) (via : Option Nat) (key : Option (Nat × Bytes)) (n : Nat) : Nat → List FlowItem → List HFrame
  | _, [] => []
  | i, x :: r =>
    let f : HFrame := { type := x.type, dst := dst, src := src, flow := flow, seq := i, keyway := kw, status := x.status, payload := x.payload
                        body := x.body
                        flags := (if i + 1 == n then 2 else 0) + (if via.isSome then 4 else 0) + (if key.isSome && sealable x.type then 1 else 0)
                        via := (match via with | some g => 32768 + g | none => 0)
                        keySlot := (match key with | some k => if sealable x.type then k.1 else 0xFF | none => 0xFF) }
    (match key with
      | some k => if sealable x.type then hfSealed f k.2 else f
      | none => f) :: mkFrames src dst flow kw via key n (i + 1) r

/-- A flow by its number. -/
def State.flow (s : State) (num : Nat) : Option Flow := s.fab.flows.find? (fun f => f.num == num)
/-- A flow is over. -/
def State.dropFlow (s : State) (num : Nat) : State :=
  { s with fab := { s.fab with flows := s.fab.flows.filter (fun f => f.num != num) } }
/-- Change a flow. -/
def State.mapFlow (s : State) (num : Nat) (g : Flow → Flow) : State :=
  { s with fab := { s.fab with flows := s.fab.flows.map (fun f => if f.num == num then g f else f) } }

/-- Send the frames of a flow that its window admits and that are not sent yet (R466). -/
def State.pump (s : State) (num : Nat) : State :=
  match s.flow num with
  | none => s
  | some f =>
    let upto := min (f.acked + s.set0 .TRAIN_WINDOW) f.frames.length
    (s.sendAll f.port ((f.frames.take upto).drop f.sent)).mapFlow num (fun f => { f with sent := max f.sent upto })

/-- The key of a flow, if it runs under one. -/
def State.flowKey (s : State) (f : Flow) : Option (Nat × Bytes) :=
  if f.keySlot == 0xFF then none
  else
    let k := s.keySlot f.keySlot
    if k.gen == f.gen then some (f.keySlot, k.key) else k.prev.map (fun p => (f.keySlot, p.1))

/-- Start a flow (R457–R464): its number, its route and its frames, of which the window's are sent. `none` when no route is live
or its key slot takes no flow. Flow numbers rise by 1 (log 24). -/
def State.startFlow (s : State) (kind : FlowKind) (dst kw : Nat) (l : List FlowItem) : State × Option Nat :=
  let num := s.fab.nextFlow
  match s.linkKey kw with
  | some none => (s, none)
  | k =>
    let key := (match k with | some (some x) => some x | _ => none)
    let (s, r) := s.route dst num
    match r with
    | none => (s, none)
    | some (p, via) =>
      let frames := mkFrames s.logAddr dst num kw via (key.map (fun x => (x.1, x.2.key))) l.length 0 l
      let f : Flow := { num, kind, dst, kw, keySlot := (match key with | some x => x.1 | none => 0xFF)
                        gen := (match key with | some x => x.2.gen | none => 0), port := p, via, items := l, frames, since := s.now, progress := s.notchClock }
      let s := (match key with
        | some (n, x) => s.putKeySlot n { x with flows := x.flows + 1 }
        | none => s)
      let s := { s with fab := { s.fab with nextFlow := num + 1, flows := s.fab.flows ++ [f] } }
      ((s.countVia via).pump num, some num)

/-- A keyway's frames must be sealed, and its link key slot cannot seal them now. -/
def State.keyShut (s : State) (kw : Nat) : Bool := match s.linkKey kw with
  | some none => true
  | _ => false

/-- Answer a frame: frames of the same keyway and FLOW to its source (log 24). They are not kept as a flow. What must be sealed and cannot be is not
sent (R459). -/
def State.answer (s : State) (f : HFrame) (l : List FlowItem) : State :=
  if s.keyShut f.keyway && l.any (fun x => sealable x.type) then s else
  let (s, r) := s.route f.src f.flow
  match r with
  | none => s
  | some (p, via) =>
    let key := (match s.linkKey f.keyway with | some (some x) => some (x.1, x.2.key) | _ => none)
    (s.countVia via).sendAll p (mkFrames s.logAddr f.src f.flow f.keyway via key l.length 0 l)

/-! ### Members of the group (R472, R475) -/

/-- The device has adopted no address and is a spare of the map. -/
def State.idleSpare (s : State) : Bool := s.fabricOn && s.isSpare s.physAddr && s.fab.logical.isNone && s.fab.adopting.isNone

/-- Another member of the group is live and an idle spare. -/
def State.spareMember (s : State) (m : Nat) : Bool :=
  let a := 16 * groupOf s.physAddr + m
  s.isSpare a && (match s.portToMember false m with
    | some p => (s.port p).logical == a
    | none => false)

/-- Live idle spares of the own group, this device apart. -/
def State.idleSpares (s : State) : List Nat := (List.range 16).filter (fun m => m != memberOf s.physAddr && s.spareMember m)

/-- The device serves as a member: it holds an address of the map and is no idle spare (FAB_ROLE_STATE 1). -/
def State.roleState (s : State) : Nat :=
  if !s.fabricOn || !((s.present (groupOf s.physAddr)).testBit (memberOf s.physAddr)) then 0
  else if s.fab.adopting.isSome || s.fab.replaying then 3
  else if s.idleSpare then 2 else 1

/-- Records of a keyway may go to a spare: REPLAY_KEYWAYS names it, and a confidential one goes under an ACTIVE link key only (spec/12
R516). -/
def State.mayMirror (s : State) (kw : Nat) : Bool :=
  (s.set0 .REPLAY_KEYWAYS).testBit kw && (!(mapGet s.ward.kws kw {}).conf || (match s.linkKey kw with
    | some (some _) => true
    | _ => false))

/-- The records of one keyway go to every idle spare (R475). -/
def State.sendRecords (s : State) (kw : Nat) (recs : List StandbyRec) : List Nat → State
  | [] => s
  | m :: r =>
    let (s, n) := s.startFlow .standby (16 * groupOf s.physAddr + m) kw [⟨0x50, 0, [], .standby recs⟩]
    let s := (match n with | some k => s.dropFlow k | none => s)
    s.sendRecords kw recs r

/-- The standby records that wait are sent, one frame a keyway and spare (R475); those of a device that is adopting, once it serves (Table 11.11
step 5). -/
def State.flush (s : State) : State :=
  if s.fab.outbox.isEmpty || s.roleState == 3 then s else
  let box := s.fab.outbox
  let s := { s with fab := { s.fab with outbox := [] } }
  if s.roleState != 1 then s else
  (((box.map Prod.fst).eraseDups).filter s.mayMirror).foldl (fun (x : State) kw =>
    x.sendRecords kw ((box.filter (fun b => b.1 == kw)).map Prod.snd) x.idleSpares) s

/-- A reply of one frame. -/
def State.replyTo (s : State) (f : HFrame) (type status : Nat) (pay : Bytes) : State := s.answer f [⟨type, status, pay, .none⟩]

end Sys2Proof.Machine
end

