-- ==== Sys2Proof/Machine/Engine.lean ====
section
/-! DEFINITION. Machine/Engine.lean: the analogue engine: passes, count words, saturation and range checks, diagnosis, spares and
retirement (spec/05), and isolating a unit for a fault (spec/02 R65). -/
namespace Sys2Proof.Machine
open Sys2Proof

/-! ### Health, flags and retirement -/

/-- The health a tier takes when nothing is wrong with it: WORN from 10,000 programs on, else GOOD (R205, R209; log 13). -/
def TierS.soundHealth (t : TierS) : Health := if t.programs ≥ 10000 then .worn else .good

/-- Write a tier back and note the time if its health has changed (Table 5.19). -/
def State.changeTier (s : State) (eng tier : Nat) (x : TierS) : State :=
  let e := s.engine eng
  let at' := if (e.tier tier).health = x.health then e.healthAt else s.notchTime
  s.putEngine eng { e.putTier tier x with healthAt := at' }

/-- A unit holds a core: the core itself, its cluster, quadrant, die, or the whole device (R78). -/
def State.unitHoldsCore (s : State) (u : UnitId) (core : Nat) : Bool :=
  let cl := s.clusterOfCore core
  [0, s.uidCore core, uidCluster cl, uidQuad (quadOfCluster cl), uidDie (cl / 16)].contains u

/-- A unit holds an engine. -/
def State.unitHolds (s : State) (u : UnitId) (eng : Nat) : Bool := u == s.uidEngine eng || s.unitHoldsCore u (eng / 16)

/-- A unit holds an engine tier. -/
def State.unitHoldsTier (s : State) (u : UnitId) (eng tier : Nat) : Bool := u == s.uidTier eng tier || s.unitHolds u eng

/-- A unit holds a cluster's attention engine. -/
def unitHoldsAttn (u : UnitId) (cl : Nat) : Bool :=
  [0, uidAttn cl, uidCluster cl, uidQuad (quadOfCluster cl), uidDie (cl / 16)].contains u

/-- Place of a term in the order of R238: core, tier, lowest engine of the chunk, kind (0 chunk sum, 1 repair or split term, 2 outlier term), and the
place within the kind. -/
def termPlace (core tier low kind sub : Nat) : Nat := (((core * 4 + tier) * 32768 + low) * 4 + kind) * 2 ^ 24 + sub

/-- The core that formed a term, from its place. -/
def placeCore (place : Nat) : Nat := place / (2 ^ 24 * 4 * 32768 * 4)

/-- Requests whose step used a unit: passes, counts or orders on its engine tiers, terms or blocks of its cores, lane tasks on its attention
engines. -/
def State.usersOf (s : State) (u : UnitId) : List Nat :=
  let on (p : Pass) : Bool := s.unitHoldsTier u p.eng p.tier
  ((s.kpr.passes.filter on).map Pass.req ++ (s.kpr.open_.filter (fun x => on x.2)).map (fun x => x.2.req) ++
   (s.kpr.done.filter (fun d => on d.pass)).map (fun d => d.pass.req) ++
   (s.kpr.queue.filter (fun o => s.unitHoldsTier u o.eng o.tier)).map PassOrder.req ++
   (s.kpr.totals.filter (fun z => z.terms.any (fun x => s.unitHoldsCore u (placeCore x.1)))).map (fun z => z.key.req) ++
   (s.kpr.blocks.filter (fun b => s.unitHoldsCore u b.core)).map NarrowBlk.req ++
   (s.kv.laneUse.filter (fun x => unitHoldsAttn u x.1)).map Prod.snd).eraseDups

/-- What an isolation ends on the engines of a unit (Table 7.7): the run in progress, and a READY shadow. -/
def State.abandonRuns (s : State) (p : Nat → Bool) : State :=
  { s with eng := s.eng.map (fun x => if p x.1 then (x.1, { x.2 with run := none, shadow := x.2.active }) else x) }

/-- The results of a unit in flight are discarded and the steps that used it are faulted (R60, R65; log 57): a pass still ends on its engine, but
its counts go nowhere. Runs on its engines are abandoned (Table 7.7). -/
def State.discardUnit (s : State) (u : UnitId) : State :=
  let users := s.usersOf u
  let s := s.abandonRuns (s.unitHolds u)
  let on (p : Pass) : Bool := s.unitHoldsTier u p.eng p.tier
  let s := { s with kpr := { s.kpr with
      queue := s.kpr.queue.filter (fun o => !s.unitHoldsTier u o.eng o.tier)
      open_ := s.kpr.open_.filter (fun x => !on x.2)
      passes := s.kpr.passes.map (fun p => if on p then { p with dropped := true } else p)
      done := s.kpr.done.filter (fun d => !on d.pass)
      blocks := s.kpr.blocks.filter (fun b => !s.unitHoldsCore u b.core)
      captures := s.kpr.captures.filter (fun c => !on c.pass) } }
  s.faultAll .unitIsolated users

/-- Isolate a unit for a fault, at once (R65); a more severe state of its own stays (R78). -/
def State.isolateFault (s : State) (u : UnitId) : State :=
  (s.setOwn u ((s.ownState u).worse .isolated)).discardUnit u

/-- Flag a column for diagnosis; its tier becomes SUSPECT (R192, R255, R280, R342), and an engine with ESCALATE_COLS columns
flagged within 1,024 beats is isolated for a fault (Table 14.3). -/
def State.flagColumn (s : State) (eng tier col : Nat) : State :=
  let e := s.engine eng
  let t := e.tier tier
  if t.health = .retired then s else
  let t' := { t with flagged := if t.flagged.contains col then t.flagged else t.flagged ++ [col]
                     flagBeats := (s.beat.count :: t.flagBeats).filter (fun b => s.beat.count < b + 1024)
                     health := .suspect, fails := mapDel t.fails col }
  let s := s.changeTier eng tier t'
  let s := s.putEngine eng { s.engine eng with lastCol := tier * 16384 + col % 512 }
  let e := s.engine eng
  let n := (e.tiers.map (fun t => (t.flagBeats.filter (fun b => s.beat.count < b + 1024)).length)).foldl (· + ·) 0
  if n ≥ s.set0 .ESCALATE_COLS ∧ ¬ e.escalated then
    ((s.putEngine eng { e with escalated := true }).isolateFault (s.uidEngine eng)).raise 0x8E04 0xFF (s.uidEngine eng)
  else s

/-- Flag columns of a tier one after another. -/
def State.flagColumns (s : State) (eng tier : Nat) : List Nat → State
  | [] => s
  | c :: r => (s.flagColumn eng tier c).flagColumns eng tier r

/-- Clear a column's flag; the tier is sound again unless another column is flagged (R202, R205). -/
def State.unflagColumn (s : State) (eng tier col : Nat) : State :=
  let t := (s.engine eng).tier tier
  let f := t.flagged.filter (· != col)
  s.changeTier eng tier { t with flagged := f
                                 health := if t.health = .suspect ∧ f = [] then t.soundHealth else t.health }

/-- Retire an engine: it takes effect at the next boundary (R211, R212). -/
def State.retireEngine (s : State) (eng : Nat) (c : RetireCause) : State :=
  let e := s.engine eng
  if e.retiring.isSome || e.retired then s else
  (s.putEngine eng { e with retiring := some c, run := none }).raise 0x8502 0xFF (s.uidEngine eng)

/-- Retire a tier: it takes effect at the next boundary (R210, R212). -/
def State.retireTier (s : State) (eng tier : Nat) : State :=
  let t := (s.engine eng).tier tier
  if t.retiring ∨ t.health = .retired then s else
  (s.putTier eng tier { t with retiring := true }).raise 0x8501 0xFF (s.uidTier eng tier)

/-- A tier's remap entry as its banks hold it: the shadow's where it has one. -/
def TierS.entry (t : TierS) (sp : Nat) : Remap := mapGet t.shadowMap sp (mapGet t.remap sp {})

/-- A spare that may take a column (R203). -/
def TierS.eligible (t : TierS) (sp : Nat) : Bool := !(t.entry sp).v && !(t.entry sp).bad

/-- Spares of a tier that may still take a column. -/
def TierS.sparesFree (t : TierS) : Nat := ((List.range 32).filter t.eligible).length

/-- A tier's eligible spares have fallen to SPARES_LOW_MARK (R207). -/
def State.sparesLow (s : State) (eng tier before : Nat) : State :=
  let n := ((s.engine eng).tier tier).sparesFree
  let mark := s.set0 .SPARES_LOW_MARK
  if n ≤ mark ∧ mark < before then s.raise 0x4503 0xFF (s.uidTier eng tier) else s

/-- The eligible spares of an engine's tiers. -/
def EngS.sparesFree (e : EngS) : List Nat := e.tiers.map TierS.sparesFree

/-- Every tier of an engine whose eligible spares have fallen to SPARES_LOW_MARK (R207). -/
def State.sparesLowAll (s : State) (eng : Nat) (before : List Nat) : State :=
  [0, 1, 2, 3].foldl (fun (x : State) t => x.sparesLow eng t (before.getD t 0)) s

/-- A raised SPARES_LOW_MARK is met by the tiers that it leaves with no more eligible spares than it (R207). -/
def State.markRaised (s : State) (old : Nat) : State :=
  let mark := s.set0 .SPARES_LOW_MARK
  if mark ≤ old then s else
  s.eng.foldl (fun (x : State) e => [0, 1, 2, 3].foldl (fun (x : State) t =>
    let n := (e.2.tier t).sparesFree
    if old < n ∧ n ≤ mark then x.raise 0x4503 0xFF (x.uidTier e.1 t) else x) x) s

/-- A spare is eligible in a tier and is not being programmed for another column. -/
def EngS.spareOpen (e : EngS) (tier sp : Nat) : Bool :=
  (e.tier tier).eligible sp && !(e.spares.any (fun j => j.spare == sp && (j.all || j.tier == tier)))

/-- Choose a spare for a cell fault (R203): the lowest eligible index, or the tier is retired (R210). -/
def State.cellRemap (s : State) (eng tier col : Nat) : State :=
  let e := s.engine eng
  match (List.range 32).find? (e.spareOpen tier) with
  | none => s.retireTier eng tier
  | some sp => s.putEngine eng { e with spares := e.spares ++ [⟨tier, col, sp, false, [tier]⟩] }

/-- Choose a spare for a column-path fault (R203): eligible in all four tiers, or the engine is retired (R211). -/
def State.pathRemap (s : State) (eng tier col : Nat) : State :=
  let e := s.engine eng
  match (List.range 32).find? (fun sp => [0, 1, 2, 3].all (fun t => e.spareOpen t sp)) with
  | none => s.retireEngine eng .noSpare
  | some sp => s.putEngine eng { e with spares := e.spares ++ [⟨tier, col, sp, true, [0, 1, 2, 3]⟩] }

/-! ### Passes -/

/-- The analogue energy of a pass in 2⁻³² pJ: PASS_E_FIXED + PASS_E_ROW × S_A, and PASS_E_TIER with a tier select (R193). -/
def State.passEnergy (s : State) (sA : Nat) (selected : Bool) : Nat :=
  let q (o : Obj) : Nat :=
    let r := F32.toRatio (BitVec.ofNat 32 (s.count ⟨o, 0, 0⟩))
    (r.1 * 2 ^ 32).toNat / 2 ^ r.2
  q .PASS_E_FIXED + q .PASS_E_ROW * sA + (if selected then q .PASS_E_TIER else 0)

/-- Account passes of an engine: their energy and their number (R193). -/
def State.chargePasses (s : State) (eng n sA : Nat) (selected : Bool) : State :=
  let e := s.engine eng
  let s := s.putEngine eng { e with passes := e.passes + n }
  let s := s.inc .PASS_COUNT n
  { s with kpr := { s.kpr with
      energy := s.kpr.energy + n * s.passEnergy sA false + (if selected then s.passEnergy sA true - s.passEnergy sA false else 0) } }

/-- The energy of a tier select alone (R193). -/
def State.chargeSelect (s : State) : State :=
  { s with kpr := { s.kpr with energy := s.kpr.energy + (s.passEnergy 0 true - s.passEnergy 0 false) } }

/-- A read-back of a tier in the form of R200: 520 single-row passes at a = +7, with a tier select where the tier differs (R183, R193). -/
def State.readBack (s : State) (eng tier : Nat) : State :=
  let s := s.chargePasses eng 520 7 ((s.engine eng).lastTier != some tier)
  s.putEngine eng { s.engine eng with lastTier := some tier }

/-- S_A: the sum of |a| over the driven rows (R190). -/
def driveSum (d : List Int) : Nat := (d.map Int.natAbs).foldl (· + ·) 0

/-- The drive format of a layer: its shard's, else ACT_FORMAT of the keyway served (R164). -/
def State.driveFormat (s : State) (h : Option ShardHdr) (kw : Nat) : Nat :=
  match h with
  | some h => if h.act == 0 then s.setK .ACT_FORMAT kw else h.act
  | none => s.setK .ACT_FORMAT kw

/-- The gain code of a layer's passes: its shard's, else COUNT_GAIN_DEFAULT (R181). -/
def State.gainOf (s : State) (h : Option ShardHdr) : Nat :=
  match h with
  | some h => if h.gain == 255 then s.set0 .COUNT_GAIN_DEFAULT else h.gain % 4
  | none => s.set0 .COUNT_GAIN_DEFAULT

/-- A tier may take a run-phase pass: every unit above it ONLINE, GOOD or WORN and trimmed, with a tile that is ready, in service and not under
R333 (R66, R209, R271, R333). -/
def State.mayPass (s : State) (eng tier : Nat) : Bool :=
  let t := (s.engine eng).tier tier
  s.tierState eng tier == .online && (t.health == .good || t.health == .worn) && t.trimmed &&
  (match s.tileAt eng tier with
   | some (_, _, _, x) => x.state == .ready && !x.imageBad && !x.replacing
   | none => false)

/-- An H pass of the same pair is queued, in flight or has run (R176). -/
def State.hasPair (s : State) (o : PassOrder) : Bool :=
  let same (eng tier req vec : Nat) : Bool := eng == o.eng && tier == o.tier && req == o.req && vec == o.vec
  s.kpr.queue.any (fun q => q.half == .h && same q.eng q.tier q.req q.vec) ||
  s.kpr.passes.any (fun p => p.half == .h && !p.dropped && same p.eng p.tier p.req p.vec) ||
  (match mapFind s.kpr.open_ o.eng with
   | some p => same p.eng p.tier p.req p.vec
   | none => false)

/-- An order's halves fit the drive format: H and L for N8c, an L only after its H, a single pass otherwise (R164, R176). -/
def State.halfFits (s : State) (o : PassOrder) : Bool :=
  match s.tileAt o.eng o.tier with
  | none => false
  | some (_, _, v, t) =>
    let pair := isComposite (s.driveFormat (v.shardOf t) (s.req o.req).kw)
    match o.half with
    | .single => !pair
    | .h => pair
    | .l => pair && s.hasPair o

/-- Refuse an order back to its owner, who faults the step when an isolated unit leaves no other place for the work (R66; log 57). -/
def State.refuseOrder (s : State) (o : PassOrder) : State :=
  let iso := s.tierState o.eng o.tier == .isolated
  let s := s.emit (.orderRefused (s.uidTier o.eng o.tier))
  if iso then s.faultStep o.req .unitIsolated else s

/-- An order joins the queue of its engine, or is refused. -/
def State.takeOrder (s : State) (o : PassOrder) : State :=
  if s.mayPass o.eng o.tier && s.halfFits o then { s with kpr := { s.kpr with queue := s.kpr.queue ++ [o] } }
  else s.refuseOrder o

/-- Orders join the queue one after another. -/
def State.takeOrders (s : State) : List PassOrder → State
  | [] => s
  | o :: r => (s.takeOrder o).takeOrders r

/-- Queued orders of a core whose tier takes no pass any longer, or whose H pass is gone, are refused. -/
def State.sweepQueue (s : State) (core : Nat) : State :=
  let bad := s.kpr.queue.filter (fun o => o.eng / 16 == core && (!s.mayPass o.eng o.tier || (o.half == .l && !s.hasPair o)))
  bad.foldl State.refuseOrder { s with kpr := { s.kpr with queue := s.kpr.queue.filter (fun o => !bad.contains o) } }

/-- An engine is free to start a pass: nothing runs on it, and its quadrant did not open in this beat (R69, R184, R327). -/
def State.engineFree (s : State) (eng : Nat) : Bool :=
  !(s.kpr.passes.any (fun p => p.eng == eng)) && !(s.slots.programs.any (fun p => p.eng == eng)) &&
  !s.hier.opened.contains (quadOfCluster (s.clusterOfCore (eng / 16))) &&
  (match (s.engine eng).run with
   | some r => r.running.isNone
   | none => true)

/-- The order an engine starts next: the L pass of its open pair, else one on the tier of its last pass where there is one, else the oldest (R176,
R184). -/
def State.nextOrder (s : State) (eng : Nat) : Option PassOrder :=
  let l := s.kpr.queue.filter (fun o => o.eng == eng)
  if !s.engineFree eng then none else
  match mapFind s.kpr.open_ eng with
  | some h => l.find? (fun o => o.half == .l && o.tier == h.tier && o.req == h.req && o.vec == h.vec)
  | none =>
    let c := l.filter (fun o => o.half != .l)
    match c.find? (fun o => (s.engine eng).lastTier == some o.tier) with
    | some o => some o
    | none => c.head?

/-- Drive digits of a half of a pass from aligned integers (R174, R176). -/
def driveDigits (half : PassHalf) (d : List Int) : List Int :=
  match half with
  | .single => d
  | .h => d.map hiDigit
  | .l => d.map loDigit

/-- Activation digits of the 512 weight rows, aligned to a group code; a row beyond the tile's span is not driven (R154, R155, R177). -/
def rowDigits (cg : Option Int) (blocks : List DBlock) (rows : Nat) : List Int :=
  let d := match cg with
    | none => []
    | some c => blocks.flatMap (alignBlock c)
  (List.range 512).map (fun i => if i < rows then d.getD i 0 else 0)

/-- The group code of an order's alignment group (R154). -/
def orderGroup (o : PassOrder) : Option Int := groupCode (o.blocks ++ o.others.map (fun c => ⟨c, []⟩))

/-- The pass an order starts. An L pass is of one pair with its H pass: the same activation, gain and banks (R176, R185). -/
def State.passOf (s : State) (o : PassOrder) : Pass :=
  let e := s.engine o.eng
  let t := e.tier o.tier
  let r := s.req o.req
  let sel := e.lastTier != some o.tier
  match s.tileAt o.eng o.tier with
  | none => { eng := o.eng, tier := o.tier, plan := 1, half := o.half, gain := s.gainOf none, ca := -128, drive := [], blocks := [], remap := [],
              resid := [], kw := r.kw, req := o.req, layer := 0, vec := o.vec, selected := sel }
  | some (n, _, v, x) =>
    let p : Pass :=
      { eng := o.eng, tier := o.tier, plan := x.plan, half := o.half, gain := s.gainOf (v.shardOf x), ca := (orderGroup o).getD (-128), cols := x.cols,
        drive := driveDigits o.half (rowDigits (orderGroup o) o.blocks x.rows), blocks := o.blocks, remap := t.remap,
        resid := e.active.resid.getD o.tier [], colmax := t.colmax, kw := r.kw, req := o.req, layer := x.layer, vec := o.vec,
        draft := !(r.slot == n && r.version == v.number), selected := sel }
    match o.half, mapFind s.kpr.open_ o.eng with
    | .l, some h => { p with gain := h.gain, ca := h.ca, blocks := h.blocks, remap := h.remap, resid := h.resid, colmax := h.colmax
                             drive := driveDigits .l (rowDigits (if h.ca == -128 then none else some h.ca) h.blocks x.rows) }
    | _, _ => p

/-- Digits that alignment turned into 0 as a pass was driven, counted once per pair (R156). -/
def zeroedBy (o : PassOrder) : Nat :=
  match o.half, orderGroup o with
  | .l, _ => 0
  | _, none => 0
  | _, some c =>
    ((o.blocks.map (fun b => if b.code == -128 then 0
      else ((b.d.zip (alignBlock c b)).filter (fun q => q.1 != 0 && q.2 == 0)).length)).foldl (· + ·) 0)

/-- Outlier products that a pass leaves to the Keeper (R230): its outlier rows times the tile's outputs, once per pair. -/
def State.outlierWork (s : State) (o : PassOrder) : Nat :=
  match o.half, s.tileAt o.eng o.tier with
  | .l, _ => 0
  | _, none => 0
  | _, some (_, _, _, t) => o.outRows * t.cols

/-- Start one pass. -/
def State.startPass (s : State) (o : PassOrder) : State :=
  let p := s.passOf o
  let n := s.outlierWork o
  let s := s.incK .ALIGN_DIGITS_ZEROED p.kw (zeroedBy o)
  let s := s.putEngine o.eng { s.engine o.eng with lastTier := some o.tier }
  { s with kpr := { s.kpr with
      queue := s.kpr.queue.erase o
      passes := s.kpr.passes ++ [p]
      open_ := if o.half == .l then mapDel s.kpr.open_ o.eng else s.kpr.open_
      outWork := if n == 0 then s.kpr.outWork else s.kpr.outWork ++ [(o.eng / 16, o.req, n)] } }

/-- Start passes in order. -/
def State.startPasses (s : State) : List PassOrder → State
  | [] => s
  | o :: r => (s.startPass o).startPasses r

/-- The slice plan of the tile in a tier. -/
def State.planOf (s : State) (eng tier : Nat) : Nat :=
  match s.tileAt eng tier with
  | some (_, _, _, t) => t.plan
  | none => 1

/-- Outlier load of the passes of a core slot (R232). -/
def State.outlierLoad (s : State) (l : List PassOrder) : Nat :=
  (l.map (fun o => match o.half with | .l => 0 | _ => o.outRows * outsOf (s.planOf o.eng o.tier))).foldl (· + ·) 0

/-- Length of a core slot in ns, before derating (R233). -/
def State.slotLength (s : State) (l : List PassOrder) : Nat :=
  if l.any (fun o => (s.engine o.eng).lastTier != some o.tier) then 72 else 64

/-- The beat of the step that a core works on. -/
def State.coreBeat (s : State) (core : Nat) : Nat :=
  match s.beat.busy.find? (fun x => x.1 == core) with
  | some x => x.2
  | none => s.beat.number

/-- A setting of the number formats or of the Keepers, which step work reads (spec/04 R148, spec/06 R258). -/
def isStepSetting (k : OKey) : Bool := k.obj.spec.index == 0x2000 || k.obj.spec.index == 0x2200

/-- Do step work under the settings of its step, named by its beat: a step that runs on past its beat keeps those of its notch 0 (R148, R258). -/
def State.inStepCfg (s : State) (beat : Nat) (f : State → State) : State :=
  match mapFind s.kpr.stepCfg beat with
  | none => f s
  | some l => { f { s with cfg := l ++ s.cfg.filter (fun x => !isStepSetting x.1) } with cfg := s.cfg }

/-- At the end of a beat: the settings of a step that cores still work on are kept for it, and those of a step that none works on any more go
(R148, R258). -/
def State.keepStepCfg (s : State) : State :=
  let running (b : Nat) : Bool := s.beat.busy.any (fun x => x.2 == b)
  let old := s.kpr.stepCfg.filter (fun x => running x.1)
  let b := s.beat.number
  let l := if running b && (mapFind old b).isNone then mapSet old b (s.cfg.filter (fun x => isStepSetting x.1)) else old
  { s with kpr := { s.kpr with stepCfg := l } }

/-- A core slot of a core at step work (R37, R38): orders join the queue, each free engine starts one pass, and a load above the budget stretches
the slot (R233). -/
def coreSlot (core : Nat) (l : List PassOrder) (s : State) : State :=
  if s.pwr.stalled || !s.beat.busyCores.contains core then s else
  let s := (s.sweepQueue core).takeOrders l
  let picks := (List.range 16).filterMap (fun e => s.nextOrder (16 * core + e))
  let base := s.slotLength picks
  let load := s.outlierLoad picks
  let budget := s.set0 .OUTLIER_LOAD_BUDGET
  let len := max base (4 * ((load + 6143) / 6144))
  let kw := match picks with | o :: _ => (s.req o.req).kw | [] => 0xFF
  let s := s.startPasses picks
  if load > budget then
    let s := s.incK .OUTLIER_DERATE_COUNT kw
    let s := s.incK .OUTLIER_DERATE_NS kw (len - base)
    s.raise 0x4601 kw (s.uidCore core)
  else s

/-- CORE_SLOT. -/
def execCoreSlot (t core : Nat) (passes : List PassOrder) (s : State) : Host.Outcome State Fault Refusal :=
  if core < s.numCores ∧ passes.all (fun o => o.eng / 16 == core && o.tier < 4) then
    .next ((s.at t).inStepCfg (s.coreBeat core) (coreSlot core passes))
  else .fault .noSuchUnit

/-! ### Counts -/

/-- A tick as the converter counts it: no crossing by the end of tick 510 gives 511 by the sign (R179). -/
def tickOf (c : Int) : Int := clampInt (-511) 511 c

/-- A count word (Table 5.5). -/
def countWord (sat fail retry : Bool) (gain : Nat) (count : Int) : Nat :=
  (if sat then 32768 else 0) + (if fail then 16384 else 0) + (if retry then 4096 else 0) + 1024 * gain + unsigned 10 count

/-- SAT of a count word. -/
def wordSat (w : Nat) : Bool := w.testBit 15
/-- RANGE_FAIL of a count word. -/
def wordFail (w : Nat) : Bool := w.testBit 14
/-- RETRY of a count word. -/
def wordRetry (w : Nat) : Bool := w.testBit 12
/-- GAIN of a count word. -/
def wordGain (w : Nat) : Nat := w / 1024 % 4
/-- COUNT of a count word. -/
def wordCount (w : Nat) : Int := signed 10 (w % 1024)

/-- The gain code a pass runs at: 3 in a retry and in sub-passes (R188, R228). -/
def Pass.g (p : Pass) : Nat := if p.retry || p.split then 3 else p.gain

/-- The bound B_j of a place (R190), by the COLMAX of the banks that the pass uses. -/
def State.rangeBound (s : State) (p : Pass) (place sA : Nat) : Nat :=
  let k := 2 ^ p.g
  (sA * mapGet p.colmax place 0 + k - 1) / k + s.set0 .RANGE_MARGIN

/-- The count word of a column pair (R182, R190): a failed check leaves COUNT 0 and no SAT. -/
def State.wordOf (s : State) (p : Pass) (sA : Nat) (ticks : List Int) (c : Nat) : Nat :=
  let pl := placeOf p.remap c
  let n := tickOf (ticks.getD pl 0)
  if n.natAbs > s.rangeBound p pl sA then countWord false true p.retry p.g 0
  else countWord (n.natAbs == 511) false p.retry p.g n

/-- The 512 count words of a pass. -/
def State.wordsOf (s : State) (p : Pass) (sA : Nat) (ticks : List Int) : List Nat := (List.range 512).map (s.wordOf p sA ticks)

/-- Columns whose count failed its range check. -/
def failedCols (ws : List Nat) : List Nat := (List.range 512).filter (fun c => wordFail (ws.getD c 0))

/-- Residual correction of a count (R223). -/
def correct (m : Map Nat) (place : Nat) (c : Int) : Int :=
  let w := mapGet m place 0
  c - divRne (signed 8 w * 1024 + signed 8 (w / 256) * c) 16384

/-- The corrected count of a column pair, by the entry of its spare where it is remapped (R223). -/
def colCount (p : Pass) (ws : List Nat) (c : Nat) : Int := correct p.resid (placeOf p.remap c) (wordCount (ws.getD c 0))

/-- Numerator P of an output from its columns' counts (Table 5.3, R235). -/
def numerator (plan : Nat) (cs : List Int) : Int :=
  match plan, cs with
  | 4, [a, b, c, l] => 5 * (a + b + c) + l
  | _, l => l.foldl (· + ·) 0

/-- An output of a pass from its count words (R187, R190, R235). -/
def outOf (p : Pass) (ws : List Nat) (j : Nat) : OutNum :=
  let cols := columnsOf p.plan j
  let g := wordGain (ws.getD (cols.headD 0) 0)
  if cols.any (fun c => wordFail (ws.getD c 0)) then ⟨.failed, 0, g, 0⟩
  else if cols.any (fun c => wordSat (ws.getD c 0)) then ⟨.saturated, 0, g, 0⟩
  else ⟨.ok, numerator p.plan (cols.map (colCount p ws)), g, 0⟩

/-- Every output that the tile of a pass places. -/
def outputs (p : Pass) (ws : List Nat) : List OutNum := (List.range (min (outsOf p.plan) p.cols)).map (outOf p ws)

/-- Outputs in a state. -/
def outsIn (outs : List OutNum) (f : OutState → Bool) : List Nat := (outs.zipIdx.filter (fun x => f x.1.state)).map Prod.snd

/-- An output that needs repair (R226). -/
def OutState.bad : OutState → Bool
  | .saturated => true | .failed => true | _ => false

/-- Count words after a retry: a saturated output takes every word of its own from the repeat (R188). -/
def mergeWords (plan : Nat) (first again : List Nat) (sat : List Nat) : List Nat :=
  (List.range 512).map (fun c => if sat.contains (outOfColumn plan c) then again.getD c 0 else first.getD c 0)

/-- One range failure of a column: counts, event, and the flag at RANGE_FAIL_LIMIT within 1,024 beats (R191, R192). -/
def State.rangeFail (s : State) (p : Pass) (col : Nat) : State :=
  let s := s.inc .RANGE_FAIL_COUNT
  let e := s.engine p.eng
  let t := e.tier p.tier
  let bs := (s.beat.count :: mapGet t.fails col []).filter (fun b => s.beat.count < b + 1024)
  let s := s.putEngine p.eng { (e.putTier p.tier { t with fails := mapSet t.fails col bs, rangeFails := t.rangeFails + 1 }) with
      rangeFail := e.rangeFail + 1, lastCol := p.tier * 16384 + col }
  let s := s.raise 0x4501 0xFF (s.uidTier p.eng p.tier)
  if bs.length ≥ s.set0 .RANGE_FAIL_LIMIT then
    (s.raise 0x4502 0xFF (s.uidTier p.eng p.tier)).flagColumn p.eng p.tier col
  else s

/-- Range failures of a pass, one after another. -/
def State.rangeFailAll (s : State) (p : Pass) : List Nat → State
  | [] => s
  | c :: r => (s.rangeFail p c).rangeFailAll p r

/-- A pass leaves its engine with nothing for the Keeper. -/
def State.leavePass (s : State) (p : Pass) : State :=
  { s with kpr := { s.kpr with passes := s.kpr.passes.filter (fun q => q.eng != p.eng) } }

/-- The pass leaves its engine; its counts go to the Keeper, and an H pass waits for its L pass (R176). -/
def State.endPass (s : State) (d : PassDone) : State :=
  let s := s.leavePass d.pass
  { s with kpr := { s.kpr with done := s.kpr.done ++ [d]
                               open_ := if d.pass.half == .h then mapSet s.kpr.open_ d.pass.eng d.pass else s.kpr.open_ } }

/-- The pass stays on its engine as another: a retry at g = 3 (R188) or the sub-passes of a split (R228). -/
def State.rePass (s : State) (p : Pass) : State :=
  { s with kpr := { s.kpr with passes := s.kpr.passes.filter (fun q => q.eng != p.eng) ++ [p] } }

/-- Whether a digital copy serves the span of a pass (R226). -/
def State.hasCopy (s : State) (eng tier : Nat) : Bool :=
  match s.tileAt eng tier with
  | some (_, _, v, t) => (v.copyOf t).isSome
  | none => false

/-- The capture of a tile of a pass (R253). -/
def State.captureOf (s : State) (p : Pass) (ws : List Nat) (outs : List OutNum) (pos : Nat) : Capture :=
  let js := (List.range 32).map (fun i => 32 * pos + i)
  { core := p.eng / 16, pass := p, first := 32 * pos, counts := js.map (fun j => (columnsOf p.plan j).map (colCount p ws)),
    codes := js.map (imageCode (s.imageAt p.eng p.tier)), outs := (outs.drop (32 * pos)).take 32, beat := s.beat.number }

/-- A run-phase pass is seen for the audit: each pass of the beat is held with the same chance, in a reservoir of AUDIT_TILES tiles whose draws are
free values (R253; log 4). -/
def State.capture (s : State) (p : Pass) (ws : List Nat) (outs : List OutNum) : State :=
  let core := p.eng / 16
  let k := s.set0 .AUDIT_TILES
  if s.set0 .AUDIT_ENABLE ≠ 1 ∨ k = 0 then s else
  let n := mapGet s.kpr.seen core 0
  let held := s.kpr.captures.filter (fun c => c.core == core)
  let rest := s.kpr.captures.filter (fun c => c.core != core)
  let s := { s with kpr := { s.kpr with seen := mapSet s.kpr.seen core (n + 1) } }
  let pos := s.freeBelow ((outs.length + 31) / 32)
  let s := s.drawn
  let r := s.freeBelow (n + 1)
  let s := s.drawn
  let c := s.captureOf p ws outs pos
  if n < k then { s with kpr := { s.kpr with captures := rest ++ held ++ [c] } }
  else if r < k then { s with kpr := { s.kpr with captures := rest ++ held.set r c } } else s

/-- The counts held of the H pass of an L pass's pair. -/
def State.pairOf (s : State) (p : Pass) : Option PassDone :=
  if p.half != .l then none else
  s.kpr.done.reverse.find? (fun d => d.pass.half == .h && d.pass.eng == p.eng && d.pass.tier == p.tier && d.pass.req == p.req &&
    d.pass.layer == p.layer && d.pass.vec == p.vec && d.pass.draft == p.draft)

/-- The counts of a pass are final (R188–R190, R226): an output saturated in either pass of a pair is counted once, and what must be repaired without
a digital copy is split, unless its tile is under R333. -/
def State.settle (s : State) (p : Pass) (ws : List Nat) : State :=
  let outs := outputs p ws
  let sat := outsIn outs (· == .saturated)
  let mate := s.pairOf p
  let was (f : PassDone → List Nat) (j : Nat) : Bool := match mate with | some d => (f d).contains j | none => false
  let n := (sat.filter (fun j => !was PassDone.sat j)).length
  let e := s.engine p.eng
  let s := (s.putEngine p.eng { e with sat := e.sat + n }).inc .SAT_COUNT n
  let s := s.capture p ws outs
  let bad := outsIn outs OutState.bad
  if !bad.isEmpty && !s.hasCopy p.eng p.tier && s.mayPass p.eng p.tier then
    let s := s.incK .SPLIT_RECOMPUTE_COUNT p.kw (bad.filter (fun j => !was PassDone.split j)).length
    let s := s.incK .SAT_REPAIR_COUNT p.kw (sat.filter (fun j => !(was PassDone.split j && was PassDone.sat j))).length
    s.rePass { p with split := true, words := ws }
  else s.endPass ⟨p, ws, outs, sat, []⟩

/-- Count words of a pass arrive (R182, R187–R192, R223). -/
def countWords (r : PassResult) (s : State) : State :=
  match s.kpr.passes.find? (fun p => p.eng == r.eng && !p.split) with
  | none => s
  | some p =>
    let sA := driveSum p.drive
    let s := s.chargePasses p.eng 1 sA (p.selected && !p.retry)
    if p.dropped then s.leavePass p else
    let ws := s.wordsOf p sA r.ticks
    let sat := outsIn (outputs p p.words) (· == .saturated)
    let ok := s.mayPass p.eng p.tier
    let s := s.rangeFailAll p (failedCols ws)
    if p.retry then s.settle { p with retry := false } (mergeWords p.plan p.words ws sat)
    else if (outputs p ws).any (fun o => o.state == .saturated) && s.set0 .SAT_RETRY == 1 && p.gain < 3 && ok then
      (s.inc .SAT_RETRY_COUNT).rePass { p with retry := true, words := ws }
    else s.settle p ws

/-! ### Split recompute -/

/-- The drive of sub-pass m: rows 64m to 64m + 63 only (R228). -/
def subDrive (d : List Int) (m : Nat) : List Int := (d.drop (64 * m)).take 64

/-- The count words of the sub-passes, at g = 3, each with its own S_A. -/
def State.subWords (s : State) (p : Pass) (ticks : List (List Int)) : List (List Nat) :=
  ticks.zipIdx.map (fun x => s.wordsOf p (driveSum (subDrive p.drive x.2)) x.1)

/-- An output's sub-passes failed: a count carried SAT or broke its range (R229). -/
def subBad (p : Pass) (ws : List (List Nat)) (j : Nat) : Bool :=
  ws.any (fun x => (columnsOf p.plan j).any (fun c => wordSat (x.getD c 0) || wordFail (x.getD c 0)))

/-- The split term S = 8 × P_s of an output (R228). -/
def splitTerm (p : Pass) (ws : List (List Nat)) (j : Nat) : Int :=
  8 * numerator p.plan ((columnsOf p.plan j).map (fun c => (ws.map (fun x => colCount p x c)).foldl (· + ·) 0))

/-- A repair that failed (R229). -/
def State.repairFailed (s : State) (p : Pass) (j : Nat) : State :=
  let s := s.incK .REPAIR_FAIL_COUNT p.kw
  let s := s.raise 0x8601 p.kw (s.uidTier p.eng p.tier)
  (s.flagColumns p.eng p.tier (columnsOf p.plan j)).faultStep p.req .splitFailed

/-- Failed repairs, one after another. -/
def State.repairFailedAll (s : State) (p : Pass) : List Nat → State
  | [] => s
  | j :: r => (s.repairFailed p j).repairFailedAll p r

/-- Range failures of the sub-passes, one sub-pass after another. -/
def State.subRange (s : State) (p : Pass) : List (List Nat) → State
  | [] => s
  | x :: r => (s.rangeFailAll p (failedCols x)).subRange p r

/-- The sub-passes end (R228, R229). -/
def splitDone (r : SplitResult) (s : State) : State :=
  match s.kpr.passes.find? (fun p => p.eng == r.eng && p.split) with
  | none => s
  | some p =>
    let s := (List.range 8).foldl (fun s m => s.chargePasses p.eng 1 (driveSum (subDrive p.drive m)) false) s
    if p.dropped then s.leavePass p else
    let outs := outputs p p.words
    let sat := outsIn outs (· == .saturated)
    let bad := outsIn outs OutState.bad
    let ws := s.subWords p r.ticks
    let lost := bad.filter (subBad p ws)
    let outs := outs.zipIdx.map (fun x =>
      if bad.contains x.2 && !lost.contains x.2 then ⟨.split, 0, 3, splitTerm p ws x.2⟩ else x.1)
    let p1 := { p with split := false }
    ((s.subRange p ws).endPass ⟨p1, p.words, outs, sat, bad⟩).repairFailedAll p1 lost

/-! ### Diagnosis and spares -/

/-- Columns of a list that are distinct. -/
def distinctCols (l : List (Nat × Nat × Nat)) : List Nat := (l.map (fun x => x.2.2)).eraseDups

/-- Ramp-source group of a column (R199). -/
def rampGroup (col : Nat) : Nat := col / 32

/-- Table 5.11, first rule that matches. -/
inductive DiagClass where
  | rowDriver | rampSource (tier : Nat) | path | cell (tier : Nat) | transient
  deriving DecidableEq, Repr

/-- Classify a diagnosis over the tiers read (R202). -/
def diagClass (d : Diag) (read : List Nat) : DiagClass :=
  let inTier (t : Nat) := d.bad.filter (fun x => x.1 == t)
  let rowBad (r : Nat) : Bool := read.all (fun t =>
    decide ((distinctCols ((inTier t).filter (fun x => x.2.1 == r))).length ≥ 64))
  let rampBad (t : Nat) : Bool := (List.range 17).any (fun g =>
    decide (((distinctCols (inTier t)).filter (fun c => rampGroup c == g)).length ≥ 8))
  let colTiers := read.filter (fun t => (inTier t).any (fun x => x.2.2 == d.column))
  let refAll := read.all (fun t => (inTier t).any (fun x => x.2.2 == d.column && x.2.1 ≥ 512))
  if (List.range 520).any rowBad && !read.isEmpty then .rowDriver
  else match read.find? rampBad with
  | some t => .rampSource t
  | none =>
    if colTiers.length ≥ 2 || (refAll && !read.isEmpty) then .path
    else match colTiers with
    | [t] => .cell t
    | _ => .transient

/-- End of a diagnosis: the steward takes the action of Table 5.11 (R202); a column found transient is remapped all the same
when Table 14.3 forces it. -/
def State.diagEnd (s : State) (eng : Nat) (d : Diag) (read : List Nat) : State :=
  let e := s.engine eng
  let s := s.putEngine eng { e with diag := none }
  match diagClass d read with
  | .rowDriver => s.retireEngine eng .rowDriver
  | .rampSource _ =>
    let s := s.unflagColumn eng d.tier d.column
    let e := s.engine eng
    s.putEngine eng { e with due := some (match e.due with | some 0 => 0 | _ => 1), dueSince := s.now }
  | .path => s.pathRemap eng d.tier d.column
  | .cell t => s.cellRemap eng t d.column
  | .transient =>
    if d.forced then
      let t := (s.engine eng).tier d.tier
      (s.putTier eng d.tier { t with forced := t.forced.filter (· != d.column) }).cellRemap eng d.tier d.column
    else
    let s := s.unflagColumn eng d.tier d.column
    let t := (s.engine eng).tier d.tier
    let s := s.putTier eng d.tier { t with transient := t.transient ++ [(d.column, s.beat.count)] }
    s.raise 0x4505 0xFF (s.uidTier eng d.tier)

/-- After its diagnoses, an escalated engine that is not to be retired returns to ONLINE (Table 14.3). -/
def State.deEscalate (s : State) (eng : Nat) : State :=
  let e := s.engine eng
  if e.escalated && e.diag.isNone && e.retiring.isNone && e.tiers.all (fun t => t.flagged.isEmpty || t.retiring) then
    (s.putEngine eng { e with escalated := false }).setOwn (s.uidEngine eng) .online
  else s

/-- The first flagged column of an engine with no spare chosen for it yet. -/
def EngS.nextFlag (e : EngS) : Option (Nat × Nat) :=
  (List.range 4).findSome? (fun t =>
    if (e.tier t).health == .retired then none else
    ((e.tier t).flagged.find? (fun c => !(e.spares.any (fun j => j.column == c && (j.all || j.tier == t))))).map (fun c => (t, c)))

/-- Start the diagnosis of a flagged column in the quiet window (R200). -/
def State.startDiag (s : State) (eng : Nat) : State :=
  let e := s.engine eng
  match e.diag, e.nextFlag with
  | none, some (t, c) =>
    let read := (List.range 4).filter (fun t => (e.tier t).health != .retired)
    let forced := (e.tier t).forced.contains c
    s.putEngine eng { e with diag := some { tier := t, column := c, toRead := read, forced := forced } }
  | _, _ => s

/-- A column's entries of a tier are released in the shadow bank: it has at most one valid entry (R198, R203). -/
def TierS.released (t : TierS) (col : Nat) : Map Remap :=
  ((List.range 32).filter (fun sp => (t.entry sp).v && (t.entry sp).column == col)).foldl
    (fun (m : Map Remap) sp => mapSet m sp { t.entry sp with v := false, column := 0, all := false }) t.shadowMap

/-- A verified spare goes to the shadow bank; a column-path remap takes all four tiers at once (R203, R205). -/
def State.shadowRemap (s : State) (eng : Nat) (j : SpareJob) : State :=
  let e := s.engine eng
  let put (t : TierS) : TierS := { t with shadowMap := mapSet (t.released j.column) j.spare ⟨true, j.all, false, j.column⟩ }
  let tiers := e.tiers.zipIdx.map (fun x => if j.all || x.2 == j.tier then put x.1 else x.1)
  let s := s.putEngine eng { e with tiers := tiers, spares := e.spares.filter (fun k => !(k.spare == j.spare && k.column == j.column)) }
  s.sparesLowAll eng e.sparesFree

/-- Digits of the slot's shard for a column of a tier; of a tier with no tile, what it holds (R204). -/
def State.columnOf (s : State) (eng tier col : Nat) : List Int :=
  columnDigits (match s.tileAt eng tier with
    | some (_, _, _, t) => t.image
    | none => ((s.engine eng).tier tier).readDigits) col

/-- The digits a spare has been programmed to, with their COLMAX in the shadow bank (R205). -/
def TierS.withSpare (t : TierS) (sp : Nat) (ds : List Int) : TierS :=
  { t with spareCols := mapSet t.spareCols sp ds, shadowMax := mapSet t.shadowMax (512 + sp) (largestDigit ds) }

/-- A spare that fails verify is BAD (R204). -/
def TierS.badSpare (t : TierS) (sp : Nat) : TierS := { t with remap := mapSet t.remap sp ⟨false, false, true, 0⟩ }

/-! ### At the boundary -/

/-- A pair is under way on an engine: its H pass runs or has run, and its L pass is to follow (R185). -/
def State.pairUnderWay (s : State) (eng : Nat) : Bool :=
  (mapFind s.kpr.open_ eng).isSome || s.kpr.passes.any (fun p => p.eng == eng && p.half == .h && !p.dropped)

/-- The remap bank swaps in at notch 0 (R205): the columns remapped are flagged no longer. -/
def State.swapRemap (s : State) (eng tier : Nat) : State :=
  let t := (s.engine eng).tier tier
  if t.shadowMap = [] ∧ t.shadowMax = [] then s else
  let cols := (t.shadowMap.filter (fun p => p.2.v)).map (fun p => p.2.column)
  let map := t.shadowMap.foldl (fun m p => mapSet m p.1 p.2) t.remap
  let mx := t.shadowMax.foldl (fun m p => mapSet m p.1 p.2) t.colmax
  let f := t.flagged.filter (fun c => !cols.contains c)
  let s := s.changeTier eng tier { t with remap := map, colmax := mx, shadowMap := [], shadowMax := [], flagged := f
                                          health := if t.health = .suspect ∧ f = [] then t.soundHealth else t.health }
  if cols = [] then s else s.raise 0x1501 0xFF (s.uidTier eng tier)

/-- What a diagnosis still has to read once tiers have been retired; none when its own tier has gone (R200, R212). -/
def EngS.diagLeft (e : EngS) : Option Diag :=
  match e.diag with
  | none => none
  | some d => if (e.tier d.tier).health == .retired then none
    else some { d with toRead := d.toRead.filter (fun t => (e.tier t).health != .retired) }

/-- Spare jobs once tiers have been retired: a retired tier's own job ends, and a column-path remap no longer waits for it. -/
def EngS.jobsLeft (e : EngS) : List SpareJob :=
  (e.spares.filter (fun j => j.all || (e.tier j.tier).health != .retired)).map (fun j =>
    { j with left := j.left.filter (fun t => (e.tier t).health != .retired) })

/-- Retirements take effect at the boundary (R212); an engine whose four tiers are RETIRED is retired (R211). A diagnosis and the spares under way
go on without the tiers retired. -/
def State.applyRetire (s : State) (eng : Nat) : State :=
  let e := s.engine eng
  let whole := e.retiring.isSome
  let tiers := e.tiers.map (fun t => if whole || t.retiring then { t with health := .retired, retiring := false, flagged := [] } else t)
  if tiers = e.tiers ∧ e.retiring.isNone then s else
  let all := tiers.all (fun t => t.health == .retired)
  let cause := match e.retiring with
    | some c => c
    | none => if all ∧ e.cause = .none then .allTiers else e.cause
  let e := { e with tiers := tiers, retiring := none, cause := cause, healthAt := s.notchTime }
  let jobs := e.jobsLeft
  let s := s.putEngine eng { e with diag := e.diagLeft, spares := jobs }
  let s := (jobs.filter (fun j => j.left.isEmpty)).foldl (fun (x : State) j => x.shadowRemap eng j) s
  let s := match e.diagLeft with
    | some d => if d.toRead.isEmpty then (s.diagEnd eng d ((List.range 4).filter (fun t => (e.tier t).health != .retired))).deEscalate eng else s
    | none => s
  if all ∧ ¬ whole then s.raise 0x8502 0xFF (s.uidEngine eng) else s

/-! ### Objects of the engines -/

/-- Numbers of tiers in a health among the engines that hold one other than the default. -/
def State.tiersIn (s : State) (h : Health) (p : Nat → Bool) : Nat :=
  (s.eng.map (fun x => if p x.1 then (x.2.tiers.filter (fun t => t.health == h)).length else 0)).foldl (· + ·) 0

/-- Values of health (Table 5.12). -/
def Health.code : Health → Nat
  | .good => 0 | .suspect => 1 | .worn => 2 | .retired => 3

/-- Values of retire causes (Table 5.19). -/
def RetireCause.code : RetireCause → Nat
  | .none => 0 | .noSpare => 1 | .rowDriver => 2 | .rampSources => 3 | .allTiers => 4 | .commanded => 5

/-- ENG_INFO (Table 5.19). -/
def State.engInfo (s : State) (eng : Nat) : Bytes :=
  let e := s.engine eng
  leBytes 4 (s.uidEngine eng) ++ leBytes 1 (s.engineState eng).code ++
  leBytes 1 ((e.tiers.zipIdx.map (fun x => x.1.health.code * 4 ^ x.2)).foldl (· + ·) 0) ++
  leBytes 1 e.cause.code ++ [0] ++ e.tiers.flatMap (fun t => leBytes 1 t.sparesFree) ++ zeros 4 ++
  e.tiers.flatMap (fun t => leBytes 2 t.programs) ++ leBytes 4 e.sat ++ leBytes 4 e.rangeFail ++ leBytes 8 e.passes ++
  leBytes 2 e.lastCol ++ zeros 6 ++ leBytes 8 e.healthAt ++ zeros 8

/-- A remap entry's 16 bits (Table 5.10). -/
def Remap.word (r : Remap) : Nat :=
  (if r.v then 32768 else 0) + (if r.all then 16384 else 0) + (if r.bad then 8192 else 0) + r.column

/-- REMAP_TABLE of a tier (R196). -/
def State.remapTable (s : State) (eng tier : Nat) : Bytes :=
  (List.range 32).flatMap (fun sp => leBytes 2 (mapGet ((s.engine eng).tier tier).remap sp {}).word)

/-- A table of 544 entries of 16 bits. -/
def table544 (m : Map Nat) : Bytes := (List.range 544).flatMap (fun n => leBytes 2 (mapGet m n 0))

end Sys2Proof.Machine
end

