-- ==== Sys2Proof/Machine/Keeper.lean ====
section
/-! DEFINITION. Machine/Keeper.lean: the Keeper: promotion, repair and outlier terms, exact join, adapters, the exact tier,
narrowing, SRAM errors, residue checks, tile audit and mask operations (spec/06; spec/02 R51–R53; spec/14 R568–R572). -/
namespace Sys2Proof.Machine
open Sys2Proof

/-! ### Totals (R238–R244) -/

/-- A zero term. -/
def Term.zero : Term := ⟨F32.zero, 0, 0⟩

/-- The infinity of a sign. -/
def infOf (neg : Bool) : F32 := if neg then 0xFF800000#32 else 0x7F800000#32

/-- Beyond the 64-bit range of X (R244). -/
def outside64 (x : Int) : Bool := decide (x < -(2 ^ 63 : Int)) || decide (x ≥ (2 ^ 63 : Int))

/-- A term's value in units of 2^−F, rounded half to even (R243). -/
def Term.fixed (t : Term) (f : Nat) : Int :=
  let k := t.e + f
  if k ≥ 0 then t.num * 2 ^ k.toNat else divRne t.num (2 ^ (-k).toNat)

/-- A term whose shift drops bits that are not zero (R243). -/
def Term.inexact (t : Term) (f : Nat) : Bool :=
  let k := t.e + f
  decide (k < 0) && t.num % (2 ^ (-k).toNat : Nat) != 0

/-- A sum in exact join: X, the FP32 value it has had since it left the 64-bit range, and the terms rounded into it. -/
structure ExactSum where
  x       : Int := 0
  special : Option F32 := none
  rounded : Nat := 0
  deriving DecidableEq, Repr

/-- Add a term exactly (R242–R244): a term or a sum beyond the 64-bit range becomes an infinity, and FP32 rules apply from then on. -/
def ExactSum.add (z : ExactSum) (f : Nat) (t : Term) : ExactSum :=
  let v := t.fixed f
  let asF32 := if !F32.finite t.fp && t.num == 0 then t.fp
    else if outside64 v then infOf (decide (v < 0)) else t.fp
  match z.special with
  | some s => { z with special := some (F32.add s asF32) }
  | none =>
    let z := { z with rounded := z.rounded + (if t.inexact f then 1 else 0) }
    if !F32.finite t.fp && t.num == 0 then { z with special := some t.fp }
    else if outside64 v then { z with special := some (infOf (decide (v < 0))) }
    else if outside64 (z.x + v) then { z with special := some (infOf (decide (z.x + v < 0))) }
    else { z with x := z.x + v }

/-- The FP32 value of an exact sum, converted once (R244). -/
def ExactSum.value (z : ExactSum) (f : Nat) : F32 := z.special.getD (F32.ofScaled z.x (-(f : Int)))

/-- The value of a total from its terms in the order of R238, and how many of them exact join rounded (R243). -/
def totalOf (exact : Option Nat) (l : List Term) : F32 × Nat :=
  match exact with
  | none => ((l.map Term.fp).foldl F32.add F32.zero, 0)
  | some f =>
    let z := l.foldl (fun z t => z.add f t) ({} : ExactSum)
    (z.value f, z.rounded)

/-- The place of an adapter term: last. -/
def adapterPlace : Nat := 2 ^ 80

/-- The lowest engine of a chunk. -/
def lowestEng (engs : List Nat) : Nat := engs.foldl min (engs.headD 0)

/-- The numbers of the halves of a pass in the order of R238. -/
def halfCode : PassHalf → Nat
  | .single => 0 | .h => 1 | .l => 2

/-- The fraction bits of a layer in exact join: its placement map's EXACT_JOIN, and where that bit is 0 JOIN_MODE_DEFAULT, say whether it is (R241,
R242; log 58). -/
def State.exactOf (s : State) (v : Version) (layer : Nat) : Option Nat :=
  match v.layerHdr layer with
  | none => none
  | some h =>
    if h.kind != 3 && (h.flags.testBit 0 || s.set0 .JOIN_MODE_DEFAULT == 1) then
      some (if h.frac == 255 then s.set0 .EXACT_FRAC_DEFAULT else h.frac)
    else none

/-- Exact join of the layer of a total. -/
def State.exactFor (s : State) (k : TotalKey) : Option Nat :=
  match s.servedBy k.req k.draft with
  | some v => s.exactOf v k.layer
  | none => none

/-- A total under formation, if there is one. -/
def State.total (s : State) (k : TotalKey) : Option Total := s.kpr.totals.find? (fun z => z.key = k)

/-- Replace a total. -/
def State.putTotal (s : State) (z : Total) : State :=
  { s with kpr := { s.kpr with totals := s.kpr.totals.filter (fun y => !decide (y.key = z.key)) ++ [z] } }

/-- A total has a term at a place. -/
def State.hasTerm (s : State) (k : TotalKey) (place : Nat) : Bool :=
  match s.total k with
  | some z => z.terms.any (fun x => x.1 == place)
  | none => false

/-- Insert a term in the order of its place. -/
def insertTerm (place : Nat) (t : Term) : List (Nat × Term) → List (Nat × Term)
  | [] => [(place, t)]
  | x :: r => if place < x.1 then (place, t) :: x :: r else if place = x.1 then x :: r else x :: insertTerm place t r

/-- A term joins its total at its place (R238). A total that is formed takes none (log 14). -/
def State.addTerm (s : State) (k : TotalKey) (place : Nat) (t : Term) : State :=
  let z := (s.total k).getD { key := k, exact := s.exactFor k }
  if z.value.isSome then s else s.putTotal { z with terms := insertTerm place t z.terms }

/-- Terms of a total at some places are withdrawn. -/
def State.dropTerms (s : State) (k : TotalKey) (places : List Nat) : State :=
  match s.total k with
  | none => s
  | some z => s.putTotal { z with terms := z.terms.filter (fun x => !places.contains x.1) }

/-! ### Chunks (R234–R238) -/

/-- A chunk as a work item names it (R234): all of its tiles lie on this core, on one tier, on the engines named; the request is served from its
version; and the output lies in it. The version, the tiles and the output's place in them. -/
def State.chunkAt (s : State) (core : Nat) (k : TotalKey) (tier : Nat) (engs : List Nat) : Option (Version × List Tile × Nat) :=
  match s.tileAt (engs.headD 0) tier with
  | none => none
  | some (n, _, v, t) =>
    let ts := v.tiles.filter (fun x => x.chunk == t.chunk && !x.replacing)
    let r := s.req k.req
    let mine := if k.draft then r.draftSlot == n && r.draftVersion == v.number else r.slot == n && r.version == v.number
    if mine && !t.replacing && t.layer == k.layer && t.colOff ≤ k.out && k.out < t.colOff + t.cols &&
       ts.all (fun x => x.eng / 16 == core && x.tier == tier && engs.contains x.eng) &&
       engs.all (fun e => ts.any (fun x => x.eng == e)) && engs.length == ts.length
    then some (v, ts, k.out - t.colOff) else none

/-- The passes that a layer's drive takes (R176): H and L for N8c, else one. -/
def State.halvesOf (s : State) (v : Version) (t : Tile) (kw : Nat) : List PassHalf :=
  if isComposite (s.driveFormat (v.shardOf t) kw) then [.h, .l] else [.single]

/-- Weight group code of an output over the tiles of a chunk (R154); −128 when every block of the group is a zero block. -/
def chunkCode (ts : List Tile) (j : Nat) : Int := (ts.map (fun t => imageCode t.image j)).foldl max (-128)

/-- The promotion of an integer J (R237): J scaled by the codes; a group of zero blocks has the value 0 (R138; log 15). -/
def promote (j : Int) (plan : Nat) (half : PassHalf) (ca cw : Int) : Term :=
  if ca == -128 || cw == -128 then Term.zero else
  let m := match half with
    | .h => 15 * j
    | _ => j
  let s := qls (ca + cw)
  let s := if plan == 2 then F32.mul s 0x3F000000#32 else s
  ⟨F32.mul (F32.ofInt m) s, m, (ca + cw) / 4 - (if plan == 2 then 1 else 0)⟩

/-- Counts held of a pass for a total: of this engine and tier, request, layer, vector and half. -/
def PassDone.isFor (d : PassDone) (eng tier : Nat) (k : TotalKey) (half : PassHalf) : Bool :=
  d.pass.eng == eng && d.pass.tier == tier && d.pass.req == k.req && d.pass.layer == k.layer && d.pass.vec == k.vec &&
  d.pass.draft == k.draft && d.pass.half == half

/-- The counts the Keeper holds of an engine's pass for a total. -/
def State.doneOf (s : State) (eng tier : Nat) (k : TotalKey) (half : PassHalf) : Option PassDone :=
  s.kpr.done.reverse.find? (fun d => d.isFor eng tier k half)

/-- An output of an ended pass. -/
def PassDone.out (d : PassDone) (j : Nat) : OutNum := d.outs.getD j ⟨.ok, 0, 0, 0⟩

/-- The chunk sum J: Σ K_e × P_e over outputs that need no repair (R235). -/
def chunkSum (ds : List PassDone) (j : Nat) : Int :=
  (ds.map (fun d => match (d.out j).state with
    | .ok => (2 ^ (d.out j).gain : Int) * (d.out j).p
    | _ => 0)).foldl (· + ·) 0

/-- Change one output in the counts held of engines, in every pass of their pairs. -/
def State.mapOut (s : State) (engs : List Nat) (tier : Nat) (k : TotalKey) (j : Nat) (f : OutNum → OutNum) : State :=
  { s with kpr := { s.kpr with done := s.kpr.done.map (fun d =>
      if engs.contains d.pass.eng && d.isFor d.pass.eng tier k d.pass.half then
        { d with outs := d.outs.zipIdx.map (fun x => if x.2 == j then f x.1 else x.1) }
      else d) } }

/-- The places of a repair term and of a chunk's sums. -/
def repairPlace (core tier : Nat) (engs : List Nat) (eng : Nat) : Nat := termPlace core tier (lowestEng engs) 1 (4 * eng)
/-- The place of a chunk sum. -/
def sumPlace (core tier : Nat) (engs : List Nat) (half : PassHalf) : Nat := termPlace core tier (lowestEng engs) 0 (halfCode half)

/-- A tile's part of a chunk is there for its promotion: its counts with no output to repair, or, of a tile under R333, its repair term (R226,
R333). -/
def State.partReady (s : State) (core : Nat) (k : TotalKey) (tier : Nat) (engs : List Nat) (half : PassHalf) (j : Nat) (t : Tile) : Bool :=
  match s.doneOf t.eng tier k half with
  | some d => !(d.out j).state.bad
  | none => s.tileDigital t && s.hasTerm k (repairPlace core tier engs t.eng)

/-- A chunk sum has left 24 bits (R236): the output is repaired digitally in both passes where every span has a copy, and the chunk waits for it;
else the step is faulted. -/
def State.chunkOverflow (s : State) (core : Nat) (k : TotalKey) (tier : Nat) (engs : List Nat) (j : Nat) : State :=
  let kw := (s.req k.req).kw
  let s := (s.incK .CHUNK_OVF_COUNT kw).raise 0x8603 kw (s.uidCore core)
  if engs.all (fun e => s.hasCopy e tier) then
    (s.mapOut engs tier k j (fun o => if o.state = .repaired then o else { o with state := .failed })).dropTerms k
      ([PassHalf.single, .h, .l].map (sumPlace core tier engs))
  else s.faultStep k.req .splitFailed

/-- Promote a chunk (R235–R238). -/
def State.promoteChunk (s : State) (core : Nat) (k : TotalKey) (tier : Nat) (engs : List Nat) (half : PassHalf) : State :=
  match s.chunkAt core k tier engs with
  | none => s
  | some (v, ts, j) =>
    if !(ts.all (fun t => (s.halvesOf v t (s.req k.req).kw).contains half && s.partReady core k tier engs half j t)) then s else
    let ds := ts.filterMap (fun t => s.doneOf t.eng tier k half)
    let jj := chunkSum ds j
    let ca := (ds.head?.map (fun d => d.pass.ca)).getD (-128)
    let plan := (ts.head?.map Tile.plan).getD 1
    if jj.natAbs ≤ 8388607 then s.addTerm k (sumPlace core tier engs half) (promote jj plan half ca (chunkCode ts j))
    else s.chunkOverflow core k tier engs j

/-! ### Repair (R226–R229, R333) -/

/-- The weight block that a tile's row block and output have: from the digital copy, or from the reference image with the
column's group code for every block (R227, R333). -/
def weightBlock (v : Version) (t : Tile) (b j : Nat) : DBlock :=
  match v.copyOf t with
  | some (h, pay) => (shardBlock h pay (t.rowOff + 32 * b) (t.colOff + j)).getD ⟨-128, List.replicate 32 0⟩
  | none => ⟨imageCode t.image j, (List.range 32).map (fun i => imageWeight t.image t.plan (32 * b + i) j)⟩

/-- Block products p_b × q(c_a,b + c_w,b) of paired blocks (R227, R247, R251): FP32 terms in ascending order, exact terms. -/
def blockTerms : List (DBlock × DBlock) → List Term
  | [] => []
  | (a, w) :: r =>
    let p := ((a.d.zip w.d).map (fun x => x.1 * x.2)).foldl (· + ·) 0
    (if a.code == -128 || w.code == -128 then Term.zero
     else ⟨F32.mul (F32.ofInt p) (qls (a.code + w.code)), p, (a.code + w.code) / 4⟩) :: blockTerms r

/-- The sum of block products: in FP32 in ascending order with rounding at each step, and exactly. -/
def sumTerms (l : List Term) : Term :=
  let f := (l.map Term.fp).foldl F32.add F32.zero
  let e := (l.map Term.e).foldl min 0
  ⟨f, (l.map (fun t => t.num * 2 ^ (t.e - e).toNat)).foldl (· + ·) 0, e⟩

/-- The digital recompute of an output of a tile (R227). -/
def recompute (v : Version) (t : Tile) (j : Nat) (blocks : List DBlock) : Term :=
  let n := (t.rows + 31) / 32
  sumTerms (blockTerms (((blocks.take n).zipIdx).map (fun x => (x.1, weightBlock v t x.2 j))))

/-- Digital repair of an output (R226, R227), once for both passes of a pair; or the whole output of a tile under R333, from the activation blocks
where its passes have not run. -/
def State.repairOut (s : State) (core : Nat) (k : TotalKey) (tier : Nat) (engs : List Nat) (eng : Nat) (blocks : List DBlock) : State :=
  match s.chunkAt core k tier engs with
  | none => s
  | some (v, ts, j) =>
    match ts.find? (fun t => t.eng == eng) with
    | none => s
    | some t =>
      let kw := (s.req k.req).kw
      let halves := s.halvesOf v t kw
      let ds := halves.filterMap (fun h => s.doneOf eng tier k h)
      let place := repairPlace core tier engs eng
      match ds with
      | [] => if s.tileDigital t then s.addTerm k place (recompute v t j blocks) else s
      | d :: _ =>
        let whole := ds.length == halves.length
        let bad := ds.any (fun d => (d.out j).state.bad)
        let fix (s : State) : State :=
          (s.mapOut [eng] tier k j (fun o => { o with state := .repaired })).addTerm k place (recompute v t j d.pass.blocks)
        if whole && bad && ((v.copyOf t).isSome || s.tileDigital t) then
          let s := if (v.copyOf t).isSome then s.incK .DIGITAL_REPAIR_COUNT kw else s
          fix (if ds.any (fun d => (d.out j).state == .saturated) then s.incK .SAT_REPAIR_COUNT kw else s)
        else if !whole && s.tileDigital t then fix s
        else s

/-- A split term enters the total (R228, R238). -/
def State.addSplit (s : State) (core : Nat) (k : TotalKey) (tier : Nat) (engs : List Nat) (eng : Nat) (half : PassHalf) : State :=
  match s.chunkAt core k tier engs, s.doneOf eng tier k half with
  | some (_, ts, j), some d =>
    if (d.out j).state == .split then
      s.addTerm k (termPlace core tier (lowestEng engs) 1 (4 * eng + halfCode half))
        (promote (d.out j).term d.pass.plan half d.pass.ca (chunkCode ts j))
    else s
  | _, _ => s

/-! ### Outliers (R230–R232) -/

/-- An outlier's signed significand and exponent (R230): ±(128 + f) and e − 7; none for an infinity or a NaN (R231). -/
def outlierParts (value : Nat) : Option (Int × Int) :=
  let ex := value / 128 % 256
  let f := value % 128
  let sg : Int := if value / 32768 % 2 == 1 then -1 else 1
  if ex == 255 then none
  else if ex == 0 then some (sg * f, -126 - 7)
  else some (sg * (128 + f : Nat), (ex : Int) - 127 - 7)

/-- The outlier term O_rj (R230): one rounding of an exact product. -/
def outlierTerm (value : Nat) (w : Int) (cw : Int) : Term :=
  match outlierParts value with
  | none => Term.zero
  | some (m, e) =>
    if cw == -128 then Term.zero else
    let p := m * w
    ⟨F32.ofParts ((Parts.fin (decide (p < 0)) p.natAbs e).mul (F32.parts (qls cw))), p, e + cw / 4⟩

/-- One product less of a core and request. -/
def lessOne (core req : Nat) : List (Nat × Nat × Nat) → List (Nat × Nat × Nat)
  | [] => []
  | x :: r => if x.1 = core ∧ x.2.1 = req then (if x.2.2 ≤ 1 then r else (core, req, x.2.2 - 1) :: r) else x :: lessOne core req r

/-- One outlier product of a request is done on a core. -/
def State.outlierDone (s : State) (core req : Nat) : State :=
  { s with kpr := { s.kpr with outWork := lessOne core req s.kpr.outWork } }

/-- An outlier term is added (R230). Only rows with a digital copy are outliers (R151). -/
def State.addOutlier (s : State) (core : Nat) (k : TotalKey) (tier : Nat) (engs : List Nat) (eng row value : Nat) : State :=
  match s.chunkAt core k tier engs with
  | none => s
  | some (v, ts, j) =>
    match ts.find? (fun t => t.eng == eng && row < t.rows) with
    | none => s
    | some t =>
      match v.copyOf t with
      | none => s
      | some (h, pay) =>
        let b := (shardBlock h pay (t.rowOff + row) (t.colOff + j)).getD ⟨-128, List.replicate 32 0⟩
        (s.outlierDone core k.req).addTerm k (termPlace core tier (lowestEng engs) 2 (t.rowOff + row))
          (outlierTerm value (b.d.getD (row % 32) 0) b.code)

/-! ### Narrowing and reading blocks (R144, R149–R153) -/

/-- The settings a narrowing uses (R148, R162, R241). -/
def State.narrowCfg (s : State) (kw fmt : Nat) (edge octaves : Bool) : NarrowCfg :=
  { fmt := fmt, edge := edge, outliers := s.setK .OUTLIER_ENABLE kw == 1, thresh := s.setK .OUTLIER_THRESH kw,
    maxOut := s.setK .OUTLIER_MAX_BLOCK kw, octaves := octaves || s.setK .SCALE_MODE kw == 1 }

/-- What a narrowing counts and raises (R150, R152). -/
def State.countNarrow (s : State) (kw : Nat) (n : Narrowed) : State :=
  let s := s.incK .OUTLIERS_SELECTED kw n.outs.length
  if n.clamped then (s.incK .FMT_SCALE_CLAMP_COUNT kw).raise 0x4401 kw else s

/-- A non-finite element reached a narrowing (R149). -/
def State.nonfinite (s : State) (kw : Nat) : State := (s.incK .FMT_NONFINITE_COUNT kw).raise 0x8401 kw

/-- Narrow a block at a request's step; none when it faulted the step (R149, R150). -/
def State.narrowFor (s : State) (req fmt : Nat) (edge octaves : Bool) (x : List F32) (digital : List Bool) :
    State × Option Narrowed :=
  let kw := (s.req req).kw
  match narrow (s.narrowCfg kw fmt edge octaves) x digital with
  | none => ((s.nonfinite kw).faultStep req .nonfiniteAct, none)
  | some n => (s.countNarrow kw n, some n)

/-- A block stands in core SRAM. -/
def State.addBlock (s : State) (b : NarrowBlk) : State := { s with kpr := { s.kpr with blocks := s.kpr.blocks ++ [b] } }

/-- Narrow a block of a format into core SRAM. -/
def State.narrowInto (s : State) (core req fmt : Nat) (edge octaves : Bool) (x : List F32) (digital : List Bool) : State :=
  match s.narrowFor req fmt edge octaves x digital with
  | (s, none) => s
  | (s, some n) => s.addBlock ⟨core, req, fmt, unsigned 8 n.code, encodeBlock fmt n.d, outlierPlane n.outs⟩

/-- Whether each input row of a block has a digital row (R151). -/
def Version.digitalRows (v : Version) (layer row : Nat) : List Bool := (List.range 32).map (fun i => v.digitalRow layer (row + i))

/-- Narrow a block where it goes (R148–R153): to an array edge in the layer's drive format, with outliers; to an exact-tier layer as INT8 (R250);
else in the format named, a format without scales by conversion (R147). -/
def State.narrowWork (s : State) (core req : Nat) (place : NarrowPlace) (x : List F32) : State :=
  let kw := (s.req req).kw
  let plain (fmt : Nat) (octaves : Bool) : State :=
    match fmtRow fmt with
    | none => s
    | some r => if r.scaled then s.narrowInto core req fmt false octaves x (List.replicate 32 false)
      else s.addBlock ⟨core, req, fmt, 0, encodeWide fmt x, []⟩
  match place with
  | .keeper fmt => plain fmt false
  | .hostData fmt => plain fmt false
  | .arrayEdge draft layer row =>
    match s.servedBy req draft with
    | none => s
    | some v =>
      match v.layerHdr layer with
      | none => s
      | some h =>
        if h.kind == 3 then plain 0x03 false
        else s.narrowInto core req (s.driveFormat (some h) kw) true (s.exactOf v layer).isSome x (v.digitalRows layer row)

/-- A malformed block was read (R144). -/
def State.badBlock (s : State) (kw : Nat) : State := (s.incK .FMT_BAD_BLOCK_COUNT kw).raise 0x8402 kw

/-- A block is read as a Keeper operand (R144). -/
def State.readBlockWork (s : State) (req fmt used : Nat) (data : Bytes) (scale : Nat) : State :=
  match decodeBlock fmt used data (scaleOf scale) with
  | some _ => s
  | none => (s.badBlock (s.req req).kw).faultStep req .badOperand

/-! ### Adapters and the exact tier (R246–R251) -/

/-- The addresses a keyway's map covers (spec/12 R497): from 0, 2 MiB pages up to QUOTA_MEM_PAGES (log 16). -/
def State.kwMapped (s : State) (kw addr len : Nat) : Bool := addr + len ≤ s.setK .QUOTA_MEM_PAGES kw * 2097152

/-- A keyway's memory. -/
def State.kwCells (s : State) (kw : Nat) : List Host.Cell := mapGet s.kwMem kw []

/-- Blocks of an INT8 tensor row in a keyway's memory (R141). -/
def State.int8Row (s : State) (kw data scale row nb len : Nat) : List DBlock :=
  (List.range nb).map (fun b =>
    let i := row * nb + b
    let code := scaleOf (memByte (s.kwCells kw) (scale + i)).toNat
    let used := min 32 (len - 32 * b)
    ⟨code, ((memRead (s.kwCells kw) (data + 32 * i) used).map (fun x => signed 8 x.toNat)) ++ List.replicate (32 - used) 0⟩)

/-- Split a vector into blocks of 32, padded with +0.0 (R143). -/
def blocks32 : Nat → List F32 → List (List F32)
  | 0, _ => []
  | n + 1, x => ((x.take 32) ++ List.replicate (32 - x.length) F32.zero) :: blocks32 n (x.drop 32)

/-- Narrow a vector to INT8 with no outlier selection (R247). -/
def State.narrowVec (s : State) (req : Nat) (octaves : Bool) : List (List F32) → State × Option (List DBlock)
  | [] => (s, some [])
  | x :: r =>
    match s.narrowFor req 0x03 false octaves x (List.replicate 32 false) with
    | (s, none) => (s, none)
    | (s, some n) =>
      match s.narrowVec req octaves r with
      | (s, none) => (s, none)
      | (s, some l) => (s, some (⟨n.code, n.d⟩ :: l))

/-- Outputs of a layer: the highest output of the version's shards of the layer. -/
def Version.layerOuts (v : Version) (layer : Nat) : Nat :=
  ((v.shards.filter (fun h => h.layer == layer && (h.kind == 1 || h.kind == 3))).map (fun h => h.colOff + h.cols)).foldl max 0

/-- Planes of an adapter descriptor with their lengths (Table 6.4), for input length n and m outputs. -/
def adapterPlanes (d : Bytes) (n m : Nat) : List (Nat × Nat) :=
  let r := leAt d 3 1
  let nb := (n + 31) / 32
  let rb := (r + 31) / 32
  [(leAt d 16 8, 32 * r * nb), (leAt d 24 8, r * nb), (leAt d 32 8, 32 * m * rb), (leAt d 40 8, m * rb)]

/-- The check of a descriptor at use (R249). -/
def State.adapterOk (s : State) (r : ReqS) (d : Bytes) (n m : Nat) : Bool :=
  leAt d 6 1 == 0x03 && leAt d 12 4 == r.version && (adapterPlanes d n m).all (fun p => s.kwMapped r.kw p.1 p.2)

/-- The adapter a request has for a layer, as in force at its admission (R258). -/
def ReqS.adapterOf (r : ReqS) (layer : Nat) : Option Bytes :=
  r.adapters.find? (fun d => leAt d 4 2 == layer && leAt d 2 1 == r.slot)

/-- An adapter term (R247, R249). -/
def State.adapterWork (s : State) (k : TotalKey) (x : List F32) : State :=
  let r := s.req k.req
  let exact := s.exactFor k
  match r.adapterOf k.layer with
  | none => s
  | some d =>
    let m := match s.versionNo r.slot r.version with
      | some v => v.layerOuts k.layer
      | none => 0
    if !s.adapterOk r d x.length m then (s.raise 0x8605 r.kw).faultStep k.req .adapterBad else
    let rank := leAt d 3 1
    let nb := (x.length + 31) / 32
    let rb := (rank + 31) / 32
    match s.narrowVec k.req exact.isSome (blocks32 nb x) with
    | (s, none) => s
    | (s, some xb) =>
      let u := (List.range rank).map (fun i =>
        (sumTerms (blockTerms (xb.zip (s.int8Row r.kw (leAt d 16 8) (leAt d 24 8) i nb x.length)))).fp)
      match s.narrowVec k.req exact.isSome (blocks32 rb u) with
      | (s, none) => s
      | (s, some ub) =>
        let dj := (sumTerms (blockTerms (ub.zip (s.int8Row r.kw (leAt d 32 8) (leAt d 40 8) k.out rb rank)))).fp
        let v := F32.mul (BitVec.ofNat 32 (leAt d 8 4)) dj
        let q := F32.toRatio v
        s.addTerm k adapterPlace ⟨v, q.1, -(q.2 : Int)⟩

/-- The cores that compute a digital-tier layer (R322): those that hold the version's tiles, else those of the slot owner's quota. -/
def State.digitalCores (s : State) (slot : Nat) (v : Version) : List Nat :=
  let held := (List.range s.numCores).filter (fun c => v.tiles.any (fun t => t.eng / 16 == c && !t.replacing))
  if held.isEmpty then s.quotaCores (s.slot slot).owner else held

/-- The core of an output of a digital-tier layer (R322): the outputs, in ascending order, split evenly over the cores (log 59). -/
def State.exactCore (s : State) (slot : Nat) (v : Version) (outs out : Nat) : Option Nat :=
  let cs := s.digitalCores slot v
  cs[out * cs.length / max 1 outs]?

/-- The dies whose stacks hold a memory-resident shard (R322): those of the tiles that a digital copy covers, those of the cores that compute a
digital-tier layer. -/
def State.shardDies (s : State) (slot : Nat) (v : Version) (h : ShardHdr) : List Nat :=
  if h.kind == 2 then ((v.tiles.filter h.covers).map (fun t => s.dieOfCore (t.eng / 16))).eraseDups
  else if h.kind == 3 then ((s.digitalCores slot v).map s.dieOfCore).eraseDups
  else []

/-- An output of an exact-tier layer on its core (R250, R251, R322); a layer whose shard has failed its digest faults the step (R345). -/
def State.exactTierWork (s : State) (core : Nat) (k : TotalKey) (shard : Nat) (blocks : List DBlock) : State :=
  let r := s.req k.req
  match s.servedBy k.req k.draft with
  | none => s
  | some v =>
    if v.badHeld.contains shard then s.faultStep k.req .layerLost else
    match v.shards.find? (fun h => h.index == shard && h.kind == 3 && h.layer == k.layer), v.held.find? (fun p => p.1 == shard) with
    | some h, some p =>
      if k.out < h.colOff + h.cols && s.exactCore (if k.draft then r.draftSlot else r.slot) v h.cols (k.out - h.colOff) == some core then
        let ws := (List.range blocks.length).map (fun b =>
          (shardBlock h p.2 (h.rowOff + 32 * b) k.out).getD ⟨-128, List.replicate 32 0⟩)
        s.addTerm k (termPlace core 0 0 0 0) (sumTerms (blockTerms (blocks.zip ws)))
      else s
    | _, _ => s

/-- End a total (R238, R244): its value is formed from its terms in order; terms that exact join rounded are counted (R243). -/
def State.finishTotal (s : State) (k : TotalKey) : State :=
  match s.total k with
  | none => s
  | some z =>
    if z.value.isSome then s else
    let v := totalOf z.exact (z.terms.map Prod.snd)
    let kw := (s.req k.req).kw
    let s := (s.incK .EXACT_INEXACT_COUNT kw v.2).raiseMany 0x4603 kw v.2
    s.putTotal { z with value := some v.1 }

/-- A reduction over the vector unit's lanes (R251). -/
def State.reduceWork (s : State) (req : Nat) (x : List F32) : State :=
  { s with kpr := { s.kpr with sums := s.kpr.sums ++ [(req, laneSum x)] } }

/-! ### SRAM (spec/02 R51–R53) and residue checks (spec/14 R568) -/

/-- One corrected error of a row: kept for 1,024 beats, and a row with more than 4 is to be retired (R53). -/
def State.corrected (s : State) (unit : UnitId) (row : Nat) : State :=
  let old := match s.hier.corrBeats.find? (fun x => x.1 == unit && x.2.1 == row) with
    | some x => x.2.2
    | none => []
  let bs := (s.beat.count :: old).filter (fun b => s.beat.count < b + 1024)
  let rest := s.hier.corrBeats.filter (fun x => !(x.1 == unit && x.2.1 == row))
  let want := decide (bs.length > 4) && !s.hier.rowRetire.contains (unit, row) && !s.hier.retiredRows.contains (unit, row)
  { s with hier := { s.hier with
      corrBeats := rest ++ [(unit, row, bs)]
      rowRetire := if want then s.hier.rowRetire ++ [(unit, row)] else s.hier.rowRetire } }

/-- A core reaches a word of SRAM: of its own SRAM of 512 KiB, or of its own cluster's of 8 MiB, in 32-bit words (R47, R48, R50). -/
def State.reaches (s : State) (core : Nat) (unit : UnitId) (addr : Nat) : Bool :=
  (unit == s.uidCore core && decide (addr < 131072)) || (unit == uidCluster (s.clusterOfCore core) && decide (addr < 2097152))

/-- A double-bit error (R52): the word is poisoned, recorded and reported, and the request's step faulted. -/
def State.uncorrectable (s : State) (req : Nat) (unit : UnitId) (addr : Nat) : State :=
  let s := { s with hier := { s.hier with poisoned := s.hier.poisoned ++ [Poison.mk unit addr] } }
  let s := s.inc .SRAM_UNCORR_COUNT
  let s := (s.putCount ⟨.SRAM_LAST_ERR_UNIT, 0, 0⟩ unit).putCount ⟨.SRAM_LAST_ERR_ADDR, 0, 0⟩ addr
  (s.raise 0x8201 (s.req req).kw unit).faultStep req .doubleBit

/-- A word crosses a bus, a bridge or a stack interface (R50, R53): a single-bit error is corrected in flight and counted with the SRAM counts, a
double-bit error handled as R52, at the receiving unit. -/
def State.transfer (s : State) (req : Nat) (unit : UnitId) (addr : Nat) (e : EccResult) : State :=
  match e with
  | .clean => s
  | .single => s.inc .SRAM_CORRECTED_COUNT
  | .double => s.uncorrectable req unit addr

/-- A word of SRAM is read for a request (R51, R52): its fault kind of Table 10.7, if it faults. -/
def State.sramRead (s : State) (req : Nat) (unit : UnitId) (row addr : Nat) (e : EccResult) : State :=
  let kw := (s.req req).kw
  if s.hier.poisoned.contains (Poison.mk unit addr) then s.faultStep req .doubleBit else
  match e with
  | .clean => s
  | .single => ((s.inc .SRAM_CORRECTED_COUNT).raise 0x4201 kw unit).corrected unit row
  | .double => s.uncorrectable req unit addr

/-- A word written whole is no longer poisoned (R53). -/
def State.sramWrite (s : State) (unit : UnitId) (addr : Nat) : State :=
  { s with hier := { s.hier with poisoned := s.hier.poisoned.filter (fun p => !decide (p = Poison.mk unit addr)) } }

/-- A unit is isolated and waits for its known-answer test (R569). -/
def State.quarantine (s : State) (unit : UnitId) (mismatch : Bool) : State :=
  let s := s.isolateFault unit
  { s with evt := { s.evt with quarantine := mapSet s.evt.quarantine unit (s.beatMark, mismatch) } }

/-- A residue mismatch of a Keeper's core or an attention engine (R568). -/
def State.residueMismatch (s : State) (unit : UnitId) : State :=
  let s := s.quarantine unit true
  let s := { s with evt := { s.evt with mismatches := s.evt.mismatches ++ [(unit, s.opMsNow)] } }
  (s.inc .RESIDUE_MISMATCH_COUNT).raise 0x8E01 0xFF unit

/-- Digital repairs of a core wait: outputs to repair whose span has a copy (R226). -/
def State.repairsWait (s : State) (core : Nat) : Bool :=
  s.kpr.done.any (fun d => d.pass.eng / 16 == core && d.outs.any (fun o => o.state.bad) && s.hasCopy d.pass.eng d.pass.tier)

/-- The MAC array's order of priority (R221): outlier products of passes issued, then digital repair, then exact-tier and adapter work. An item of a
lower place waits: nothing happens, and the sequencer gives it again. -/
def State.macFree (s : State) (core : Nat) (w : KeeperWork) : Bool :=
  let outs := s.kpr.outWork.any (fun x => x.1 == core)
  match w with
  | .repair .. => !outs
  | .exactTier .. => !outs && !s.repairsWait core
  | .adapter .. => !outs && !s.repairsWait core
  | _ => true

/-- A Keeper's work item (R221). -/
def keeperWork (core : Nat) (w : KeeperWork) (s : State) : State :=
  if s.pwr.stalled then s else
  if s.coreState core ≠ .online then s.emit (.orderRefused (s.uidCore core)) else
  if !s.macFree core w then s else
  match w with
  | .promote k tier engs half => s.promoteChunk core k tier engs half
  | .repair k tier engs eng blocks => s.repairOut core k tier engs eng blocks
  | .splitTerm k tier engs eng half => s.addSplit core k tier engs eng half
  | .outlier k tier engs eng row value => s.addOutlier core k tier engs eng row value
  | .adapter k x => s.adapterWork k x
  | .exactTier k shard blocks => s.exactTierWork core k shard blocks
  | .finish k => s.finishTotal k
  | .reduce req x => s.reduceWork req x
  | .narrow req place x => s.narrowWork core req place x
  | .readBlock req fmt used data scale => s.readBlockWork req fmt used data scale
  | .sramRead req unit row addr ecc => if s.reaches core unit addr then s.sramRead req unit row addr ecc else s
  | .sramWrite unit addr => if s.reaches core unit addr then s.sramWrite unit addr else s
  | .transfer req unit addr ecc => s.transfer req unit addr ecc
  | .residue => s.residueMismatch (s.uidCore core)

/-- KEEPER_WORK_ITEM. -/
def execKeeperWorkItem (t core : Nat) (w : KeeperWork) (s : State) : Host.Outcome State Fault Refusal :=
  if core < s.numCores then .next ((s.at t).inStepCfg (s.coreBeat core) (keeperWork core w)) else .fault .noSuchUnit

/-! ### Tile audit (R253–R256, R570–R572) -/

/-- The exact value E of a captured output: aligned drive digits times programmed digits (R254). -/
def auditExact (img : Bytes) (p : Pass) (j : Nat) : Int :=
  (p.drive.zipIdx.map (fun x => x.1 * imageWeight img p.plan x.2 j)).foldl (· + ·) 0

/-- Column pairs of an output of a plan. -/
def pairsOf (plan : Nat) : Nat :=
  match plan with
  | 2 => 2
  | 4 => 4
  | _ => 1

/-- An output passes the audit (R254), with both sides times D × 10^6 and the root squared away. -/
def auditPass (tol gain : Nat) (p : Pass) (o : OutNum) (e : Int) : Bool :=
  let d : Nat := if p.plan == 2 then 2 else 1
  let k : Nat := 2 ^ o.gain
  let lhs : Int := (((k : Int) * o.p - d * e).natAbs : Int) * 1000000 - ((d * e.natAbs * gain : Nat) : Int)
  let rhs : Nat := d * k * tol * 1000000
  decide (lhs ≤ 0) || decide (lhs.toNat * lhs.toNat ≤ rhs * rhs * pairsOf p.plan)

/-- Table 14.8, the export of a failing capture. -/
def captureExport (c : Capture) : Bytes :=
  let ds := c.pass.drive.take 512 ++ List.replicate (512 - c.pass.drive.length) 0
  leBytes 256 (joinFields 4 (ds.map (unsigned 4))) ++ leInt 1 c.pass.ca ++ leBytes 1 c.pass.gain ++ leBytes 1 c.pass.plan ++
  leBytes 1 (halfCode c.pass.half) ++ leBytes 2 c.first ++ zeros 2 ++
  padTo 32 (c.codes.flatMap (leInt 1)) ++
  padTo 64 (c.outs.flatMap (fun o => leInt 2 o.p)) ++ zeros 24

/-- A keyway is in confidential mode: opened with KW_CONFIDENTIAL and not OFF (spec/12 R516, R517). -/
def State.confidential (s : State) (kw : Nat) : Bool :=
  s.setK .KW_CONFIDENTIAL kw == 1 && (s.func (.keyway kw)).state != .off

/-- Name one request after an audit failure (R571, R572). -/
def State.nameAffected (s : State) (kw idx slot tag first last : Nat) : State :=
  let pay := leBytes 2 idx ++ leBytes 1 slot ++ [0] ++ leBytes 8 tag ++ leBytes 6 first ++ leBytes 6 last
  let old := mapGet s.evt.affected kw []
  let l := old ++ [pay]
  let s := { s with evt := { s.evt with affected := mapSet s.evt.affected kw (l.drop (l.length - 32)) } }
  (s.incK .AUDIT_AFFECTED_COUNT kw).raiseEv { code := 0x4E02, kw := kw, raw := some pay }

/-- Name requests one after another: keyway, index, user tag. -/
def State.nameAll (s : State) (slot first last : Nat) : List (Nat × Nat × Nat) → State
  | [] => s
  | x :: r => (s.nameAffected x.1 x.2.1 slot x.2.2 first last).nameAll slot first last r

/-- Every request that could have used a tier from a beat to a beat is named (R571): a request takes its steps from its admission
to its end (log 17). -/
def State.nameAffectedAll (s : State) (eng tier last : Nat) : State :=
  match s.tileAt eng tier with
  | none => s
  | some (slot, _, v, _) =>
    let t := (s.engine eng).tier tier
    let first := max t.auditBeat t.commitBeat + 1
    let active := (s.srv.reqs.filter (fun x => x.2.active && x.2.state != .queued && x.2.slot == slot && x.2.version == v.number &&
      decide (x.2.admitBeat ≤ last))).map (fun x => (x.2.kw, x.1, x.2.userTag))
    let ended := (s.srv.ends.filter (fun e => e.slot == slot && e.version == v.number && decide (e.admitBeat ≤ last) &&
      decide (first ≤ e.endBeat))).map (fun e => (e.kw, e.idx, e.tag))
    let s := s.nameAll slot first last (active ++ ended)
    match s.srv.ends with
    | e :: _ => if first < e.endBeat then s.raise 0x4E03 (s.slot slot).owner else s
    | [] => s

/-- Audit failures on ESCALATE_TIERS tiers of one core within 1,024 beats isolate the core (Table 14.3). -/
def State.coreEscalate (s : State) (core : Nat) : State :=
  let n := ((List.range 16).map (fun e =>
    (((s.engine (16 * core + e)).tiers).filter (fun t => t.auditFails.any (fun b => s.beat.count < b + 1024))).length)).foldl (· + ·) 0
  if n ≥ s.set0 .ESCALATE_TIERS && s.ownState (s.uidCore core) == .online then
    (s.quarantine (s.uidCore core) false).raise 0x8E05 0xFF (s.uidCore core)
  else s

/-- One output fails its audit (R255). -/
def State.auditFail (s : State) (c : Capture) (j : Nat) : State :=
  let p := c.pass
  let uid := s.uidTier p.eng p.tier
  let cont := if s.set0 .AUDIT_EXPORT == 1 && !s.confidential p.kw then captureExport c else []
  let col := (columnsOf p.plan j).headD 0
  let s := s.incK .AUDIT_FAIL_COUNT c.pass.kw
  let s := s.raiseEv { code := 0x8604, kw := p.kw, unit := uid, p0 := col, p1 := c.beat, p2 := j, cont := cont }
  let t := (s.engine p.eng).tier p.tier
  let again := (columnsOf p.plan j).filter (fun x => t.transient.any (fun y => y.1 == x && s.beat.count < y.2 + 1024))
  let s := s.putTier p.eng p.tier { t with forced := (t.forced ++ again).eraseDups }
  s.flagColumns p.eng p.tier (columnsOf p.plan j)

/-- Failing outputs of a capture, one after another. -/
def State.auditFails (s : State) (c : Capture) : List Nat → State
  | [] => s
  | j :: r => (s.auditFail c j).auditFails c r

/-- Audit the oldest capture of a core (R254, R255). -/
def tileAudit (core : Nat) (s : State) : State :=
  match s.kpr.captures.find? (fun c => c.core == core) with
  | none => s
  | some c =>
    if !s.quietFor core || s.pwr.stalled || s.boundaryDue then s else
    let p := c.pass
    let img := s.imageAt p.eng p.tier
    let judged := (c.outs.zipIdx).filter (fun x => x.1.state == .ok)
    let bad := (judged.filter (fun x =>
      !auditPass (s.set0 .AUDIT_TOL_TICKS) (s.set0 .AUDIT_TOL_GAIN) p x.1 (auditExact img p (c.first + x.2)))).map (fun x => c.first + x.2)
    let s := { s with kpr := { s.kpr with captures := s.kpr.captures.filter (fun d => !decide (d = c)) } }
    let s := s.incK .AUDIT_COUNT p.kw judged.length
    let t := (s.engine p.eng).tier p.tier
    if bad = [] then s.putTier p.eng p.tier { t with auditBeat := c.beat }
    else
      let s := s.auditFails c bad
      let s := s.nameAffectedAll p.eng p.tier c.beat
      let t := (s.engine p.eng).tier p.tier
      let s := s.putTier p.eng p.tier { t with auditFails := (s.beat.count :: t.auditFails).filter (fun b => s.beat.count < b + 1024) }
      s.coreEscalate core

/-- TILE_AUDIT. -/
def execTileAudit (t core : Nat) (s : State) : Host.Outcome State Fault Refusal :=
  if core < s.numCores then .next (tileAudit core (s.at t)) else .fault .noSuchUnit

/-! ### Mask operations (R257) -/

/-- A mask of a length: bits beyond it are 0. -/
def maskOf (len m : Nat) : Nat := m % 2 ^ len

/-- Set bits of a mask. -/
def popCount : Nat → Nat → Nat
  | 0, _ => 0
  | n + 1, m => m % 2 + popCount n (m / 2)

/-- The lowest set bit at or above a place, counting from it; none when no bit is set. -/
def firstSet : Nat → Nat → Nat → Option Nat
  | 0, _, _ => none
  | n + 1, i, m => if m % 2 == 1 then some i else firstSet n (i + 1) (m / 2)

/-- AND of masks. -/
def maskAnd (len : Nat) (l : List Nat) : Nat := (l.map (maskOf len)).foldl (· &&& ·) (2 ^ len - 1)
/-- OR of masks. -/
def maskOr (len : Nat) (l : List Nat) : Nat := (l.map (maskOf len)).foldl (· ||| ·) 0
/-- XOR of masks. -/
def maskXor (len : Nat) (l : List Nat) : Nat := (l.map (maskOf len)).foldl (· ^^^ ·) 0
/-- First AND NOT second. -/
def maskAndNot (len a b : Nat) : Nat := maskOf len a &&& ((2 ^ len - 1) ^^^ maskOf len b)
/-- Count of set bits. -/
def maskPop (len a : Nat) : Nat := popCount len a
/-- Whether any bit is set, as BOOL. -/
def maskAny (len a : Nat) : Nat := if maskOf len a = 0 then 0 else 1
/-- Whether every bit is set, as BOOL. -/
def maskAll (len a : Nat) : Nat := if maskOf len a = 2 ^ len - 1 then 1 else 0
/-- Lowest set index; 0xFFFF_FFFF when none. -/
def maskFirst (len a : Nat) : Nat := (firstSet len 0 a).getD 0xFFFFFFFF

/-- The vector unit delivers a result (Table 6.5). -/
def maskResult (t v : Nat) (s : State) : Host.Outcome State Fault Refusal := .next ((s.at t).emit (.mask v))

/-- MASK_AND. -/
def execMaskAnd (t len : Nat) (masks : List Nat) (s : State) : Host.Outcome State Fault Refusal :=
  maskResult t (maskAnd len masks) s
/-- MASK_OR. -/
def execMaskOr (t len : Nat) (masks : List Nat) (s : State) : Host.Outcome State Fault Refusal :=
  maskResult t (maskOr len masks) s
/-- MASK_XOR. -/
def execMaskXor (t len : Nat) (masks : List Nat) (s : State) : Host.Outcome State Fault Refusal :=
  maskResult t (maskXor len masks) s
/-- MASK_ANDNOT. -/
def execMaskAndnot (t len a b : Nat) (s : State) : Host.Outcome State Fault Refusal :=
  maskResult t (maskAndNot len a b) s
/-- MASK_POPCNT. -/
def execMaskPopcnt (t len a : Nat) (s : State) : Host.Outcome State Fault Refusal :=
  maskResult t (maskPop len a) s
/-- MASK_ANY. -/
def execMaskAny (t len a : Nat) (s : State) : Host.Outcome State Fault Refusal :=
  maskResult t (maskAny len a) s
/-- MASK_ALL. -/
def execMaskAll (t len a : Nat) (s : State) : Host.Outcome State Fault Refusal :=
  maskResult t (maskAll len a) s
/-- MASK_FIRST. -/
def execMaskFirst (t len a : Nat) (s : State) : Host.Outcome State Fault Refusal :=
  maskResult t (maskFirst len a) s

end Sys2Proof.Machine
end

