-- ==== Sys2Proof/Machine/Beat.lean ====
section
/-! DEFINITION. Machine/Beat.lean: beat sources, the acceptance of edges, beat states and the phases of a beat (spec/01 R17–R43). -/
namespace Sys2Proof.Machine
open Sys2Proof

/-- 4 ms in picoseconds (R23). -/
def periodMin : Nat := 4000000000
/-- 64 ms in picoseconds (R23). -/
def periodMax : Nat := 64000000000

/-- Values of beat sources in events (Table 1.4). -/
def BeatSrc.code : BeatSrc → Nat
  | .pin => 0 | .link => 1

/-- BEAT_JITTER_TOL of a time (R23), in whole picoseconds (log 12). -/
def State.jitter (s : State) (p : Nat) : Nat := p * s.set0 .BEAT_JITTER_TOL / 1000000

/-- Mean of periods in whole picoseconds, 0 for none (R22; truncated, log 12). -/
def meanPeriod (l : List Nat) : Nat := if l.isEmpty then 0 else sumNat l / l.length

/-- Periods between consecutive edges, newest first. -/
def intervals : List Nat → List Nat
  | a :: b :: r => (a - b) :: intervals (b :: r)
  | _ => []

/-- A period lies between 4 ms and 64 ms. -/
def periodOk (p : Nat) : Bool := decide (periodMin ≤ p) && decide (p ≤ periodMax)

/-- The periods of a lock on the newest edges, if they meet the lock condition (R29). -/
def State.lockOf (s : State) (edges : List Nat) : Option (List Nat) :=
  let n := s.set0 .BEAT_LOCK_COUNT
  let l := intervals (edges.take n)
  let hi := l.foldl max 0
  let lo := l.foldl min (l.headD 0)
  if edges.length ≥ n && n ≥ 2 && l.all periodOk && decide (hi - lo ≤ s.jitter lo) then some l else none

/-- Edges of a source, newest first. -/
def BeatS.edges (b : BeatS) : BeatSrc → List Nat
  | .pin => b.pinEdges | .link => b.linkEdges

/-- The latest 17 edges of a source with one more. -/
def BeatS.addEdge (b : BeatS) (src : BeatSrc) (e : Nat) : BeatS :=
  match src with
  | .pin => { b with pinEdges := (e :: b.pinEdges).take 17 }
  | .link => { b with linkEdges := (e :: b.linkEdges).take 17 }

/-- A source's own period estimate: the mean of its last 8 periods of 4 to 64 ms (R19, R22, R23). -/
def BeatS.ownEst (b : BeatS) (src : BeatSrc) : Nat := meanPeriod (((intervals (b.edges src)).filter periodOk).take 8)

/-- A source counts as locked (R19). -/
def State.srcLocked (s : State) (src : BeatSrc) : Bool :=
  match s.lockOf (s.beat.edges src), (s.beat.edges src).head? with
  | some _, some e => decide (s.now ≤ e + 2 * s.beat.ownEst src)
  | _, _ => false

/-- The period estimate (R22). -/
def State.periodEst (s : State) : Nat := meanPeriod s.beat.periods

/-- The beat period in SELF (R31). -/
def State.selfPeriod (s : State) : Nat :=
  let v := s.set0 .BEAT_SELF_PERIOD
  if v != 0 then v * 1000 else if s.beat.periods.isEmpty then seekBeat else s.periodEst

/-- The period of the beat in use: the estimate, or the SELF period (spec/13 R538). -/
def State.beatPeriod (s : State) : Nat := if s.beat.mode = .self then s.selfPeriod else s.periodEst

/-- Beats of 20 ms that functions have spent in their states while SEEKING are theirs once it ends (spec/03 R630). -/
def State.seekBeats (s : State) : State :=
  if s.beat.mode = .seeking then
    { s with funcs := s.funcs.map (fun p => (p.1, { p.2 with beats := s.funcBeats p.1 })) }
  else s

/-- The notches spent up to now are counted, when SEEKING begins or ends (R634): there is no beat whose length counts on. -/
def State.countNotches (s : State) (m : BeatMode) : State :=
  if s.beat.mode = .seeking || m = .seeking then
    { s with beat := { s.beat with spent := s.notchClock, seekSpent := s.seekClock, length := 0 } }
  else s

/-- Enter a beat state, reporting it (R32, R635). A transition beat that began in LOCKED ends in LOCKED, and reports it too (log 54). -/
def State.beatTo (s : State) (m : BeatMode) : State :=
  let old := s.beat.mode
  let s := s.seekBeats.countNotches m
  let s := { s with beat := { s.beat with mode := m, since := s.now } }
  match m with
  | .locked => (s.milestone 9).raise 0x1101 0xFE 0 (s.periodEst / 1000) s.beat.source.code old.code
  | .freerun => s.raise 0x4101 0xFE 0 s.beat.firstMissed (s.periodEst / 1000)
  | .self => s.raise 0x4103 0xFE 0 (s.selfPeriod / 1000) s.beat.missed
  | .seeking => { s with pwr := { s.pwr with counting := false, excess := [], measured := 0, total := 0, energy := 0 } }

/-- A change of source is reported (R19, R20), a written one in SEEKING too (log 54); `auto` is 1 for an automatic one. -/
def State.switchEvent (s : State) (src : BeatSrc) (auto : Nat) : State :=
  s.raise 0x1102 0xFF 0 src.code (s.set0 .BEAT_LINK_PORT) auto

/-- A beat of a period: 4,096 notches whose length is held to 1 ps (R26; rounded to the nearest, log 12). -/
def wholeNotches (p : Nat) : Nat := (divRne p 4096).toNat * 4096

/-- The length of the beat that an edge begins (R26): the estimate, corrected by an eighth of the phase error, at most 0.5 % of the estimate
(whole picoseconds, log 12). -/
def edgeLength (est : Nat) (err : Int) : Nat :=
  let lim : Int := (est / 200 : Nat)
  wholeNotches ((est : Int) + max (-lim) (min lim (err / 8))).toNat

/-- The accepted edge nearest a predicted boundary (R23): the boundary is this beat's own while it is undecided, else the next. The
period the edge implies is its distance from the last accepted edge over the beats between. -/
def State.accepts (s : State) (e : Nat) : Option (Bool × Int × Nat) :=
  let b := s.beat
  let est := s.periodEst
  let w := s.jitter est
  let near (p : Nat) : Bool := decide (p ≤ e + w) && decide (e ≤ p + w)
  let implied := match b.lastAccepted with
    | none => est
    | some a => (e - a) / max 1 ((2 * (e - a) + est) / (2 * max 1 est))
  if !periodOk implied then none
  else if !b.decided && near b.last then some (true, (e : Int) - b.last, implied)
  else if b.early.isNone && near b.next then some (false, (e : Int) - b.next, implied)
  else none

/-- The phase error of an accepted edge, to the nearest nanosecond, ties to even (R25; log 12), and the largest since the last read. -/
def State.phaseError (s : State) (err : Int) : State :=
  let s := { s with beat := { s.beat with phaseErr := divRne err 1000 } }
  let k : OKey := ⟨.BEAT_PHASE_ERR_MAX, 0, 0⟩
  s.putCount k (max (s.count k) (s.beat.phaseErr.natAbs))

/-- An accepted edge (R25, R26, R29, R42): the phase error, the length of the beat it begins, the period estimate of the beats that follow,
a marker's beat number; FREERUN returns to LOCKED. An edge after its boundary sets the length of the running beat from that beat's start, so
NOTCH_NOW may step back (log 12). -/
def State.acceptEdge (s : State) (e : Nat) (num : Option Nat) (own : Bool) (err : Int) (period : Nat) : State :=
  let len := edgeLength s.periodEst err
  let b := s.beat
  let b := { b with periods := (period :: b.periods).take 8, lastAccepted := some e, missed := 0 }
  let b := if own then { b with decided := true, length := len, next := b.last + len, number := num.getD b.number }
           else { b with early := some len, markNumber := num }
  let s := ({ s with beat := b } : State).phaseError err
  if s.beat.mode = .freerun then s.beatTo .locked else s

/-- A glitch (R24). Its distance is from this beat's own boundary while that is undecided and nearer, else from the next (Table 1.4; log 54). -/
def State.glitch (s : State) (src : BeatSrc) (e : Nat) : State :=
  let b := s.beat
  let p := if !b.decided && (((e : Int) - b.last).natAbs < ((e : Int) - b.next).natAbs) then b.last else b.next
  let s := s.inc .GLITCH_COUNT
  s.raise 0x4102 0xFF 0 (unsigned 64 (divRne ((e : Int) - p) 1000)) src.code (s.count ⟨.GLITCH_COUNT, 0, 0⟩)

/-- A source may give a new lock now (R19, R29): the source in use, or either one in auto mode. -/
def State.seeks (s : State) (src : BeatSrc) : Bool :=
  match s.set0 .BEAT_SOURCE with
  | 0 => src == .pin
  | 1 => src == .link
  | _ => true

/-- An edge in a transition beat (R30): the predicted first new edge ends it, locked. It is accepted against the instant that the lock predicts
for it, so its phase error is stored and corrects the beat that it begins (R25, R26; log 54). An edge of the source that has been left is no
glitch (R24). -/
def State.edgeInTransition (s : State) (src : BeatSrc) (e : Nat) (num : Option Nat) (tr : Transition) : State :=
  let w := s.jitter (meanPeriod tr.periods)
  if src = tr.source && decide (tr.predict ≤ e + w) && decide (e ≤ tr.predict + w) && decide (e ≥ tr.begin_ + meanPeriod tr.periods / 2) then
    let err := (e : Int) - tr.predict
    let b := { s.beat with trans := none, source := tr.source, periods := tr.periods, next := e, decided := true, missed := 0
                           early := some (edgeLength (meanPeriod tr.periods) err), markNumber := num, lastAccepted := some e }
    (({ s with beat := b } : State).phaseError err).beatTo .locked
  else if src = s.beat.source && (s.beat.mode = .locked || s.beat.mode = .freerun) then s.glitch src e else s

/-- An edge in SEEKING (R29): a lock makes the edge the first boundary. -/
def State.edgeInSeeking (s : State) (src : BeatSrc) (e : Nat) (num : Option Nat) (lock : Option (List Nat)) : State :=
  match lock with
  | some l =>
    if !s.seeks src then s else
    let s := if src = s.beat.source then s else s.switchEvent src 1
    let b := { s.beat with source := src, periods := l.take 8, next := e, decided := true, early := some (wholeNotches (meanPeriod (l.take 8)))
                           markNumber := num, lastAccepted := some e, missed := 0, phaseErr := 0 }
    ({ s with beat := b }).beatTo .locked
  | none => s

/-- An edge in SELF (R30): a new lock waits for the next own boundary. -/
def State.edgeInSelf (s : State) (src : BeatSrc) (lock : Option (List Nat)) : State :=
  if lock.isSome && s.seeks src && !(s.beat.newLock = some .pin) && s.beat.newLock != some src then
    let s := { s with beat := { s.beat with newLock := some src } }
    if src = s.beat.source then s else s.switchEvent src 1
  else s

/-- An edge in LOCKED or FREERUN (R20, R23, R24, R29): of the source in use, accepted or a glitch; of the other, a lock to change to. -/
def State.edgeInBeat (s : State) (src : BeatSrc) (e : Nat) (num : Option Nat) (lock : Option (List Nat)) : State :=
  if src = s.beat.source then
    match s.accepts e with
    | some (own, err, period) => s.acceptEdge e num own err period
    | none =>
      let s := s.glitch src e
      if s.beat.mode = .freerun && lock.isSome then { s with beat := { s.beat with newLock := some src } } else s
  else if src = .pin && s.set0 .BEAT_SOURCE == 2 && lock.isSome && s.beat.newLock = none then
    ({ s with beat := { s.beat with newLock := some .pin } }).switchEvent .pin 1
  else if s.beat.mode = .freerun && s.seeks src && lock.isSome && s.beat.newLock = none then
    ({ s with beat := { s.beat with newLock := some src } }).switchEvent src 1
  else s

/-- An edge that stands in its source's history. -/
def State.edgeSeen (s : State) (src : BeatSrc) (e : Nat) (num : Option Nat) : State :=
  match s.beat.trans, s.beat.mode with
  | some tr, _ => s.edgeInTransition src e num tr
  | none, .seeking => s.edgeInSeeking src e num (s.lockOf (s.beat.edges src))
  | none, .self => s.edgeInSelf src (s.lockOf (s.beat.edges src))
  | none, _ => s.edgeInBeat src e num (s.lockOf (s.beat.edges src))

/-- An edge or marker of a source, at the instant it places a boundary (R18, R23, R24, R29, R30). -/
def State.beatEdge (s : State) (src : BeatSrc) (e : Nat) (num : Option Nat) : State :=
  State.edgeSeen { s with beat := s.beat.addEdge src e } src e num

/-- BEAT_PIN_EDGE (R17): the edge is stamped to 1 ns (spec/15 R620). -/
def execBeatPinEdge (t : Nat) (s : State) : Host.Outcome State Fault Refusal :=
  let s := s.at t
  .next (s.beatEdge .pin (s.now / 1000 * 1000) none)

/-- A marker as a beat echo (R471): a SILENT port returns to UP after two consecutive markers. -/
def State.echo (s : State) (p : Nat) : State :=
  let x := s.port p
  let x := { x with marked := true, misses := 0, marks := x.marks + 1 }
  if x.link == 4 && x.marks ≥ 2 then
    (s.putPort p { x with link := x.up }).raise 0x1B01 0xFF (uidPort p)
  else s.putPort p x

/-- A BEAT_MARK frame on a port whose link is up (R18, R19, R21): an echo, and on BEAT_LINK_PORT a boundary of the link source. -/
def beatMarker (p number : Nat) (s : State) : State :=
  let x := s.port p
  if x.link < 2 then s else
  let s := s.incI .RX_BYTES p 39
  let s := if x.link == 5 then s else s.echo p
  if p == s.set0 .BEAT_LINK_PORT then
    let off := signed 32 (s.set0 .LINK_BEAT_OFFSET)
    let e := ((s.now : Int) - (x.delay : Int) * 1000 + off * 1000).toNat
    s.beatEdge .link e (some (number % 2 ^ 48))
  else s

/-- BEAT_MARKER. -/
def execBeatMarker (t port number _state : Nat) (s : State) : Host.Outcome State Fault Refusal :=
  if port < 23 then .next (beatMarker port number (s.at t)) else .fault .noSuchUnit

/-- In auto mode a missed boundary of the pin leaves it for a locked link (R19). -/
def State.autoToLink (s : State) : State :=
  if s.set0 .BEAT_SOURCE == 2 && s.beat.source = .pin && s.srcLocked .link && s.beat.newLock = none then
    ({ s with beat := { s.beat with newLock := some .link } }).switchEvent .link 1
  else s

/-- The acceptance window of this beat's boundary has closed with no edge (R28, R29): LOCKED goes to FREERUN, and auto mode leaves a pin
whose boundary is missed for a locked link (R19). -/
def missedBeat (s : State) : State :=
  let b := s.beat
  if (b.mode != .locked && b.mode != .freerun) || b.decided || b.trans.isSome || s.now < b.last + s.jitter s.periodEst then s else
  let first := if b.missed == 0 then b.number else b.firstMissed
  let s := { s with beat := { b with decided := true, missed := b.missed + 1, firstMissed := first } }
  (if b.mode = .locked then s.beatTo .freerun else s).autoToLink

/-- MISSED_BEAT. -/
def execMissedBeat (t : Nat) (s : State) : Host.Outcome State Fault Refusal := .next (missedBeat (s.at t))

/-- After the sixteenth consecutive missed beat, the next boundary is self-timed (R29). -/
def beatSelfTimed (s : State) : State :=
  if s.beat.mode = .freerun && s.beat.missed ≥ s.count ⟨.BEAT_FREERUN_LIMIT, 0, 0⟩ && s.now ≥ s.beat.next && s.beat.trans.isNone then s.beatTo .self
  else s

/-- BEAT_SELF_TIMED. -/
def execBeatSelfTimed (t : Nat) (s : State) : Host.Outcome State Fault Refusal := .next (beatSelfTimed (s.at t))

/-- 2,000 ms in SEEKING without a lock (R29). -/
def seekingTimeout (s : State) : State :=
  if s.beat.mode = .seeking && s.now ≥ s.beat.since + 2000000000000 then
    ({ s with beat := { s.beat with next := s.now } }).beatTo .self
  else s

/-- SEEKING_LOCK_TIMEOUT. -/
def execSeekingLockTimeout (t : Nat) (s : State) : Host.Outcome State Fault Refusal := .next (seekingTimeout (s.at t))

/-- The window around the predicted first new edge has closed (R30): the transition beat ends there in FREERUN, its boundary missed, which in
auto mode may leave the pin for a locked link (R19). -/
def transitionTimeout (s : State) : State :=
  match s.beat.trans with
  | none => s
  | some tr =>
    let close := tr.predict + s.jitter (meanPeriod tr.periods)
    if s.now < close then s else
    let b := { s.beat with trans := none, source := tr.source, periods := tr.periods, next := close, decided := true, missed := 1
                           firstMissed := s.beat.number + 1, early := some (wholeNotches (meanPeriod tr.periods)), lastAccepted := (s.beat.edges tr.source).head? }
    (({ s with beat := b } : State).beatTo .freerun).autoToLink

/-- TRANSITION_BEAT_TIMEOUT. -/
def execTransitionBeatTimeout (t : Nat) (s : State) : Host.Outcome State Fault Refusal := .next (transitionTimeout (s.at t))

/-! ### The boundary and the phases -/

/-- Begin a transition beat at this boundary (R30): it is expected to last to the first predicted new edge at least half a new period on. -/
def BeatS.beginTransition (b : BeatS) (src : BeatSrc) (l : List Nat) : BeatS :=
  let p := meanPeriod l
  let e := (b.edges src).headD b.last
  let k := (b.last + p / 2 - e + p - 1) / max 1 p
  let predict := e + max 1 k * p
  { b with trans := some ⟨src, l, b.last, predict⟩, source := src, newLock := none, length := predict - b.last, next := predict, decided := true }

/-- A change of source takes effect at this boundary, or a new lock of the source in use begins its transition beat (R20, R30): a source that is
locked is realigned to through a transition beat; one that is not places no boundary until an edge of it is accepted, and the boundary of the
change itself needs none (log 54). -/
def State.takeSource (s : State) (src : BeatSrc) : State :=
  match s.lockOf (s.beat.edges src) with
  | some l =>
    if src = s.beat.source || s.srcLocked src then { s with beat := s.beat.beginTransition src (l.take 8) }
    else { s with beat := { s.beat with source := src, decided := true, newLock := none } }
  | none => { s with beat := { s.beat with source := src, decided := s.beat.decided || src != s.beat.source, newLock := none } }

/-- A beat begins at the predicted boundary (R26, R30, R31, R42): its number, its length and the next prediction. -/
def State.beginBeat (s : State) : State :=
  let b := s.beat
  let est := if b.mode = .self then s.selfPeriod else s.periodEst
  let len := b.early.getD (wholeNotches est)
  let past := if b.length = 0 then s.notchesIn else 2 ^ 28
  let b := { b with number := b.nextNumber, count := b.count + 1, spent := b.spent + past, last := b.next, next := b.next + len, length := len, early := none, markNumber := none
                    numberSet := none, decided := b.early.isSome || b.mode == BeatMode.self, phase := .open_ }
  match b.newLock with
  | none => { s with beat := b }
  | some src => ({ s with beat := b } : State).takeSource src

/-- BEAT_SELF_PERIOD takes effect at the boundary that begins the beat it sizes (R31, R43). -/
def State.selfResize (s : State) : State :=
  if s.beat.mode = .self && s.beat.trans.isNone then
    let len := wholeNotches s.selfPeriod
    { s with beat := { s.beat with length := len, next := s.beat.last + len } }
  else s

/-- The source that the settings in force choose (R19). -/
def State.chosenSource (s : State) : BeatSrc :=
  match s.set0 .BEAT_SOURCE with
  | 0 => .pin
  | 1 => .link
  | _ => if s.srcLocked .pin then .pin else if s.beat.source = .link && s.srcLocked .link then .link else
      if s.beat.source = .link then .link else .pin

/-- A written change of source takes effect at this boundary (R20): through a transition beat when the new source is locked, else on the
period estimate until an edge of it is accepted. -/
def State.sourceCheck (s : State) (oldMode oldPort : Nat) : State :=
  let mode := s.set0 .BEAT_SOURCE
  let port := s.set0 .BEAT_LINK_PORT
  if mode == oldMode && port == oldPort then s else
  let src := s.chosenSource
  let s := if port != oldPort then { s with beat := { s.beat with linkEdges := [] } } else s
  if src = s.beat.source && (src = .pin || port == oldPort) then s else
  let s := s.switchEvent src 0
  if s.beat.mode = .seeking then { s with beat := { s.beat with source := src } } else
  ({ s with beat := { s.beat with decided := true } } : State).takeSource src

/-- Send markers on every trained port (R21). -/
def State.sendMarkers (s : State) : State :=
  ((List.range 23).filter (fun p => (s.port p).link ≥ 2)).foldl
    (fun (x : State) p => (x.incI .TX_BYTES p 39).emit (.marker p s.beat.number s.beat.mode.code)) s

/-- Cores whose step work still runs at notch 0, with the beat of their step (R39, Table 1.4). -/
def State.overruns (s : State) : List (Nat × Nat) → State
  | [] => s
  | (c, b) :: r =>
    let s := s.inc .STEP_OVERRUN_COUNT
    (s.raise 0x4104 0xFF (s.uidCore c) b (s.count ⟨.STEP_OVERRUN_COUNT, 0, 0⟩)).overruns r

/-- A version of a slot is in the step: a request pinned to it is, or one that drafts from it (R407, R423). -/
def State.verInStep (s : State) (n : Nat) (v : Version) : Bool :=
  !(s.inStep (fun r => (r.slot == n && r.version == v.number) || (r.draftSlot == n && r.draftVersion == v.number))).isEmpty

/-- Cores that a version's step work lies on: those of its tiles, and those of its digital-tier layers (R322). -/
def State.coresOf (s : State) (n : Nat) (v : Version) : List Nat :=
  v.tiles.map (fun t => t.eng / 16) ++ (if v.shards.any (fun h => h.kind == 3) then s.digitalCores n v else [])

/-- Cores with work in the step. -/
def State.stepCores (s : State) : List Nat :=
  ((s.versions.filter (fun p => s.verInStep p.1 p.2.2)).flatMap (fun p => s.coresOf p.1 p.2.2)).eraseDups

/-- The run phase starts at OPEN_END, or when a late batch build ends (R36, R37). -/
def runPhaseStart (s : State) : State :=
  if s.beat.phase = .open_ && (s.notchNow ≥ s.set0 .OPEN_END) then
    let more := s.stepCores.filter (fun c => !s.beat.busyCores.contains c)
    { s with beat := { s.beat with phase := .run, busy := s.beat.busy ++ more.map (fun c => (c, s.beat.number)) } }
  else s

/-- RUN_PHASE_START. -/
def execRunPhaseStart (t : Nat) (s : State) : Host.Outcome State Fault Refusal := .next (runPhaseStart (s.at t))

/-- Diagnoses of engines begin, one after another (R200). -/
def State.startDiags (s : State) : List Nat → State
  | [] => s
  | e :: r => (s.startDiag e).startDiags r

/-- Diagnosis of the flagged columns of cores that are in their quiet window begins (R38, R200). -/
def State.quietDiags (s : State) : State := s.startDiags ((s.eng.map Prod.fst).filter (fun e => s.quietFor (e / 16)))

/-- The quiet window opens at QUIET_START (R37). A core whose step work still runs waits with its quiet tasks (R38). -/
def quietStart (s : State) : State :=
  if (s.beat.phase = .run || s.beat.phase = .open_) && (s.notchNow ≥ s.set0 .QUIET_START) then
    State.quietDiags { s with beat := { s.beat with phase := .quiet } }
  else s

/-- QUIET_WINDOW_START. -/
def execQuietWindowStart (t : Nat) (s : State) : Host.Outcome State Fault Refusal := .next (quietStart (s.at t))

/-- A core's step work ends (R38), and in the quiet window its quiet tasks begin. Work of an earlier step ends first, and the core then joins the step
that runs (R39). -/
def stepWorkEnd (core : Nat) (s : State) : State :=
  let late := s.beat.busy.any (fun x => x.1 == core && x.2 != s.beat.number)
  let rest := s.beat.busy.filter (fun x => x.1 != core)
  let joins := late && (s.beat.phase = .run || s.beat.phase = .quiet) && s.stepCores.contains core
  State.quietDiags { s with beat := { s.beat with busy := if joins then rest ++ [(core, s.beat.number)] else rest } }

/-- STEP_WORK_END. -/
def execStepWorkEnd (t core : Nat) (s : State) : Host.Outcome State Fault Refusal :=
  if core < s.numCores then .next (stepWorkEnd core (s.at t)) else .fault .noSuchUnit

end Sys2Proof.Machine
end

