-- ==== Sys2Proof/Machine/SlotLoad.lean ====
section
/-! DEFINITION. Machine/SlotLoad.lean: manifests, placement, shard requests and the checks of arriving shards (spec/08 R304–R322). -/
namespace Sys2Proof.Machine
open Sys2Proof

/-! ### Manifests -/

/-- The fields of a 128-byte shard header (Table 8.2). -/
def parseHdr (b : Bytes) : ShardHdr :=
  { kind := leAt b 5 1, fmt := leAt b 6 1, plan := leAt b 7 1, index := leAt b 20 2, layer := leAt b 24 2, flags := leAt b 26 2
    rows := leAt b 28 4, cols := leAt b 32 4, rowOff := leAt b 36 4, colOff := leAt b 40 4, gain := leAt b 44 1, act := leAt b 45 1
    frac := leAt b 46 1, rank := leAt b 47 1, dataLen := leAt b 48 4, scaleLen := leAt b 52 4, payLen := leAt b 56 4, bytes := b.take 128 }

/-- MODEL_ID of a header. -/
def hdrModel (b : Bytes) : Nat := leAt b 8 8
/-- VERSION of a header. -/
def hdrVersion (b : Bytes) : Nat := leAt b 16 4
/-- SHARD_COUNT of a header. -/
def hdrCount (b : Bytes) : Nat := leAt b 22 2
/-- DIGEST of a header. -/
def hdrDigest (b : Bytes) : Bytes := (b.drop 80).take 48
/-- Every byte of a list is 0. -/
def allZero (b : Bytes) : Bool := b.all (· == 0)

/-- EXACT_JOIN. -/
def ShardHdr.exactJoin (h : ShardHdr) : Bool := h.flags.testBit 0
/-- EXACT_TIER. -/
def ShardHdr.exactTier (h : ShardHdr) : Bool := h.flags.testBit 1

/-- The digest of a shard: SHA-384 of header bytes 0–79 and the payload (R307). -/
def shardDigest (hdr pay : Bytes) : Bytes := sha384 (hdr.take 80 ++ pay)

/-- The manifest that a SLOT_MANIFEST value holds: header and payload. -/
def manifestOf (b : Bytes) : Bytes := b.take (128 + leAt b 56 4)

/-- The headers of a manifest's entries, in order. -/
def manifestHdrs (m : Bytes) : List ShardHdr :=
  (List.range (hdrCount m - 1)).map (fun i => parseHdr ((m.drop (128 * (i + 1))).take 128))

/-- Table 8.3, row 1. -/
def manifestHeaderOk (m : Bytes) : Bool :=
  let n := hdrCount m
  leAt m 0 4 == 0x44524853 && leAt m 4 1 == 1 && leAt m 5 1 == 0 && leAt m 20 2 == 0 && decide (1 ≤ n) && decide (n ≤ 2048) &&
  leAt m 56 4 == 128 * (n - 1) && hdrDigest m == shardDigest m ((m.drop 128).take (128 * (n - 1))) && hdrModel m != 0 &&
  decide (1 ≤ hdrVersion m) && decide (hdrVersion m ≤ 0xFFFFFFFE) && allZero ((m.drop 6).take 2) && allZero ((m.drop 24).take 32) &&
  allZero ((m.drop 60).take 20)

/-- Bytes of a block of a format, 0 for an unknown one. -/
def blockBytes (fmt : Nat) : Nat := match fmtRow fmt with | some r => r.bytes | none => 0
/-- A format carries a scale plane. -/
def isScaled (fmt : Nat) : Bool := match fmtRow fmt with | some r => r.scaled | none => false

/-- DATA_LEN, SCALE_LEN and PAYLOAD_LEN that ROWS, COLS and FORMAT give (R308). -/
def ShardHdr.lengths (h : ShardHdr) : Nat × Nat × Nat :=
  let bb := blockBytes h.fmt
  let sc (n : Nat) : Nat := if isScaled h.fmt then n else 0
  if h.kind == 4 then
    let na := h.rank * ((h.rows + 31) / 32)
    let nb := h.cols * ((h.rank + 31) / 32)
    let o1 := up64 (na * bb)
    let o2 := up64 (o1 + sc na)
    let o3 := up64 (o2 + nb * bb)
    (na * bb + nb * bb, sc na + sc nb, if isScaled h.fmt then o3 + sc nb else o2 + nb * bb)
  else
    let n := h.cols * h.blocksPer
    (n * bb, sc n, if isScaled h.fmt then up64 (n * bb) + n else n * bb)

/-- Every field of an entry inside its range of Table 8.2 and agreeing with the manifest (Table 8.3, row 2). -/
def entryOk (m : Bytes) (all : List ShardHdr) (pos : Nat) (h : ShardHdr) : Bool :=
  let b := h.bytes
  let plan1 := ((all.find? (fun x => x.kind == 1 && x.layer == h.layer)).map (·.plan)).getD 1
  leAt b 0 4 == 0x44524853 && leAt b 4 1 == 1 && h.index == pos && hdrModel b == hdrModel m && hdrVersion b == hdrVersion m &&
  hdrCount b == hdrCount m && allZero ((b.drop 60).take 20) && decide (1 ≤ h.kind) && decide (h.kind ≤ 4) && (fmtRow h.fmt).isSome &&
  (if h.kind == 1 then h.plan == 1 || h.plan == 2 || h.plan == 4 else h.plan == 0) && decide (h.layer ≤ 4095) && decide (h.flags < 4) &&
  (if h.kind ≤ 2 then h.rowOff % 512 == 0 else h.rowOff == 0) &&
  (if h.kind == 1 then h.colOff % outsOf h.plan == 0 else if h.kind == 2 then h.colOff % outsOf plan1 == 0 else h.colOff == 0) &&
  (decide (h.gain ≤ 3) || h.gain == 0xFF) && (h.act == 0 || h.act == 1 || h.act == 2 || h.act == 5 || h.act == 6) &&
  (decide (h.frac ≤ 56) || h.frac == 0xFF) && (if h.kind == 4 then decide (1 ≤ h.rank) && decide (h.rank ≤ 64) else h.rank == 0) &&
  h.lengths == (h.dataLen, h.scaleLen, h.payLen)

/-- Rows and columns that two shards share, as an area. -/
def ShardHdr.shared (a b : ShardHdr) : Nat :=
  (min (a.rowOff + a.rows) (b.rowOff + b.rows) - max a.rowOff b.rowOff) * (min (a.colOff + a.cols) (b.colOff + b.cols) - max a.colOff b.colOff)

/-- Layers agree: engine shards of a layer do not overlap, EXACT_JOIN is the same on every shard of a layer, a digital copy covers
only rows and columns of engine shards of its layer (Table 8.3, row 3). -/
def layersOk (l : List ShardHdr) : Bool :=
  l.all (fun h =>
    l.all (fun x => x.layer != h.layer || x.exactJoin == h.exactJoin) &&
    (h.kind != 1 || l.all (fun x => x.index == h.index || x.kind != 1 || x.layer != h.layer || x.shared h == 0)) &&
    (h.kind != 2 || sumNat ((l.filter (fun x => x.kind == 1 && x.layer == h.layer)).map h.shared) == h.rows * h.cols))

/-- Formats and plans permitted (Table 8.3, row 4): R136, R164, and exact-tier shards are digital-tier layers. -/
def formatsOk (l : List ShardHdr) : Bool :=
  l.all (fun h =>
    (h.kind != 1 || planLegal h.fmt h.plan) &&
    (h.act == 0 || h.act == 1 || h.act == 2 || h.kind == 4 || h.fmt == 0x12 || h.fmt == 0x13) &&
    (!h.exactTier || h.kind == 3))

/-! ### Placement (R321) -/

/-- Rows of a shard's tiles in one 8,192-row band: the row offsets of its 512-row tiles (R304). -/
def bandRows (h : ShardHdr) (band : Nat) : List Nat :=
  ((List.range 16).map (fun i => 8192 * band + 512 * i)).filter (fun r => decide (r + 512 > h.rowOff) && decide (r < h.rowOff + h.rows))

/-- The bands of a shard in the order of R321: column band offsets, then 8,192-row bands. -/
def shardBands (h : ShardHdr) : List (Nat × Nat) :=
  let w := outsOf h.plan
  ((List.range ((h.cols + w - 1) / w)).map (fun i => h.colOff + w * i)).flatMap (fun c =>
    ((List.range ((h.rowOff + h.rows + 8191) / 8192)).filter (fun b => !(bandRows h b).isEmpty)).map (fun b => (c, b)))

/-- Engines that hold a tile of a version, other than the versions of one slot that a replacement frees. -/
def State.busyEngines (s : State) (skip : Nat → Which → Bool) : List Nat :=
  (s.versions.filter (fun p => !skip p.1 p.2.1)).flatMap (fun p => p.2.2.tiles.map (·.eng))

/-- The engines of a core on which a tier may be placed: idle, the tier GOOD and not taken by placements so far (R321). -/
def State.placeable (s : State) (busy : List Nat) (taken : List (Nat × Nat)) (core tier : Nat) : List Nat :=
  ((List.range 16).map (fun i => 16 * core + i)).filter (fun e =>
    !busy.contains e && !taken.contains (e, tier) && ((s.engine e).tier tier).health == .good)

/-- A tier and engines for a chunk of `n` tiles (R321). -/
def State.findPlace (s : State) (cores busy : List Nat) (taken : List (Nat × Nat)) (n : Nat) : Option (Nat × List Nat) :=
  cores.findSome? (fun k => [0, 1, 2, 3].findSome? (fun t =>
    let e := s.placeable busy taken k t
    if n ≤ e.length then some (t, e.take n) else none))

/-- Place one chunk: its tiles. -/
def chunkTiles (h : ShardHdr) (chunk : Nat) (c : Nat) (rows : List Nat) (tier : Nat) (engs : List Nat) : List Tile :=
  (rows.zip engs).map (fun p =>
    { eng := p.2, tier, shard := h.index, layer := h.layer, rowOff := p.1, colOff := c, rows := min 512 (h.rowOff + h.rows - p.1)
      cols := min (outsOf h.plan) (h.colOff + h.cols - c), plan := h.plan, chunk })

/-- Place bands one after another; none when one finds no place. -/
def State.placeBands (s : State) (cores busy : List Nat) : List (ShardHdr × Nat × Nat) → List Tile → Nat → Option (List Tile)
  | [], ts, _ => some ts
  | (h, c, b) :: r, ts, n =>
    let rows := bandRows h b
    match s.findPlace cores busy (ts.map (fun t => (t.eng, t.tier))) rows.length with
    | none => none
    | some (tier, engs) => s.placeBands cores busy r (ts ++ chunkTiles h n c rows tier engs) (n + 1)

/-- Place the engine shards of a version (R321). -/
def State.place (s : State) (owner : Nat) (skip : Nat → Which → Bool) (l : List ShardHdr) : Option (List Tile) :=
  s.placeBands (s.quotaCores owner) (s.busyEngines skip)
    ((l.filter (fun h => h.kind == 1)).flatMap (fun h => (shardBands h).map (fun b => (h, b.1, b.2)))) [] 0

/-! ### Memory of a version -/

/-- Bytes of a version's digital copies and digital-tier layers. -/
def heldBytes (l : List ShardHdr) : Nat := sumNat ((l.filter (fun h => h.kind == 2 || h.kind == 3)).map (·.payLen))
/-- Bytes of the staging pages that hold its engine shards while a slot drains (R340). -/
def stageBytes (l : List ShardHdr) : Nat := sumNat ((l.filter (fun h => h.kind == 1)).map (·.payLen))

/-- A manifest's checks (R311): 0, or the LOAD_FAIL_CODE of the first failing row. `skip` names the versions that a placement may
take as freed; `staged` says that engine shards are staged. -/
def State.manifestCode (s : State) (n : Nat) (m : Bytes) (skip : Nat → Which → Bool) (staged : Bool) : Nat :=
  let x := s.slot n
  let l := manifestHdrs m
  if !manifestHeaderOk m then 1
  else if !((l.zip (List.range l.length)).all (fun p => entryOk m l (p.2 + 1) p.1)) then 1
  else if !layersOk l then 1
  else if !formatsOk l then 2
  else match s.place x.owner skip l with
  | none => 3
  | some ts =>
    if !(s.memFits x.owner (heldBytes l + (if staged then stageBytes l else 0))) || !(s.devFits .images (ts.length * imageBytes)) then 4
    else
      let v := hdrVersion m
      if (x.cur.any (fun c => c.number == v)) || (x.old.any (fun c => c.number == v)) then 10 else 0

/-- A version as a manifest describes it, with its placement. -/
def newVersion (m : Bytes) (ts : List Tile) : Version :=
  let l := manifestHdrs m
  { number := hdrVersion m, model := hdrModel m, manifest := m, shards := l, tiles := ts
    reqs := l.map (fun h => { index := h.index, reason := 0 })
    nextChunk := (ts.map (fun t => t.chunk + 1)).foldl max 0 }

/-! ### Slot states -/

/-- Values of slot states (Table 8.8). -/
def SlotState.code : SlotState → Nat
  | .empty => 0 | .loading => 1 | .programming => 2 | .verifying => 3 | .ready => 4 | .serving => 5 | .degraded => 6 | .draining => 7
  | .fault => 8

/-- Values of SWAP_STATE (Table 8.9). -/
def SwapState.code : SwapState → Nat
  | .none => 0 | .loading => 1 | .programming => 2 | .ready => 3 | .cutover => 4

/-- A slot in which requests run: SERVING or DEGRADED. -/
def SlotState.runs : SlotState → Bool
  | .serving => true
  | .degraded => true
  | _ => false

/-- A draft slot leaves SERVING and DEGRADED: every request that names it drafts no more (spec/10 R435). -/
def State.draftsLost (s : State) (n : Nat) : State :=
  { s with srv := { s.srv with reqs := s.srv.reqs.map (fun x => (x.1, if x.2.draftSlot == n then { x.2 with draftLen := 0 } else x.2)) } }

/-- A slot changes state (event 0x1801). -/
def State.slotTo (s : State) (n : Nat) (st : SlotState) : State :=
  let x := s.slot n
  if x.state = st then s else
  let s := if x.state.runs && !st.runs then s.draftsLost n else s
  let s := s.funcKeep (.slot n)
  (s.putSlot n { x with state := st, readyFor := 0 }).raise 0x1801 x.owner 0 n st.code x.state.code

/-- Write a slot's record over the copy with the lower sequence number (R346). -/
def State.writeRecord (s : State) (n : Nat) : State :=
  let x := s.slot n
  let seqOf (r : Option SlotRec) : Nat := match r with | some r => r.seq | none => 0
  let r : SlotRec := { seq := max (seqOf x.recA) (seqOf x.recB) + 1, state := x.state, enable := s.enabled (.slot n), owner := x.owner
                       share := s.setI .SLOT_SHARE n, source := s.setI .SLOT_SOURCE n, swap := s.setI .SWAP_MODE n
                       cur := x.cur, pend := x.pend }
  let s := s.putSlot n (if seqOf x.recA ≤ seqOf x.recB then { x with recA := some r } else { x with recB := some r })
  s.note x.owner (.slot n x.state.code r.enable x.owner r.share r.source r.swap ((x.cur.map (·.model)).getD 0) ((x.cur.map (·.number)).getD 0)
    ((x.cur.map (·.manifest)).getD []))

/-- Free a version: its reference images, the memory of its shards, its tier programs (R319, R502). The tiles go with it. -/
def State.freeVersion (s : State) (n : Nat) (v : Version) (staged : Bool) : State :=
  let x := s.slot n
  let s := s.devGive .images (v.tiles.length * imageBytes)
  let s := s.memGive x.owner (heldBytes v.shards + (if staged then stageBytes v.shards else 0))
  let st := s.fab.held.filter (fun p => p.1 == n && p.2.1 == v.number)
  let s := s.devGive .store (sumNat (st.map (fun p => p.2.2.2.length)))
  { s with slots := { s.slots with programs := s.slots.programs.filter (fun p => !(v.tiles.any (fun t => t.eng == p.eng && t.tier == p.tier))) }
           fab := { s.fab with held := s.fab.held.filter (fun p => !(p.1 == n && p.2.1 == v.number))
                               flows := s.fab.flows.filter (fun f => match f.kind with | .shardReq m _ => m != n | _ => true) } }

/-! ### The request ring -/

/-- A function's request ring. -/
def State.ring (s : State) (fn : Nat) : RingS := mapGet s.slots.rings fn {}
/-- Replace it. -/
def State.putRing (s : State) (fn : Nat) (r : RingS) : State := { s with slots := { s.slots with rings := mapSet s.slots.rings fn r } }

/-- Entries of a ring not yet consumed; a count ahead of the entries written counts every one as consumed (R312). -/
def RingS.unconsumed (r : RingS) (len : Nat) : Nat :=
  let d := (r.written + 65536 - r.cons % 65536) % 65536
  if d > len then 0 else d

/-- A request ring entry (Table 8.4). -/
def ringSlotBytes (n len slot reason index version attempt : Nat) : Bytes :=
  let phase := 1 - n / len % 2
  leBytes 1 slot ++ leBytes 1 reason ++ leBytes 2 index ++ leBytes 4 version ++ leBytes 1 attempt ++ zeros 3 ++
    leBytes 4 (n % 2 ^ 31 + 2 ^ 31 * phase)

/-- Requests of a slot: the version that asks for shards, and where it stands. -/
def SlotS.asking (x : SlotS) : List (Which × Version) :=
  (match x.cur with | some v => [(Which.cur, v)] | none => []) ++ (match x.pend with | some v => [(Which.pend, v)] | none => [])

/-- Change the request of a shard of a version of a slot. -/
def State.mapReq (s : State) (n version index : Nat) (f : ShardReq → ShardReq) : State :=
  let g (v : Version) : Version :=
    if v.number == version then { v with reqs := v.reqs.map (fun r => if r.index == index then f r else r) } else v
  let x := s.slot n
  s.putSlot n { x with cur := x.cur.map g, pend := x.pend.map g }

/-- Write the entries that wait, in order, while the ring has room, signalling the vector after each (R312). -/
def State.drainRing (s : State) (fn : Nat) : Nat → State
  | 0 => s
  | k + 1 =>
    let r := s.ring fn
    let len := s.setK .REQ_RING_LEN fn
    match r.waiting with
    | [] => s
    | (slot, reason, index, version, attempt) :: rest =>
      if r.unconsumed len ≥ len || !s.kwDma fn then s else
      let a := s.setK .REQ_RING_ADDR fn + 16 * (r.written % len)
      let s := s.dmaWrite fn a (ringSlotBytes r.written len slot reason index version attempt)
      let s := s.putRing fn { r with written := r.written + 1, waiting := rest }
      let s := s.emit (.msix fn (s.setK .REQ_RING_VECTOR fn))
      let s := if reason < 0x80 then s.mapReq slot version index (fun q => { q with beat := some s.beatMark }) else s
      s.drainRing fn k

/-- Put an entry into a function's request ring (R312); slots loaded over the fabric use no ring (R320). -/
def State.ringPush (s : State) (slot reason index version attempt : Nat) : State :=
  if s.setI .SLOT_SOURCE slot != 0xFFFF then s else
  let fn := (s.slot slot).owner
  let r := s.ring fn
  let s := s.putRing fn { r with waiting := r.waiting ++ [(slot, reason, index, version, attempt)] }
  s.drainRing fn (r.waiting.length + 1)

/-- Issue one request: a ring entry, or a SHARD_REQ frame to SLOT_SOURCE (R312, R320, R469). A frame with no live route is not sent:
the shard is missing until its SHARD_TIMEOUT (R463). -/
def State.issueReq (s : State) (n : Nat) (v : Version) (q : ShardReq) : State :=
  let s := s.mapReq n v.number q.index (fun r => { r with issued := true })
  let src := s.setI .SLOT_SOURCE n
  if src == 0xFFFF then s.ringPush n q.reason q.index v.number q.attempt
  else
    let s := s.mapReq n v.number q.index (fun r => { r with beat := some s.beatMark })
    let s := { s with fab := { s.fab with flows := s.fab.flows.filter (fun (f : Flow) => f.kind != FlowKind.shardReq n q.index) } }
    (s.startFlow (.shardReq n q.index) src (s.slot n).owner
      [⟨0x20, 0, leBytes 8 v.model ++ leBytes 4 v.number ++ leBytes 2 q.index ++ leBytes 1 q.attempt, .none⟩]).1

/-- Issue a version's requests in ascending SHARD_INDEX while fewer than SHARD_INFLIGHT are outstanding (R315). -/
def State.issueVer (s : State) (n : Nat) (v : Version) : State :=
  let out := sumNat ((s.slot n).asking.map (fun p => (p.2.reqs.filter (·.issued)).length))
  ((v.reqs.filter (fun q => !q.issued)).take (s.set0 .SHARD_INFLIGHT - out)).foldl (fun x q => x.issueReq n v q) s

/-- Issue the requests of a slot. -/
def State.issueSlot (s : State) (n : Nat) : State := ((s.slot n).asking).foldl (fun x p => x.issueVer n p.2) s

/-! ### Ends of loads -/

/-- The state of a complete slot: SERVING or DEGRADED while its function is ON, else READY (Table 8.8, R334, R345); only DEPLOYED serves (spec/12
Table 12.8). -/
def State.serveState (s : State) (n : Nat) : SlotState :=
  let x := s.slot n
  if (s.func (.slot n)).state != .on || s.ward.lc != 3 then .ready
  else match x.cur with
    | none => .empty
    | some v =>
      if v.tiles.any (fun t => !t.replacing && s.imageRecompute v t) || v.badHeld.any (fun i => v.shards.any (fun h => h.index == i && h.kind == 3))
      then .degraded else .serving

/-- A load has failed or is abandoned (R319, R332, R341): its tiles and pages are freed. A pending version leaves the current one
serving; a first version, one placed after a drain, or power-up checks leave the slot FAULT, or EMPTY when abandoned. `report` is
false for an ABORT. -/
def State.loadFail (s : State) (n code : Nat) (report : Bool := true) : State :=
  let x := s.slot n
  let pendRun := x.phase = .beside || x.phase = .drain
  match (if pendRun then x.pend else x.cur) with
  | none => s
  | some v =>
    let s := s.freeVersion n v (x.phase = .drain)
    let fn := x.owner
    let r := s.ring fn
    let s := s.putRing fn { r with waiting := r.waiting.filter (fun e => !(e.1 == n && e.2.1 < 0x80)), puts := r.puts.filter (fun p => p.slot != n) }
    let s := s.putSlot n (if pendRun then { s.slot n with pend := none, swapSt := .none, phase := .none, fail := code, recorded := false }
                          else { s.slot n with cur := none, phase := .none, fail := code })
    let s := s.ringPush n 0x82 0xFFFF v.number code
    let s := if pendRun then (if x.phase = .drain then s.slotTo n (s.serveState n) else s) else s.slotTo n (if report then .fault else .empty)
    if report then s.raise 0x8801 fn 0 n v.number code else s

/-- A request fails an attempt: it is made again with the reason, or the load fails past 1 + SHARD_RETRY_MAX attempts (R317, R318).
A shard asked for again outside a load fails no load: its request is dropped (log 26). -/
def State.retryReq (s : State) (n : Nat) (v : Version) (q : ShardReq) (reason : Nat) : State :=
  let x := s.slot n
  let s := s.putSlot n { x with retries := x.retries + 1 }
  if q.attempt + 1 > 1 + s.set0 .SHARD_RETRY_MAX then
    if x.phase = .none then
      let drop (v' : Version) : Version := if v'.number == v.number then { v' with reqs := v'.reqs.filter (fun r => r.index != q.index) } else v'
      let y := s.slot n
      s.putSlot n { y with cur := y.cur.map drop }
    else s.loadFail n (if reason == 4 then 6 else 5)
  else
    let q' := { q with reason, attempt := q.attempt + 1, issued := true, beat := none }
    let s := s.mapReq n v.number q.index (fun _ => q')
    s.issueReq n v q'

/-! ### Arriving shards -/

/-- What the checks of R316 find. -/
inductive ShardCheck where
  | bad (reason : Nat) | code7 | ok (pay : Bytes)
  deriving DecidableEq, Repr

/-- Blocks of a shard with the elements used of each: rows run out in the last block of an output (R143, R308). -/
def blocksOk (h : ShardHdr) (pay : Bytes) : Bool :=
  (List.range h.cols).all (fun j => (List.range h.blocksPer).all (fun b =>
    (shardBlock h pay (h.rowOff + 32 * b) (h.colOff + j)).isSome))

/-- Checks 1 to 5 of R316 on the bytes read, with the manifest entry; `exact` says that its layer is in exact join. -/
def shardCheck (exact : Bool) (h : ShardHdr) (buf : Option Bytes) (len : Nat) : ShardCheck :=
  match buf with
  | none => .bad 3
  | some b =>
    let pay := b.drop 128
    if len != 128 + h.payLen || b.length != 128 + h.payLen then .bad 3
    else if b.take 128 != h.bytes then .bad 2
    else if shardDigest b pay != hdrDigest h.bytes then .bad 1
    else if !blocksOk h pay then .bad 3
    else if exact && (List.range (h.cols * h.blocksPer)).any (fun i =>
        let c := scaleOf (pay.getD (up64 h.dataLen + i) 0x80).toNat
        isScaled h.fmt && c != -128 && c % 4 != 0) then .code7
    else .ok pay

/-- A byte of digits: element 2i in the low half, element 2i + 1 in the high half (R142, R305). -/
def packDigits : List Int → Bytes
  | a :: b :: r => BitVec.ofNat 8 (unsigned 4 a + 16 * unsigned 4 b) :: packDigits r
  | [a] => [BitVec.ofNat 8 (unsigned 4 a)]
  | [] => []

/-- The digit of a column pair in a row of a tile, from the aligned integers of its outputs: S2 repeats a column, S4 drives three copies of
hi and one of lo (Table 5.2, R134). -/
def columnDigit (plan c : Nat) (row : Nat) (outs : List (List Int)) : Int :=
  let d := (outs.getD (outOfColumn plan c) []).getD row 0
  if plan == 4 then (if c < 384 then hiDigit d else loDigit d) else d

/-- The images of a chunk's tiles, aligned over the chunk, and the digits that alignment turned into 0 (R154–R156, R305). -/
def chunkImages (h : ShardHdr) (pay : Bytes) (ts : List Tile) : List Bytes × Nat :=
  let cols := ((ts.head?).map (·.cols)).getD 0
  let groups := (List.range cols).map (fun j =>
    ts.flatMap (fun t => (List.range ((t.rows + 31) / 32)).map (fun b =>
      (shardBlock h pay (t.rowOff + 32 * b) (t.colOff + j)).getD ⟨-128, List.replicate 32 0⟩)))
  let al := groups.map alignGroup
  let starts := (List.range ts.length).map (fun i => sumNat ((ts.take i).map (fun t => (t.rows + 31) / 32)))
  let img (t : Tile) (st : Nat) : Bytes :=
    let outs := al.map (fun a => (((a.2.drop st).take ((t.rows + 31) / 32)).flatten).take t.rows)
    packDigits ((List.range 512).flatMap (fun i => (List.range 512).map (fun c => columnDigit t.plan c i outs))) ++
      (List.range 512).map (fun c => BitVec.ofNat 8 (unsigned 8 (match al[outOfColumn t.plan c]? with | some a => a.1 | none => -128)))
  ((ts.zip starts).map (fun p => img p.1 p.2), sumNat (groups.map alignZeroed))

/-- A tile with the reference image made from its shard; the digest and the column codes go to the slot record (R305, R306). -/
def Tile.withImage (t : Tile) (img : Bytes) : Tile :=
  { t with image := img, codes := img.drop digitBytes, digest := sha384 img, imageBad := false, badNext := false }

/-- Give the tiles of a shard that wait for it their reference images; ALIGN_DIGITS_ZEROED is counted for the owner (R156). -/
def State.imageTiles (s : State) (n : Nat) (w : Which) (h : ShardHdr) (pay : Bytes) : State :=
  match (s.slot n).ver w with
  | none => s
  | some v =>
    let mine := v.tiles.filter (fun t => t.shard == h.index)
    let chunks := (mine.map (·.chunk)).eraseDups
    let made := chunks.map (fun c =>
      let ts := mine.filter (fun t => t.chunk == c && !t.replacing)
      (ts, chunkImages h pay ts))
    let pairs := made.flatMap (fun m => m.1.zip m.2.1)
    let fill (t : Tile) : Tile :=
      match pairs.find? (fun p => p.1.chunk == t.chunk && p.1.rowOff == t.rowOff && p.1.colOff == t.colOff) with
      | some p => if t.state = .waiting && (t.image.isEmpty || t.imageBad) then t.withImage p.2 else t
      | none => t
    (s.mapVer n w (fun v => { v with tiles := v.tiles.map fill })).incK .ALIGN_DIGITS_ZEROED (s.slot n).owner (sumNat (made.map (fun m => m.2.2)))

/-- A shard's request is no longer outstanding. -/
def Version.unask (v : Version) (index : Nat) : Version :=
  { v with reqs := v.reqs.filter (fun q => q.index != index)
           accepted := if v.accepted.contains index then v.accepted else v.accepted ++ [index] }

/-- Keep an accepted shard in the shard store, where the pool has a free page (R470, R498). -/
def State.storeShard (s : State) (n : Nat) (v : Version) (index : Nat) (bytes : Bytes) : State :=
  if s.set0 .FAB_SHARD_STORE == 1 && s.devFits .store bytes.length then
    let s := s.devTake .store bytes.length
    { s with fab := { s.fab with held := s.fab.held.filter (fun p => !(p.1 == n && p.2.1 == v.number && p.2.2.1 == index)) ++ [(n, v.number, index, bytes)] } }
  else s

/-- A version is complete: every shard accepted (R319): REASON 0x81, once, and the slot goes on to programming. -/
def State.allAccepted (s : State) (n : Nat) (w : Which) : State :=
  let x := s.slot n
  match x.ver w with
  | none => s
  | some v =>
    if v.allIn || !v.reqs.isEmpty || x.phase = .verify then s else
    let s := s.mapVer n w (fun v => { v with allIn := true })
    let s := s.ringPush n 0x81 0xFFFF v.number 0
    match x.phase with
    | .beside => s.putSlot n { s.slot n with swapSt := .programming }
    | .first => if v.tiles.isEmpty then s else s.slotTo n .programming
    | _ => s

/-- Tiles whose tier a run has committed are ready (R328). -/
def State.readyTiles (s : State) (n : Nat) : State :=
  let f (v : Version) : Version := { v with tiles := v.tiles.map (fun t =>
    if t.state = .awaitCal && ((s.engine t.eng).tier t.tier).trimmed then { t with state := .ready, again := false } else t) }
  let x := s.slot n
  s.putSlot n { x with cur := x.cur.map f, pend := x.pend.map f, old := x.old.map f }

/-- A version is complete: every shard accepted and every tile ready (R330). -/
def Version.complete (v : Version) : Bool := v.reqs.isEmpty && v.tiles.all (fun t => t.replacing || t.state == .ready)

/-- SLOT_READY (R330, R348) and the record of Table 8.9 step 3. -/
def State.readySlot (s : State) (n : Nat) : State :=
  let x := s.slot n
  match x.phase with
  | .beside =>
    match x.pend with
    | some v =>
      if v.complete && !x.recorded then (s.putSlot n { x with swapSt := .ready, recorded := true }).writeRecord n else s
    | none => s
  | .first | .placed | .verify =>
    match x.cur with
    | some v =>
      if v.complete then ((s.putSlot n { x with phase := .none }).slotTo n .ready).writeRecord n else s
    | none => s
  | _ => s

/-- Slots whose last tile has become ready (R328, R330). -/
def State.slotsReady (s : State) : State := (s.slots.slots.map Prod.fst).foldl (fun (x : State) n => (x.readyTiles n).readySlot n) s

/-- A shard is accepted (R319): reported, stored, and an engine shard's tiles get their images unless it is staged for a drain. -/
def State.acceptShard (s : State) (n : Nat) (w : Which) (v : Version) (h : ShardHdr) (pay : Bytes) : State :=
  let staged := (s.slot n).phase = .drain && h.kind == 1
  let s := s.mapVer n w (fun v =>
    let v := v.unask h.index
    if h.kind == 2 || h.kind == 3 then
      { v with held := v.held.filter (fun p => p.1 != h.index) ++ [(h.index, pay)], badHeld := v.badHeld.filter (· != h.index) }
    else if staged then { v with staged := v.staged.filter (fun p => p.1 != h.index) ++ [(h.index, pay)] } else v)
  let s := s.ringPush n 0x80 h.index v.number 0
  let s := s.storeShard n v h.index (h.bytes ++ pay)
  let s := if h.kind == 1 && !staged then s.imageTiles n w h pay else s
  (s.allAccepted n w |>.readySlot n).issueSlot n

/-- A sealed buffer opened (R513): envelope bytes 0–15, the keyway and the kind are authenticated. -/
def openSealed (key : Bytes) (kw kind : Nat) (b : Bytes) : Option Bytes :=
  let n := leAt b 12 4
  if b.length != 32 + n then none else
  Config.gcmOpen key (b.take 12) (b.take 16 ++ [BitVec.ofNat 8 kw, BitVec.ofNat 8 kind]) (b.drop 16)

/-- The key of a generation of a slot, while it is held (R511). -/
def KeySlot.keyOf (k : KeySlot) (gen : Nat) : Option Bytes :=
  if k.state == 0 then none else if k.gen == gen then some k.key else k.prev.map Prod.fst

/-- A sealed buffer failed (R514). -/
def State.sealedFail (s : State) (kw : Nat) : State := (s.inc .SEALED_AUTH_FAIL).raise 0x4C03 kw

/-- An arriving shard of a slot's version is checked, and accepted or asked for again (R316–R319). -/
def State.shardArrived (s : State) (n : Nat) (w : Which) (v : Version) (q : ShardReq) (h : ShardHdr) (buf : Option Bytes) (len : Nat) : State :=
  match shardCheck (h.kind ≤ 2 && (h.exactJoin || s.set0 .JOIN_MODE_DEFAULT == 1)) h buf len with
  | .ok pay => s.acceptShard n w v h pay
  | .code7 => if (s.slot n).phase = .none then s.retryReq n v q 3 else s.loadFail n 7
  | .bad reason => (s.raise 0x4801 (s.slot n).owner 0 n h.index (reason + 256 * q.attempt)).retryReq n v q reason

/-- The version of a slot that has an outstanding request for a shard. -/
def SlotS.outstanding (x : SlotS) (index : Nat) : Option (Which × Version × ShardReq × ShardHdr) :=
  x.asking.findSome? (fun p =>
    match p.2.reqs.find? (fun q => q.index == index && q.issued), p.2.shards.find? (fun h => h.index == index) with
    | some q, some h => some (p.1, p.2, q, h)
    | _, _ => none)

end Sys2Proof.Machine
end

