-- ==== Sys2Proof/Machine/Cal.lean ====
section
/-! DEFINITION. Machine/Cal.lean: calibration of the engines and self-calibration of the sense converters (spec/07). -/
namespace Sys2Proof.Machine
open Sys2Proof

/-! ### Temperatures -/

/-- The sense channel of an engine's quadrant diode (spec/13 Table 13.3). -/
def State.quadChan (s : State) (eng : Nat) : Nat := 1 + quadOfCluster (s.clusterOfCore (eng / 16))

/-- T_q of an engine: its quadrant's latest reading (R270). -/
def State.tq (s : State) (eng : Nat) : Option Reading := mapFind s.sense.readings (s.quadChan eng)

/-- |T_q − T_CAL| in 1/16 °C, when both are known. -/
def State.tdiff (s : State) (eng : Nat) : Option Nat :=
  match s.tq eng, (s.engine eng).active.tcal with
  | some r, some t => some (r.value - t).natAbs
  | _, _ => none

/-- A channel is a temperature channel (Table 13.3). -/
def isTempChan (c : Nat) : Bool := (1 ≤ c && c ≤ 17) || (22 ≤ c && c ≤ 29)

/-- A channel's limit in 1/16 °C (Table 13.3): onset of the dies, limit of a thermistor pin; none for a pin that is disabled. -/
def State.chanLimit (s : State) (c : Nat) : Option Int :=
  if 1 ≤ c && c ≤ 17 then some (16 * s.set0 .THERM_ONSET)
  else if 22 ≤ c && c ≤ 29 then
    (let n := s.setByte .TH_LIMIT (c - 22)
     if n == 0 then none else some (16 * n))
  else none

/-- A channel's value lies in its fast band (Table 13.3). -/
def State.fastNow (s : State) (c : Nat) : Bool :=
  match s.chanLimit c, mapFind s.sense.readings c with
  | some l, some r => decide (l - 128 ≤ r.value)
  | _, _ => false

/-! ### The due list (R269–R272) -/

/-- Tiers of an engine that are not RETIRED and have no valid trims (R269). -/
def EngS.untrimmed (e : EngS) : Bool := e.tiers.any (fun t => t.health != .retired && !t.trimmed)

/-- The class an engine falls due in now, apart from class 1, which is asked for (Table 7.4). -/
def State.dueNow (s : State) (eng : Nat) : Option Nat :=
  let e := s.engine eng
  if e.retired then none
  else if e.untrimmed then some 0
  else if (match s.tdiff eng with
    | some d => decide (d > 16 * s.set0 .CAL_DT_THRESH)
    | none => false) then some 2
  else if s.set0 .CAL_MAX_AGE ≠ 0 ∧ s.opHours > e.commitHour + s.set0 .CAL_MAX_AGE then some 3
  else none

/-- Place an engine on the due list, in the first class that applies (R269): one that is due stays on the list, and moves to an
earlier class when that applies. -/
def State.placeDue (s : State) (eng : Nat) : State :=
  let e := s.engine eng
  if e.standoff.isSome then s else
  let first : Option Nat := match e.due, s.dueNow eng with
    | none, c => c
    | some d, some c => some (min d c)
    | some d, none => some d
  if first = e.due then s else
  let e' := { e with due := first, dueSince := if e.due.isNone then s.now else e.dueSince }
  s.putEngine eng e'

/-- CAL_BACKLOG (R272): once per rise of a due engine's difference above CAL_DT_ALARM. -/
def State.backlog (s : State) (eng : Nat) : State :=
  let e := s.engine eng
  let above := match s.tdiff eng with
    | some d => decide (d > 16 * s.set0 .CAL_DT_ALARM)
    | none => false
  if above && e.due.isSome then
    (if e.backlog then s else (s.putEngine eng { e with backlog := true }).raise 0x4705 0xFF (s.uidEngine eng))
  else if e.backlog then s.putEngine eng { e with backlog := false } else s

/-- Engines that a boundary looks at: every engine once the age class may select one that has no record of its own. -/
def State.dueIds (s : State) : List Nat :=
  if s.set0 .CAL_MAX_AGE ≠ 0 ∧ s.opHours > s.set0 .CAL_MAX_AGE then List.range s.numEngines else s.eng.map Prod.fst

/-- Place engines one after another. -/
def State.placeDueAll (s : State) : List Nat → State
  | [] => s
  | e :: r => ((s.placeDue e).backlog e).placeDueAll r

/-- The order of the due list as a key, smaller first (Table 7.4): class, then the class's own order, then the engine index. -/
def State.dueKey (s : State) (eng : Nat) : Nat × Nat × Nat :=
  let e := s.engine eng
  match e.due with
  | some 0 => (0, 0, eng)
  | some 1 => (1, e.dueSince, eng)
  | some 2 => (2, 65536 - (s.tdiff eng).getD 0, eng)
  | some c => (c, e.commitHour, eng)
  | none => (4, 0, eng)

/-- Order of keys. -/
def keyLt (a b : Nat × Nat × Nat) : Bool :=
  a.1 < b.1 || (a.1 == b.1 && (a.2.1 < b.2.1 || (a.2.1 == b.2.1 && a.2.2 < b.2.2)))

/-- A die is halted by R264. -/
def State.dieHalted (s : State) (eng : Nat) : Bool := s.cal.halted.contains (s.dieOfCore (eng / 16))

/-- An engine may run a stage now: due, in service, its die not halted, its quadrant's reading fresh (R264, R270, R272). -/
def State.mayStage (s : State) (eng : Nat) : Bool :=
  let e := s.engine eng
  e.due.isSome && e.standoff.isNone && s.engineState eng == .online && !s.dieHalted eng &&
  (match s.tq eng with
   | some r => !r.stale
   | none => false) &&
  !(s.kpr.passes.any (fun p => p.eng == eng)) && !s.pairUnderWay eng && !(s.slots.programs.any (fun p => p.eng == eng))

/-- Engines of a core with a run in progress. -/
def State.running (s : State) (core : Nat) : List Nat :=
  ((List.range 16).map (fun e => 16 * core + e)).filter (fun e =>
    match (s.engine e).run with
    | some r => !r.ready
    | none => false)

/-- Engines of a core that hold its places in this beat (R282). -/
def State.places (s : State) (core : Nat) : List Nat :=
  (s.running core ++ s.cal.stageEngs.filter (fun e => e / 16 == core)).eraseDups

/-- The next engine of a core's due list to take a free place (R282). -/
def State.nextDue (s : State) (core : Nat) : Option Nat :=
  let c := ((List.range 16).map (fun e => 16 * core + e)).filter (fun e => s.mayStage e && (s.engine e).run.isNone)
  c.foldl (fun a e => match a with
    | none => some e
    | some b => if keyLt (s.dueKey e) (s.dueKey b) then some e else some b) none

/-! ### Stages (R273, R274, R283) -/

/-- The calibration settings a run keeps from the start of its first stage (R273). -/
def calObjs : List Obj :=
  [.CAL_REPEATS, .CAL_GAIN_LIMIT, .CAL_OFFSET_LIMIT, .CAL_LIN_LIMIT, .CAL_STEP_LIMIT, .CAL_COL_FAIL_MAX, .CAL_RAMP_FAIL_PCT]

/-- A setting as a run keeps it. -/
def CalRun.set (r : CalRun) (o : Obj) : Nat := ovNat ((cellFind r.settings ⟨o, 0, 0⟩).getD (.num 0))

/-- The stages of a run (R273): 0 ramp; 2t + 1 coarse and 2t + 2 fine of each tier t that is not RETIRED. -/
def EngS.stages (e : EngS) : List Nat :=
  0 :: (List.range 4).flatMap (fun t => if (e.tier t).health == .retired then [] else [2 * t + 1, 2 * t + 2])

/-- Tier of a stage. -/
def stageTier (st : Nat) : Nat := (st - 1) / 2

/-- Passes of each pass type of a stage (Table 7.5). -/
def stageReps (st n : Nat) : Nat := if st == 0 then 64 else if st % 2 == 1 then n / 4 else n

/-- Duration of a stage in picoseconds, with a tier select when it follows a pass on another tier (R274). -/
def EngS.stagePs (e : EngS) (st n : Nat) : Nat :=
  if st == 0 then 4 * 64 * 64000
  else 6 * stageReps st n * 64000 + (if e.lastTier == some (stageTier st) then 0 else 8000)

/-- The stage fits before the next notch 0, its end computed at a notch length 0.5 % shorter (R283). -/
def State.fits (s : State) (ps : Nat) : Bool := decide (1000 * ps < 995 * (s.beat.last + s.beat.length - s.now))

/-- The stages left once those of tiers retired since are skipped (Table 7.7). -/
def EngS.leftStages (e : EngS) (r : CalRun) : List Nat :=
  r.stages.filter (fun st => st == 0 || (e.tier (stageTier st)).health != .retired)

/-- Start the next stage of an engine's run, or its first stage (R273, R278). -/
def State.beginStage (s : State) (eng : Nat) : State :=
  let e := s.engine eng
  let tq := match s.tq eng with
    | some r => r.value
    | none => 0
  let r0 : CalRun := match e.run with
    | some r => r
    | none => { cls := e.due.getD 0, stages := e.stages, firstBeat := s.beat.count
                settings := calObjs.map (fun o => (⟨o, 0, 0⟩, s.setting ⟨o, 0, 0⟩)) }
  let shadow := if e.run.isNone then e.active else e.shadow
  match e.leftStages r0 with
  | [] => s
  | st :: rest =>
    if s.boot.stepped && !s.fits (e.stagePs st (r0.set .CAL_REPEATS)) then s else
    let r := { r0 with stages := rest, running := some st, tqs := r0.tqs ++ [tq] }
    let last := if st == 0 then e.lastTier else some (stageTier st)
    let s := if last == e.lastTier then s else s.chargeSelect
    let s := s.putEngine eng { e with run := some r, shadow := shadow, lastTier := last }
    { s with cal := { s.cal with stageEngs := (s.cal.stageEngs ++ [eng]).eraseDups } }

/-- A stage may start on the engine (R282, R283, R292): before the first step calibration runs unpaced. -/
def State.stageAllowed (s : State) (eng : Nat) : Bool :=
  let core := eng / 16
  let inRun := match (s.engine eng).run with
    | some r => r.running.isNone && !r.ready
    | none => false
  let free := (s.places core).length < s.set0 .CAL_ENGINES_PER_CORE || (s.places core).contains eng
  s.mayStage eng &&
  (!s.boot.stepped && ((s.engine eng).run.isNone || inRun) ||
   s.quietFor core && !s.boundaryDue &&
   (inRun || ((s.engine eng).run.isNone && free && s.nextDue core == some eng)))

/-- Calibration has the engine's quiet window before diagnosis and scrub (R186): a stage runs on it, or one may start and would still end before
notch 0 (R283). -/
def State.calFirst (s : State) (eng : Nat) : Bool :=
  let e := s.engine eng
  let r0 := e.run.getD { cls := 0, stages := e.stages, firstBeat := 0, settings := [(⟨.CAL_REPEATS, 0, 0⟩, s.setting ⟨.CAL_REPEATS, 0, 0⟩)] }
  match r0.running with
  | some _ => true
  | none => s.stageAllowed eng && (match e.leftStages r0 with
    | [] => false
    | st :: _ => !s.boot.stepped || s.fits (e.stagePs st (r0.set .CAL_REPEATS)))

/-- CAL_STAGE_START. -/
def calStageStart (eng : Nat) (s : State) : State := if s.stageAllowed eng && !s.pwr.stalled then s.beginStage eng else s

/-- CAL_STAGE_START. -/
def execCalStageStart (t eng : Nat) (s : State) : Host.Outcome State Fault Refusal :=
  if eng < s.numEngines then .next (calStageStart eng (s.at t)) else .fault .noSuchUnit

/-- A run is discarded as a whole (R281). -/
def State.discardRun (s : State) (eng : Nat) : State :=
  let e := s.engine eng
  let n := e.discards + 1
  let tiers := if n ≥ 3 then e.tiers.map (fun t => if t.health == .good then { t with health := .suspect } else t) else e.tiers
  let s := s.putEngine eng { e with run := none, shadow := e.active, due := none, standoff := some 256, discards := n
                                    runsDiscarded := e.runsDiscarded + 1, tiers := tiers
                                    healthAt := if tiers = e.tiers then e.healthAt else s.notchTime }
  (s.inc .CAL_RUNS_DISCARDED).raise 0x4702 0xFF (s.uidEngine eng)

/-! ### The ramp stage (R275) -/

/-- Insert into a rising list. -/
def insertRat (x : Rat) : List Rat → List Rat
  | [] => [x]
  | y :: r => if x < y then x :: y :: r else y :: insertRat x r

/-- The median, the lower middle value when the count is even. -/
def medianRat (l : List Rat) : Rat :=
  let s := l.foldr insertRat []
  s.getD ((s.length - 1) / 2) 0

/-- Magnitude of a rational. -/
def ratAbs (x : Rat) : Rat := if x < 0 then -x else x

/-- A rational rounded to the nearest integer, ties to even. -/
def ratRne (x : Rat) : Int := divRne x.num x.den

/-- r[n][k] = mean ÷ 256. -/
def rampR (x : RampSum) : Rat := (x.sum : Rat) / (((256 * x.n : Nat) : Int) : Rat)

/-- RAMP_FAILED of a group. -/
def TrimS.failed (t : TrimS) (n : Nat) : Nat := mapGet t.rampFailed n 0

/-- The sum of a group and source. -/
def rampAt (r : List (List RampSum)) (n k : Nat) : RampSum := (r.getD n []).getD k ⟨0, 0, false⟩

/-- Sources of a group not excluded. -/
def unfailedOf (mask : Nat) : List Nat := (List.range 4).filter (fun k => !mask.testBit k)

/-- What the ramp stage finds: failed masks, newly failed sources, and the selection of each group; none of a group that is
dead. -/
structure RampOut where
  failed : Map Nat
  fresh  : Nat
  dead   : Bool
  sel    : Map Nat
  new    : Int
  deriving DecidableEq, Repr

/-- The ramp stage's results (R275). -/
def rampResult (sh : TrimS) (pct : Nat) (r : List (List RampSum)) : RampOut :=
  let groups := List.range 17
  let before := groups.map (fun n => (n, unfailedOf (sh.failed n)))
  let med := medianRat (before.flatMap (fun g => g.2.map (fun k => rampR (rampAt r g.1 k))))
  let lim : Rat := (pct : Rat) / 100
  let bad (n k : Nat) : Bool := (rampAt r n k).sat || decide (lim < ratAbs (rampR (rampAt r n k) - med))
  let newFails := before.map (fun g => (g.1, g.2.filter (bad g.1)))
  let failed := newFails.foldl (fun (m : Map Nat) g => mapSet m g.1 (g.2.foldl (fun a k => a + 2 ^ k) (sh.failed g.1))) sh.rampFailed
  let dist (n k : Nat) : Rat := ratAbs (rampR (rampAt r n k) - med)
  let choose (n : Nat) : Nat :=
    let ok := unfailedOf (mapGet failed n 0)
    let best := ok.foldl (fun a k => if dist n k < dist n a then k else a) (ok.headD 0)
    let cur := mapGet sh.rampSel n 0
    if ok.contains cur && decide (dist n cur ≤ dist n best + (5 : Rat) / 1000) then cur else best
  let sel := groups.foldl (fun (m : Map Nat) n => mapSet m n (choose n)) sh.rampSel
  let rbar := medianRat (groups.map (fun n => rampR (rampAt r n (mapGet sel n 0))))
  { failed := failed
    fresh := (newFails.map (fun g => g.2.length)).foldl (· + ·) 0
    dead := groups.any (fun n => mapGet failed n 0 == 15)
    sel := sel
    new := sh.rampTrim + ratRne ((rbar - 1) / ((125 : Rat) / 100000)) }

/-- Passes of a stage are accounted (R193, R286). -/
def State.chargeStage (s : State) (eng st n : Nat) : State :=
  if st == 0 then s.chargePasses eng 256 0 false
  else
    let k := stageReps st n
    ((s.chargePasses eng (4 * k) 7 false).chargePasses eng (2 * k) 14 false)

/-- The stage under way of an engine's run, when it is the one named. -/
def EngS.stageNow (e : EngS) (st : Nat) : Option CalRun :=
  match e.run with
  | some r => if r.running == some st then some { r with running := none } else none
  | none => none

/-- The shadow banks of an engine become active: commit of one run (R287). -/
def State.commitEngine (s : State) (eng : Nat) (r : CalRun) : State :=
  let e := s.engine eng
  let n : Int := r.tqs.length
  let tcal := divRne (r.tqs.foldl (· + ·) 0) n.toNat
  let live (t : Nat) : Bool := (e.tier t).health != .retired
  let tiers := e.tiers.zipIdx.map (fun x =>
    if live x.2 then { x.1 with trimmed := true, commitBeat := if x.1.trimmed then x.1.commitBeat else s.beat.number } else x.1)
  let keep (l : List (Map Nat)) : List (Map Nat) := l.zipIdx.map (fun x => if live x.2 then x.1 else [])
  let act := { e.shadow with trims := keep e.shadow.trims, resid := keep e.shadow.resid, tcal := some tcal }
  let s := s.putEngine eng { e with active := act, shadow := act, run := none, due := none, standoff := none, discards := 0
                                    runsDone := e.runsDone + 1, tiers := tiers, lastCommit := s.notchTime
                                    commitHour := s.opHours, nvDue := true, backlog := false }
  s.inc .CAL_RUNS_DONE

/-- A stage ended well: the run goes on, or is READY; unpaced, it commits at once (R287, R292). -/
def State.endStage (s : State) (eng : Nat) (r : CalRun) : State :=
  let e := s.engine eng
  if e.leftStages r = [] then
    let r' := { r with ready := true, stages := [] }
    let s := s.putEngine eng { e with run := some r' }
    if s.boot.stepped then s
    else ((s.commitEngine eng r').raise 0x1701 0xFF (uidDie (s.dieOfCore (eng / 16))) 1).slotsReady
  else s.putEngine eng { e with run := some r }

/-- Whole-run checks at the end of a stage (Table 7.6): spread of T_q, span, columns discarded in a tier. -/
def State.runFails (s : State) (r : CalRun) : Bool :=
  let hi := r.tqs.foldl max (r.tqs.headD 0)
  let lo := r.tqs.foldl min (r.tqs.headD 0)
  decide (hi - lo > 32) || decide (s.beat.count > r.firstBeat + 64) ||
  (List.range 4).any (fun t => decide ((r.rejected.filter (fun x => x.1 == t)).length > r.set .CAL_COL_FAIL_MAX))

/-- Events 0x4704, one per source newly excluded. -/
def State.rampEvents (s : State) (eng : Nat) : Nat → State
  | 0 => s
  | n + 1 => (s.raise 0x4704 0xFF (s.uidEngine eng)).rampEvents eng n

/-- The ramp stage ends (R275). -/
def calRampDone (eng : Nat) (x : List (List RampSum)) (s : State) : State :=
  match (s.engine eng).stageNow 0 with
  | none => s
  | some r =>
    let s := s.chargeStage eng 0 (r.set .CAL_REPEATS)
    let e := s.engine eng
    let o := rampResult e.shadow (r.set .CAL_RAMP_FAIL_PCT) x
    let s := s.rampEvents eng o.fresh
    if o.dead then
      ((s.raise 0x8702 0xFF (s.uidEngine eng)).retireEngine eng .rampSources)
    else if o.new < -128 ∨ o.new > 127 then s.discardRun eng
    else
      let e := s.engine eng
      let sh := { e.shadow with rampFailed := o.failed, rampSel := o.sel, rampTrim := o.new }
      (s.putEngine eng { e with shadow := sh }).endStage eng r

/-- CAL_RAMP_STAGE_DONE. -/
def execCalRampStageDone (t eng : Nat) (r : List (List RampSum)) (s : State) : Host.Outcome State Fault Refusal :=
  if eng < s.numEngines then .next (calRampDone eng r (s.at t)) else .fault .noSuchUnit

/-! ### Tier stages (R276–R280) -/

/-- GAIN_TRIM of an entry (Table 7.3). -/
def gainTrim (w : Nat) : Int := signed 6 (w / 256 % 64)
/-- OFFSET_TRIM of an entry. -/
def offTrim (w : Nat) : Int := signed 6 (w % 64)
/-- A trim entry. -/
def trimWord (g o : Int) : Nat := unsigned 6 g * 256 + unsigned 6 o

/-- A stage mean. -/
def colMean (c : ColSum) (k reps : Nat) : Rat := ((c.p.getD (k - 1) 0 : Int) : Rat) / (((reps : Nat) : Int) : Rat)

/-- Parts per million as a rational. -/
def ppm (n : Nat) : Rat := (n : Rat) / 1000000

/-- A column's new trim entry after a coarse stage, or none when a limit of Table 7.6 is broken (R276). -/
def coarseColumn (r : CalRun) (act cur : Nat) (c : ColSum) : Option Nat :=
  let n := r.set .CAL_REPEATS / 4
  let g := (colMean c 2 n - colMean c 3 n) / 98
  let o := colMean c 1 n
  if ratAbs (g - 1) > ppm (r.set .CAL_GAIN_LIMIT) ∨ ratAbs o > (r.set .CAL_OFFSET_LIMIT : Rat) / 4 then none else
  let gt := clampInt (-32) 31 (gainTrim cur + ratRne ((1 / g - 1) / ((25 : Rat) / 10000)))
  let ot := clampInt (-32) 31 (offTrim cur - ratRne (o / ((1 : Rat) / 4)))
  let lim : Int := r.set .CAL_STEP_LIMIT
  if r.cls ≠ 0 ∧ ((gt - gainTrim act).natAbs > lim ∨ (ot - offTrim act).natAbs > lim) then none else some (trimWord gt ot)

/-- A column's residual entry after a fine stage, or none when a limit is broken (R277). -/
def fineColumn (r : CalRun) (c : ColSum) : Option Nat :=
  let n := r.set .CAL_REPEATS
  let p (k : Nat) : Rat := colMean c k n
  let o := p 1
  let gp := (p 2 - p 1) / 49
  let gn := (p 1 - p 3) / 49
  let g := (p 2 - p 3) / 98
  let la := ratAbs (p 4 - (21 * g + o))
  let lb := ratAbs (p 5 - (-21 * g + o))
  let lin := if la < lb then lb else la
  let low := ratAbs (p 6 - (14 * g + o))
  let lim : Rat := (r.set .CAL_LIN_LIMIT : Rat) / 8
  let gr := ratRne ((g - 1) * 16384)
  let or_ := ratRne (o * 16)
  if c.bad = true ∨ ratAbs (g - 1) > ppm (r.set .CAL_GAIN_LIMIT) ∨ ratAbs (gp - gn) > (2 : Rat) / 100 ∨ lin > lim ∨ low > lim ∨
     gr < -127 ∨ gr > 127 ∨ or_ < -128 ∨ or_ > 127 then none
  else some (unsigned 8 gr * 256 + unsigned 8 or_)

/-- One column is rejected (R280): the shadow holds its active entries, it is flagged, counted and reported. -/
def State.rejectColumn (s : State) (eng tier col : Nat) : State :=
  let e := s.engine eng
  let act := e.active
  let put (l : List (Map Nat)) (m : Map Nat) : List (Map Nat) := l.set tier (mapSet (l.getD tier []) col (mapGet m col 0))
  let sh := { e.shadow with trims := put e.shadow.trims (act.trims.getD tier [])
                            resid := put e.shadow.resid (act.resid.getD tier []) }
  let s := s.putEngine eng { e with shadow := sh, colsRejected := e.colsRejected + 1 }
  let s := (s.inc .CAL_COLUMNS_REJECTED).raise 0x4701 0xFF (s.uidTier eng tier)
  s.flagColumn eng tier col

/-- Reject columns one after another. -/
def State.rejectColumns (s : State) (eng tier : Nat) : List Nat → State
  | [] => s
  | c :: r => (s.rejectColumn eng tier c).rejectColumns eng tier r

/-- Columns of a stage that were not rejected earlier in the run. -/
def openColumns (r : CalRun) (tier : Nat) (cs : List ColSum) : List ColSum :=
  cs.filter (fun c => !r.rejected.contains (tier, c.col))

/-- A coarse stage ends (R276, R279, R280). -/
def calCoarseDone (eng tier : Nat) (cs : List ColSum) (s : State) : State :=
  match (s.engine eng).stageNow (2 * tier + 1) with
  | none => s
  | some r =>
    let s := s.chargeStage eng (2 * tier + 1) (r.set .CAL_REPEATS)
    let e := s.engine eng
    let cur := e.shadow.trims.getD tier []
    let act := e.active.trims.getD tier []
    let res := (openColumns r tier cs).map (fun c => (c.col, coarseColumn r (mapGet act c.col 0) (mapGet cur c.col 0) c))
    let new := res.foldl (fun (m : Map Nat) x => match x.2 with
      | some w => mapSet m x.1 w
      | none => m) cur
    let bad := (res.filter (fun x => x.2.isNone)).map Prod.fst
    let s := s.putEngine eng { e with shadow := { e.shadow with trims := e.shadow.trims.set tier new } }
    let s := s.rejectColumns eng tier bad
    if (s.engine eng).run.isNone then s
    else s.endStage eng { r with rejected := r.rejected ++ bad.map (fun c => (tier, c)) }

/-- CAL_COARSE_STAGE_DONE. -/
def execCalCoarseStageDone (t eng tier : Nat) (r : List ColSum) (s : State) : Host.Outcome State Fault Refusal :=
  if eng < s.numEngines ∧ tier < 4 then .next (calCoarseDone eng tier r (s.at t)) else .fault .noSuchUnit

/-- A fine stage ends (R277–R281). -/
def calFineDone (eng tier : Nat) (cs : List ColSum) (s : State) : State :=
  match (s.engine eng).stageNow (2 * tier + 2) with
  | none => s
  | some r =>
    let s := s.chargeStage eng (2 * tier + 2) (r.set .CAL_REPEATS)
    let e := s.engine eng
    let res := (openColumns r tier cs).map (fun c => (c.col, fineColumn r c))
    let new := res.foldl (fun (m : Map Nat) x => match x.2 with
      | some w => mapSet m x.1 w
      | none => m) (e.shadow.resid.getD tier [])
    let bad := (res.filter (fun x => x.2.isNone)).map Prod.fst
    let s := s.putEngine eng { e with shadow := { e.shadow with resid := e.shadow.resid.set tier new } }
    let s := s.rejectColumns eng tier bad
    let r' := { r with rejected := r.rejected ++ bad.map (fun c => (tier, c)) }
    if (s.engine eng).run.isNone then s
    else if s.runFails r' then s.discardRun eng else s.endStage eng r'

/-- CAL_FINE_STAGE_DONE. -/
def execCalFineStageDone (t eng tier : Nat) (r : List ColSum) (s : State) : Host.Outcome State Fault Refusal :=
  if eng < s.numEngines ∧ tier < 4 then .next (calFineDone eng tier r (s.at t)) else .fault .noSuchUnit

/-- The stand-off ends after 256 beats, and the engine is placed again under R269 (R281). -/
def standoffEnd (eng : Nat) (s : State) : State :=
  let e := s.engine eng
  if e.standoff = some 0 then (s.putEngine eng { e with standoff := none }).placeDue eng else s

/-- CAL_DISCARD_STANDOFF_END. -/
def execCalDiscardStandoffEnd (t eng : Nat) (s : State) : Host.Outcome State Fault Refusal :=
  if eng < s.numEngines then .next (standoffEnd eng (s.at t)) else .fault .noSuchUnit

/-! ### The trim store (R268) -/

/-- The record of the trim store with the higher sequence number (R291). -/
def EngS.newest (e : EngS) : Option NvRec :=
  match e.nvA, e.nvB with
  | some a, some b => some (if a.seq ≥ b.seq then a else b)
  | some a, none => some a
  | none, b => b

/-- The older record is written (R268). -/
def State.writeTrims (s : State) (eng : Nat) : State :=
  let e := s.engine eng
  let rec_ : NvRec := ⟨(match e.newest with
    | some r => r.seq
    | none => 0) + 1, e.active, e.tiers.map (fun t => t.trimmed)⟩
  let toA := match e.nvA, e.nvB with
    | none, _ => true
    | some _, none => false
    | some a, some b => decide (a.seq < b.seq)
  let e := if toA then { e with nvA := some rec_ } else { e with nvB := some rec_ }
  s.putEngine eng { e with nvWrites := e.nvWrites + 1, nvLast := some s.now, nvDue := false }

/-- A record that is due is written in a quiet window, at most once in CAL_NV_INTERVAL (R268). -/
def trimStoreWrite (eng : Nat) (s : State) : State :=
  let e := s.engine eng
  let due := match e.nvLast with
    | none => true
    | some t => decide (t + s.set0 .CAL_NV_INTERVAL * 1000000000000 ≤ s.now)
  if e.nvDue && due && s.quietFor (eng / 16) then s.writeTrims eng else s

/-- TRIM_STORE_WRITE. -/
def execTrimStoreWrite (t eng : Nat) (s : State) : Host.Outcome State Fault Refusal :=
  if eng < s.numEngines then .next (trimStoreWrite eng (s.at t)) else .fault .noSuchUnit

/-! ### The reference comparison (R263, R264) -/

/-- Discard the shadows that wait to commit on a die (R264). -/
def State.dropReady (s : State) (die : Nat) : State :=
  { s with eng := s.eng.map (fun x =>
      match x.2.run with
      | some r => if r.ready && s.dieOfCore (x.1 / 16) == die then (x.1, { x.2 with run := none, shadow := x.2.active }) else x
      | none => x) }

/-- A die reference is measured: deviation in ppm (R263, R264). -/
def vrefCompare (die : Nat) (dev : Int) (s : State) : State :=
  let s := { s with cal := { s.cal with refDev := mapSet s.cal.refDev die dev } }
  if dev.natAbs > s.set0 .CAL_REF_TOL then
    let s := s.raise 0x8701 0xFF (uidDie die)
    let halted := if s.cal.halted.contains die then s.cal.halted else s.cal.halted ++ [die]
    ({ s with cal := { s.cal with halted := halted, goodRow := mapSet s.cal.goodRow die 0 } }).dropReady die
  else if s.cal.halted.contains die then
    let n := mapGet s.cal.goodRow die 0 + 1
    if n ≥ 16 then { s with cal := { s.cal with halted := s.cal.halted.filter (· != die), goodRow := mapDel s.cal.goodRow die } }
    else { s with cal := { s.cal with goodRow := mapSet s.cal.goodRow die n } }
  else s

/-- VREF_COMPARE. -/
def execVrefCompare (t die : Nat) (dev : Int) (s : State) : Host.Outcome State Fault Refusal :=
  if die < 4 then .next (vrefCompare die dev (s.at t)) else .fault .noSuchUnit

/-! ### Self-calibration of the sense converters (R294–R297) -/

/-- The converter of a channel (Table 13.3, Table 13.5). -/
def State.convOf (s : State) (c : Nat) : Nat :=
  match s.sense.mode with
  | 2 => 0
  | 3 => 1
  | _ => if c % 2 == 1 then 0 else 1

/-- A self-calibration is due (R295, R549): at power-up, after a move of the hub temperature, after its period, or on leaving
service. -/
def State.selfDue (s : State) (conv : Nat) : Bool :=
  s.sense.selfWant.contains conv ||
  (match mapFind s.sense.selfLast conv with
   | none => true
   | some t =>
     decide (t + s.set0 .CAL_SENSE_PERIOD * 1000000000000 ≤ s.now) ||
     (match mapFind s.sense.selfTemp conv, mapFind s.sense.readings 17 with
      | some a, some r => decide ((r.value - a).natAbs > 16 * s.set0 .CAL_DT_THRESH)
      | _, _ => false))

/-- A converter begins self-calibration (R295–R297): the readings it would produce are STALE. -/
def selfcalStart (conv : Nat) (s : State) : State :=
  if s.sense.selfBusy.isSome || !s.selfDue conv || (List.range 40).any s.fastNow then s else
  { s with sense := { s.sense with
      selfBusy := some conv
      readings := s.sense.readings.map (fun x => if s.convOf x.1 == conv then (x.1, { x.2 with stale := true }) else x) } }

/-- SENSE_SELFCAL_START. -/
def execSenseSelfcalStart (t conv : Nat) (s : State) : Host.Outcome State Fault Refusal :=
  if conv < 2 then .next (selfcalStart conv (s.at t)) else .fault .noSuchUnit

/-- A self-calibration ends: offset in LSB, gain as its departure from nominal in ppm (R294). -/
def selfcalDone (conv : Nat) (offset gain : Int) (s : State) : State :=
  if s.sense.selfBusy ≠ some conv then s else
  let ok := offset.natAbs ≤ 64 ∧ gain.natAbs ≤ 10000
  let sn := { s.sense with selfBusy := none, selfLast := mapSet s.sense.selfLast conv s.now
                           selfWant := s.sense.selfWant.filter (· != conv) }
  let sn := match mapFind s.sense.readings 17 with
    | some r => { sn with selfTemp := mapSet sn.selfTemp conv r.value }
    | none => sn
  if ok then
    ({ s with sense := { sn with coefs := mapSet sn.coefs conv (offset, gain) } }).raise 0x1702 0xFF (uidHub 0)
  else ({ s with sense := sn }).raise 0x4706 0xFF (uidHub 0)

/-- SENSE_SELFCAL_DONE. -/
def execSenseSelfcalDone (t conv : Nat) (offset gain : Int) (s : State) : Host.Outcome State Fault Refusal :=
  if conv < 2 then .next (selfcalDone conv offset gain (s.at t)) else .fault .noSuchUnit

/-! ### At the boundary (R284–R288) -/

/-- A stage still running at notch 0 is stopped and its run abandoned (R284). -/
def State.calOverrun (s : State) : List Nat → State
  | [] => s
  | e :: r =>
    match (s.engine e).run with
    | some x =>
      if x.running.isSome then
        let en := s.engine e
        (((s.putEngine e { en with run := none, shadow := en.active }).inc .CAL_OVERRUN_COUNT).raise 0x4703 0xFF
          (s.uidEngine e)).calOverrun r
      else s.calOverrun r
    | none => s.calOverrun r

/-- Engines of a die whose runs are READY. -/
def State.readyOn (s : State) (die : Nat) : List Nat :=
  (s.eng.filter (fun x => s.dieOfCore (x.1 / 16) == die && (match x.2.run with
    | some r => r.ready
    | none => false))).map Prod.fst

/-- Commit engines one after another. -/
def State.commitAll (s : State) : List Nat → State
  | [] => s
  | e :: r =>
    match (s.engine e).run with
    | some x => (s.commitEngine e x).commitAll r
    | none => s.commitAll r

/-- Engines wait with their swap until the L pass of the pair under way (R185). -/
def State.deferSwaps (s : State) : List Nat → State
  | [] => s
  | e :: r => (s.putEngine e { s.engine e with swapDue := true }).deferSwaps r

/-- The shadow banks of every READY engine of a die become active together (R287, R288); those of an engine with a pair under way after its L pass
(Table 7.7). -/
def State.calCommit (s : State) (die : Nat) : State :=
  let l := s.readyOn die
  let now := l.filter (fun e => !s.pairUnderWay e)
  let s := s.deferSwaps (l.filter s.pairUnderWay)
  if now = [] then s else (s.commitAll now).raise 0x1701 0xFF (uidDie die) now.length

/-- The banks of an engine swap after the L pass of the pair that held them back (R185, Table 7.7; log 60). -/
def State.lateSwap (s : State) (eng : Nat) : State :=
  let e := s.engine eng
  if !e.swapDue || s.pairUnderWay eng || s.kpr.passes.any (fun p => p.eng == eng && p.half != .single) then s else
  let s := s.putEngine eng { e with swapDue := false }
  let s := match e.run with
    | some r => if r.ready then (s.commitEngine eng r).raise 0x1701 0xFF (uidDie (s.dieOfCore (eng / 16))) 1 else s
    | none => s
  [0, 1, 2, 3].foldl (fun (x : State) t => x.swapRemap eng t) s

/-- COUNT_WORDS_READY. -/
def execCountWordsReady (t : Nat) (r : PassResult) (s : State) : Host.Outcome State Fault Refusal :=
  if r.eng < s.numEngines then
    .next (((s.at t).inStepCfg (s.coreBeat (r.eng / 16)) (countWords r)).lateSwap r.eng)
  else .fault .noSuchUnit

/-- SPLIT_RECOMPUTE_DONE. -/
def execSplitRecomputeDone (t : Nat) (r : SplitResult) (s : State) : Host.Outcome State Fault Refusal :=
  if r.eng < s.numEngines then
    .next (((s.at t).inStepCfg (s.coreBeat (r.eng / 16)) (splitDone r)).lateSwap r.eng)
  else .fault .noSuchUnit

/-! ### Diagnosis (R200–R202) -/

/-- A column-path or single-tier diagnosis has read a tier: its mismatching pairs are noted, and the last tier ends it (R200–R202). -/
def State.diagRead (s : State) (eng tier : Nat) (cells : List CellRead) : State :=
  let e := s.engine eng
  match e.diag with
  | none => s
  | some d =>
    if d.toRead.head? ≠ some tier then s else
    let s := s.readBack eng tier
    let bad := d.bad ++ (s.mismatchesAt eng tier cells).map (fun m => (tier, m.1, m.2))
    let d := { d with bad := bad, toRead := d.toRead.drop 1, readAt := some s.beat.count }
    let e := s.engine eng
    if d.toRead.isEmpty then (s.diagEnd eng d ((List.range 4).filter (fun t => (e.tier t).health != .retired))).deEscalate eng
    else s.putEngine eng { e with diag := some d }

/-- Diagnosis may read a tier of an engine now: in a quiet window of its core, one read-back a window, calibration first, nothing else on the
engine (R186, R200, R283). -/
def State.mayDiagRead (s : State) (eng : Nat) : Bool :=
  let e := s.engine eng
  s.quietFor (eng / 16) && !s.pwr.stalled && !s.boundaryDue && !s.calFirst eng && !s.pairUnderWay eng && !(s.kpr.passes.any (fun p => p.eng == eng)) &&
  !(s.slots.programs.any (fun p => p.eng == eng)) &&
  (match e.diag with | some d => d.readAt != some s.beat.count | none => false)

/-- A read-back of a tier (R200; R348 at power-up): its passes, for which a stall leaves no room (spec/13 R535). -/
def diagReadback (eng tier : Nat) (cells : List CellRead) (s : State) : State :=
  match s.tileAt eng tier with
  | some (_, _, _, t) =>
    if s.pwr.stalled then s
    else if t.state == .verify then (s.readBack eng tier).verifyTile eng tier cells
    else if s.mayDiagRead eng then s.diagRead eng tier cells else s
  | none => if s.mayDiagRead eng then s.diagRead eng tier cells else s

/-- DIAG_READBACK_DONE. -/
def execDiagReadbackDone (t eng tier : Nat) (cells : List CellRead) (s : State) : Host.Outcome State Fault Refusal :=
  if eng < s.numEngines ∧ tier < 4 then .next (diagReadback eng tier cells (s.at t)) else .fault .noSuchUnit

/-- Cores with a due engine that started no stage in the beat that ends (R285). -/
def State.calSkipped (s : State) : State :=
  let cores := ((s.eng.filter (fun x => x.2.due.isSome)).map (fun x => x.1 / 16)).eraseDups
  let n := (cores.filter (fun c => !(s.cal.stageEngs.any (fun e => e / 16 == c)))).length
  if n = 0 then s else s.inc .CAL_SKIPPED_BEATS n

/-- One beat less of each stand-off (R281). -/
def State.standoffTick (s : State) : State :=
  { s with eng := s.eng.map (fun x => match x.2.standoff with
      | some (n + 1) => (x.1, { x.2 with standoff := some n })
      | _ => x) }

/-- CAL_RUN_REQ places an engine in class 1 (R299, R269). -/
def State.calRequest (s : State) (eng : Nat) : State :=
  let e := s.engine eng
  if e.retired then s else
  match e.due with
  | none => s.putEngine eng { e with due := some 1, dueSince := s.now, standoff := none }
  | some 0 => s
  | some 1 => s
  | some _ => s.putEngine eng { e with due := some 1, dueSince := s.now }

/-! ### Objects -/

/-- CAL_STATE (Table 7.11). -/
def State.calState (s : State) (eng : Nat) : Nat :=
  let e := s.engine eng
  let held := s.dieHalted eng || s.engineState eng != .online || e.standoff.isSome
  match e.run with
  | some r => if r.ready then 3 else if held then 4 else if r.running == some 0 then 1 else 2
  | none => if e.standoff.isSome then 4 else if e.due.isNone then 0 else if held then 4 else 1

/-- Groups' fields packed from the lowest group. -/
def packGroups (m : Map Nat) (w : Nat) : Nat := ((List.range 17).map (fun n => mapGet m n 0 * 2 ^ (w * n))).foldl (· + ·) 0

/-- CAL_INFO (Table 7.10). -/
def State.calInfo (s : State) (eng : Nat) : Bytes :=
  let e := s.engine eng
  let next := match e.run with
    | some r => (match r.running with
      | some st => st
      | none => (e.leftStages r).headD 255)
    | none => if e.due.isSome then 0 else 255
  let untr := (e.tiers.zipIdx.map (fun x => if x.1.trimmed then 0 else 2 ^ x.2)).foldl (· + ·) 0
  leBytes 4 (s.uidEngine eng) ++ leBytes 1 (s.calState eng) ++ leBytes 1 (e.due.getD 255) ++ leInt 1 e.active.rampTrim ++
  leBytes 1 next ++ leBytes 5 (packGroups e.active.rampSel 2) ++ zeros 3 ++ leBytes 9 (packGroups e.active.rampFailed 4) ++
  leBytes 1 untr ++ leInt 2 (e.active.tcal.getD (-32768)) ++
  leInt 2 (match s.tq eng with
    | some r => r.value
    | none => 0) ++ zeros 2 ++
  leBytes 4 e.runsDone ++ leBytes 2 e.runsDiscarded ++ leBytes 2 e.colsRejected ++ leBytes 4 e.nvWrites ++
  leBytes 4 (match e.newest with
    | some r => r.seq
    | none => 0) ++ leBytes 8 e.lastCommit ++ zeros 8

/-- CAL_DT_WORST: the largest difference of the engines (R299; log 18). -/
def State.calWorst (s : State) : Nat := (s.eng.map (fun x => (s.tdiff x.1).getD 0)).foldl max 0

/-- CAL_DUE_COUNT. -/
def State.calDueCount (s : State) : Nat := (s.eng.filter (fun x => x.2.due.isSome)).length

end Sys2Proof.Machine
end

