-- ==== Sys2Proof/Machine/Slots.lean ====
section
/-! DEFINITION. Machine/Slots.lean: puts, programming and verifying tiles, replacement of chunks and versions, scrub, and the part of
a beat boundary that concerns the slots (spec/08 R313–R348). -/
namespace Sys2Proof.Machine
open Sys2Proof

/-- The functions the host may reach: the physical function and the enabled virtual functions (spec/12 R490). -/
def State.fnHere (s : State) (fn : Nat) : Bool := fn == 0 || decide (fn ≤ s.ward.vfs)

/-! ### The put registers (R313, R314) -/

/-- A write of the put registers, ending with PUT_CTRL. -/
def shardPut (fn lo hi len ctrl : Nat) (s : State) : State :=
  if !s.fnHere fn || s.kwClosing fn then s else
  let r := { s.ring fn with addrLo := lo / 64 * 64, addrHi := hi, len := len }
  let s := s.putRing fn r
  if !ctrl.testBit 31 then s else
  let index := ctrl % 65536
  let slot := bits ctrl 16 4
  let x := s.slot slot
  let known := x.owner == fn && s.setI .SLOT_SOURCE slot == 0xFFFF && (x.outstanding index).isSome
  if !known || r.puts.length ≥ 64 then s.putRing fn { r with unrequested := true }
  else
    let gen := match s.namedSlot .DMA_KEY_SLOT fn with
      | some k => if s.keyActive k fn 0 then some (s.keySlot k).gen else none
      | none => none
    s.putRing fn { r with puts := r.puts ++ [{ slot, index, addr := hi * 2 ^ 32 + lo / 64 * 64, len, gen }] }

/-- SHARD_PUT. -/
def execShardPut (t fn addrLo addrHi len ctrl : Nat) (s : State) : Host.Outcome State Fault Refusal :=
  if fn < 64 then .next (shardPut fn addrLo addrHi len ctrl (s.at t)) else .fault .noSuchUnit

/-- PUT_STATUS (Table 8.6). -/
def RingS.putStatus (r : RingS) : Nat := (64 - r.puts.length) + (if r.unrequested then 256 else 0)

/-- A read of PUT_STATUS clears UNREQUESTED. -/
def putStatusRead (fn : Nat) (s : State) : State :=
  let r := s.ring fn
  (s.putRing fn { r with unrequested := false }).emit (.reg r.putStatus)

/-- PUT_STATUS_READ. -/
def execPutStatusRead (t fn : Nat) (s : State) : Host.Outcome State Fault Refusal :=
  if fn < 64 then .next (putStatusRead fn (s.at t)) else .fault .noSuchUnit

/-- A write of RING_CONS makes room for entries that wait (R312). -/
def ringCons (fn v : Nat) (s : State) : State :=
  if !s.fnHere fn || s.kwClosing fn then s else
  let r := s.ring fn
  (s.putRing fn { r with cons := v % 65536 }).drainRing fn r.waiting.length

/-- RING_CONS. -/
def execRingCons (t fn v : Nat) (s : State) : Host.Outcome State Fault Refusal :=
  if fn < 64 then .next (ringCons fn v (s.at t)) else .fault .noSuchUnit

/-- The oldest put's buffer has been read by DMA (R316); `none` when it cannot be read in full. A read that a removal has met, or whose
request has gone, is discarded (spec/12 Table 12.7). -/
def shardArrival (fn : Nat) (buf : Option Bytes) (s : State) : State :=
  let r := s.ring fn
  match r.puts with
  | [] => s
  | p :: rest =>
    if !s.slotOwnerLive p.slot then s else
    let s := s.putRing fn { r with puts := rest }
    if s.kwClosing fn || !s.kwDma fn then s else
    let s := s.emit (.dma fn false p.addr p.len)
    match (s.slot p.slot).outstanding p.index with
    | none => s
    | some (w, v, q, h) =>
      match p.gen with
      | none => s.shardArrived p.slot w v q h buf p.len
      | some g =>
        let key := match s.namedSlot .DMA_KEY_SLOT fn with
          | some k => (s.keySlot k).keyOf g
          | none => none
        let plain := match key, buf with
          | some k, some b => if p.len == 160 + h.payLen && b.length == p.len then openSealed k fn 1 b else none
          | _, _ => none
        let full := match buf with | some b => p.len == 160 + h.payLen && b.length == p.len | none => false
        match plain with
        | some b => s.shardArrived p.slot w v q h (some b) b.length
        | none => (if full then s.sealedFail fn else s).shardArrived p.slot w v q h none 0

/-- SHARD_ARRIVAL. -/
def execShardArrival (t fn : Nat) (buf : Option Bytes) (s : State) : Host.Outcome State Fault Refusal :=
  if fn < 64 then .next (shardArrival fn buf (s.at t)) else .fault .noSuchUnit

/-- SHARD_TIMEOUT beats have passed since a request with no put (R317); in SEEKING, 20 ms intervals. -/
def State.shardLate (s : State) (q : ShardReq) : Bool :=
  match q.beat with
  | none => false
  | some b => decide (s.beatsSince b ≥ s.set0 .SHARD_TIMEOUT)

/-- A request has received no put within SHARD_TIMEOUT (R317, R318). -/
def shardTimeout (slot index : Nat) (s : State) : State :=
  match (s.slot slot).outstanding index with
  | none => s
  | some (_, v, q, _) =>
    if !s.shardLate q || !s.slotOwnerLive slot || (s.ring (s.slot slot).owner).puts.any (fun p => p.slot == slot && p.index == index) then s
    else s.retryReq slot v q 4

/-- SHARD_TIMEOUT. -/
def execShardTimeout (t slot index : Nat) (s : State) : Host.Outcome State Fault Refusal :=
  if slot < 16 then .next (shardTimeout slot index (s.at t)) else .fault .noSuchUnit

/-! ### Placing a chunk again (R325, R326, R335) -/

/-- A new place for a chunk (R321) on cores that satisfy a test. -/
def State.placeOn (s : State) (core : Nat → Bool) (n : Nat) (ts : List Tile) : Option (Nat × List Nat) :=
  s.findPlace ((s.quotaCores (s.slot n).owner).filter core) (s.busyEngines (fun _ _ => false)) [] ts.length

/-- A new place for a chunk (R321). -/
def State.placeAgain (s : State) (n : Nat) (ts : List Tile) : Option (Nat × List Nat) := s.placeOn (fun _ => true) n ts

/-- A version asks for a tile's shard with REASON 0x06 when it has no image for it and no request that stands. -/
def Version.askFor (v : Version) (t : Tile) : Version :=
  if t.image.isEmpty && !(v.reqs.any (fun q => q.index == t.shard)) then v.ask t.shard 6 else v

/-- Place a chunk of a loading version again: its tiles move and are programmed anew; no fit refuses the load with code 3 (R341). -/
def State.movechunk (s : State) (n : Nat) (w : Which) (v : Version) (chunk : Nat) : State :=
  let ts := v.tiles.filter (fun t => t.chunk == chunk)
  match s.placeAgain n ts with
  | none => s.loadFail n 3
  | some (tier, engs) =>
    let moved := (ts.zip engs).map (fun p => { p.1 with eng := p.2, tier := tier, state := TileState.waiting, tries := 0 })
    let s := { s with slots := { s.slots with programs := s.slots.programs.filter (fun p => !(ts.any (fun t => t.eng == p.eng && t.tier == p.tier))) } }
    s.mapVer n w (fun v => moved.foldl Version.askFor { v with tiles := v.tiles.filter (fun t => t.chunk != chunk) ++ moved })

/-- Place a chunk of a version in service again beside its old tiles (R335): the new ones are programmed from the reference images. No
fit, or no pages for the images, leaves the tile under R333, to be tried again. The cores that satisfy a test may take it. -/
def State.replaceOn (s : State) (core : Nat → Bool) (n : Nat) (w : Which) (v : Version) (chunk : Nat) : State :=
  let ts := v.tiles.filter (fun t => t.chunk == chunk && !t.replacing)
  let fail := s.mapVer n w (fun v => { v with retry := mapSet v.retry chunk s.beat.count })
  match s.placeOn core n ts with
  | none => fail
  | some (tier, engs) =>
    if !(s.devFits .images (ts.length * imageBytes)) then fail else
    let new := (ts.zip engs).map (fun p => { p.1 with eng := p.2, tier := tier, state := TileState.waiting, tries := 0, again := false, replacing := true })
    let s := s.devTake .images (ts.length * imageBytes)
    (s.mapVer n w (fun v => { v with tiles := v.tiles ++ new, retry := mapDel v.retry chunk })).writeRecord n

/-- Place a chunk again on any core of its owner's quota. -/
def State.replaceChunk (s : State) (n : Nat) (w : Which) (v : Version) (chunk : Nat) : State := s.replaceOn (fun _ => true) n w v chunk

/-- A version of a slot serves requests, or is still served: it is current with no load of its own, or old. -/
def State.inService (s : State) (n : Nat) (w : Which) : Bool :=
  let x := s.slot n
  match w with
  | .cur => x.phase == .none || x.phase == .beside || x.phase == .drain
  | .old => true
  | .pend => false

/-- A tile that cannot be programmed where it stands is placed again (R325, R326, R335). -/
def State.tileAgain (s : State) (eng tier : Nat) : State :=
  match s.tileAt eng tier with
  | none => s
  | some (n, w, v, t) =>
    if t.replacing then
      let ts := v.tiles.filter (fun x => x.chunk == t.chunk && x.replacing)
      let s := { s with slots := { s.slots with programs := s.slots.programs.filter (fun p => !(ts.any (fun x => x.eng == p.eng && x.tier == p.tier))) } }
      let s := s.devGive .images (ts.length * imageBytes)
      let s := s.mapVer n w (fun v => { v with tiles := v.tiles.filter (fun x => !(x.chunk == t.chunk && x.replacing)) })
      match (s.slot n).ver w with
      | some v => s.replaceChunk n w v t.chunk
      | none => s
    else if s.inService n w then
      (if v.tiles.any (fun x => x.chunk == t.chunk && x.replacing) || (mapFind v.retry t.chunk).isSome then s else s.replaceChunk n w v t.chunk)
    else s.movechunk n w v t.chunk

/-- A replacement is tried again every 256 beats (R335). -/
def replaceRetry (slot chunk : Nat) (s : State) : State :=
  let due (w : Which) : Option (Which × Version) :=
    match (s.slot slot).ver w with
    | none => none
    | some v => match mapFind v.retry chunk with
      | none => none
      | some b => if s.beat.count ≥ b + 256 then some (w, v) else none
  match (if s.slotOwnerLive slot then [Which.cur, Which.old].findSome? due else none) with
  | none => s
  | some (w, v) => s.replaceChunk slot w v chunk

/-- REPLACE_RETRY. -/
def execReplaceRetry (t slot chunk : Nat) (s : State) : Host.Outcome State Fault Refusal :=
  if slot < 16 then .next (replaceRetry slot chunk (s.at t)) else .fault .noSuchUnit

/-! ### Programming (R323–R328) -/

/-- Programs in progress and one more stay within PROG_POWER_MAX (R327): PROG_W_TIER is a ratio of integers. -/
def State.powerForProgram (s : State) : Bool :=
  let w := F32.toRatio (BitVec.ofNat 32 (s.count ⟨.PROG_W_TIER, 0, 0⟩))
  decide (((s.slots.programs.length + 1 : Nat) : Int) * w.1 ≤ (s.set0 .PROG_POWER_MAX : Int) * 2 ^ w.2)

/-- A tier program may start: the tile waits with its image, the tier is GOOD (R321, R336), the engine is ONLINE with nothing running on it, no pair
under way and no READY run (Table 7.7), and power permits. -/
def State.mayProgram (s : State) (eng tier : Nat) : Bool :=
  let e := s.engine eng
  (match s.tileAt eng tier with | some (_, _, _, t) => t.state == .waiting && !t.image.isEmpty && !t.imageBad | none => false) &&
  s.engineState eng == .online && (e.tier tier).health == .good && !s.pairUnderWay eng && !(s.slots.programs.any (fun p => p.eng == eng)) &&
  !(s.kpr.passes.any (fun p => p.eng == eng)) && (match e.run with | some r => !r.ready | none => true) && s.powerForProgram

/-- A tier's erase begins: every cell goes to level 0, its program count rises, and at 10,000 it is WORN (R168, R209, R323, R324). -/
def State.eraseTier (s : State) (eng tier : Nat) : State :=
  let t := (s.engine eng).tier tier
  let n := t.programs + 1
  let s := s.changeTier eng tier { t with weights := [], refs := false, spareCols := [], programs := n, trimmed := false, health := if n ≥ 10000 && t.health == .good then .worn else t.health }
  let s := s.inc .PROG_TIERS_COUNT
  if n == 10000 then s.raise 0x4504 0xFF (s.uidTier eng tier) else s

/-- A tile waits to be programmed on a tier that takes no more programs: a SUSPECT, WORN or RETIRED one (R321, R325, R326, R336). -/
def State.waitsElsewhere (s : State) (eng tier : Nat) : Bool :=
  ((s.engine eng).tier tier).health != .good &&
  (match s.tileAt eng tier with | some (_, _, _, t) => t.state == .waiting && !t.image.isEmpty && !t.imageBad | none => false)

/-- A tier program starts; a calibration run in progress on the engine is abandoned (Table 7.7). A tile on a tier that takes no more programs is placed
again instead. -/
def tierProgramStart (eng tier : Nat) (s : State) : State :=
  if s.waitsElsewhere eng tier then s.tileAgain eng tier else
  if !s.mayProgram eng tier || s.pwr.stalled then s else
  let e := s.engine eng
  let s := s.putEngine eng { e with run := none, shadow := e.active }
  let s := s.mapTile eng tier (fun t => { t with state := .programming })
  let slot := match s.tileAt eng tier with | some (n, _, v, _) => (n, v.number) | none => (0, 0)
  let s := { s with slots := { s.slots with programs := s.slots.programs ++ [(⟨eng, tier, slot.1, slot.2, false⟩ : Program)] } }
  s.eraseTier eng tier

/-- TIER_PROGRAM_START. -/
def execTierProgramStart (t eng tier : Nat) (s : State) : Host.Outcome State Fault Refusal :=
  if eng < s.numEngines ∧ tier < 4 then .next (tierProgramStart eng tier (s.at t)) else .fault .noSuchUnit

/-- Spares tried for a column within the tier program (R203, R204, R325): those that fail verify are BAD, the first that verifies takes
the column through the shadow bank; with none left the tier is retired (R210). -/
def State.progRemap (s : State) (eng tier col : Nat) (badSpares : List Nat) : State :=
  let e := s.engine eng
  let t := e.tier tier
  let el := (List.range 32).filter (e.spareOpen tier)
  let good := el.find? (fun sp => !badSpares.contains sp)
  let tried := el.filter (fun sp => badSpares.contains sp && (match good with | some g => decide (sp < g) | none => true))
  let t := tried.foldl TierS.badSpare t
  let s := match good with
    | some g => s.putTier eng tier { (t.withSpare g (s.columnOf eng tier col)) with shadowMap := mapSet (t.released col) g ⟨true, false, false, col⟩ }
    | none => (s.putTier eng tier t).retireTier eng tier
  s.sparesLowAll eng e.sparesFree

/-- Remap columns one after another. -/
def State.progRemaps (s : State) (eng tier : Nat) (badSpares : List Nat) : List Nat → State
  | [] => s
  | c :: r => (s.progRemap eng tier c badSpares).progRemaps eng tier badSpares r

/-- Columns that need a spare after a tier program: those with a cell outside its window, and those served by a spare that failed. -/
def TierS.badColumns (t : TierS) (bad badSpares : List Nat) : List Nat :=
  (bad ++ (t.remap.filter (fun p => p.2.v && badSpares.contains p.1)).map (fun p => p.2.column)).eraseDups

/-- A tier's cells after a program of an image (R323, R326): its weights, its reference rows, the spares with a valid entry, and COLMAX of every
place; a spare with a valid entry that failed is BAD (R204). -/
def TierS.programmed (t : TierS) (img : Bytes) (badSpares : List Nat) : TierS :=
  let spares := (t.remap.filter (fun p => p.2.v && !badSpares.contains p.1)).map (fun p => (p.1, columnDigits img p.2.column))
  let mx := spares.foldl (fun (m : Map Nat) p => mapSet m (512 + p.1) (largestDigit p.2)) (colMaxes img)
  let dead := (t.remap.filter (fun p => p.2.v && badSpares.contains p.1)).map Prod.fst
  dead.foldl TierS.badSpare
    { t with weights := img.take digitBytes, refs := true, spareCols := spares.foldl (fun m p => mapSet m p.1 p.2) [], colmax := mx }

/-- The tier on which a program has ended is read back (R200, R326). -/
def State.programRead (s : State) (eng tier : Nat) : State :=
  let s := s.readBack eng tier
  let x := (s.engine eng).tier tier
  s.putTier eng tier { x with scrubHour := s.opHours, overdue := false }

/-- A tier program ends (R325, R326, R328): `bad` columns and `badSpares` hold a cell outside its window, `cells` the
read-back, `energy` the program's energy in microjoules, charged to the beat's budget (R327). -/
def tierProgramDone (eng tier : Nat) (bad badSpares : List Nat) (cells : List CellRead) (energy : Nat) (s : State) : State :=
  if !(s.slots.programs.any (fun p => p.eng == eng && p.tier == tier)) then s else
  let s := { s with slots := { s.slots with programs := s.slots.programs.filter (fun p => !(p.eng == eng && p.tier == tier)) }
                    kpr := { s.kpr with energy := s.kpr.energy + energy * 1000000 * 2 ^ 32 } }
  match s.tileAt eng tier with
  | none => s
  | some (_, _, _, t) =>
    let x := (s.engine eng).tier tier
    let s := (s.putTier eng tier (x.programmed t.image badSpares)).progRemaps eng tier badSpares (x.badColumns bad badSpares)
    let x := (s.engine eng).tier tier
    if x.retiring || x.health == .retired then s.tileAgain eng tier
    else
      let s := s.programRead eng tier
      if readsTrue t.image cells then
        let s := s.mapTile eng tier (fun t => { t with state := .awaitCal, tries := 0 })
        let e := s.engine eng
        s.putEngine eng { e with due := some 0, dueSince := if e.due = some 0 then e.dueSince else s.now, standoff := none }
      else if t.tries == 0 then s.mapTile eng tier (fun t => { t with state := .waiting, tries := 1 })
      else
        let x := (s.engine eng).tier tier
        ((s.changeTier eng tier { x with health := .suspect }).mapTile eng tier (fun t => { t with state := .waiting })).tileAgain eng tier

/-- TIER_PROGRAM_DONE: `bad` are the columns with a weight cell outside its window, `badRefs` those with a reference cell outside (R323, R325). -/
def execTierProgramDone (t eng tier : Nat) (bad badSpares badRefs : List Nat) (cells : List CellRead) (energy : Nat) (s : State) :
    Host.Outcome State Fault Refusal :=
  if eng < s.numEngines ∧ tier < 4 then .next (tierProgramDone eng tier (bad ++ badRefs) badSpares cells energy (s.at t)) else .fault .noSuchUnit

/-! ### Spares (R203–R205, R210, R211) -/

/-- A spare may be programmed now: a quiet window of its core, nothing else on its engine (R186, R204). -/
def State.maySpare (s : State) (eng : Nat) : Bool :=
  s.quietFor (eng / 16) && !s.boundaryDue && !(s.kpr.passes.any (fun p => p.eng == eng)) && !s.pairUnderWay eng &&
  !(s.slots.programs.any (fun p => p.eng == eng))

/-- A spare's programming ended for a job (R204, R205): verified, its digits and COLMAX are there and the job's last tier sends its entries to the
shadow bank; failed, it is BAD and the next is chosen. -/
def State.spareTried (s : State) (eng tier : Nat) (j : SpareJob) (ok : Bool) : State :=
  let e := s.engine eng
  if ok then
    let e := e.putTier tier ((e.tier tier).withSpare j.spare (s.columnOf eng tier j.column))
    let j' := { j with left := j.left.filter (· != tier) }
    let s := s.putEngine eng { e with spares := e.spares.map (fun k => if k = j then j' else k) }
    if j'.left = [] then s.shadowRemap eng j' else s
  else
    let x := e.putTier tier ((e.tier tier).badSpare j.spare)
    let s := s.putEngine eng { x with spares := x.spares.filter (fun k => !decide (k = j)) }
    let s := if j.all then s.pathRemap eng j.tier j.column else s.cellRemap eng j.tier j.column
    s.sparesLowAll eng e.sparesFree

/-- Spare programming ends (R204, R205, R207, R210, R211); `energy` is its energy in microjoules, charged to the beat's budget as R204 has the rules of
R327 hold for it. -/
def spareVerified (eng tier spare : Nat) (ok : Bool) (energy : Nat) (s : State) : State :=
  match (s.engine eng).spares.find? (fun j => j.spare == spare && j.left.contains tier) with
  | none => s
  | some j =>
    if s.maySpare eng then
      ({ s with kpr := { s.kpr with energy := s.kpr.energy + energy * 1000000 * 2 ^ 32 } } : State).spareTried eng tier j ok
    else s

/-- SPARE_VERIFIED. -/
def execSpareVerified (t eng tier spare : Nat) (ok : Bool) (energy : Nat) (s : State) : Host.Outcome State Fault Refusal :=
  if eng < s.numEngines ∧ tier < 4 ∧ spare < 32 then .next (spareVerified eng tier spare ok energy (s.at t)) else .fault .noSuchUnit

/-! ### Scrub (R342–R345) -/

/-- Scrub may read a tier of an engine now: a placed tile with its image, in a quiet window of the core, after calibration and diagnosis, nothing else
on the engine (R186, R342). -/
def State.mayScrub (s : State) (eng tier : Nat) : Bool :=
  let e := s.engine eng
  s.quietFor (eng / 16) && !s.pwr.stalled && !s.boundaryDue && !s.calFirst eng && !s.mayDiagRead eng && !(s.kpr.passes.any (fun p => p.eng == eng)) &&
  !s.pairUnderWay eng && !(s.slots.programs.any (fun p => p.eng == eng)) && (e.tier tier).health != .retired &&
  (match s.tileAt eng tier with
   | some (_, _, _, t) => t.state == .ready && !t.image.isEmpty
   | none => false)

/-- Tiers of a core as engine and tier. -/
def coreTiers (core : Nat) : List (Nat × Nat) :=
  (List.range 16).flatMap (fun i => (List.range 4).map (fun t => (16 * core + i, t)))

/-- A tier is the one that its core's scrub reads next: within SCRUB_TIERS_PER_CORE of this window, and no tier that may be read was last read before
it (R342). A tile whose image failed its digest is read for the two-way test at once (R344). -/
def State.scrubNext (s : State) (eng tier : Nat) : Bool :=
  let l := coreTiers (eng / 16)
  let x := (s.engine eng).tier tier
  let done := l.filter (fun p => ((s.engine p.1).tier p.2).scrubIn == some s.beat.count)
  s.mayScrub eng tier &&
  ((match s.tileAt eng tier with | some (_, _, _, t) => t.imageBad || t.badNext | none => false) ||
   (done.length < s.set0 .SCRUB_TIERS_PER_CORE && x.scrubIn != some s.beat.count &&
    l.all (fun p => !s.mayScrub p.1 p.2 || x.scrubAt ≤ ((s.engine p.1).tier p.2).scrubAt)))

/-- A tile's image, where it has failed its digest, is what its cells and the record give (R344). -/
def Version.rebuild (v : Version) (t : Tile) (img : Bytes) : Version :=
  { v with tiles := v.tiles.map (fun x =>
      if x.shard == t.shard && x.rowOff == t.rowOff && x.colOff == t.colOff && (x.imageBad || x.badNext)
      then { x with image := img, imageBad := false, badNext := false } else x) }

/-- The two-way test of a tile whose image failed its digest (R344): digits that match the record rebuild the image, others ask for the shard
again, and the tile is programmed from it. -/
def State.twoWay (s : State) (eng tier : Nat) (n : Nat) (w : Which) (t : Tile) (cells : List CellRead) : State :=
  let x := (s.engine eng).tier tier
  let img := t.rebuilt x
  if readsTrue x.readDigits cells && sha384 img == t.digest then
    ((s.mapVer n w (fun v => v.rebuild t img)).inc .IMAGE_REBUILD_COUNT).raise 0x4805 (s.slot n).owner (s.uidTier eng tier) n t.layer t.chunk
  else
    let again (y : Tile) : Tile := { y with state := .waiting, again := true, imageBad := true, badNext := false }
    ((s.mapTile eng tier again).mapVer n w (fun v => v.ask t.shard 6)).issueSlot n

/-- A placed tier has been read back (R342, R344). -/
def scrubReadback (eng tier : Nat) (cells : List CellRead) (s : State) : State :=
  match s.tileAt eng tier with
  | none => s
  | some (n, w, _, t) =>
    if !s.scrubNext eng tier then s else
    let s := s.readBack eng tier
    let x := (s.engine eng).tier tier
    let s := (s.putTier eng tier { x with scrubHour := s.opHours, overdue := false, scrubAt := s.notchClock, scrubIn := some s.beat.count }).inc
      .SCRUB_TIERS_COUNT
    if t.imageBad || t.badNext then s.twoWay eng tier n w t cells
    else
      let m := x.mismatches t.image cells
      if m.isEmpty then s else
      let cols := (m.map Prod.snd).eraseDups
      let lowest := cols.foldl min (cols.headD 0)
      let s := s.inc .SCRUB_MISMATCH_COUNT m.length
      let s := s.raise 0x4802 (s.slot n).owner (s.uidTier eng tier) m.length lowest (if m.all (fun p => p.1 ≥ 512) then 0xFF else n)
      s.flagColumns eng tier cols

/-- SCRUB_READBACK. -/
def execScrubReadback (t eng tier : Nat) (cells : List CellRead) (s : State) : Host.Outcome State Fault Refusal :=
  if eng < s.numEngines ∧ tier < 4 then .next (scrubReadback eng tier cells (s.at t)) else .fault .noSuchUnit

/-- A placed tier has passed SCRUB_INTERVAL hours of operation unread: once per tier (R343). -/
def scrubOverdue (eng tier : Nat) (s : State) : State :=
  match s.tileAt eng tier with
  | none => s
  | some (n, _, _, _) =>
    let x := (s.engine eng).tier tier
    if x.overdue || s.opHours < x.scrubHour + s.set0 .SCRUB_INTERVAL then s else
    ((s.putTier eng tier { x with overdue := true }).inc .SCRUB_OVERDUE).raise 0x4804 (s.slot n).owner (s.uidTier eng tier)
      (s.opHours - x.scrubHour) n

/-- SCRUB_OVERDUE. -/
def execScrubOverdue (t eng tier : Nat) (s : State) : Host.Outcome State Fault Refusal :=
  if eng < s.numEngines ∧ tier < 4 then .next (scrubOverdue eng tier (s.at t)) else .fault .noSuchUnit

/-- Bytes of a memory object that faults have changed: offset and byte found. -/
def applyFlips (b : Bytes) (f : List (Nat × Byte)) : Bytes := f.foldl (fun x p => x.set p.1 p.2) b

/-- A reference image's digest is recomputed over the bytes found (R344): a tile that fails is under R333 from the next boundary. -/
def imageCheck (eng tier : Nat) (flips : List (Nat × Byte)) (s : State) : State :=
  match s.tileAt eng tier with
  | none => s
  | some (_, _, _, t) =>
    let found := applyFlips t.image flips
    if sha384 found == t.digest then s else s.mapTile eng tier (fun t => { t with image := found, badNext := true })

/-- IMAGE_DIGEST_CHECK. -/
def execImageDigestCheck (t eng tier : Nat) (flips : List (Nat × Byte)) (s : State) : Host.Outcome State Fault Refusal :=
  if eng < s.numEngines ∧ tier < 4 then .next (imageCheck eng tier flips (s.at t)) else .fault .noSuchUnit

/-- A memory-resident shard's digest is recomputed over the bytes found (R345): a copy that fails is dropped, a digital-tier layer that
fails faults the steps that need it; the shard is asked for again. The first of the slot's versions that holds the shard is meant: current,
pending, old (log 26). -/
def digitalCheck (n index : Nat) (flips : List (Nat × Byte)) (s : State) : State :=
  match [Which.cur, .pend, .old].findSome? (fun w => ((s.slot n).ver w).bind (fun v => if v.held.any (fun p => p.1 == index) then some (w, v) else none)) with
  | none => s
  | some (w, v) =>
    match v.held.find? (fun p => p.1 == index), v.shards.find? (fun h => h.index == index) with
    | some p, some h =>
      let found := applyFlips p.2 flips
      if shardDigest h.bytes found == hdrDigest h.bytes || v.badHeld.contains index then s else
      let s := s.mapVer n w (fun v =>
        let v := v.ask index 7
        if h.kind == 2 then { v with held := v.held.filter (fun q => q.1 != index) }
        else { v with held := v.held.map (fun q => if q.1 == index then (index, found) else q), badHeld := v.badHeld ++ [index] })
      let s := s.raise 0x8803 (s.slot n).owner 0 n v.number index
      let s := if h.kind == 3 then s.faultAll .layerLost (s.inStep (fun r => r.slot == n && r.version == v.number)) else s
      s.issueSlot n
    | _, _ => s

/-- DIGITAL_DIGEST_CHECK. -/
def execDigitalDigestCheck (t slot index : Nat) (flips : List (Nat × Byte)) (s : State) : Host.Outcome State Fault Refusal :=
  if slot < 16 then .next (digitalCheck slot index flips (s.at t)) else .fault .noSuchUnit

/-! ### Commands (R332, R338–R341) -/

/-- A request, or its draft, is pinned to a version of a slot (R337, R407). -/
def ReqS.pinned (r : ReqS) (n v : Nat) : Bool :=
  r.active && r.state != .queued && ((r.slot == n && r.version == v) || (r.draftSlot == n && r.draftVersion == v))

/-- A request is pinned to a version. -/
def State.pinned (s : State) (n v : Nat) : Bool := s.srv.reqs.any (fun p => p.2.pinned n v)

/-- Requests that satisfy a test end at the next item 3, with a cause. -/
def State.endSoon (s : State) (cause : Nat) (p : ReqS → Bool) : State :=
  { s with srv := { s.srv with reqs := s.srv.reqs.map (fun x =>
      if x.2.active && x.2.ending.isNone && p x.2 then (x.1, { x.2 with ending := some (cause, 0), batch := none }) else x) } }

/-- The outcome of a SLOT_CMD. -/
def State.cmdResult (s : State) (n r : Nat) : State := s.putSlot n { s.slot n with result := r }

/-- A load refused by its checks is a failed load (R311, R319, Table 8.11): with no version placed the slot is FAULT; a current version serves on. -/
def State.refuseLoad (s : State) (n code : Nat) : State :=
  let v := hdrVersion (manifestOf (ovBytes (s.setting ⟨.SLOT_MANIFEST, n, 0⟩)))
  let s := (s.putSlot n { s.slot n with result := 3, fail := code }).ringPush n 0x82 0xFFFF v code
  let s := if (s.slot n).cur.isSome then s else s.slotTo n .fault
  s.raise 0x8801 (s.slot n).owner 0 n v code

/-- LOAD at its boundary (R332, R338–R341). -/
def State.slotLoad (s : State) (n : Nat) : State :=
  let x := s.slot n
  let busy := x.pend.isSome || x.old.isSome || x.phase != .none || x.state == .loading || x.state == .programming || x.state == .verifying ||
    x.state == .draining
  if busy then s.cmdResult n 2 else
  let m := manifestOf (ovBytes (s.setting ⟨.SLOT_MANIFEST, n, 0⟩))
  let l := manifestHdrs m
  let none_ : Nat → Which → Bool := fun _ _ => false
  let take (s : State) (ts : List Tile) (staged : Bool) : State :=
    (s.devTake .images (ts.length * imageBytes)).memTake x.owner (heldBytes l + (if staged then stageBytes l else 0))
  match x.cur with
  | none =>
    let c := s.manifestCode n m none_ false
    if c != 0 then s.refuseLoad n c else
    let ts := (s.place x.owner none_ l).getD []
    let s := take s ts false
    let s := s.putSlot n { s.slot n with result := 1, fail := 0, phase := .first, cur := some (newVersion m ts) }
    ((s.slotTo n .loading).allAccepted n .cur).issueSlot n
  | some _ =>
    let mode := s.setI .SWAP_MODE n
    let c := s.manifestCode n m none_ false
    if mode != 2 && c == 0 then
      let ts := (s.place x.owner none_ l).getD []
      let s := take s ts false
      let s := s.putSlot n { s.slot n with result := 1, fail := 0, phase := .beside, swapSt := .loading, recorded := false
                                           pend := some (newVersion m ts) }
      (s.allAccepted n .pend).issueSlot n
    else if mode == 1 || (mode == 0 && c != 3 && c != 4) then s.refuseLoad n c
    else
      let c := s.manifestCode n m (fun k w => k == n && w == .cur) true
      if c != 0 then s.refuseLoad n c else
      let s := take s [] true
      let s := s.putSlot n { s.slot n with result := 1, fail := 0, phase := .drain, drained := 0, pend := some (newVersion m []) }
      ((s.slotTo n .draining).allAccepted n .pend).issueSlot n

/-- ABORT at its boundary (R332): a load in progress or a pending version. -/
def State.slotAbort (s : State) (n : Nat) : State :=
  let x := s.slot n
  if x.phase = .none || x.phase = .verify then s.cmdResult n 2 else (s.loadFail n 9 false).cmdResult n 1

/-- Every version of a slot is freed, and the slot is EMPTY (Table 8.8; spec/12 Table 12.6 step 5). -/
def State.wipeSlot (s : State) (n : Nat) : State :=
  let x := s.slot n
  let s := (match x.cur with | some v => s.freeVersion n v false | none => s)
  let s := (match x.pend with | some v => s.freeVersion n v (x.phase == LoadPhase.drain) | none => s)
  let s := (match x.old with | some v => s.freeVersion n v false | none => s)
  let r := s.ring x.owner
  let s := s.putRing x.owner { r with waiting := r.waiting.filter (fun e => !(e.1 == n && e.2.1 < 0x80)), puts := r.puts.filter (fun p => p.slot != n) }
  let s := s.putSlot n { s.slot n with cur := none, pend := none, old := none, phase := .none, swapSt := .none, recorded := false }
  (s.slotTo n .empty).writeRecord n

/-- EMPTY at its boundary (R332): frees every version of a slot that is OFF. -/
def State.slotEmpty (s : State) (n : Nat) : State :=
  if (s.func (.slot n)).state != .off then s.cmdResult n 2 else (s.wipeSlot n).cmdResult n 1

/-- A SLOT_CMD takes effect (R332). -/
def State.slotCmd (s : State) (n cmd : Nat) : State :=
  match cmd with
  | 1 => s.slotLoad n
  | 2 => s.slotAbort n
  | 3 => s.slotEmpty n
  | _ => s

/-! ### The slots' part of a boundary -/

/-- Table 8.9 step 5: the old version is freed with no request pinned to it. -/
def State.freeOld (s : State) (n : Nat) : State :=
  let x := s.slot n
  match x.old with
  | none => s
  | some v =>
    if s.pinned n v.number then s else
    let s := s.freeVersion n v false
    let s := s.putSlot n { s.slot n with old := none, swapSt := .none }
    (s.writeRecord n).raise 0x1803 x.owner 0 n v.number

/-- Table 8.9 step 4: cutover, at the first boundary after the record is written. -/
def State.cutover (s : State) (n : Nat) : State :=
  let x := s.slot n
  match x.pend with
  | none => s
  | some v =>
    let sound := v.tiles.all (fun t => let h := ((s.engine t.eng).tier t.tier).health; h != .suspect && h != .retired)
    if !(x.recorded && x.phase = .beside && sound) then s else
    let s := s.putSlot n { x with cur := some v, old := x.cur, pend := none, swapSt := .cutover, recorded := false, phase := .none }
    s.raise 0x1802 x.owner 0 n v.number ((x.cur.map (·.number)).getD 0)

/-- Table 8.10 step 2: with no request pinned, the old version is freed and the new one placed and programmed; at 1,024 beats the pinned
requests that remain end as cancelled. -/
def State.drainStep (s : State) (n : Nat) : State :=
  let x := s.slot n
  match x.phase, x.cur, x.pend with
  | .drain, some old, some new =>
    let s := s.putSlot n { x with drained := x.drained + 1 }
    if s.pinned n old.number then
      if x.drained + 1 ≥ 1024 then s.endSoon 4 (fun r => r.pinned n old.number) else s
    else
      let s := s.freeVersion n old false
      match s.place x.owner (fun k w => k == n && w == .cur) new.shards with
      | none => (s.putSlot n { s.slot n with cur := some new, pend := none, phase := .placed }).loadFail n 3
      | some ts =>
        let s := s.devTake .images (ts.length * imageBytes)
        let s := s.memGive x.owner (stageBytes new.shards)
        let v := { new with tiles := ts, nextChunk := (ts.map (fun t => t.chunk + 1)).foldl max 0, staged := [] }
        let s := s.putSlot n { s.slot n with cur := some v, pend := none, phase := .placed }
        let s := (s.slotTo n .programming).writeRecord n
        new.staged.foldl (fun (s : State) p =>
          match v.shards.find? (fun h => h.index == p.1) with
          | some h => s.imageTiles n .cur h p.2
          | none => s) s
  | _, _, _ => s

/-- New tiles of a chunk stand for the old ones at the first boundary after every one is ready (R335). -/
def State.swapChunks (s : State) (n : Nat) (w : Which) : State :=
  match (s.slot n).ver w with
  | none => s
  | some v =>
    let done := ((v.tiles.filter (·.replacing)).map (·.chunk)).eraseDups.filter (fun c =>
      (v.tiles.filter (fun t => t.chunk == c && t.replacing)).all (fun t => t.state == .ready))
    let gone := v.tiles.filter (fun t => done.contains t.chunk && !t.replacing)
    if done.isEmpty then s else
    let s := s.devGive .images (gone.length * imageBytes)
    (s.mapVer n w (fun v => { v with tiles := (v.tiles.filter (fun t => !(done.contains t.chunk && !t.replacing))).map (fun t =>
      if done.contains t.chunk then { t with replacing := false } else t) })).writeRecord n

/-- A slot whose function is ON and that has been READY over a boundary serves (Table 8.10 step 4), and one in service is SERVING or
DEGRADED (R334). -/
def State.serveCheck (s : State) (n : Nat) : State :=
  let x := s.slot n
  let want := s.serveState n
  if (x.state == .ready || x.state == .serving || x.state == .degraded) && (s.func (.slot n)).state == .on && x.state != want then
    let s := s.slotTo n want
    if want = .degraded then
      s.raise 0x4803 x.owner 0 n ((x.cur.map (fun v => (v.tiles.filter (s.tileDigital ·)).length)).getD 0)
    else s
  else s

/-- A slot's OPENING is complete once it is READY and a boundary has passed (R331). -/
def State.slotOpened (s : State) (n : Nat) : Bool :=
  (s.func (.slot n)).state == .opening && (s.slot n).state == .ready && decide ((s.slot n).readyFor ≥ 1) && decide (s.funcBeats (.slot n) ≥ 1)

/-- Tiles whose images failed their digest in the beat that ends are under R333 (R344). -/
def State.badImages (s : State) (n : Nat) : State :=
  let f (v : Version) : Version := { v with tiles := v.tiles.map (fun t => if t.badNext then { t with imageBad := true, badNext := false } else t) }
  let x := s.slot n
  s.putSlot n { x with cur := x.cur.map f, pend := x.pend.map f, old := x.old.map f }

/-- What a boundary does to a slot before the calibration commits, while the Hasp core that answers for it is live (R54). -/
def State.slotPre (s : State) (n : Nat) : State :=
  let s := s.badImages n
  if !s.slotOwnerLive n then s else
  let x := s.slot n
  let s := if x.state = .ready then s.putSlot n { x with readyFor := x.readyFor + 1 } else s
  let s := if s.slotOpened n then s.funcTo (.slot n) .on else s
  (((((s.freeOld n).cutover n).drainStep n).swapChunks n .cur).swapChunks n .old).serveCheck n

/-- Chunks of a version with a RETIRED tier are placed again (R335, R341), unless a replacement is under way or waits for its retry. -/
def State.replaceRetired (s : State) (n : Nat) (w : Which) : State :=
  match (s.slot n).ver w with
  | none => s
  | some v =>
    let bad := ((v.tiles.filter (fun t => !t.replacing && ((s.engine t.eng).tier t.tier).health == .retired)).map (·.chunk)).eraseDups.filter (fun c =>
      !(v.tiles.any (fun t => t.chunk == c && t.replacing)) && (mapFind v.retry c).isNone)
    bad.foldl (fun (s : State) c =>
      match (s.slot n).ver w with
      | some v => if s.inService n w then s.replaceChunk n w v c else s.movechunk n w v c
      | none => s) s

/-- What a boundary does to a slot after the calibration commits, while the Hasp core that answers for it is live (R54). -/
def State.slotPost (s : State) (n : Nat) : State :=
  if !s.slotOwnerLive n then s.readyTiles n else
  ((((((s.readyTiles n).readySlot n).replaceRetired n .cur).replaceRetired n .pend).replaceRetired n .old)).issueSlot n

/-- Every slot before the commits. -/
def State.slotsPre (s : State) : State := (s.slots.slots.map Prod.fst).foldl (fun x n => x.slotPre n) s
/-- Every slot after the commits. -/
def State.slotsPost (s : State) : State := (s.slots.slots.map Prod.fst).foldl (fun x n => x.slotPost n) s

/-! ### Objects -/

/-- Tiles of a slot under R333. -/
def State.tilesDigital (s : State) (n : Nat) : Nat :=
  (((s.slot n).cur.map (fun v => (v.tiles.filter (s.tileDigital ·)).length)).getD 0)

/-- ENGINES_IDLE (R321). -/
def State.enginesIdle (s : State) : Nat := s.numEngines - (s.busyEngines (fun _ _ => false)).eraseDups.length

/-- TIERS_FREE: tiers that hold no tile and are GOOD (R321). -/
def State.tiersFree (s : State) : Nat :=
  let held := (s.versions.flatMap (fun p => p.2.2.tiles.map (fun t => (t.eng, t.tier)))).eraseDups
  let notGood := s.eng.flatMap (fun x => (x.2.tiers.zipIdx.filter (fun t => t.1.health != .good)).map (fun t => (x.1, t.2)))
  4 * s.numEngines - (held ++ notGood).eraseDups.length

/-- SLOTS_SERVING. -/
def State.slotsServing (s : State) : Nat :=
  sumNat ((List.range 16).map (fun n => if (s.slot n).state == .serving || (s.slot n).state == .degraded then 2 ^ n else 0))

/-- A chunk entry of PLACE_WINDOW (R351). -/
def State.chunkEntry (s : State) (v : Version) (w : Which) (ts : List Tile) : Bytes :=
  match ts with
  | [] => zeros 16
  | t :: _ =>
    let core := t.eng / 16
    let flags := (if ts.all (fun t => (v.copyOf t).isSome) then 1 else 0) + (if ts.any (s.imageRecompute v) then 2 else 0) +
      (if w = .old then 4 else 0) + (if w = .pend then 8 else 0)
    leBytes 2 t.layer ++ leBytes 2 (t.rowOff / 8192) ++ leBytes 2 (t.colOff / outsOf t.plan) ++ leBytes 4 (s.uidCore core) ++
      leBytes 2 (sumNat (ts.map (fun t => 2 ^ (t.eng % 16)))) ++ leBytes 1 t.tier ++ leBytes 1 flags ++ zeros 2

/-- Chunks of a slot, its versions in order: current, pending, old. -/
def State.chunksOf (s : State) (n : Nat) : List Bytes :=
  (s.versions.filter (fun p => p.1 == n)).flatMap (fun p =>
    ((p.2.2.tiles.map (fun t => (t.chunk, t.replacing))).eraseDups).map (fun c =>
      s.chunkEntry p.2.2 p.2.1 (p.2.2.tiles.filter (fun t => t.chunk == c.1 && t.replacing == c.2))))

/-- PLACE_WINDOW (R351). -/
def State.placeWindow (s : State) (n q : Nat) : Bytes := padTo 1024 (((s.chunksOf n).drop q).take 64).flatten

end Sys2Proof.Machine
end

