-- ==== Sys2Proof/Machine/Hier.lean ====
section
/-! DEFINITION. Machine/Hier.lean: the controllers and their watchdogs, isolation, power quadrants and the hierarchies' part of a
boundary (spec/02 R53–R70). -/
namespace Sys2Proof.Machine
open Sys2Proof

/-! ### Controllers (R55–R63) -/

/-- A unit is a controller: a Hasp core, a die (its steward), a cluster (its steward) or a core (its sequencer) (R59). -/
def isCtrl (u : UnitId) : Bool := [1, 2, 3, 9].contains (uidType u)

/-- 2 ms in picoseconds (R59). -/
def heartbeatLimit : Nat := 2000000000

/-- Number of the Hasp core a UNIT_ID names. -/
def haspOf (u : UnitId) : Option Nat := if uidType u == 9 then some (uidNumber u) else none

/-- A controller's heartbeat reaches its parent (R59). -/
def heartbeat (u : UnitId) (s : State) : State := { s with hier := { s.hier with beatsAt := mapSet s.hier.beatsAt u s.now } }

/-- CONTROLLER_HEARTBEAT. -/
def execControllerHeartbeat (t : Nat) (ctrl : UnitId) (s : State) : Host.Outcome State Fault Refusal :=
  match s.canonUnit ctrl with
  | some u => if isCtrl u then .next (heartbeat u (s.at t)) else .fault .noSuchUnit
  | none => .fault .noSuchUnit

/-- A request entry belongs to a Hasp core (Table 2.3, R63). -/
def State.ownerOf (s : State) (i : Nat) : Nat := s.hier.rangeOwner.getD (i / 4096) 0

/-- Change every request that satisfies a test. -/
def State.mapReqs (s : State) (p : Nat → ReqS → Bool) (f : State → Nat → State) : State :=
  ((s.srv.reqs.filter (fun x => p x.1 x.2)).map Prod.fst).foldl f s

/-- The watch of a controller that runs has passed 2 ms without a heartbeat (R59). -/
def State.silent (s : State) (u : UnitId) : Bool :=
  (s.ownState u == .online || s.ownState u == .resetting) &&
  (match s.hier.watchFrom with
    | none => false
    | some w => decide (s.now ≥ max w (mapGet s.hier.beatsAt u 0) + heartbeatLimit))

/-- What a reset of a controller does to the work of its units (R60, R62): results in flight are discarded; a tier program on a die in
reset begins again from its erase; a Hasp core's requests are held. -/
def State.resetWork (s : State) (u : UnitId) : State :=
  match haspOf u with
  | some hc => s.mapReqs (fun i r => r.active && s.ownerOf i == hc) (fun x i => x.holdReq i .hasp)
  | none =>
    let s := s.discardUnit u
    if uidType u == 1 then
      (s.slots.programs.filter (fun p => s.unitHolds u p.eng)).foldl (fun x p => x.eraseTier p.eng p.tier) s
    else s

/-- The parent that watches a controller is there (R59): the Ward for a Hasp core and, while the step leader restarts, for a die steward; the die
steward for a cluster steward; the cluster steward for a core sequencer. A parent that is itself RESETTING or FAULTED watches nothing. -/
def State.watched (s : State) (u : UnitId) : Bool :=
  let up (p : UnitId) : Bool := s.ownState p != .resetting && s.ownState p != .faulted
  match uidType u with
  | 2 => up (uidDie (uidDieOf u))
  | 3 => up (uidCluster (s.clusterOfCore (s.coreOf u)))
  | _ => true

/-- A controller is FAULTED (R61). Requests that a Hasp core held have ended with it (R62, R63). -/
def State.ctrlFaulted (s : State) (u : UnitId) : State :=
  let s := ((s.setOwn u .faulted).resetWork u).raise 0x8203 0xFF u
  match haspOf u with
  | none => s
  | some hc => s.mapReqs (fun i r => s.ownerOf i == hc && r.state == .held && r.hold == .hasp) (fun x i => x.endReq i 10)

/-- A controller is reset (R60); the beat of the reset that made a live one restart stands for R62. -/
def State.ctrlRestart (s : State) (u : UnitId) (failed : List Nat) : State :=
  let first := s.ownState u != .resetting
  let s := s.setOwn u .resetting
  let s := { s with hier := { s.hier with resets := mapSet s.hier.resets u (s.beat.count :: failed)
                                          resetAt := if first then mapSet s.hier.resetAt u s.beat.count else s.hier.resetAt
                                          beatsAt := mapSet s.hier.beatsAt u s.now
                                          delivered := s.hier.delivered.filter (fun h => some h != haspOf u) } }
  ((s.inc .CTRL_RESET_COUNT).resetWork u).raise 0x4202 0xFF u

/-- A parent resets a silent controller, and marks one that has failed 3 resets within 1,000 beats FAULTED (R60, R61); the Ward may reset any
controller directly (R55). -/
def ctrlReset (u : UnitId) (ward : Bool) (s : State) : State :=
  let failed := (mapGet s.hier.resets u []).filter (fun b => s.beat.count < b + 1000)
  if s.silent u && s.watched u then (if failed.length ≥ 3 then s.ctrlFaulted u else s.ctrlRestart u failed)
  else if ward && s.hier.watchFrom.isSome && (s.ownState u == .online || s.ownState u == .resetting) then s.ctrlRestart u failed
  else s

/-- CTRL_RESET. -/
def execCtrlReset (t : Nat) (ctrl : CtrlOrder) (s : State) : Host.Outcome State Fault Refusal :=
  match s.canonUnit ctrl.unit with
  | some u => if isCtrl u then .next (ctrlReset u ctrl.ward (s.at t)) else .fault .noSuchUnit
  | none => .fault .noSuchUnit

/-- A controller in reset is live again: its latest reset did not fail (R61); a Hasp core's held requests resume when it is live within 2 beats of its
reset (R62). -/
def ctrlRestartDone (u : UnitId) (s : State) : State :=
  if s.ownState u ≠ .resetting then s else
  let s := heartbeat u (s.setOwn u .online)
  let s := { s with hier := { s.hier with resets := mapSet s.hier.resets u ((mapGet s.hier.resets u []).drop 1) } }
  match haspOf u with
  | none => s
  | some hc =>
    if s.beat.count > mapGet s.hier.resetAt u 0 + 2 then s
    else s.mapReqs (fun i r => s.ownerOf i == hc && r.state == .held && r.hold == .hasp && r.ending.isNone) (fun x i => x.releaseReq i)

/-- CTRL_RESTART_DONE. -/
def execCtrlRestartDone (t : Nat) (ctrl : UnitId) (s : State) : Host.Outcome State Fault Refusal :=
  match s.canonUnit ctrl with
  | some u => if isCtrl u then .next (ctrlRestartDone u (s.at t)) else .fault .noSuchUnit
  | none => .fault .noSuchUnit

/-- A Hasp core has not become live within 2 beats of its reset: its held requests are failed, and freed at the next item 3 (R62). -/
def haspHoldExpiry (hc : Nat) (s : State) : State :=
  if s.haspLive hc || s.beat.count < mapGet s.hier.resetAt (uidHasp hc) 0 + 2 then s else
  s.mapReqs (fun i r => s.ownerOf i == hc && r.state == .held && r.hold == .hasp && r.ending.isNone)
    (fun x i => x.putReq i { x.req i with ending := some (10, 0) })

/-- HASP_HOLD_EXPIRY. -/
def execHaspHoldExpiry (t hc : Nat) (s : State) : Host.Outcome State Fault Refusal :=
  if hc < 8 then .next (haspHoldExpiry hc (s.at t)) else .fault .noSuchUnit

/-! ### Isolation (R64–R66) -/

/-- A unit isolated for management: it takes no further work, and Table 7.7 gives what becomes of its runs. -/
def State.isolateNow (s : State) (u : UnitId) : State :=
  (s.setOwn u ((s.ownState u).worse .isolated)).abandonRuns (s.unitHolds u)

/-- A command to isolate a unit for management; without boundaries it takes effect at once (spec/03 R105). -/
def isolateManagement (u : UnitId) (s : State) : State :=
  if s.beat.mode = .seeking then s.isolateNow u
  else if s.hier.isolate.contains u then s else { s with hier := { s.hier with isolate := s.hier.isolate ++ [u] } }

/-- ISOLATE_MANAGEMENT. -/
def execIsolateManagement (t : Nat) (unit : UnitId) (s : State) : Host.Outcome State Fault Refusal :=
  match s.canonUnit unit with
  | some u => .next (isolateManagement u (s.at t))
  | none => .fault .noSuchUnit

/-- ISOLATE_FAULT. -/
def execIsolateFault (t : Nat) (unit : UnitId) (s : State) : Host.Outcome State Fault Refusal :=
  match s.canonUnit unit with
  | some u => .next ((s.at t).isolateFault u)
  | none => .fault .noSuchUnit

/-- Requests in the step whose version has a tile on a unit. -/
def State.placedOn (s : State) (u : UnitId) : List Nat :=
  s.inStep (fun r => match s.versionNo r.slot r.version with
    | some v => v.tiles.any (fun t => !t.replacing && s.unitHoldsTier u t.eng t.tier)
    | none => false)

/-- A step order or steward command for a unit: refused back to its owner when the unit is isolated (R66). The owner has no other place for a tile's
work in the step, so it faults the requests that need it (log 57). -/
def stepOrder (u : UnitId) (s : State) : State :=
  if s.unitState u = .isolated then (s.emit (.orderRefused u)).faultAll .unitIsolated (s.placedOn u) else s

/-- STEP_ORDER. -/
def execStepOrder (t : Nat) (unit : UnitId) (s : State) : Host.Outcome State Fault Refusal :=
  match s.canonUnit unit with
  | some u => .next (stepOrder u (s.at t))
  | none => .fault .noSuchUnit

/-! ### Power quadrants (R67–R70) -/

/-- QUAD_OPEN_DONE: a quadrant has been opened; its clusters take work from the next step on (R69). -/
def quadOpenDone (q : Nat) (s : State) : State :=
  match mapFind s.hier.opening q with
  | none => s
  | some _ =>
    let s := { s with hier := { s.hier with opening := mapDel s.hier.opening q } }
    if s.ownState (uidQuad q) = .gated then
      ({ s with hier := { s.hier with opened := s.hier.opened ++ [q] } } : State).setOwn (uidQuad q) .online
    else s

/-- QUAD_OPEN_DONE. -/
def execQuadOpenDone (t quad : Nat) (s : State) : Host.Outcome State Fault Refusal :=
  if quad < 16 then .next (quadOpenDone quad (s.at t)) else .fault .noSuchUnit

/-- The power quadrant of a core. -/
def State.quadOfCore (s : State) (core : Nat) : Nat := quadOfCluster (s.clusterOfCore core)

/-- Chunks placed in a quadrant that the requests of the coming step use, their drafts among them: slot, version, chunk (R69). -/
def State.quadWork (s : State) (q : Nat) : List (Nat × Which × Version × Nat) :=
  (s.versions.filter (fun p => s.verInStep p.1 p.2.2)).flatMap (fun p =>
    (((p.2.2.tiles.filter (fun t => s.quadOfCore (t.eng / 16) == q && !t.replacing)).map (·.chunk)).eraseDups).map (fun c => (p.1, p.2.1, p.2.2, c)))

/-- Work of the coming step or of the stewards in a quadrant that cannot move: digital-tier outputs, lane tasks of a step that runs on, work of an earlier
step, a tier program (R69). -/
def State.quadHeld (s : State) (q : Nat) : Bool :=
  s.versions.any (fun p => p.2.2.shards.any (fun h => h.kind == 3) && s.verInStep p.1 p.2.2 &&
    (s.digitalCores p.1 p.2.2).any (fun c => s.quadOfCore c == q)) ||
  s.kv.laneUse.any (fun x => quadOfCluster x.1 == q && (s.req x.2).batch.isSome) ||
  s.beat.busyCores.any (fun c => s.quadOfCore c == q) || s.slots.programs.any (fun p => s.quadOfCore (p.eng / 16) == q)

/-- The chunk's replacement is under way. -/
def Version.moving (v : Version) (c : Nat) : Bool := v.tiles.any (fun t => t.chunk == c && t.replacing)

/-- A quadrant is gated: runs in progress on its engines are abandoned (Table 7.7). -/
def State.gateNow (s : State) (q : Nat) : State :=
  let s := { s with hier := { s.hier with gateRefused := if s.hier.gateRefused.testBit q then s.hier.gateRefused - 2 ^ q else s.hier.gateRefused } }
  (s.setOwn (uidQuad q) .gated).abandonRuns (s.unitHolds (uidQuad q))

/-- A request to gate is refused, and the refusal reported once; the request stands, and each boundary tries it again (R70, R84; log 62). -/
def State.gateRefuse (s : State) (q : Nat) : State :=
  if s.hier.gateRefused.testBit q then s
  else ({ s with hier := { s.hier with gateRefused := s.hier.gateRefused + 2 ^ q } } : State).emit (.gateRefused q)

/-- Gate a quadrant at a boundary, with the coming step built; or move the work placed in it first, or refuse (R69, R70). Only an ONLINE quadrant is
gated: one that is ISOLATED or FAULTED keeps its state (log 62). -/
def State.gateQuad (s : State) (q : Nat) : State :=
  if s.ownState (uidQuad q) ≠ .online then s else
  let work := s.quadWork q
  let out (c : Nat) : Bool := s.quadOfCore c != q && s.coreState c == .online
  let left := work.filter (fun x => !x.2.2.1.moving x.2.2.2)
  let fits (x : Nat × Which × Version × Nat) : Bool :=
    (s.placeOn out x.1 (x.2.2.1.tiles.filter (fun t => t.chunk == x.2.2.2 && !t.replacing))).isSome
  if s.quadHeld q || !left.all fits then s.gateRefuse q
  else if work.isEmpty then s.gateNow q
  else left.foldl (fun y x => y.replaceOn out x.1 x.2.1 x.2.2.1 x.2.2.2) s

/-- Begin to open a gated quadrant (R69). -/
def State.openQuad (s : State) (q : Nat) : State :=
  let s := if s.hier.gateRefused.testBit q then { s with hier := { s.hier with gateRefused := s.hier.gateRefused - 2 ^ q } } else s
  if s.ownState (uidQuad q) = .gated ∧ mapFind s.hier.opening q = none then
    { s with hier := { s.hier with opening := mapSet s.hier.opening q s.now } }
  else s

/-- QUAD_GATED: a bit for every gated quadrant (Table 2.8). -/
def State.quadGated (s : State) : Nat :=
  sumNat ((List.range 16).map (fun q => if s.ownState (uidQuad q) == .gated then 2 ^ q else 0))
/-- CLUSTERS_ONLINE. -/
def State.clustersOnline (s : State) : Nat :=
  sumNat ((List.range 64).map (fun c => if s.clusterState c == .online then 2 ^ c else 0))
/-- HASP_LIVE. -/
def State.haspBits (s : State) : Nat := sumNat ((List.range 8).map (fun n => if s.haspLive n then 2 ^ n else 0))

/-! ### At a boundary -/

/-- The next live Hasp core after one, wrapping (R63). -/
def State.nextLive (s : State) (hc : Nat) : Option Nat := ((List.range 7).map (fun i => (hc + 1 + i) % 8)).find? s.haspLive

/-- The new owner of slots n mod 8 = r re-issues their outstanding requests, attempts unchanged (Table 8.11). -/
def State.reissue (s : State) (r : Nat) : State :=
  [r, r + 8].foldl (fun x n =>
    (x.slot n).asking.foldl (fun y p => y.mapVer n p.1 (fun v => { v with reqs := v.reqs.map (fun q => { q with issued := false, beat := none }) })) x) s

/-- Ranges of FAULTED Hasp cores go to the next live one (R63). -/
def State.takeover (s : State) : State :=
  (List.range 8).foldl (fun x r =>
    let o := x.hier.rangeOwner.getD r 0
    if x.ownState (uidHasp o) = .faulted then
      match x.nextLive o with
      | some h => ({ x with hier := { x.hier with rangeOwner := x.hier.rangeOwner.set r h } } : State).reissue r
      | none => x
    else x) s

/-- Rows to retire are retired to redundant rows (R53). -/
def State.rowsRetire (s : State) : State :=
  { s with hier := { s.hier with retiredRows := s.hier.retiredRows ++ s.hier.rowRetire, rowRetire := []
                                 corrBeats := s.hier.corrBeats.filter (fun x => !s.hier.rowRetire.contains (x.1, x.2.1)) } }

/-- Step work of the past beat still runs in a unit: on a core that it holds or lies in, or in a lane task on its attention engine (R64). -/
def State.unitBusy (s : State) (u : UnitId) : Bool :=
  s.beat.busyCores.any (fun c => (coreTiers c).any (fun p => s.unitHoldsTier u p.1 p.2)) ||
  s.kv.laneUse.any (fun x => unitHoldsAttn u x.1 && (s.req x.2).batch.isSome)

/-- The hierarchies' part of notch 0: isolations for management of units whose step work is done, row retirement, the step leader, the quadrants
opened in the beat that ends. -/
def State.hierBoundary (s : State) : State :=
  let now := s.hier.isolate.filter (fun u => !s.unitBusy u)
  let s := { s with hier := { s.hier with isolate := s.hier.isolate.filter s.unitBusy, opened := [] } }
  let s := (now.foldl State.isolateNow s).rowsRetire
  { s with hier := { s.hier with leader := s.lowestLive } }

/-- The quadrants that QUAD_GATE_REQ asks for are gated or opened, once the step is built (R69, R84). -/
def State.gateBoundary (s : State) : State :=
  let req := s.set0 .QUAD_GATE_REQ
  (List.range 16).foldl (fun x q => if req.testBit q then x.gateQuad q else x.openQuad q) s

end Sys2Proof.Machine
end

