-- ==== Sys2Proof/Machine/KvOps.lean ====
section
/-! DEFINITION. Machine/KvOps.lean: attention maps and lanes, pages, page tables, reference counts, the prefix tree and what is retired
and freed (spec/09 R356–R395). -/
namespace Sys2Proof.Machine
open Sys2Proof

/-! ### Attention maps (R373–R377) -/

/-- A field of a map that R374 clamps: its number over the whole BLOB (spec/03 R118), offset, size and range. Each layer entry has 17
fields: SM_SCALE is the ninth, the four FULL_HEAD places the tenth to the thirteenth. -/
structure MapField where
  num : Nat
  off : Nat
  size : Nat
  segs : List (Nat × Nat)
  deriving DecidableEq, Repr

/-- Fields of the header. -/
def mapHeadFields : List MapField := [⟨2, 4, 2, [(1, 4096)]⟩, ⟨3, 6, 2, [(0, 4096)]⟩, ⟨4, 8, 8, [(0, 0)]⟩]

/-- Fields of layer entry `i`, SM_SCALE apart. -/
def mapLayerFields (i : Nat) : List MapField :=
  let o := 16 + 32 * i
  let n := 5 + 17 * i
  [⟨n, o, 2, [(0, 4095)]⟩, ⟨n + 1, o + 2, 1, [(1, 64)]⟩, ⟨n + 2, o + 3, 1, [(1, 16)]⟩, ⟨n + 3, o + 4, 1, [(1, 16)]⟩, ⟨n + 4, o + 5, 1, [(1, 8)]⟩,
   ⟨n + 5, o + 6, 1, [(3, 4)]⟩, ⟨n + 6, o + 7, 1, [(4, 4), (8, 8)]⟩, ⟨n + 7, o + 8, 4, [(0, 0), (64, 65536)]⟩,
   ⟨n + 14, o + 26, 1, [(0, 64)]⟩, ⟨n + 15, o + 27, 1, [(0, 4)]⟩, ⟨n + 16, o + 28, 4, [(0, 0)]⟩]

/-- The nearest value within ranges in ascending order; the lower of two equally near (spec/03 R114). -/
def nearest (segs : List (Nat × Nat)) (v : Nat) : Nat :=
  if segs.any (fun p => p.1 ≤ v && v ≤ p.2) then v else
  let ends := segs.flatMap (fun p => [p.1, p.2])
  let dist (x : Nat) : Nat := (x - v) + (v - x)
  ends.foldl (fun best x => if dist x < dist best || (dist x == dist best && x < best) then x else best) (ends.headD v)

/-- One clamped field: its number, the value written and the value applied. -/
abbrev Clamp := Nat × Nat × Nat

/-- Clamp fields of a BLOB. -/
def clampFields (b : Bytes) : List MapField → Bytes × List Clamp
  | [] => (b, [])
  | f :: r =>
    let v := leAt b f.off f.size
    let a := nearest f.segs v
    let (b', l) := clampFields (if a == v then b else overlay b f.off (leBytes f.size a)) r
    (b', if a == v then l else (f.num, v, a) :: l)

/-- SM_SCALE of an entry: not finite or not positive is clamped to 1.0 (R374). -/
def clampScale (b : Bytes) (i : Nat) : Bytes × List Clamp :=
  let o := 16 + 32 * i + 12
  let v := leAt b o 4
  let f : F32 := BitVec.ofNat 32 v
  if F32.finite f && F32.lt F32.zero f then (b, []) else (overlay b o (leBytes 4 F32.one.toNat), [(5 + 17 * i + 8, v, F32.one.toNat)])

/-- The layer entries of a map, clamped one after another. -/
def clampLayers (b : Bytes) : List Nat → Bytes × List Clamp
  | [] => (b, [])
  | i :: r =>
    let (b, c1) := clampFields b (mapLayerFields i)
    let (b, c2) := clampScale b i
    let (b, c3) := clampLayers b r
    (b, c1 ++ c2 ++ c3)

/-- A written ATTN_MAP with every field within its range (R374): the header, then its layers. -/
def clampMap (b : Bytes) : Bytes × List Clamp :=
  let (b, c1) := clampFields b mapHeadFields
  let (b, c2) := clampLayers b (List.range (leAt b 4 2))
  (b, c1 ++ c2)

/-- The map held for a version (R375). -/
def State.mapOf (s : State) (slot version : Nat) : Option Bytes :=
  (s.kv.maps.find? (fun m => m.slot == slot && m.version == version)).map (·.bytes)

/-- A written map takes effect (R374, R375). -/
def State.putMap (s : State) (n : Nat) (b : Bytes) : State :=
  let v := leAt b 0 4
  if (s.versions.any (fun p => p.1 == n && p.2.2.number == v)) then
    let s : State := { s with kv := { s.kv with maps := s.kv.maps.filter (fun (m : AttnMap) => !(m.slot == n && m.version == v)) ++ [⟨n, v, b⟩] } }
    if (s.slot n).cur.any (fun (c : Version) => c.number == v) then s.note (s.slot n).owner (.map n v b) else s
  else s.raise 0x4905 (s.slot n).owner 0 n v

/-- Maps and tree nodes of versions that are no longer present (R375, R387); the nodes are evicted by the caller. -/
def State.dropMaps (s : State) : State :=
  let there := s.versions.map (fun p => (p.1, p.2.2.number))
  { s with kv := { s.kv with maps := s.kv.maps.filter (fun m => there.contains (m.slot, m.version)) } }

/-- Insert a number into an ascending list without repeats. -/
def insertAsc (x : Nat) : List Nat → List Nat
  | [] => [x]
  | y :: r => if x < y then x :: y :: r else if x == y then y :: r else y :: insertAsc x r

/-- Distinct numbers in ascending order. -/
def ascending (l : List Nat) : List Nat := l.foldr insertAsc []

/-- The lanes one layer entry gives: groups in ascending order (R356). A global position past GLOBALS_TOTAL is none (log 64). -/
def entryLanes (b : Bytes) (o layer : Nat) (plain draft : Bool) (fmt slot version : Nat) (dflt : Bool) : List Lane :=
  let gfirst := leAt b (o + 24) 2
  let gcount := leAt b (o + 26) 1
  let gbase := 16 + 32 * leAt b 4 2
  let f := leAt b (o + 27) 1
  (List.range (leAt b (o + 2) 1)).map (fun g =>
    { draft, layer, group := g, heads := leAt b (o + 3) 1, qper := leAt b (o + 4) 1, dims := leAt b (o + 5) 1, qfmt := leAt b (o + 6) 1,
      ofmt := leAt b (o + 7) 1, scale := BitVec.ofNat 32 (leAt b (o + 12) 4), fmt := if f == 0 then fmt else f, dflt := dflt && f == 0, slot, version
      window := if plain then 0 else leAt b (o + 8) 4
      full := if plain then [] else ((List.range 4).map (fun i => leAt b (o + 16 + 2 * i) 2)).filter (· != 0xFFFF)
      globals := if plain then [] else
        ascending (((List.range gcount).filter (fun i => gfirst + i < leAt b 6 2)).map (fun i => leAt b (gbase + 4 * (gfirst + i)) 4)) })

/-- Lanes of a version under a map: its layers in ascending order; a layer without an entry takes the first entry's geometry (R376). -/
def State.lanesOf (s : State) (slot version fmt : Nat) (dflt draft : Bool) (b : Bytes) : List Lane :=
  let n := leAt b 4 2
  let mapped := (List.range n).map (fun i => leAt b (16 + 32 * i) 2)
  let own := match s.versionNo slot version with
    | some v => v.shards.map (·.layer)
    | none => []
  (ascending (mapped ++ own)).flatMap (fun l =>
    match mapped.findIdx? (· == l) with
    | some i => entryLanes b (16 + 32 * i) l false draft fmt slot version dflt
    | none => entryLanes b 16 l true draft fmt slot version dflt)

/-- A map that fixes a format for a layer (R383). -/
def mapFixes (b : Bytes) : Bool := (List.range (leAt b 4 2)).any (fun i => leAt b (16 + 32 * i + 27) 1 != 0)

/-! ### Pages (R358–R362) -/

/-- Rounded up to 4 KiB. -/
def up4k (n : Nat) : Nat := (n + 4095) / 4096 * 4096

/-- Plane offsets of a page: K data, K scale, V data, V scale, end (R359). -/
def planeOffs (fmt log2 heads dims : Nat) : Nat × Nat × Nat × Nat × Nat :=
  let n := 2 ^ log2 * heads * dims
  let d := n * blockBytes fmt
  if isScaled fmt then
    let ks := up64 (64 + d)
    let v := up64 (ks + n)
    let vs := up64 (v + d)
    (64, ks, v, vs, vs + n)
  else
    let v := up64 (64 + d)
    (64, v, v, v + d, v + d)

/-- PAGE_BYTES. -/
def pageLen (fmt log2 heads dims : Nat) : Nat := (planeOffs fmt log2 heads dims).2.2.2.2
/-- Memory a page of a lane takes. -/
def Lane.pageMem (l : Lane) (log2 : Nat) : Nat := up4k (pageLen l.fmt log2 l.heads l.dims)
/-- Memory a page takes. -/
def PageS.mem (p : PageS) : Nat := up4k (pageLen p.fmt p.log2 p.heads p.dims)

/-- A page's header (Table 9.2). -/
def PageS.header (p : PageS) : Bytes :=
  leBytes 2 p.magic ++ leBytes 1 p.fmt ++ leBytes 1 p.log2 ++ leBytes 1 p.heads ++ leBytes 1 p.dims ++
    leBytes 1 ((if p.sealed then 1 else 0) + (if p.inTree then 2 else 0) + (if p.copy then 4 else 0)) ++ leBytes 1 p.kw ++
    leBytes 2 p.layer ++ leBytes 2 p.group ++ leBytes 2 p.refs ++ leBytes 2 p.fill ++ leBytes 4 p.first ++ leBytes 1 p.slot ++ zeros 3 ++
    leBytes 4 p.version ++ leBytes 2 p.adapter ++ zeros 2 ++ leBytes 4 (pageLen p.fmt p.log2 p.heads p.dims) ++ leBytes 2 p.creator ++
    zeros 2 ++ leBytes 8 p.sealTime ++ zeros 16

/-- One plane's blocks written over zeros. -/
def planeBytes (m : Map (Nat × Bytes)) (n b : Nat) : Bytes :=
  (List.range n).flatMap (fun i => padTo b (mapGet m i (0, [])).2)
/-- A scale plane. -/
def scaleBytes (m : Map (Nat × Bytes)) (n : Nat) : Bytes := (List.range n).map (fun i => BitVec.ofNat 8 (mapGet m i (0, [])).1)

/-- A page as bytes: header and planes (R359). -/
def PageS.image (p : PageS) : Bytes :=
  let n := 2 ^ p.log2 * p.heads * p.dims
  let bb := blockBytes p.fmt
  let o := planeOffs p.fmt p.log2 p.heads p.dims
  let b := p.header ++ planeBytes p.k n bb
  if isScaled p.fmt then
    padTo o.2.2.2.1 (padTo o.2.2.1 (padTo o.2.1 b ++ scaleBytes p.k n) ++ planeBytes p.v n bb) ++ scaleBytes p.v n
  else padTo o.2.2.1 b ++ planeBytes p.v n bb

/-- The blocks of a plane read from bytes. -/
def planeOf (b : Bytes) (data scale n bb : Nat) (scaled : Bool) : Map (Nat × Bytes) :=
  (List.range n).map (fun i => (i, if scaled then leAt b (scale + i) 1 else 0, (b.drop (data + bb * i)).take bb))

/-- A page read from bytes. -/
def pageOf (b : Bytes) : PageS :=
  let fmt := leAt b 2 1
  let log2 := leAt b 3 1
  let heads := leAt b 4 1
  let dims := leAt b 5 1
  let fl := leAt b 6 1
  let n := 2 ^ log2 * heads * dims
  let o := planeOffs fmt log2 heads dims
  { magic := leAt b 0 2, fmt, log2, heads, dims, sealed := fl.testBit 0, inTree := fl.testBit 1, copy := fl.testBit 2, kw := leAt b 7 1
    layer := leAt b 8 2, group := leAt b 10 2, refs := leAt b 12 2, fill := leAt b 14 2, first := leAt b 16 4, slot := leAt b 20 1
    version := leAt b 24 4, adapter := leAt b 28 2, creator := leAt b 36 2, sealTime := leAt b 40 8
    k := planeOf b o.1 o.2.1 n (blockBytes fmt) (isScaled fmt), v := planeOf b o.2.2.1 o.2.2.2.1 n (blockBytes fmt) (isScaled fmt) }

/-! ### Sequences and tables (R363, R364, R396) -/

/-- A sequence record. -/
def State.seqAt (s : State) (i : Nat) : SeqS := mapGet s.kv.seqs i {}
/-- Replace it. -/
def State.putSeq (s : State) (i : Nat) (q : SeqS) : State := { s with kv := { s.kv with seqs := mapSet s.kv.seqs i q } }

/-- Most positions of a sequence on one device (R396). -/
def maxLocal : Nat := 1048576

/-- Positions per page. -/
def SeqS.per (q : SeqS) : Nat := 2 ^ q.log2

/-- The local position of a position on this device; none when another ring member holds it (R396). -/
def SeqS.local (q : SeqS) (t : Nat) : Option Nat :=
  if !q.ring then some t else
  let b := 2 ^ q.ringLog2
  let j := t / b
  if j % q.ringSize == q.ringIdx then some (b * (j / q.ringSize) + t % b) else none

/-- The position of a local position held by a ring member. -/
def SeqS.globalOf (q : SeqS) (member x : Nat) : Nat :=
  if !q.ring then x else
  let b := 2 ^ q.ringLog2
  b * (x / b * q.ringSize + member) + x % b

/-- Local positions below the first `len` positions that this member holds. -/
def SeqS.localLen (q : SeqS) (len : Nat) : Nat :=
  if !q.ring then len else
  let b := 2 ^ q.ringLog2
  let full := len / b
  let mine := full / q.ringSize + (if q.ringIdx < full % q.ringSize then 1 else 0)
  b * mine + (if full % q.ringSize == q.ringIdx then len % b else 0)

/-- Directory entries per lane for the largest sequence (R364, R396). -/
def dirsFor (log2 : Nat) : Nat := (maxLocal / 2 ^ log2 + 511) / 512

/-- Memory a root takes (R364). -/
def SeqS.rootMem (q : SeqS) : Nat := up4k (8 * q.dirs * q.lanes.length)

/-- Directory index of a lane's page. -/
def SeqS.dirIx (q : SeqS) (lane p : Nat) : Nat := lane * q.dirs + p / 512

/-- The leaf a root holds at an index. -/
def KvS.leafAt (k : KvS) (root ix : Nat) : Option Nat := mapFind (mapGet k.roots root []) ix

/-- The entry of a lane's page in a root. -/
def KvS.pteAt (k : KvS) (q : SeqS) (root lane p : Nat) : Option Pte :=
  match k.leafAt root (q.dirIx lane p) with
  | some leaf => mapFind (mapGet k.leaves leaf []) (p % 512)
  | none => none

/-- A new allocation's number. -/
def KvS.fresh (k : KvS) : KvS × Nat := ({ k with nextAddr := k.nextAddr + 1 }, k.nextAddr)

/-- Put an entry into a root, whose leaves of `old` are shared with another root and are copied first (R389). -/
def KvS.putPte (k : KvS) (q : SeqS) (old : List Nat) (root lane p : Nat) (e : Pte) : KvS :=
  let ix := q.dirIx lane p
  let (k, leaf) := (match k.leafAt root ix with
    | some l =>
      if old.contains l then
        let (k, n) := k.fresh
        ({ k with leaves := mapSet k.leaves n (mapGet k.leaves l []), roots := mapSet k.roots root (mapSet (mapGet k.roots root []) ix n) }, n)
      else (k, l)
    | none =>
      let (k, n) := k.fresh
      ({ k with leaves := mapSet k.leaves n [], roots := mapSet k.roots root (mapSet (mapGet k.roots root []) ix n) }, n))
  { k with leaves := mapSet k.leaves leaf (mapSet (mapGet k.leaves leaf []) (p % 512) e) }

/-- An edit of a page table: lane, page number, entry. -/
abbrev Edit := Nat × Nat × Pte

/-- Put entries into a root in order. -/
def KvS.putPtes (k : KvS) (q : SeqS) (old : List Nat) (root : Nat) (l : List Edit) : KvS :=
  l.foldl (fun k e => k.putPte q old root e.1 e.2.1 e.2.2) k

/-- Leaves that entries at these places need anew. -/
def KvS.newLeaves (k : KvS) (q : SeqS) (old : List Nat) (root : Nat) (l : List (Nat × Nat)) : Nat :=
  (((l.map (fun e => q.dirIx e.1 e.2)).eraseDups).filter (fun ix => match k.leafAt root ix with
    | some x => old.contains x
    | none => true)).length

/-- Leaves of a root. -/
def KvS.leavesOf (k : KvS) (root : Nat) : List Nat := (mapGet k.roots root []).map Prod.snd

/-- Pages that the entries of a root name. -/
def KvS.pagesOf (k : KvS) (root : Nat) : List Nat :=
  (k.leavesOf root).flatMap (fun l => (mapGet k.leaves l []).map (fun e => e.2.page))

/-! ### Reference counts (R378–R381) -/

/-- A page. -/
def State.page (s : State) (h : Nat) : PageS := mapGet s.kv.pages h {}
/-- Replace it. -/
def State.putPage (s : State) (h : Nat) (p : PageS) : State := { s with kv := { s.kv with pages := mapSet s.kv.pages h p } }

/-- Set or clear COW in every entry that names a page (R378). -/
def KvS.setCow (k : KvS) (h : Nat) (c : Bool) : KvS :=
  { k with leaves := k.leaves.map (fun l => (l.1, l.2.map (fun e => if e.2.page == h then (e.1, { e.2 with cow := c }) else e))) }

/-- Retire an item at this boundary (R392). -/
def State.retire (s : State) (kw bytes : Nat) (it : Retired) : State :=
  { s with kv := { s.kv with retired := s.kv.retired ++ [⟨s.beat.number, kw, bytes, it⟩] } }

/-- Address of an allocation on a die. -/
def addrOf (die h : Nat) : Nat := if h == 0 then 0 else Config.memAddr die h

/-- Address of a page. -/
def KvS.pageAddr (k : KvS) (h : Nat) : Nat := addrOf (mapGet k.pages h {}).die h

/-- A holder drops a page (R378, R379); the prefix tree is holder 0xFFFF. -/
def State.decRef (s : State) (h holder : Nat) : State :=
  let p := s.page h
  if p.refs == 0 then
    let s := { s with kv := { s.kv with leaked := if s.kv.leaked.contains h then s.kv.leaked else s.kv.leaked ++ [h] } }
    s.raise 0xC901 p.kw 0 (addrOf p.die h) holder
  else
    let s := s.putPage h { p with refs := p.refs - 1 }
    if p.refs == 1 then (if s.kv.leaked.contains h then s else s.retire p.kw p.mem (.page h))
    else if p.refs == 2 then { s with kv := s.kv.setCow h false } else s

/-- Drop pages one after another. -/
def State.decRefs (s : State) (holder : Nat) (l : List Nat) : State := l.foldl (fun x h => x.decRef h holder) s

/-- A new holder takes a page (R378). -/
def State.incRef (s : State) (h : Nat) : State :=
  let p := s.page h
  let s := s.putPage h { p with refs := p.refs + 1 }
  { s with kv := s.kv.setCow h true }

/-- A page's planes below a slot. -/
def PageS.upTo (p : PageS) (n : Nat) : PageS :=
  let keep (m : Map (Nat × Bytes)) : Map (Nat × Bytes) := m.filter (fun b => b.1 < n * p.heads * p.dims)
  { p with k := keep p.k, v := keep p.v, fill := n }

/-- A new page of a lane at a page number (R360). -/
def SeqS.newPage (q : SeqS) (idx : Nat) (l : Lane) (p : Nat) : PageS :=
  { fmt := l.fmt, log2 := q.log2, heads := l.heads, dims := l.dims, kw := q.kw, die := q.home, layer := l.layer, group := l.group,
    first := q.globalOf q.ringIdx (p * q.per), slot := l.slot, version := l.version, adapter := q.adapter, creator := idx }

/-- What a page of a table comes from: new, taken from another holder, or copied from one up to a slot (R381, R385). -/
inductive Source where
  | new | take (h : Nat) | copy (h upto : Nat)
  deriving DecidableEq, Repr

/-- Make an entry's page: the page's number and whether it is shared. A page at count 65,535 is copied in place of being taken (R380), which is
no copy-on-write: neither FLAGS.COPY nor COW_COPIES says it (log 64). -/
def State.makePage (s : State) (q : SeqS) (idx : Nat) (l : Lane) (p : Nat) : Source → State × Pte
  | .new =>
    let (k, h) := s.kv.fresh
    let s := ({ s with kv := k }.putPage h (q.newPage idx l p)).memTake q.kw (l.pageMem q.log2)
    (s, ⟨false, q.log2, h⟩)
  | .take g =>
    if (s.page g).refs ≥ 65535 then
      let (k, h) := s.kv.fresh
      let old := s.page g
      let s := ({ s with kv := k }.putPage h { old with die := q.home, copy := false, refs := 1, sealed := false, inTree := false, creator := idx, sealTime := 0 })
      (((s.memTake q.kw old.mem).incK .REFCOUNT_SATURATED q.kw).raise 0x4902 q.kw 0 (addrOf old.die g) idx, ⟨false, q.log2, h⟩)
    else (s.incRef g, ⟨true, q.log2, g⟩)
  | .copy g n =>
    let (k, h) := s.kv.fresh
    let old := (s.page g).upTo n
    let s := ({ s with kv := k }.putPage h { old with die := q.home, copy := true, refs := 1, sealed := false, inTree := false, creator := idx, sealTime := 0 })
    ((s.memTake q.kw old.mem).incK .COW_COPIES q.kw, ⟨false, q.log2, h⟩)

/-- Memory a source takes. -/
def State.sourceMem (s : State) (q : SeqS) (l : Lane) : Source → Nat
  | .new => l.pageMem q.log2
  | .take g => if (s.page g).refs ≥ 65535 then (s.page g).mem else 0
  | .copy g _ => (s.page g).mem

/-- A planned entry: lane number, page number, source. -/
abbrev Plan := Nat × Nat × Source

/-- The lane of a number. -/
def SeqS.lane (q : SeqS) (n : Nat) : Lane :=
  q.lanes.getD n { layer := 0, group := 0, heads := 1, qper := 1, dims := 1, qfmt := 3, ofmt := 8, scale := F32.one, fmt := 2, slot := 0, version := 0 }

/-- Make the pages of a plan, in order. -/
def State.makePages (s : State) (q : SeqS) (idx : Nat) : List Plan → State × List Edit
  | [] => (s, [])
  | (n, p, src) :: r =>
    let (s, e) := s.makePage q idx (q.lane n) p src
    let (s, l) := s.makePages q idx r
    (s, (n, p, e) :: l)

/-- Memory a plan takes, with its new leaves and a root. -/
def State.planMem (s : State) (q : SeqS) (old : List Nat) (root : Nat) (l : List Plan) : Nat :=
  sumNat (l.map (fun x => s.sourceMem q (q.lane x.1) x.2.2)) + q.rootMem + 4096 * s.kv.newLeaves q old root (l.map (fun x => (x.1, x.2.1)))

/-- Pages of memory a keyway may still take (R394). -/
def State.quotaFree (s : State) (kw : Nat) : Nat :=
  let u := pagesOf (mapGet s.mem.used kw 0)
  if kw == 0 then min (s.setK .QUOTA_MEM_PAGES 0 - u) s.mem.free else mapGet s.mem.resv kw 0 - u

/-! ### The prefix tree (R382–R387) -/

/-- mix of R383. -/
def mix64 (x : BitVec 64) : BitVec 64 :=
  let x := x ^^^ (x >>> 30)
  let x := x * 0xBF58476D1CE4E5B9#64
  let x := x ^^^ (x >>> 27)
  let x := x * 0x94D049BB133111EB#64
  x ^^^ (x >>> 31)

/-- seed of R383. -/
def kvSeed (model version adapter code log2 kw : Nat) : Nat :=
  let h := mix64 (BitVec.ofNat 64 model)
  let h := mix64 (h ^^^ BitVec.ofNat 64 version)
  (mix64 (h ^^^ BitVec.ofNat 64 (adapter * 2 ^ 32) ^^^ BitVec.ofNat 64 (code * 65536) ^^^ BitVec.ofNat 64 (log2 * 256) ^^^ BitVec.ofNat 64 kw)).toNat

/-- The hash of a block after another (R383). -/
def blockHash (h : Nat) (tok : List Nat) : Nat :=
  (tok.zipIdx.foldl (fun (a : BitVec 64) p => mix64 (a ^^^ BitVec.ofNat 64 (p.2 * 2 ^ 32 + p.1 + 1))) (BitVec.ofNat 64 h)).toNat

/-- Chained hashes of whole blocks. -/
def blockHashes (h : Nat) : Nat → List Nat → List Nat
  | 0, _ => []
  | n + 1, tok => let x := blockHash h (tok.take 16); x :: blockHashes x n (tok.drop 16)

/-- Follow the tree along a prompt (R384): nodes matched in order; a hash that matches under other tokens is reported. -/
def State.treeWalk (s : State) (kw idx : Nat) : List Nat → List Nat → Nat → Nat → State × List TreeNode
  | [], _, _, _ => (s, [])
  | h :: hs, tok, parent, b =>
    let near := s.kv.nodes.filter (fun n => n.kw == kw && n.parent == parent && n.hash == h)
    match near.find? (fun n => n.tokens == tok.take 16) with
    | some n =>
      let (s, l) := s.treeWalk kw idx hs (tok.drop 16) n.num (b + 1)
      (s, n :: l)
    | none => (if near.isEmpty then s else s.raise 0x4904 kw 0 h idx b, [])

/-- Mark nodes as matched now. -/
def State.touch (s : State) (l : List TreeNode) : State :=
  { s with kv := { s.kv with nodes := s.kv.nodes.map (fun n => if l.any (fun m => m.num == n.num) then { n with used := s.now } else n) } }

/-- Remove a node; the tree reference of its page set goes once no node names the set (R387). -/
def State.evictNode (s : State) (n : TreeNode) : State :=
  let rest := s.kv.nodes.filter (fun m => m.num != n.num)
  let s := { s with kv := { s.kv with nodes := rest } }
  if rest.any (fun m => m.pages == n.pages) then s else
  let s := n.pages.foldl (fun x h => (x.putPage h { x.page h with inTree := false }).decRef h 0xFFFF) s
  s.incK .PREFIX_EVICTIONS n.kw n.pages.length

/-- The leaf node of a keyway's tree matched least recently. -/
def KvS.oldestLeaf (k : KvS) (kw : Nat) : Option TreeNode :=
  let l := k.nodes.filter (fun n => n.kw == kw && !(k.nodes.any (fun m => m.parent == n.num)))
  l.foldl (fun b n => match b with
    | none => some n
    | some x => if n.used < x.used then some n else b) none

/-- Evict leaf nodes of a keyway while a test asks for it, at most a number of them. -/
def State.evictWhile (s : State) (kw : Nat) (more : State → Bool) : Nat → State
  | 0 => s
  | n + 1 =>
    if !more s then s else
    match s.kv.oldestLeaf kw with
    | none => s
    | some x => (s.evictNode x).evictWhile kw more n

/-- Bytes of a keyway's pages that only the tree holds. -/
def State.treeBytes (s : State) (kw : Nat) : Nat := sumNat ((s.kv.pages.filter (fun p => p.2.kw == kw && p.2.inTree && p.2.refs == 1)).map (fun p => p.2.mem))

/-- Evict what exceeds PREFIX_MAX_PCT of a keyway's quota (R387). -/
def State.evictOver (s : State) (kw : Nat) : State :=
  s.evictWhile kw (fun x => decide (x.treeBytes kw * 100 > x.setK .QUOTA_MEM_PAGES kw * poolPage * x.setK .PREFIX_MAX_PCT kw)) s.kv.nodes.length

/-- Bytes of a keyway that wait to be freed. -/
def State.wasteOf (s : State) (kw : Nat) : Nat := sumNat ((s.kv.retired.filter (fun w => w.kw == kw)).map (·.bytes))

/-- 2 MiB pages of the stacks of a die that memory BIST has not withheld (spec/00 R9, spec/14 R591). -/
def State.diePages (s : State) (die : Nat) : Nat := 73728 - (s.bist.pages.filter (fun p => p.1 == die)).length

/-- Bytes of a die's stacks that pages and page tables of sequences at home there take (R355). -/
def State.dieBytes (s : State) (die : Nat) : Nat :=
  sumNat ((s.kv.pages.filter (fun p => p.2.die == die)).map (fun p => p.2.mem)) +
  sumNat ((s.kv.seqs.filter (fun q => q.2.home == die)).map (fun q => q.2.rootMem + 4096 * (s.kv.leavesOf q.2.cur).length))

/-- A sequence may take bytes: within its keyway's memory, and in the stacks of its home die (R355, R394, spec/12 R498). -/
def State.kvFits (s : State) (q : SeqS) (bytes : Nat) : Bool :=
  s.memFits q.kw bytes && decide (pagesOf (s.dieBytes q.home + bytes) ≤ s.diePages q.home)

/-- Evict for an allocation that cannot be met (R387), until what waits to be freed would meet it. -/
def State.evictFor (s : State) (q : SeqS) (bytes : Nat) : State :=
  s.evictWhile q.kw (fun x => !(x.kvFits q (bytes - x.wasteOf q.kw))) s.kv.nodes.length

/-- Evict the nodes of versions that have been freed (R387), leaves first. -/
def State.evictGone (s : State) : State :=
  let there := s.versions.map (fun p => (p.1, p.2.2.number))
  let gone := s.kv.nodes.filter (fun n => !there.contains (n.slot, n.version))
  gone.reverse.foldl (fun x n => x.evictNode n) s

/-- Evict a keyway's whole tree. -/
def State.evictAll (s : State) (kw : Nat) : State :=
  ((s.kv.nodes.filter (fun n => n.kw == kw)).reverse).foldl (fun x n => x.evictNode n) s

/-! ### Freeing (R379, R390–R392) -/

/-- The oldest walk epoch held. -/
def State.oldestEpoch (s : State) : Option Nat :=
  s.kv.epochs.foldl (fun b e => match b with
    | none => some e.1
    | some x => some (min x e.1)) none

/-- An item may be freed: no epoch below its tag is held (R392), and it is no leaked page (R379). -/
def State.mayFree (s : State) (w : Waste) : Bool :=
  s.kv.epochs.all (fun e => decide (w.tag ≤ e.1)) && !s.kv.leaked.any (fun h => w.item == .page h)

/-- Free one retired item. -/
def State.freeWaste (s : State) (w : Waste) : State :=
  let s := s.memGive w.kw w.bytes
  { s with kv := match w.item with
    | .root a => { s.kv with roots := mapDel s.kv.roots a }
    | .leaf a => { s.kv with leaves := mapDel s.kv.leaves a }
    | .page a => { s.kv with pages := mapDel s.kv.pages a }
    | .seq i => { s.kv with seqs := mapDel s.kv.seqs i }
    | .set => s.kv }

/-- The frees of R35 item 3 (R392): what no epoch holds is freed, as much of it as the open phase has time for, the rest in the next one (R36); a
beat in which items wait for an epoch is counted and reported. -/
def State.freeRetired (s : State) (frees : Option Nat) : State :=
  let can := s.kv.retired.filter s.mayFree
  let go := match frees with | some n => can.take n | none => can
  let stay := s.kv.retired.filter (fun w => s.kv.epochs.any (fun e => decide (e.1 < w.tag)))
  let s := { s with kv := { s.kv with retired := s.kv.retired.filter (fun w => !go.contains w) } }
  let s := go.foldl State.freeWaste s
  if stay.isEmpty then s else
  let kws := (stay.map (·.kw)).eraseDups
  let s := kws.foldl (fun x w => x.addCount ⟨.FREES_DEFERRED, 0, w + 1⟩ 1) (s.inc .FREES_DEFERRED)
  kws.foldl (fun x w => x.raise 0x4903 w 0 (x.oldestEpoch.getD 0) (stay.filter (fun y => y.kw == w)).length) s

/-- Drop a sequence's references at this open phase (R392): pages, leaves, roots, and the record itself. -/
def State.dropSeq (s : State) (i : Nat) : State :=
  let q := s.seqAt i
  if q.state == 0 || q.state == 2 then s else
  let s := s.decRefs i ((s.kv.pagesOf q.cur ++ (if q.next == 0 then [] else s.kv.pagesOf q.next)).eraseDups)
  let leaves := (s.kv.leavesOf q.cur ++ (if q.next == 0 then [] else s.kv.leavesOf q.next)).eraseDups
  let s := leaves.foldl (fun x l => x.retire q.kw 4096 (.leaf l)) s
  let s := if q.cur == 0 then s else s.retire q.kw q.rootMem (.root q.cur)
  let s := if q.next == 0 then s else s.retire q.kw q.rootMem (.root q.next)
  (s.putSeq i { q with state := 2, cur := 0, next := 0 }).retire q.kw 0 (.seq i)

/-- A sequence's next-step root becomes current (R390): shared pages that copies replace lose this holder (R381). -/
def State.swapRoot (s : State) (i : Nat) : State :=
  let q := s.seqAt i
  if q.next == 0 || q.state != 1 then s else
  let keep := s.kv.leavesOf q.next
  let held := s.kv.pagesOf q.next
  let s := s.decRefs i ((s.kv.pagesOf q.cur).filter (fun h => !held.contains h))
  let s := ((s.kv.leavesOf q.cur).filter (fun l => !keep.contains l)).foldl (fun x l => x.retire q.kw 4096 (.leaf l)) s
  let s := s.retire q.kw q.rootMem (.root q.cur)
  s.putSeq i { q with cur := q.next, next := 0, gen := (q.gen + 1) % 2 ^ 32, reserved := q.nextTo, lastSwap := s.notchTime
                      oldRoot := q.cur, swapBeat := s.beat.number }

/-- R35 item 2. -/
def State.rootSwaps (s : State) : State := (s.kv.seqs.map Prod.fst).foldl State.swapRoot s

/-! ### Building roots (R385, R388, R389, R394) -/

/-- The first root of a sequence, installed as current with its pages (R388); none when memory does not allow it. The record `q` has
its lanes and geometry; its pages are those of a plan. -/
def State.firstRoot (s : State) (i : Nat) (q : SeqS) (upto : Nat) (l : List Plan) : Option State :=
  let need := s.planMem q [] 0 l
  if !(s.kvFits q need) then none else
  let (k, root) := s.kv.fresh
  let s := { s with kv := { k with roots := mapSet k.roots root [] } }
  let s := (s.memTake q.kw q.rootMem).memTake q.kw (4096 * s.kv.newLeaves q [] root (l.map (fun x => (x.1, x.2.1))))
  let (s, es) := s.makePages q i l
  let s := { s with kv := s.kv.putPtes q [] root es }
  some (s.putSeq i { q with state := 1, cur := root, reserved := upto, gen := 0 })

/-- Pages of every lane for page numbers below a bound. -/
def SeqS.planNew (q : SeqS) (pages : List Nat) : List Plan :=
  (List.range q.lanes.length).flatMap (fun n => pages.map (fun p => (n, p, Source.new)))

/-- What the next-step root must hold beyond the current one: new pages below a local position, and copies of shared pages from the first
slot to be written on (R381, R389). -/
def State.nextPlan (s : State) (q : SeqS) (write upto : Nat) : List Plan :=
  let from_ := write / q.per
  let ps := (List.range ((upto + q.per - 1) / q.per - from_)).map (· + from_)
  (List.range q.lanes.length).flatMap (fun n => ps.filterMap (fun p =>
    match s.kv.pteAt q q.cur n p with
    | none => some (n, p, Source.new)
    | some e => if e.cow then some (n, p, Source.copy e.page (write - p * q.per)) else none))

/-- The lanes of a sequence as its new pages take them: a lane whose format nothing names takes KV_FORMAT_DEFAULT as it stands (spec/04 R159). -/
def State.freshLanes (s : State) (q : SeqS) : SeqS :=
  { q with lanes := q.lanes.map (fun l => if l.dflt then { l with fmt := s.setK .KV_FORMAT_DEFAULT q.kw } else l) }

/-- NEXT_ROOT_BUILD (R389): the step's positions, the first position the next step writes, and nine beyond. -/
def State.buildRoot (s : State) (i : Nat) : State :=
  let q := s.freshLanes (s.seqAt i)
  if q.state != 1 || q.next != 0 then s else
  let r := s.req q.req
  if q.req != 0xFFFF && !r.active then s else
  let (least, most) := (match (if q.req == 0xFFFF then none else r.batch) with
    | some (.decode l) => if r.sampled then (0, 0) else (1, l + 1)
    | some (.prefill n) => if r.sampled then (0, 0) else (n, n)
    | none => (0, 0))
  let write := q.localLen (q.length + least)
  let upto := min maxLocal (q.localLen (q.length + most) + 9)
  let plan := s.nextPlan q write upto
  if plan.isEmpty then s.putSeq i { q with noPage := false, reserved := max q.reserved upto } else
  let old := s.kv.leavesOf q.cur
  let need := s.planMem q old q.cur plan
  let s := if s.kvFits q need then s else s.evictFor q need
  if !(s.kvFits q need) then
    ((s.putSeq i { q with noPage := true }).incK .KV_NO_PAGE_COUNT q.kw).raise 0x4901 q.kw 0 i plan.length (s.quotaFree q.kw)
  else
    let (k, root) := s.kv.fresh
    let s := { s with kv := { k with roots := mapSet k.roots root (mapGet k.roots q.cur []) } }
    let s := (s.memTake q.kw q.rootMem).memTake q.kw (4096 * s.kv.newLeaves q old root (plan.map (fun x => (x.1, x.2.1))))
    let (s, es) := s.makePages q i plan
    let s := { s with kv := s.kv.putPtes q old root es }
    s.putSeq i { q with next := root, nextTo := max q.reserved upto, noPage := false }

/-! ### Sealing (R361, R386) -/

/-- The pages of one page number, one per main lane, by the current root. -/
def State.pageSet (s : State) (q : SeqS) (p : Nat) : List Nat :=
  ((List.range q.lanes.length).filter (fun n => !(q.lane n).draft)).filterMap (fun n => (s.kv.pteAt q q.cur n p).map (·.page))

/-- What stands for a token that this device does not know. -/
def unknownTok : Nat := 0xFFFFFFFF

/-- Add the nodes of a sealed page's blocks (R386): blocks `b` on, `n` of them, after a parent and its hash. -/
def State.addNodes (s : State) (q : SeqS) (pages : List Nat) : Nat → Nat → Nat → List Nat → State
  | 0, _, _, _ => s
  | n + 1, parent, h, tok =>
    if tok.length < 16 || tok.contains unknownTok then s else
    let x := blockHash h (tok.take 16)
    match s.kv.nodes.find? (fun m => m.kw == q.kw && m.parent == parent && m.hash == x) with
    | some m => s.addNodes q pages n m.num x (tok.drop 16)
    | none =>
      let held := s.kv.nodes.any (fun m => m.pages == pages)
      let num := s.kv.nextNode
      let node : TreeNode := ⟨num, q.kw, parent, x, tok.take 16, pages, q.slot, q.version, s.now⟩
      let s := { s with kv := { s.kv with nodes := s.kv.nodes ++ [node], nextNode := num + 1 } }
      let s := if held then s else pages.foldl (fun y h => (y.incRef h).putPage h { (y.incRef h).page h with inTree := true }) s
      s.addNodes q pages n num x (tok.drop 16)

/-- The node that holds the last block before a block of a sequence, with its hash; the root before block 0. -/
def State.parentOf (s : State) (q : SeqS) (b : Nat) : Option (Nat × Nat) :=
  if b == 0 then some (0, q.seed) else
  let hs := blockHashes q.seed b q.tokens
  hs.foldl (fun acc h => match acc with
    | none => none
    | some (p, _) => (s.kv.nodes.find? (fun m => m.kw == q.kw && m.parent == p && m.hash == h)).map (fun m => (m.num, h))) (some (0, q.seed))

/-- Seal one page number of a sequence and register its blocks. -/
def State.sealPage (s : State) (i p : Nat) : State :=
  let q := s.seqAt i
  let all := (List.range q.lanes.length).filterMap (fun n => (s.kv.pteAt q q.cur n p).map (·.page))
  if all.all (fun h => (s.page h).sealed) then s else
  let s := all.foldl (fun x h => if (x.page h).sealed then x else x.putPage h { x.page h with sealed := true, sealTime := x.notchTime }) s
  if s.setK .PREFIX_ENABLE q.kw == 0 || q.ring then s else
  let b := p * q.per / 16
  match s.parentOf q b with
  | none => s
  | some (parent, h) => s.addNodes q (s.pageSet q p) (q.per / 16) parent h ((q.tokens.drop (p * q.per)).take q.per)

/-- PAGE_SEAL (R361): every page whose slots all hold committed positions. -/
def State.sealPages (s : State) (i : Nat) : State :=
  let q := s.seqAt i
  if q.state != 1 then s else
  (List.range (q.localLen q.length / q.per)).foldl (fun x p => x.sealPage i p) s

/-! ### Objects (R401) -/

/-- A sequence record as bytes (Table 9.3). -/
def SeqS.info (q : SeqS) : Bytes :=
  if q.state == 0 then zeros 64 else
  leBytes 1 q.state ++ leBytes 1 q.kw ++ leBytes 1 q.slot ++
    leBytes 1 ((if q.full then 1 else 0) + (if q.ring then 2 else 0) + (if q.forked then 4 else 0)) ++ leBytes 4 q.version ++
    leBytes 4 q.length ++ leBytes 4 q.reserved ++ leBytes 4 q.gen ++ leBytes 1 q.home ++ leBytes 1 q.log2 ++ leBytes 2 q.adapter ++
    leBytes 8 (addrOf q.home q.cur) ++ leBytes 8 (addrOf q.home q.next) ++ leBytes 2 q.dirs ++ leBytes 2 q.lanes.length ++ leBytes 2 q.ringId ++
    leBytes 1 q.ringSize ++ leBytes 1 q.ringIdx ++ leBytes 1 q.ringLog2 ++ zeros 3 ++ leBytes 2 q.req ++ zeros 2 ++ leBytes 8 q.lastSwap

/-- Pages of a keyway, or of all (KV_PAGES_USED). -/
def State.kvPages (s : State) (kw : Option Nat) : List PageS :=
  (s.kv.pages.map Prod.snd).filter (fun p => match kw with
    | none => true
    | some w => p.kw == w)
/-- KV_BYTES_USED. -/
def State.kvBytes (s : State) (kw : Option Nat) : Nat := sumNat ((s.kvPages kw).map PageS.mem)
/-- Sequences in use that satisfy a test. -/
def State.seqCount (s : State) (kw : Option Nat) (p : SeqS → Bool) : Nat :=
  (s.kv.seqs.filter (fun x => x.2.state != 0 && p x.2 && (match kw with
    | none => true
    | some w => x.2.kw == w))).length
/-- ATTN_MAP_VERSIONS. -/
def State.mapVersions (s : State) (n : Nat) : Bytes :=
  let x := s.slot n
  [x.cur, x.pend, x.old].flatMap (fun v => leBytes 4 (match v with
    | some v => if (s.mapOf n v.number).isSome then v.number else 0
    | none => 0))

end Sys2Proof.Machine
end

