-- ==== Sys2Proof/Machine/Latch.lean ====
section
/-! DEFINITION. Machine/Latch.lean: the latch unit (spec/11 R481–R488, spec/12 R500). -/
namespace Sys2Proof.Machine
open Sys2Proof

/-- Operation codes of Table 11.12. -/
def latchSignalOp : Nat := 1
/-- SET. -/
def latchSetOp : Nat := 2
/-- READ. -/
def latchReadOp : Nat := 3
/-- WAIT. -/
def latchWaitOp : Nat := 4

/-- STATUS codes of Table 11.12. -/
inductive LStat where
  | ok | timeout | denied | lost | full | unknown
  deriving DecidableEq, Repr

/-- Their values. -/
def LStat.code : LStat → Nat
  | .ok => 0 | .timeout => 1 | .denied => 2 | .lost => 3 | .full => 4 | .unknown => 5

/-- The largest COUNT. -/
def countMax : Nat := 4294967295

/-- COUNT of a physical latch. -/
def LatchS.count (l : LatchS) (p : Nat) : Nat := mapGet l.counts p 0
/-- COUNT replaced; a 0 is not listed. -/
def LatchS.put (l : LatchS) (p v : Nat) : LatchS := { l with counts := if v == 0 then mapDel l.counts p else mapSet l.counts p v }

/-- A function's latch registers. -/
def State.lregs (s : State) (fn : Nat) : LatchRegs := mapGet s.latch.regs fn {}
/-- Replace them. -/
def State.putLregs (s : State) (fn : Nat) (r : LatchRegs) : State :=
  { s with latch := { s.latch with regs := mapSet s.latch.regs fn r } }

/-- The physical latch of a number in a keyway's view, or why there is none (R484, R500). A keyway that is not ON, or is being removed, has no
latch (spec/12 Table 12.6, Table 12.7); KW0's view is the physical function's (R481, log 21). -/
def State.latchSeen (s : State) (kw num : Nat) : Except LStat Nat :=
  if num ≥ 16384 then .error .unknown
  else if s.kwClosing kw || (kw != 0 && !s.kwOn kw) then .error .denied
  else match s.latchOf kw num with
    | some p => .ok p
    | none => .error .denied

/-- Pending waits of the device, completions that wait for ring room among them (R482, R485). -/
def LatchS.pending (l : LatchS) : Nat := l.waiters.length + sumNat (l.regs.map (fun r => r.2.queue.length))

/-- A waiter on another device (R484). -/
def Waiter.isRemote (w : Waiter) : Bool := match w.by_ with | .remote .. => true | _ => false

/-- Keyway of a waiter. -/
def WaiterBy.kw : WaiterBy → Nat
  | .host fn _ => fn
  | .unit kw _ => kw
  | .remote _ _ kw _ _ => kw

/-- A host's completion goes to its queue (R485). -/
def State.queueCpl (s : State) (fn num tag count : Nat) (st : LStat) : State :=
  let r := s.lregs fn
  s.putLregs fn { r with queue := r.queue ++ [⟨num, tag, count, s.notchTime, st.code⟩] }

/-- The frame a LATCH_REPLY answers, as far as a reply needs it. -/
def latchAsk (src flow kw keySlot : Nat) : HFrame := { type := 0x40, src := src, flow := flow, keyway := kw, keySlot := keySlot }

/-- Send a LATCH_REPLY (R484, Table 11.6). -/
def State.latchReply (s : State) (f : HFrame) (count : Nat) (st : LStat) : State := s.replyTo f 0x41 st.code (leBytes 4 count)

/-- A WAIT completes for whoever waits (R483–R485). A unit of the device takes its completion inside its step order. -/
def State.waitDone (s : State) (by_ : WaiterBy) (num count : Nat) (st : LStat) : State :=
  match by_ with
  | .host fn tag => s.queueCpl fn num tag count st
  | .unit _ _ => s
  | .remote src flow kw keySlot _ => s.latchReply (latchAsk src flow kw keySlot) count st

/-- Waiters complete in arrival order. -/
def State.waitsDone (s : State) (count : Waiter → Nat) (st : LStat) : List Waiter → State
  | [] => s
  | w :: r => (s.waitDone w.by_ w.num (count w) st).waitsDone count st r

/-- Take out the waiters that satisfy a test. -/
def State.dropWaiters (s : State) (p : Waiter → Bool) : State :=
  { s with latch := { s.latch with waiters := s.latch.waiters.filter (fun w => !p w) } }

/-- Complete the waiters that satisfy a test, with the COUNT of their latch (R481). -/
def State.completeWaiters (s : State) (p : Waiter → Bool) (st : LStat) : State :=
  let l := s.latch
  (s.dropWaiters p).waitsDone (fun w => l.count w.latch) st (l.waiters.filter p)

/-- A SIGNAL or SET leaves a COUNT: every waiter whose target is met completes (R482). -/
def State.latchTo (s : State) (p v : Nat) : State :=
  let s := { s with latch := s.latch.put p v }
  s.completeWaiters (fun w => w.latch == p && decide (w.target ≤ v)) .ok

/-- An operation on a latch is counted and stamped (R488). -/
def State.latchUsed (s : State) (kw p : Nat) : State :=
  let s := s.incK .LATCH_OPS kw
  { s with latch := { s.latch with stamps := mapSet s.latch.stamps p s.notchTime } }

/-- A WAIT beyond the limits (R482). -/
def LatchS.isFull (l : LatchS) (p : Nat) (remote : Bool) : Bool :=
  decide (l.pending ≥ 4096) || (remote && decide ((l.waiters.filter (fun w => w.latch == p && w.isRemote)).length ≥ 16))

/-- A refused operation is counted; the COUNT its reply carries is free, for no latch of the view is read (log 30). -/
def State.latchRefused (s : State) (kw : Nat) (st : LStat) : State × Nat :=
  let s := if st = .denied then s.incK .LATCH_DENIED kw else s
  (s.drawn, s.freeBelow (countMax + 1))

/-- SIGNAL, SET or READ on a latch of this device: COUNT after it and STATUS (Table 11.12). -/
def State.latchNow (s : State) (kw num op v : Nat) : State × Nat × LStat :=
  match s.latchSeen kw num with
  | .error e => let (s, c) := s.latchRefused kw e; (s, c, e)
  | .ok p =>
    let s := s.latchUsed kw p
    let c := s.latch.count p
    if op == latchSignalOp then (s.latchTo p (min (c + v) countMax), min (c + v) countMax, .ok)
    else if op == latchSetOp then (s.latchTo p v, v, .ok)
    else (s, c, .ok)

/-- WAIT on a latch of this device (R482, R484, R485): it completes at once, finds no place, or is registered. A target that is met needs a place of a
host's WAIT alone, for its record (R485). A host's WAIT that finds no
place fills LATCH_STATUS and writes no record. -/
def State.latchWait (s : State) (by_ : WaiterBy) (num target timeout : Nat) : State :=
  match s.latchSeen by_.kw num with
  | .error e => let (s, c) := s.latchRefused by_.kw e; s.waitDone by_ num c e
  | .ok p =>
    let s := s.latchUsed by_.kw p
    let c := s.latch.count p
    let w : Waiter := ⟨p, num, target, if timeout == 0 then none else some (s.notchClock + timeout * 65536), by_⟩
    let met := decide (target ≤ c)
    let host := match by_ with
      | .host _ _ => true
      | _ => false
    if s.latch.isFull p w.isRemote && (host || !met) then
      match by_ with
      | .host fn _ => s.putLregs fn { s.lregs fn with done := true, status := LStat.full.code }
      | _ => s.waitDone by_ num c .full
    else if met then s.waitDone by_ num c .ok
    else { s with latch := { s.latch with waiters := s.latch.waiters ++ [w] } }

/-- LATCH_OP payload (Table 11.13). -/
def latchPayload (num op v timeout tag : Nat) : Bytes :=
  leBytes 2 num ++ leBytes 1 op ++ [0] ++ leBytes 4 v ++ leBytes 4 timeout ++ leBytes 4 tag

/-- A reply reaches the host's registers (R485). -/
def State.hostReply (s : State) (fn count : Nat) (st : LStat) : State :=
  s.putLregs fn { s.lregs fn with busy := false, done := true, status := st.code, result := count }

/-- A remote operation ends at its source (R484, R485): with its reply, or LOST. -/
def State.remoteEnd (s : State) (who : LatchUser) (num op count : Nat) (st : LStat) : State :=
  match who with
  | .unit _ _ => s
  | .host fn _ tag => if op == latchWaitOp then s.queueCpl fn num tag count st else s.hostReply fn count st

/-- A remote operation that can reach no owner completes LOST, with a COUNT that is free (R463, R484, log 30). -/
def State.remoteLost (s : State) (who : LatchUser) (num op : Nat) : State :=
  s.drawn.remoteEnd who num op (s.freeBelow (countMax + 1)) .lost

/-- An operation on a latch of another device (R484): one frame to its owner. -/
def State.latchRemote (s : State) (who : LatchUser) (kw owner num op v timeout tag : Nat) : State :=
  let (s, n) := s.startFlow (.latch who num op) owner kw [⟨0x40, 0, latchPayload num op v timeout tag, .none⟩]
  if n.isNone then s.remoteLost who num op else s

/-- An operation of a unit of the device or of the host (R483–R485). A host's GO while BUSY is set is ignored; a WAIT clears BUSY at once. An
owner address that is this device's own names a local latch. -/
def latchCommand (w : LatchUser) (num op v timeout : Nat) (s : State) : State :=
  match w with
  | .unit kw u =>
    if op == latchWaitOp then s.latchWait (.unit kw u) num v timeout else (s.latchNow kw num op v).1
  | .host fn remote tag =>
    let r := s.lregs fn
    if !s.fnHere fn || r.busy then s else
    let num := num % 16384
    let v := v % 4294967296
    let timeout := timeout % 4294967296
    let tag := tag % 32768
    let addr := match remote with | some a => 32768 + a % 2048 | none => r.addr % 32768
    let s := s.putLregs fn { r with num := num, addr := addr, value := v, timeout := timeout, busy := op != latchWaitOp }
    let owner := match remote with | some a => if a % 2048 == s.logAddr then none else some (a % 2048) | none => none
    match owner with
    | some a => s.latchRemote (.host fn remote tag) fn a num op v timeout tag
    | none =>
      if op == latchWaitOp then s.latchWait (.host fn tag) num v timeout
      else
        let (s, c, st) := s.latchNow fn num op v
        s.hostReply fn c st

/-- The function or keyway of a latch user exists. -/
def latchUserOk : LatchUser → Bool
  | .host fn _ _ => decide (fn < 64)
  | .unit kw _ => decide (kw < 64)

/-- LATCH_SIGNAL. -/
def execLatchSignal (t : Nat) (w : LatchUser) (num v : Nat) (s : State) : Host.Outcome State Fault Refusal :=
  if latchUserOk w then .next (latchCommand w num latchSignalOp v 0 (s.at t)) else .fault .noSuchUnit

/-- LATCH_SET. -/
def execLatchSet (t : Nat) (w : LatchUser) (num v : Nat) (s : State) : Host.Outcome State Fault Refusal :=
  if latchUserOk w then .next (latchCommand w num latchSetOp v 0 (s.at t)) else .fault .noSuchUnit

/-- LATCH_READ. -/
def execLatchRead (t : Nat) (w : LatchUser) (num : Nat) (s : State) : Host.Outcome State Fault Refusal :=
  if latchUserOk w then .next (latchCommand w num latchReadOp 0 0 (s.at t)) else .fault .noSuchUnit

/-- LATCH_WAIT. -/
def execLatchWait (t : Nat) (w : LatchUser) (num target timeout : Nat) (s : State) : Host.Outcome State Fault Refusal :=
  if latchUserOk w then .next (latchCommand w num latchWaitOp target timeout (s.at t)) else .fault .noSuchUnit

/-- A waiter's timeout has passed. -/
def Waiter.expired (w : Waiter) (clock : Nat) : Bool := match w.until_ with | some u => decide (u ≤ clock) | none => false

/-- Each timeout is counted for its keyway (R488). -/
def State.countTimeouts (s : State) : List Waiter → State
  | [] => s
  | w :: r => (s.incK .LATCH_TIMEOUTS w.by_.kw).countTimeouts r

/-- The waits of a physical latch whose n notches have passed complete TIMEOUT (Table 11.12). -/
def latchTimeout (p : Nat) (s : State) : State :=
  let q : Waiter → Bool := fun w => w.latch == p && w.expired s.notchClock
  (s.countTimeouts (s.latch.waiters.filter q)).completeWaiters q .timeout

/-- LATCH_WAIT_TIMEOUT. -/
def execLatchWaitTimeout (t num : Nat) (s : State) : Host.Outcome State Fault Refusal :=
  if num < 16384 then .next (latchTimeout num (s.at t)) else .fault .noSuchUnit

/-- Records of a completion ring (Table 11.16). -/
def State.cplLen (s : State) (fn : Nat) : Nat := 2 ^ s.setK .LATCH_CPL_LOG2 fn

/-- A completion record (Table 11.15) with the PHASE of R412. -/
def LatchCpl.record (c : LatchCpl) (n len : Nat) : Bytes :=
  leBytes 2 c.num ++ leBytes 2 c.tag ++ leBytes 4 c.count ++ leBytes 7 c.notch ++ leBytes 1 (c.status + 128 * (1 - n / len % 2))

/-- The oldest waiting completion is written while its ring has room, and LATCH_VECTOR signalled (R485). -/
def cplWrite (fn : Nat) (s : State) : State :=
  let r := s.lregs fn
  match r.queue with
  | [] => s
  | c :: rest =>
    let len := s.cplLen fn
    if r.prod - r.cons ≥ len || !s.kwDma fn || !s.fnHere fn then s else
    let a := s.setK .LATCH_CPL_ADDR fn + 16 * (r.prod % len)
    let s := s.dmaWrite fn a (c.record r.prod len)
    (s.putLregs fn { r with prod := r.prod + 1, queue := rest }).emit (.msix fn (s.setK .LATCH_VECTOR fn))

/-- LATCH_COMPLETION_WRITE. -/
def execLatchCompletionWrite (t fn : Nat) (s : State) : Host.Outcome State Fault Refusal :=
  if fn < 64 then .next (cplWrite fn (s.at t)) else .fault .noSuchUnit

/-- A write of LATCH_CPL_CONS (R485): records consumed, modulo 65,536. -/
def latchCplCons (fn v : Nat) (s : State) : State :=
  let r := s.lregs fn
  if s.fnHere fn then s.putLregs fn { r with cons := r.cons + (v + 65536 - r.cons % 65536) % 65536 } else s

/-- LATCH_CPL_CONS. -/
def execLatchCplCons (t fn v : Nat) (s : State) : Host.Outcome State Fault Refusal :=
  if fn < 64 then .next (latchCplCons fn (v % 65536) (s.at t)) else .fault .noSuchUnit

/-- LATCH_STATUS (Table 11.14). -/
def LatchRegs.statusWord (r : LatchRegs) : Nat := (if r.busy then 1 else 0) + (if r.done then 2 else 0) + 4 * r.status

/-- A read of LATCH_STATUS clears DONE. -/
def latchStatusRead (fn : Nat) (s : State) : State :=
  let r := s.lregs fn
  if s.fnHere fn then (s.putLregs fn { r with done := false }).emit (.reg r.statusWord) else s

/-- LATCH_STATUS_READ. -/
def execLatchStatusRead (t fn : Nat) (s : State) : Host.Outcome State Fault Refusal :=
  if fn < 64 then .next (latchStatusRead fn (s.at t)) else .fault .noSuchUnit

/-- LATCH_INFO of a latch of a view (Table 11.18); 0 bytes for a latch outside it. -/
def State.latchInfo (s : State) (kw num : Nat) : Bytes :=
  match s.latchOf kw num with
  | none => zeros 16
  | some p =>
    let ws := s.latch.waiters.filter (fun w => w.latch == p)
    leBytes 4 (s.latch.count p) ++ leBytes 2 ((ws.filter (fun w => !w.isRemote)).length) ++
      leBytes 2 ((ws.filter Waiter.isRemote).length) ++ leBytes 8 (mapGet s.latch.stamps p 0)

/-- The latches of a range are set to COUNT 0 (spec/12 R496, Table 12.6). -/
def State.clearLatches (s : State) (r : Nat × Nat) : State :=
  { s with latch := { s.latch with counts := s.latch.counts.filter (fun c => !inRange r c.1) } }

end Sys2Proof.Machine
end

