-- ==== Sys2Proof/Machine/Ward.lean ====
section
/-! DEFINITION. Machine/Ward.lean: key slots, the management key, debug unlock, life-cycle requests, attestation and the host link's
configuration space (spec/12 R490–R491, R503–R518, R521–R527, spec/15 R608). -/
namespace Sys2Proof.Machine
open Sys2Proof

/-- Why a request is refused: STATUS and DETAIL of Table 3.11; none when it is accepted. -/
abbrev Refused := Option (Nat × Nat)

/-! ### Key slots -/

/-- Fields of a KEY_INSTALL record that have ranges (Table 12.4): SLOT, KEYWAY, USAGE and the reserved areas. -/
def keyFields : List MapField :=
  [⟨1, 0, 1, [(0, 127), (255, 255)]⟩, ⟨2, 1, 1, [(0, 63)]⟩, ⟨3, 2, 1, [(0, 3)]⟩, ⟨4, 3, 1, [(0, 0)]⟩, ⟨7, 105, 3, [(0, 0)]⟩]

/-- The same for MGMT_KEY_INSTALL, whose SLOT is 0xFF and KEYWAY 0 (R507, R523). -/
def mgmtKeyFields : List MapField :=
  [⟨1, 0, 1, [(255, 255)]⟩, ⟨2, 1, 1, [(0, 0)]⟩, ⟨3, 2, 1, [(0, 3)]⟩, ⟨4, 3, 1, [(0, 0)]⟩, ⟨7, 105, 3, [(0, 0)]⟩]

/-- A reserved bit of USAGE written 1 is cleared (spec/03 R116), before the fields are range checked. -/
def clampKey (fields : List MapField) (b : Bytes) : Bytes × List Clamp :=
  let u := leAt b 2 1
  let (b', l) := clampFields (overlay b 2 (leBytes 1 (u % 4))) fields
  (b', if u % 4 == u then l else (3, u, u % 4) :: l)

/-- The key of an install record (R509): its KEX_ID is in force and its key unwraps. -/
def State.unwrap (s : State) (b : Bytes) : Option Bytes :=
  if leAt b 4 4 != s.ward.kexId then none
  else Config.keyUnwrap s.ward.kexDraw (leBytes 4 (leAt b 4 4) ++ b.take 2) ((b.drop 8).take 97) ((b.drop 108).take 40)

/-- A key that does not install (R509). -/
def State.unwrapFail (s : State) (kw : Nat) : State × Refused := (s.raise 0x4C02 kw, some (0x10, 4))

/-- The transfers that hold the key of a slot now (INFLIGHT): its flows, and sealed reads of the keyways whose window names it for DMA. -/
def State.inFlight (s : State) (n : Nat) : Nat :=
  (s.fab.flows.filter (fun f => f.keySlot == n)).length +
    sumNat (s.slots.rings.map (fun r =>
      if s.namedSlot .DMA_KEY_SLOT r.1 == some n then (r.2.puts.filter (fun (p : Put) => p.gen.isSome)).length else 0))

/-- Installs since the slot was last EMPTY (GEN). -/
def KeySlot.gens (k : KeySlot) : Nat := k.gen + (match k.next with | some r => r.n | none => 0)

/-- A key goes into its slot (R508–R511): an EMPTY slot is ACTIVE at once; an ACTIVE one takes it at the boundary. -/
def KeySlot.install (k : KeySlot) (key : Bytes) (kw usage : Nat) : KeySlot :=
  if k.state == 1 then
    { k with next := some ⟨key, kw, usage, (match k.next with | some r => r.n + 1 | none => 1)⟩ }
  else { state := 1, kw := kw, usage := usage, gen := 1, key := key }

/-- KEY_INSTALL (R509–R511): `own` is the keyway of a mailbox session, none for a session of the physical function. -/
def State.keyInstall (s : State) (own : Option Nat) (b : Bytes) : State × Refused :=
  let n := leAt b 0 1
  let kw := leAt b 1 1
  let allowed := decide (n < 128) && (s.keySlot n).state != 2 && (match own with
    | none => true
    | some k => kw == k && (s.setK .DMA_KEY_SLOT k == n || s.setK .LINK_KEY_SLOT k == n))
  if !allowed then (s, some (0x10, 4)) else
  match s.unwrap b with
  | none => s.unwrapFail kw
  | some key => ((s.putKeySlot n ((s.keySlot n).install key kw (leAt b 2 1))).raise 0x1C01 kw, none)

/-- A slot enters CLOSING (R512): no transfer starts under it, and a rekey that waited has no effect. -/
def State.closeKey (s : State) (n : Nat) : State :=
  let k := s.keySlot n
  if k.state == 1 then s.putKeySlot n { k with state := 2, next := none, since := s.notchClock } else s

/-- Every generation of a slot is zeroised (R512). -/
def State.zeroKey (s : State) (n : Nat) : State :=
  let k := s.keySlot n
  if k.state == 0 then s
  else ({ s with ward := { s.ward with keys := mapDel s.ward.keys n } }).raise 0x1C02 k.kw

/-- KEY_DRAIN notches have passed since a reading of the notch clock. -/
def State.drainPast (s : State) (since : Nat) : Bool := s.notchesPast since (s.set0 .KEY_DRAIN)

/-- A slot at a boundary (R511, R512): a rekey takes effect; a CLOSING slot is zeroised once nothing holds it or KEY_DRAIN has passed. The
slots of a keyway under removal wait for its step 4 (Table 12.6). -/
def State.keyBoundary (s : State) (n : Nat) : State :=
  let k := s.keySlot n
  match k.next with
  | some r =>
    s.putKeySlot n { k with key := r.key, kw := r.kw, usage := r.usage, gen := k.gen + r.n, flows := 0, prev := some (k.key, s.notchClock), next := none }
  | none =>
    if k.state == 2 && !s.kwClosing k.kw && (s.inFlight n == 0 || s.drainPast k.since) then s.zeroKey n else s

/-- The key slots' part of a boundary. -/
def State.keysBoundary (s : State) : State := (s.ward.keys.map Prod.fst).foldl State.keyBoundary s

/-- Transfers hold the previous generation of a slot. -/
def State.prevHeld (s : State) (n : Nat) : Bool :=
  let k := s.keySlot n
  s.fab.flows.any (fun f => f.keySlot == n && f.gen != k.gen) ||
    s.slots.rings.any (fun r => s.namedSlot .DMA_KEY_SLOT r.1 == some n && r.2.puts.any (fun (p : Put) => p.gen.isSome && p.gen != some k.gen))

/-- A previous generation is destroyed once none holds it, or KEY_DRAIN notches after the boundary that replaced it (R511). -/
def keyDestroy (n : Nat) (s : State) : State :=
  let k := s.keySlot n
  match k.prev with
  | none => s
  | some (_, at_) => if !s.prevHeld n || s.drainPast at_ then s.putKeySlot n { k with prev := none } else s

/-- KEY_GENERATION_DESTROY. -/
def execKeyGenerationDestroy (t slot : Nat) (s : State) : Host.Outcome State Fault Refusal :=
  if slot < 128 then .next (keyDestroy slot (s.at t)) else .fault .noSuchUnit

/-- KEY_INFO (Table 12.3). -/
def State.keyInfo (s : State) (n : Nat) : Bytes :=
  let k := s.keySlot n
  leBytes 1 k.state ++ leBytes 1 (if k.state == 0 then 0xFF else k.kw) ++ leBytes 1 k.usage ++ leBytes 1 (if k.prev.isSome then 1 else 0) ++
    leBytes 4 k.gens ++ leBytes 4 k.flows ++ leBytes 4 (s.inFlight n)

/-! ### The management key, life-cycle requests and debug -/

/-- A keyway with confidential mode in force (R516). -/
def State.confBits (s : State) : Nat :=
  sumNat ((List.range 64).map (fun n => if (s.kway n).conf && s.kwState n != .off then 2 ^ n else 0))

/-- JTAG_STATE (R518, Table 12.8). -/
def State.jtagState (s : State) : Nat :=
  if s.confBits != 0 || s.ward.lc ≥ 5 then 0 else if s.ward.lc ≤ 1 || s.ward.jtag then 1 else 0

/-- MGMT_KEY_INSTALL (R507, R509, R523): in a claim the device moves to DEPLOYED at the next boundary; otherwise the key is replaced there. -/
def State.mgmtInstall (s : State) (claim : Bool) (b : Bytes) : State × Refused :=
  match s.unwrap b with
  | none => s.unwrapFail 0
  | some key =>
    let w := { s.ward with mgmtNext := some key }
    (({ s with ward := if claim then { w with lcNext := some 3 } else w }).raise 0x1C01 0, none)

/-- LC_NONCE changes (R524). -/
def State.newNonce (s : State) : State :=
  let (s, n) := s.random 32
  { s with ward := { s.ward with nonce := n } }

/-- The DeviceID certificate's serial number (log 9). -/
def deviceSerial : Bytes := (List.range 16).map (Config.asBuilt 2)

/-- A Brynfa-signed record of the LC_REQUEST layout (R524): NONCE is LC_NONCE and the signature holds. -/
def State.isSigned (s : State) (b : Bytes) : Bool :=
  (b.drop 4).take 32 == s.ward.nonce &&
    Config.ecdsaOk 1 (sha384 (deviceSerial ++ s.ward.nonce ++ leBytes 1 (leAt b 0 1) ++ leBytes 1 s.ward.lc)) ((b.drop 36).take 96)

/-- A transition of Table 12.9 that an LC_REQUEST may ask for: `keyed` says that it comes in an Expert session under the management key, `sig` that
its signature holds. -/
def State.lcAllowed (s : State) (target : Nat) (keyed sig : Bool) : Bool :=
  match s.ward.lc, target with
  | 1, 2 => sig
  | 3, 4 => sig && keyed && decide (s.ward.returns < 4)
  | 4, 2 => sig
  | 0, _ => false
  | 5, _ => false
  | _, 5 => sig || keyed
  | _, _ => false

/-- A refused life-cycle request (R524). -/
def State.lcRefuse (s : State) : State × Refused := (s.newNonce.raise 0x4C05 0xFF, some (0x10, 5))

/-- LC_REQUEST (R522, R524): an accepted transition waits for the boundary (R525). -/
def State.lcRequest (s : State) (keyed : Bool) (b : Bytes) : State × Refused :=
  let target := leAt b 0 1
  if s.lcAllowed target keyed (s.isSigned b) then
    (({ s with ward := { s.ward with lcNext := some target } }).newNonce, none)
  else s.lcRefuse

/-- MEAS extended with a value (R504). -/
def WardS.extend (w : WardS) (n : Nat) (v : Bytes) : WardS :=
  { w with meas := w.meas.set n (sha384 (w.meas.getD n (zeros 48) ++ v)) }

/-- The 48 bytes that describe a debug opening (Table 12.2, log 34): notch time, JTAG_STATE, reason 1 for DEBUG_UNLOCK. -/
def State.debugRecord (s : State) : Bytes := padTo 48 (leBytes 8 s.notchTime ++ leBytes 1 1 ++ leBytes 1 1)

/-- DEBUG_UNLOCK (R518). -/
def State.debugUnlock (s : State) (b : Bytes) : State × Refused :=
  if leAt b 0 1 == 0 && s.isSigned b then
    let s := s.newNonce
    (({ s with ward := { s.ward.extend 4 s.debugRecord with jtag := true } }).raise 0x4C04 0xFF, none)
  else s.lcRefuse

/-! ### Attestation (R506) -/

/-- MEAS_n. -/
def State.measReg (s : State) (n : Nat) : Bytes := s.ward.meas.getD n (zeros 48)

/-- Settings of a keyway's window, in order (Table 12.1). -/
def windowObjs : List Obj :=
  [.KW_EXPERT_ALLOWED, .KW_CONFIDENTIAL, .QUOTA_CORE_FIRST, .QUOTA_CORE_COUNT, .QUOTA_MEM_PAGES, .QUOTA_REQ, .QUOTA_RINGS,
   .QUOTA_LATCH_FIRST, .QUOTA_LATCH_COUNT, .ENERGY_SHARE, .DMA_KEY_SLOT, .LINK_KEY_SLOT, .IDE_STREAM]

/-- A keyway's window as in force: its settings in order, each in its own size (log 31). -/
def State.windowBytes (s : State) (n : Nat) : Bytes := windowObjs.flatMap (fun o => leBytes (tySize o.spec.ty) (s.setK o n))

/-- Measurement blocks of a connection: 1 to 5 are the registers, 6 through the DOE of KWn its window and FUNC_STATE (R506). -/
def State.measBlocks (s : State) (c : SpdmConn) : List (Nat × Bytes) :=
  (List.range 5).map (fun n => (n + 1, s.measReg n)) ++
    (match c with
      | .doe fn => [(6, sha384 (s.windowBytes fn ++ leBytes 1 (s.kwState fn).code))]
      | .i3c _ => [])

/-- The certificate chain of this boot. -/
def State.chain (s : State) : Bytes := Config.certChain (s.measReg 0) s.ward.kexDraw

/-- How far a connection has come. -/
def State.spdmStage (s : State) (c : SpdmConn) : Nat := ((s.ward.spdm.find? (fun x => x.1 == c)).map (fun x => x.2.stage)).getD 0

/-- A connection reaches a stage. -/
def State.putStage (s : State) (c : SpdmConn) (n : Nat) : State :=
  { s with ward := { s.ward with spdm := (c, ⟨n⟩) :: s.ward.spdm.filter (fun x => x.1 != c) } }

/-- SPDM error codes: InvalidRequest and UnexpectedRequest (log 33). -/
def spdmInvalid : SpdmMsg := .error 1
/-- UnexpectedRequest. -/
def spdmUnexpected : SpdmMsg := .error 4

/-- A connection exists; its responder runs once the WARD image does, and a DOE mailbox answers while the host link is up and its function is
enabled (R490, R506, R608). -/
def State.spdmUp (s : State) : SpdmConn → Bool
  | .doe fn => s.boot.ward && s.boot.ready && s.boot.link && s.fnHere fn
  | .i3c _ => s.boot.ward

/-- A DOE names a function. -/
def connOk : SpdmConn → Bool
  | .doe fn => decide (fn < 64)
  | .i3c _ => true

/-- Answer a request that needs a stage: out of order it is unexpected. -/
def State.spdmAt (s : State) (c : SpdmConn) (stage : Nat) (f : State → State × SpdmMsg) : State :=
  if !s.spdmUp c then s
  else if s.spdmStage c < stage then s.emit (.spdm c spdmUnexpected)
  else let (s, m) := f s; s.emit (.spdm c m)

/-- SPDM_GET_VERSION: SPDM 1.2; the connection begins anew. -/
def execSpdmGetVersion (t : Nat) (c : SpdmConn) (s : State) : Host.Outcome State Fault Refusal :=
  if connOk c then .next ((s.at t).spdmAt c 0 (fun s => (s.putStage c 1, .version [0x12]))) else .fault .noSuchUnit

/-- SPDM_GET_CAPABILITIES. -/
def execSpdmGetCapabilities (t : Nat) (c : SpdmConn) (s : State) : Host.Outcome State Fault Refusal :=
  if connOk c then .next ((s.at t).spdmAt c 1 (fun s => (s.putStage c 2, .capabilities))) else .fault .noSuchUnit

/-- SPDM_NEGOTIATE_ALGORITHMS. -/
def execSpdmNegotiateAlgorithms (t : Nat) (c : SpdmConn) (s : State) : Host.Outcome State Fault Refusal :=
  if connOk c then .next ((s.at t).spdmAt c 2 (fun s => (s.putStage c 3, .algorithms))) else .fault .noSuchUnit

/-- SPDM_GET_DIGESTS: the digest of the chain in slot 0. -/
def execSpdmGetDigests (t : Nat) (c : SpdmConn) (s : State) : Host.Outcome State Fault Refusal :=
  if connOk c then .next ((s.at t).spdmAt c 3 (fun s => (s, .digests [sha384 s.chain]))) else .fault .noSuchUnit

/-- SPDM_GET_CERTIFICATE: a portion of the chain in slot 0. -/
def execSpdmGetCertificate (t : Nat) (c : SpdmConn) (slot off len : Nat) (s : State) : Host.Outcome State Fault Refusal :=
  if connOk c then
    .next ((s.at t).spdmAt c 3 (fun s =>
      (s, if slot == 0 && decide (off < s.chain.length) then
        .certificate 0 ((s.chain.drop off).take len) (s.chain.length - off - min len (s.chain.length - off)) else spdmInvalid)))
  else .fault .noSuchUnit

/-- SPDM_CHALLENGE: the requester's nonce is answered under the Alias key. -/
def execSpdmChallenge (t : Nat) (c : SpdmConn) (nonce : Bytes) (s : State) : Host.Outcome State Fault Refusal :=
  if connOk c then
    .next ((s.at t).spdmAt c 3 (fun s =>
      let (s, n) := s.random 32
      (s.drawn, .challengeAuth (sha384 s.chain) n (Config.aliasSign (s.measReg 0) (sha384 s.chain ++ nonce ++ n) s.free))))
  else .fault .noSuchUnit

/-- SPDM_GET_MEASUREMENTS: 0 asks for the number of blocks, 0xFF for all, another number for one. -/
def execSpdmGetMeasurements (t : Nat) (c : SpdmConn) (which : Nat) (nonce : Bytes) (s : State) : Host.Outcome State Fault Refusal :=
  if connOk c then
    .next ((s.at t).spdmAt c 3 (fun s =>
      let all := s.measBlocks c
      let l := if which == 0 then [] else if which == 0xFF then all else all.filter (fun b => b.1 == which)
      if which != 0 && l.isEmpty then (s, spdmInvalid) else
      let (s, n) := s.random 32
      (s.drawn, .measurements all.length l n
        (Config.aliasSign (s.measReg 0) (leBytes 1 all.length ++ l.flatMap (fun b => leBytes 1 b.1 ++ b.2) ++ nonce ++ n) s.free))))
  else .fault .noSuchUnit

/-! ### IDE and the configuration space -/

/-- An IDE_KM message through the DOE of a function for a stream (R515): 0–7 selective, 8 the link's. KEY_PROG (1) gives a stream keys, K_SET_GO
(2) establishes it, K_SET_STOP (3) ends it; QUERY (0) changes nothing. A keyed stream is 1, an established one 2 (log 35). -/
def ideKm (kw stream k : Nat) (s : State) : State :=
  if !s.spdmUp (.doe kw) then s else
  let now := mapGet s.ward.streams stream 0
  let new := match k with
    | 1 => if now == 0 then 1 else now
    | 2 => if now == 0 then 0 else 2
    | 3 => 0
    | _ => now
  { s with ward := { s.ward with streams := if new == 0 then mapDel s.ward.streams stream else mapSet s.ward.streams stream new } }

/-- IDE_KM. -/
def execIdeKm (t kw stream k : Nat) (s : State) : Host.Outcome State Fault Refusal :=
  if kw < 64 ∧ stream < 9 then .next (ideKm kw stream k (s.at t)) else .fault .noSuchUnit

/-- A stream is established. -/
def State.streamUp (s : State) (n : Nat) : Bool := mapGet s.ward.streams n 0 == 2

/-- A configuration request (R490, R608): Request Retry Status until HOST_READY. Registers: 0 NumVFs, 1 TotalVFs, 2 First VF Offset, 3 VF Stride, of
the physical function; what another register holds is PCI Express's and reads free (log 36). -/
def configRequest (fn : Nat) (write : Bool) (reg v : Nat) (s : State) : State :=
  if !s.boot.link then s
  else if !s.boot.ready then s.emit (.config fn .retry)
  else if !s.fnHere fn then s.emit (.config fn .unsupported)
  else if write then
    let s := if fn == 0 && reg == 0 && v ≤ 63 then { s with ward := { s.ward with vfs := v } } else s
    s.emit (.config fn (.ok 0))
  else if fn == 0 && reg < 4 then s.emit (.config fn (.ok ([s.ward.vfs, 63, 1, 1].getD reg 0)))
  else s.drawn.emit (.config fn (.ok (s.freeBelow 4294967296)))

/-- CONFIG_REQUEST. -/
def execConfigRequest (t fn : Nat) (write : Bool) (reg v : Nat) (s : State) : Host.Outcome State Fault Refusal :=
  if fn < 64 then .next (configRequest fn write reg v (s.at t)) else .fault .noSuchUnit

end Sys2Proof.Machine
end

