-- ==== Sys2Proof/Machine/Records.lean ====
section
/-! DEFINITION. Machine/Records.lean: the event recorder, out-of-band reporting, the Ward watchdog's restart and CPER export (spec/14
R573–R589). -/
namespace Sys2Proof.Machine
open Sys2Proof

/-! ### The GDP frame (spec/03 Table 3.3) -/

/-- A GDP frame: header, payload, CRC-32C. -/
def gdpFrame (op session seq index sub status detail target : Nat) (payload : Bytes) : Bytes :=
  let h := leBytes 2 0x4744 ++ leBytes 1 1 ++ leBytes 1 op ++ leBytes 2 session ++ leBytes 2 seq ++ leBytes 2 index ++ leBytes 1 sub ++
    leBytes 1 status ++ leBytes 1 detail ++ leBytes 1 target ++ leBytes 2 payload.length ++ payload
  h ++ leBytes 4 (crc32c h)

/-! ### Records (R575–R581) -/

/-- A record names a confidential keyway, so its payload is zeroed (spec/12 R517). -/
def State.redacted (s : State) (kw : Nat) : Bool := decide (kw < 64) && (s.kway kw).conf

/-- The 24 payload bytes of an event (R640). -/
def Event.payload (e : Event) : Bytes :=
  match e.raw with
  | some b => padTo 24 b
  | none => leBytes 8 e.p0 ++ leBytes 8 e.p1 ++ leBytes 8 e.p2

/-- The 64 bytes of a record (Table 14.7). -/
def State.recordBytes (s : State) (e : Event) (seq flags : Nat) (payload : Bytes) : Bytes :=
  let op := s.opMsNow
  let b := leBytes 4 seq ++ leBytes 2 e.code ++ leBytes 1 flags ++ leBytes 1 e.kw ++ leBytes 4 s.evt.cycles ++
    leBytes 4 (op / 3600000) ++ leBytes 4 (op % 3600000) ++ leBytes 4 e.unit ++ leBytes 8 e.notch ++ leBytes 2 e.suppressed ++ payload
  b ++ leBytes 4 (crc32c b) ++ leBytes 2 0x5AA5

/-- CODE, KEYWAY and FLAGS of a record. -/
def recCode (b : Bytes) : Nat := leAt b 4 2
def recKw (b : Bytes) : Nat := leAt b 7 1
def recFlags (b : Bytes) : Nat := leAt b 6 1

/-- A record reads whole (R576): VALID is written and its CRC holds. -/
def EvRecord.whole (r : EvRecord) : Bool := leAt r.bytes 62 2 == 0x5AA5 && leAt r.bytes 58 4 == crc32c (r.bytes.take 58)

/-- A record is in a view, which a damaged one never is (R576): every record in the physical function's (`none`), a keyway's own and those of every keyway in a keyway's (R581). -/
def inView (view : Option Nat) (r : EvRecord) : Bool :=
  r.whole && (match view with
    | none => true
    | some n => recKw r.bytes == n || recKw r.bytes == 0xFE)

/-- The Ward scans the ring at a power-up and counts the damaged records (R576). -/
def State.scanRing (s : State) : State := s.putCount ⟨.EVT_DAMAGED, 0, 0⟩ (s.evt.ring.filter (fun r => !r.whole)).length

/-- Put a record into the ring of 128 sectors; the sector it begins has been erased (R575; log 41). -/
def ringAdd (l : List EvRecord) (r : EvRecord) : List EvRecord :=
  (if (r.seq - 1) % 1024 == 0 then l.filter (fun x => decide (r.seq ≤ x.seq + 130048)) else l) ++ [r]

/-- EVT_SINK_ADDR names a sink (R582). -/
def State.sink (s : State) : Bool := !(allZero (ovBytes (s.setting ⟨.EVT_SINK_ADDR, 0, 0⟩)))

/-- Signal EVT_VECTOR of a function under the suppression rule of R416, with a gap of 16 notches (R583). -/
def State.evtIrq (s : State) (fn : Nat) : State :=
  let within := match mapFind s.evt.irqLast fn with
    | some c => !s.notchesPast c 16
    | none => false
  if within then
    { s with evt := { s.evt with irqHeld := if s.evt.irqHeld.contains fn then s.evt.irqHeld else s.evt.irqHeld ++ [fn] } }
  else ({ s with evt := { s.evt with irqLast := mapSet s.evt.irqLast fn s.notchClock } }).emit (.msix fn (s.setK .EVT_VECTOR fn))

/-- PCIe functions whose view holds a record. -/
def State.viewers (s : State) (kw : Nat) : List Nat :=
  (List.range 64).filter (fun fn => s.fnHere fn && (fn == 0 || kw == 0xFE || kw == fn))

/-- Report a written record: datagram, In-Band Interrupt, EVT_VECTOR (R582, R583). -/
def State.reportRecord (s : State) (r : EvRecord) : State :=
  let c := recCode r.bytes / 4096
  let s := if s.sink && s.set0 .EVT_NOTIFY_MIN_CLASS ≤ c then s.emit (.datagram (gdpFrame 1 0 (r.seq % 65536) 0x6100 0x11 0 0 0 r.bytes)) else s
  let s := if c ≥ 8 then s.emit (.ibi (c * 16)) else s
  if c ≥ 4 && s.boot.link then (s.viewers (recKw r.bytes)).foldl State.evtIrq s else s

/-- The next SEQ (R576). -/
def State.takeSeq (s : State) : State × Nat := ({ s with evt := { s.evt with nextSeq := s.evt.nextSeq + 1, loss := false } }, s.evt.nextSeq)

/-- Write one record (R575–R578): FLAGS beside REDACTED and LOSS are given. -/
def State.putRecord (s : State) (e : Event) (flags : Nat) (payload : Bytes) : State × EvRecord :=
  let red := s.redacted e.kw
  let f := flags + (if red then 1 else 0) + (if s.evt.loss then 16 else 0)
  let q := s.takeSeq
  let r : EvRecord := ⟨q.2, q.1.recordBytes e q.2 f (if red then zeros 24 else payload)⟩
  let v := q.1.evt
  let crit := if evClass e.code == 0xC && !(e.summary) && f / 4 % 2 == 0 then v.critUnacked ++ [r.seq] else v.critUnacked
  (({ q.1 with evt := { v with ring := ringAdd v.ring r, critUnacked := crit } }).reportRecord r, r)

/-! ### CPER export (R587–R589) -/

/-- A GUID in its mixed byte order, from its five fields (PRESUMED, log 42). -/
def guid (a b c d e : Nat) : Bytes := leBytes 4 a ++ leBytes 2 b ++ leBytes 2 c ++ beBytes 2 d ++ beBytes 6 e

/-- A CPER record (Table 14.9) of 296 bytes at the offsets of UEFI (PRESUMED, log 42). -/
def State.cper (s : State) (r : EvRecord) : Bytes :=
  let c := recCode r.bytes / 4096
  let sev := leBytes 4 (if c == 4 then 2 else if c == 8 then 0 else 1)
  let vendor := guid 0x2E71C4A9 0x05BD 0x4F62 0x8A13 0xC6D9E0F4B257
  let head := [0x43, 0x50, 0x45, 0x52] ++ zeros 6 ++ leBytes 2 1 ++ sev ++ leBytes 4 1 ++ leBytes 4 296 ++ zeros 8 ++
    (List.range 8).map (Config.asBuilt 3) ++ zeros 8 ++ zeros 16 ++ vendor ++ vendor ++ leBytes 8 r.seq ++ zeros 24
  let desc := leBytes 4 200 ++ leBytes 4 96 ++ zeros 4 ++ leBytes 4 1 ++ guid 0x9B3F6E21 0x4C8D 0x4A17 0xB5E2 0x7D04C1A96F38 ++ zeros 16 ++ sev ++ zeros 20
  head ++ desc ++ r.bytes ++ leBytes 2 (s.count ⟨.PART_CODE, 0, 0⟩) ++ leBytes 2 (s.count ⟨.STEPPING, 0, 0⟩) ++
    leBytes 2 s.physAddr ++ leBytes 2 s.logAddr ++ deviceSerial.take 8 ++ zeros 16

/-- A record of this code is exported (R587). -/
def State.exports (s : State) (code : Nat) (summary : Bool) : Bool :=
  !summary && s.set0 .CPER_ENABLE == 1 && (evClass code ≥ 8 || (evClass code == 4 && s.set0 .CPER_WARN == 1))

/-- Write a CPER record to its slot with the trailer last, and signal (R589); the host link carries both, and none is written while
an FLR has stopped the DMA of KW0 (spec/12 R493). -/
def State.exportCper (s : State) (r : EvRecord) : State :=
  let b := s.cper r
  let n := s.evt.cperNext
  let log := s.set0 .CPER_RING_LOG2
  let s := { s with evt := { s.evt with cperNext := n + 1, cperLast := b } }
  if !s.boot.link || !s.kwDma 0 then s else
  let a := s.set0 .CPER_RING_ADDR + 512 * (n % 2 ^ log)
  let phase := 1 - n / 2 ^ log % 2
  let s := (s.dmaWrite 0 a b).dmaWrite 0 (a + 508) (leBytes 4 (phase * 2 ^ 31 + r.seq % 2 ^ 31))
  (s.inc .CPER_WRITTEN).emit (.msix 0 (s.set0 .CPER_VECTOR))

/-! ### EVENT_RECORD_WRITE -/

/-- Continuation records of an event, up to 16, each but the last with MORE (R580). -/
def State.putCont (s : State) (e : Event) : Nat → Bytes → State
  | 0, _ => s
  | n + 1, b =>
    if b.isEmpty then s else
    let more := n != 0 && !(b.drop 24).isEmpty
    ((s.putRecord { e with suppressed := 0 } (4 + (if more then 8 else 0)) (padTo 24 (b.take 24))).1).putCont e n (b.drop 24)

/-- Write an event: its record, its continuation, its export (R575–R589). The first record of an event that continues carries MORE. -/
def State.writeEvent (s : State) (e : Event) : State :=
  let x := s.exports e.code e.summary
  let cont := if s.redacted e.kw then [] else e.cont
  let f := (if e.summary then 2 else 0) + (if cont.isEmpty then 0 else 8) + (if x then 32 else 0)
  let q := s.putRecord e f (if e.summary then zeros 24 else e.payload)
  let s := q.1.putCont e 16 cont
  if x then s.exportCper q.2 else s

/-- The Ward writes the first event of the queue to the flash ring (R576, R578). -/
def recordWrite (s : State) : State :=
  match s.evt.queue with
  | [] => s
  | e :: q => if s.boot.ward then ({ s with evt := { s.evt with queue := q } }).writeEvent e else s

/-- EVENT_RECORD_WRITE. -/
def execEventRecordWrite (t : Nat) (s : State) : Host.Outcome State Fault Refusal := .next (recordWrite (s.at t))

/-- Every event of the queue is written, as before a controlled stop (spec/15 R604). -/
def State.writeQueue (s : State) : Nat → State
  | 0 => s
  | n + 1 => (recordWrite s).writeQueue n

/-- A signal held back is sent when the gap ends (R583, R416). -/
def evtIrqGap (fn : Nat) (s : State) : State :=
  let passed := match mapFind s.evt.irqLast fn with
    | some c => s.notchesPast c 16
    | none => true
  if s.evt.irqHeld.contains fn && passed then
    ({ s with evt := { s.evt with irqHeld := s.evt.irqHeld.filter (· != fn), irqLast := mapSet s.evt.irqLast fn s.notchClock } }).emit
      (.msix fn (s.setK .EVT_VECTOR fn))
  else s

/-- EVT_IRQ_GAP_END. -/
def execEvtIrqGapEnd (t fn : Nat) (s : State) : Host.Outcome State Fault Refusal :=
  if fn < 64 then .next (evtIrqGap fn (s.at t)) else .fault .noSuchUnit

/-- A token arrives for a pair with suppressed events and none at the same instant: a SUMMARY record takes it (R579). -/
def rateToken (code kw : Nat) (s : State) : State :=
  match findBucket s.evt.buckets code kw with
  | none => s
  | some b =>
    let r := b.refill s.now (s.set0 .EVT_RATE_PERIOD * 1000000000) (s.set0 .EVT_RATE_BURST)
    if b.suppressed == 0 || r.tokens == 0 then s else
    let v := { s.evt with buckets := putBucket s.evt.buckets { r with tokens := r.tokens - 1, suppressed := 0 } }
    { s with evt := v.enqueue { code, kw, notch := s.notchTime, suppressed := min 65535 b.suppressed, summary := true } }

/-- RATE_TOKEN_SUMMARY. -/
def execRateTokenSummary (t code kw : Nat) (s : State) : Host.Outcome State Fault Refusal := .next (rateToken code kw (s.at t))

/-- The newest SEQ in a view, 0 for none (R576, R596). -/
def State.newestSeq (s : State) (view : Option Nat) : Nat := ((s.evt.ring.filter (inView view)).getLast?.map (·.seq)).getD 0
/-- The oldest SEQ in a view, 0 for none. -/
def State.oldestSeq (s : State) (view : Option Nat) : Nat := ((s.evt.ring.filter (inView view)).head?.map (·.seq)).getD 0

/-- The heartbeat to the sink, each EVT_HEARTBEAT ms (R582). -/
def evtHeartbeat (s : State) : State :=
  if s.boot.ward && s.sink && s.now ≥ s.evt.hbLast + s.set0 .EVT_HEARTBEAT * 1000000000 then
    ({ s with evt := { s.evt with hbLast := s.now } }).emit
      (.datagram (gdpFrame 1 0 (s.newestSeq none % 65536) 0x6100 0x01 0 0 0 (leBytes 4 (s.newestSeq none))))
  else s

/-- EVT_HEARTBEAT. -/
def execEvtHeartbeat (t : Nat) (s : State) : Host.Outcome State Fault Refusal := .next (evtHeartbeat (s.at t))

/-- A write of EVT_ACK acknowledges critical records (R584). -/
def State.evtAck (s : State) (v : Nat) : State := { s with evt := { s.evt with critUnacked := s.evt.critUnacked.filter (fun x => decide (v < x)) } }

/-- ALERT_N is driven low: unacknowledged critical records, or the Ward in reset, held or in recovery (R584, R600, spec/15 R613); without
V3P3_SB nothing drives it. -/
def State.alertLow (s : State) : Bool := s.boot.v3p3 && (!s.evt.critUnacked.isEmpty || !s.boot.ward || s.boot.recovery)

/-! ### Operating time (R577) -/

/-- Persist the operating time, whole. -/
def State.saveOp (s : State) : State := { s with evt := { s.evt with opSaved := s.opMsNow } }

/-- The Ward persists the count at each whole hour. -/
def opHour (s : State) : State :=
  let h := s.opMsNow / 3600000 * 3600000
  if s.boot.ward && s.evt.opSaved < h then { s with evt := { s.evt with opSaved := h } } else s

/-- OP_HOUR_PERSIST. -/
def execOpHourPersist (t : Nat) (s : State) : Host.Outcome State Fault Refusal := .next (opHour (s.at t))

/-! ### Objects -/

/-- EVT_WINDOW: the first 16 records in view with SEQ ≥ the query (R597). -/
def State.evtWindow (s : State) (view : Option Nat) (q : Nat) : Bytes :=
  padTo 1024 ((((s.evt.ring.filter (inView view)).filter (fun r => decide (q ≤ r.seq))).take 16).flatMap (·.bytes))

/-- EVT_LAST (R597). -/
def State.evtLast (s : State) (view : Option Nat) : Bytes := padTo 64 (((s.evt.ring.filter (inView view)).getLast?.map (·.bytes)).getD [])

/-- EVT_DROPPED (R578, R596). -/
def State.evtDropped (s : State) (view : Option Nat) : Nat :=
  sumNat ((s.evt.dropped.filter (fun p => match view with
    | none => true
    | some n => p.1 == n || p.1 == 0xFE)).map Prod.snd)

end Sys2Proof.Machine
end

