-- ==== Sys2Proof/Machine/Bist.lean ====
section
/-! DEFINITION. Machine/Bist.lean: quarantine and the known-answer test, memory BIST, logic BIST, the array test and repair (spec/14
R568–R570, R590–R595). -/
namespace Sys2Proof.Machine
open Sys2Proof

/-! ### Known-answer test (R569) -/

/-- A unit's quarantine has lasted RESIDUE_QUARANTINE beats (R569, R634). -/
def State.quarantineOver (s : State) (u : UnitId) : Bool :=
  match mapFind s.evt.quarantine u with
  | some (b, _) => decide (s.beatsSince b ≥ s.set0 .RESIDUE_QUARANTINE)
  | none => false

/-- A quarantine ends: the owner runs the known-answer test in a quiet window. -/
def quarantineEnd (u : UnitId) (s : State) : State :=
  if s.quarantineOver u && !s.bist.kat.contains u then { s with bist := { s.bist with kat := s.bist.kat ++ [u] } } else s

/-- RESIDUE_QUARANTINE_END. -/
def execResidueQuarantineEnd (t : Nat) (unit : UnitId) (s : State) : Host.Outcome State Fault Refusal :=
  match s.canonUnit unit with
  | some u => .next (quarantineEnd u (s.at t))
  | none => .fault .noSuchUnit

/-- BIST_RESULT (Table 14.12). -/
def bistResult (u : UnitId) (kind outcome count first sig expected : Nat) : Bytes :=
  leBytes 4 u ++ leBytes 1 kind ++ leBytes 1 outcome ++ zeros 2 ++ leBytes 4 count ++ leBytes 4 first ++ leBytes 8 sig ++ leBytes 8 expected

/-- An earlier mismatch of the unit lies within the last 1,000 h of operation; the one that isolated it is not an earlier one. -/
def State.earlierMismatch (s : State) (u : UnitId) (own : Bool) : Bool :=
  let l := s.evt.mismatches.filter (fun m => m.1 == u && decide (s.opMsNow < m.2 + 3600000000))
  decide (l.length > (if own then 1 else 0))

/-- The known-answer test of a unit ends, in a quiet window (R569): it returns to ONLINE at the next boundary, or is FAULTED for good. The table gives a result of
this kind no count and no signatures, so they are free (log 43). -/
def katDone (u : UnitId) (pass : Bool) (s : State) : State :=
  if !s.bist.kat.contains u || s.beat.phase != .quiet || s.boundaryDue then s else
  let own := match mapFind s.evt.quarantine u with
    | some (_, m) => m
    | none => false
  let ok := pass && !s.earlierMismatch u own
  let r := bistResult u 3 (if pass then 0 else 1) (Config.freeNat s.free) 0xFFFFFFFF (Config.freeNat (s.free + 1)) (Config.freeNat (s.free + 2))
  let s := { s with free := s.free + 3
                    evt := { s.evt with quarantine := mapDel s.evt.quarantine u }
                    bist := { s.bist with kat := s.bist.kat.filter (· != u), result := r
                                          katOk := if ok then s.bist.katOk ++ [u] else s.bist.katOk
                                          kept := if ok then s.bist.kept else s.bist.kept.filter (· != u) ++ [u] } }
  let s := if ok then s else s.setOwn u ((s.ownState u).worse .faulted)
  (s.inc .KAT_COUNT).raise (if pass then 0x1E03 else 0x8E02) 0xFF u

/-- KAT_DONE. -/
def execKatDone (t : Nat) (unit : UnitId) (pass : Bool) (s : State) : Host.Outcome State Fault Refusal :=
  match s.canonUnit unit with
  | some u => .next (katDone u pass (s.at t))
  | none => .fault .noSuchUnit

/-- At the boundary, units whose test has passed return to ONLINE. -/
def State.katBoundary (s : State) : State :=
  let l := s.bist.katOk
  let s := { s with bist := { s.bist with katOk := [] } }
  l.foldl (fun (x : State) u => if x.ownState u = .isolated then x.setOwn u .online else x) s

/-! ### Memory BIST (R590, R591) -/

/-- One failure: its entry, its event, and what becomes of the unit. A page of 2 MiB lies in both stacks of its die (spec/02 R45). -/
def State.bistFail (s : State) (f : BistFail) : State :=
  let e := leBytes 4 f.unit ++ leBytes 1 f.kind ++ leBytes 1 f.action ++ leBytes 2 f.bit ++ leBytes 8 f.addr
  let fixed := f.action == 1 || f.action == 2
  let w := (f.kind, f.unit, f.addr)
  let b := { s.bist with entries := if s.bist.entries.length < 1024 then s.bist.entries ++ [e] else s.bist.entries
                         repairs := if fixed then s.bist.repairs.filter (· != w) ++ [w] else s.bist.repairs
                         outcome := max s.bist.outcome (if fixed then 1 else 2) }
  let s := ({ s with bist := b }).raise (if fixed then 0x1E02 else 0x8E03) 0xFF f.unit
  if fixed then s else
  match f.kind with
  | 0 =>
    let cl := uidDieOf f.unit * 16 + uidClusterOf f.unit
    let site := uidCoreOf f.unit
    if s.siteEnabled cl site then
      let u := s.uidCore (cl * s.coresPer + s.logicalOfSite cl site)
      s.setOwn u ((s.ownState u).worse .retired)
    else s
  | 1 => let u := uidCluster (uidDieOf f.unit * 16 + uidClusterOf f.unit)
         s.setOwn u ((s.ownState u).worse .retired)
  | 4 =>
    let stack := uidNumber f.unit
    let p := (dieOfStack stack, dieAddr stack f.addr / 2097152)
    if s.bist.pages.contains p then s else
    { s with bist := { s.bist with pages := s.bist.pages ++ [p] }, mem := { s.mem with withheld := s.mem.withheld + 1 } }
  | _ => { s with boot := { s.boot with limited := s.boot.limited ||| 4 } }

/-- Memory BIST at a power-up: its failures and its duration in ms; memory is left zeroed. -/
def State.memoryBist (s : State) (l : List BistFail) (ms : Nat) : State :=
  let s := { s with bist := { s.bist with entries := [], outcome := 0, pages := [], ms }, mem := { s.mem with withheld := 0 }, kwMem := [] }
  l.foldl State.bistFail s

/-- MBIST_WINDOW: 64 entries from an index (R597). -/
def State.mbistWindow (s : State) (q : Nat) : Bytes := padTo 1024 (((s.bist.entries.drop q).take 64).flatten)

/-! ### Logic BIST, array test, repair (R592–R595) -/

/-- BIST_AUTH (R592): signed like an LC_REQUEST, TARGET 0x20, in MANUFACTURE or RETURN. -/
def State.bistAuth (s : State) (b : Bytes) : State × Refused :=
  if leAt b 0 1 == 0x20 && s.isSigned b then
    (({ s with bist := { s.bist with auth := true } }).newNonce, none)
  else s.lcRefuse

/-- A unit as LBIST_RUN and UNIT_QUERY may name it: a core also by its physical site, where a disabled site keeps its number (R81, R83). -/
def State.siteUnit (s : State) (v : Nat) : Option UnitId :=
  if uidType v == 3 && v.testBit 10 then
    let cl := uidDieOf v * 16 + uidClusterOf v
    let site := uidCoreOf v
    if site ≥ 24 then none
    else if s.siteEnabled cl site then some (s.uidCore (cl * s.coresPer + s.logicalOfSite cl site))
    else some (0x10000000 + uidCluster cl + site * 2 ^ 17 + 2 ^ 10)
  else s.canonUnit v

/-- A unit that LBIST_RUN may name (R593). -/
def State.lbistUnit (s : State) (v : Nat) : Option UnitId :=
  match s.siteUnit v with
  | some u => if [1, 2, 3, 9, 0xB].contains (uidType u) then some u else none
  | none => none

/-- Logic BIST of a unit begins at a boundary: the unit is isolated for management (R593). One run goes on at a time (log 44). -/
def State.lbistRun (s : State) (v : Nat) : State :=
  match s.lbistUnit v, s.bist.lbist with
  | some u, none => isolateManagement u { s with bist := { s.bist with lbist := some (u, s.ownState u) } }
  | _, _ => s

/-- A RETIRED engine or tier returns to GOOD (R595). -/
def State.repairEngine (s : State) (eng : Nat) : State :=
  let e := s.engine eng
  let fix (t : TierS) : TierS := if t.health == .retired then { t with health := .good, retiring := false } else t
  s.putEngine eng { e with tiers := e.tiers.map fix, cause := .none, retiring := none, healthAt := s.notchTime }

/-- A FAULTED Hasp core is repaired: it owns its own range of request entries and its slots again (spec/02 R63). -/
def State.repairHasp (s : State) (h : Nat) : State :=
  if s.ownState (uidHasp h) != .faulted then s else
  let s := s.setOwn (uidHasp h) .online
  State.reissue { s with hier := { s.hier with rangeOwner := s.hier.rangeOwner.set h h, resets := mapDel s.hier.resets (uidHasp h) } } h

/-- A unit has passed logic BIST; an attention engine, which LBIST_RUN does not name, passes with its cluster (log 44). -/
def State.lbistPassed (s : State) (u : UnitId) : Bool :=
  s.bist.lbistOk.contains u || (uidType u == 6 && s.bist.lbistOk.contains (uidCluster (uidDieOf u * 16 + uidClusterOf u)))

/-- Repairs that the tests passed so far allow (R595). -/
def State.repairs (s : State) : State :=
  let s := (s.bist.arrayOk.filter (fun e => s.bist.lbistOk.contains (s.uidCore (e / 16)))).foldl State.repairEngine s
  let s := ((List.range 8).filter (fun h => s.bist.lbistOk.contains (uidHasp h))).foldl State.repairHasp s
  (s.bist.kept.filter s.lbistPassed).foldl
    (fun (x : State) u => ({ x with bist := { x.bist with kept := x.bist.kept.filter (· != u) } }).setOwn u .online) s

/-- A logic BIST run ends (R593): the first failing interval if one failed, and the MISR obtained. The expected signature is held in the Ward ROM
(log 44). -/
def lbistDone (first : Option Nat) (misr : Nat) (s : State) : State :=
  match s.bist.lbist with
  | none => s
  | some (u, prior) =>
    let n := s.set0 .LBIST_PATTERNS
    let pass := first.isNone
    let want := Config.lbistSig (uidType u) n
    let r := bistResult u 1 (if pass then 0 else 1) n (first.getD 0xFFFFFFFF) (if pass then want else misr) want
    let others := s.bist.lbistOk.filter (· != u)
    let s := { s with bist := { s.bist with lbist := none, result := r, lbistOk := if pass then others ++ [u] else others }
                      hier := { s.hier with isolate := s.hier.isolate.filter (· != u) } }
    let s := if s.ownState u = .isolated then s.setOwn u prior else s
    s.repairs.raise (if pass then 0x1E04 else 0x8E07) 0xFF u

/-- LBIST_DONE. -/
def execLbistDone (t : Nat) (first : Option Nat) (misr : Nat) (s : State) : Host.Outcome State Fault Refusal :=
  .next (lbistDone first misr (s.at t))

/-- The digits of the array test (R594): +7 and −7 in turn by row and column, +7 at row 0, column 0 (log 44). -/
def arrayImage : Bytes := (List.range 512).flatMap (fun i => List.replicate 256 (if i % 2 == 0 then 0x97 else 0x79))

/-- A tier has been programmed with the test's digits, and is read back (R200, R594). -/
def State.arrayTier (s : State) (eng tier : Nat) : State :=
  (s.changeTier eng tier (((s.engine eng).tier tier).programmed arrayImage [])).readBack eng tier

/-- The array test of an engine begins (R594): every tier that is not WORN is programmed, which counts (R324). -/
def State.arrayRun (s : State) (v : Nat) : State :=
  match s.canonUnit v, s.bist.array with
  | some u, none =>
    if uidType u != 4 then s else
    let eng := s.engineOf u
    let s := { s with bist := { s.bist with array := some eng } }
    ((List.range 4).filter (fun t => ((s.engine eng).tier t).health != .worn)).foldl (fun (x : State) t => x.eraseTier eng t) s
  | _, _ => s

/-- The array test ends (R594): mismatching cells (tier, row, column), each column remapped, and whether the tiers passed. -/
def arrayDone (bad : List (Nat × Nat × Nat)) (pass : Bool) (s : State) : State :=
  match s.bist.array with
  | none => s
  | some eng =>
    let cols := (bad.map (fun b => (b.1, b.2.2))).eraseDups
    let tiers := (List.range 4).filter (fun t => ((s.engine eng).tier t).health != .worn)
    let tested := tiers.length
    let first := match cols with
      | (t, c) :: _ => t % 4 * 16384 + c % 512
      | [] => 0xFFFFFFFF
    let r := bistResult (s.uidEngine eng) 2 (if pass then 0 else 1) tested first bad.length 0
    let others := s.bist.arrayOk.filter (· != eng)
    let s := { s with bist := { s.bist with array := none, result := r, arrayOk := if pass then others ++ [eng] else others } }
    let s := tiers.foldl (fun (x : State) t => x.arrayTier eng t) s
    let s := cols.foldl (fun (x : State) p => x.cellRemap eng (p.1 % 4) (p.2 % 512)) s
    s.repairs

/-- ARRAY_TEST_DONE. -/
def execArrayTestDone (t : Nat) (bad : List (Nat × Nat × Nat)) (pass : Bool) (s : State) : Host.Outcome State Fault Refusal :=
  .next (arrayDone bad pass (s.at t))

end Sys2Proof.Machine
end

