-- ==== Sys2Proof/Machine/Adapters.lean ====
section
/-! DEFINITION. Machine/Adapters.lean: adapters loaded into a keyway's memory (spec/08 R320, spec/06 R248, spec/12 R497, R513, R514). -/
namespace Sys2Proof.Machine
open Sys2Proof

/-- 2 MiB pages of a keyway's address space that a range touches. -/
def pagesAt (addr len : Nat) : List Nat :=
  if len == 0 then [] else (List.range ((addr + len - 1) / poolPage + 1 - addr / poolPage)).map (· + addr / poolPage)

/-- Pages of a range that no adapter load has filled yet. -/
def State.newPages (s : State) (kw addr len : Nat) : List Nat := (pagesAt addr len).filter (fun p => !s.mem.adapters.contains (kw, p))

/-- Write bytes at keyway addresses, taking the pages not yet held; none outside the map or without memory (R497, R498). -/
def State.fillKw (s : State) (kw addr : Nat) (b : Bytes) : Option State :=
  let new := s.newPages kw addr b.length
  if !s.kwMapped kw addr b.length || !s.memFits kw (poolPage * new.length) then none else
  let s := s.memTake kw (poolPage * new.length)
  some { s with mem := { s.mem with adapters := s.mem.adapters ++ new.map (fun p => (kw, p)) }
                kwMem := mapSet s.kwMem kw (memWrite (s.kwCells kw) addr b) }

/-- Blocks of one plane pair of an adapter shard: `n` rows of `len` elements, data and scale offsets. -/
def planeOk (fmt : Nat) (pay : Bytes) (data scale n len : Nat) : Bool :=
  let nb := (len + 31) / 32
  let bb := blockBytes fmt
  (List.range (n * nb)).all (fun i =>
    (decodeBlock fmt (min 32 (len - 32 * (i % nb))) ((pay.drop (data + bb * i)).take bb)
      (if isScaled fmt then scaleOf (pay.getD (scale + i) 0).toNat else 0)).isSome)

/-- No block of an adapter shard is malformed: A holds RANK rows of ROWS elements, B COLS rows of RANK (R308). -/
def adapterBlocksOk (h : ShardHdr) (pay : Bytes) : Bool :=
  let bb := blockBytes h.fmt
  let sc (n : Nat) : Nat := if isScaled h.fmt then n else 0
  let na := h.rank * ((h.rows + 31) / 32)
  let nb := h.cols * ((h.rank + 31) / 32)
  let o1 := up64 (na * bb)
  let o2 := up64 (o1 + sc na)
  planeOk h.fmt pay 0 o1 h.rank h.rows && planeOk h.fmt pay o2 (up64 (o2 + nb * bb)) h.cols h.rank

/-- The checks of R316 that apply to a shard with no manifest entry: its own header, digest and blocks. -/
def adapterShardOk (b : Bytes) : Bool :=
  let h := parseHdr b
  let pay := b.drop 128
  b.length == 128 + h.payLen && leAt b 0 4 == 0x44524853 && leAt b 4 1 == 1 && h.kind == 4 && (fmtRow h.fmt).isSome &&
  decide (1 ≤ h.rank) && decide (h.rank ≤ 64) && h.lengths == (h.dataLen, h.scaleLen, h.payLen) &&
  shardDigest b pay == hdrDigest b && adapterBlocksOk h pay

/-- Inputs of a layer: the highest row of the version's shards of the layer. -/
def Version.layerIns (v : Version) (layer : Nat) : Nat :=
  ((v.shards.filter (fun h => h.layer == layer && (h.kind == 1 || h.kind == 3))).map (fun h => h.rowOff + h.rows)).foldl max 0

/-- The planes of a descriptor as they stand in its keyway's memory; none when its version is not present. -/
def State.planesOf (s : State) (kw : Nat) (d : Bytes) : List (Nat × Bytes) :=
  match s.versionNo (leAt d 2 1) (leAt d 12 4) with
  | none => []
  | some v =>
    ((adapterPlanes d (v.layerIns (leAt d 4 2)) (v.layerOuts (leAt d 4 2))).filter (fun p => s.kwMapped kw p.1 p.2)).map (fun p =>
      (p.1, memRead (s.kwCells kw) p.1 p.2))

/-- Standby records of descriptors (spec/11 Table 11.10). -/
def State.noteAdapters (s : State) (kw : Nat) (ds : List Bytes) : State :=
  ds.foldl (fun x d => x.note kw (.adapter kw (leAt d 0 2) d (x.planesOf kw d))) s

/-- Entries of a keyway's adapter table that are not empty, or that carry one ADAPTER_ID. -/
def State.adapterEntries (s : State) (kw : Nat) : List Bytes :=
  let b := ovBytes (s.setting ⟨.ADAPTER_TABLE, 0, kw⟩)
  ((List.range 256).map (fun n => (b.drop (64 * n)).take 64)).filter (fun d => leAt d 0 2 != 0)

/-- ADAPTER_LOAD (R320, R513, R514): the buffer read by DMA is opened when the keyway's DMA slot is ACTIVE, checked, and written; false when it is
refused. -/
def State.adapterLoad (s : State) (kw : Nat) (req : Bytes) (buf : Option Bytes) : State × Bool :=
  let len := leAt req 16 4
  let dest := leAt req 24 8
  if s.kwClosing kw || !s.kwDma kw then (s, false) else
  let s := s.emit (.dma kw false (leAt req 8 8) len)
  match buf with
  | none => (s, false)
  | some b =>
    if b.length != len then (s, false) else
    let key := match s.namedSlot .DMA_KEY_SLOT kw with
      | some k => if s.keyActive k kw 0 then some (s.keySlot k).key else none
      | none => none
    let put (s : State) (b : Bytes) : State × Bool :=
      if !adapterShardOk b then (s, false) else
      match s.fillKw kw dest (b.drop 128) with
      | none => (s, false)
      | some s => (s.noteAdapters kw ((s.adapterEntries kw).filter (fun d => leAt d 0 2 == leAt req 0 2)), true)
    match key with
    | none => put s b
    | some k => match openSealed k kw 3 b with
      | none => (s.sealedFail kw, false)
      | some b => put s b

end Sys2Proof.Machine
end

