-- ==== Sys2Proof/Machine/Kv.lean ====
section
/-! DEFINITION. Machine/Kv.lean: the attention engines: walking a lane, scores, the streaming softmax, writing new keys and values, and the
commands of the KV cache (spec/09 R356–R372, R389–R395). -/
namespace Sys2Proof.Machine
open Sys2Proof

/-! ### Walking (R364–R366) -/

/-- Why a lane task cannot go on: a walk check of Table 9.11 with the address it concerns, an unknown tag, a malformed block. -/
inductive KvFault where
  | walk (addr check : Nat) | tag | block
  deriving DecidableEq, Repr

/-- The address of the entry that names a lane's page: its PTE, or its directory entry where there is no leaf (Table 9.11). -/
def KvS.pteAddr (k : KvS) (q : SeqS) (n p : Nat) : Nat :=
  match k.leafAt q.cur (q.dirIx n p) with
  | some l => addrOf q.home l + 8 * (p % 512)
  | none => addrOf q.home q.cur + 8 * q.dirIx n p

/-- The page of a lane at a page number, its checks passed (R365). -/
def KvS.walk (k : KvS) (q : SeqS) (l : Lane) (n p : Nat) : Except KvFault (Nat × PageS) :=
  match k.pteAt q q.cur n p with
  | none => .error (.walk (k.pteAddr q n p) 1)
  | some e =>
    let pg := mapGet k.pages e.page {}
    if pg.magic != 0x5047 then .error (.walk (k.pageAddr e.page) 2)
    else if pg.kw != q.kw then .error (.walk (k.pageAddr e.page) 3)
    else if pg.layer != l.layer || pg.group != l.group then .error (.walk (k.pageAddr e.page) 4)
    else if pg.log2 != e.log2 || pg.log2 != q.log2 then .error (.walk (k.pageAddr e.page) 5)
    else if pg.heads != l.heads || pg.dims != l.dims then .error (.walk (k.pageAddr e.page) 6)
    else if pg.first != q.globalOf q.ringIdx (p * q.per) then .error (.walk (k.pageAddr e.page) 7)
    else if !isKvFmt pg.fmt then .error .tag
    else .ok (e.page, pg)

/-- A page that may be written (R366). -/
def KvS.walkWrite (k : KvS) (q : SeqS) (l : Lane) (n p : Nat) : Except KvFault (Nat × PageS) :=
  match k.walk q l n p with
  | .error f => .error f
  | .ok (h, pg) =>
    let cow := match k.pteAt q q.cur n p with
      | some e => e.cow
      | none => false
    if cow || pg.sealed then .error (.walk (k.pageAddr h) 8) else .ok (h, pg)

/-! ### Scores (R369) -/

/-- A sum of 32 in the binary tree of R251. -/
def treeSum (x : List F32) : F32 := (pairAdd (pairAdd (pairAdd (pairAdd (pairAdd x))))).headD F32.zero

/-- The BF16 score of FP32 operands whose values are BF16 (R369): 32 products to a block. -/
def scoreBf16 : Nat → List F32 → List F32 → List F32
  | 0, _, _ => []
  | n + 1, q, k => treeSum ((q.take 32).zipWith F32.mul (k.take 32)) :: scoreBf16 n (q.drop 32) (k.drop 32)

/-- Round to BF16 and back. -/
def toBf16F (a : F32) : F32 := F32.ofBf16 (F32.toBf16 a)

/-- The FP32 values of a block of integers (R146). -/
def blockF (b : DBlock) : List F32 := b.d.map (fun d => elemValue d b.code)

/-- The stored blocks of a head at a slot of a plane: the first block number (R359). -/
def PageS.blockNo (pg : PageS) (slot head : Nat) : Nat := (slot * pg.heads + head) * pg.dims

/-- A block of a scaled page as integers; none when malformed (R144). A block nothing has written reads as memory that holds 0 (log 11). -/
def PageS.ints (pg : PageS) (m : Map (Nat × Bytes)) (b : Nat) : Option DBlock :=
  let x := mapGet m b (0, zeros (blockBytes pg.fmt))
  (decodeBlock pg.fmt 32 x.2 (scaleOf x.1)).map (fun d => ⟨scaleOf x.1, d⟩)

/-- The blocks of a head at a slot; none when one is malformed. -/
def PageS.headInts (pg : PageS) (m : Map (Nat × Bytes)) (slot head : Nat) : Option (List DBlock) :=
  (List.range pg.dims).foldr (fun i acc => match pg.ints m (pg.blockNo slot head + i), acc with
    | some b, some l => some (b :: l)
    | _, _ => none) (some [])

/-- The FP32 values of a head at a slot, widened under R146. -/
def PageS.headVals (pg : PageS) (m : Map (Nat × Bytes)) (slot head : Nat) : Option (List F32) :=
  if pg.fmt == 4 then
    some ((List.range pg.dims).flatMap (fun i => decodeWide 4 32 (mapGet m (pg.blockNo slot head + i) (0, zeros 64)).2))
  else (pg.headInts m slot head).map (fun l => l.flatMap blockF)

/-- The score of a query against the key of a head at a slot (R160, R161, R369); none for a malformed block. -/
def PageS.score (pg : PageS) (q : QVec) (sm : F32) (slot head : Nat) : Option F32 :=
  (match q with
    | .int8 qb =>
      if pg.fmt == 4 then
        (pg.headVals pg.k slot head).map (fun k => sumAsc (scoreBf16 pg.dims ((qb.flatMap blockF).map toBf16F) k))
      else (pg.headInts pg.k slot head).map (fun kb => (sumTerms (blockTerms (qb.zip kb))).fp)
    | .bf16 qx =>
      (pg.headVals pg.k slot head).map (fun (k : List F32) => sumAsc (scoreBf16 pg.dims (qx.map F32.ofBf16) (k.map toBf16F)))).map (fun s => F32.mul s sm)

/-! ### Rows (R367–R371) -/

/-- −∞. -/
def negInf : F32 := 0xFF800000#32

/-- exp of R370. -/
def expA (a : F32) : F32 := if a == negInf then F32.zero else Config.expF a

/-- A running row: m, l, o, and whether a non-finite score or value was read (R371). -/
structure RowAcc where
  m   : F32
  l   : F32
  o   : List F32
  bad : Bool := false
  deriving DecidableEq, Repr

/-- The row before any position. -/
def RowAcc.start (n : Nat) : RowAcc := ⟨negInf, F32.zero, List.replicate n F32.zero, false⟩

/-- One position of a row (R370). -/
def RowAcc.step (a : RowAcc) (s : F32) (v : List F32) : RowAcc :=
  if !F32.finite s || v.any (fun x => !F32.finite x) then { a with bad := true } else
  let a := (if F32.lt a.m s then
      let r := expA (F32.sub a.m s)
      { a with l := F32.mul a.l r, o := a.o.map (fun x => F32.mul x r), m := s }
    else a)
  let e := expA (F32.sub s a.m)
  { a with l := F32.add a.l e, o := a.o.zipWith (fun x y => F32.add x (F32.mul e y)) v }

/-- The positions a query sees, ascending, each once (R367, R368). -/
def Lane.visible (l : Lane) (full : Bool) (r : QRow) : List Nat :=
  (List.range (r.pos + 1)).filter (fun t =>
    full || l.full.contains r.head || l.window == 0 || decide (r.pos < t + l.window) || l.globals.contains t || t == r.pos)

/-- A row's partial over positions that a lookup answers for: each position with its page and slot, or that this member does not hold it
(R370). -/
def rowPartial (l : Lane) (r : QRow) (look : Nat → Except KvFault (Option (PageS × Nat))) : List Nat → RowAcc → Except KvFault RowAcc
  | [], a => .ok a
  | t :: ts, a =>
    match look t with
    | .error f => .error f
    | .ok none => rowPartial l r look ts a
    | .ok (some (pg, slot)) =>
      let head := r.head / max 1 l.qper % max 1 l.heads
      match pg.score r.q l.scale slot head, pg.headVals pg.v slot head with
      | some s, some v => rowPartial l r look ts (a.step s v)
      | _, _ => .error .block

/-- The position's page and slot in this device's pages. -/
def KvS.look (k : KvS) (q : SeqS) (l : Lane) (n t : Nat) : Except KvFault (Option (PageS × Nat)) :=
  match q.local t with
  | none => .ok none
  | some x => match k.walk q l n (x / q.per) with
    | .error f => .error f
    | .ok (_, pg) => .ok (some (pg, x % q.per))

/-- Finish a row (R370, R371). -/
def RowAcc.finish (a : RowAcc) : List F32 :=
  if a.bad then a.o.map (fun _ => F32.nan) else
  let r := F32.div F32.one a.l
  a.o.map (fun x => F32.mul x r)

/-- A row in its layer's OUT_FORMAT (R147). -/
def Lane.outBytes (l : Lane) (x : List F32) : Bytes := (blocks32 l.dims x).flatMap (encodeWide l.ofmt)

/-- Merge two partials, the lower origin first (R399). -/
def RowAcc.merge (a b : RowAcc) : RowAcc :=
  let m := F32.max a.m b.m
  let x := expA (F32.sub a.m m)
  let y := expA (F32.sub b.m m)
  { m, l := F32.add (F32.mul a.l x) (F32.mul b.l y), o := a.o.zipWith (fun p q => F32.add (F32.mul p x) (F32.mul q y)) b.o, bad := a.bad || b.bad }

/-! ### Lane tasks (R356, R357, R391) -/

/-- Fault a sequence (R158, R365): the record, what is counted, and its request's step. -/
def State.faultSeq (s : State) (i cluster : Nat) (f : KvFault) : State :=
  let q := s.seqAt i
  let s := s.putSeq i { q with state := if q.state == 1 then 3 else q.state }
  match f with
  | .walk a c => ((s.incK .KV_WALK_FAULTS q.kw).raise 0x8901 q.kw (uidAttn cluster) i a c).faultStep q.req .walkFault
  | .tag => (s.raise 0x8403 q.kw).faultStep q.req .kvData
  | .block => (s.badBlock q.kw).faultStep q.req .kvData

/-- Narrow the channels of one head into blocks of a page's format (R149, R150, R159); none for a non-finite element. -/
def State.kvBlocks (s : State) (kw fmt : Nat) : List (List F32) → State × Option (List (Nat × Bytes))
  | [] => (s, some [])
  | x :: r =>
    if fmt == 4 then
      match s.kvBlocks kw fmt r with
      | (s, some l) => (s, some ((0, encodeWide 4 x) :: l))
      | (s, none) => (s, none)
    else match narrow (s.narrowCfg kw fmt false false) x (List.replicate 32 false) with
      | none => (s.nonfinite kw, none)
      | some n =>
        let s := s.countNarrow kw n
        match s.kvBlocks kw fmt r with
        | (s, some l) => (s, some ((unsigned 8 n.code, encodeBlock fmt n.d) :: l))
        | (s, none) => (s, none)

/-- The blocks of the heads of one position. -/
def State.kvHeads (s : State) (kw fmt dims : Nat) : List (List F32) → State × Option (List (Nat × Bytes))
  | [] => (s, some [])
  | x :: r =>
    match s.kvBlocks kw fmt (blocks32 dims x) with
    | (s, none) => (s, none)
    | (s, some a) => match s.kvHeads kw fmt dims r with
      | (s, some l) => (s, some (a ++ l))
      | (s, none) => (s, none)

/-- Put blocks of consecutive numbers into a plane. -/
def putBlocks (m : Map (Nat × Bytes)) : Nat → List (Nat × Bytes) → Map (Nat × Bytes)
  | _, [] => m
  | n, b :: r => putBlocks (mapSet m n b) (n + 1) r

/-- Write the keys and values of one position (R357, R362) through a sequence's root; false when the sequence has been faulted. -/
def State.writePos (s : State) (i n cluster : Nat) (q : SeqS) (pos : Nat) (ks vs : List (List F32)) : State × Bool :=
  let l := q.lane n
  let bad (s : State) : State := ((s.putSeq i { s.seqAt i with state := 3 }).faultStep q.req .kvData)
  match q.local pos with
  | none => (s, true)
  | some x =>
    match s.kv.walkWrite q l n (x / q.per) with
    | .error f => (s.faultSeq i cluster f, false)
    | .ok (h, pg) =>
      match s.kvHeads q.kw pg.fmt pg.dims ks with
      | (s, none) => (bad s, false)
      | (s, some kb) =>
        match s.kvHeads q.kw pg.fmt pg.dims vs with
        | (s, none) => (bad s, false)
        | (s, some vb) =>
          let b := pg.blockNo (x % q.per) 0
          (s.putPage h { pg with k := putBlocks pg.k b kb, v := putBlocks pg.v b vb, fill := max pg.fill (x % q.per + 1) }, true)

/-- Write the step's positions in order. -/
def State.writeAll (s : State) (i n cluster : Nat) (q : SeqS) : Nat → List (List (List F32) × List (List F32)) → State × Bool
  | _, [] => (s, true)
  | pos, (k, v) :: r =>
    match s.writePos i n cluster q pos k v with
    | (s, false) => (s, false)
    | (s, true) => s.writeAll i n cluster q (pos + 1) r

/-- Compute the rows of a lane task in order: on one device each is finished; of a ring sequence the partial is kept (R370, R397). -/
def State.rows (s : State) (i n cluster : Nat) (q : SeqS) : Nat → List QRow → State
  | _, [] => s
  | k, r :: rs =>
    let l := q.lane n
    match rowPartial l r (s.kv.look q l n) (l.visible q.full r) (RowAcc.start (32 * l.dims)) with
    | .error f => s.faultSeq i cluster f
    | .ok a =>
      let s := if q.ring then
          let p : Partial := ⟨i, n, k, q.ringIdx, a.m, a.l, if a.bad then a.o.map (fun _ => F32.nan) else a.o⟩
          { s with kv := { s.kv with partials := s.kv.partials.filter (fun (x : Partial) => !(x.seq == i && x.lane == n && x.row == k && x.origin == q.ringIdx)) ++ [p] } }
        else { s with kv := { s.kv with outputs := s.kv.outputs.filter (fun (x : Nat × Nat × Nat × Bytes) => !(x.1 == i && x.2.1 == n && x.2.2.1 == k)) ++
                  [(i, n, k, l.outBytes a.finish)] } }
      s.rows i n cluster q (k + 1) rs

/-- The beat of the step that a sequence is in. -/
def State.stepOf (s : State) (q : SeqS) : Nat :=
  let r := s.req q.req
  if q.req != 0xFFFF && r.batch.isSome then r.stepBeat else s.beat.number

/-- A sequence with the root that was current when its step began (R391): the one before the last swap, for a step that has run on past it. -/
def State.stepSeq (s : State) (i : Nat) : SeqS :=
  let q := s.seqAt i
  if s.stepOf q < q.swapBeat && (mapFind s.kv.roots q.oldRoot).isSome then { q with cur := q.oldRoot } else q

/-- What a step order gives a lane task (R393): one past the highest position that the step writes or reads; none bounds a ring member's part of
another device's step. -/
def State.stepEnd (s : State) (q : SeqS) : Option Nat :=
  if q.req == 0xFFFF then none else
  match (s.req q.req).batch with
  | some (.decode l) => some (q.length + l + 1)
  | some (.prefill n) => some (q.length + n)
  | none => some 0

/-- A lane task is one of the sequence's step: on a cluster of its home die (R355), at positions up to the step's last (R393), and for a main lane
writing only positions that are not committed. -/
def State.laneFits (s : State) (w : LaneWork) : Bool :=
  let q := s.seqAt w.seq
  w.cluster / 16 == q.home && w.lane < q.lanes.length && w.keys.length == w.vals.length &&
  ((q.lane w.lane).draft || w.keys.isEmpty || decide (q.length ≤ w.first)) &&
  (match s.stepEnd q with
    | none => true
    | some e => decide (w.first + w.keys.length ≤ e) && w.rows.all (fun r => decide (r.pos < e)))

/-- LANE_TASK (R356): a task for a sequence in use on a cluster whose attention engine takes work; it holds the epoch of its step (R391). -/
def laneTask (w : LaneWork) (s : State) : State :=
  let q := s.stepSeq w.seq
  if s.attnState w.cluster ≠ .online then s.emit (.orderRefused (uidAttn w.cluster)) else
  if q.state != 1 || !s.laneFits w then s else
  let s := { s with kv := { s.kv with epochs := s.kv.epochs ++ [(s.stepOf q, EpochBy.lane w.seq w.lane)]
                                      laneUse := s.kv.laneUse ++ [(w.cluster, q.req)] } }
  match s.writeAll w.seq w.lane w.cluster q w.first (w.keys.zip w.vals) with
  | (s, false) => s
  | (s, true) => s.rows w.seq w.lane w.cluster q 0 w.rows

/-- The epochs held without the first that a holder has. -/
def dropEpoch (b : EpochBy) : List (Nat × EpochBy) → List (Nat × EpochBy)
  | [] => []
  | e :: r => if e.2 = b then r else e :: dropEpoch b r

/-- A lane task's last page read has ended (R391): its oldest epoch is released. -/
def laneDone (seq lane : Nat) (s : State) : State :=
  { s with kv := { s.kv with epochs := dropEpoch (.lane seq lane) s.kv.epochs } }

/-- LANE_TASK_DONE. -/
def execLaneTaskDone (t seq lane : Nat) (s : State) : Host.Outcome State Fault Refusal :=
  if seq < 32768 then .next (laneDone seq lane (s.at t)) else .fault .noSuchUnit

/-- PAGE_SEAL. -/
def execPageSeal (t seq : Nat) (s : State) : Host.Outcome State Fault Refusal :=
  if seq < 32768 then .next ((s.at t).sealPages seq) else .fault .noSuchUnit

/-- NEXT_ROOT_BUILD. -/
def execNextRootBuild (t seq : Nat) (s : State) : Host.Outcome State Fault Refusal :=
  if seq < 32768 then .next ((s.at t).buildRoot seq) else .fault .noSuchUnit

end Sys2Proof.Machine
end

