-- ==== Sys2Proof/Machine/Sampling.lean ====
section
/-! DEFINITION. Machine/Sampling.lean: choosing tokens from logits: distributions, seeded draws and speculative acceptance (spec/10
R426, R427, R432, R434). Values and ids stand in ascending id. -/
namespace Sys2Proof.Machine
open Sys2Proof

/-- Insert a value into a descending list, equal values in ascending id. -/
def insertDesc (p : Nat × F32) : List (Nat × F32) → List (Nat × F32)
  | [] => [p]
  | q :: r => if F32.lt q.2 p.2 then p :: q :: r else q :: insertDesc p r

/-- Values with their ids, largest first, ties by lower id. -/
def descending (l : List (Nat × F32)) : List (Nat × F32) := l.foldl (fun acc p => insertDesc p acc) []

/-- Values in ascending id. -/
def byId (n : Nat) (l : List (Nat × F32)) : List (Nat × F32) :=
  (List.range n).filterMap (fun i => l.find? (fun p => p.1 == i))

/-- The lowest id with the largest value (R426). -/
def argMax (z : List F32) : Nat :=
  (z.zipIdx.foldl (fun (b : Option (F32 × Nat)) p => match b with
    | none => some p
    | some q => if F32.lt q.1 p.1 then some p else b) none).elim 0 Prod.snd

/-- Softmax over values with ids: exp of the distance to the largest, over their sum. -/
def softmax (l : List (Nat × F32)) : List (Nat × F32) :=
  let m := (l.map Prod.snd).foldl F32.max negInf
  let e := l.map (fun p => (p.1, expA (F32.sub p.2 m)))
  let d := laneSum (e.map Prod.snd)
  e.map (fun p => (p.1, F32.div p.2 d))

/-- The shortest beginning of a descending list whose running sum reaches a bound; all of it when none does. -/
def topMass (bound : F32) : F32 → List (Nat × F32) → List (Nat × F32)
  | _, [] => []
  | acc, p :: r =>
    let a := F32.add acc p.2
    if F32.le bound a then [p] else p :: topMass bound a r

/-- Divide by the sum. -/
def renorm (l : List (Nat × F32)) : List (Nat × F32) :=
  let d := laneSum (l.map Prod.snd)
  l.map (fun p => (p.1, F32.div p.2 d))

/-- The distribution of R426 from a logit vector: temperature, TOP_K, softmax, TOP_P, of which 1.0 keeps every token (Table 10.1). -/
def distribution (z : List F32) (temp topP : F32) (topK : Nat) : List (Nat × F32) :=
  let l := z.zipIdx.map (fun p => (p.2, F32.div p.1 temp))
  let l := if topK == 0 then l else byId z.length ((descending l).take topK)
  let p := softmax l
  renorm (if F32.le F32.one topP then p else byId z.length (topMass topP F32.zero (descending p)))

/-- A probability of a distribution. -/
def probOf (d : List (Nat × F32)) (i : Nat) : F32 := ((d.find? (fun p => p.1 == i)).map Prod.snd).getD F32.zero

/-- Draw `k` at a sequence position (R427). -/
def drawAt (seed x k : Nat) : F32 :=
  let a := mix64 (BitVec.ofNat 64 seed ^^^ BitVec.ofNat 64 x)
  let b := mix64 (a ^^^ BitVec.ofNat 64 k)
  F32.ofScaled ((b.toNat / 2 ^ 40 : Nat) : Int) (-24)

/-- The first id at which the running sum exceeds a draw (R426); the last id when rounding leaves none. -/
def selectBy (u : F32) : F32 → Nat → List (Nat × F32) → Nat
  | _, last, [] => last
  | acc, _, p :: r =>
    let a := F32.add acc p.2
    if F32.lt u a then p.1 else selectBy u a p.1 r

/-- A request's sampling parameters. -/
structure SampleCfg where
  greedy : Bool
  temp   : F32
  topP   : F32
  topK   : Nat
  seed   : Nat
  deriving DecidableEq, Repr

/-- The distribution by which a request judges a logit vector: with GREEDY, the softmax of z unscaled (R434). -/
def SampleCfg.dist (c : SampleCfg) (z : List F32) : List (Nat × F32) :=
  if c.greedy then softmax (z.zipIdx.map (fun p => (p.2, p.1))) else distribution z c.temp c.topP c.topK

/-- LOGPROB of a token (R434). -/
def logprob (d : List (Nat × F32)) (tok : Nat) : Nat := F32.toBf16 (Config.lnF (probOf d tok))

/-- A token chosen from the main model at a position: token and LOGPROB (R426). -/
def SampleCfg.pick (c : SampleCfg) (x : Nat) (z : List F32) : Nat × Nat :=
  let d := c.dist z
  let t := if c.greedy then argMax z else selectBy (drawAt c.seed x 1) F32.zero 0 d
  (t, logprob d t)

/-- max(0, p − q) renormalised (R432). -/
def residual (p q : List (Nat × F32)) : List (Nat × F32) :=
  renorm (p.map (fun x => (x.1, F32.max F32.zero (F32.sub x.2 (probOf q x.1)))))

/-- Speculative acceptance from position `x` on (R432): the main model's logits from this position, the draft's tokens and logits. Answers the
tokens delivered with LOGPROB and whether each is a draft token. -/
def SampleCfg.speculate (c : SampleCfg) : Nat → List (List F32) → List (Nat × List F32) → List (Nat × Nat × Bool)
  | _, [], _ => []
  | x, z :: _, [] => let t := c.pick x z; [(t.1, t.2, false)]
  | x, z :: zs, (d, qz) :: ds =>
    let p := c.dist z
    if c.greedy then
      if argMax z == d then (d, logprob p d, true) :: c.speculate (x + 1) zs ds
      else [(argMax z, logprob p (argMax z), false)]
    else
      let q := c.dist qz
      if F32.lt (drawAt c.seed x 0) (F32.div (probOf p d) (probOf q d)) then (d, logprob p d, true) :: c.speculate (x + 1) zs ds
      else
        let t := selectBy (drawAt c.seed x 1) F32.zero 0 (residual p q)
        [(t, logprob p t, false)]

end Sys2Proof.Machine
end

