-- ==== Sys2Proof/Machine/Serve.lean ====
section
/-! DEFINITION. Machine/Serve.lean: taking, admitting, sampling for, ending and cancelling requests, and building the batch (spec/10). -/
namespace Sys2Proof.Machine
open Sys2Proof

/-! ### Registers of a function (R403, R404) -/

/-- A write of SUBMIT_TAIL, with what the host had written before it. -/
def submitTail (fn tail : Nat) (host : List HostCell) (s : State) : State :=
  let s := s.hostWrote host
  if !s.fnHere fn || s.kwClosing fn then s else s.putSub fn { s.sub fn with tail := tail % 65536 }

/-- SUBMIT_TAIL. -/
def execSubmitTail (t fn tail : Nat) (host : List HostCell) (s : State) : Host.Outcome State Fault Refusal :=
  if fn < 64 then .next (submitTail fn tail host (s.at t)) else .fault .noSuchUnit

/-- SERVE_STATUS (Table 10.2). -/
def SubS.status (x : SubS) : Nat := (if x.unknown then 1 else 0) + (if x.bad then 2 else 0)

/-- A read of SERVE_STATUS clears its flags (R404). -/
def serveStatusRead (fn : Nat) (s : State) : State :=
  if !s.fnHere fn then s else
  (s.putSub fn { s.sub fn with unknown := false, bad := false }).emit (.reg (s.sub fn).status)

/-- SERVE_STATUS_READ. -/
def execServeStatusRead (t fn : Nat) (s : State) : Host.Outcome State Fault Refusal :=
  if fn < 64 then .next (serveStatusRead fn (s.at t)) else .fault .noSuchUnit

/-- Record a cancellation of an entry of a keyway (R430); `via` is 0 for the register, 1 for REQ_CANCEL. -/
def State.cancelReq (s : State) (kw i via : Nat) : State :=
  let r := s.req i
  if r.state = .free || r.kw != kw then
    (s.putSub kw { s.sub kw with unknown := true }).raise 0x4A05 kw 0 i via
  else if r.state = .ended || r.cancel.isSome then s
  else s.putReq i { r with cancel := some s.notchTime }

/-- CANCEL: only with GO. -/
def execCancel (t fn v : Nat) (s : State) : Host.Outcome State Fault Refusal :=
  if fn < 64 then
    let s := s.at t
    .next (if s.fnHere fn && !s.kwClosing fn && v.testBit 31 then s.cancelReq fn (v % 32768) 0 else s)
  else .fault .noSuchUnit

/-- Re-arm a disarmed draft at the next batch build (R434). -/
def State.rearmReq (s : State) (kw i : Nat) : State :=
  let r := s.req i
  if r.active && r.kw == kw && r.disarmed then s.putReq i { r with rearmNext := true } else s

/-- REARM: only with GO. -/
def execRearm (t fn v : Nat) (s : State) : Host.Outcome State Fault Refusal :=
  if fn < 64 then
    let s := s.at t
    .next (if s.fnHere fn && !s.kwClosing fn && v.testBit 31 then s.rearmReq fn (v % 32768) else s)
  else .fault .noSuchUnit

/-- SPEC_REARM_BEATS after it was disarmed, a request is re-armed for the batch build of that beat (R434). -/
def specRearm (i : Nat) (s : State) : State :=
  let r := s.req i
  let n := s.setK .SPEC_REARM_BEATS r.kw
  if r.active && r.disarmed && n != 0 && s.beat.count + 1 ≥ r.disarmBeat + n then s.putReq i { r with rearmNext := true } else s

/-- SPEC_REARM_TIMEOUT. -/
def execSpecRearmTimeout (t idx : Nat) (s : State) : Host.Outcome State Fault Refusal :=
  if idx < 32768 then .next (specRearm idx (s.at t)) else .fault .noSuchUnit

/-- A suppression gap ends: the interrupt held back is signalled once (R416). -/
def tokenGapEnd (fn : Nat) (s : State) : State :=
  let x := s.sub fn
  let passed := match x.irqLast with
    | some c => s.notchesPast c (s.setK .TOKEN_IRQ_GAP fn)
    | none => true
  if x.irqHeld && passed then
    (s.putSub fn { x with irqHeld := false, irqLast := some s.notchClock }).emit (.msix fn (s.setK .TOKEN_VECTOR fn))
  else s

/-- TOKEN_IRQ_GAP_END. -/
def execTokenIrqGapEnd (t fn : Nat) (s : State) : Host.Outcome State Fault Refusal :=
  if fn < 64 then .next (tokenGapEnd fn (s.at t)) else .fault .noSuchUnit

/-! ### Limits (R408, R409, R438) -/

/-- A request whose limit has passed ends at once. -/
def State.endIf (s : State) (i cause : Nat) (p : Bool) : State := if p then (s.endReq i cause).flush else s

/-- ADMIT_TIMEOUT (R408). -/
def execAdmitTimeout (t idx : Nat) (s : State) : Host.Outcome State Fault Refusal :=
  if idx < 32768 then
    let s := s.at t
    let r := s.req idx
    .next (s.endIf idx 7 (r.state == .queued && s.beat.count ≥ r.takenBeat + s.setK .ADMIT_TIMEOUT r.kw))
  else .fault .noSuchUnit

/-- Beats that a request has been held for its cause: the one that ends at this instant counts (Table 10.5). -/
def State.heldFor (s : State) (r : ReqS) : Nat := r.causeBeats + (if s.boundaryDue then 1 else 0)

/-- RING_STALL_LIMIT_EXPIRY (Table 10.5); never when the limit is 0. -/
def execRingStallLimitExpiry (t idx : Nat) (s : State) : Host.Outcome State Fault Refusal :=
  if idx < 32768 then
    let s := s.at t
    let r := s.req idx
    let n := s.setK .RING_STALL_LIMIT r.kw
    .next (s.endIf idx 12 (r.state == .held && r.hold == .ringFull && n != 0 && s.heldFor r ≥ n))
  else .fault .noSuchUnit

/-- KV_WAIT_LIMIT_EXPIRY (Table 10.5). -/
def execKvWaitLimitExpiry (t idx : Nat) (s : State) : Host.Outcome State Fault Refusal :=
  if idx < 32768 then
    let s := s.at t
    let r := s.req idx
    .next (s.endIf idx 13 (r.state == .held && r.hold == .noPage && s.heldFor r ≥ s.setK .KV_WAIT_LIMIT r.kw))
  else .fault .noSuchUnit

/-- HANDOFF_TIMEOUT (R438). -/
def execHandoffTimeout (t idx : Nat) (s : State) : Host.Outcome State Fault Refusal :=
  if idx < 32768 then
    let s := s.at t
    let r := s.req idx
    .next (s.endIf idx 11 (r.state == .waitKv && s.beat.count ≥ r.takenBeat + s.setK .HANDOFF_TIMEOUT r.kw))
  else .fault .noSuchUnit

/-! ### Sampling and delivery (R411, R420–R422, R426–R434, R439) -/

/-- A class's setting in a keyway's instance. -/
def State.classSet (s : State) (o : Obj) (cls kw : Nat) : Nat := ovNat (s.setting ⟨o, cls, kw⟩)

/-- The token budget of a request (R419): the descriptor's when it is not 0, else TOKEN_BUDGET of its class. -/
def State.tokenBudget (s : State) (r : ReqS) : Nat :=
  if r.field 100 4 != 0 then r.field 100 4 else s.classSet .TOKEN_BUDGET r.cls r.kw
/-- The first-token budget of a request (R419): the descriptor's when it is not 0, else TTFT_BUDGET of its class. -/
def State.firstBudget (s : State) (r : ReqS) : Nat :=
  if r.field 96 4 != 0 then r.field 96 4 else s.classSet .TTFT_BUDGET r.cls r.kw

/-- A request's sampling parameters (Table 10.1). -/
def ReqS.sample (r : ReqS) : SampleCfg :=
  ⟨r.greedy, BitVec.ofNat 32 (r.field 44 4), BitVec.ofNat 32 (r.field 48 4), r.field 52 2, r.field 56 8⟩

/-- Tokens its prefill takes (R478). -/
def ReqS.total (r : ReqS) : Nat := r.promptLen + r.again

/-- A stop token of a request. -/
def ReqS.stops (r : ReqS) (tok : Nat) : Bool := tok != 0xFFFFFFFF && ((List.range 4).any (fun k => r.field (64 + 4 * k) 4 == tok))

/-- The most positions of a request's sequence (R396). -/
def ReqS.limit (r : ReqS) : Nat := min 4194304 (r.members * maxLocal)

/-- The END_CAUSE of a token delivered as the request's n-th, at a position (R429). -/
def ReqS.endOf (r : ReqS) (tok n pos : Nat) : Option Nat :=
  if r.stops tok then some 1 else if n ≥ r.maxNew then some 0 else if pos + 1 ≥ r.limit then some 2 else none

/-- A token to deliver: id, LOGPROB, draft, END_CAUSE if it ends the request. -/
abbrev OutTok := Nat × Nat × Bool × Option Nat

/-- Tokens of a step up to the one that ends the request (R429). -/
def ReqS.cut (r : ReqS) : Nat → List (Nat × Nat × Bool) → List OutTok
  | _, [] => []
  | n, (t, lp, d) :: rest =>
    match r.endOf t (n + 1) (r.promptLen + n) with
    | some c => [(t, lp, d, some c)]
    | none => (t, lp, d, none) :: r.cut (n + 1) rest

/-- Write the entries of a step's tokens (R411, R421), counting each (Table 10.9, Table 10.10). -/
def State.deliver (s : State) (i : Nat) (late : Bool) : Nat → List OutTok → State
  | _, [] => s
  | k, (t, lp, d, c) :: rest =>
    let r := s.req i
    let fl := (if late then 1 else 0) + (if d then 64 else 0) + (match c with
      | some x => 2 + 256 * x
      | none => 0)
    let s := s.ringWrite i t fl lp r.stepBeat k
    let s := (s.incK .TOKENS_DELIVERED r.kw).addCount ⟨.CLASS_TOKENS, r.cls, r.kw + 1⟩ 1
    let s := if late then (s.incK .TOKENS_LATE r.kw).addCount ⟨.CLASS_TOKENS_LATE, r.cls, r.kw + 1⟩ 1 else s
    s.deliver i late (k + 1) rest

/-- The new draft length after a step that ran with the request's DRAFT_LEN (R433); SPEC_PROPOSED and SPEC_ACCEPTED count (R435). -/
def State.draftStep (s : State) (i l a : Nat) : State :=
  let r := s.req i
  let s := (s.incK .SPEC_PROPOSED r.kw l).incK .SPEC_ACCEPTED r.kw a
  if l == 0 || l != r.draftLen then s
  else if a == l then s.putReq i { r with draftLen := min (r.field 7 1) (l + 1), rejectRun := 0 }
  else if a > 0 then s.putReq i { r with draftLen := a + 1, rejectRun := 0 }
  else
    let n := min 255 (r.rejectRun + 1)
    if r.rejectRun + 1 ≥ s.setK .SPEC_REJECT_LIMIT r.kw then
      (s.putReq i { r with draftLen := 0, rejectRun := n, disarmed := true, disarmBeat := s.beat.count }).raise 0x4A04 r.kw 0 i r.draftSlot r.userTag
    else s.putReq i { r with draftLen := max 1 (l / 2), rejectRun := n }

/-- Positions a step has committed: the length, and the tokens known (R361). -/
def State.commitSeq (s : State) (i n : Nat) (toks : List Nat) : State :=
  let q := s.seqAt i
  if q.state != 1 then s else s.putSeq i { q with length := q.length + n, tokens := q.tokens ++ toks }

/-- The step's tokens are delivered, its positions committed, its account kept (R420–R422, R428, R433, R439). -/
def State.stepTokens (s : State) (i n l : Nat) (toks : List (Nat × Nat × Bool)) : State :=
  let r := s.req i
  let out := r.cut r.generated toks
  let late := decide (s.notchTime > r.stepDeadline)
  let s := s.deliver i late 0 out
  let s := if r.generated == 0 then s.histCount r.kw r.cls 0 (s.notchTime - r.takenAt)
    else if r.lastDelivery == 0 then s else s.histCount r.kw r.cls 1 (s.notchTime - r.lastDelivery)
  let s := s.draftStep i l ((toks.filter (fun t => t.2.2)).length)
  let r := s.req i
  let s := s.putReq i { r with generated := r.generated + out.length, lastDelivery := s.notchTime, deadline := s.notchTime + s.tokenBudget r
                               lateRun := if late then min 255 (r.lateRun + 1) else 0, lateNow := late, sampled := true, retries := 0, stepToks := out.map (fun t => t.1)
                               prefillDone := r.prefillDone + n }
  let s := s.commitSeq i (if n == 0 then out.length else n) (out.map (fun t => t.1))
  match out.getLast? with
  | some (_, _, _, some c) => s.closeReq i c
  | _ => if r.cancelled then s.endReq i 3 else s

/-- A HANDOFF_OUT request's prompt is done and its first token sampled: the train goes at the next boundary (R437). -/
def State.handSample (s : State) (i n : Nat) (tok : Nat × Nat) : State :=
  let r := s.req i
  let s := s.putReq i { r with handTok := some (tok.1, tok.2, r.deadline), sampled := true, retries := 0, prefillDone := r.prefillDone + n }
  let s := s.commitSeq i n [tok.1]
  if r.cancelled then s.endReq i 3 else s

/-- TOKEN_SAMPLE (R240, R426, R432): the logits of a step's positions and the draft's tokens with their logits. -/
def tokenSample (i : Nat) (logits : List (List F32)) (drafts : List (Nat × List F32)) (s : State) : State :=
  let r := s.req i
  if r.faulted || r.sampled then s else
  let bad := logits.any (fun z => z.any (fun a => !F32.finite a)) || drafts.any (fun d => d.2.any (fun a => !F32.finite a))
  let go (n l : Nat) : State :=
    if logits.length != l + 1 || drafts.length != l then s
    else if bad then ((s.incK .NONFINITE_LOGIT_COUNT r.kw).raise 0x8602 r.kw).faultStep i .nonfiniteLogit
    else
      let toks := r.sample.speculate (r.promptLen + r.generated) logits drafts
      if r.handOut then s.handSample i n ((toks.map (fun t => (t.1, t.2.1))).headD (0, 0)) else s.stepTokens i n l toks
  match r.batch with
  | some (.decode l) => go 0 l
  | some (.prefill n) => if r.prefillDone + n == r.total then go n 0 else s
  | none => s

/-- TOKEN_SAMPLE. -/
def execTokenSample (t idx : Nat) (logits : List (List F32)) (drafts : List (Nat × List F32)) (s : State) : Host.Outcome State Fault Refusal :=
  if idx < 32768 then .next (tokenSample idx logits drafts (s.at t)).flush else .fault .noSuchUnit

/-! ### The boundary: the step that ends -/

/-- Step work of a request still runs: a core that its version's work lies on has not ended (R39). -/
def State.runsOn (s : State) (r : ReqS) : Bool :=
  match s.versionNo r.slot r.version with
  | none => false
  | some v => (s.coresOf r.slot v).any s.beat.busyCores.contains

/-- A request's part in the step that has ended (R424, R428). -/
def State.leaveStep (s : State) (i : Nat) : State :=
  let r := s.req i
  match r.batch with
  | none => s
  | some b =>
    if r.sampled then
      let st := if r.state == .prefill && r.prefillDone ≥ r.total && !r.handOut then RState.decode else r.state
      (s.dropWork i).putReq i { r with batch := none, state := st }
    else if s.runsOn r then s
    else match b with
      | .prefill n =>
        if r.prefillDone + n < r.total then
          ((s.dropWork i).commitSeq i n []).putReq i { r with batch := none, prefillDone := r.prefillDone + n, retries := 0 }
        else s
      | .decode _ => s

/-- Every request leaves the step that has ended. -/
def State.leaveSteps (s : State) : State := (s.srv.reqs.map Prod.fst).foldl State.leaveStep s

/-! ### Item 3 (R422, R428–R431) -/

/-- Forget a request entry, and what the step still holds for it (R431). -/
def State.freeEntry (s : State) (i : Nat) : State :=
  let s := s.dropWork i
  { s with srv := { s.srv with reqs := mapDel s.srv.reqs i } }

/-- A step's standby record (spec/11 Table 11.10). -/
def State.stepRecord (s : State) (i : Nat) : State :=
  let r := s.req i
  if r.stepToks.isEmpty then s
  else (s.putReq i { r with stepToks := [] }).note r.kw (.step i r.stepToks r.ringProd r.generated r.deadline)

/-- A request's part in item 3: what the class's LATE_POLICY decides after a late token (R422); an entry in ENDED is freed (R431). -/
def State.item3 (s : State) (i : Nat) : State :=
  let r := s.req i
  if r.state == .ended then (s.dropSeq i).freeEntry i
  else if r.cancel.isSome then
    if r.batch.isSome then (s.putReq i { r with cancelled := true }).dropSeq i
    else ((s.endReq i 3).dropSeq i).freeEntry i
  else match r.ending with
    | some (c, _) => (s.endReq i c).dropSeq i
    | none =>
      if r.lateNow && s.classSet .LATE_POLICY r.cls r.kw == 1 && r.lateRun ≥ s.classSet .LATE_LIMIT r.cls r.kw then
        ((s.raise 0x4A01 r.kw 0 i r.lateRun r.userTag).endReq i 5).dropSeq i
      else
        let s := s.stepRecord i
        if r.lateNow then s.putReq i { s.req i with lateNow := false } else s

/-- R35 item 3: ends and cancellations, evictions, frees; `frees` is how many of the freed roots' pages the open phase has time for, where it cannot
finish, and the rest carries over (R36). -/
def State.items3 (s : State) (frees : Option Nat) : State :=
  let s := (s.srv.reqs.map Prod.fst).foldl State.item3 s
  let s := s.evictGone.dropMaps
  let s := ((s.kv.nodes.map (·.kw)).eraseDups).foldl State.evictOver s
  s.freeRetired frees

/-! ### Item 4: taking descriptors (R405, R406) -/

/-- A slot that a keyway owns or shares (R350). -/
def State.slotFor (s : State) (kw n : Nat) : Bool := (s.slot n).owner == kw || (s.setI .SLOT_SHARE n).testBit kw

/-- Every field of a descriptor is within Table 10.1 and every reserved one is 0. -/
def descOk (d : Bytes) (kw : Nat) (dfltLog2 : Nat) : Bool :=
  let f (o n : Nat) : Nat := leAt d o n
  let flags := f 4 2
  let ring := f 40 2 != 0xFFFF
  let temp : F32 := BitVec.ofNat 32 (f 44 4)
  let topP : F32 := BitVec.ofNat 32 (f 48 4)
  let log2 := if f 34 1 == 0 then dfltLog2 else f 34 1
  decide (kw < 64) && f 0 2 == 0x5152 && decide (f 2 1 < 16) && decide (f 3 1 < 8) && decide (flags < 32) &&
  (decide (f 6 1 < 16) || f 6 1 == 0xFF) && decide (f 7 1 ≤ 8) && f 8 8 % 4 == 0 &&
  (f 16 4 == 0 && flags.testBit 3 || decide (1 ≤ f 16 4) && decide (f 16 4 ≤ 4194304)) && f 20 4 != 0 && f 24 8 % 64 == 0 &&
  decide (4 ≤ f 32 1) && decide (f 32 1 ≤ 16) && decide (f 33 1 ≤ 4) && (f 34 1 == 0 || decide (4 ≤ f 34 1) && decide (f 34 1 ≤ 12)) &&
  f 35 1 == 0 && (f 38 2 == 0xFFFF || decide (f 38 2 < 2048)) &&
  (if ring then decide (8 ≤ f 42 1) && decide (f 42 1 ≤ 13) && decide (log2 ≤ f 42 1) else f 42 1 == 0) && f 43 1 == 0 &&
  (flags.testBit 1 || F32.finite temp && F32.lt F32.zero temp) && F32.lt F32.zero topP && F32.le topP F32.one && f 54 2 == 0 &&
  (!(flags.testBit 2 || flags.testBit 3) || f 80 8 != 0) && f 104 8 == 0 && f 112 8 == 0 && f 120 8 == 0

/-- Log2 of a keyway's default page. -/
def State.dfltLog2 (s : State) (kw : Nat) : Nat := (s.setK .KV_PAGE_TOKENS_DEFAULT kw).log2

/-- Why a descriptor is refused (Table 10.13, event 0x4A02); 0 when it is taken. -/
def State.refusal (s : State) (kw : Nat) (d : Bytes) : Nat :=
  let slot := leAt d 2 1
  let draft := leAt d 6 1
  let flags := leAt d 4 2
  let ring := leAt d 40 2
  let role := s.set0 .ROLE
  let bad (n : Nat) : Bool := (s.slot n).state == .empty || (s.slot n).state == .fault
  if !descOk d kw (s.dfltLog2 kw) then 1
  else if !s.slotFor kw slot || (draft != 0xFF && !s.slotFor kw draft) then 2
  else if bad slot then 3
  else if leAt d 16 4 > min 4194304 ((if ring == 0xFFFF then 1 else ((s.ringOf ring).map Prod.fst).getD 64) * maxLocal) then 4
  else if (role == 1 && !flags.testBit 2) || (role == 2 && !flags.testBit 3) || (flags.testBit 2 && flags.testBit 3) then 5
  else if ring != 0xFFFF && (s.ringOf ring).isNone then 6
  else 0

/-- A refused descriptor (R406): an entry in its token ring, if its ring fields allow one. -/
def State.refuse (s : State) (kw : Nat) (d : Bytes) (head why : Nat) : State :=
  let a := leAt d 24 8
  let lg := leAt d 32 1
  let s := if a % 64 == 0 && 4 ≤ lg && lg ≤ 16 then
      (s.dmaWrite kw a (ringEntry 0 lg 0xFFFFFFFF (endFlags 6 + 256 * 6) 0 s.beat.number 0)).tokenIrq kw
    else s
  (s.putSub kw { s.sub kw with bad := true }).raise 0x4A02 kw 0 head why (leAt d 88 8)

/-- The lowest index whose entry and sequence record are free and whose owner is live (R405, R431). -/
def State.freeIndex (s : State) : Option Nat :=
  (List.range 32768).find? (fun i => (mapFind s.srv.reqs i).isNone && (s.seqAt i).state == 0 && s.haspLive (s.ownerOf i))

/-- Entries a keyway holds. -/
def State.entriesOf (s : State) (kw : Nat) : Nat := (s.srv.reqs.filter (fun x => x.2.kw == kw && x.2.state != .free)).length

/-- Take the next descriptor of a function's ring into the free entry `i`, or refuse it (R405). -/
def State.takeOne (s : State) (fn i : Nat) : State :=
  let x := s.sub fn
  let a := s.setK .SUBMIT_RING_ADDR fn + 128 * (x.head % s.setK .SUBMIT_RING_LEN fn)
  let (s, d) := s.dmaRead fn a 128
  let s := s.putSub fn { x with head := (x.head + 1) % 65536 }
  let why := s.refusal fn d
  if why != 0 then s.refuse fn d x.head why else
  let r : ReqS := { state := if (leAt d 4 2).testBit 3 then .waitKv else .queued, kw := fn, slot := leAt d 2 1, cls := leAt d 3 1
                    promptLen := leAt d 16 4, maxNew := leAt d 20 4, draftSlot := leAt d 6 1, desc := d
                    takenAt := s.notchTime, takenBeat := s.beat.count }
  s.putReq i { r with deadline := s.notchTime + s.firstBudget r }

/-- Take descriptors of a function's ring in order, at most `n` (R405). -/
def State.takeRing (s : State) (fn : Nat) : Nat → State
  | 0 => s
  | n + 1 =>
    let x := s.sub fn
    if x.head == x.tail || s.entriesOf fn ≥ s.setK .QUOTA_REQ fn then s
    else s.freeIndex.elim s (fun i => (s.takeOne fn i).takeRing fn n)

/-- A keyway takes descriptors: it is ON, its function enabled, no removal under way (R490, R496). -/
def State.kwTakes (s : State) (n : Nat) : Bool := s.fnHere n && s.kwOn n && !s.kwClosing n && s.kwDma n

/-- Take descriptors of every function. -/
def State.takeAll (s : State) : State :=
  ((List.range 64).filter s.kwTakes).foldl (fun x fn =>
    x.takeRing fn (((x.sub fn).tail + 65536 - (x.sub fn).head) % 65536)) s

/-! ### Item 4: admission (R407, R384, R385, R388) -/

/-- The order of R417. -/
def rankBefore (a b : Nat × ReqS) : Bool :=
  decide (a.2.cls < b.2.cls) || (a.2.cls == b.2.cls &&
    (decide (a.2.deadline < b.2.deadline) || (a.2.deadline == b.2.deadline && decide (a.1 < b.1))))

/-- Insert into the order of R417. -/
def rankInsert (a : Nat × ReqS) : List (Nat × ReqS) → List (Nat × ReqS)
  | [] => [a]
  | b :: r => if rankBefore a b then a :: b :: r else b :: rankInsert a r

/-- Requests that satisfy a test, in the order of R417. -/
def State.ranked (s : State) (p : Nat → ReqS → Bool) : List Nat :=
  (((s.srv.reqs.filter (fun x => p x.1 x.2)).foldr rankInsert []).map Prod.fst)

/-- A slot in SERVING or DEGRADED with a map for its current version. -/
def State.slotOpen (s : State) (n : Nat) : Option (Version × Bytes) :=
  let x := s.slot n
  if (x.state == .serving || x.state == .degraded) && !s.kwClosing x.owner then
    match x.cur with
    | some v => (s.mapOf n v.number).map (fun m => (v, m))
    | none => none
  else none

/-- The Hasp cores whose parts the batch build at notch 0 merges: the step leader's own, and those of live cores that have delivered (R57). -/
def State.merging (s : State) : List Nat :=
  (List.range 8).filter (fun h => s.haspLive h && (h == s.hier.leader || s.hier.delivered.contains h))

/-- Requests of a keyway past admission and not ENDED (R501). -/
def State.ringsOf (s : State) (kw : Nat) : Nat :=
  (s.srv.reqs.filter (fun x => x.2.kw == kw && x.2.active && x.2.admitCount != 0)).length

/-- The prompt of a request as read by DMA: sealed when the keyway's DMA slot is ACTIVE (R513). -/
def State.readPrompt (s : State) (r : ReqS) : State × Option (List Nat) :=
  let n := r.promptLen
  let words (b : Bytes) : List Nat := (List.range n).map (fun i => leAt b (4 * i) 4)
  let key := match s.namedSlot .DMA_KEY_SLOT r.kw with
    | some k => if s.keyActive k r.kw 0 then some (s.keySlot k).key else none
    | none => none
  match key with
  | none =>
    let (s, b) := s.dmaRead r.kw (r.field 8 8) (4 * n)
    (s, some (words b))
  | some k =>
    let (s, c) := s.dmaRead r.kw (r.field 8 8) (32 + 4 * n)
    match openSealed k r.kw 2 c with
    | some b => (s, if b.length == 4 * n then some (words b) else none)
    | none => (s, none)

/-- Adapter descriptors of a keyway in force that carry an ADAPTER_ID (R248, R258). -/
def State.adaptersOf (s : State) (kw id : Nat) : List Bytes :=
  if id == 0 then [] else
  let b := ovBytes (s.setting ⟨.ADAPTER_TABLE, 0, kw⟩)
  ((List.range 256).map (fun n => (b.drop (64 * n)).take 64)).filter (fun d => leAt d 0 2 == id)

/-- The page plan of a first root (R385, R388): what lies below the match is taken or copied, the rest is new. -/
def SeqS.firstPlan (q : SeqS) (m pages : Nat) (nodes : List TreeNode) : List Plan :=
  (List.range q.lanes.length).flatMap (fun n => (List.range pages).map (fun p =>
    if (q.lane n).draft then (n, p, Source.new)
    else if (p + 1) * q.per ≤ m then (n, p, Source.take (((nodes[(p + 1) * q.per / 16 - 1]?).map (fun x => x.pages.getD n 0)).getD 0))
    else if p * q.per < m then (n, p, Source.copy (((nodes[m / 16 - 1]?).map (fun x => x.pages.getD n 0)).getD 0) (m - p * q.per))
    else (n, p, Source.new)))

/-- A sequence record for a request of a version, its lanes laid out (R363, R376); with `dflt`, a new page takes the keyway's default format of its time
(R159). -/
def State.seqFor (s : State) (i : Nat) (r : ReqS) (v : Version) (map : Bytes) (draft : Option (Version × Bytes)) (log2 fmt home : Nat) (dflt : Bool) : SeqS :=
  let ring := r.field 40 2
  let ro := if ring == 0xFFFF then none else s.ringOf ring
  let lanes := s.lanesOf r.slot v.number fmt dflt false map ++ (match draft with
    | some (dv, dm) => s.lanesOf r.draftSlot dv.number fmt dflt true dm
    | none => [])
  { kw := r.kw, slot := r.slot, full := r.fullSpan, ring := ro.isSome, version := v.number, home, log2, adapter := r.field 36 2
    dirs := dirsFor log2, ringId := ring, ringSize := (ro.map Prod.fst).getD 1, ringIdx := (ro.map Prod.snd).getD 0
    ringLog2 := r.field 42 1, req := i, lanes
    seed := kvSeed v.model v.number (r.field 36 2) (if mapFixes map then 0 else fmt) log2 r.kw }

/-- The consumer word and the admission entry (R407 items 6 and 7): TOKEN is the index, ADMIT alone is set, LOGPROB is 0, STEP the beat (R413). -/
def State.announce (s : State) (i : Nat) : State :=
  let r := s.req i
  let s := s.dmaWrite r.kw (s.setK .CONS_TABLE_ADDR r.kw + 4 * i) (zeros 4)
  s.ringWrite i i 32 0 s.beat.number 0

/-- Admit a request on the tokens its prefill takes (R407, R478); false when it waits for memory. Its home die is the one that holds the pages it
shares, else a free choice (R355; log 64). -/
def State.admitToks (s : State) (i : Nat) (v : Version) (map : Bytes) (draft : Option (Version × Bytes)) (toks : List Nat) : State × Bool :=
  let r := s.req i
  let log2 := if r.field 34 1 == 0 then s.dfltLog2 r.kw else r.field 34 1
  let fmt := if r.field 33 1 == 0 then s.setK .KV_FORMAT_DEFAULT r.kw else r.field 33 1
  let q := s.seqFor i r v map draft log2 fmt (s.freeBelow 4) (r.field 33 1 == 0)
  let s := s.drawn
  let n := toks.length
  let look := s.setK .PREFIX_ENABLE r.kw != 0 && !r.noPrefix && !q.ring
  let (s, nodes) := if look then s.treeWalk r.kw i (blockHashes q.seed ((n - 1) / 16) toks) toks 0 0 else (s, [])
  let q := match nodes with
    | x :: _ => { q with home := (s.page (x.pages.headD 0)).die }
    | [] => q
  let m := 16 * nodes.length
  let pages := (q.localLen n + q.per - 1) / q.per
  let plan := q.firstPlan m pages nodes
  let q := { q with length := m, tokens := toks }
  let need := s.planMem q [] 0 plan
  let s1 := if s.kvFits q need then s else s.evictFor q need
  match s1.firstRoot i q (pages * q.per) plan with
  | none => (s1, false)
  | some s =>
    let s := if look then ((s.touch nodes).incK .PREFIX_LOOKUP_TOKENS r.kw n).incK .PREFIX_HIT_TOKENS r.kw m else s
    let s := s.putReq i { r with state := .prefill, version := v.number, draftVersion := (draft.map (fun d => d.1.number)).getD 0
                                 admitTime := s.notchTime, admitBeat := s.beat.number, admitCount := s.beat.count, prefillDone := m
                                 draftLen := if r.draftSlot == 255 then 0 else r.field 7 1, members := q.ringSize
                                 adapters := s.adaptersOf r.kw (r.field 36 2) }
    (s.announce i, true)

/-- Admit a QUEUED request (R407), its request standby record first (spec/11 Table 11.10); false when it waits. -/
def State.admitNew (s : State) (i : Nat) (v : Version) (map : Bytes) (draft : Option (Version × Bytes)) : State × Bool :=
  let r := s.req i
  match s.readPrompt r with
  | (s, none) => ((s.sealedFail r.kw).endReq i 6, true)
  | (s, some toks) =>
    match s.admitToks i v map draft toks with
    | (s, true) => (s.note r.kw (.request i r.kw r.desc toks v.number r.deadline), true)
    | x => x

/-- Admit a request whose handoff train has come (R438): its sequence stands already. -/
def State.admitTrain (s : State) (i : Nat) (h : HandIn) : State :=
  let r := s.req i
  let s := s.putReq i { r with state := .decode, version := h.version, promptLen := h.prompt, prefillDone := h.prompt, generated := 1
                               draftLen := if r.draftSlot == 255 then 0 else r.field 7 1, members := (s.seqAt i).ringSize
                               deadline := h.deadline, admitTime := s.notchTime, admitBeat := s.beat.number, admitCount := s.beat.count, train := none
                               adapters := s.adaptersOf r.kw (r.field 36 2) }
  s.announce i

/-- Try the admission of one request; true when it counts toward ADMIT_MAX_PER_BEAT. -/
def State.admitOne (s : State) (i : Nat) : State × Bool :=
  let r := s.req i
  if s.ringsOf r.kw ≥ s.setK .QUOTA_RINGS r.kw then (s, false) else
  match r.state, r.train with
  | .waitKv, some h => (s.admitTrain i h, true)
  | .queued, _ =>
    match s.slotOpen r.slot with
    | none => (s, false)
    | some (v, map) =>
      if r.draftSlot == 255 then s.admitNew i v map none
      else match s.slotOpen r.draftSlot with
        | none => (s, false)
        | some d => s.admitNew i v map (some d)
  | _, _ => (s, false)

/-- Admit requests in order, at most `n`; what is left of `n` is kept (R407). -/
def State.admitList (s : State) : List Nat → Nat → State
  | [], n => { s with srv := { s.srv with admitsLeft := n } }
  | _, 0 => { s with srv := { s.srv with admitsLeft := 0 } }
  | i :: r, n + 1 =>
    match s.admitOne i with
    | (s, true) => s.admitList r n
    | (s, false) => s.admitList r (n + 1)

/-- Admit requests of the Hasp cores whose parts are merged, in the order of R417, at most `n` (R57, R407). -/
def State.admitUpTo (s : State) (haspIn : List Nat) (n : Nat) : State :=
  s.admitList (s.ranked (fun i r => (r.state == .queued || (r.state == .waitKv && r.train.isSome)) && r.ending.isNone &&
    haspIn.contains (s.ownerOf i) && s.kwOn r.kw)) n

/-- R35 item 4: descriptors are taken, requests admitted; `admits` is how many the open phase has time for, where it cannot finish (R36). -/
def State.items4 (s : State) (admits : Option Nat) : State :=
  let most := s.set0 .ADMIT_MAX_PER_BEAT
  let s := s.takeAll
  s.admitUpTo s.merging (match admits with
    | none => most
    | some n => min n most)

/-! ### Item 5: the batch (R414, R415, R423–R425, R433–R435) -/

/-- Consumer words of active requests (R414); a word ahead of RING_PROD is taken as RING_PROD. -/
def State.readCons (s : State) (i : Nat) : State :=
  let r := s.req i
  if !r.active || r.admitCount == 0 || !s.kwDma r.kw then s else
  let (s, b) := s.dmaRead r.kw (s.setK .CONS_TABLE_ADDR r.kw + 4 * i) 4
  let w := leNat b
  let behind := (r.ringProd + 2 ^ 32 - w) % 2 ^ 32
  s.putReq i { r with consumed := if behind < 2 ^ 31 then w else r.ringProd }

/-- Room of a request's token ring (R415). -/
def ReqS.room (r : ReqS) : Nat := r.ringLen - (r.ringProd + 2 ^ 32 - r.consumed) % 2 ^ 32

/-- What remains of a step (R423): time in 2⁻¹⁶ notches, energy in µJ, energy by keyway. -/
structure Room where
  t  : Nat
  e  : Nat
  ew : Map Nat
  deriving DecidableEq, Repr

/-- A cost of a keyway fits all three remainders. -/
def Room.fits (m : Room) (kw : Nat) (c : Nat × Nat) : Bool := decide (c.1 ≤ m.t) && decide (c.2 ≤ m.e) && decide (c.2 ≤ mapGet m.ew kw 0)
/-- Subtract a cost. -/
def Room.use (m : Room) (kw : Nat) (c : Nat × Nat) : Room := { t := m.t - c.1, e := m.e - c.2, ew := mapSet m.ew kw (mapGet m.ew kw 0 - c.2) }

/-- ENERGY_SHARE of a keyway as a part of E (R499). -/
def State.shareOf (s : State) (e kw : Nat) : Nat :=
  let sum := sumNat (((List.range 64).filter s.kwOn).map (s.setK .ENERGY_SHARE))
  e * s.setK .ENERGY_SHARE kw / max 1000 sum

/-- The remainders a build begins with. -/
def State.roomOf (s : State) : Room :=
  let e := s.srv.budget * 1000
  { t := (s.set0 .QUIET_START - s.set0 .OPEN_END) * 65536 * s.set0 .STEP_FILL_PCT / 100, e
    ew := ((List.range 64).filter s.kwOn).map (fun w => (w, s.shareOf e w)) }

/-- An estimate made with free values: the spec gives no formula from placement and pass accounts (log 29). -/
def freeEst (k slot version : Nat) : Estimate :=
  { slot, version, dec := (List.range 9).map (fun l => (Config.freeNat (k + 2 * l), Config.freeNat (k + 2 * l + 1)))
    pre := (Config.freeNat (k + 18), Config.freeNat (k + 19)) }

/-- A version's estimate, made when it has none. -/
def State.estOf (s : State) (slot version : Nat) : State × Estimate :=
  match s.srv.ests.find? (fun e => e.slot == slot && e.version == version) with
  | some e => (s, e)
  | none =>
    let e := freeEst s.free slot version
    ({ s with free := s.free + 20, srv := { s.srv with ests := s.srv.ests ++ [e] } }, e)

/-- Note a planned cost. -/
def State.plan (s : State) (slot version : Nat) (c : Nat × Nat) : State :=
  { s with srv := { s.srv with ests := s.srv.ests.map (fun e =>
      if e.slot == slot && e.version == version then { e with planned := (e.planned.1 + c.1, e.planned.2 + c.2) } else e) } }

/-- Scale a value by measured to estimated, the ratio held between 0.5 and 2 (R423). -/
def scaleBy (v m p : Nat) : Nat := if p == 0 then v else max (v / 2) (min (2 * v) (v * m / p))

/-- Scale every estimate by the step's measured cost, and forget what was planned. -/
def State.scaleEsts (s : State) (costs : List StepCost) : State :=
  { s with srv := { s.srv with ests := s.srv.ests.map (fun e =>
      let e' := match costs.find? (fun c => c.slot == e.slot && c.version == e.version) with
        | some c =>
          let f (x : Nat × Nat) : Nat × Nat := (scaleBy x.1 c.time e.planned.1, scaleBy x.2 c.energy e.planned.2)
          { e with dec := e.dec.map f, pre := f e.pre }
        | none => e
      { e' with planned := (0, 0) }) } }

/-- The state a request runs from. -/
def ReqS.base (r : ReqS) : RState := if r.state == .held then r.heldFrom else r.state

/-- A quadrant's clusters take no step work: it is gated, or was opened in this beat (R69). -/
def State.quadShut (s : State) (q : Nat) : Bool := s.ownState (uidQuad q) == .gated || s.hier.opened.contains q

/-- Step work of a version lies in a quadrant that takes none: its requests wait (R69; log 62). -/
def State.versionShut (s : State) (slot version : Nat) : Bool :=
  match s.versionNo slot version with
  | none => false
  | some v => (s.coresOf slot v).any (fun c => s.quadShut (s.quadOfCore c))

/-- A request may be in the build: in PREFILL or DECODE, or held for a cause that a build releases (Table 10.5), its Hasp core's part merged. -/
def State.mayRun (s : State) (haspIn : List Nat) (i : Nat) (r : ReqS) (st : RState) : Bool :=
  r.base == st && (r.state != .held || (r.hold != .hasp && r.hold != .none)) && r.batch.isNone && r.ending.isNone && r.cancel.isNone &&
  r.handTok.isNone && haspIn.contains (s.ownerOf i) && s.kwOn r.kw && !s.versionShut r.slot r.version &&
  !(r.draftLen != 0 && s.versionShut r.draftSlot r.draftVersion)

/-- Put a request into the step, with nothing of an earlier one; the DEADLINE it has by then, held or not, is its step's (R410, R421). -/
def State.enter (s : State) (i : Nat) (b : BatchItem) : State :=
  let r := s.req i
  (s.dropWork i).putReq i { r with state := r.base, hold := .none, heldBeats := 0, causeBeats := 0, batch := some b, stepDeadline := r.deadline,
                                     stepBeat := s.beat.number, faulted := false, sampled := false }

/-- A request without ring room (R415). -/
def State.stall (s : State) (i : Nat) : State :=
  let r := s.req i
  ((s.incK .RING_STALLS r.kw).raise 0x4A03 r.kw 0 i r.room r.userTag).holdReq i .ringFull

/-- A request whose step needs positions without pages (R394, R395): counted and reported unless the build of its root did so. -/
def State.lackPage (s : State) (i upto : Nat) : State :=
  let r := s.req i
  let q := s.seqAt i
  let s := if q.noPage then s else
    (s.incK .KV_NO_PAGE_COUNT q.kw).raise 0x4901 q.kw 0 i ((upto - q.reserved + q.per - 1) / q.per * q.lanes.length) (s.quotaFree q.kw)
  if r.state == .held && r.hold == .noPage then s else s.holdReq i .noPage

/-- The draft length of a step (R433, R398). -/
def ReqS.draftNow (r : ReqS) (q : SeqS) : Nat :=
  let l := min r.draftLen (r.maxNew - r.generated - 1)
  if q.ring then min l (2 ^ q.ringLog2 - 1 - q.length % 2 ^ q.ringLog2) else l

/-- Place one decode (R423): the state, the remainders, whether it was left out for cause 3, which counts in ENERGY_HELD_STEPS (R425). -/
def State.placeDecode (s : State) (m : Room) (i : Nat) : State × Room × Bool :=
  let r := s.req i
  let q := s.seqAt i
  let l := r.draftNow q
  if q.noPage || q.localLen (q.length + 1) > q.reserved then (s.lackPage i (q.localLen (q.length + 1)), m, false) else
  let l := if q.localLen (q.length + 1 + l) > q.reserved then 0 else l
  let l := if r.room < 2 + l then 0 else l
  if r.room < 2 then (s.stall i, m, false) else
  let (s, e) := s.estOf r.slot r.version
  let c (k : Nat) : Nat × Nat := e.dec.getD k (0, 0)
  let l := if m.fits r.kw (c l) then l else 0
  if !(m.fits r.kw (c l)) then ((s.holdReq i .energy).incK .ENERGY_HELD_STEPS r.kw, m, true)
  else ((s.plan r.slot r.version (c l)).enter i (.decode l), m.use r.kw (c l), false)

/-- Tokens of a prefill that fit: the least that any remainder allows. -/
def Room.tokens (m : Room) (kw : Nat) (c : Nat × Nat) (most : Nat) : Nat :=
  let byT := if c.1 == 0 then most else m.t / c.1
  let byE := if c.2 == 0 then most else min m.e (mapGet m.ew kw 0) / c.2
  min most (min byT byE)

/-- Place one prefill chunk (R423, R424). -/
def State.placePrefill (s : State) (m : Room) (i : Nat) : State × Room :=
  let r := s.req i
  let q := s.seqAt i
  let (s, e) := s.estOf r.slot r.version
  let rem := r.total - r.prefillDone
  let chunk := if q.ring then q.ringSize * 2 ^ q.ringLog2 else s.set0 .PREFILL_CHUNK_MAX
  let n := m.tokens r.kw e.pre (min rem chunk)
  let n := if n < rem then n / 256 * 256 else n
  if n == 0 then (s, m)
  else if n == rem && r.room < 2 then (s.stall i, m)
  else
    let c := (n * e.pre.1, n * e.pre.2)
    ((s.plan r.slot r.version c).enter i (.prefill n), m.use r.kw c)

/-- Place decodes in order; the number left out for cause 3. -/
def State.placeDecodes (s : State) (m : Room) : List Nat → State × Room × Nat
  | [] => (s, m, 0)
  | i :: r =>
    let (s, m, e) := s.placeDecode m i
    let (s, m, n) := s.placeDecodes m r
    (s, m, n + if e then 1 else 0)

/-- Place prefills in order. -/
def State.placePrefills (s : State) (m : Room) : List Nat → State × Room
  | [] => (s, m)
  | i :: r => let (s, m) := s.placePrefill m i; s.placePrefills m r

/-- Before a build: drafts that have lost their slot (R435), drafts re-armed (R434), beats held (Table 10.3). -/
def State.beforeBuild (s : State) (i : Nat) : State :=
  let r := s.req i
  let lost := r.draftSlot != 255 && r.admitCount != 0 && !((s.slot r.draftSlot).state == .serving || (s.slot r.draftSlot).state == .degraded)
  let r := if lost then { r with draftLen := 0 } else r
  let r := if r.rearmNext then { r with rearmNext := false, disarmed := false, rejectRun := 0, draftLen := if lost then 0 else 1 } else r
  let r := if r.state == .held then { r with heldBeats := min 65535 (r.heldBeats + 1), causeBeats := r.causeBeats + 1 } else r
  if r.active then s.putReq i r else s

/-- Place the requests of the Hasp cores whose parts are merged into the step, decodes first, and keep the remainders (R423). The beat's first
requests left out for cause 3 are reported (R425). -/
def State.buildPart (s : State) (haspIn : List Nat) (m : Room) : State :=
  let (s, m, n) := s.placeDecodes m (s.ranked (fun i r => s.mayRun haspIn i r .decode))
  let s := if n == 0 || s.srv.heldTold then s
    else ({ s with srv := { s.srv with heldTold := true } } : State).raise 0x4A07 0xFF 0 n s.srv.budget s.beat.number
  let (s, m) := s.placePrefills m (s.ranked (fun i r => s.mayRun haspIn i r .prefill))
  { s with srv := { s.srv with room := (m.t, m.e, m.ew) } }

/-- R35 item 5: the batch build. -/
def State.items5 (s : State) (costs : List StepCost) : State :=
  let s := s.scaleEsts costs
  let ids := s.srv.reqs.map Prod.fst
  let s := ids.foldl State.readCons s
  let s := ids.foldl State.beforeBuild s
  let on (i : Nat) : Bool := (s.req i).batch.isSome
  let s := { s with kv := { s.kv with laneUse := s.kv.laneUse.filter (fun x => on x.2), outputs := s.kv.outputs.filter (fun x => on (s.seqReq x.1)) }
                    srv := { s.srv with heldTold := false } }
  let l := s.merging
  let s := s.buildPart l s.roomOf
  { s with hier := { s.hier with merged := l, delivered := [] } }

/-- A Hasp core's admissions and decode work reach the step leader (R57): by OPEN_END − 8 they are merged into the step that is being built, which
places them in the room it has left (log 62); later they wait for the next step. -/
def haspWork (hc : Nat) (s : State) : State :=
  if !s.haspLive hc then s
  else if s.boot.stepped && s.beat.phase == .open_ && s.notchNow + 8 ≤ s.set0 .OPEN_END && !s.hier.merged.contains hc then
    let s := s.admitUpTo [hc] s.srv.admitsLeft
    let s := s.buildPart [hc] ⟨s.srv.room.1, s.srv.room.2.1, s.srv.room.2.2⟩
    State.flush { s with hier := { s.hier with merged := s.hier.merged ++ [hc] } }
  else if s.hier.delivered.contains hc then s
  else { s with hier := { s.hier with delivered := s.hier.delivered ++ [hc] } }

/-- HASP_WORK_DELIVERY. -/
def execHaspWorkDelivery (t hc : Nat) (s : State) : Host.Outcome State Fault Refusal :=
  if hc < 8 then .next (haspWork hc (s.at t)) else .fault .noSuchUnit

/-! ### Objects (R409, R439, R441) -/

/-- A request-table entry as bytes (Table 10.3). -/
def ReqS.info (r : ReqS) : Bytes :=
  if r.state == .free then zeros 64 else
  let fl := (if r.fullSpan then 1 else 0) + (if r.greedy then 2 else 0) + (if r.handOut then 4 else 0) + (if r.handIn then 8 else 0) +
    (if r.cancel.isSome then 16 else 0) + (if r.disarmed then 32 else 0)
  leBytes 1 r.state.code ++ leBytes 1 r.kw ++ leBytes 1 r.slot ++ leBytes 1 r.cls ++ leBytes 4 r.version ++ leBytes 8 r.deadline ++
    leBytes 8 r.admitTime ++ leBytes 8 r.lastDelivery ++ leBytes 4 r.promptLen ++ leBytes 4 r.prefillDone ++ leBytes 4 r.generated ++
    leBytes 4 r.maxNew ++ leBytes 4 r.ringProd ++ leBytes 1 r.draftSlot ++ leBytes 1 r.draftLen ++ leBytes 1 r.rejectRun ++
    leBytes 1 r.lateRun ++ leBytes 1 r.retries ++ leBytes 1 r.hold.code ++ leBytes 2 fl ++ leBytes 2 r.heldBeats ++ zeros 2

/-- HIST_WINDOW of a selection (R441). -/
def State.histWindow (s : State) (kw q : Nat) : Bytes :=
  (List.range 97).flatMap (fun b => leBytes 4 (mapGet (s.hist kw (q % 8) (q / 8 % 2)) b 0))

/-- HIST_CLEAR of a keyway's view; the physical function clears every keyway's. -/
def State.histClear (s : State) (kw : Nat) : State :=
  { s with srv := { s.srv with hists := s.srv.hists.filter (fun h => kw != 0 && h.kw != kw) } }

/-- Requests of a keyway, or of all, that satisfy a test. -/
def State.reqCount (s : State) (kw : Option Nat) (p : ReqS → Bool) : Nat :=
  (s.srv.reqs.filter (fun x => p x.2 && (match kw with
    | none => true
    | some w => x.2.kw == w))).length

end Sys2Proof.Machine
end

