-- ==== Sys2Proof/Machine/Removal.lean ====
section
/-! DEFINITION. Machine/Removal.lean: a keyway opens and is removed (spec/12 R493–R496, R516–R520, spec/15 R607). -/
namespace Sys2Proof.Machine
open Sys2Proof

/-! ### Opening -/

/-- The settings of a window that wait for its OPENING take effect (R494, R516). -/
def State.takeWindow (s : State) (n : Nat) : State :=
  let mine (k : OKey) : Bool := k.kw == n && k.obj.spec.index == 0x8000 && k.obj.spec.effect == .opening
  let s := (s.waiting.filter (fun x => mine x.1)).foldl (fun (s : State) x => s.putSetting x.1 x.2) s
  { s with waiting := s.waiting.filter (fun x => !mine x.1) }

/-- Bytes of the versions that a keyway's slots keep in its memory: digital copies, digital tiers and staged shards (R498). -/
def State.slotBytes (s : State) (n : Nat) : Nat :=
  sumNat ((s.versions.filter (fun v => (s.slot v.1).owner == n)).map (fun v =>
    heldBytes v.2.2.shards + (if v.2.1 == Which.pend && (s.slot v.1).phase == LoadPhase.drain then stageBytes v.2.2.shards else 0)))

/-- An OPENING's quotas fail (R496). -/
def State.quotaConflict (s : State) (n : Nat) : Bool :=
  (s.kwsNotOff.filter (fun m => m != n)).any (fun m =>
    overlap (s.coreRange n) (s.coreRange m) || overlap (s.latchRange n) (s.latchRange m)) ||
  decide (s.mem.free + mapGet s.mem.resv n 0 < s.setK .QUOTA_MEM_PAGES n)

/-- A keyway's counters and histograms are cleared; of KW0 only its histograms and class objects (R496, R519). -/
def State.clearCounters (s : State) (n : Nat) : State :=
  let cls (k : OKey) : Bool := k.obj == .CLASS_TOKENS || k.obj == .CLASS_TOKENS_LATE
  { s with cnt := s.cnt.filter (fun x => !(x.1.kw == n + 1 && (n != 0 || cls x.1)))
           srv := { s.srv with hists := s.srv.hists.filter (fun h => h.kw != n) } }

/-- The latches of a keyway's quota are set to COUNT 0; KW0's are its range less those of every other keyway that is not OFF (R495, R496). -/
def State.clearView (s : State) (n : Nat) : State :=
  if n != 0 then s.clearLatches (s.latchRange n) else
  let mine (p : Nat) : Bool := inRange (s.latchRange 0) p && !(s.kwsNotOff.any (fun m => inRange (s.latchRange m) p))
  { s with latch := { s.latch with counts := s.latch.counts.filter (fun c => !mine c.1) } }

/-- A keyway's OPENING begins (R496, R516, R518): its settings, the checks, the pages, its latches and counters. A confidential one closes JTAG. -/
def State.kwOpen (s : State) (n : Nat) : State :=
  let s := s.takeWindow n
  if n != 0 && s.quotaConflict n then (s.raise 0x4C01 n).funcFail (.keyway n) 0x4C01
  else
    let s := if n == 0 then s else { s with mem := { s.mem with resv := mapSet s.mem.resv n (s.setK .QUOTA_MEM_PAGES n) } }
    let conf := s.setK .KW_CONFIDENTIAL n != 0
    let s := (s.clearView n).clearCounters n
    let s := s.putKway n { passed := true, conf := conf }
    if conf then { s with ward := { s.ward with jtag := false } } else s

/-- A keyway's OPENING is over without success: its reservation is zeroed and freed. -/
def State.kwOpenFailed (s : State) (n : Nat) : State :=
  let s := s.putKway n {}
  if n == 0 then s
  else
    let keep := pagesOf (s.slotBytes n)
    { s with mem := { s.mem.zeroJob 0xFF (mapGet s.mem.resv n 0 - keep) with
        resv := if keep == 0 then mapDel s.mem.resv n else mapSet s.mem.resv n keep } }

/-- A keyway may enter ON (R496, R516): its checks passed, a boundary has come since, and a confidential one has its DMA key and its stream. -/
def State.kwReady (s : State) (n : Nat) : Bool :=
  let k := s.kway n
  k.passed && decide (s.funcBeats (.keyway n) ≥ 1) &&
    (!k.conf || ((match s.namedSlot .DMA_KEY_SLOT n with | some d => s.keyActive d n 0 | none => false) &&
      s.setK .IDE_STREAM n != 0xFF && s.streamUp (s.setK .IDE_STREAM n)))

/-! ### Removal -/

/-- Key slots of a keyway. -/
def State.kwKeys (s : State) (n : Nat) : List Nat := (s.ward.keys.filter (fun k => k.2.kw == n)).map Prod.fst

/-- A reset returns a function's registers to their reset values and stops its DMA, with every transfer that holds one (R493). -/
def State.resetFunction (s : State) (n : Nat) : State :=
  let s := s.putKway n { s.kway n with noDma := true }
  { s with slots := { s.slots with rings := mapDel s.slots.rings n }
           srv := { s.srv with subs := mapDel s.srv.subs n }
           latch := { s.latch with regs := mapDel s.latch.regs n }
           gdp := { s.gdp with boxes := mapDel s.gdp.boxes n } }

/-- Step 1 of Table 12.6; `st` is where the removal stands then. -/
def State.removalBegin (s : State) (n : Nat) (st : Removal) (reset : Bool) : State :=
  let s := s.putKway n { s.kway n with removal := st, b0 := s.notchClock, drained := false, keep := reset }
  (s.kwKeys n).foldl State.closeKey s

/-- A removal's CLOSING begins by a write, at a boundary (R519). -/
def State.kwClose (s : State) (n : Nat) : State := s.removalBegin n .start false

/-- A reset of a function (R493, R607): its removal begins at once, and one that has begun goes on. -/
def State.kwReset (s : State) (n : Nat) : State :=
  let s := s.resetFunction n
  match s.kwState n with
  | .off => s
  | .closing => s
  | _ => (s.funcTo (.keyway n) .closing).removalBegin n .flr true

/-- FLR. -/
def execFlr (t fn : Nat) (s : State) : Host.Outcome State Fault Refusal :=
  if fn < 64 then
    let s := s.at t
    .next (if s.fnHere fn then s.kwReset fn else s)
  else .fault .noSuchUnit

/-- A request that a keyway's removal ends (Table 12.6 step 2). -/
def State.removes (s : State) (n : Nat) (r : ReqS) : Bool := r.kw == n || (s.slot r.slot).owner == n

/-- Step 2 but for the ends themselves, which item 3 then writes: other sequences dropped, waiters DENIED, the prefix tree evicted. -/
def State.removalStep2 (s : State) (n : Nat) : State :=
  let s := s.endSoon 4 (s.removes n)
  let rings := (s.kv.seqs.filter (fun q => q.2.kw == n && q.2.ring && q.2.req == 0xFFFF)).map Prod.fst
  let s := rings.foldl State.dropSeq s
  let s := s.completeWaiters (fun w => w.by_.kw == n) .denied
  let s := s.evictAll n
  let s := { s with fab := { s.fab with replays := s.fab.replays.filter (fun r => r.kw != n) } }
  s.putKway n { s.kway n with removal := .drain, b0 := s.notchClock }

/-- A latch operation of a dropped flow ends at its source. -/
def State.flowGone (s : State) (f : Flow) : State :=
  match f.kind with
  | .latch who num op => s.remoteLost who num op
  | _ => s

/-- An inbound train is dropped: its sender is told, and its pages are freed (Table 12.7). -/
def State.dropTrain (s : State) (x : RxTrain) : State :=
  let s := s.replyTo { type := 0x10, src := x.src, flow := x.flow, keyway := x.kw } 0x13 6 (leBytes 4 0)
  s.memGive x.kw x.bytes

/-- The transfers of a keyway that still run are dropped (Table 12.6 step 3). -/
def State.dropTransfers (s : State) (n : Nat) : State :=
  let gone := s.fab.flows.filter (fun f => f.kw == n)
  let s := gone.foldl State.flowGone s
  let ins := s.fab.trains.filter (fun x => x.kw == n)
  let s := ins.foldl State.dropTrain s
  let rx := s.fab.rx.filter (fun r => r.kw == n)
  let s := { s with
    fab := { s.fab with
      flows := s.fab.flows.filter (fun f => f.kw != n)
      trains := s.fab.trains.filter (fun x => x.kw != n)
      shards := s.fab.shards.filter (fun x => !(rx.any (fun r => r.src == x.src && r.flow == x.flow)))
      rx := s.fab.rx.filter (fun r => r.kw != n) }
    kv := { s.kv with epochs := s.kv.epochs.filter (fun e => match e.2 with
      | .flow num => !(gone.any (fun f => f.num == num))
      | _ => true) } }
  { s with slots := { s.slots with rings := mapSet s.slots.rings n { s.ring n with puts := [] } } }

/-- KEY_DRAIN notches after B0 (R519): the transfers that still run are dropped. -/
def keyDrain (n : Nat) (s : State) : State :=
  let k := s.kway n
  if k.removal == .drain && !k.drained && s.drainPast k.b0 then (s.dropTransfers n).putKway n { k with drained := true } else s

/-- KEY_DRAIN_EXPIRY. -/
def execKeyDrainExpiry (t kw : Nat) (s : State) : Host.Outcome State Fault Refusal :=
  if kw < 64 then .next (keyDrain kw (s.at t)) else .fault .noSuchUnit

/-- A slot's function goes OFF with its versions. -/
def State.freeSlot (s : State) (n : Nat) : State :=
  let s := if (s.func (.slot n)).state == .off then s else s.funcTo (.slot n) .off
  if (s.slot n).state == .empty then s else s.wipeSlot n

/-- Pages that adapters of a keyway have filled, in bytes. -/
def State.adapterBytes (s : State) (n : Nat) : Nat := poolPage * (s.mem.adapters.filter (fun a => a.1 == n)).length

/-- Step 4, and what of step 5 waits for no epoch (Table 12.6): keys zeroised, owned versions freed unless a reset began the removal, the adapter
table cleared, latches at COUNT 0. -/
def State.removalStep4 (s : State) (n : Nat) : State :=
  let k := s.kway n
  let s := (s.kwKeys n).foldl State.zeroKey s
  let s := if k.keep then s else ((List.range 16).filter (fun i => (s.slot i).owner == n)).foldl State.freeSlot s
  let s := if n == 0 then s.memGive 0 (s.adapterBytes 0) else s
  let s := { s with
    cfg := s.cfg.filter (fun x => !(x.1.obj == Obj.ADAPTER_TABLE && x.1.kw == n))
    waiting := s.waiting.filter (fun x => !(x.1.obj == Obj.ADAPTER_TABLE && x.1.kw == n))
    kwMem := mapDel s.kwMem n
    mem := { s.mem with adapters := s.mem.adapters.filter (fun a => a.1 != n) } }
  (s.clearView n).putKway n { k with removal := .free }

/-- Step 5 (Table 12.6): once nothing of the keyway is retired and waiting, its whole reservation is zeroed, but for what kept slots hold. -/
def State.removalStep5 (s : State) (n : Nat) : State :=
  if s.kv.retired.any (fun w => w.kw == n) then s else
  let s := s.putKway n { s.kway n with removal := .zero }
  if n == 0 then s else
  let keep := if (s.kway n).keep then s.slotBytes n else 0
  let pages := mapGet s.mem.resv n 0
  { s with mem := { s.mem.zeroJob n (pages - pagesOf keep) with
      resv := if keep == 0 then mapDel s.mem.resv n else mapSet s.mem.resv n (pagesOf keep)
      used := if keep == 0 then mapDel s.mem.used n else mapSet s.mem.used n keep } }

/-- Step 6 (Table 12.6, R493): OFF, counters cleared; a latched enable, or after a reset an enable that reads 1, opens it then. -/
def State.removalEnd (s : State) (n : Nat) : State :=
  let f : Func := .keyway n
  let k := s.kway n
  let again := (s.func f).latched || (k.noDma && s.enabled f)
  let s := ((s.funcTo f .off).clearCounters n).putKway n { noDma := k.noDma }
  s.putFunc f { s.func f with latched := again }

/-- Step 5 has ended: nothing of the keyway is being zeroed. -/
def State.zeroed (s : State) (n : Nat) : Bool := !(s.mem.zeroing.any (fun z => z.1 == n))

/-- A removal's move at a boundary before item 3: B0 of a reset, or its end. -/
def State.removalPre (s : State) (n : Nat) : State :=
  let k := s.kway n
  match k.removal with
  | .flr => s.putKway n { k with removal := .start }
  | .zero => if s.zeroed n then s.removalEnd n else s
  | _ => s

/-- A removal's move at item 3 of a boundary. -/
def State.removalItem3 (s : State) (n : Nat) : State :=
  match (s.kway n).removal with
  | .start => s.removalStep2 n
  | .drain => if (s.kway n).drained then (s.removalStep4 n).removalStep5 n else s
  | .free => s.removalStep5 n
  | _ => s

/-- Keyways under removal. -/
def State.removals (s : State) : List Nat := (s.ward.kws.filter (fun k => k.2.removal != .none)).map Prod.fst

/-- A request's end at once, outside item 3. -/
def State.endNow (s : State) (i : Nat) : State :=
  if (s.req i).active then (s.endReq i 4).dropSeq i else s

/-- Everything a keyway still has is dropped and its keys destroyed at once (Table 12.7, FUNC_CLOSE_LIMIT and the life-cycle): what step 5 zeroes
is not reused before it is zeroed. -/
def State.removeAtOnce (s : State) (n : Nat) : State :=
  let idx := (s.srv.reqs.filter (fun x => s.removes n x.2)).map Prod.fst
  let s := if (s.kway n).removal == .zero || (s.kway n).removal == .free then s
           else (((idx.foldl State.endNow s).removalStep2 n).dropTransfers n).removalStep4 n
  let mine := s.kv.retired.filter (fun w => w.kw == n)
  let s := { s with kv := { s.kv with retired := s.kv.retired.filter (fun w => w.kw != n) } }
  let s := mine.foldl State.freeWaste s
  let s := if (s.kway n).removal == .zero then s else s.removalStep5 n
  s

/-- FUNC_CLOSE_LIMIT of a keyway (Table 3.13, Table 12.7): forced OFF, with the removal's end. -/
def State.kwForce (s : State) (n : Nat) : State :=
  let f : Func := .keyway n
  let s := s.removeAtOnce n
  let k := s.kway n
  let again := (s.func f).latched || (k.noDma && s.enabled f)
  let s := ((s.funcForce f).clearCounters n).putKway n { noDma := k.noDma }
  s.putFunc f { s.func f with latched := again }

/-- A zeroing job has ended and its pages return to the pool (R502): the oldest of the keyway's, or of the device's (0xFF). -/
def firstJob (owner : Nat) : List (Nat × Nat) → List (Nat × Nat)
  | [] => []
  | z :: r => if z.1 == owner then r else z :: firstJob owner r

/-- ZEROING_DONE. -/
def execZeroingDone (t kw : Nat) (s : State) : Host.Outcome State Fault Refusal :=
  if kw < 64 ∨ kw = 255 then
    let s := s.at t
    .next { s with mem := { s.mem with zeroing := firstJob kw s.mem.zeroing } }
  else .fault .noSuchUnit

/-- In SEEKING no boundary comes: a removal goes on as its own steps end (R105, R634). -/
def State.removalSeek (s : State) (n : Nat) : State :=
  if s.beat.mode != .seeking then s else
  match (s.kway n).removal with
  | .none => s
  | .flr => s.removalStep2 n
  | .zero => if s.zeroed n then s.removalEnd n else s
  | _ => s.removalItem3 n

end Sys2Proof.Machine
end

