-- ==== Sys2Proof/Machine/Fabric.lean ====
section
/-! DEFINITION. Machine/Fabric.lean: the links of the Hinge ports, the map, advertised reach, floods, forwarding, and what every arriving frame
meets first (spec/11 R444–R465, R471). -/
namespace Sys2Proof.Machine
open Sys2Proof

/-! ### Flows that lose their route (R463, R464) -/

/-- The route of a flow is live as far as this device knows: its first link, and the global link of the gateway it leads to. -/
def State.routeLive (s : State) (f : Flow) : Bool :=
  let g := f.via.getD (groupOf f.dst)
  s.usable false f.port &&
  (if g == groupOf s.physAddr then (s.port f.port).logical == f.dst
   else if f.port ≥ 15 then groupOf (s.port f.port).partner == g
   else (s.globalLinks false).any (fun x => x.2.2.1 == g && x.1 == memberOf (s.port f.port).partner))

/-- A memory take ends without a zeroing job: bytes of a keyway pass from one holder to another. -/
def State.memMove (s : State) (kw bytes : Nat) : State :=
  { s with mem := { s.mem with used := mapSet s.mem.used kw (mapGet s.mem.used kw 0 - bytes) } }

/-- A handoff ends with its train (R437): `status` is the train's, 0xFF for a timeout. -/
def State.handFail (s : State) (i status : Nat) : State :=
  let r := s.req i
  if !r.active || r.handTok.isNone then s else
  let s := s.raise 0x8A03 r.kw 0 i status r.userTag
  (s.putReq i { r with handTok := none, handFlow := none }).endReq i 11

/-- A train of this device fails (R468): a handoff ends its request, a ring set never arrives. -/
def State.trainFail (s : State) (f : Flow) (status : Nat) : State :=
  let s := (s.dropFlow f.num).raise 0x8B03 (if f.kw < 64 then f.kw else 0xFF)
  let s := { s with kv := { s.kv with epochs := s.kv.epochs.filter (fun e => e.2 != .flow f.num) } }
  match f.kind with
  | .handoff i => s.handFail i status
  | _ => s

/-- A shard request whose destination is lost: the shard is missing, and its next attempt carries REASON 0x04 (R463, R470). -/
def State.shardMissing (s : State) (slot index : Nat) : State :=
  match (s.slot slot).outstanding index with
  | none => s
  | some (_, v, q, _) => s.retryReq slot v q 4

/-- A flow of this device ends as if its destination were lost (R463). -/
def State.flowLost (s : State) (f : Flow) : State :=
  match f.kind with
  | .handoff _ => s.trainFail f 5
  | .ringSet _ => s.trainFail f 5
  | .latch who num op => (s.dropFlow f.num).remoteLost who num op
  | .shardReq slot index => (s.dropFlow f.num).shardMissing slot index
  | _ => s.dropFlow f.num

/-- A flow takes a new route and is sent again from its first frame not acknowledged (R464). -/
def State.reroute (s : State) (f : Flow) : State :=
  let (s, r) := s.route f.dst f.num
  match r with
  | none => s.flowLost f
  | some (p, via) =>
    let frames := mkFrames s.logAddr f.dst f.num f.kw via (s.flowKey f) f.items.length 0 f.items
    let s := if f.via.isNone then s.countVia via else s
    (s.mapFlow f.num (fun x => { x with port := p, via := via, frames := frames, sent := x.acked })).pump f.num

/-- Every flow whose route has gone takes a new one. -/
def State.rerouteDead (s : State) : State :=
  (s.fab.flows.filter (fun f => !s.routeLive f)).foldl State.reroute s

/-! ### Links (R445–R449, R474) -/

/-- Frames that travel one link carry no destination. -/
def State.identFrame (s : State) : HFrame :=
  { type := 0x02, src := s.logAddr
    body := .ident s.physAddr s.logAddr (s.count ⟨.PART_CODE, 0, 0⟩) (s.count ⟨.STEPPING, 0, 0⟩) s.fab.bootCount s.fab.epoch }

/-- A port has trained on all lanes or on a pair of them (R447, R448): its link is up, and an IDENT frame goes out. -/
def linkTrained (p lanes : Nat) (s : State) : State :=
  let x := s.port p
  if x.link ≥ 2 || !([15, 3, 12].contains lanes) || (s.func (.port p)).state == .off then s else
  let half := x.half || lanes != 15
  let x' := { x with link := if half then 3 else 2, half := half, lanes := if lanes == 15 && half then x.lanes else lanes
                     marked := true, misses := 0, marks := 0 }
  let s := s.putPort p x'
  let s := if half && !x.half then s.raise 0x4B02 0xFF (uidPort p) else s
  let s := if (s.func (.port p)).state == .on then s.raise 0x1B01 0xFF (uidPort p) else s
  s.sendOn p s.identFrame

/-- LINK_TRAINED. -/
def execLinkTrained (t port lanes : Nat) (s : State) : Host.Outcome State Fault Refusal :=
  if port < 23 then .next (linkTrained port lanes (s.at t)) else .fault .noSuchUnit

/-- An address counts as live again once its adopter has shown itself (R480). -/
def State.relive (s : State) (a : Nat) : State := { s with fab := { s.fab with lost := s.fab.lost.filter (· != a) } }

/-- A partner's IDENT frame, which comes during training, and the round trip of the timestamps in nanoseconds (R448, R452). -/
def identArrived (p : Nat) (f : HFrame) (trip : Nat) (s : State) : State :=
  let x := s.port p
  if f.type != 0x02 || (s.func (.port p)).state == .off || x.link == 5 then s else
  match f.body with
  | .ident phys logical _ _ boot epoch =>
    let s := s.incI .RX_BYTES p (hfSize f)
    let s := s.putPort p { s.port p with partner := phys, logical := logical, delay := trip / 2, ident := true, epoch := epoch, boot := boot }
    let s := if epoch != s.fab.epoch then s.raise 0x4B04 0xFF (uidPort p) else s
    (s.relive logical).rerouteDead
  | _ => s

/-- IDENT. -/
def execIdent (t port : Nat) (f : HFrame) (roundTrip : Nat) (s : State) : Host.Outcome State Fault Refusal :=
  if port < 23 then .next (identArrived port f roundTrip (s.at t)).flush else .fault .noSuchUnit

/-- A link has gone DOWN (R446, R474): a FENCED port stays FENCED. -/
def linkDown (p : Nat) (s : State) : State :=
  let x := s.port p
  if x.link < 2 || x.link == 5 then s else
  ((s.putPort p { x with link := 0, ident := false, resent := 0 }).raise 0x4B01 0xFF (uidPort p)).rerouteDead

/-- LINK_DOWN. -/
def execLinkDown (t port : Nat) (s : State) : Host.Outcome State Fault Refusal :=
  if port < 23 then .next (linkDown port (s.at t)).flush else .fault .noSuchUnit

/-- An uncorrectable codeword has touched a frame, which is sent again from the replay buffer: `again` says that it is the frame sent again before,
still not acknowledged. The eighth time in a row takes the link DOWN (R446). -/
def frameReplay (p : Nat) (again : Bool) (s : State) : State :=
  let x := s.port p
  if x.link < 2 then s else
  let n := if again then x.resent + 1 else 1
  let s := ((s.putPort p { x with resent := n }).incI .LINK_RETRIES p).incI .FEC_UNCORR p
  if n ≥ 8 then linkDown p s else s

/-- FRAME_REPLAY. -/
def execFrameReplay (t : Nat) (port : Resend) (s : State) : Host.Outcome State Fault Refusal :=
  if port.port < 23 then .next (frameReplay port.port port.again (s.at t)).flush else .fault .noSuchUnit

/-- A lane has failed or is over its error rate, and the port retrains on the lane pair that trains (R447). -/
def laneDegraded (p lanes : Nat) (s : State) : State :=
  let x := s.port p
  if x.link == 5 || x.half || !([3, 12].contains lanes) || (s.func (.port p)).state == .off then s else
  let x' := { x with half := true, lanes := lanes, link := if x.link == 4 then 4 else 3, up := 3 }
  let s := (s.putPort p x').raise 0x4B02 0xFF (uidPort p)
  if x.link < 2 then s.sendOn p s.identFrame else s

/-- FAB_LANE_DEGRADED. -/
def execFabLaneDegraded (t port lanes : Nat) (s : State) : Host.Outcome State Fault Refusal :=
  if port < 23 then .next (laneDegraded port lanes (s.at t)) else .fault .noSuchUnit

/-- A port's function begins OPENING (R449): it trains, its fence and its two-lane run forgotten (R447, Table 11.9). -/
def State.portOpen (s : State) (p : Nat) : State :=
  s.putPort p { s.port p with link := 1, half := false, lanes := 0, ident := false, partner := 0xFFFF, logical := 0xFFFF, delay := 0 }

/-- A port whose link is up and identified may be ON (R449). -/
def State.portReady (s : State) (p : Nat) : Bool := let x := s.port p; (x.live || x.link == 4) && x.ident

/-- A port is OFF: its link goes DOWN, and flows over it take other routes. -/
def State.portOff (s : State) (p : Nat) : State :=
  let x := s.port p
  (s.putPort p { x with link := if x.link == 5 then 5 else 0, lanes := 0, ident := false }).rerouteDead

/-! ### Beat echoes (R471) -/

/-- A boundary counts the ports whose partner has sent no marker since the last one. -/
def State.echoTick (s : State) (p : Nat) : State :=
  let x := s.port p
  if x.marked then s.putPort p { x with marked := false, misses := 0 }
  else
    let s := s.putPort p { x with misses := if x.live then x.misses + 1 else x.misses, marks := 0 }
    if x.live then s.incI .ECHO_MISSES p else s

/-- Every port at a boundary. -/
def State.echoTicks (s : State) : State := (List.range 23).foldl State.echoTick s

/-- ECHO_MISS_LIMIT boundaries have passed without a marker: the port is SILENT (R471, R474). -/
def echoMissing (p : Nat) (s : State) : State :=
  let x := s.port p
  if !x.live || x.misses < s.set0 .ECHO_MISS_LIMIT then s else
  let s := s.putPort p { x with up := x.link, link := 4, marks := 0 }
  ((s.raise 0x4B03 0xFF (uidPort p)).raise 0x4B01 0xFF (uidPort p)).rerouteDead

/-- FAB_ECHO_MISSING. -/
def execFabEchoMissing (t port : Nat) (s : State) : Host.Outcome State Fault Refusal :=
  if port < 23 then .next (echoMissing port (s.at t)).flush else .fault .noSuchUnit

/-! ### The map (R451) and jobs (R455) -/

/-- The two highest bits set of a 16-bit field. -/
def twoHighest (v : Nat) : Nat :=
  sumNat (((((List.range 16).reverse).filter (fun i => v.testBit i)).take 2).map (fun i => 2 ^ i))

/-- A clamped group of a map: PRESENT, SPARE. -/
def clampGroup (present spare : Nat) : Nat := twoHighest (Nat.land present spare)

/-- One field of a written BLOB put to a value, noted as clamped when that changes it. -/
def fixField (num off size w : Nat) (x : Bytes × List Clamp) : Bytes × List Clamp :=
  let v := leAt x.1 off size
  if v == w then x else (overlay x.1 off (leBytes size w), x.2 ++ [(num, v, w)])

/-- A map as written and clamped (R451, Table 11.3), with the clamped fields: number, written, applied. -/
def clampFabric (b : Bytes) : Bytes × List Clamp :=
  let ng := max 1 (min 128 (leAt b 4 1))
  let x := fixField 3 5 3 0 (fixField 2 4 1 ng (b, []))
  (List.range 128).foldl (fun (x : Bytes × List Clamp) g =>
    let o := 8 + 4 * g
    let x := fixField (4 + 2 * g) o 2 (if g < ng then leAt x.1 o 2 else 0) x
    fixField (5 + 2 * g) (o + 2) 2 (clampGroup (leAt x.1 o 2) (leAt x.1 (o + 2) 2)) x) x

/-- A job table as written and clamped to the ring in force (R455, Table 11.4); an empty entry is taken as written. -/
def State.clampJobs (s : State) (b : Bytes) : Bytes × List Clamp :=
  (List.range 64).foldl (fun (x : Bytes × List Clamp) i =>
    let o := 8 * i
    let len := max 1 (min 2048 (leAt x.1 (o + 4) 2))
    let x := if leAt x.1 o 2 == 0 then x
      else fixField (4 * i + 3) (o + 4) 2 (min len s.nslot) (fixField (4 * i + 2) (o + 2) 2 (min (leAt x.1 (o + 2) 2) (s.nslot - 1)) x)
    fixField (4 * i + 4) (o + 6) 2 0 x) (b, [])

/-- A written map waits for its boundary. -/
def State.stageMap (s : State) (b : Bytes) : State := { s with fab := { s.fab with next := some b } }

/-- The staged map takes effect at its boundary (R451). -/
def State.applyMap (s : State) : State :=
  match s.fab.next with
  | none => s
  | some b =>
    let at_ := s.set0 .MAP_APPLY_BEAT
    if at_ != 0 && s.beat.mode != .seeking && s.beat.number < at_ then s else
    ({ s with fab := { s.fab with map := b, next := none, epoch := leAt b 0 4, lost := [], confirm := [] } }).raise 0x1B04 0xFF

/-! ### Reach (R453) -/

/-- PORT_LINK toward a member, 0 for a member with no link. -/
def State.linkToMember (s : State) (m : Nat) : Nat :=
  ((List.range 15).find? (fun p => (s.port p).partner == 16 * groupOf s.physAddr + m)).elim 0 (fun p => (s.port p).link)

/-- Local ports whose link carries routed frames. -/
def State.localLive (s : State) : List Nat := (List.range 15).filter (fun p => (s.port p).live)

/-- Every 10 µs (R453): a REACH frame to every member of the group; `occ` is each global port's occupancy in per cent. -/
def reachSend (occ : List Nat) (s : State) : State :=
  if !s.fabricOn then s else
  let own := ((List.range 8).filter (fun k => (s.port (15 + k)).live && (s.port (15 + k)).partner != 0xFFFF)).map (fun k =>
    (15 + k, groupOf (s.port (15 + k)).partner, min 100 (occ.getD k 0)))
  let links := ((List.range 16).filter (fun m => m != memberOf s.physAddr)).map (fun m => (m, s.linkToMember m))
  let s := { s with fab := { s.fab with own := own } }
  s.localLive.foldl (fun (x : State) p =>
    x.sendOn p { type := 0x03, dst := (x.port p).logical, src := x.logAddr, body := .reach own links }) s

/-- REACH_SEND. -/
def execReachSend (t : Nat) (occ : List Nat) (s : State) : Host.Outcome State Fault Refusal := .next (reachSend occ (s.at t))

/-- A REACH frame from a member (R453). -/
def reachArrived (p : Nat) (f : HFrame) (s : State) : State :=
  let x := s.port p
  if f.type != 0x03 || p ≥ 15 || !x.live || x.partner == 0xFFFF || !s.fabricOn then s else
  match f.body with
  | .reach globals links =>
    let s := s.incI .RX_BYTES p (hfSize f)
    ({ s with fab := { s.fab with reach := mapSet s.fab.reach (memberOf x.partner) ⟨globals, links⟩ } }).rerouteDead
  | _ => s

/-- REACH. -/
def execReach (t port : Nat) (f : HFrame) (s : State) : Host.Outcome State Fault Refusal :=
  if port < 23 then .next (reachArrived port f (s.at t)).flush else .fault .noSuchUnit

/-! ### Floods (R458) -/

/-- The SRC and FLOW of the last 64 floods. -/
def State.noteFlood (s : State) (src flow : Nat) : State :=
  { s with fab := { s.fab with floods := ((src, flow) :: s.fab.floods).take 64 } }

/-- A flood begins here. -/
def State.flood (s : State) (type : Nat) (pay : Bytes) : State :=
  if !s.fabricOn then s else
  let f : HFrame := { type := type, src := s.logAddr, flow := s.fab.nextFlow, flags := 2, payload := pay }
  let s := { s with fab := { s.fab with nextFlow := s.fab.nextFlow + 1 } }
  (s.noteFlood f.src f.flow).floodOn none f

/-- A flood frame arrives: a repeat is dropped, another is forwarded once and handed on. -/
def State.floodIn (s : State) (p ty : Nat) (f : HFrame) (k : State → State) : State :=
  if f.type != ty || !(s.port p).live then s else
  let s := s.incI .RX_BYTES p (hfSize f)
  if s.fab.floods.contains (f.src, f.flow) then s
  else k ((s.noteFlood f.src f.flow).floodOn (some p) { f with hops := f.hops + 1 })

/-! ### Arriving frames (R457–R465) -/

/-- Types of Table 11.6. -/
def frameKnown (t : Nat) : Bool := [1, 2, 3, 4, 5, 0x10, 0x11, 0x12, 0x13, 0x20, 0x21, 0x30, 0x31, 0x40, 0x41, 0x50].contains t

/-- A frame only passes through (R460, R461, R465): it goes to its intermediate group, else to its destination. A frame that has taken its five
hops finds no channel and is dropped. -/
def State.forward (s : State) (f : HFrame) : State :=
  let g := groupOf s.physAddr
  let h := groupOf f.dst
  let v := f.via % 128
  let p := if f.via ≥ 32768 && v != g && h != g then (s.toGroup false v f.flow).map Prod.fst
    else if h == g then s.portTo false f.dst
    else (s.toGroup false h f.flow).map Prod.fst
  match p with
  | none => s
  | some p => if f.hops ≥ 4 then s else s.sendOn p { f with hops := f.hops + 1 }

/-- The key that opens a frame's payload: its slot is the frame's keyway's, for links (R459, Table 12.3). -/
def State.linkKeys (s : State) (f : HFrame) : List Bytes :=
  let k := s.keySlot f.keySlot
  if k.state != 0 && k.kw == f.keyway && k.usage.testBit 1 && sealable f.type then k.openKeys else []

/-- A keyway's clear frames are discarded after step 4 of its removal (Table 12.7). -/
def State.clearRefused (s : State) (kw : Nat) : Bool := (s.kway kw).removal == .free || (s.kway kw).removal == .zero

/-- A frame for this device is opened; none when it is discarded. -/
def State.openHere (s : State) (p : Nat) (f : HFrame) : State × Option HFrame :=
  if hfEnc f then
    match openFrame f (s.linkKeys f) with
    | some b => (s, some { f with payload := b, tag := [] })
    | none => ((s.inc .LINK_AUTH_FAIL).raise 0x4B05 0xFF (uidPort p), none)
  else if s.clearRefused f.keyway then (s.inc .FRAMES_DISCARDED, none)
  else (s, some f)

/-- The next SEQ that a flow to this device awaits (R464). -/
def State.rxNext (s : State) (f : HFrame) : Nat := ((s.fab.rx.find? (fun r => r.src == f.src && r.flow == f.flow)).map (·.next)).getD 0

/-- A frame in SEQ order is accepted, and its flow awaits the next. -/
def State.rxStep (s : State) (f : HFrame) : State :=
  let rest := s.fab.rx.filter (fun r => !(r.src == f.src && r.flow == f.flow))
  { s with fab := { s.fab with rx := rest ++ [⟨f.src, f.flow, f.seq + 1, f.keyway, hfEnc f⟩] } }

/-- A routed frame has arrived: an unknown TYPE is counted, a frame for another device forwarded, one for this device opened and handed on. -/
def State.received (s : State) (p ty : Nat) (f : HFrame) (k : State → HFrame → State) : State :=
  if !(s.port p).live then s
  else if !frameKnown f.type then (s.incI .RX_BYTES p (hfSize f)).inc .FRAMES_DISCARDED
  else if f.type != ty then s
  else
    let s := s.incI .RX_BYTES p (hfSize f)
    if !s.fabricOn then s
    else if f.dst != s.logAddr then s.forward f
    else match s.openHere p f with
      | (s, none) => s
      | (s, some g) => k s { g with flags := f.flags }

/-- A frame of a flow from another device: accepted only in SEQ order (R464). -/
def State.inOrder (s : State) (f : HFrame) (k : State → State) : State :=
  if s.rxNext f == f.seq then k (s.rxStep f) else s

/-- The own flow that a reply belongs to: by FLOW and the replier's address. -/
def State.replyFlow (s : State) (f : HFrame) : Option Flow := s.fab.flows.find? (fun x => x.num == f.flow && x.dst == f.src)

/-- A keyway takes data from the fabric: it is ON and not being removed (Table 12.7). -/
def State.kwServes (s : State) (kw : Nat) : Bool := decide (kw < 64) && s.kwOn kw && !s.kwClosing kw

end Sys2Proof.Machine
end

