-- ==== Sys2Proof/Machine/Range.lean ====
section
/-! DEFINITION. Machine/Range.lean: the range check of a written value, field by field (spec/03 R114–R118). -/
namespace Sys2Proof.Machine
open Sys2Proof

/-! ### Scalars -/

/-- How far apart two integers are. -/
def gap (a b : Int) : Nat := (a - b).natAbs

/-- The nearer of two legal values to a value written; the lower of two equally near (R115). -/
def nearer (v best x : Int) : Int := if gap v x < gap v best || (gap v x == gap v best && decide (x < best)) then x else best

/-- The nearest of some legal values. -/
def nearestOf (v : Int) (l : List Int) : Int := l.foldl (nearer v) (l.headD v)

/-- The legal value nearest to one written, among parts in ascending order. -/
def nearestSeg (l : List (Int × Int)) (v : Int) : Int :=
  if l.any (fun p => decide (p.1 ≤ v) && decide (v ≤ p.2)) then v else nearestOf v (l.flatMap (fun p => [p.1, p.2]))

/-- The nearest multiple of a step between two limits. -/
def nearestMult (lo hi step v : Nat) : Nat :=
  let top := hi / step * step
  let low := (lo + step - 1) / step * step
  if v ≤ low then low else if v ≥ top then top
  else
    let d := v / step * step
    if 2 * (v - d) > step then d + step else d

/-- The powers of two between two limits, ascending. -/
def powersIn (lo hi : Nat) : List Int := ((List.range 64).filter (fun k => decide (lo ≤ 2 ^ k) && decide (2 ^ k ≤ hi))).map (fun k => ((2 ^ k : Nat) : Int))

/-- An FP32 pattern within two positive limits: an infinity takes the nearest legal value, a NaN the default when that is legal, else the
lowest (R115). -/
def nearestF32 (lo hi dflt v : Nat) : Nat :=
  let sign := v / 2 ^ 31 % 2
  let mag := v % 2 ^ 31
  if mag > 0x7F800000 then (if lo ≤ dflt && dflt ≤ hi then dflt else lo)
  else if sign == 1 || mag < lo then lo
  else if mag > hi then hi
  else v

/-- Width of a signed scalar type in bits; 0 for the others. -/
def signedBits : ObjTy → Nat
  | .i16 => 16 | .i32 => 32 | _ => 0

/-- The legal value nearest to a scalar written, both as patterns of the type (R115). -/
def nearestScalar (sp : ObjSpec) (dflt v : Nat) : Nat :=
  match sp.range with
  | .any => v
  | .segs l =>
    let w := signedBits sp.ty
    if w == 0 then (nearestSeg l v).toNat else unsigned w (nearestSeg l (signed w v))
  | .mult lo hi step => nearestMult lo hi step v
  | .pow2 lo hi => (nearestOf v (powersIn lo hi)).toNat
  | .f32 lo hi => nearestF32 lo hi dflt v

/-- Bits of a UNIT_ID that are reserved: [9:0], PHYS but where spec/02 R83 gives it a meaning, and [21:0] of a type with no die position
(spec/02 R75). -/
def uidReserved (phys : Bool) (v : Nat) : Nat :=
  let t := uidType v
  if t == 0 || (8 ≤ t && t ≤ 11) then v % 2 ^ 22
  else v % 2 ^ 10 + (if phys && t == 3 then 0 else bits v 10 1 * 2 ^ 10)

/-- Reserved bits that a scalar was written with (R116). -/
def reservedOf (o : Obj) (v : Nat) : Nat :=
  match o with
  | .HIST_QUERY => bits v 4 6 * 16
  | .UNIT_QUERY => uidReserved true v
  | .LBIST_RUN => uidReserved true v
  | .ENG_QUERY => uidReserved false v
  | .ENG_RETIRE_REQ => uidReserved false v
  | .CAL_RUN_REQ => uidReserved false v
  | .ARRAY_TEST_RUN => uidReserved false v
  | _ => 0

/-- A scalar as applied. -/
def applyScalar (o : Obj) (dflt v : Nat) : Nat := nearestScalar o.spec dflt (v - reservedOf o v)

/-! ### BLOBs -/

/-- Legal values of a field of a BLOB: parts of an unsigned field; a signed field between two limits; FP32 between two patterns, with its
default; FP32 that is finite, else +0.0 (spec/06 R249); a field whose bits above the lowest `n` are reserved (R116). -/
inductive FieldRange where
  | nat (l : List (Nat × Nat)) | int (bits : Nat) (lo hi : Int) | f32 (lo hi dflt : Nat) | finite | low (n : Nat)
  deriving DecidableEq, Repr

/-- A field of a BLOB: its number (R118), offset, size, range. -/
structure BlobField where
  num  : Nat
  off  : Nat
  size : Nat
  rng  : FieldRange
  deriving DecidableEq, Repr

/-- The value a field takes. -/
def FieldRange.apply : FieldRange → Nat → Nat
  | .nat l, v => nearest l v
  | .int w lo hi, v => unsigned w (nearestSeg [(lo, hi)] (signed w v))
  | .f32 lo hi d, v => nearestF32 lo hi d v
  | .low n, v => v % 2 ^ n
  | .finite, v => if v % 2 ^ 31 ≥ 0x7F800000 then 0 else v

/-- Fields of a BLOB, each on its own (R114). -/
def fixFields (b : Bytes) (l : List BlobField) : Bytes × List Clamp :=
  l.foldl (fun x f => fixField f.num f.off f.size (f.rng.apply (leAt x.1 f.off f.size)) x) (b, [])

/-- `n` elements of one size and range, numbered from 1. -/
def arrayFields (n size : Nat) (r : FieldRange) : List BlobField := (List.range n).map (fun i => ⟨i + 1, size * i, size, r⟩)

/-- An entry of ADAPTER_TABLE (spec/06 Table 6.4): an empty one has only its reserved areas checked. -/
def adapterFields (empty : Bool) (i : Nat) : List BlobField :=
  let o := 64 * i
  let n := 13 * i
  let res := [⟨n + 6, o + 7, 1, .nat [(0, 0)]⟩, ⟨n + 13, o + 48, 16, .nat [(0, 0)]⟩]
  if empty then res else
    [⟨n + 2, o + 2, 1, .nat [(0, 15)]⟩, ⟨n + 3, o + 3, 1, .nat [(1, 64)]⟩, ⟨n + 5, o + 6, 1, .nat [(3, 3)]⟩, ⟨n + 7, o + 8, 4, .finite⟩] ++ res

/-- An ADAPTER_TABLE as written and clamped (spec/06 R249). -/
def clampAdapters (b : Bytes) : Bytes × List Clamp :=
  (List.range 256).foldl (fun (x : Bytes × List Clamp) i =>
    let y := fixFields x.1 (adapterFields (leAt x.1 (64 * i) 2 == 0) i)
    (y.1, x.2 ++ y.2)) (b, [])

/-- Reserved areas of a signed record (spec/12 R524) and of an ADAPTER_LOAD (Table 8.12). -/
def resFields (l : List (Nat × Nat × Nat)) : List BlobField := l.map (fun f => ⟨f.1, f.2.1, f.2.2, .nat [(0, 0)]⟩)

/-- The reserved fields of a manifest's headers (spec/08 Table 8.2, R309): FLAGS [15:2] and bytes 60–79 of each, of the 24 fields of a header the 11th
and the 23rd. -/
def manifestFields (n : Nat) : List BlobField :=
  (List.range n).flatMap (fun i => [⟨24 * i + 11, 128 * i + 26, 2, .low 2⟩, ⟨24 * i + 23, 128 * i + 60, 20, .nat [(0, 0)]⟩])

/-- A BLOB as written and clamped: every field of its object's layout (R114–R118). -/
def State.clampBlob (s : State) (o : Obj) (b : Bytes) : Bytes × List Clamp :=
  match o with
  | .SENSE_AVG_LOG2 => fixFields b (arrayFields 40 1 (.nat [(1, 8)]))
  | .SENSE_SHIFT => fixFields b (arrayFields 40 1 (.nat [(0, 8)]))
  | .SYSCAL_COEF => fixFields b ((List.range 9).flatMap (fun i =>
      [⟨2 * i + 1, 8 * i, 4, .int 32 (-24000) 24000⟩, ⟨2 * i + 2, 8 * i + 4, 4, .f32 0x3F733333 0x3F866666 0x3F800000⟩]))
  | .TH_PULLUP => fixFields b (arrayFields 8 4 (.nat [(1000, 100000)]))
  | .TH_NOMINAL => fixFields b (arrayFields 8 4 (.nat [(1000, 1000000)]))
  | .TH_BETA => fixFields b (arrayFields 8 2 (.nat [(2000, 5000)]))
  | .TH_LIMIT => fixFields b (arrayFields 8 1 (.nat [(0, 0), (40, 125)]))
  | .IMON_SCALE => fixFields b (arrayFields 24 4 (.f32 0x41200000 0x447A0000 0x42FA0000))
  | .ADAPTER_TABLE => clampAdapters b
  | .FABRIC_MAP => clampFabric b
  | .JOB_TABLE => s.clampJobs b
  | .ATTN_MAP => clampMap b
  | .KEY_INSTALL => clampKey keyFields b
  | .MGMT_KEY_INSTALL => clampKey mgmtKeyFields b
  | .ADAPTER_LOAD => fixFields b (resFields [(2, 2, 6), (5, 20, 4)])
  | .LC_REQUEST => fixFields b (resFields [(2, 1, 3)])
  | .DEBUG_UNLOCK => fixFields b (resFields [(2, 1, 3)])
  | .SLOT_MANIFEST => fixFields b (manifestFields (b.length / 128))
  | .BIST_AUTH => fixFields b (resFields [(2, 1, 3)])
  | _ => (b, [])

/-- A value range checked (R114–R116): the value as applied and its clamped fields, field 0 for a scalar. -/
def State.rangeCheck (s : State) (k : OKey) (v : OVal) : OVal × List Clamp :=
  match v with
  | .num n =>
    let a := applyScalar k.obj (ovNat (dfltOf s.part k)) n
    (.num a, if a == n then [] else [(0, n, a)])
  | .blob b =>
    let r := s.clampBlob k.obj b
    (.blob r.1, r.2)

/-- A clamped value as a clamp record holds it (Table 3.8): a signed field is sign-extended. -/
def extended (o : Obj) (field v : Nat) : Nat :=
  let w := if field == 0 then signedBits o.spec.ty else if o == .SYSCAL_COEF && field % 2 == 1 then 32 else 0
  if w == 0 then v % 2 ^ 64 else unsigned 64 (signed w v)

end Sys2Proof.Machine
end

