-- ==== Sys2Proof/Machine/Funcs.lean ====
section
/-! DEFINITION. Machine/Funcs.lean: how the functions of the dictionary move through OFF, OPENING, ON and CLOSING (spec/03 R123–R125,
R628–R630, spec/08 R331, spec/11 R449, spec/12 R494, R496, R519). -/
namespace Sys2Proof.Machine
open Sys2Proof

/-- HASP and STEW images run (spec/15 R608, R615). -/
def State.firmwareUp (s : State) : Bool := s.boot.ready && s.boot.limited == 0

/-- A function's owner has started (R628, spec/15 Table 15.4). -/
def State.ownerUp (s : State) : Func → Bool
  | .port _ => decide (3 ≤ s.boot.state) && decide (s.boot.state ≤ 6) && s.boot.limited == 0
  | _ => s.firmwareUp

/-- A keyway stays OFF while PERST# is low or the host link is down (spec/15 R607). -/
def State.funcHeld (s : State) : Func → Bool
  | .keyway _ => s.boot.perst || !s.boot.link
  | _ => false

/-- Settings that wait for a port's OPENING take effect (spec/11 R487). -/
def State.takePort (s : State) (p : Nat) : State :=
  let k : OKey := ⟨.PORT_MEDIA, p, 0⟩
  match s.waiting.reverse.find? (fun x => x.1 == k) with
  | none => s
  | some x => { s.putSetting k x.2 with waiting := s.waiting.filter (fun y => y.1 != k) }

/-- OPENING begins. -/
def State.openFunc (s : State) (f : Func) : State :=
  let s := s.funcTo f .opening
  match f with
  | .slot _ => s
  | .port p => (s.takePort p).portOpen p
  | .keyway n => s.kwOpen n

/-- CLOSING begins: a serving slot drains (spec/08 R331), a keyway is removed (spec/12 R519). -/
def State.closeFunc (s : State) (f : Func) : State :=
  let s := s.funcTo f .closing
  match f with
  | .slot n => if (s.slot n).state == .serving || (s.slot n).state == .degraded then s.slotTo n .draining else s
  | .port _ => s
  | .keyway n => s.kwClose n

/-- The opening step in progress has ended (R629): a port's training attempt; for every other function the beat. -/
def State.openStepEnded (s : State) : Func → Bool
  | .port p => (s.port p).link != 1
  | _ => true

/-- A transition that a write or a latched enable has asked for begins (Table 3.13, R124). -/
def State.funcMove (s : State) (f : Func) : State :=
  let g := s.func f
  match g.state with
  | .off =>
    if s.funcHeld f || !s.ownerUp f || !s.boot.ward then s
    else if g.want.getD g.latched then ((s.putFunc f { g with want := none, latched := false })).openFunc f
    else if g.want.isSome || g.latched then s.putFunc f { g with want := none, latched := false }
    else s
  | .opening =>
    if g.want == some true then s.putFunc f { g with want := none }
    else if g.want == some false && s.openStepEnded f then s.closeFunc f
    else s
  | .on =>
    if g.want == some false then s.closeFunc f
    else if g.want.isSome then s.putFunc f { g with want := none }
    else s
  | .closing => s

/-- A function at a boundary: it is counted, moves as asked, and an OPENING may fail or end there (R330, R331, spec/12 R496, R516). -/
def State.funcBoundary (s : State) (f : Func) : State :=
  let g := s.func f
  let s := if s.funcCounts f then s.putFunc f { g with beats := g.beats + 1 } else s
  let s := s.funcMove f
  if (s.func f).state != .opening || s.funcBeats f == 0 then s else
  match f with
  | .slot n => if (s.slot n).state == .empty || (s.slot n).state == .fault then s.funcFail f 0x8801 else s
  | .port _ => s
  | .keyway n => if s.kwReady n then s.funcTo f .on else s

/-- Every function that has a state. -/
def State.funcsBoundary (s : State) : State := (s.funcs.map Prod.fst).foldl State.funcBoundary s

/-- In SEEKING a transition that a write has asked for takes place without a boundary (R105). -/
def State.funcsSeek (s : State) : State := (s.funcs.map Prod.fst).foldl State.funcMove s

/-- A write of FUNC_ENABLE (Table 3.13): whether it is answered PENDING, and the function. -/
def State.funcWrite (s : State) (f : Func) (v : Bool) : State × Bool :=
  let g := s.func f
  match g.state with
  | .closing => (s.putFunc f { g with latched := v }, v)
  | _ => (s.putFunc f { g with want := some v }, false)

/-! ### Commands -/

/-- OPENING completes: a slot READY over a boundary, a port up and identified, a keyway whose checks and channels stand. -/
def openComplete (f : Func) (s : State) : State :=
  if (s.func f).state != .opening then s else
  let done : Bool := match f with
    | .slot n => s.slotOpened n
    | .port p => s.portReady p
    | .keyway n => s.kwReady n && s.beat.mode == .seeking
  if done then s.funcTo f .on else s

/-- FUNC_OPEN_COMPLETE. -/
def execFuncOpenComplete (t : Nat) (f : Func) (s : State) : Host.Outcome State Fault Refusal :=
  if funcExists f then .next (openComplete f (s.at t)) else .fault .noSuchUnit

/-- FUNC_OPEN_LIMIT boundaries have passed in OPENING (R630). -/
def openLimitPassed (f : Func) (s : State) : State :=
  if (s.func f).state != .opening || s.funcBeats f < openLimit f then s else
  let s := s.funcFail f 0
  match f with
  | .slot _ => s
  | .port p => s.portOff p
  | .keyway n => s.kwOpenFailed n

/-- FUNC_OPEN_LIMIT. -/
def execFuncOpenLimit (t : Nat) (f : Func) (s : State) : Host.Outcome State Fault Refusal :=
  if funcExists f then .next (openLimitPassed f (s.at t)).flush else .fault .noSuchUnit

/-- Versions of a slot that requests are pinned to. -/
def State.slotPinned (s : State) (n : Nat) : Bool := s.versions.any (fun p => p.1 == n && s.pinned n p.2.2.number)

/-- A port has frames queued (spec/11 R449). -/
def State.portBusy (s : State) (p : Nat) : Bool := s.fab.flows.any (fun f => f.port == p && decide (f.sent < f.frames.length))

/-- A drained slot is READY again. -/
def State.drainedSlot (s : State) (n : Nat) : State := if (s.slot n).state == .draining then s.slotTo n .ready else s

/-- CLOSING completes: a slot drained, a port with nothing queued; a keyway's removal goes on by its own steps (spec/12 Table 12.6), and in SEEKING
by this command. -/
def closeComplete (f : Func) (s : State) : State :=
  if (s.func f).state != .closing then s else
  match f with
  | .slot n => if s.slotPinned n then s else (s.drainedSlot n).funcTo f .off
  | .port p => if s.portBusy p then s else (s.funcTo f .off).portOff p
  | .keyway n => s.removalSeek n

/-- FUNC_CLOSE_COMPLETE. -/
def execFuncCloseComplete (t : Nat) (f : Func) (s : State) : Host.Outcome State Fault Refusal :=
  if funcExists f then .next (closeComplete f (s.at t)).flush else .fault .noSuchUnit

/-- FUNC_CLOSE_LIMIT boundaries have passed in CLOSING (R630): a slot's pinned requests end as cancelled (spec/08 R331). -/
def closeLimitPassed (f : Func) (s : State) : State :=
  if (s.func f).state != .closing || s.funcBeats f < closeLimit f then s else
  match f with
  | .slot n =>
    let old := (s.versions.filter (fun p => p.1 == n)).map (fun p => p.2.2.number)
    ((s.endSoon 4 (fun r => old.any (r.pinned n))).funcForce f).drainedSlot n
  | .port p => (s.funcForce f).portOff p
  | .keyway n => s.kwForce n

/-- FUNC_CLOSE_LIMIT. -/
def execFuncCloseLimit (t : Nat) (f : Func) (s : State) : Host.Outcome State Fault Refusal :=
  if funcExists f then .next (closeLimitPassed f (s.at t)).flush else .fault .noSuchUnit

/-- An enabled function's owner has started and the settings are loaded (R628). -/
def powerupStart (f : Func) (s : State) : State :=
  if !s.ownerUp f || !s.boot.ward || s.boot.started.contains f then s else
  let s : State := { s with boot := { s.boot with started := s.boot.started ++ [f] } }
  if (s.func f).state != .off || !s.enabled f then s else
  let s := s.putFunc f { s.func f with want := some true }
  if s.beat.mode == .seeking then s.funcMove f else s

/-- FUNC_POWERUP_START. -/
def execFuncPowerupStart (t : Nat) (f : Func) (s : State) : Host.Outcome State Fault Refusal :=
  if funcExists f then .next (powerupStart f (s.at t)) else .fault .noSuchUnit

/-- A training attempt ends without the link (R629): the port trains again, unless a write of 0 waits for the attempt's end. -/
def trainingFailed (p : Nat) (s : State) : State :=
  let x := s.port p
  if x.link == 1 && (s.func (.port p)).want == some false then s.putPort p { x with link := 0 } else s

/-- LINK_TRAINING_FAILED. -/
def execLinkTrainingFailed (t port : Nat) (s : State) : Host.Outcome State Fault Refusal :=
  if port < 23 then .next (trainingFailed port (s.at t)) else .fault .noSuchUnit

end Sys2Proof.Machine
end

