-- ==== Sys2Proof/Machine/Sense.lean ====
section
/-! DEFINITION. Machine/Sense.lean: the sense block: readings, the cross-check, system calibration, the temperature sources and
their emergencies (spec/13 R540–R557). -/
namespace Sys2Proof.Machine
open Sys2Proof

/-! ### Temperature sources (Table 13.8); a source is named by its SOURCE code (Table 13.9) -/

/-- A source's onset and its emergency level in 1/16 °C; none for a channel that is no source. -/
def State.sourceLevels (s : State) (c : Nat) : Option (Int × Option Int) :=
  let on := s.set0 .THERM_ONSET
  let mo := s.set0 .MEM_ONSET
  if c ≥ 0x40 then some (16 * (mo : Int), some (16 * (max (s.set0 .MEM_EMERG) (mo + 1) : Nat)))
  else if c ≥ 22 then (match s.chanLimit c with
    | some l => some (l, none)
    | none => none)
  else some (16 * (on : Int), some (16 * (max (s.set0 .THERM_EMERG) (on + 1) : Nat)))

/-- The sources in order of their codes. -/
def sourceCodes : List Nat := (List.range 17).map (· + 1) ++ (List.range 8).map (· + 22) ++ (List.range 8).map (· + 0x40)

/-- A source's latest value (R554): at its emergency level while SENSE_STATE is REF_SUSPECT (R548), a FAULT reading at its limit (R545); none
before its first reading. -/
def State.sourceValue (s : State) (c : Nat) : Option Int :=
  match s.sourceLevels c with
  | none => none
  | some (on, em) =>
    match em with
    | some e => if s.sense.mode == 4 then some e else
        if c ≥ 0x40 then mapFind s.sense.memTemps (c - 0x40) else (mapFind s.sense.readings c).map Reading.value
    | none => (mapFind s.sense.readings c).map (fun r => if r.fault then on else r.value)

/-- The value minus the onset. -/
def State.overOnset (s : State) (c : Nat) : Option Int :=
  match s.sourceLevels c, s.sourceValue c with
  | some (on, _), some v => some (v - on)
  | _, _ => none

/-- HOTTEST_SOURCE (R554): the largest value minus onset, on a tie the lower code; 0xFF when no source has a reading. -/
def State.hottest (s : State) : Nat :=
  (sourceCodes.foldl (fun (a : Option (Nat × Int)) c =>
    match s.overOnset c, a with
    | some d, none => some (c, d)
    | some d, some (k, m) => if m < d then some (c, d) else some (k, m)
    | none, a => a) none).elim 0xFF Prod.fst

/-- HOT (R554). -/
def State.hot (s : State) : Bool := sourceCodes.any (fun c => match s.overOnset c with
  | some d => decide (0 ≤ d)
  | none => false)

/-- COOL (R554). -/
def State.cool (s : State) : Bool :=
  let h : Int := 16 * (s.set0 .THERM_HYST : Int)
  sourceCodes.all (fun c => match s.overOnset c with
    | some d => decide (d ≤ -h)
    | none => true)

/-- A source has reached its emergency level (R557): reported and counted once per crossing, the guard limit falls at once, and the next
boundary enforces the floor. -/
def State.emergencyAt (s : State) (c : Nat) (cause : Nat) (reading : Int) : State :=
  let p := { s.pwr with emerg := some (if s.pwr.emerg = some 5 then 5 else cause) }
  (({ s with pwr := p }).inc .EMERG_COUNT).raise 0x8D01 0xFE (unitOfSource c) c (unsigned 64 reading)

/-- Compare every source with its emergency level (R557). While sensing is untrusted the readings decide nothing. -/
def State.emergencyCheck (s : State) : State :=
  if s.sense.mode == 4 then s else
  let above := sourceCodes.filter (fun c => match s.sourceLevels c, s.sourceValue c with
    | some (_, some e), some v => decide (e ≤ v)
    | _, _ => false)
  let fresh := above.filter (fun c => !s.pwr.crossed.contains c)
  fresh.foldl (fun (x : State) c => x.emergencyAt c 4 ((s.sourceValue c).getD 0)) { s with pwr := { s.pwr with crossed := above } }

/-! ### Readings (R540–R546) -/

/-- Whether system calibration covers a channel (R550). -/
def hasSyscal (c : Nat) : Bool := (22 ≤ c && c ≤ 29) || c == 39

/-- The place of a channel in SYSCAL_COEF. -/
def coefPlace (c : Nat) : Nat := if c == 39 then 8 else c - 22

/-- OFFSET in µV and GAIN of a channel (R544). -/
def State.coef (s : State) (c : Nat) : Int × F32 :=
  let o := 8 * coefPlace c
  (signed 32 (s.setField .SYSCAL_COEF o 4), BitVec.ofNat 32 (s.setField .SYSCAL_COEF (o + 4) 4))

/-- The mean code × 256 of a RAW value (R542). -/
def State.meanCode (s : State) (c raw : Nat) : Nat :=
  raw * 2 ^ s.setByte .SENSE_SHIFT c * 256 / 2 ^ s.setByte .SENSE_AVG_LOG2 c

/-- The pin voltage in µV as a fraction (R544): the coefficients of system calibration applied where the channel has them. -/
def State.pinVolt (s : State) (c raw : Nat) : Int × Nat :=
  let n : Int := (s.meanCode c raw : Int) * 2400000
  let d : Nat := 65536 * 256
  if hasSyscal c then
    let k := s.coef c
    let g := F32.toRatio k.2
    ((n - k.1 * d) * g.1, d * 2 ^ g.2)
  else (n, d)

/-- A fraction of µV as FP32 volts-free ratio of another. -/
def ratioF32 (n d : Int) : F32 := F32.div (F32.ofInt n) (F32.ofInt d)

/-- A thermistor's temperature in 1/16 °C from the ratio v ÷ (1.200 V − v) (R544), in FP32 (log 39). -/
def State.thermistor (s : State) (n : Nat) (ratio : F32) : Int :=
  let pull := F32.ofInt (s.setField .TH_PULLUP (4 * n) 4)
  let nom := F32.ofInt (s.setField .TH_NOMINAL (4 * n) 4)
  let beta := F32.ofInt (s.setField .TH_BETA (2 * n) 2)
  let l := Config.lnF (F32.div (F32.mul pull ratio) nom)
  let inv := F32.add (ratioF32 100 29815) (F32.div l beta)
  F32.toIntRne (F32.mul (F32.sub (F32.div F32.one inv) (ratioF32 27315 100)) (F32.ofInt 16))

/-- A pin's voltage lies outside 0.012–1.188 V (R545). -/
def pinOut (v : Int × Nat) : Bool := decide (v.1 > 1188000 * (v.2 : Int)) || decide (v.1 < 12000 * (v.2 : Int))

/-- R544's formula gives a temperature: the pin lies above ground and below TH_BIAS. -/
def pinTells (v : Int × Nat) : Bool := decide (0 < v.1) && decide (v.1 < 1200000 * (v.2 : Int))

/-- A reading's value (R544), free where a pin lies outside the formula (log 39). The second result says that a pin is open or shorted (R545). -/
def State.chanValue (s : State) (c raw : Nat) : Int × Bool :=
  let v := s.pinVolt c raw
  if 1 ≤ c && c ≤ 17 then (Config.diodeTemp c (s.meanCode c raw), false)
  else if 22 ≤ c && c ≤ 29 then
    if pinTells v then (s.thermistor (c - 22) (ratioF32 v.1 (1200000 * (v.2 : Int) - v.1)), pinOut v)
    else (signed 32 (s.freeBelow (2 ^ 32)), pinOut v)
  else if c == 39 then
    let r := F32.toRatio (BitVec.ofNat 32 (s.set0 .VIN_RATIO))
    (divRne (v.1 * r.1) (v.2 * 2 ^ r.2), false)
  else (divRne v.1 v.2, false)

/-- The converters that may convert a channel now (R541, Table 13.5); in DISAGREE SA and SB take turns on each temperature channel. -/
def State.converts (s : State) (conv c : Nat) : Bool :=
  if s.sense.mode == 2 then conv == 0
  else if s.sense.mode == 3 then conv == 1
  else if c == 0 then true
  else if s.sense.mode == 1 && isTempChan c then (mapFind s.sense.readings c).all (fun r => r.conv != conv)
  else s.convOf c == conv

/-- A channel that a system calibration holds (R552). -/
def State.syscalHolds (s : State) (c : Nat) : Bool := s.sense.cal.started.isSome && s.set0 .SYSCAL_CHAN == c

/-- A converter publishes nothing: it self-calibrates, or a capture of system calibration runs on it (R297, R550). -/
def State.convBusy (s : State) (conv : Nat) : Bool :=
  s.sense.selfBusy == some conv || (s.sense.cal.capture.isSome && s.convOf (s.set0 .SYSCAL_CHAN) == conv)

/-- When a channel is due, on the notch clock (R543): its interval after its last reading, at once before its first (log 66). -/
def State.dueAt (s : State) (c : Nat) : Nat :=
  match mapFind s.sense.readings c with
  | some r => r.at_ + (if s.fastNow c then 16 else 256) * 65536
  | none => 0

/-- A reading later than its channel's due time (R543). -/
def State.readingLate (s : State) (c : Nat) : Bool := (mapFind s.sense.readings c).isSome && decide (s.dueAt c < s.notchClock)

/-- A converter may take a channel: the map gives it the channel, and no system calibration holds it. -/
def State.mayConvert (s : State) (conv c : Nat) : Bool := s.converts conv c && !s.syscalHolds c

/-- The channel a converter chooses after channel `last` (R543): the one due earliest, the lower on a tie (log 66); with none due the next in
ascending order. -/
def State.chooseNext (s : State) (conv last : Nat) : Option Nat :=
  let l := (List.range 40).filter (s.mayConvert conv)
  match l.filter (fun c => s.dueAt c ≤ s.notchClock) with
  | c :: r => some (r.foldl (fun a x => if s.dueAt x < s.dueAt a then x else a) c)
  | [] => match l.find? (fun c => last < c) with
    | some c => some c
    | none => l.head?

/-- A converter has chosen another channel, which it may still take (R543). -/
def State.otherNext (s : State) (conv c : Nat) : Bool :=
  match mapFind s.sense.next conv with
  | some n => n != c && s.mayConvert conv n
  | none => false

/-- A converter chooses its next channel. -/
def State.setNext (s : State) (conv last : Nat) : State :=
  let m := mapDel s.sense.next conv
  { s with sense := { s.sense with next := (s.chooseNext conv last).elim m (mapSet m conv) } }

/-- The record that a reading publishes (R544–R548). -/
def State.newReading (s : State) (c conv raw : Nat) (v : Int × Bool) : Reading :=
  let m := s.sense.mode
  let other := mapFind s.sense.latest (64 * (1 - conv) + c)
  let both := m == 1 && isTempChan c
  let value := if both then max v.1 (other.getD v.1) else v.1
  let fast := match s.chanLimit c with
    | some l => decide (l - 128 ≤ value)
    | none => false
  let k := s.coef c
  { value, raw := raw % 2 ^ 24, late := s.readingLate c, fast
    xchk := both || m ≥ 2
    fault := v.2 || m == 4
    syscal := hasSyscal c && (s.sense.cal.applied.contains c || k.1 != 0 || k.2 != F32.one)
    notch := s.notchTime, conv, at_ := s.notchClock }

/-- A converter publishes a reading of a channel (R542). -/
def senseReading (c conv raw : Nat) (s : State) : State :=
  if s.convBusy conv || !s.mayConvert conv c || s.otherNext conv c then s else
  let v := s.chanValue c (raw % 2 ^ 24)
  let r := s.newReading c conv raw v
  let was := s.sense.pinFault.contains c
  let s := if 22 ≤ c && c ≤ 29 && !pinTells (s.pinVolt c (raw % 2 ^ 24)) then s.drawn else s
  let s := if r.late then s.inc .SENSE_LATE_COUNT else s
  let die := 1 ≤ c && c ≤ 17
  let s := { s with sense := { s.sense with
      readings := mapSet s.sense.readings c r
      latest := mapSet s.sense.latest (64 * conv + c) v.1
      tjMax := if die then some (max r.value (s.sense.tjMax.getD r.value)) else s.sense.tjMax
      pinFault := s.sense.pinFault.filter (· != c) ++ (if v.2 then [c] else []) } }
  let s := if v.2 && !was then s.raise 0x4D04 0xFF (uidHub 0) else s
  s.emergencyCheck.setNext conv c

/-- SENSE_READING: converter 0 is SA, 1 is SB. -/
def execSenseReading (t chan conv raw : Nat) (s : State) : Host.Outcome State Fault Refusal :=
  if chan < 40 ∧ conv < 2 then .next (senseReading chan conv raw (s.at t)) else .fault .noSuchUnit

/-- A stack's sensor is read, in °C (R553). -/
def memTemp (stack : Nat) (temp : Int) (s : State) : State :=
  ({ s with sense := { s.sense with memTemps := mapSet s.sense.memTemps stack (16 * temp) } }).emergencyCheck

/-- MEM_TEMP_READING. -/
def execMemTempReading (t stack : Nat) (temp : Int) (s : State) : Host.Outcome State Fault Refusal :=
  if stack < 8 then .next (memTemp stack temp (s.at t)) else .fault .noSuchUnit

/-! ### Cross-check (R547–R549) -/

/-- The state that a failing check indicates (Table 13.5). -/
def xchkState (a b : Int) : Nat :=
  let w (v : Int) : Bool := decide ((v - 600000).natAbs ≤ 6000)
  match w a, w b with
  | true, true => 1 | true, false => 2 | false, true => 3 | false, false => 4

/-- Enter a state of Table 13.5: its event, the converter that leaves service, and what untrusted sensing brings. -/
def State.enterSense (s : State) (m : Nat) : State :=
  let s := s.inc .XCHK_FAIL_COUNT
  let want := if m == 2 then [1] else if m == 3 then [0] else []
  let s := { s with sense := { s.sense with mode := m
                                            selfWant := s.sense.selfWant ++ want.filter (fun c => !s.sense.selfWant.contains c) } }
  match m with
  | 1 => s.raise 0x4D03 0xFF (uidHub 0)
  | 4 =>
    (s.raise 0x8D04 0xFF (uidHub 0)).emergencyAt 0xFF 5 0
  | _ => s.raise 0x8D02 0xFF (uidHub 0)

/-- A cross-check is judged (R547); it is suspended while a converter self-calibrates. -/
def xchk (a b : Int) (s : State) : State :=
  if s.sense.selfBusy.isSome then s else
  let tol := s.set0 .XCHK_TOL
  let pass := xchkState a b == 1 && decide ((a - b).natAbs ≤ tol)
  let s := { s with sense := { s.sense with xDiff := a - b
                                            xFails := if pass then 0 else s.sense.xFails + 1
                                            xPasses := if pass then s.sense.xPasses + 1 else 0 } }
  if pass then
    if s.sense.mode != 0 && s.sense.xPasses ≥ 16 then { s with sense := { s.sense with mode := 0 } } else s
  else if s.sense.xFails ≥ 3 && s.sense.mode != xchkState a b then s.enterSense (xchkState a b)
  else s

/-- XCHK: the two values in µV. -/
def execXchk (t : Nat) (a b : Int) (s : State) : Host.Outcome State Fault Refusal := .next (xchk a b (s.at t))

/-! ### System calibration (R550–R552) -/

/-- Replace the system calibration's state. -/
def State.putCal (s : State) (c : SysCal) : State := { s with sense := { s.sense with cal := c } }

/-- Whether a SYSCAL_CMD is in sequence (Table 13.6, Table 13.7). -/
def State.syscalInSeq (s : State) (cmd : Nat) : Bool :=
  let c := s.sense.cal
  c.capture.isNone && (match cmd with
    | 1 => c.started.isNone || c.status == 4
    | 2 => c.started.isSome && c.status == 1
    | 3 => c.started.isSome && c.status == 2
    | 4 => c.started.isSome
    | _ => false)

/-- End a procedure with a status; the coefficients stay as they were. -/
def State.syscalStop (s : State) (status : Nat) : State :=
  s.putCal { s.sense.cal with status, started := none, capture := none }

/-- SYSCAL_CMD takes effect (Table 13.6): 1 and 2 begin a capture unless the channel is in its fast band, 3 applies, 4 discards. -/
def State.syscalCmd (s : State) (cmd : Nat) : State :=
  let ch := s.set0 .SYSCAL_CHAN
  let c := s.sense.cal
  if !s.syscalInSeq cmd then s else
  match cmd with
  | 1 => if s.fastNow ch then s.syscalStop 6 else
    let s := s.putCal { c with started := some s.now, capture := some 1 }
    { s with sense := { s.sense with readings := s.sense.readings.map (fun (x : Nat × Reading) => if x.1 == ch then (x.1, { x.2 with stale := true }) else x) } }
  | 2 => if s.fastNow ch then s.syscalStop 6 else s.putCal { c with capture := some 2 }
  | 3 =>
    let o := 8 * coefPlace ch
    let b := overlay (ovBytes (s.setting ⟨.SYSCAL_COEF, 0, 0⟩)) o (leInt 4 c.zero ++ leBytes 4 c.gain.toNat)
    let s := s.putCal { c with status := 3, started := none, applied := c.applied.filter (· != ch) ++ [ch] }
    let s := s.putSetting ⟨.SYSCAL_COEF, 0, 0⟩ (.blob b)
    ({ s with store := cellPut s.store ⟨.SYSCAL_COEF, 0, 0⟩ (.blob b) }).raise 0x1D02 0xFF (uidHub 0)
  | _ => s.syscalStop 0

/-- A capture ends with its mean in µV (R550, R551). -/
def syscalCapture (v : Int) (s : State) : State :=
  let c := s.sense.cal
  if s.sense.selfBusy == some (s.convOf (s.set0 .SYSCAL_CHAN)) then s else
  match c.capture with
  | none => s
  | some 1 => s.putCal { c with capture := none, zero := v, status := 1 }
  | some _ =>
    let fs : Int := s.set0 .SYSCAL_FS_VALUE
    let d := v - c.zero
    let ok := decide (c.zero.natAbs ≤ 24000) && decide (0 < d) && decide (95 * d ≤ 100 * fs) && decide (100 * fs ≤ 105 * d)
    if ok then s.putCal { c with capture := none, gain := ratioF32 fs d, status := 2 }
    else (s.putCal { c with capture := none, status := 4 }).raise 0x4D06 0xFF (uidHub 0)

/-- SYSCAL_CAPTURE_DONE. -/
def execSyscalCaptureDone (t : Nat) (v : Int) (s : State) : Host.Outcome State Fault Refusal := .next (syscalCapture v (s.at t))

/-- No apply or discard within 60 s of step 1 (R552). -/
def syscalTimeout (s : State) : State :=
  match s.sense.cal.started with
  | some b => if s.now ≥ b + 60000000000000 then s.syscalStop 0 else s
  | none => s

/-- SYSCAL_TIMEOUT. -/
def execSyscalTimeout (t : Nat) (s : State) : Host.Outcome State Fault Refusal := .next (syscalTimeout (s.at t))

/-- A capture is abandoned when the channel has entered its fast band (R552). -/
def State.syscalFast (s : State) : State :=
  if s.sense.cal.capture.isSome && s.fastNow (s.set0 .SYSCAL_CHAN) then s.syscalStop 6 else s

/-! ### Objects -/

/-- One record of SENSE_READINGS (Table 13.4). -/
def Reading.bytes (r : Reading) : Bytes :=
  let f (b : Bool) (n : Nat) : Nat := if b then 2 ^ n else 0
  leInt 4 r.value ++ leBytes 3 r.raw ++
  leBytes 1 (f r.stale 0 + f r.late 1 + f r.fast 2 + f r.xchk 3 + f r.fault 4 + f r.syscal 5) ++
  leBytes 8 (r.notch % 2 ^ 60 + r.conv * 2 ^ 60)

/-- SENSE_READINGS; a channel that has published nothing reads as zeros (log 40). -/
def State.senseReadings (s : State) : Bytes :=
  ((List.range 40).map (fun c => (mapFind s.sense.readings c).elim (zeros 16) Reading.bytes)).flatten

/-- MEM_TEMPS; a stack not yet read reads as 0 (log 40). -/
def State.memTempsBytes (s : State) : Bytes := ((List.range 8).map (fun k => leInt 2 (mapGet s.sense.memTemps k 0))).flatten

/-- TJ_MAX_SEEN: 0x8000 when no die reading has been published since it was last read (R554). -/
def State.tjSeen (s : State) : Nat := unsigned 16 (s.sense.tjMax.getD (-32768))

end Sys2Proof.Machine
end

