-- ==== Sys2Proof/Machine/Power.lean ====
section
/-! DEFINITION. Machine/Power.lean: supply domains, package power and its guard, the energy budget of a beat, and throttling (spec/13
R529–R539, R555–R557). The work that a stall keeps from starting asks `s.pwr.stalled` where it starts. -/
namespace Sys2Proof.Machine
open Sys2Proof

/-! ### Domains (Table 13.1) -/

/-- Phases of a domain. -/
def phaseCount (k : Nat) : Nat := if k < 16 then 4 else if k < 20 then 2 else if k == 20 then 8 else if k == 21 then 6 else if k == 22 then 8 else 2

/-- Overcurrent limit of a domain in A. -/
def currentLimit (k : Nat) : Nat :=
  if k < 16 then 200 else if k < 20 then 130 else if k == 20 then 320 else if k == 21 then 200 else if k == 22 then 300 else 20

/-- A domain is on. -/
def State.railOn (s : State) (k : Nat) : Bool := mapFind s.pwr.rails k == some 0

/-- Current of a domain in µA as last sampled; a domain with a monitor fault counts at its limit (R533). -/
def State.current (s : State) (k : Nat) : Nat :=
  if s.pwr.monFault.contains k then currentLimit k * 1000000 else mapGet s.pwr.ua k 0

/-- Phases that a domain's current needs (R531). -/
def State.phasesNeeded (s : State) (k : Nat) : Nat := min (phaseCount k) (max 1 ((s.current k + 39999999) / 40000000))

/-- Phases that run. -/
def State.phasesOn (s : State) (k : Nat) : Nat :=
  if s.set0 .PHASE_SHED == 0 || k == 23 then phaseCount k else mapGet s.pwr.phases k 1

/-- Phases shed on a domain: it is on, PHASE_SHED is 1 and it is not VAUX (R531). -/
def State.sheds (s : State) (k : Nat) : Bool := s.railOn k && s.set0 .PHASE_SHED == 1 && k != 23

/-- A phase that a domain needs is added (R531). -/
def phaseAdd (k : Nat) (s : State) : State :=
  if s.sheds k && s.phasesOn k < s.phasesNeeded k then
    { s with pwr := { s.pwr with phases := mapSet s.pwr.phases k (s.phasesOn k + 1) } }
  else s

/-- PHASE_ADD. -/
def execPhaseAdd (t k : Nat) (s : State) : Host.Outcome State Fault Refusal := if k < 24 then .next (phaseAdd k (s.at t)) else .fault .noSuchUnit

/-- The key of phase `n` of domain `k`, counted from 1, in `PwrS.spareAt`. -/
def phaseKey (k n : Nat) : Nat := 16 * k + n

/-- The last phase that runs has not been needed for 100 µs (R531). -/
def State.phaseSpare (s : State) (k : Nat) : Bool :=
  match mapFind s.pwr.spareAt (phaseKey k (s.phasesOn k)) with
  | some b => decide (b + 100000000 ≤ s.now)
  | none => false

/-- A phase whose need has been absent for 100 µs is dropped (R531). -/
def phaseDrop (k : Nat) (s : State) : State :=
  if s.sheds k && s.phasesNeeded k < s.phasesOn k && s.phaseSpare k then
    { s with pwr := { s.pwr with phases := mapSet s.pwr.phases k (s.phasesOn k - 1) } }
  else s

/-- PHASE_DROP. -/
def execPhaseDrop (t k : Nat) (s : State) : Host.Outcome State Fault Refusal := if k < 24 then .next (phaseDrop k (s.at t)) else .fault .noSuchUnit

/-! ### Adaptive voltage scaling (R532) -/

/-- The setpoint of a die's VCORE in mV. -/
def State.setpoint (s : State) (die : Nat) : Nat := if s.set0 .AVS_ENABLE == 0 then s.set0 .VCORE_FIXED else s.pwr.vcore.getD die 750

/-- A critical-path monitor reports its slack: below its low mark the setpoint rises by 5 mV, at most once per 10 µs and up to 850 mV. -/
def avsReport (die mon : Nat) (slack : Int) (s : State) : State :=
  if s.set0 .AVS_ENABLE == 0 then s else
  let add (l : List Nat) : List Nat := if l.contains die then l else l ++ [die]
  let s := { s with pwr := { s.pwr with
      seen := add s.pwr.seen
      low := if slack > Config.avsHigh die mon then s.pwr.low else add s.pwr.low } }
  if slack < Config.avsLow die mon then
    let v := s.pwr.vcore.getD die 750
    let ok := match mapFind s.pwr.rose die with
      | some b => decide (s.now ≥ b + 10000000)
      | none => true
    if v ≥ 850 then s.raise 0x4D07 0xFF (uidDie die)
    else if ok then { s with pwr := { s.pwr with vcore := s.pwr.vcore.set die (min 850 (v + 5)), rose := mapSet s.pwr.rose die s.now } }
    else s
  else s

/-- AVS_SLACK_REPORT. -/
def execAvsSlackReport (t die mon : Nat) (slack : Int) (s : State) : Host.Outcome State Fault Refusal :=
  if die < 4 then .next (avsReport die mon slack (s.at t)) else .fault .noSuchUnit

/-- At a boundary: 64 beats in a row in which a die's monitors reported, each time above their high marks, lower its setpoint by 5 mV; the count
then starts again (log 38). -/
def State.avsBoundary (s : State) : State :=
  let one (p : PwrS) (d : Nat) : PwrS :=
    let n := if p.seen.contains d && !p.low.contains d then mapGet p.runs d 0 + 1 else 0
    if n ≥ 64 then { p with runs := mapSet p.runs d 0, vcore := p.vcore.set d (max 650 (p.vcore.getD d 750 - 5)) }
    else { p with runs := mapSet p.runs d n }
  let p := (List.range 4).foldl one s.pwr
  { s with pwr := { p with seen := [], low := [] } }

/-! ### Package power and the guard (R534–R537) -/

/-- The guard limit in W (R535, R536, R557). -/
def State.guardLimit (s : State) : Nat :=
  if s.pwr.emerg.isSome then s.set0 .PWR_FLOOR
  else if s.boot.stepped then s.set0 .PWR_LIMIT
  else s.set0 .BOOT_POWER_MAX

/-- The mean of powers, in mW. -/
def meanPower (l : List Nat) : Nat := if l.isEmpty then 0 else l.foldl (· + ·) 0 / l.length

/-- P1 in mW: the mean over the last 1 ms. -/
def State.p1 (s : State) : Nat := meanPower (s.pwr.samples.take 100)
/-- P10 in mW: the mean over the last 10 ms. -/
def State.p10 (s : State) : Nat := meanPower s.pwr.samples

/-- Current in µA that an IMON voltage in µV stands for (R530). -/
def State.imonCurrent (s : State) (k : Nat) (v : Int) : Nat :=
  let r := F32.toRatio (BitVec.ofNat 32 (s.setField .IMON_SCALE (4 * k) 4))
  (divRne (v * r.1) (2 ^ r.2)).toNat

/-- A power sample is taken in every domain (R534): voltages in mV, IMON in µV. -/
def State.takeSample (s : State) (mv : List Nat) (imon : List Int) : State :=
  let ks := List.range 24
  let p := ks.foldl (fun (p : PwrS) k => { p with mv := mapSet p.mv k (mv.getD k 0), ua := mapSet p.ua k (s.imonCurrent k (imon.getD k 0)) }) s.pwr
  let s := { s with pwr := p }
  let mw := sumNat (ks.map (fun k => mapGet s.pwr.mv k 0 * s.current k)) / 1000000
  let phase (m : Map Nat) (x : Nat × Nat) : Map Nat :=
    let i := phaseKey x.1 x.2
    if x.2 ≤ s.phasesNeeded x.1 then mapDel m i else if (mapFind m i).isSome then m else mapSet m i s.now
  { s with pwr := { s.pwr with
      samples := (mw :: s.pwr.samples).take 1000
      energy := s.pwr.energy + mw * 10
      spareAt := (ks.flatMap (fun k => (List.range (phaseCount k)).map (fun n => (k, n + 1)))).foldl phase s.pwr.spareAt } }

/-- The time a stall has lasted since it was last counted goes into PWR_STALL_NS. -/
def State.countStall (s : State) : State :=
  ({ s with pwr := { s.pwr with stallAt := s.now } }).inc .PWR_STALL_NS ((s.now - s.pwr.stallAt) / 1000)

/-- The power guard (R535). -/
def State.guard (s : State) : State :=
  let g := s.guardLimit
  let above := decide (s.p1 > 1450000) || decide (100 * s.p10 > 105 * (1000 * g))
  if s.pwr.stalled then
    let s := s.countStall
    if !above && 10 * s.p1 < 9 * (1000 * g) then { s with pwr := { s.pwr with stalled := false } } else s
  else if above then ({ s with pwr := { s.pwr with stalled := true, stallAt := s.now } }).raise 0x4D05 0xFF
  else s

/-- PACKAGE_POWER_SAMPLE: VSNS in mV and IMON in µV of the 24 domains. -/
def execPackagePowerSample (t : Nat) (mv : List Nat) (imon : List Int) (s : State) : Host.Outcome State Fault Refusal :=
  if mv.length = 24 ∧ imon.length = 24 then .next (((s.at t).takeSample mv imon).guard) else .fault .noSuchUnit

/-! ### Throttling (R555–R557) -/

/-- A PACE's source and reading. -/
def State.paceSource (s : State) (c : Nat) : Bytes := leBytes 1 c ++ leInt 2 ((s.sourceValue c).getD 0)

/-- The cause that a source's kind gives (R555). -/
def sourceCause (c : Nat) : Nat := if c ≥ 0x40 then 2 else if c ≥ 22 then 3 else 1

/-- Send a PACE (R556, Table 13.9): code, target, power in force, cause, source, enforce beat. -/
def State.pace (s : State) (code target inForce cause source enforce : Nat) : State :=
  let src := if source == 0xFF then [0xFF, 0, 0] else s.paceSource source
  let b := leBytes 2 target ++ leBytes 2 inForce ++ leBytes 1 cause ++ src ++ leBytes 8 enforce ++ leBytes 8 s.beat.number
  ({ s with pwr := { s.pwr with pace := b } }).raiseEv { code, kw := 0xFE, raw := some b }

/-- A new PWR_LIMIT takes effect (R555). -/
def State.limitCheck (s : State) : State :=
  let l := s.set0 .PWR_LIMIT
  if l == s.pwr.limit then s else
  { s with pwr := { s.pwr with limit := l, pthr := if s.pwr.pthr == s.pwr.limit then l else min s.pwr.pthr l } }

/-- The emergency's part of a boundary (R557, steps 2 to 4). -/
def State.paceEmergency (s : State) : State :=
  match s.pwr.emerg with
  | none => s
  | some cause =>
    let old := s.pwr.pthr
    let floor := s.set0 .PWR_FLOOR
    let s := { s with pwr := { s.pwr with pthr := floor, cut := none, emerg := none } }
    s.pace 0x4D01 floor old cause (if cause == 5 then 0xFF else s.hottest) s.beat.number

/-- A pending reduction is enforced (R555). -/
def State.paceEnforce (s : State) : State :=
  match s.pwr.cut with
  | none => s
  | some c0 =>
    let c := { c0 with waited := c0.waited + 1 }
    if s.beat.number ≥ c.enforce || c.waited ≥ c.detent then
      ({ s with pwr := { s.pwr with pthr := c.target, cut := none } }).raise 0x4D02 0xFE 0 c.target c.enforce
    else { s with pwr := { s.pwr with cut := some c } }

/-- STEP of R555 in W. -/
def State.throttleStep (s : State) : Nat := s.set0 .PWR_LIMIT * s.set0 .THROTTLE_STEP / 100

/-- A pending reduction is cancelled, or one is announced (R555). -/
def State.paceAnnounce (s : State) : State :=
  let s := if s.pwr.cut.isSome && s.cool then
      ({ s with pwr := { s.pwr with cut := none } }).pace 0x1D01 s.pwr.pthr s.pwr.pthr 6 0xFF s.beat.number else s
  let floor := s.set0 .PWR_FLOOR
  if s.hot && s.pwr.cut.isNone && floor < s.pwr.pthr then
    let target := max floor (s.pwr.pthr - s.throttleStep)
    let d := s.set0 .DETENT
    let e := (s.beat.number + d) % 2 ^ 48
    let c := s.hottest
    ({ s with pwr := { s.pwr with cut := some ⟨target, e, d, 0⟩ } }).pace 0x4D01 target s.pwr.pthr (sourceCause c) c e
  else s

/-- The throttle power rises after DETENT cool beats (R555). -/
def State.paceRelease (s : State) : State :=
  let s := { s with pwr := { s.pwr with coolRun := if s.cool then s.pwr.coolRun + 1 else 0 } }
  let limit := s.set0 .PWR_LIMIT
  if s.pwr.cut.isNone && s.pwr.coolRun ≥ s.set0 .DETENT && s.pwr.pthr < limit then
    let old := s.pwr.pthr
    let new := min limit (old + s.throttleStep)
    ({ s with pwr := { s.pwr with pthr := new, coolRun := 0 } }).pace 0x1D01 new old 0 0xFF s.beat.number
  else s

/-- The throttle procedure of a boundary (R555, R557). -/
def State.throttle (s : State) : State :=
  let s := s.limitCheck.paceEmergency.paceEnforce.paceAnnounce.paceRelease
  if s.pwr.pthr < s.set0 .PWR_LIMIT then s.inc .THROTTLE_BEATS else s

/-! ### The energy budget (R538, R539) -/

/-- Tier programs that the die stewards will start in this beat: tiles that wait with their image, as many as PROG_POWER_MAX has room for. -/
def State.programsToStart (s : State) : Nat :=
  let w := F32.toRatio (BitVec.ofNat 32 (s.count ⟨.PROG_W_TIER, 0, 0⟩))
  let room := ((s.set0 .PROG_POWER_MAX : Int) * 2 ^ w.2 / w.1).toNat - s.slots.programs.length
  let waits := sumNat (s.versions.map (fun p => (p.2.2.tiles.filter (fun t => s.mayProgram t.eng t.tier)).length))
  min room waits

/-- Energy that programming is given in a beat, in nJ: programs × PROG_W_TIER × T_b. -/
def State.programEnergy (s : State) : Nat :=
  let w := F32.toRatio (BitVec.ofNat 32 (s.count ⟨.PROG_W_TIER, 0, 0⟩))
  ((s.programsToStart : Int) * w.1 * s.beatPeriod / (2 ^ w.2 * 1000)).toNat

/-- The budget of the beat that begins (R538): the energy accounted and the quiet-window energy of the beat that ended are in nJ. -/
def State.energyBudget (s : State) (accounted quiet : Nat) : State :=
  let p := s.pwr
  let total := min (s.set0 .PWR_LIMIT) p.pthr * s.beatPeriod / 1000
  let ended := p.counting
  let excess := if ended then (((p.energy : Int) - accounted) :: p.excess).take 8 else p.excess
  let base : Int := if excess.isEmpty then 0 else excess.foldl (· + ·) 0 / (excess.length : Int)
  let res := s.programEnergy + (if ended then quiet else 0)
  let carry := if ended then min (total / 4) (p.energy - p.total) else 0
  let e := ((total : Int) - base - res - carry).toNat
  let s := { s with pwr := { p with counting := true, excess, energy := 0, measured := if ended then p.energy else 0, total } }
  let s := { s with srv := { s.srv with budget := e / 1000000 } }
  let s := s.putCount ⟨.ENERGY_BUDGET, 0, 0⟩ (e / 1000000)
  let s := s.putCount ⟨.ENERGY_BASE, 0, 0⟩ (base.toNat / 1000000)
  s.putCount ⟨.ENERGY_USED_LAST, 0, 0⟩ ((if ended then p.energy else 0) / 1000000)

/-- The power manager at notch 0 of a beat: emergencies that new settings bring, throttling, scaling, budget. -/
def State.powerBoundary (s : State) (accounted quiet : Nat) : State :=
  ((s.syscalFast.throttle.avsBoundary).energyBudget accounted quiet).emergencyCheck

/-! ### Objects -/

/-- RAIL_INFO (Table 13.12). -/
def State.railInfo (s : State) : Bytes :=
  ((List.range 24).map (fun k =>
    leBytes 2 (mapGet s.pwr.mv k 0) ++ leBytes 2 (mapGet s.pwr.ua k 0 / 100000) ++ leBytes 1 (if s.railOn k then s.phasesOn k else 0) ++
    leBytes 1 (mapGet s.pwr.rails k 1) ++ zeros 2)).flatten

/-- VCORE_SET. -/
def State.vcoreSet (s : State) : Bytes := ((List.range 4).map (fun d => leBytes 2 (s.setpoint d))).flatten

end Sys2Proof.Machine
end

