-- ==== Sys2Proof/Machine/Boot.lean ====
section
/-! DEFINITION. Machine/Boot.lean: what a loss of power leaves, images and their banks, the power sequence, rail faults, limited service and the
way from POR_N to serving (spec/15; spec/07 R291–R293, spec/08 R347, R348, spec/12 R504, spec/13 R533, R558–R561). -/
namespace Sys2Proof.Machine
open Sys2Proof

/-- Change the start-up state. -/
def State.setBoot (s : State) (f : BootS → BootS) : State := { s with boot := f s.boot }

/-! ### Images and banks (R610–R614) -/

/-- Header of the image of a kind that the device was built with (Table 15.6), at the revisions of the spec's own example; its version, length and
digests are as built (log 9). -/
def builtHdr (kind : Nat) : Bytes :=
  let revs : List Nat := match kind with
    | 1 => [7, 0, 0, 0xFFFF, 0x10, 0x13, 0x20, 0x22]
    | 2 => [0x12, 0, 7, 8, 0, 0xFFFF, 0x20, 0x22]
    | _ => [0x21, 0, 6, 8, 0x12, 0x14, 0, 0xFFFF]
  leBytes 4 0x474D4946 ++ leBytes 1 kind ++ leBytes 1 1 ++ leBytes 2 0 ++ (List.range 4).map (Config.asBuilt (3 + kind)) ++
    revs.flatMap (leBytes 2) ++ leBytes 2 0xB0 ++ leBytes 2 0xBF ++ leBytes 4 (leNat ((List.range 2).map (fun i => Config.asBuilt (3 + kind) (4 + i)))) ++
    zeros 12 ++ (List.range 144).map (fun i => Config.asBuilt (3 + kind) (8 + i))

/-- A bank's header; an EMPTY bank has none. -/
def Bank.header (b : Bank) (kind : Nat) : Bytes :=
  if b.state == 0 then [] else if b.hdr.isEmpty then builtHdr kind else b.hdr

/-- The digest of an image that its measurement takes (spec/12 Table 12.2): of its header and body. -/
def Bank.digest (b : Bank) (kind : Nat) : Bytes := sha384 (b.header kind ++ b.body)

/-- IF_REV of a header. -/
def ifRev (h : Bytes) : Nat := leAt h 12 2

/-- A header accepts a revision of a kind. -/
def acceptsRev (h : Bytes) (kind rev : Nat) : Bool :=
  decide (leAt h (12 + 4 * kind) 2 ≤ rev) && decide (rev ≤ leAt h (14 + 4 * kind) 2)

/-- A set of images, by kind from 1, is qualified on a stepping (R614). -/
def qualified (hs : List Bytes) (stepping : Nat) : Bool :=
  (hs.zipIdx 1).all (fun x => (hs.zipIdx 1).all (fun y => x.2 == y.2 || acceptsRev x.1 y.2 (ifRev y.1)) &&
    decide (leAt x.1 28 2 ≤ stepping) && decide (stepping ≤ leAt x.1 30 2))

/-- The banks of a kind. -/
def kindBanks (kind : Nat) : List Nat := [2 * (kind - 1), 2 * (kind - 1) + 1]

/-- Bank `i`. -/
def BootS.bank (b : BootS) (i : Nat) : Bank := b.banks.getD i {}

/-- Replace bank `i`. -/
def BootS.putBank (b : BootS) (i : Nat) (x : Bank) : BootS := { b with banks := b.banks.set i x }

/-- Of two banks the VALID one that verifies with the higher sequence number. -/
def BootS.newestBank (b : BootS) (kind : Nat) : Option Nat :=
  ((kindBanks kind).filter (fun i => (b.bank i).state == 1 && (b.bank i).good)).foldl
    (fun a i => match a with
      | some j => if (b.bank j).seq ≥ (b.bank i).seq then some j else some i
      | none => some i) none

/-- The loader takes the bank of a kind (R612): the PENDING one, which becomes BAD when it does not verify, else the VALID one with the higher
sequence number. -/
def BootS.loadKind (b : BootS) (kind : Nat) : BootS :=
  let pend := (kindBanks kind).find? (fun i => (b.bank i).state == 2)
  match pend with
  | some p =>
    if (b.bank p).good then { b with run := b.run.set (kind - 1) (p % 2) }
    else
      let b := b.putBank p { b.bank p with state := 3 }
      match b.newestBank kind with
      | some i => { b with run := b.run.set (kind - 1) (i % 2), fallback := b.fallback ++ [kind] }
      | none => { b with run := b.run.set (kind - 1) 2 }
  | none =>
    match b.newestBank kind with
    | some i => { b with run := b.run.set (kind - 1) (i % 2) }
    | none => { b with run := b.run.set (kind - 1) 2 }

/-- The bank of a kind that runs. -/
def BootS.running (b : BootS) (kind : Nat) : Option Nat :=
  let r := b.run.getD (kind - 1) 2
  if r < 2 then some (2 * (kind - 1) + r) else none

/-- Header of the image of a kind that runs; none of it runs: no bytes. -/
def BootS.runHdr (b : BootS) (kind : Nat) : Bytes :=
  match b.running kind with
  | some i => (b.bank i).header kind
  | none => []

/-- A change of the PENDING banks that run. -/
def BootS.settlePending (b : BootS) (st : Nat) (note : Bool) : BootS :=
  [1, 2, 3].foldl (fun (b : BootS) kind =>
    match b.running kind with
    | some i => if (b.bank i).state == 2 then
        { b.putBank i { b.bank i with state := st } with fallback := if note then b.fallback ++ [kind] else b.fallback } else b
    | none => b) b

/-- 0x4F01 FW_BANK_FALLBACK for each PENDING bank that has become BAD, once the WARD image runs (R612). -/
def State.fallbacks (s : State) : State :=
  let n := s.boot.fallback.length
  (s.setBoot (fun b => { b with fallback := [] })).raiseMany 0x4F01 0xFF n

/-- IF_REVs packed as an event carries them. -/
def State.ifRevs (s : State) : Nat := ifRev (s.boot.runHdr 1) + 65536 * ifRev (s.boot.runHdr 2) + 4294967296 * ifRev (s.boot.runHdr 3)

/-! ### A loss of power (R600, R604, R606) -/

/-- What a tier keeps without power (spec/05 R206, R213): its cells, its health with the columns that are to be diagnosed, and what its flash holds;
a retirement on its way is one. -/
def TierS.afterLoss (whole : Bool) (t : TierS) : TierS :=
  { weights := t.weights, refs := t.refs, spareCols := t.spareCols, health := if whole || t.retiring then .retired else t.health
    flagged := if whole || t.retiring then [] else t.flagged, forced := t.forced
    programs := t.programs, remap := t.remap, colmax := t.colmax, scrubHour := t.scrubHour }

/-- What an engine keeps without power. -/
def EngS.afterLoss (e : EngS) : EngS :=
  { tiers := e.tiers.map (TierS.afterLoss e.retiring.isSome), cause := e.retiring.getD e.cause, healthAt := e.healthAt
    lastCommit := e.lastCommit, commitHour := e.commitHour, nvA := e.nvA, nvB := e.nvB, nvWrites := e.nvWrites }

/-- A tile of a slot record once power is lost: the record has the digest and the column codes of its latest image (log 56), and its cells, which are
its tier's, are to be verified. -/
def State.tileLost (s : State) (v : Version) (t : Tile) : Tile :=
  let x := match s.tileAt t.eng t.tier with
    | some (_, _, w, x) => if w.number == v.number && w.model == v.model && x.shard == t.shard then x else t
    | none => t
  { t with state := .verify, codes := x.codes, digest := x.digest, image := [], tries := 0, imageBad := false, badNext := false, again := false }

/-- A slot record once power is lost. -/
def State.recLost (s : State) (r : SlotRec) : SlotRec :=
  let f (v : Version) : Version := { v with tiles := v.tiles.map (s.tileLost v), held := [], staged := [], badHeld := [], retry := [] }
  { r with cur := r.cur.map f, pend := r.pend.map f }

/-- A unit state that a loss of power leaves. -/
def State.ownKept (s : State) (x : Nat × UState) : Bool :=
  x.2 == .retired || x.2 == .disabled || (x.2 == .faulted && s.bist.kept.contains x.1)

/-- The device after a loss of its volatile state: the clock, the host's memory, flash, fuses and the cells remain, and V3P3_SB logic after a warm
reset (Table 15.3). -/
def State.afterLoss (s : State) (warm : Bool) (cause : Nat) : State :=
  let b := s.boot
  let f : State := {}
  { f with
    pending := s.pending, now := s.now, out := s.out, free := s.free, part := s.part, hostMem := s.hostMem, store := s.store
    eng := s.eng.map (fun x => (x.1, x.2.afterLoss))
    slots := { slots := s.slots.slots.map (fun x => (x.1, { recA := x.2.recA.map s.recLost, recB := x.2.recB.map s.recLost })) }
    hier := { own := s.hier.own.filter s.ownKept, siteMaps := s.hier.siteMaps, retiredRows := s.hier.retiredRows }
    bist := { kept := s.bist.kept, repairs := s.bist.repairs }
    evt := { ring := s.evt.ring, nextSeq := s.newestSeq none + 1, opMs := s.evt.opSaved, opSaved := s.evt.opSaved, cycles := s.evt.cycles
             mismatches := s.evt.mismatches, wdtTimes := if warm then s.evt.wdtTimes else [], wdtLast := s.evt.wdtLast }
    ward := { lc := s.ward.lc, returns := s.ward.returns, uds := s.ward.uds, mgmtKey := s.ward.mgmtKey, kexId := s.ward.kexId
              kexDraw := s.ward.kexDraw }
    fab := { bootCount := s.fab.bootCount }
    boot := { por := b.por, v3p3 := b.v3p3, perst := b.perst, banks := b.banks, fallback := b.fallback, cause := cause, cold := !warm
              porAt := s.now, trip := warm && b.trip } }

/-- The Ward ROM starts: it takes the WARD bank, or enters recovery (R613). VAUX is up. -/
def State.romStart (s : State) : State :=
  let b := s.boot.loadKind 1
  { s with boot := { b with recovery := (b.running 1).isNone, ward := false }
           pwr := { s.pwr with rails := mapSet s.pwr.rails 23 0 }
           evt := { s.evt with wdtLast := s.now } }

/-- A warm restart from the Ward ROM (R604, R606). -/
def State.warmRestart (s : State) (cause : Nat) : State := (s.afterLoss true cause).romStart

/-! ### Going dark (R533, R586, R603, R615) -/

/-- Functions stop with what serves them (spec/03 R125, Table 3.13): each that is not OFF goes OFF and is reported, and FUNC_FAIL_CAUSE stays. -/
def State.funcsDark (s : State) : State :=
  let s := ((s.funcs.filter (fun p => p.2.state != .off)).map Prod.fst).foldl (fun (x : State) f => x.funcTo f .off) s
  { s with funcs := s.funcs.map (fun p => (p.1, { p.2 with want := none, latched := false })) }

/-- Serving state goes with the domains that held it. -/
def State.dark (s : State) : State :=
  let s := s.funcsDark
  { s with
    srv := { hists := s.srv.hists, ends := s.srv.ends, endsDropped := s.srv.endsDropped }
    kv := {}, kpr := {}, latch := {}, kwMem := []
    mem := { withheld := s.mem.withheld }
    eng := s.eng.map (fun x => (x.1, { x.2 with run := none, diag := none, spares := [] }))
    slots := { s.slots with rings := [], programs := [] }
    fab := { map := s.fab.map, epoch := s.fab.epoch, bootCount := s.fab.bootCount, held := s.fab.held }
    ward := { s.ward with keys := [], kws := [], vfs := 0, streams := [] }
    hier := { s.hier with watchFrom := none }
    beat := { s.beat with phase := .none, busy := [] } }

/-- The hub is off: its beat receiver and sense block, PCIe with them. -/
def State.hubOff (s : State) : State :=
  let s := (s.beatTo .seeking).setBoot (fun b => { b with link := false, ready := false })
  { s with sense := {}, beat := { s.beat with trans := none, newLock := none, periods := [], pinEdges := [], linkEdges := [] } }

/-- Domains that a step of the power-down turns off: 4 VCORE, 3 VANA, or the domain k itself. -/
def stepRails (step : Nat) : List Nat := if step == 4 then List.range 16 else if step == 3 then [16, 17, 18, 19] else [step]

/-- Domains turned off; one that a fault has shut off stays so. -/
def State.railsOff (s : State) (l : List Nat) : State :=
  { s with pwr := { s.pwr with rails := l.foldl (fun m k => if mapFind m k == some 2 then m else mapSet m k 1) s.pwr.rails } }

/-- The power-down takes a step: PCIe ends with VSERDES. -/
def State.downStep (s : State) (step : Nat) : State :=
  let s := s.railsOff (stepRails step)
  if step == 20 then s.hubOff
  else if step == 21 then s.setBoot (fun b => { b with link := false, ready := false })
  else s

/-- The power-down has ended (R604). -/
def State.downEnd (s : State) : State :=
  let s := s.setBoot (fun b => { b with down := [] })
  if s.boot.stopping == 1 then s.warmRestart 1
  else if s.boot.stopping == 2 then s.setBoot (fun b => { b with state := 8, stopping := 0 })
  else s

/-- The power-down goes on with the first of some steps whose domains are not off yet. -/
def State.downOn (s : State) (steps : List Nat) : State :=
  match steps.filter (fun k => (stepRails k).any s.railOn) with
  | [] => s.downEnd
  | k :: r => (s.setBoot (fun b => { b with down := k :: r })).downStep k

/-- A power-down begins with its first step (R603); it ends in what `stopping` says. -/
def State.powerDown (s : State) (steps : List Nat) (stopping : Nat) : State :=
  (s.dark.setBoot (fun b => { b with stopping := stopping })).downOn steps

/-- Every step of the power-down (R603). -/
def allDown : List Nat := [4, 3, 22, 21, 20]

/-- A power-down step ends and the next begins (R603); the last one ends the stop. -/
def downNext (s : State) : State := if s.boot.down.isEmpty then s else s.downOn s.boot.down.tail

/-- POWER_DOWN_STEP. -/
def execPowerDownStep (t : Nat) (s : State) : Host.Outcome State Fault Refusal := .next (downNext (s.at t))

/-! ### Limited service (R615) -/

/-- HOST_READY is set (R608). -/
def State.hostReady (s : State) : State :=
  if s.boot.ready then s else ((s.setBoot (fun b => { b with ready := true })).milestone 8).raise 0x1F01 0xFF

/-- VHUB and VSERDES are up. -/
def State.hubUp (s : State) : Bool := s.railOn 20 && s.railOn 21

/-- The P920 enters the limited-service state with the causes in LIMITED_CAUSE (R615), once. -/
def State.enterLimited (s : State) (bit : Nat) : State :=
  let first := s.boot.state != 7
  let s := s.setBoot (fun b => { b with limited := b.limited ||| bit, state := 7 })
  let s := if first then
      let s := s.setBoot (fun b => b.settlePending 1 false)
      let s := s.raise 0x8F01 0xFF 0 s.boot.limited s.ifRevs
      s.powerDown [4, 3] s.boot.stopping
    else s
  if bit.testBit 4 then s.powerDown allDown s.boot.stopping
  else if s.hubUp then s.hostReady else s

/-! ### Rail faults and trips (R533, R558–R560, R602) -/

/-- THERM_TRIP_N goes low: every PWM output but VAUX's goes to mid, and serving ends (R558). -/
def State.tripNow (s : State) : State :=
  let s := (s.dark.railsOff (List.range 23)).hubOff
  s.setBoot (fun b => { b with trip := true, down := [], stopping := 0 })

/-- The units of a lost domain (R533). -/
def State.railLoss (s : State) (k : Nat) : State :=
  if k < 16 then
    let s := s.isolateFault (uidQuad k)
    s.setOwn (uidQuad k) ((s.ownState (uidQuad k)).worse .faulted)
  else if k < 20 then
    let n := s.numEngines / 4
    ((List.range n).map (fun i => s.uidEngine ((k - 16) * n + i))).foldl State.isolateFault s
  else if k < 23 then s.enterLimited 16
  else
    let x := (s.tripNow.afterLoss false s.boot.cause).railsOff [23]
    x.setBoot (fun b => { b with trip := true })

/-- A rail fault of a kind (Table 13.2, R602). -/
def State.railFault (s : State) (k kind : Nat) : State :=
  let unit := if k < 16 then uidQuad k else if k < 20 then uidDie (k - 16) else 0
  let s := (s.inc .RAIL_FAULT_COUNT).raise 0x8D03 0xFF unit k kind
  if kind == 4 then { s with pwr := { s.pwr with monFault := s.pwr.monFault.filter (· != k) ++ [k] } }
  else
    let low := if kind == 1 then mapSet s.pwr.lowFrom k s.now else s.pwr.lowFrom
    ({ s with pwr := { s.pwr with rails := mapSet s.pwr.rails k 2, lowFrom := low } }).railLoss k

/-- A fault of a domain that is on. -/
def railFaultOn (k kind : Nat) (s : State) : State := if s.railOn k then s.railFault k kind else s

/-- RAIL_OVERVOLTAGE. -/
def execRailOvervoltage (t k : Nat) (s : State) : Host.Outcome State Fault Refusal :=
  if k < 24 then .next (railFaultOn k 1 (s.at t)) else .fault .noSuchUnit
/-- RAIL_UNDERVOLTAGE. -/
def execRailUndervoltage (t k : Nat) (s : State) : Host.Outcome State Fault Refusal :=
  if k < 24 then .next (railFaultOn k 2 (s.at t)) else .fault .noSuchUnit
/-- RAIL_OVERCURRENT. -/
def execRailOvercurrent (t k : Nat) (s : State) : Host.Outcome State Fault Refusal :=
  if k < 24 then .next (railFaultOn k 3 (s.at t)) else .fault .noSuchUnit

/-- A monitor fault: the domain stays on, its current counted at its limit; it is reported once. -/
def monitorFault (k : Nat) (s : State) : State := if s.pwr.monFault.contains k then s else railFaultOn k 4 s

/-- IMON_MONITOR_FAULT. -/
def execImonMonitorFault (t k : Nat) (s : State) : Host.Outcome State Fault Refusal :=
  if k < 24 then .next (monitorFault k (s.at t)) else .fault .noSuchUnit

/-- The level of a PWM output (spec/13 R530). -/
inductive PwmLevel where
  | driven | low | mid
  deriving DecidableEq, Repr

/-- The domain of a PWM output (Table 13.1). -/
def pwmDomain (n : Nat) : Nat :=
  if n < 64 then n / 4 else if n < 72 then 16 + (n - 64) / 2 else if n < 80 then 20 else if n < 86 then 21 else if n < 94 then 22 else 23

/-- PWM output `n` now (Tables 13.2 and 15.7): driven while its domain is on; low for 10 µs after an overvoltage; else mid. -/
def State.pwm (s : State) (n : Nat) : PwmLevel :=
  if s.railOn (pwmDomain n) then .driven
  else match mapFind s.pwr.lowFrom (pwmDomain n) with
    | some b => if s.boot.por && !s.boot.trip && decide (s.now < b + 10000000) then .low else .mid
    | none => .mid

/-- Domains of a step of Table 15.1. -/
def upRails (step : Nat) : List Nat :=
  match step with
  | 1 => [20]
  | 2 => [21, 22]
  | 3 => [16, 17, 18, 19]
  | 4 => List.range 16
  | _ => []

/-- The power-up sequence is under way (R601): in limited service it goes on to the domains of the hub alone (R615). -/
def State.starting (s : State) : Bool :=
  s.boot.ward && !s.boot.trip && s.boot.down.isEmpty && decide (s.boot.steps < 4) &&
    (if s.boot.limited == 0 then decide (1 ≤ s.boot.state) && decide (s.boot.state ≤ 2)
     else !s.boot.limited.testBit 4 && s.boot.steps == 1)

/-- A domain has not reached static tolerance 5 ms after its ramp began (R602). -/
def startTimeout (k : Nat) (s : State) : State :=
  if s.starting && (upRails (s.boot.steps + 1)).contains k && (mapFind s.pwr.rails k).isNone then s.railFault k 5 else s

/-- RAIL_START_TIMEOUT. -/
def execRailStartTimeout (t k : Nat) (s : State) : Host.Outcome State Fault Refusal :=
  if k < 24 then .next (startTimeout k (s.at t)) else .fault .noSuchUnit

/-- A trip source exists: a quadrant, the hub die, a stack. -/
def tripSource (src : Nat) : Bool := (decide (1 ≤ src) && decide (src ≤ 17)) || (decide (0x40 ≤ src) && decide (src < 0x48))

/-- A trip comparator or a stack's over-temperature output fires (R558, R559). -/
def thermTrip (src : Nat) (s : State) : State :=
  if s.boot.trip || !s.railOn 23 then s else s.tripNow.raise 0xCD01 0xFF (unitOfSource src) src

/-- THERM_TRIP. -/
def execThermTrip (t src : Nat) (s : State) : Host.Outcome State Fault Refusal :=
  if tripSource src then .next (thermTrip src (s.at t)) else .fault .noSuchUnit

/-! ### Cold reset (R599, R600) -/

/-- POR_N rises: the start controller brings VAUX up and the Ward ROM starts; V3P3_SB stands by the board's sequence. -/
def porRise (s : State) : State :=
  if s.boot.por then s else
  (s.setBoot (fun b => { b with por := true, v3p3 := true, trip := false, porAt := s.now })).romStart

/-- POR_N_RISE. -/
def execPorNRise (t : Nat) (s : State) : Host.Outcome State Fault Refusal := .next (porRise (s.at t))

/-- POR_N falls: every volatile state is lost, THERM_TRIP_N is released. -/
def porFall (s : State) : State :=
  if !s.boot.por then s else (s.afterLoss false 0).setBoot (fun b => { b with por := false })

/-- POR_N_FALL. -/
def execPorNFall (t : Nat) (s : State) : Host.Outcome State Fault Refusal := .next (porFall (s.at t))

/-- V3P3_SB is lost: as a cold reset, until POR_N rises again with the supply (R606). -/
def standbyLoss (s : State) : State := (s.afterLoss false 0).setBoot (fun b => { b with por := false, v3p3 := false })

/-- V3P3_SB_LOSS. -/
def execV3p3SbLoss (t : Nat) (s : State) : Host.Outcome State Fault Refusal := .next (standbyLoss (s.at t))

/-! ### The WARD image (R504, R509, R612, spec/03 R112) -/

/-- A clamp record (spec/03 R118), counted in the view written and in the whole device's. -/
def State.clampRecord (s : State) (k : OKey) (session transport kw : Nat) (c : Clamp) : State :=
  let f := min c.1 255
  let r : ClampRec := { index := keyIndex k, sub := keySub k, field := f, session := session, transport := transport, keyway := kw
                        written := extended k.obj c.1 c.2.1, applied := extended k.obj c.1 c.2.2, notch := s.notchTime }
  let l := s.gdp.clamps ++ [r]
  ({ s with gdp := { s.gdp with clamps := l.drop (l.length - 32), clampN := s.gdp.clampN + 1 } }).incK .CLAMP_COUNT kw

/-- A persisted value is loaded (spec/03 R112). -/
def State.loadSetting (s : State) (x : OKey × OVal) : State :=
  let r := s.rangeCheck x.1 x.2
  let s := s.putSetting x.1 r.1
  r.2.foldl (fun (s : State) c =>
    (s.clampRecord x.1 0 3 x.1.kw c).raise 0x4303 0xFF 0 (keyIndex x.1) (keySub x.1) (min c.1 255)) s

/-- Persisted values are loaded; the map goes first, since the job table is checked against it. -/
def State.loadSettings (s : State) : State :=
  let isMap (x : OKey × OVal) : Bool := x.1.obj == .FABRIC_MAP
  (s.store.filter isMap ++ s.store.filter (fun x => !isMap x)).foldl (fun (s : State) x =>
    let s := s.loadSetting x
    if isMap x then
      let m := ovBytes (s.setting x.1)
      { s with fab := { s.fab with map := m, epoch := leAt m 0 4 } }
    else s) s

/-- The 48 bytes of the life-cycle state, the stepping and the fuse configuration that MEAS_0 takes first (Table 12.2, log 34). -/
def State.fuseRecord (s : State) : Bytes :=
  padTo 48 (leBytes 1 s.ward.lc ++ leBytes 2 0xB1 ++ (List.range 45).map (Config.asBuilt 0))

/-- Settings of index 0x4000 that are persisted (spec/12 R526). -/
def identityObjs : List Obj := [.MGMT_IPV4, .MGMT_IPV4_PREFIX, .MGMT_IPV4_GW, .MGMT_IPV6, .MGMT_IPV6_PREFIX, .KEY_DRAIN]

/-- A setting's value in its own size. -/
def State.settingBytes (s : State) (k : OKey) : Bytes :=
  match s.setting k with
  | .num n => leBytes (tySize k.obj.spec.ty) n
  | .blob b => b

/-- What MEAS_3 takes at load (Table 12.2, log 31): the persisted settings of 0x4000, then every keyway window. -/
def State.loadedDigest (s : State) : Bytes :=
  sha384 (identityObjs.flatMap (fun o => s.settingBytes ⟨o, 0, 0⟩) ++ (List.range 64).flatMap s.windowBytes)

/-- The Ward's measurement of its image and of what it has loaded, and the pair and challenge of a boot (R504, R509, R524). -/
def State.wardMeasure (s : State) : State :=
  let img := match s.boot.running 1 with
    | some i => (s.boot.bank i).digest 1
    | none => zeros 48
  let keep := if s.ward.meas.length == 5 then s.ward.meas else List.replicate 5 (zeros 48)
  let w : WardS := { s.ward with meas := (keep.set 0 (zeros 48)).set 3 (zeros 48), kexDraw := s.ward.kexDraw + 1, kexId := s.ward.kexId + 1, spdm := [] }
  ({ s with ward := ((w.extend 0 s.fuseRecord).extend 0 img).extend 3 s.loadedDigest }).newNonce

/-- The Ward runs: operating time and the watchdog go on. -/
def State.wardRuns (s : State) : State :=
  { s with boot := { s.boot with ward := true }
           evt := { s.evt with opSince := some s.now, wdtLast := s.now, hbLast := s.now, wdtBack := false } }

/-- The WARD image runs at a power-up: settings, rails in step 1, counters of the boot. -/
def State.wardBoot (s : State) : State :=
  let s := s.loadSettings.wardMeasure.wardRuns.scanRing
  let limit := s.set0 .PWR_LIMIT
  let s : State := { s with
    pwr := { s.pwr with pthr := limit, limit := limit, vcore := fusedSetpoints }
    fab := { s.fab with bootCount := s.fab.bootCount + 1 }
    evt := { s.evt with cycles := if s.boot.cold then s.evt.cycles + 1 else s.evt.cycles }
    boot := { s.boot with state := 1, cold := false } }
  let s := s.milestone 3
  let done := s.boot.times.getD 3 0
  let s := s.setBoot (fun b => { b with times := (b.times.set 1 (s.freeBelow (done + 1))).set 2 (s.drawn.freeBelow (done + 1)) })
  s.drawn.drawn.fallbacks

/-- The Ward runs again after its watchdog's reset (spec/14 R585): its sessions are gone, the device goes on. -/
def State.wardAgain (s : State) : State :=
  let s := s.wardMeasure.wardRuns
  let s : State := { s with gdp := { s.gdp with sessions := [], select := [], failed := [], muted := [], blocks := [] } }
  (s.raise 0x8E06 0xFF uidWard).fallbacks

/-- The WARD image starts. -/
def wardStart (s : State) : State :=
  let b := s.boot
  if !b.por || !b.v3p3 || b.ward || b.recovery || s.evt.wdtHeld || !s.railOn 23 then s
  else if b.state == 0 then (if s.evt.wdtBack then s.wardBoot.raise 0x8E06 0xFF uidWard else s.wardBoot)
  else if s.evt.wdtBack then s.wardAgain
  else s

/-! ### Rails and memory BIST (R561, R590, R591, R601) -/

/-- Domains of a step are on, but for those that failed to start. -/
def State.railsUp (s : State) (step : Nat) : State :=
  { s with pwr := { s.pwr with rails := (upRails step).foldl (fun m k => if (mapFind m k).isNone then mapSet m k 0 else m) s.pwr.rails }
           boot := { s.boot with steps := step } }

/-- The trip comparators of these sources fail their self-test (R561). -/
def State.selfTest (s : State) (trips : List Nat) : State :=
  let s := trips.foldl (fun (s : State) x => s.raise 0xCD02 0xFF (unitOfSource x)) s
  if trips.isEmpty then s else s.enterLimited 8

/-- A step of Table 15.1 is done: after step 1 the trip self-test, after step 4 the link, the beat receiver and memory BIST. -/
def railStep (trips : List Nat) (fails : List BistFail) (ms : Nat) (s : State) : State :=
  if !s.starting then s else
  match s.boot.steps with
  | 0 => (((s.railsUp 1).setBoot (fun b => { b with state := 2 })).milestone 4).selfTest trips
  | 1 =>
    let s := s.railsUp 2
    if s.boot.limited == 0 then s
    else (s.setBoot (fun b => { b with link := !b.perst })).hostReady
  | 2 => s.railsUp 3
  | _ =>
    let s := (((s.railsUp 4).milestone 5).milestone 6).milestone 7 (s.now + ms * 1000000000)
    let s : State := { s with beat := { s.beat with mode := .seeking, since := s.now, spent := s.notchClock, seekSpent := s.seekClock }
                              boot := { s.boot with state := 3, link := !s.boot.perst } }
    let s := s.memoryBist fails ms
    if s.boot.limited == 0 then s else s.enterLimited s.boot.limited

/-- RAIL_STEP_DONE. -/
def execRailStepDone (t : Nat) (trips : List Nat) (fails : List BistFail) (ms : Nat) (s : State) : Host.Outcome State Fault Refusal :=
  if trips.all (fun x => decide (1 ≤ x) && decide (x ≤ 17)) then .next (railStep trips fails ms (s.at t)) else .fault .noSuchUnit

/-! ### HASP and STEW images (R608, R612–R615) -/

/-- An engine loads its trims (spec/07 R291). -/
def State.loadTrims (s : State) (eng : Nat) : State :=
  let e := s.engine eng
  match e.newest with
  | some r =>
    s.putEngine eng { e with active := r.trims, shadow := r.trims
                             tiers := e.tiers.zipIdx.map (fun x => { x.1 with trimmed := r.tiers.getD x.2 false }) }
  | none =>
    let due := if e.retired then e.due else some 0
    (s.putEngine eng { e with active := {}, shadow := {}, due := due, dueSince := s.now
                              tiers := e.tiers.map (fun t => { t with trimmed := false }) }).raise 0x4707 0xFF (s.uidEngine eng)

/-- Every engine loads its trims; one with no record of its own in the model has those it was built with. CAL_POWERUP_RUN then places every
engine in class 2 (spec/07 R293). -/
def State.loadAllTrims (s : State) : State :=
  let s := (s.eng.map Prod.fst).foldl State.loadTrims s
  if s.set0 .CAL_POWERUP_RUN == 0 then s.placeDueAll (s.eng.map Prod.fst)
  else
    let due (s : State) (i : Nat) : State :=
      let e := s.engine i
      if e.retired then s else s.putEngine i { e with due := some (min 2 (e.due.getD 2)), dueSince := s.now }
    ((List.range s.numEngines).foldl due s).setBoot (fun b => { b with calWait := true })

/-- A slot's record that is valid with the higher sequence number. -/
def SlotS.newestRec (x : SlotS) : Option SlotRec :=
  match x.recA, x.recB with
  | some a, some b => some (if a.seq ≥ b.seq then a else b)
  | some a, none => some a
  | none, r => r

/-- A version comes up to be verified (spec/08 R348): every weight shard counts as accepted, every copy and digital tier is asked for. -/
def Version.recovered (v : Version) : Version :=
  let away := v.shards.filter (fun h => h.kind == 2 || h.kind == 3)
  let v : Version := { v with accepted := (v.shards.filter (fun h => h.kind == 1)).map (·.index), reqs := [], allIn := true }
  away.foldl (fun (v : Version) h => v.ask h.index 5) v

/-- A slot takes its record (spec/08 R347). -/
def State.loadSlot (s : State) (n : Nat) : State :=
  let x := s.slot n
  match x.newestRec with
  | none => (s.putSlot n { x with state := .empty, cur := none, pend := none, old := none }).raise 0xC801 0xFF 0 n
  | some r =>
    let s := ((s.putSetting ⟨.SLOT_SHARE, n, 0⟩ (.num r.share)).putSetting ⟨.SLOT_SOURCE, n, 0⟩ (.num r.source)).putSetting ⟨.SWAP_MODE, n, 0⟩ (.num r.swap)
    let s := s.putSetting (funcEnableKey (.slot n)) (.num (if r.enable then 1 else 0))
    let x : SlotS := { x with owner := r.owner }
    match r.state, r.cur with
    | .empty, _ => s.putSlot n { x with state := .empty }
    | .fault, _ => s.putSlot n { x with state := .fault }
    | .programming, _ => s.putSlot n { x with state := .fault, fail := 8 }
    | _, none => s.putSlot n { x with state := .empty }
    | _, some v =>
      let s := s.putSlot n { x with cur := some v.recovered, phase := .verify }
      let s := (s.devTake .images (v.tiles.length * imageBytes)).memTake r.owner (heldBytes v.shards)
      ((s.slotTo n .verifying).milestone 10).issueSlot n

/-- HASP and STEW images run: trims and slots are loaded, parents watch, HOST_READY is set. -/
def State.firmwareRuns (s : State) : State :=
  let s := s.loadAllTrims
  let s := (s.slots.slots.map Prod.fst).foldl State.loadSlot s
  let s : State := { s with hier := { s.hier with watchFrom := some s.now } }
  s.hostReady.setBoot (fun b => { b with state := 5 })

/-- Causes of limited service that the images give (R614, R615). -/
def State.imageCause (s : State) : Nat :=
  if (s.boot.running 2).isNone || (s.boot.running 3).isNone then 2
  else if qualified [s.boot.runHdr 1, s.boot.runHdr 2, s.boot.runHdr 3] 0xB1 then 0 else 1

/-- The image of a kind that is to run is measured (R504). -/
def State.measureImage (s : State) (kind : Nat) : State :=
  match s.boot.running kind with
  | some i => { s with ward := s.ward.extend (kind - 1) ((s.boot.bank i).digest kind) }
  | none => s

/-- HASP and STEW images are verified, measured and started. -/
def firmwareStart (s : State) : State :=
  if !(s.boot.ward && s.boot.state == 3 && s.boot.limited == 0 && !s.boot.trip && s.boot.down.isEmpty) then s else
  let s := (s.setBoot (fun b => { (b.loadKind 2).loadKind 3 with state := 4 })).fallbacks
  let s := (s.measureImage 2).measureImage 3
  if s.imageCause == 0 then s.firmwareRuns else s.enterLimited s.imageCause

/-- FIRMWARE_START. -/
def execFirmwareStart (t : Nat) (s : State) : Host.Outcome State Fault Refusal := .next (firmwareStart (s.at t))

end Sys2Proof.Machine
end

