-- ==== Sys2Proof/Machine/Control.lean ====
section
/-! DEFINITION. Machine/Control.lean: controlled stops, the life-cycle's transitions, PERST#, the Ward watchdog and firmware updates (spec/15 R604–R607,
R612, R616; spec/12 R507, R522–R525; spec/14 R585, R586). -/
namespace Sys2Proof.Machine
open Sys2Proof

/-! ### Sessions and ends -/

/-- Close the sessions that satisfy a test: what they have selected and staged goes with them (spec/03 R96, R106). -/
def State.closeSessions (s : State) (p : Nat → Session → Bool) : State :=
  let gone := (s.gdp.sessions.filter (fun x => p x.1 x.2)).map Prod.fst
  { s with gdp := { s.gdp with
      sessions := s.gdp.sessions.filter (fun x => !p x.1 x.2)
      select := s.gdp.select.filter (fun x => !gone.contains x.session)
      blocks := s.gdp.blocks.filter (fun x => !gone.contains x.session) } }

/-- A session arrived on the management port or on I3C. -/
def Session.remote (x : Session) : Bool :=
  match x.path with
  | .mailbox _ _ => false
  | _ => true

/-- Every request ends at once with a cause. -/
def State.stopAll (s : State) (cause : Nat) : State :=
  let act := (s.srv.reqs.filter (fun x => x.2.active)).map Prod.fst
  act.foldl (fun (s : State) i => (s.endReq i cause).dropSeq i) s

/-! ### Controlled stops (R604) -/

/-- Every trim record that waits is written. -/
def State.writeDeferred (s : State) : State := ((s.eng.filter (fun x => x.2.nvDue)).map Prod.fst).foldl State.writeTrims s

/-- The Ward writes what waits for flash. -/
def State.saveAll (s : State) : State := (s.writeQueue s.evt.queue.length).saveOp

/-- A DEV_POWER_CMD that waits is carried out (R604). -/
def State.devPower (s : State) : State :=
  let c := s.boot.command
  if c == 0 || !(s.boot.ward || s.boot.recovery) then s else
  let s := (s.setBoot (fun b => { b with command := 0 })).stopAll 4
  let s := if c == 2 then s.writeDeferred else s
  s.saveAll.powerDown allDown c

/-! ### Life-cycle transitions (spec/12 R507, R522–R525) -/

/-- Every keyway is removed, keys and management key destroyed, memory zeroed, every placed tier erased (spec/12 Table 12.9). -/
def State.eraseAll (s : State) : State :=
  let off (s : State) (n : Nat) : State :=
    let s := s.removeAtOnce n
    let s := if s.kwState n == .off then s else s.funcTo (.keyway n) .off
    s.putKway n {}
  let s := (List.range 64).foldl off s
  let tiles := s.versions.flatMap (fun v => v.2.2.tiles.map (fun t => (t.eng, t.tier)))
  let s := tiles.foldl (fun (s : State) t => s.eraseTier t.1 t.2) s
  let s := ((List.range 16).filter (fun n => (s.slot n).state != .empty)).foldl State.freeSlot s
  { s with ward := { s.ward with keys := [], mgmtKey := none, mgmtNext := none }, kwMem := [] }

/-- An accepted transition is applied at the boundary (R525); with none, a replaced management key takes effect and closes the sessions that proved
the old one (R507). -/
def State.lcBoundary (s : State) : State :=
  match s.ward.lcNext with
  | some target =>
    let s : State := { s with ward := { s.ward with lcNext := none, erasing := some target } }
    if target == 3 then
      ({ s with ward := { s.ward with mgmtKey := s.ward.mgmtNext, mgmtNext := none } }).closeSessions (fun _ x => x.claim)
    else if target == 4 || target == 5 then s.eraseAll
    else s
  | none =>
    match s.ward.mgmtNext with
    | some k => ({ s with ward := { s.ward with mgmtKey := some k, mgmtNext := none } }).closeSessions (fun _ x => x.remote)
    | none => s

/-- The Ward has completed the erasures of a transition (R525): the fuse is written and the device resets. -/
def lcErased (s : State) : State :=
  match s.ward.erasing with
  | none => s
  | some target =>
    if !s.boot.ward then s else
    let old := s.ward.lc
    let w : WardS := { s.ward with erasing := none, lc := target
                                   returns := if target == 4 then s.ward.returns + 1 else s.ward.returns
                                   uds := if target == 5 then false else s.ward.uds || target == 2 }
    let s : State := { s with ward := w, store := if target == 5 then [] else s.store }
    (s.raise 0x1C03 0xFF 0 old target).saveAll.warmRestart 2

/-- LC_ERASURES_DONE. -/
def execLcErasuresDone (t : Nat) (s : State) : Host.Outcome State Fault Refusal := .next (lcErased (s.at t))

/-! ### PERST# (R607) -/

/-- PERST# falls: the PCIe interface resets, every keyway's removal starts at once. -/
def perstLow (s : State) : State :=
  if s.boot.perst || !s.boot.v3p3 then s else
  let s := (List.range 64).foldl State.kwReset s
  let doe : SpdmConn → Bool
    | .doe _ => true
    | .i3c _ => false
  let s : State := { s with
    boot := { s.boot with perst := true, link := false }
    ward := { s.ward with vfs := 0, streams := [], spdm := s.ward.spdm.filter (fun x => !doe x.1) }
    gdp := { s.gdp with select := s.gdp.select.filter (fun x => decide (x.session < 0x8000))
                        blocks := s.gdp.blocks.filter (fun x => decide (x.session < 0x8000)) } }
  (s.inc .HOST_RESETS).raise 0x4F03 0xFF

/-- PERST_ASSERT. -/
def execPerstAssert (t : Nat) (s : State) : Host.Outcome State Fault Refusal := .next (perstLow (s.at t))

/-- PERST# rises: the link trains, and every keyway that was started and whose FUNC_ENABLE is 1 opens as a latched enable. -/
def perstHigh (s : State) : State :=
  if !s.boot.perst then s else
  let s := s.setBoot (fun b => { b with perst := false, link := s.hubUp && decide (3 ≤ b.state) && b.state != 8 })
  let again (s : State) (n : Nat) : State :=
    let f : Func := .keyway n
    let g := s.func f
    if s.boot.started.contains f && s.enabled f && (g.state == .off || g.state == .closing) then s.putFunc f { g with latched := true } else s
  (List.range 64).foldl again s

/-- PERST_DEASSERT. -/
def execPerstDeassert (t : Nat) (s : State) : Host.Outcome State Fault Refusal := .next (perstHigh (s.at t))

/-! ### The Ward watchdog (spec/14 R585, R586) -/

/-- 100 ms of the watchdog's oscillator, and 10 minutes, in picoseconds. -/
def wdtLimit : Nat := 100000000000
def wdtWindow : Nat := 600000000000000

/-- The Ward restarts its counter. -/
def wdtRestart (s : State) : State := if s.boot.ward then { s with evt := { s.evt with wdtLast := s.now } } else s

/-- WARD_WDT_RESTART. -/
def execWardWdtRestart (t : Nat) (s : State) : Host.Outcome State Fault Refusal := .next (wdtRestart (s.at t))

/-- The stop of a third expiry (R586), at its boundary. -/
def State.wdtStopNow (s : State) : State :=
  if !s.evt.wdtStop then s else
  (({ s with evt := { s.evt with wdtStop := false } }).stopAll 10).powerDown allDown 0

/-- The counter expires: the Ward is reset, and a third time within 10 minutes held. PENDING banks that run become BAD before BOOT_STATE 6 or 7
(spec/15 R612). -/
def wdtExpiry (s : State) : State :=
  if !s.boot.por || !s.boot.v3p3 || !s.railOn 23 || s.evt.wdtHeld || s.now < s.evt.wdtLast + wdtLimit then s else
  let late := s.boot.state == 6 || s.boot.state == 7
  let recent := s.evt.wdtTimes.filter (fun x => decide (s.now < x + wdtWindow)) ++ [s.now]
  let held := decide (recent.length ≥ 3)
  let s := s.inc .WARD_WDT_RESETS
  let b := if late then s.boot else s.boot.settlePending 3 true
  let b : BootS := { (if held then b else b.loadKind 1) with ward := false }
  let s : State := { s with
    boot := { b with recovery := !held && (b.running 1).isNone }
    evt := { s.evt with opMs := s.opMsNow, opSince := none, wdtTimes := recent, wdtLast := s.now, wdtHeld := held, wdtStop := held, wdtBack := !held } }
  if held && s.beat.mode == .seeking then s.wdtStopNow else s

/-- WARD_WDT_EXPIRY. -/
def execWardWdtExpiry (t : Nat) (s : State) : Host.Outcome State Fault Refusal := .next (wdtExpiry (s.at t))

/-! ### Firmware updates (R616) -/

/-- Segment s of FW_SEG_SEL is staged. -/
def State.stageSeg (s : State) (b : Bytes) : State := s.setBoot (fun x => { x with staged := mapSet x.staged (s.set0 .FW_SEG_SEL) b })

/-- FW_COMMIT begins a check of an image of FW_TARGET's kind. -/
def State.commitStart (s : State) (len : Nat) : State :=
  s.setBoot (fun b => { b with commit := some len, commitKind := s.set0 .FW_TARGET, result := 1 })

/-- Bytes of a bank (Table 15.5). -/
def bankSize (kind : Nat) : Nat := if kind == 1 then 1048576 else if kind == 2 then 6291456 else 3145728

/-- The staged segments as one image. -/
def BootS.image (b : BootS) : Bytes := (List.range 6).flatMap (fun i => mapGet b.staged i [])

/-- A header of a kind: MAGIC, KIND, layout version, a body that fits the bank, Brynfa's signature (R611). -/
def headerOk (kind : Nat) (h : Bytes) : Bool :=
  leAt h 0 4 == 0x474D4946 && leAt h 4 1 == kind && leAt h 5 1 == 1 && leAt h 6 2 == 0 && leAt h 14 2 == 0 && leAt h 36 12 == 0 &&
    decide (192 + leAt h 32 4 ≤ bankSize kind) && Config.ecdsaOk 0 (sha384 (h.take 96)) ((h.drop 96).take 96)

/-- The active bank of a kind: the one that runs, else the newest VALID one. -/
def BootS.active (b : BootS) (kind : Nat) : Option Nat :=
  match b.running kind with
  | some i => some i
  | none => b.newestBank kind

/-- The bank of a kind that is not active. -/
def BootS.inactive (b : BootS) (kind : Nat) : Nat :=
  match b.active kind with
  | some i => 4 * (kind - 1) + 1 - i
  | none => 2 * (kind - 1)

/-- A staged image fails its checks: both banks are unchanged. -/
def State.fwReject (s : State) (result : Nat) : State := (s.setBoot (fun b => { b with commit := none, result := result })).raise 0x4F02 0xFF

/-- The commit ends (R616). -/
def commitDone (s : State) : State :=
  match s.boot.commit with
  | none => s
  | some len =>
    let kind := s.boot.commitKind
    let img := s.boot.image
    let h := img.take 192
    if img.length != len || 192 + leAt h 32 4 != len then s.fwReject 4
    else if !headerOk kind h then s.fwReject 3
    else
      let body := img.drop 192
      let old := (s.boot.active kind).elim 0 (fun i => (s.boot.bank i).seq)
      let x : Bank := { state := 2, seq := (old + 1) % 4294967296, hdr := h, body := body, good := sha384 body == (h.drop 48).take 48 }
      (s.setBoot (fun b => { b.putBank (b.inactive kind) x with commit := none, result := 2, staged := [] })).raise 0x1F02 0xFF

/-- FW_COMMIT_DONE. -/
def execFwCommitDone (t : Nat) (s : State) : Host.Outcome State Fault Refusal := .next (commitDone (s.at t))

/-- FW_BANK_SELECT: the VALID bank of a kind that is not active becomes PENDING. -/
def State.bankSelect (s : State) (kind : Nat) : State :=
  let i := s.boot.inactive kind
  if (s.boot.bank i).state == 1 then s.setBoot (fun b => b.putBank i { b.bank i with state := 2 }) else s

/-! ### The boot's part of a boundary -/

/-- Every engine of a power-up calibration has committed or been discarded (spec/07 R293). -/
def State.calSettled (s : State) : Bool := s.eng.all (fun x => x.2.retired || decide (0 < x.2.runsDone + x.2.runsDiscarded))

/-- BOOT_STATE 6 at the first boundary with a slot in service, PENDING banks VALID with it; the first step (R609, R612). -/
def State.bootBoundary (s : State) : State :=
  let s := if s.boot.calWait && s.calSettled then s.setBoot (fun b => { b with calWait := false }) else s
  let serving := s.slots.slots.any (fun x => x.2.state == .serving || x.2.state == .degraded)
  let s := if s.boot.state == 5 && serving then (s.setBoot (fun b => { b.settlePending 1 false with state := 6 })).milestone 11 else s
  if !s.boot.stepped && s.beat.mode != .seeking && s.firmwareUp && !s.boot.calWait then s.setBoot (fun b => { b with stepped := true }) else s

/-! ### Objects -/

/-- IMAGE_INFO: six headers (R626); what an EMPTY bank's place holds is as built (log 9). -/
def State.imageInfo (s : State) : Bytes :=
  [1, 2, 3].flatMap (fun kind => (kindBanks kind).flatMap (fun i =>
    if (s.boot.bank i).state == 0 then (List.range 192).map (Config.asBuilt (16 + i)) else padTo 192 ((s.boot.bank i).header kind)))

/-- BANK_STATE: state, running (R626). -/
def State.bankStates (s : State) : Bytes :=
  [1, 2, 3].flatMap (fun kind => (kindBanks kind).flatMap (fun i => leBytes 1 ((s.boot.bank i).state + (if s.boot.running kind == some i then 4 else 0))))

/-- IF_REVS: of the images that run. -/
def State.ifRevBytes (s : State) : Bytes := [1, 2, 3].flatMap (fun kind => leBytes 2 (ifRev (s.boot.runHdr kind)))

end Sys2Proof.Machine
end

