-- ==== Sys2Proof/Machine/Read.lean ====
section
/-! DEFINITION. Machine/Read.lean: what an object of the dictionary reads as, in the physical dictionary and in a keyway's view (spec/03 R107–R121,
R126–R130 and the object tables of every chapter). -/
namespace Sys2Proof.Machine
open Sys2Proof

/-- Who asks: session number, the path it came by, the view addressed (none: the physical dictionary), level, and whether it proved the
management key or claims the device (R96, R126, R127, R523). -/
structure Ctx where
  sid    : Nat
  path   : GdpPath
  view   : Option Nat := none
  expert : Bool := false
  keyed  : Bool := false
  claim  : Bool := false
  deriving DecidableEq, Repr

/-- TRANSPORT (Table 3.8). -/
def pathCode : GdpPath → Nat
  | .mgmt _ _ _ => 0 | .i3c _ _ _ => 1 | .mailbox _ _ => 2

/-- The source of a request (R96): its transport with the sender's IP address or MCTP endpoint. -/
def pathSource : GdpPath → Nat × Nat
  | .mgmt src _ _ => (0, src) | .i3c src _ _ => (1, src) | .mailbox fn _ => (2, fn)

/-- A datagram or message is a GDP frame: UDP port 47900, MCTP type 0x7E with the device's own vendor identifier (R86, R87). -/
def pathTakes : GdpPath → Bool
  | .mgmt _ _ dst => dst == 47900
  | .i3c _ kind vendor => kind == 0x7E && vendor == Config.pciVendor
  | .mailbox _ _ => true

/-- The keyway whose mailbox a path is; the physical function's mailbox is no keyway's (R126). -/
def pathOwn : GdpPath → Option Nat
  | .mailbox fn _ => if fn == 0 then none else some fn
  | _ => none

/-- The keyway addressed; the physical dictionary counts as KW0's (spec/12 Table 12.1). -/
def Ctx.kw (c : Ctx) : Nat := c.view.getD 0

/-! ### Names -/

/-- The function an index names (R123). -/
def funcOfIndex (i : Nat) : Option Func :=
  if 0x2410 ≤ i && i < 0x2420 then some (.slot (i - 0x2410))
  else if 0x3010 ≤ i && i < 0x3027 then some (.port (i - 0x3010))
  else if 0x8000 ≤ i && i < 0xC000 && i % 256 == 0 then some (.keyway ((i - 0x8000) / 256))
  else none

/-- The instance of an object that an index and subindex name, if it is one of this object's (R107, R113). -/
def objAt (o : Obj) (index sub kw : Nat) : Option OKey :=
  let sp := o.spec
  let w := if sp.perKw then kw else 0
  if sp.index == 0 then (if sub == sp.sub && (funcOfIndex index).isSome then some ⟨o, index, 0⟩ else none)
  else if sp.index == 0x8000 then
    (if sub == sp.sub && 0x8000 ≤ index && index < 0xC000 && index % 256 == 0 then some ⟨o, 0, (index - 0x8000) / 256⟩ else none)
  else if sp.nSub > 1 then (if index == sp.index && sp.sub ≤ sub && sub < sp.sub + sp.nSub then some ⟨o, sub - sp.sub, w⟩ else none)
  else if sub == sp.sub && sp.index ≤ index && index < sp.index + sp.nIdx then some ⟨o, index - sp.index, w⟩ else none

/-- The object an index and subindex name. -/
def findObj (index sub kw : Nat) : Option OKey := Obj.all.findSome? (fun o => objAt o index sub kw)

/-- The index range an object belongs to (Table 3.7): that of its function for a function's subindices. -/
def keyClass (k : OKey) : Nat :=
  let i := k.obj.spec.index
  if i != 0 then i else
  match funcOfIndex k.inst with
  | some (.slot _) => 0x2410
  | some (.port _) => 0x3010
  | _ => 0x8000

/-- The slot that an object of a slot index belongs to. -/
def keySlotNo (k : OKey) : Nat := if k.obj.spec.index == 0 then k.inst - 0x2410 else k.inst

/-- The keyway whose window holds an object. -/
def keyWindow (k : OKey) : Nat := if k.obj.spec.index == 0 then (k.inst - 0x8000) / 256 else k.kw

/-! ### Views (R126–R130) -/

/-- A keyway's view shows a slot that it owns or that SLOT_SHARE grants it (spec/08 R350). -/
def State.slotSeen (s : State) (n slot : Nat) : Bool := s.slotFor n slot

/-- A keyway's view holds an object (Table 3.14 and the chapters it names). -/
def State.visible (s : State) (n : Nat) (k : OKey) : Bool :=
  let e := k.obj.spec.expert
  match keyClass k with
  | 0x2100 => !e
  | 0x2300 => !e
  | 0x2310 => false
  | 0x2320 => k.obj == .CAL_INFO
  | 0x2410 => s.slotSeen n (keySlotNo k)
  | 0x2510 => s.slotSeen n (keySlotNo k)
  | 0x3000 => !e
  | 0x3010 => !e
  | 0x4000 => [Obj.LC_STATE, .JTAG_STATE, .MEAS_REG, .KEX_ID, .KEX_PUBLIC, .KEY_INSTALL, .KEY_QUERY, .KEY_INFO].contains k.obj
  | 0x5000 => !e
  | 0x5100 => !e
  | 0x5200 => !e
  | 0x6000 => k.obj == .AUDIT_AFFECTED_COUNT || k.obj == .AUDIT_AFFECTED_LIST
  | 0x6100 => [Obj.EVT_NEWEST_SEQ, .EVT_OLDEST_SEQ, .EVT_QUERY, .EVT_WINDOW, .EVT_LAST, .EVT_DROPPED, .EVT_VECTOR, .POWER_CYCLES, .OP_HOURS].contains k.obj
  | 0x8000 => keyWindow k == n
  | _ => true

/-- A view does not permit a write of an object it holds (Table 3.14, R129; spec/06 R259, spec/08 R349, R350, spec/09 R401, spec/10 R441). -/
def State.viewBars (s : State) (n : Nat) (k : OKey) : Bool :=
  let sp := k.obj.spec
  let rw := sp.acc == .rw || sp.acc == .wo
  let owner := (s.slot (keySlotNo k)).owner == n
  match keyClass k with
  | 0x1200 => k.obj != .UNIT_QUERY
  | 0x2100 => k.obj != .ENG_QUERY
  | 0x1F00 => false
  | 0x2000 => rw && !sp.perKw
  | 0x2200 => rw && !sp.perKw
  | 0x2400 => !sp.perKw
  | 0x2410 => k.obj == .SLOT_SHARE || ([Obj.SLOT_CMD, .SLOT_MANIFEST, .SWAP_MODE, .SLOT_SOURCE, .FUNC_ENABLE].contains k.obj && !owner)
  | 0x2500 => rw && !sp.perKw
  | 0x2510 => k.obj == .ATTN_MAP && !owner
  | 0x2600 => rw && !sp.perKw
  | 0x2610 => false
  | 0x3100 => false
  | 0x4000 => false
  | 0x6000 => false
  | 0x6100 => false
  | _ => true

/-- The object named exists for whoever asks (R113, R129). -/
def State.lookup (s : State) (c : Ctx) (index sub : Nat) : Option OKey :=
  match findObj index sub c.kw with
  | none => none
  | some k => match c.view with
    | none => some k
    | some n => if s.visible n k then some k else none

/-- Subindices of an index, 0x00 apart, that exist for whoever asks. -/
def State.subs (s : State) (c : Ctx) (index : Nat) : List Nat := ((List.range 256).drop 1).filter (fun x => (s.lookup c index x).isSome)

/-- The highest subindex in use; none for an index that does not exist (R107). -/
def State.topSub (s : State) (c : Ctx) (index : Nat) : Option Nat := (s.subs c index).getLast?

/-! ### Selectors and units -/

/-- What a session last wrote to a selector, or its default (R83, R217, R351, R401, R409, R441, R488, R526, R597). -/
def State.selected (s : State) (c : Ctx) (k : OKey) : Nat :=
  match s.gdp.select.find? (fun x => x.session == c.sid && x.key == k) with
  | some x => x.value
  | none => ovNat (dfltOf s.part k)

/-- A selector written. -/
def State.select (s : State) (c : Ctx) (k : OKey) (v : Nat) : State :=
  { s with gdp := { s.gdp with select := s.gdp.select.filter (fun x => !(x.session == c.sid && x.key == k)) ++ [⟨c.sid, k, v⟩] } }

/-- The engine and tier that ENG_QUERY names, T0 for an engine (spec/05 R216). -/
def State.queried (s : State) (c : Ctx) : Nat × Nat :=
  let v := s.selected c ⟨.ENG_QUERY, 0, 0⟩
  (s.engineOf v, if uidType v == 5 then uidTierOf v else 0)

/-- An engine lies inside a keyway's quotas. -/
def State.engSeen (s : State) (v : Option Nat) (eng : Nat) : Bool :=
  match v with
  | none => true
  | some n => s.coreQuota n (eng / 16)

/-- Every core of a unit lies inside a keyway's quotas (spec/02, "Hierarchy objects"). -/
def State.unitSeen (s : State) (v : Option Nat) (u : UnitId) : Bool :=
  match v with
  | none => true
  | some n =>
    let per := s.coresPer
    let cl := uidDieOf u * 16 + uidClusterOf u
    let all (first count : Nat) : Bool := (List.range count).all (fun i => s.coreQuota n (first + i))
    match uidType u with
    | 0x1 => all (uidDieOf u * 16 * per) (16 * per)
    | 0x2 => all (cl * per) per
    | 0x3 => s.coreQuota n (s.coreOf u)
    | 0x4 => s.coreQuota n (s.coreOf u)
    | 0x5 => s.coreQuota n (s.coreOf u)
    | 0x6 => all (cl * per) per
    | 0x7 => all ((uidDieOf u * 16 + bits u 22 2 * 4) * per) (4 * per)
    | _ => false

/-- UNIT_STATE (spec/02 R83): DISABLED for a disabled site and for a unit outside the view. -/
def State.unitRead (s : State) (c : Ctx) : Nat :=
  match s.siteUnit (s.selected c ⟨.UNIT_QUERY, 0, 0⟩) with
  | none => UState.disabled.code
  | some u =>
    if (uidType u == 3 && u.testBit 10) || !s.unitSeen c.view u then UState.disabled.code else (s.unitState u).code

/-- The unit that a write of an object names exists, and lies in the view where the view limits it (spec/02 R76, spec/05 R216, R217, spec/14 R593,
R594). -/
def State.unitNamed (s : State) (c : Ctx) (o : Obj) (v : Nat) : Bool :=
  let eng (tiers : Bool) : Bool := match s.canonUnit v with
    | some u => (uidType u == 4 || (tiers && uidType u == 5)) && s.engSeen c.view (s.engineOf u)
    | none => false
  match o with
  | .UNIT_QUERY => (s.siteUnit v).isSome
  | .ENG_QUERY => eng true
  | .ENG_RETIRE_REQ => eng true
  | .CAL_RUN_REQ => eng true
  | .LBIST_RUN => (s.lbistUnit v).isSome
  | .ARRAY_TEST_RUN => eng false
  | .KEY_QUERY => (match c.view with
    | none => true
    | some n => s.setK .DMA_KEY_SLOT n == v || s.setK .LINK_KEY_SLOT n == v)
  | _ => true

/-- A keyway's mailbox asks for its own view. -/
def Ctx.isOwn (c : Ctx) (n : Nat) : Bool := pathOwn c.path == some n

/-- A keyway is confidential towards the asker (spec/12 R517). -/
def State.hiddenKw (s : State) (c : Ctx) (n : Nat) : Bool := (s.kway n).conf && !c.isOwn n

/-- What a session has selected lies in the view, for an object that answers for it (spec/05 R217, spec/06 R259, spec/07 R301, spec/09 R401,
spec/10 R441, spec/12 R527). A confidential keyway's requests and sequences are denied before they are looked for (spec/12 R517). -/
def State.answers (s : State) (c : Ctx) (o : Obj) : Bool :=
  match c.view with
  | none => true
  | some n => match o with
    | .ENG_INFO => s.engSeen c.view (s.queried c).1
    | .CAL_INFO => s.engSeen c.view (s.queried c).1
    | .RESID_TABLE => s.engSeen c.view (s.queried c).1
    | .SEQ_INFO => s.hiddenKw c n || (let q := s.seqAt (s.selected c ⟨.SEQ_QUERY, 0, n⟩); q.state != 0 && q.kw == n)
    | .REQ_INFO => s.hiddenKw c n || (let r := s.req (s.selected c ⟨.REQ_QUERY, 0, n⟩); r.state != .free && r.kw == n)
    | .KEY_INFO => (let k := s.selected c ⟨.KEY_QUERY, 0, 0⟩; s.setK .DMA_KEY_SLOT n == k || s.setK .LINK_KEY_SLOT n == k)
    | _ => true

/-- A read that confidential mode forbids (spec/12 R517): by the physical function, of what belongs to a confidential keyway. -/
def State.secret (s : State) (c : Ctx) (k : OKey) : Bool :=
  let hidden := s.hiddenKw c
  let viewed : Bool := match c.view with
    | some n => hidden n
    | none => false
  match k.obj with
  | .REQ_INFO => viewed || (let r := s.req (s.selected c ⟨.REQ_QUERY, 0, k.kw⟩); r.state != .free && hidden r.kw)
  | .SEQ_INFO => viewed || (let q := s.seqAt (s.selected c ⟨.SEQ_QUERY, 0, k.kw⟩); q.state != 0 && hidden q.kw)
  | .ADAPTER_TABLE => hidden k.kw
  | .LATCH_INFO => (match s.latchOf k.kw (s.selected c ⟨.LATCH_QUERY, 0, k.kw⟩) with
    | some p => (List.range 64).any (fun n => hidden n && inRange (s.latchRange n) p)
    | none => false)
  | _ => false

/-! ### Read-only objects -/

/-- A universally administered unicast address (spec/12 R641): the two low bits of its first octet, [47:40], are 0 (log 9). -/
def mgmtMac (v : Nat) : Nat := v % 2 ^ 40 + v / 2 ^ 42 % 64 * 2 ^ 42

/-- A counter or another cell: a keyway's own in its view, where the Expert ones of a confidential keyway read 0 (spec/12 R517). -/
def State.cell (s : State) (c : Ctx) (k : OKey) : Nat :=
  let sp := k.obj.spec
  let own := sp.perKw || sp.index == 0x1F00
  match c.view with
  | none => s.count ⟨k.obj, k.inst, 0⟩
  | some n =>
    if !own then s.count ⟨k.obj, k.inst, 0⟩
    else if sp.expert && (s.kway n).conf && [0x2000, 0x2200, 0x2500, 0x2600, 0x3100].contains sp.index then 0
    else s.count ⟨k.obj, k.inst, n + 1⟩

/-- Records of a ring of `size` places as its place p shows them, when `total` records have been written and `l` holds the last of them, oldest
first (R118, R119). -/
def ringPlace {α : Type} (size total p : Nat) (l : List α) : Option α :=
  ((l.zipIdx).find? (fun x => (total - l.length + x.2) % size == p)).map Prod.fst

/-- CLAMP_REC_n (Table 3.8). -/
def ClampRec.bytes (r : ClampRec) : Bytes :=
  leBytes 2 r.index ++ leBytes 1 r.sub ++ leBytes 1 r.field ++ leBytes 2 r.session ++ leBytes 1 r.transport ++ leBytes 1 r.keyway ++
    leBytes 8 r.written ++ leBytes 8 r.applied ++ leBytes 8 r.notch

/-- RESP_REC_n (Table 3.9). -/
def RespRec.bytes (r : RespRec) : Bytes :=
  leBytes 2 r.index ++ leBytes 1 r.sub ++ leBytes 1 r.op ++ leBytes 1 r.status ++ leBytes 1 r.detail ++ leBytes 2 r.session ++
    leBytes 1 r.transport ++ leBytes 1 r.keyway ++ zeros 6 ++ leBytes 8 r.notch

/-- A record whose KEYWAY the view shows. -/
def inKw (v : Option Nat) (kw : Nat) : Bool := match v with
  | none => true
  | some n => kw == n

/-- Beat, hierarchies, dictionary (Tables 1.3, 2.8, 3.10, 3.12). -/
def State.readBase (s : State) (c : Ctx) (k : OKey) : Option OVal :=
  let f := (funcOfIndex k.inst).getD (.slot 0)
  match k.obj with
  | .BEAT_STATE => some (.num s.beat.mode.code)
  | .BEAT_PERIOD_EST => some (.num (s.periodEst / 1000))
  | .BEAT_PHASE_ERR => some (.num (unsigned 32 s.beat.phaseErr))
  | .BEAT_NUMBER => some (.num (if s.beat.mode = .seeking then 0 else s.beatNow))
  | .NOTCH_NOW => some (.num s.notchNow)
  | .CLUSTERS_ONLINE => some (.num s.clustersOnline)
  | .QUAD_GATED => some (.num s.quadGated)
  | .HASP_LIVE => some (.num s.haspBits)
  | .STEP_LEADER => some (.num s.hier.leader)
  | .UNIT_STATE => some (.num (s.unitRead c))
  | .CORE_SITE_MAP_n => some (.num (s.siteMap k.inst))
  | .SESSIONS_OPEN => some (.num ((s.gdp.sessions.filter (fun x => decide (x.1 < 0x8000) && x.2.proved)).length))
  | .CLAMP_NEXT => some (.num (s.gdp.clampN % 32))
  | .RESP_NEXT => some (.num (s.gdp.respN % 64))
  | .CLAMP_REC_n => some (.blob (match ringPlace 32 s.gdp.clampN k.inst s.gdp.clamps with
    | some r => if inKw c.view r.keyway then r.bytes else zeros 32
    | none => zeros 32))
  | .RESP_REC_n => some (.blob (match ringPlace 64 s.gdp.respN k.inst s.gdp.resps with
    | some r => if inKw c.view r.keyway then r.bytes else zeros 24
    | none => zeros 24))
  | .FUNC_STATE => some (.num (s.func f).state.code)
  | .FUNC_LATCHED => some (.num (if (s.func f).latched then 1 else 0))
  | .FUNC_OPEN_LIMIT => some (.num (openLimit f))
  | .FUNC_CLOSE_LIMIT => some (.num (closeLimit f))
  | .FUNC_FAIL_CAUSE => some (.num (s.func f).cause)
  | _ => none

/-- Engines inside a view. -/
def State.enginesOf (s : State) (v : Option Nat) : Nat := match v with
  | none => s.numEngines
  | some n => 16 * ((List.range s.numCores).filter (s.coreQuota n)).length

/-- A sum over the engines of a view that differ from a new one. -/
def State.engSum (s : State) (v : Option Nat) (f : EngS → Nat) : Nat :=
  sumNat ((s.eng.filter (fun x => s.engSeen v x.1)).map (fun x => f x.2))

/-- Engines and calibration (Tables 5.18, 6.6, 7.9): in a view the counts cover the engines inside the quotas. -/
def State.readEng (s : State) (c : Ctx) (k : OKey) : Option OVal :=
  let v := c.view
  let q := s.queried c
  let tiers (h : Health) : Nat := s.tiersIn h (s.engSeen v)
  let sumIn (f : EngS → Nat) : Option OVal := if v.isNone then none else some (.num (s.engSum v f))
  match k.obj with
  | .ENGINES_AVAILABLE => some (.num (s.enginesOf v - s.engSum v (fun e => if e.retired then 1 else 0)))
  | .ENGINES_RETIRED => some (.num (s.engSum v (fun e => if e.retired then 1 else 0)))
  | .TIERS_GOOD => some (.num (4 * s.enginesOf v - tiers .suspect - tiers .worn - tiers .retired))
  | .TIERS_SUSPECT => some (.num (tiers .suspect))
  | .TIERS_WORN => some (.num (tiers .worn))
  | .TIERS_RETIRED => some (.num (tiers .retired))
  | .SPARES_USED => some (.num (s.engSum v (fun e => sumNat (e.tiers.map (fun t => (t.remap.filter (fun r => r.2.v)).length)))))
  | .SAT_COUNT => sumIn (·.sat)
  | .RANGE_FAIL_COUNT => sumIn (·.rangeFail)
  | .ENG_INFO => some (.blob (s.engInfo q.1))
  | .REMAP_TABLE => some (.blob (s.remapTable q.1 q.2))
  | .RESID_TABLE => some (.blob (table544 ((s.engine q.1).active.resid.getD q.2 [])))
  | .TRIM_TABLE => some (.blob (table544 ((s.engine q.1).active.trims.getD q.2 [])))
  | .CAL_INFO => some (.blob (s.calInfo q.1))
  | .CAL_DUE_COUNT => some (.num (s.engSum v (fun e => if e.due.isSome then 1 else 0)))
  | .CAL_RUNS_DONE => sumIn (·.runsDone)
  | .CAL_RUNS_DISCARDED => sumIn (·.runsDiscarded)
  | .CAL_COLUMNS_REJECTED => sumIn (·.colsRejected)
  | .CAL_DT_WORST => some (.num (((s.eng.filter (fun x => s.engSeen v x.1)).map (fun x => (s.tdiff x.1).getD 0)).foldl max 0))
  | .CAL_REF_DEV_d => some (.num (unsigned 32 (mapGet s.cal.refDev k.inst 0)))
  | .CAL_DIES_HALTED => some (.num (sumNat ((List.range 4).map (fun d =>
      if s.cal.halted.contains d && (List.range (16 * s.coresPer)).any (fun i => s.engSeen v (16 * (d * 16 * s.coresPer + i))) then 2 ^ d else 0))))
  | .AUDIT_AFFECTED_LIST => some (.blob (padTo 768 ((match v with
      | none => ((s.evt.affected.flatMap Prod.snd).drop ((s.evt.affected.flatMap Prod.snd).length - 32))
      | some n => mapGet s.evt.affected n []).flatten)))
  | _ => none

/-- A version's number, 0 for none. -/
def verNo (v : Option Version) : Nat := (v.map (·.number)).getD 0

/-- Slots (Tables 8.12, 8.13). -/
def State.readSlot (s : State) (c : Ctx) (k : OKey) : Option OVal :=
  let x := s.slot k.inst
  match k.obj with
  | .SLOTS_SERVING => some (.num s.slotsServing)
  | .ENGINES_IDLE => some (.num s.enginesIdle)
  | .TIERS_FREE => some (.num s.tiersFree)
  | .SLOT_STATE => some (.num x.state.code)
  | .SLOT_CMD_RESULT => some (.num x.result)
  | .LOAD_FAIL_CODE => some (.num x.fail)
  | .SLOT_OWNER => some (.num x.owner)
  | .SWAP_STATE => some (.num x.swapSt.code)
  | .MODEL_ID => some (.num ((x.cur.map (·.model)).getD 0))
  | .CURRENT_VERSION => some (.num (verNo x.cur))
  | .PENDING_VERSION => some (.num (verNo x.pend))
  | .OLD_VERSION => some (.num (verNo x.old))
  | .MANIFEST_DIGEST => some (.blob ((x.cur.map (fun v => hdrDigest v.manifest)).getD (zeros 48)))
  | .SHARDS_PENDING => some (.num (sumNat ([x.cur, x.pend].map (fun v => (v.map (·.reqs.length)).getD 0))))
  | .SHARD_RETRIES => some (.num x.retries)
  | .TILES_PLACED => some (.num (sumNat ([x.cur, x.pend, x.old].map (fun v => (v.map (·.tiles.length)).getD 0))))
  | .TILES_DIGITAL => some (.num (s.tilesDigital k.inst))
  | .PLACE_WINDOW => some (.blob (s.placeWindow k.inst (s.selected c ⟨.PLACE_QUERY, k.inst, 0⟩)))
  | .ATTN_MAP_VERSIONS => some (.blob (s.mapVersions k.inst))
  | _ => none

/-- Attention, serving, latches (Tables 9.9, 10.9, 11.18). -/
def State.readServe (s : State) (c : Ctx) (k : OKey) : Option OVal :=
  match k.obj with
  | .KV_BYTES_USED => some (.num (s.kvBytes c.view))
  | .KV_PAGES_USED => some (.num (s.kvPages c.view).length)
  | .SEQS_ACTIVE => some (.num (s.seqCount c.view (fun q => q.state == 1)))
  | .RING_SEQS => some (.num (s.seqCount c.view (fun q => q.ring)))
  | .EPOCH_OLDEST => some (.num (s.oldestEpoch.getD 0))
  | .SEQ_INFO => some (.blob (s.seqAt (s.selected c ⟨.SEQ_QUERY, 0, k.kw⟩)).info)
  | .REQS_ACTIVE => some (.num (s.reqCount c.view (fun r => r.active && r.state != .queued)))
  | .REQS_QUEUED => some (.num (s.reqCount c.view (fun r => r.state == .queued)))
  | .REQ_INFO => some (.blob (s.req (s.selected c ⟨.REQ_QUERY, 0, k.kw⟩)).info)
  | .HIST_WINDOW =>
    let q := s.selected c ⟨.HIST_QUERY, 0, k.kw⟩
    some (.blob (s.histWindow (match c.view with
      | none => q / 1024 % 64
      | some n => n) q))
  | .LATCHES_IN_VIEW => some (.num (s.latchesInView k.kw))
  | .LATCH_INFO => some (.blob (s.latchInfo k.kw (s.selected c ⟨.LATCH_QUERY, 0, k.kw⟩)))
  | _ => none

/-- Fabric and keyways (Tables 11.16, 11.17, 12.1, 12.10). -/
def State.readTrust (s : State) (c : Ctx) (k : OKey) : Option OVal :=
  let x := s.port k.inst
  match k.obj with
  | .LOGICAL_ADDR => some (.num s.logAddr)
  | .MAP_EPOCH => some (.num s.fab.epoch)
  | .NSLOT => some (.num s.nslot)
  | .OWN_SLOT => some (.num ((s.slotOf s.logAddr).getD 0xFFFF))
  | .FAB_ROLE_STATE => some (.num s.roleState)
  | .LAST_LOST => some (.num s.fab.lastLost)
  | .STANDBY_BYTES => some (.num (sumNat (s.fab.standby.map (·.bytes))))
  | .PORT_LINK => some (.num x.link)
  | .PARTNER_ADDR => some (.num x.partner)
  | .PARTNER_LOGICAL => some (.num x.logical)
  | .LINK_DELAY => some (.num x.delay)
  | .LANES_UP => some (.num x.lanes)
  | .FEC_CORRECTED => some (.num (if x.fecRead == some s.now then 0 else s.freeBelow (2 ^ 64)))
  | .KW_MEM_USED => some (.num (s.mem.pagesUsed k.kw))
  | .LC_STATE => some (.num s.ward.lc)
  | .LC_RETURNS => some (.num s.ward.returns)
  | .LC_NONCE => some (.blob (padTo 32 s.ward.nonce))
  | .JTAG_STATE => some (.num s.jtagState)
  | .MGMT_MAC => some (.num (mgmtMac (leNat ((List.range 6).map (Config.asBuilt 1)))))
  | .KEX_ID => some (.num s.ward.kexId)
  | .KEX_PUBLIC => some (.blob (padTo 97 (Config.kexPublic s.ward.kexDraw)))
  | .KEY_INFO => some (.blob (s.keyInfo (s.selected c ⟨.KEY_QUERY, 0, 0⟩)))
  | .MEAS_REG => some (.blob ((List.range 5).flatMap (fun n => padTo 48 (s.measReg n))))
  | .KEYWAYS_CONFIDENTIAL => some (.num s.confBits)
  | .VFS_ENABLED => some (.num s.ward.vfs)
  | _ => none

/-- Sense block, power, faults, records, BIST, boot (Tables 13.10–13.12, 14.13–14.15, 15.14). -/
def State.readPlant (s : State) (c : Ctx) (k : OKey) : Option OVal :=
  match k.obj with
  | .SENSE_READINGS => some (.blob s.senseReadings)
  | .SENSE_STATE => some (.num s.sense.mode)
  | .XCHK_DIFF => some (.num (unsigned 32 s.sense.xDiff))
  | .SYSCAL_STATUS => some (.num s.sense.cal.status)
  | .PACE_STATE => some (.blob s.pwr.pace)
  | .TJ_MAX_SEEN => some (.num s.tjSeen)
  | .HOTTEST_SOURCE => some (.num s.hottest)
  | .MEM_TEMPS => some (.blob s.memTempsBytes)
  | .PWR_NOW => some (.num (s.p1 / 1000))
  | .P_THR => some (.num s.pwr.pthr)
  | .VCORE_SET => some (.blob s.vcoreSet)
  | .RAIL_INFO => some (.blob s.railInfo)
  | .CPER_LAST => some (.blob (padTo 296 s.evt.cperLast))
  | .EVT_NEWEST_SEQ => some (.num (s.newestSeq c.view))
  | .EVT_OLDEST_SEQ => some (.num (s.oldestSeq c.view))
  | .EVT_WINDOW => some (.blob (s.evtWindow c.view (s.selected c ⟨.EVT_QUERY, 0, 0⟩)))
  | .EVT_DROPPED => some (.num (s.evtDropped c.view))
  | .POWER_CYCLES => some (.num s.evt.cycles)
  | .OP_HOURS => some (.num s.opHours)
  | .CRIT_UNACK => some (.num s.evt.critUnacked.length)
  | .EVT_LAST => some (.blob (s.evtLast c.view))
  | .MBIST_RESULT => some (.num s.bist.outcome)
  | .MBIST_FAIL_COUNT => some (.num s.bist.entries.length)
  | .MBIST_WINDOW => some (.blob (s.mbistWindow (s.selected c ⟨.MBIST_QUERY, 0, 0⟩)))
  | .MBIST_TIME => some (.num s.bist.ms)
  | .BIST_RESULT => some (.blob s.bist.result)
  | .BOOT_STATE => some (.num s.boot.state)
  | .LIMITED_CAUSE => some (.num s.boot.limited)
  | .HOST_READY => some (.num (if s.boot.ready then 1 else 0))
  | .IMAGE_INFO => some (.blob s.imageInfo)
  | .BANK_STATE => some (.blob s.bankStates)
  | .IF_REVS => some (.blob s.ifRevBytes)
  | .FW_COMMIT_RESULT => some (.num s.boot.result)
  | .BOOT_TIMES => some (.blob (s.boot.times.flatMap (leBytes 4)))
  | .RESET_CAUSE => some (.num s.boot.cause)
  | _ => none

/-- A read-only object's value: computed, or a cell. -/
def State.readOnly (s : State) (c : Ctx) (k : OKey) : OVal :=
  ((((((s.readBase c k).orElse (fun _ => s.readEng c k)).orElse (fun _ => s.readSlot c k)).orElse (fun _ => s.readServe c k)).orElse
    (fun _ => s.readTrust c k)).orElse (fun _ => s.readPlant c k)).getD (.num (s.cell c k))

/-! ### Values -/

/-- Size of a scalar object; for a BLOB, of its full layout. -/
def objSize (o : Obj) : Nat := if o.spec.ty == .blob then o.spec.len else tySize o.spec.ty

/-- A selector is read and written by each session for itself. -/
def isSelector (o : Obj) : Bool :=
  [Obj.UNIT_QUERY, .ENG_QUERY, .PLACE_QUERY, .SEQ_QUERY, .REQ_QUERY, .HIST_QUERY, .LATCH_QUERY, .KEY_QUERY, .EVT_QUERY, .MBIST_QUERY].contains o

/-- Whether a setting has its own instance for every keyway or window. -/
def settingKey (k : OKey) : OKey := if k.obj.spec.index == 0x8000 || k.obj.spec.perKw then k else { k with kw := 0 }

/-- The last write of a setting that waits (R103, R104). -/
def State.waitingFor (s : State) (k : OKey) : Option OVal := (s.waiting.reverse.find? (fun x => x.1 == k)).map Prod.snd

/-- The default of the instance addressed (R111); that of FUNC_ENABLE is its function's. -/
def State.dfltValue (s : State) (k : OKey) : OVal :=
  match k.obj with
  | .FUNC_ENABLE => .num (match funcOfIndex k.inst with
    | some f => enableDflt f
    | none => 0)
  | _ => dfltOf s.part k

/-- The value in force of a setting, FUNC_ENABLE's default its function's. -/
def State.inForce (s : State) (k : OKey) : OVal := (cellFind s.cfg k).getD (s.dfltValue k)

/-- What a READ returns, and whether it waits for its time (R103). -/
def State.readValue (s : State) (c : Ctx) (k : OKey) : OVal × Bool :=
  if isSelector k.obj then (.num (s.selected c k), false)
  else if k.obj.spec.acc == .ro || k.obj.spec.acc == .cor then (s.readOnly c k, false)
  else match s.waitingFor k with
    | some v => (v, true)
    | none => (s.inForce k, false)

/-- A value as the bytes of a frame. -/
def valueBytes (o : Obj) (v : OVal) : Bytes :=
  match v with
  | .num n => leBytes (objSize o) n
  | .blob b => b

/-- A clear-on-read object takes its default (R110). What a port's FEC corrects no command reports, so its count reads free once time has passed since
it was last read (log 45). -/
def State.afterRead (s : State) (c : Ctx) (k : OKey) : State :=
  if k.obj.spec.acc != .cor then s else
  match k.obj with
  | .FEC_CORRECTED => s.drawn.putPort k.inst { s.port k.inst with fecRead := some s.now }
  | .TJ_MAX_SEEN => { s with sense := { s.sense with tjMax := none } }
  | _ => s.putCount ⟨k.obj, k.inst, (if k.obj.spec.perKw || k.obj.spec.index == 0x1F00 then (match c.view with
      | none => 0
      | some n => n + 1) else 0)⟩ 0

end Sys2Proof.Machine
end

