-- ==== Sys2Proof/Machine/Trains.lean ====
section
/-! DEFINITION. Machine/Trains.lean: page trains, handoffs and shards over the fabric (spec/11 R466–R470, spec/10 R437, R438). -/
namespace Sys2Proof.Machine
open Sys2Proof

/-! ### Sending -/

/-- Bytes of a page in one TRAIN_PAGE frame. -/
def pagePiece : Nat := 4088
/-- Bytes of a shard in one SHARD_DATA frame. -/
def shardPiece : Nat := 4092

/-- TRAIN_PAGE frames of one page (Table 11.6). -/
def pageItems (ix : Nat) (b : Bytes) : List FlowItem :=
  (List.range ((b.length + pagePiece - 1) / pagePiece)).map (fun k =>
    ⟨0x11, 0, leBytes 4 ix ++ leBytes 4 (pagePiece * k) ++ (b.drop (pagePiece * k)).take pagePiece, .none⟩)

/-- The frames of a train: its header, its pages in order, the CRC over every page byte (R466). -/
def trainItems (head : Bytes) (pages : List Bytes) : List FlowItem :=
  ⟨0x10, 0, head, .none⟩ :: (pages.zipIdx.flatMap (fun p => pageItems p.2 p.1) ++ [⟨0x12, 0, leBytes 4 (crc32c pages.flatten), .none⟩])

/-- A train header (Table 11.7); `own` holds the 32 bytes of the KIND fields. -/
def trainHead (kind kw log2 pages bytes model version first lanes : Nat) (own : Bytes) : Bytes :=
  leBytes 1 kind ++ leBytes 1 kw ++ leBytes 1 log2 ++ [0] ++ leBytes 4 pages ++ leBytes 8 bytes ++ leBytes 8 model ++ leBytes 4 version ++
    leBytes 2 first ++ leBytes 2 lanes ++ padTo 32 own

/-- The pages of a lane of a sequence, in order, below a page number. -/
def State.lanePages (s : State) (q : SeqS) (lane pages : Nat) : List PageS :=
  (List.range pages).filterMap (fun p => (s.kv.pteAt q q.cur lane p).map (fun e => s.page e.page))

/-- A train starts: its flow, which holds a walk epoch while its pages are read (R391, R466). -/
def State.startTrain (s : State) (kind : FlowKind) (dst kw : Nat) (items : List FlowItem) : State × Option Nat :=
  match s.startFlow kind dst kw items with
  | (s, none) => (s, none)
  | (s, some n) => ({ s with kv := { s.kv with epochs := s.kv.epochs ++ [(s.beat.number, EpochBy.flow n)] } }, some n)

/-- A handoff's train goes to PEER (R437). One with no live route fails with status 5 (R463). -/
def State.handSend (s : State) (i : Nat) : State :=
  let r := s.req i
  match r.handTok with
  | none => s
  | some (tok, lp, dl) =>
    if r.handFlow.isSome || !r.active then s else
    let q := s.seqAt i
    let n := (q.localLen q.length + q.per - 1) / q.per
    let pages := (List.range q.lanes.length).flatMap (fun l => (s.lanePages q l n).map PageS.image)
    let model := ((s.versionNo r.slot r.version).map (·.model)).getD 0
    let own := leBytes 8 (r.field 80 8) ++ leBytes 8 dl ++ leBytes 4 r.promptLen ++ leBytes 4 tok ++ leBytes 2 lp
    let head := trainHead 1 r.kw q.log2 pages.length (sumNat (pages.map List.length)) model r.version 0 q.lanes.length own
    match s.startTrain (.handoff i) (r.field 38 2) r.kw (trainItems head pages) with
    | (s, none) => (s.raise 0x8B03 r.kw).handFail i 5
    | (s, some n) => s.putReq i { s.req i with handFlow := some n }

/-- Every handoff whose first token the last step sampled. -/
def State.handSends (s : State) : State :=
  ((s.srv.reqs.filter (fun x => x.2.handTok.isSome && x.2.handFlow.isNone && x.2.ending.isNone)).map Prod.fst).foldl State.handSend s

/-- A handoff's train is acknowledged (R437): the final entry carries the first token. -/
def State.handDone (s : State) (i : Nat) : State :=
  let r := s.req i
  match r.handTok with
  | none => s
  | some (tok, lp, dl) =>
    if !r.active then s else
    let late := decide (s.notchTime > dl)
    let s := s.ringWrite i tok (2 + 16 + (if late then 1 else 0)) lp r.stepBeat 0
    let s := (s.incK .TOKENS_DELIVERED r.kw).addCount ⟨.CLASS_TOKENS, r.cls, r.kw + 1⟩ 1
    let s := if late then (s.incK .TOKENS_LATE r.kw).addCount ⟨.CLASS_TOKENS_LATE, r.cls, r.kw + 1⟩ 1 else s
    let s := s.histCount r.kw r.cls 0 (s.notchTime - r.takenAt)
    (s.putReq i { s.req i with handTok := none, handFlow := none, generated := 1 }).closeReq i 0

/-- A train is acknowledged whole. -/
def State.trainDone (s : State) (f : Flow) : State :=
  let s := s.dropFlow f.num
  let s := { s with kv := { s.kv with epochs := s.kv.epochs.filter (fun e => e.2 != .flow f.num) } }
  match f.kind with
  | .handoff i => s.handDone i
  | _ => s

/-- The whole train once more (R467), as a flow of its own. -/
def State.trainAgain (s : State) (f : Flow) : State :=
  if f.again then s.trainFail f 4 else
  match s.startTrain f.kind f.dst f.kw f.items with
  | (s, none) => s.trainFail f 4
  | (s, some n) =>
    let s := (s.dropFlow f.num).mapFlow n (fun x => { x with again := true })
    let s := { s with kv := { s.kv with epochs := s.kv.epochs.filter (fun e => e.2 != .flow f.num) } }
    match f.kind with
    | .handoff i => s.putReq i { s.req i with handFlow := some n }
    | _ => s

/-- A flow of this device is a train. -/
def Flow.isTrain (f : Flow) : Bool := match f.kind with
  | .handoff _ => true
  | .ringSet _ => true
  | _ => false

/-- TRAIN_ACK (R466–R468). -/
def trainAck (f : HFrame) (s : State) : State :=
  match s.replyFlow f with
  | none => s
  | some x =>
    if !x.isTrain then s else
    match f.status with
    | 0 =>
      let n := min x.sent (max x.acked (leAt f.payload 0 4 + 1))
      let s := s.mapFlow x.num (fun y => { y with acked := n, since := if n > x.acked then s.now else y.since, progress := if n > x.acked then s.notchClock else y.progress })
      if n ≥ x.frames.length then s.trainDone x else s.pump x.num
    | 4 => s.trainAgain x
    | st => s.trainFail x st

/-- TRAIN_ACK. -/
def execTrainAck (t port : Nat) (f : HFrame) (s : State) : Host.Outcome State Fault Refusal :=
  if port < 23 then .next ((s.at t).received port 0x13 f (fun s f => (trainAck f s).flush)) else .fault .noSuchUnit

/-! ### Receiving -/

/-- An acknowledgement of the frames so far. -/
def State.ackTrain (s : State) (f : HFrame) (status : Nat) : State := s.replyTo f 0x13 status (leBytes 4 f.seq)

/-- Forget a train under reception. -/
def State.dropRx (s : State) (src flow : Nat) : State :=
  { s with fab := { s.fab with trains := s.fab.trains.filter (fun x => !(x.src == src && x.flow == flow)) } }

/-- The pages of a train that failed are freed under R392. -/
def State.freeTrain (s : State) (x : RxTrain) : State := (s.dropRx x.src x.flow).retire x.kw x.bytes .set

/-- ROLE refuses a handoff train (R436). -/
def State.roleRefuses (s : State) (kind : Nat) : Bool := kind == 1 && s.set0 .ROLE == 1

/-- TRAIN_HEAD (R467 item 1): BYTES of page memory are reserved. -/
def trainHeadIn (f : HFrame) (s : State) : State := s.inOrder f (fun s =>
  let h := padTo 64 f.payload
  let kind := leAt h 0 1
  let kw := leAt h 1 1
  let bytes := up4k (leAt h 8 8)
  if !(kind == 1 || kind == 2) || kw != f.keyway || !s.kwServes kw || s.roleRefuses kind then s.ackTrain f 6
  else if !s.memFits kw bytes then s.ackTrain f 1
  else
    let s := s.memTake kw bytes
    { s with fab := { s.fab with trains := s.fab.trains.filter (fun x => !(x.src == f.src && x.flow == f.flow)) ++
        [{ src := f.src, flow := f.flow, head := h, bytes := bytes, kw := kw, since := s.notchClock }] } })

/-- TRAIN_HEAD. -/
def execTrainHead (t port : Nat) (f : HFrame) (s : State) : Host.Outcome State Fault Refusal :=
  if port < 23 then .next ((s.at t).received port 0x10 f (fun s f => trainHeadIn f s)) else .fault .noSuchUnit

/-- The train under reception that a frame belongs to. -/
def State.rxTrain (s : State) (f : HFrame) : Option RxTrain := s.fab.trains.find? (fun x => x.src == f.src && x.flow == f.flow)

/-- TRAIN_PAGE: bytes of a page at their offset; every 64 frames are acknowledged (R466). -/
def trainPageIn (f : HFrame) (s : State) : State := s.inOrder f (fun s =>
  match s.rxTrain f with
  | none => s
  | some x =>
    let ix := leAt f.payload 0 4
    let off := leAt f.payload 4 4
    let b := f.payload.drop 8
    let old := mapGet x.pages ix []
    let x' := { x with pages := mapSet x.pages ix (overlay (padTo (max old.length (off + b.length)) old) off b), order := x.order ++ b, since := s.notchClock }
    let s := { s with fab := { s.fab with trains := s.fab.trains.map (fun y => if y.src == f.src && y.flow == f.flow then x' else y) } }
    if (f.seq + 1) % 64 == 0 then s.ackTrain f 0 else s)

/-- TRAIN_PAGE. -/
def execTrainPage (t port : Nat) (f : HFrame) (s : State) : Host.Outcome State Fault Refusal :=
  if port < 23 then .next ((s.at t).received port 0x11 f (fun s f => trainPageIn f s)) else .fault .noSuchUnit

/-- The first check of R365 that a page received fails against what it should be, by the numbers of spec/09 Table 9.11; none when it passes. -/
def pageCheck (q : SeqS) (l : Lane) (member p : Nat) (b : Bytes) : Option Nat :=
  let g := pageOf b
  if g.magic != 0x5047 then some 2
  else if g.kw != q.kw then some 3
  else if g.layer != l.layer || g.group != l.group then some 4
  else if g.log2 != q.log2 then some 5
  else if g.heads != l.heads || g.dims != l.dims then some 6
  else if g.first != q.globalOf member (p * q.per) then some 7
  else if !isKvFmt g.fmt || b.length != pageLen g.fmt g.log2 g.heads g.dims then some 2
  else none

/-- The first failing page of a list of pages with their lanes and page numbers. -/
def pagesCheck (q : SeqS) (member : Nat) : List (Nat × Nat × Bytes) → Option Nat
  | [] => none
  | (l, p, b) :: r => match pageCheck q (q.lane l) member p b with
    | some c => some c
    | none => pagesCheck q member r

/-- A page header fails its check in a train (R365, R467): counted and reported; the page has no address yet that the spec states, so the event's
address is free. -/
def State.headerBad (s : State) (kw i c : Nat) : State :=
  ((s.drawn.incK .KV_WALK_FAULTS kw).raise 0x8901 kw 0 i (s.freeBelow (2 ^ 64)) c)

/-- Put received pages in place of a new root's pages: fresh holders, this device's slot and request. -/
def State.fillPages (s : State) (i slot : Nat) : List (Nat × Nat × Bytes) → State
  | [] => s
  | (l, p, b) :: r =>
    let q := s.seqAt i
    let s := (match s.kv.pteAt q q.cur l p with
      | some e => s.putPage e.page { pageOf b with refs := 1, inTree := false, slot := slot, creator := i }
      | none => s)
    s.fillPages i slot r

/-- Lanes with the formats of a train's pages (R438). -/
def laneFormats (lanes : List Lane) (pages : List (Nat × Nat × Bytes)) : List Lane :=
  lanes.zipIdx.map (fun x => match pages.find? (fun p => p.1 == x.2) with
    | some p => { x.1 with fmt := (pageOf p.2.2).fmt }
    | none => x.1)

/-- The WAIT_KV request a train matches, by keyway and HANDOFF_TAG (R438). -/
def State.waitKv (s : State) (kw tag : Nat) : Option Nat :=
  (s.srv.reqs.find? (fun x => x.2.state == .waitKv && x.2.train.isNone && x.2.ending.isNone && x.2.kw == kw && x.2.field 80 8 == tag)).map Prod.fst

/-- A handoff train has arrived whole (R438, R467): the status it is answered with. Its reservation passes to the pages installed. -/
def State.handTrain (s : State) (x : RxTrain) : State × Nat :=
  let h := x.head
  let tag := leAt h 32 8
  match s.waitKv x.kw tag with
  | none => (((s.freeTrain x).incK .HANDOFF_ORPHANS x.kw).raise 0x4A06 x.kw 0 tag x.src (leAt h 16 8), 2)
  | some i =>
    let r := s.req i
    match s.versionNo r.slot (leAt h 24 4), s.mapOf r.slot (leAt h 24 4) with
    | some v, some map =>
      if v.model != leAt h 16 8 then ((s.freeTrain x).putReq i { r with ending := some (11, 0) }, 2) else
      let draft := if r.draftSlot == 255 then none else s.slotOpen r.draftSlot
      let q := s.seqFor i r v map draft (leAt h 2 1) 2 (s.freeBelow 4) false
      let s := s.drawn
      let prompt := leAt h 48 4
      let per := (q.localLen prompt + q.per - 1) / q.per
      let pages := (List.range q.lanes.length).flatMap (fun l => (List.range per).map (fun p => (l, p, mapGet x.pages (l * per + p) [])))
      if leAt h 30 2 != q.lanes.length || leAt h 4 4 != pages.length then ((s.headerBad x.kw i 4).freeTrain x, 3) else
      match pagesCheck q q.ringIdx pages with
      | some c => ((s.headerBad x.kw i c).freeTrain x, 3)
      | none =>
        let q := { q with length := prompt, lanes := laneFormats q.lanes pages
                          tokens := List.replicate prompt unknownTok ++ [leAt h 52 4] }
        let plan : List Plan := pages.map (fun p => (p.1, p.2.1, Source.new))
        match ((s.dropRx x.src x.flow).memMove x.kw x.bytes).firstRoot i q (per * q.per) plan with
        | none => (s.freeTrain x, 1)
        | some s =>
          let s := s.fillPages i r.slot pages
          (s.putReq i { r with train := some ⟨v.number, prompt, leAt h 40 8, leAt h 52 4⟩
                               draftVersion := (draft.map (fun d => d.1.number)).getD 0 }, 0)
    | _, _ => ((s.freeTrain x).putReq i { r with ending := some (11, 0) }, 2)

/-- The sequence of a ring on this device (R456). -/
def State.ringSeq (s : State) (kw ring : Nat) : Option Nat :=
  (s.kv.seqs.find? (fun x => x.2.state == 1 && x.2.ring && x.2.kw == kw && x.2.ringId == ring)).map Prod.fst

/-- A member's record of a lane's ring step. -/
def State.ringRound (s : State) (seq lane : Nat) : Option RingRound := s.kv.rounds.find? (fun x => x.seq == seq && x.lane == lane)
/-- Put it back. -/
def State.putRound (s : State) (x : RingRound) : State :=
  { s with kv := { s.kv with rounds := s.kv.rounds.filter (fun y => !(y.seq == x.seq && y.lane == x.lane)) ++ [x] } }

/-- A ring set has arrived whole (R397, R467). -/
def State.setTrain (s : State) (x : RxTrain) : State × Nat :=
  let h := x.head
  let ring := leAt h 32 2
  let origin := leAt h 34 1
  let lane := leAt h 28 2
  match s.ringSeq x.kw ring with
  | none => (s.freeTrain x, 2)
  | some i =>
    let q := s.seqAt i
    let pages := (List.range (leAt h 4 4)).map (fun p => (lane, p, mapGet x.pages p []))
    if lane ≥ q.lanes.length || leAt h 30 2 != 1 then ((s.headerBad x.kw q.req 4).freeTrain x, 3) else
    match pagesCheck q origin pages with
    | some c => ((s.headerBad x.kw q.req c).freeTrain x, 3)
    | none =>
      let y := (s.ringRound i lane).getD { seq := i, lane := lane, since := s.notchClock }
      let set : RingSet := ⟨origin, leAt h 36 8, pages.map (fun p => pageOf p.2.2), x.bytes⟩
      ((s.dropRx x.src x.flow).putRound { y with sets := y.sets ++ [set] }, 0)

/-- TRAIN_END (R467): the CRC, the headers, and the pages' place. -/
def trainEndIn (f : HFrame) (s : State) : State := s.inOrder f (fun s =>
  match s.rxTrain f with
  | none => s
  | some x =>
    if !s.kwServes x.kw then (s.freeTrain x).ackTrain f 6
    else if leAt f.payload 0 4 != crc32c x.order then (s.freeTrain x).ackTrain f 4
    else
      let (s, st) := if leAt x.head 0 1 == 1 then s.handTrain x else s.setTrain x
      s.ackTrain f st)

/-- TRAIN_END. -/
def execTrainEnd (t port : Nat) (f : HFrame) (s : State) : Host.Outcome State Fault Refusal :=
  if port < 23 then .next ((s.at t).received port 0x12 f (fun s f => trainEndIn f s)) else .fault .noSuchUnit

/-- TRAIN_TIMEOUT notches without progress (R468). -/
def State.trainLate (s : State) (since : Nat) : Bool := s.notchesPast since (s.set0 .TRAIN_TIMEOUT)

/-- A train of this device makes no acknowledged progress, or one to it brings no frame: it fails. -/
def trainTimeout (num : Nat) (s : State) : State :=
  let s := (match s.flow num with
    | some f => if f.isTrain && s.trainLate f.progress then s.trainFail f 0xFF else s
    | none => s)
  (s.fab.trains.filter (fun x => x.flow == num && s.trainLate x.since)).foldl State.freeTrain s

/-- TRAIN_TIMEOUT. -/
def execTrainTimeout (t flow : Nat) (s : State) : Host.Outcome State Fault Refusal := .next (trainTimeout flow (s.at t)).flush

/-! ### Shards (R469, R470) -/

/-- The shard a source holds: in its store, of a version with that MODEL_ID and VERSION, whose slot the asking keyway owns. -/
def State.shardHeld (s : State) (kw model version index : Nat) : Option Bytes :=
  if s.set0 .FAB_SHARD_STORE != 1 then none else
  (s.fab.held.find? (fun p => p.2.1 == version && p.2.2.1 == index && (s.slot p.1).owner == kw &&
    ((s.versionNo p.1 version).any (fun v => v.model == model)))).map (fun p => p.2.2.2)

/-- SHARD_DATA frames of a shard: header first (R469). -/
def shardItems (b : Bytes) : List FlowItem :=
  (List.range ((b.length + shardPiece - 1) / shardPiece)).map (fun k =>
    ⟨0x21, 0, leBytes 4 (shardPiece * k) ++ (b.drop (shardPiece * k)).take shardPiece, .none⟩)

/-- SHARD_REQ: answered from the store. -/
def shardReqIn (f : HFrame) (s : State) : State := s.inOrder f (fun s =>
  if !s.kwServes f.keyway then s.answer f [⟨0x21, 6, leBytes 4 0, .none⟩] else
  match s.shardHeld f.keyway (leAt f.payload 0 8) (leAt f.payload 8 4) (leAt f.payload 12 2) with
  | none => s.answer f [⟨0x21, 1, leBytes 4 0, .none⟩]
  | some b => s.answer f (shardItems b))

/-- SHARD_REQ. -/
def execShardReq (t port : Nat) (f : HFrame) (s : State) : Host.Outcome State Fault Refusal :=
  if port < 23 then .next ((s.at t).received port 0x20 f (fun s f => shardReqIn f s)) else .fault .noSuchUnit

/-- A shard under reception, by its flow. -/
def State.rxShard (s : State) (f : HFrame) : RxShard :=
  (s.fab.shards.find? (fun x => x.src == f.src && x.flow == f.flow)).getD { src := f.src, flow := f.flow }
/-- Forget it. -/
def State.dropShard (s : State) (f : HFrame) : State :=
  { s with fab := { s.fab with shards := s.fab.shards.filter (fun x => !(x.src == f.src && x.flow == f.flow)) } }

/-- SHARD_DATA: bytes in order; the last frame delivers the shard to the checks of R316. -/
def shardDataIn (f : HFrame) (s : State) : State :=
  match s.replyFlow f with
  | none => s
  | some x =>
    match x.kind with
    | .shardReq slot index =>
      let y := s.rxShard f
      if f.seq != y.next then s
      else if f.seq == 0 && f.status != 0 then ((s.dropFlow x.num).dropShard f).shardMissing slot index
      else
        let y := { y with next := y.next + 1, bytes := y.bytes ++ f.payload.drop 4 }
        let s := s.mapFlow x.num (fun z => { z with since := s.now })
        if !hfLast f then
          let s := s.dropShard f
          { s with fab := { s.fab with shards := s.fab.shards ++ [y] } }
        else
          let s := (s.dropFlow x.num).dropShard f
          if s.kwClosing (s.slot slot).owner then s else
          match (s.slot slot).outstanding index with
          | none => s
          | some (w, v, q, h) => s.shardArrived slot w v q h (some y.bytes) y.bytes.length
    | _ => s

/-- SHARD_DATA. -/
def execShardData (t port : Nat) (f : HFrame) (s : State) : Host.Outcome State Fault Refusal :=
  if port < 23 then .next ((s.at t).received port 0x21 f (fun s f => shardDataIn f s)) else .fault .noSuchUnit

end Sys2Proof.Machine
end

