-- ==== Sys2Proof/Machine/Ring.lean ====
section
/-! DEFINITION. Machine/Ring.lean: lane tasks, and ring sequences: rotation of KV sets in prefill, queries and partials in decode (spec/09
R356, R396–R400). -/
namespace Sys2Proof.Machine
open Sys2Proof

/-! ### Partials -/

/-- Keep a partial of an origin for a row. -/
def State.putPartial (s : State) (x : Partial) : State :=
  { s with kv := { s.kv with partials := s.kv.partials.filter (fun (p : Partial) =>
      !(p.seq == x.seq && p.lane == x.lane && p.row == x.row && p.origin == x.origin)) ++ [x] } }

/-- The partial of an origin for a row. -/
def State.partialOf (s : State) (seq lane row origin : Nat) : Option Partial :=
  s.kv.partials.find? (fun (p : Partial) => p.seq == seq && p.lane == lane && p.row == row && p.origin == origin)

/-- A finished accumulator as a partial; a row with a non-finite score or value carries NaN (R371). -/
def RowAcc.toPartial (a : RowAcc) (seq lane row origin : Nat) : Partial :=
  ⟨seq, lane, row, origin, a.m, a.l, if a.bad then a.o.map (fun _ => F32.nan) else a.o⟩

/-- A partial as an accumulator. -/
def Partial.acc (p : Partial) : RowAcc := ⟨p.m, p.l, p.o, false⟩

/-- Partials merged in ascending origin (R399). -/
def mergeAll : List RowAcc → Option RowAcc
  | [] => none
  | a :: r => some (r.foldl RowAcc.merge a)

/-- Every origin of a round's rows has its partial. -/
def State.allPartials (s : State) (y : RingRound) (n : Nat) : Bool :=
  (List.range y.rows.length).all (fun k => (List.range n).all (fun o => (s.partialOf y.seq y.lane k o).isSome))

/-- The memory of sets is freed under R392. -/
def State.freeSets (s : State) (kw : Nat) (l : List RingSet) : State := l.foldl (fun x y => x.retire kw y.bytes .set) s

/-- A lane's ring step is over. -/
def State.dropRound (s : State) (y : RingRound) : State :=
  let s := s.freeSets (s.seqAt y.seq).kw y.sets
  { s with kv := { s.kv with rounds := s.kv.rounds.filter (fun x => !(x.seq == y.seq && x.lane == y.lane))
                             partials := s.kv.partials.filter (fun (p : Partial) => !(p.seq == y.seq && p.lane == y.lane)) } }

/-- Rows of a ring step are merged and finished (R370, R399). -/
def State.finishRing (s : State) (y : RingRound) : State :=
  let q := s.seqAt y.seq
  let l := q.lane y.lane
  let out := (List.range y.rows.length).filterMap (fun k =>
    (mergeAll ((List.range q.ringSize).filterMap (fun o => (s.partialOf y.seq y.lane k o).map Partial.acc))).map (fun a =>
      (y.seq, y.lane, k, l.outBytes a.finish)))
  let s := { s with kv := { s.kv with outputs := s.kv.outputs.filter (fun (x : Nat × Nat × Nat × Bytes) => !(x.1 == y.seq && x.2.1 == y.lane)) ++ out } }
  s.dropRound y

/-! ### Prefill: rotation (R397) -/

/-- The logical address of a ring member. -/
def State.memberAddr (s : State) (q : SeqS) (i : Nat) : Option Nat := (s.job q.ringId).map (fun j => s.rankAddr j i)

/-- Send a KV set to the next member. -/
def State.sendSet (s : State) (q : SeqS) (i lane origin round hi : Nat) (pages : List PageS) : State :=
  match s.memberAddr q ((q.ringIdx + 1) % q.ringSize) with
  | none => s
  | some a =>
    let imgs := pages.map PageS.image
    let own := leBytes 2 q.ringId ++ leBytes 1 origin ++ leBytes 1 round ++ leBytes 8 (s.req q.req).stepBeat ++ leBytes 4 hi
    let model := ((s.versionNo q.slot q.version).map (·.model)).getD 0
    let head := trainHead 2 q.kw q.log2 imgs.length (sumNat (imgs.map List.length)) model q.version lane 1 own
    match s.startTrain (.ringSet i) a q.kw (trainItems head imgs) with
    | (s, none) => s.raise 0x8B03 q.kw
    | (s, some _) => s

/-- The highest query position of a prefill step on any member. -/
def State.stepTop (s : State) (q : SeqS) : Nat :=
  match (s.req q.req).batch with
  | some (.prefill n) => q.length + n - 1
  | _ => q.length

/-- Round 0 of a lane: this member's own partials stand, and its own pages go to the next member. -/
def State.beginPrefill (s : State) (w : LaneWork) (q : SeqS) : State :=
  let y := (s.ringRound w.seq w.lane).getD { seq := w.seq, lane := w.lane }
  let beat := (s.req q.req).stepBeat
  let s := s.freeSets q.kw (y.sets.filter (fun x => x.beat != beat))
  let s := s.putRound { y with cluster := w.cluster, begun := true, decode := false, rows := w.rows, round := 0, since := s.notchClock
                               sets := y.sets.filter (fun x => x.beat == beat) }
  let hi := s.stepTop q
  s.sendSet q w.seq w.lane q.ringIdx 1 hi (s.lanePages q w.lane ((q.localLen (hi + 1) + q.per - 1) / q.per))

/-- The position's page and slot in a received set. -/
def setLook (q : SeqS) (x : RingSet) (t : Nat) : Except KvFault (Option (PageS × Nat)) :=
  match ({ q with ringIdx := x.origin } : SeqS).local t with
  | none => .ok none
  | some a => .ok ((x.pages[a / q.per]?).map (fun pg => (pg, a % q.per)))

/-- Partials of a set's origin for every row. -/
def State.setRows (s : State) (y : RingRound) (x : RingSet) : Nat → List QRow → State
  | _, [] => s
  | k, r :: rs =>
    let q := s.seqAt y.seq
    let l := q.lane y.lane
    match rowPartial l r (setLook q x) (l.visible q.full r) (RowAcc.start (32 * l.dims)) with
    | .error f => s.faultSeq y.seq y.cluster f
    | .ok a => (s.putPartial (a.toPartial y.seq y.lane k x.origin)).setRows y x (k + 1) rs

/-- The origin of a round's set (Table 9.8). -/
def SeqS.originOf (q : SeqS) (r : Nat) : Nat := (q.ringIdx + q.ringSize - r % q.ringSize) % q.ringSize

/-- A lane's next round, when its set has come: partials, the set forwarded but for the last round, and after that the merge. -/
def State.nextRound (s : State) (y : RingRound) : State :=
  let q := s.seqAt y.seq
  let r := y.round + 1
  if !y.begun || y.decode || r ≥ q.ringSize || q.state != 1 then s else
  match y.sets.find? (fun x => x.origin == q.originOf r) with
  | none => s
  | some x =>
    let s := s.setRows y x 0 y.rows
    if (s.seqAt y.seq).state != 1 then s.dropRound y else
    let y := { y with round := r, since := s.notchClock }
    let s := s.putRound y
    if r + 1 < q.ringSize then s.sendSet q y.seq y.lane x.origin (r + 1) (s.stepTop q) x.pages else s.finishRing y

/-- RING_ROUND (Table 9.8): every lane of a sequence whose next set is here. -/
def ringRoundStep (seq : Nat) (s : State) : State := (s.kv.rounds.filter (fun y => y.seq == seq)).foldl State.nextRound s

/-- RING_ROUND. -/
def execRingRound (t seq : Nat) (s : State) : Host.Outcome State Fault Refusal :=
  if seq < 32768 then .next (ringRoundStep seq (s.at t)) else .fault .noSuchUnit

/-! ### Decode: queries and partials (R398) -/

/-- The 16-byte ring subheader. -/
def ringSub (q : SeqS) (layer rows beat : Nat) : Bytes :=
  leBytes 2 q.ringId ++ leBytes 1 q.ringIdx ++ [0] ++ leBytes 2 layer ++ leBytes 2 rows ++ leBytes 8 beat

/-- Send the query rows to the other members. -/
def State.sendQuery (s : State) (q : SeqS) (w : LaneWork) : List Nat → State
  | [] => s
  | m :: r =>
    let l := q.lane w.lane
    let s := (match s.memberAddr q m with
      | none => s
      | some a => (s.startFlow (.ringQuery w.seq w.lane) a q.kw
          [⟨0x30, 0, ringSub q l.layer w.rows.length (s.req q.req).stepBeat, .ringQuery l.draft w.rows⟩]).1)
    s.sendQuery q w r

/-- The member that holds the step's block awaits every other member's partials. -/
def State.beginDecode (s : State) (w : LaneWork) (q : SeqS) : State :=
  let s := (match s.ringRound w.seq w.lane with | some y => s.freeSets q.kw y.sets | none => s)
  let s := s.putRound { seq := w.seq, lane := w.lane, cluster := w.cluster, begun := true, decode := true, rows := w.rows, since := s.notchClock }
  s.sendQuery q w ((List.range q.ringSize).filter (· != q.ringIdx))

/-- LANE_TASK (R356, R357, R397, R398): the task, and for a ring sequence its part of the ring step. -/
def ringTask (w : LaneWork) (s : State) : State :=
  if s.pwr.stalled then s else
  let ran := s.attnState w.cluster == .online && (s.seqAt w.seq).state == 1 && s.laneFits w
  let s := laneTask w s
  let q := s.seqAt w.seq
  if !ran || !q.ring || q.state != 1 then s else
  match (s.req q.req).batch with
  | some (.prefill _) => s.beginPrefill w q
  | some (.decode _) => s.beginDecode w q
  | none => s

/-- LANE_TASK. -/
def execLaneTask (t : Nat) (w : LaneWork) (s : State) : Host.Outcome State Fault Refusal :=
  if w.cluster < 64 ∧ w.seq < 32768 then
    let s := s.at t
    .next (s.inStepCfg (s.stepOf (s.seqAt w.seq)) (ringTask w))
  else .fault .noSuchUnit

/-- The lane of a layer that a query row belongs to: by its head's group. -/
def SeqS.laneFor (q : SeqS) (draft : Bool) (layer : Nat) (r : QRow) : Option Nat :=
  q.lanes.findIdx? (fun l => l.draft == draft && l.layer == layer && l.group == r.head / max 1 l.qper / max 1 l.heads)

/-- A member's partials for query rows; none when one cannot be computed, with its fault if it is one. -/
def State.answerRows (s : State) (q : SeqS) (draft : Bool) (layer : Nat) : List QRow → Except (Option KvFault) (List (F32 × F32 × List F32))
  | [] => .ok []
  | r :: rs =>
    match q.laneFor draft layer r with
    | none => .error none
    | some n =>
      let l := q.lane n
      match rowPartial l r (s.kv.look q l n) (l.visible q.full r) (RowAcc.start (32 * l.dims)) with
      | .error f => .error (some f)
      | .ok a =>
        let p := a.toPartial 0 0 0 0
        match s.answerRows q draft layer rs with
        | .ok l => .ok ((p.m, p.l, p.o) :: l)
        | .error e => .error e

/-- RING_QUERY: this member's partials over the positions it holds go back. -/
def ringQueryIn (f : HFrame) (s : State) : State := s.inOrder f (fun s =>
  match f.body, s.ringSeq f.keyway (leAt f.payload 0 2) with
  | .ringQuery draft rows, some i =>
    let q := s.seqAt i
    let layer := leAt f.payload 4 2
    match s.answerRows q draft layer rows with
    | .ok l => s.answer f [⟨0x31, 0, ringSub q layer l.length (leAt f.payload 8 8), .ringPartial l⟩]
    | .error (some e) => s.faultSeq i 0 e
    | .error none => s
  | _, _ => s)

/-- RING_QUERY. -/
def execRingQuery (t port : Nat) (f : HFrame) (s : State) : Host.Outcome State Fault Refusal :=
  if port < 23 then .next ((s.at t).received port 0x30 f (fun s f => ringQueryIn f s)) else .fault .noSuchUnit

/-- Keep the rows of a partial frame. -/
def State.keepRows (s : State) (seq lane origin : Nat) : Nat → List (F32 × F32 × List F32) → State
  | _, [] => s
  | k, (m, l, o) :: r => (s.putPartial ⟨seq, lane, k, origin, m, l, o⟩).keepRows seq lane origin (k + 1) r

/-- RING_PARTIAL: once every origin's partial is present, the rows are merged and finished (R398, R399). -/
def ringPartialIn (f : HFrame) (s : State) : State :=
  match s.replyFlow f, f.body with
  | some x, .ringPartial rows =>
    match x.kind with
    | .ringQuery seq lane =>
      let s := s.dropFlow x.num
      match s.ringRound seq lane with
      | none => s
      | some y =>
        if !y.decode || rows.length != y.rows.length then s else
        let s := s.keepRows seq lane (leAt f.payload 2 1) 0 rows
        if s.allPartials y (s.seqAt seq).ringSize then s.finishRing y else s
    | _ => s
  | _, _ => s

/-- RING_PARTIAL. -/
def execRingPartial (t port : Nat) (f : HFrame) (s : State) : Host.Outcome State Fault Refusal :=
  if port < 23 then .next ((s.at t).received port 0x31 f (fun s f => ringPartialIn f s)) else .fault .noSuchUnit

/-! ### Lateness (R400) -/

/-- The round and origin that a ring step awaits. -/
def State.awaited (s : State) (y : RingRound) : Nat × Nat :=
  let q := s.seqAt y.seq
  if y.decode then (0, ((List.range q.ringSize).find? (fun o => (List.range y.rows.length).any (fun k => (s.partialOf y.seq y.lane k o).isNone))).getD 0)
  else (y.round + 1, q.originOf (y.round + 1))

/-- Every part of a sequence's ring step is dropped. -/
def State.dropRing (s : State) (seq : Nat) : State :=
  let s := { s with fab := { s.fab with flows := s.fab.flows.filter (fun f => match f.kind with | .ringQuery q _ => q != seq | _ => true) } }
  (s.kv.rounds.filter (fun y => y.seq == seq)).foldl State.dropRound s

/-- RING_ROUND_TIMEOUT notches have passed since a round's start (R400): the request's step is faulted. -/
def ringTimeout (seq : Nat) (s : State) : State :=
  let q := s.seqAt seq
  match s.kv.rounds.find? (fun y => y.seq == seq && y.begun && s.notchesPast y.since (s.setK .RING_ROUND_TIMEOUT q.kw)) with
  | none => s
  | some y =>
    let a := s.awaited y
    let s := s.raise 0x8902 q.kw (uidAttn y.cluster) seq (q.ringId + 65536 * a.2 + 16777216 * a.1) (q.lane y.lane).layer
    (s.dropRing seq).faultStep q.req .ringTimeout

/-- RING_ROUND_TIMEOUT. -/
def execRingRoundTimeout (t seq : Nat) (s : State) : Host.Outcome State Fault Refusal :=
  if seq < 32768 then .next (ringTimeout seq (s.at t)) else .fault .noSuchUnit

end Sys2Proof.Machine
end

