-- ==== Sys2Proof/Machine/Spare.lean ====
section
/-! DEFINITION. Machine/Spare.lean: replies and their timeouts, latches over the fabric, lost members, standby records, the switch-in of a spare
and the replay of requests (spec/11 R464, R472–R480, R484). -/
namespace Sys2Proof.Machine
open Sys2Proof

/-! ### Replies (R464) -/

/-- 20 µs in picoseconds. -/
def replyLimit : Nat := 20000000

/-- A flow of one frame has no reply within 20 µs: it is sent again, up to 3 times; after that SIGNAL, SET and READ end LOST, a WAIT stays
pending, and a query or shard request is left to its own timeout. -/
def replyTimeout (num : Nat) (s : State) : State :=
  match s.flow num with
  | none => s
  | some f =>
    if f.isTrain || s.now < f.since + replyLimit then s
    else if s.fab.shards.any (fun x => x.flow == num && x.src == f.dst) then s
    else if f.resends < 3 then (s.sendAll f.port f.frames).mapFlow num (fun x => { x with resends := x.resends + 1, since := s.now })
    else match f.kind with
      | .latch who n op => if op == latchWaitOp then s else (s.dropFlow num).remoteLost who n op
      | _ => s.dropFlow num

/-- FLOW_REPLY_TIMEOUT. -/
def execFlowReplyTimeout (t flow : Nat) (s : State) : Host.Outcome State Fault Refusal := .next (replyTimeout flow (s.at t))

/-! ### Latches over the fabric (R484) -/

/-- LATCH_OP (Table 11.13): the owner acts, and replies at once, or to a WAIT when it completes. An OP without a meaning does nothing. -/
def latchOpIn (f : HFrame) (s : State) : State := s.inOrder f (fun s =>
  let num := leAt f.payload 0 2
  let op := leAt f.payload 2 1
  let v := leAt f.payload 4 4
  if op == latchWaitOp then
    s.latchWait (.remote f.src f.flow f.keyway f.keySlot (leAt f.payload 12 4)) num v (leAt f.payload 8 4)
  else if op == latchSignalOp || op == latchSetOp || op == latchReadOp then
    let (s, c, st) := s.latchNow f.keyway num op v
    s.latchReply f c st
  else s)

/-- LATCH_OP. -/
def execLatchOp (t port : Nat) (f : HFrame) (s : State) : Host.Outcome State Fault Refusal :=
  if port < 23 then .next ((s.at t).received port 0x40 f (fun s f => latchOpIn f s)) else .fault .noSuchUnit

/-- STATUS of a reply. -/
def latchStat : Nat → LStat
  | 0 => .ok | 1 => .timeout | 2 => .denied | 3 => .lost | 4 => .full | _ => .unknown

/-- LATCH_REPLY: the operation completes at its source. -/
def latchReplyIn (f : HFrame) (s : State) : State :=
  match s.replyFlow f with
  | none => s
  | some x => match x.kind with
    | .latch who num op => (s.dropFlow x.num).remoteEnd who num op (leAt f.payload 0 4) (latchStat f.status)
    | _ => s

/-- LATCH_REPLY. -/
def execLatchReply (t port : Nat) (f : HFrame) (s : State) : Host.Outcome State Fault Refusal :=
  if port < 23 then .next ((s.at t).received port 0x41 f (fun s f => latchReplyIn f s)) else .fault .noSuchUnit

/-! ### A member lost (R472–R474, Table 11.9) -/

/-- A link state that counts toward a loss: DOWN, SILENT or FENCED. -/
def linkDead (x : Nat) : Bool := x == 0 || x == 4 || x == 5

/-- Present members of the own group. -/
def State.members (s : State) : List Nat := (List.range 16).filter (fun m => (s.present (groupOf s.physAddr)).testBit m)

/-- Present members whose link to this device is live. -/
def State.liveMembers (s : State) : List Nat := s.members.filter (fun m => (s.portToMember false m).isSome)

/-- The device is the group lead (R472). -/
def State.isLead (s : State) : Bool :=
  let me := memberOf s.physAddr
  s.fabricOn && s.members.contains me && !s.idleSpare && s.liveMembers.all (fun m => decide (m > me) || s.spareMember m)

/-- Every member's REACH, and this device's own port, show the link to a member as dead (R472). -/
def State.shownLost (s : State) (m : Nat) : Bool :=
  linkDead (s.linkToMember m) &&
  (s.liveMembers.filter (· != m)).all (fun k => (mapGet s.fab.reach k {}).links.any (fun l => l.1 == m && linkDead l.2))

/-- A boundary's count toward LOSS_CONFIRM_BEATS (R472). -/
def State.confirmTick (s : State) : State :=
  if !s.isLead then { s with fab := { s.fab with confirm := [] } } else
  let c := (s.members.filter (fun m => m != memberOf s.physAddr && s.shownLost m)).map (fun m => (m, mapGet s.fab.confirm m 0 + 1))
  { s with fab := { s.fab with confirm := c } }

/-- The logical address a member last had. -/
def State.memberLogical (s : State) (m : Nat) : Nat :=
  let a := 16 * groupOf s.physAddr + m
  match s.fab.adopted.find? (fun x => x.2 == a) with
  | some x => x.1
  | none => a

/-- A request whose ring sequence has an address as a member is held, with no retry counted (R480). -/
def State.ringHold (s : State) (a : Nat) (i : Nat) : State :=
  let q := s.seqAt i
  if !q.ring || q.state != 1 || !(s.req i).active || !((List.range q.ringSize).any (fun k => s.memberAddr q k == some a)) then s else
  let s := s.dropRing i
  (s.putReq i { s.req i with ringLost := true }).holdReq i .retry

/-- The reactions of Table 11.9 to the loss of an address, and event 0x8B01. -/
def State.partnerLost (s : State) (a : Nat) : State :=
  let s := { s with fab := { s.fab with lost := if s.fab.lost.contains a then s.fab.lost else s.fab.lost ++ [a], lastLost := a } }
  let s := ((List.range 23).filter (fun p => (s.port p).logical == a)).foldl
    (fun (x : State) p => x.putPort p { x.port p with link := 5, ident := false }) s
  let s := (s.fab.flows.filter (fun f => f.dst == a)).foldl State.flowLost s
  let s := s.dropWaiters (fun w => match w.by_ with | .remote src _ _ _ _ => src == a | _ => false)
  let s := (s.fab.trains.filter (fun x => x.src == a)).foldl State.freeTrain s
  let s := { s with fab := { s.fab with shards := s.fab.shards.filter (fun x => x.src != a), rx := s.fab.rx.filter (fun x => x.src != a) } }
  let s := (s.srv.reqs.map Prod.fst).foldl (fun (x : State) i => x.ringHold a i) s
  (s.raise 0x8B01 0xFF).rerouteDead

/-- Sequence records held for a request of another device whose address is lost are released at item 3 (Table 11.9). -/
def State.releaseRings (s : State) : State :=
  let gone (q : SeqS) : Bool := q.state == 1 && q.ring && q.req == 0xFFFF &&
    (List.range q.ringSize).any (fun k => match s.memberAddr q k with | some a => s.fab.lost.contains a | none => false)
  ((s.kv.seqs.filter (fun x => gone x.2)).map Prod.fst).foldl State.dropSeq s

/-- Ring steps of sequences that are over. -/
def State.deadRounds (s : State) : State := (s.kv.rounds.filter (fun y => (s.seqAt y.seq).state != 1)).foldl State.dropRound s

/-- A LOSS_NOTICE payload (Table 11.6). -/
def noticePayload (a beat : Nat) : Bytes := leBytes 2 a ++ leBytes 8 beat
/-- An ADOPT payload. -/
def adoptPayload (a phys beat : Nat) : Bytes := leBytes 2 a ++ leBytes 2 phys ++ leBytes 8 beat

/-- LOSS_NOTICE. -/
def execLossNotice (t port : Nat) (f : HFrame) (s : State) : Host.Outcome State Fault Refusal :=
  if port < 23 then .next ((s.at t).floodIn port 0x04 f (fun s => s.partnerLost (leAt f.payload 0 2))).flush else .fault .noSuchUnit

/-- Forget the standby records of a member. -/
def State.dropStandby (s : State) (a : Nat) : State :=
  let gone := s.fab.standby.filter (fun x => x.addr == a)
  let s := s.devGive .standby (sumNat (gone.map (·.bytes)))
  { s with fab := { s.fab with standby := s.fab.standby.filter (fun x => x.addr != a) } }

/-- A spare is named to adopt an address at the boundary after that of the decision (R477, Table 11.11): itself this device; another's, whose records here are dropped and whose
group only this device takes as live again. -/
def State.adoptNamed (s : State) (a phys beat : Nat) : State :=
  let s := { s with fab := { s.fab with adopted := mapSet s.fab.adopted a phys } }
  if phys == s.physAddr && s.idleSpare then { s with fab := { s.fab with adopting := some (a, beat + 1) } }
  else
    let s := s.dropStandby a
    if groupOf a == groupOf s.physAddr then s else s.relive a

/-- ADOPT. -/
def execAdopt (t port : Nat) (f : HFrame) (s : State) : Host.Outcome State Fault Refusal :=
  if port < 23 then
    .next ((s.at t).floodIn port 0x05 f (fun s => s.adoptNamed (leAt f.payload 0 2) (leAt f.payload 2 2) (leAt f.payload 4 8)))
  else .fault .noSuchUnit

/-- The lead declares a member lost (R472, R473, R477): LOSS_NOTICE and, in auto mode with a spare, ADOPT are flooded. -/
def lossDecision (m : Nat) (s : State) : State :=
  let a := s.memberLogical m
  if !s.isLead || mapGet s.fab.confirm m 0 < s.set0 .LOSS_CONFIRM_BEATS || s.fab.lost.contains a then s else
  let served := !(s.isSpare a)
  let spare := (s.idleSpares.filter (· != m)).head?
  let s := (s.flood 0x04 (noticePayload a s.beat.number)).partnerLost a
  match spare with
  | none => s.raise 0x8B02 0xFF
  | some k =>
    if s.set0 .SPARE_AUTO != 1 || !served then s else
    let phys := 16 * groupOf s.physAddr + k
    (s.flood 0x05 (adoptPayload a phys s.beat.number)).adoptNamed a phys s.beat.number

/-- LOSS_DECISION. -/
def execLossDecision (t member : Nat) (s : State) : Host.Outcome State Fault Refusal :=
  if member < 16 then .next (lossDecision member (s.at t)).flush else .fault .noSuchUnit

/-- SPARE_ADOPT (R477): on an idle spare, with a lost address of its group. -/
def State.mayAdopt (s : State) (a : Nat) : Bool := s.idleSpare && s.fab.lost.contains a && groupOf a == groupOf s.physAddr
/-- It adopts by the steps of Table 11.11. -/
def State.spareAdopt (s : State) (a : Nat) : State :=
  if s.mayAdopt a then (s.flood 0x05 (adoptPayload a s.physAddr s.beat.number)).adoptNamed a s.physAddr s.beat.number else s

/-! ### Standby records at a spare (R475) -/

/-- Bytes of a record's content, as the spec sizes its parts: a manifest, a map, planes and descriptor, the 128-byte descriptor and 4 bytes a
token. -/
def recSize : StandbyRec → Nat
  | .slot _ _ _ _ _ _ _ _ _ m => m.length
  | .map _ _ b => b.length
  | .adapter _ _ d ps => d.length + sumNat (ps.map (fun p => p.2.length))
  | .request _ _ d p _ _ => d.length + 4 * p.length
  | .step _ ts _ _ _ => 4 * ts.length
  | .ended _ => 0

/-- A record stands in place of another of its slot, map or adapter. -/
def recSame : StandbyRec → StandbyRec → Bool
  | .slot n .., .slot m .. => n == m
  | .map n _ _, .map m _ _ => n == m
  | .adapter k i d _, .adapter k' i' d' _ => k == k' && i == i' && leAt d 4 2 == leAt d' 4 2
  | _, _ => false

/-- A record belongs to a request. -/
def recOf (idx : Nat) : StandbyRec → Bool
  | .request i .. => i == idx
  | .step i .. => i == idx
  | _ => false

/-- Keep one record among those of a member: a new one replaces its like, a step adds to the request's tokens, an end removes the request. -/
def keepRec (l : List StandbyRec) (x : StandbyRec) : List StandbyRec :=
  match x with
  | .ended i => l.filter (fun y => !recOf i y)
  | .request i .. => l.filter (fun y => !recOf i y) ++ [x]
  | .step i ts p g d =>
    if !(l.any (fun y => match y with | .request j .. => j == i | _ => false)) then l else
    let old := l.findSome? (fun y => match y with | .step j us _ _ _ => if j == i then some us else none | _ => none)
    l.filter (fun y => match y with | .step j .. => j != i | _ => true) ++ [.step i (old.getD [] ++ ts) p g d]
  | _ => l.filter (fun y => !recSame x y) ++ [x]

/-- A spare takes a record (R475): beyond STANDBY_MAX GiB, or with no free page, a new request is refused. -/
def State.takeRec (s : State) (a : Nat) (x : StandbyRec) : State :=
  let old := (s.fab.standby.find? (fun y => y.addr == a)).getD { addr := a }
  let l := keepRec old.recs x
  let size := sumNat (l.map recSize)
  let isReq := match x with | .request .. => true | _ => false
  let more := size - old.bytes
  let full := decide (s.mem.dev .standby + more > s.set0 .STANDBY_MAX * 1073741824) || !s.devFits .standby more
  if isReq && full then s.raise 0x4B06 0xFF
  else
    let s := s.devTake .standby more
    let s := s.devGive .standby (old.bytes - size)
    { s with fab := { s.fab with standby := s.fab.standby.filter (fun y => y.addr != a) ++ [{ addr := a, recs := l, bytes := size }] } }

/-- STANDBY: an idle spare keeps the records of a member of its group. -/
def standbyIn (f : HFrame) (s : State) : State := s.inOrder f (fun s =>
  if !s.idleSpare || groupOf f.src != groupOf s.physAddr then s else
  match f.body with
  | .standby recs => recs.foldl (fun (x : State) r => x.takeRec f.src r) s
  | _ => s)

/-- STANDBY. -/
def execStandby (t port : Nat) (f : HFrame) (s : State) : Host.Outcome State Fault Refusal :=
  if port < 23 then .next ((s.at t).received port 0x50 f (fun s f => standbyIn f s)) else .fault .noSuchUnit

/-! ### Switch-in (Table 11.11) -/

/-- A slot record becomes a slot in LOADING from its recorded source; one that cannot load is FAULT. -/
def State.slotFrom (s : State) : StandbyRec → State
  | .slot n state enable owner share source swap _ version manifest =>
    if version == 0 || state == SlotState.fault.code then
      (if state == SlotState.fault.code then s.slotTo n .fault else s) else
    let s := s.putSlot n { s.slot n with owner := owner }
    let s := ((s.putSetting ⟨.SLOT_SHARE, n, 0⟩ (.num share)).putSetting ⟨.SLOT_SOURCE, n, 0⟩ (.num source)).putSetting ⟨.SWAP_MODE, n, 0⟩ (.num swap)
    let s := (s.putSetting ⟨.SLOT_MANIFEST, n, 0⟩ (.blob (padTo (Obj.SLOT_MANIFEST).spec.len manifest))).slotLoad n
    let s := if (s.slot n).state == .empty then s.slotTo n .fault else s
    if enable then { s with fab := { s.fab with opens := s.fab.opens ++ [n] } } else s
  | _ => s

/-- A keyway's adapter table with a descriptor in place of its like, or in the first empty entry. -/
def tableWith (b d : Bytes) : Bytes :=
  let like (n : Nat) : Bool := leAt b (64 * n) 2 == leAt d 0 2 && leAt b (64 * n + 4) 2 == leAt d 4 2 && leAt b (64 * n + 2) 1 == leAt d 2 1
  match ((List.range 256).find? like).or ((List.range 256).find? (fun n => leAt b (64 * n) 2 == 0)) with
  | some n => overlay b (64 * n) d
  | none => b

/-- Maps and adapters are installed. -/
def State.recInstall (s : State) : StandbyRec → State
  | .map n v b => ({ s with kv := { s.kv with maps := s.kv.maps.filter (fun (m : AttnMap) => !(m.slot == n && m.version == v)) ++ [⟨n, v, b⟩] } } : State).note (s.slot n).owner (.map n v b)
  | .adapter kw _ d ps =>
    let k : OKey := ⟨.ADAPTER_TABLE, 0, kw⟩
    let s := s.putSetting k (.blob (tableWith (ovBytes (s.setting k)) d))
    (ps.foldl (fun (x : State) p => (x.fillKw kw p.1 p.2).getD x) s).note kw (.adapter kw (leAt d 0 2) d ps)
  | _ => s

/-- The requests that records name, each with what its steps delivered. -/
def replaysOf (l : List StandbyRec) : List Replay :=
  l.filterMap (fun x => match x with
    | .request i kw d p v dl =>
      let st := l.findSome? (fun y => match y with | .step j ts rp _ d => if j == i then some (ts, rp, d) else none | _ => none)
      match st with
      | some (ts, rp, d') => some { idx := i, kw := kw, desc := d, prompt := p, version := v, deadline := d', tokens := ts, ringProd := rp }
      | none => some { idx := i, kw := kw, desc := d, prompt := p, version := v, deadline := dl }
    | _ => none)

/-- Send IDENT again on every port (Table 11.11). -/
def State.identAll (s : State) : State :=
  ((List.range 23).filter (fun p => (s.port p).link ≥ 2 && (s.port p).link != 5)).foldl (fun (x : State) p => x.sendOn p x.identFrame) s

/-- Boundary L + 1: the spare takes the address (Table 11.11 step 2). -/
def State.adoptBoundary (s : State) : State :=
  match s.fab.adopting with
  | none => s
  | some (a, b) =>
    if s.beat.mode != .seeking && s.beat.number < b then s else
    let recs := ((s.fab.standby.find? (fun x => x.addr == a)).map (·.recs)).getD []
    let s := { s with fab := { s.fab with logical := some a, adopting := none, replaying := true, lost := s.fab.lost.filter (· != a), opens := [] } }
    let s := s.identAll
    let s := recs.foldl State.slotFrom s
    let s := recs.foldl State.recInstall s
    let s := { s with fab := { s.fab with replays := replaysOf recs } }
    let s := (s.fab.standby.map (·.addr)).foldl State.dropStandby s
    s.raise 0x1B02 0xFF

/-- Slots of a switch-in that are READY open, for their recorded FUNC_ENABLE (Table 11.11 step 3). -/
def State.openSlots (s : State) : State :=
  let go := s.fab.opens.filter (fun n => (s.slot n).state == .ready && (s.func (.slot n)).state == .off)
  let s := { s with fab := { s.fab with opens := s.fab.opens.filter (fun n => !go.contains n) } }
  go.foldl (fun (x : State) n =>
    (x.putSetting (funcEnableKey (.slot n)) (.num 1)).putFunc (.slot n) { x.func (.slot n) with want := some true }) s

/-! ### Replay (R478, R479) -/

/-- The tokens found in a token ring from an entry number on, the first number not found, and whether an entry carried FINAL. -/
def reconcile (m : List Host.Cell) (base log2 : Nat) : Nat → Nat → List Nat × Nat × Bool
  | 0, n => ([], n, false)
  | fuel + 1, n =>
    let e := memRead m (base + 16 * (n % 2 ^ log2)) 16
    let fl := leAt e 4 2
    if fl / 32768 != 1 - n / 2 ^ log2 % 2 then ([], n, false) else
    let (ts, k, fin) := reconcile m base log2 fuel (n + 1)
    let tok := leAt e 0 4
    (if fl.testBit 5 || tok == 0xFFFFFFFF then ts else tok :: ts, k, fin || fl.testBit 1)

/-- A request that cannot be replayed ends (R478 step 2): a final entry at the reconciled RING_PROD. -/
def State.replayEnd (s : State) (x : Replay) (n : Nat) : State :=
  let lg := leAt x.desc 32 1
  let a := leAt x.desc 24 8 + 16 * (n % 2 ^ lg)
  let s := s.dmaWrite x.kw a (ringEntry n lg 0xFFFFFFFF (endFlags 10 + 256 * 10) 0 s.beat.number 0)
  let s := (s.tokenIrq x.kw).inc .REPLAYS_FAILED
  (s.incK .REQS_FAILED x.kw).raise 0x8A02 x.kw 0 x.idx 10 (leAt x.desc 88 8)

/-- The replay of one request; true when it is done with. Without its draft slot it drafts nothing (spec/10 R435). -/
def State.replayOne (s : State) (x : Replay) : State × Bool :=
  let lg := leAt x.desc 32 1
  let slot := leAt x.desc 2 1
  let dslot := leAt x.desc 6 1
  if !s.kwDma x.kw then (s, false) else
  let (s, _) := s.dmaRead x.kw (leAt x.desc 24 8) (16 * 2 ^ lg)
  let (found, n, fin) := reconcile s.hostMem (leAt x.desc 24 8) lg (2 ^ lg) x.ringProd
  if fin then (s, true) else
  let fault := (s.slot slot).state == .fault || (s.slot slot).state == .empty
  let other := !((s.slot slot).cur.any (fun v => v.number == x.version))
  let noAdapter := leAt x.desc 36 2 != 0 && (s.adaptersOf x.kw (leAt x.desc 36 2)).isEmpty
  if fault || other || noAdapter then (s.replayEnd x n, true) else
  let toks := x.tokens ++ found
  match s.freeIndex, s.slotOpen slot with
  | some i, some (v, map) =>
    let r : ReqS := { state := .queued, kw := x.kw, slot := slot, cls := leAt x.desc 3 1, promptLen := x.prompt.length, maxNew := leAt x.desc 20 4
                      draftSlot := dslot, desc := x.desc, deadline := x.deadline, takenBeat := s.beat.count, generated := toks.length
                      again := toks.length, ringProd := n }
    let r := if toks.isEmpty then { r with takenAt := x.deadline - s.firstBudget r } else { r with lastDelivery := x.deadline - s.tokenBudget r }
    let go (d : Option (Version × Bytes)) : State × Bool :=
      match (s.putReq i r).admitToks i v map d (x.prompt ++ toks) with
      | (s', true) => ((s'.inc .REPLAYS_DONE).note x.kw (.request i x.kw x.desc x.prompt x.version x.deadline), true)
      | (_, false) => (s, false)
    let d := if dslot == 255 then none else s.slotOpen dslot
    match go d with
    | (s, true) => (if d.isSome then s else s.putReq i { s.req i with draftLen := 0 }, true)
    | x => x
  | _, _ => (s, false)

/-- A recorded request precedes another in the order of R417. -/
def replayBefore (a b : Replay) : Bool :=
  let c (x : Replay) : Nat := leAt x.desc 3 1
  decide (c a < c b) || (c a == c b && (decide (a.deadline < b.deadline) || (a.deadline == b.deadline && decide (a.idx < b.idx))))

/-- Insert in that order. -/
def replayInsert (a : Replay) : List Replay → List Replay
  | [] => [a]
  | b :: r => if replayBefore a b then a :: b :: r else b :: replayInsert a r

/-- Replay requests in order, at most a number of them; those that must wait. -/
def State.replayList (s : State) : List Replay → Nat → State × List Replay
  | [], _ => (s, [])
  | l, 0 => (s, l)
  | x :: r, n + 1 =>
    match s.replayOne x with
    | (s, true) => s.replayList r n
    | (s, false) => let (s, l) := s.replayList r (n + 1); (s, x :: l)

/-- Replay at item 4, once every slot that a request names serves or is FAULT (Table 11.11 step 4); its end (step 5). -/
def State.replayBoundary (s : State) : State :=
  if !s.fab.replaying || s.fab.adopting.isSome then s else
  let ready (n : Nat) : Bool := [SlotState.serving, .degraded, .fault, .empty].contains (s.slot n).state
  if !(s.fab.replays.all (fun x => ready (leAt x.desc 2 1) && (leAt x.desc 6 1 == 255 || ready (leAt x.desc 6 1)))) then s else
  let (s, left) := s.replayList (s.fab.replays.foldr replayInsert []) (s.set0 .ADMIT_MAX_PER_BEAT)
  let s := { s with fab := { s.fab with replays := left } }
  if left.isEmpty then ({ s with fab := { s.fab with replaying := false } }).raise 0x1B03 0xFF else s

/-- A page is empty and may be written again. -/
def PageS.blank (p : PageS) : PageS := { p with sealed := false, fill := 0, k := [], v := [] }

/-- A ring sequence is prefilled again from position 0 (R480, R478 step 3): its prompt and delivered tokens as one prompt. -/
def State.prefillAgain (s : State) (i : Nat) : State :=
  let r := s.req i
  let q := s.seqAt i
  let s := (s.kv.pagesOf q.cur ++ s.kv.pagesOf q.next).foldl (fun (x : State) h => x.putPage h (x.page h).blank) s
  let s := s.putSeq i { q with length := 0 }
  s.putReq i { r with state := .prefill, hold := .none, heldBeats := 0, causeBeats := 0, batch := none, prefillDone := 0, again := r.generated
                      ringLost := false }

/-- Ring requests held for a lost member whose address has been adopted: when its holder is SERVING again reaches the owner by no message the spec
names, so the boundary is free. -/
def State.ringReturn (s : State) : State :=
  let back (i : Nat) (r : ReqS) : Bool := r.ringLost && r.active && r.state == .held && r.hold == .retry && (s.seqAt i).state == 1 &&
    (List.range (s.seqAt i).ringSize).all (fun k => match s.memberAddr (s.seqAt i) k with | some a => !s.fab.lost.contains a | none => false)
  ((s.srv.reqs.filter (fun x => back x.1 x.2)).map Prod.fst).foldl (fun (x : State) i =>
    if x.freeBelow 2 == 1 then x.drawn.prefillAgain i else x.drawn) s

end Sys2Proof.Machine
end

