-- ==== Sys2Proof/Machine/Apply.lean ====
section
/-! DEFINITION. Machine/Apply.lean: what an accepted write does, at once or at its time (spec/03 R103–R106, R114–R118, Table 3.13, and the chapters
that give an object another time or an action). -/
namespace Sys2Proof.Machine
open Sys2Proof

/-! ### At acceptance -/

/-- ENG_RETIRE_REQ (spec/05 R211, R216): an engine, or a tier alone. -/
def State.retireUnit (s : State) (v : Nat) : State :=
  if uidType v == 5 then s.retireTier (s.engineOf v) (uidTierOf v) else s.retireEngine (s.engineOf v) .commanded

/-- A command that acts when it is accepted, and its refusal (R122): `buf` is what DMA reads for an ADAPTER_LOAD. -/
def State.acceptNow (s : State) (c : Ctx) (k : OKey) (v : OVal) (buf : Option Bytes) : State × Refused :=
  let n := ovNat v
  let b := ovBytes v
  match k.obj with
  | .ADAPTER_LOAD =>
    let r := s.adapterLoad c.kw b buf
    (r.1, if r.2 then none else some (0x10, 4))
  | .REQ_CANCEL => (s.cancelReq c.kw n 1, none)
  | .REQ_REARM => (s.rearmReq c.kw n, none)
  | .SPARE_ADOPT => if s.mayAdopt n then (s.spareAdopt n, none) else (s, some (0x10, 4))
  | .LC_REQUEST => s.lcRequest c.keyed b
  | .DEBUG_UNLOCK => s.debugUnlock b
  | .BIST_AUTH => s.bistAuth b
  | .KEY_INSTALL => s.keyInstall (pathOwn c.path) b
  | .MGMT_KEY_INSTALL => s.mgmtInstall (s.ward.lc == 2) b
  | _ => if isSelector k.obj then (s.select c k n, none) else (s, none)

/-- Refusals at acceptance of a command that acts at the boundary (spec/13 Table 13.6, spec/15 R616). -/
def State.acceptBar (s : State) (k : OKey) (v : OVal) : Refused :=
  match k.obj with
  | .SYSCAL_CMD => if s.syscalInSeq (ovNat v) then none else some (0x10, 4)
  | .FW_COMMIT => if s.boot.result == 1 || (s.waitingFor k).isSome then some (0x11, 1) else none
  | _ => none

/-- A write waits for its time; the last one of an object counts (R103, R104). -/
def State.queueWrite (s : State) (k : OKey) (v : OVal) : State := { s with waiting := s.waiting.filter (fun x => x.1 != k) ++ [(k, v)] }

/-- How a request is answered: status, detail, payload, and whether it changed state. -/
structure Answer where
  status  : Nat := 0
  detail  : Nat := 0
  payload : Bytes := []
  deriving DecidableEq, Repr

/-- A write of FUNC_ENABLE also moves or latches its function (Table 3.13); the answer is PENDING when it is latched. -/
def State.noteEnable (s : State) (k : OKey) (v : OVal) : State × Bool :=
  match k.obj, funcOfIndex k.inst with
  | .FUNC_ENABLE, some f => s.funcWrite f (ovNat v != 0)
  | _, _ => (s, false)

/-- A value is accepted as applied: taken or left waiting, every clamp reported (R103, R117, R118, Table 3.13). -/
def State.acceptAs (s : State) (c : Ctx) (k0 : OKey) (r : OVal × List Clamp) (buf : Option Bytes) : State × Answer :=
  let k := settingKey k0
  match s.acceptBar k r.1 with
  | some x => (s, { status := x.1, detail := x.2 })
  | none =>
    let now := k.obj.spec.effect == .now
    let y : State × Refused := if now then s.acceptNow c k0 r.1 buf else (s.queueWrite k r.1, none)
    match y.2 with
    | some x => (y.1, { status := x.1, detail := x.2 })
    | none =>
      let z := y.1.noteEnable k r.1
      let s := r.2.foldl (fun (s : State) x => s.clampRecord k c.sid (pathCode c.path) c.kw x) z.1
      let p := valueBytes k.obj r.1
      if !r.2.isEmpty then (s, { status := 1, detail := min 255 r.2.length, payload := p })
      else if z.2 then (s, { status := 2, detail := 1, payload := p })
      else (s, { detail := if now then 0 else 1, payload := p })

/-- A written value is range-checked field by field (R114–R116) and accepted. -/
def State.accept (s : State) (c : Ctx) (k : OKey) (v : OVal) (buf : Option Bytes) : State × Answer :=
  s.acceptAs c k (s.rangeCheck (settingKey k) v) buf

/-! ### At its time -/

/-- What a value does when it takes effect, beside standing in its object. -/
def State.applyEffect (s : State) (k : OKey) (v : OVal) : State :=
  let n := ovNat v
  let b := ovBytes v
  match k.obj with
  | .ENG_RETIRE_REQ => s.retireUnit n
  | .CAL_RUN_REQ => s.calRequest (s.engineOf n)
  | .SLOT_CMD => s.slotCmd k.inst n
  | .ATTN_MAP => s.putMap k.inst b
  | .KEY_CLOSE => s.closeKey n
  | .FABRIC_MAP => s.stageMap b
  | .ADAPTER_TABLE => s.noteAdapters k.kw (s.adapterEntries k.kw)
  | .SYSCAL_CMD => s.syscalCmd n
  | .SYSCAL_CHAN => s.syscalStop 0
  | .EVT_ACK => s.evtAck n
  | .LBIST_RUN => s.lbistRun n
  | .ARRAY_TEST_RUN => s.arrayRun n
  | .FW_SEG => s.stageSeg b
  | .FW_COMMIT => s.commitStart n
  | .FW_BANK_SELECT => s.bankSelect n
  | .DEV_POWER_CMD => s.setBoot (fun x => { x with command := n })
  | .PWR_LIMIT => s.limitCheck
  | .BEAT_NUMBER_SET => { s with beat := { s.beat with numberSet := some n } }
  | .HIST_CLEAR => s.histClear k.kw
  | _ => s

/-- A value takes effect (R103). AVS starts again from the fused setpoints when it is enabled (spec/13 R532). -/
def State.applyWrite (s : State) (x : OKey × OVal) : State :=
  let avs := x.1.obj == .AVS_ENABLE && s.set0 .AVS_ENABLE == 0 && ovNat x.2 == 1
  let s := if x.1.obj.spec.acc == .rw then s.putSetting x.1 x.2 else s
  let s := if avs then { s with pwr := { s.pwr with vcore := fusedSetpoints, runs := [] } } else s
  s.applyEffect x.1 x.2

/-- A write that waits for the next boundary; a SLOT_CMD also for a live Hasp core to act on it (spec/02 R54; log 61). -/
def State.isDue (s : State) (x : OKey × OVal) : Bool :=
  x.1.obj.spec.effect == .boundary && (x.1.obj != .SLOT_CMD || s.slotOwnerLive x.1.inst)

/-- Every write that waits for this boundary takes effect, in the order of acceptance (R103, R104); a raised SPARES_LOW_MARK is met by the tiers it
reaches (spec/05 R207). -/
def State.applyWaiting (s : State) : State :=
  let due := s.waiting.filter s.isDue
  let mark := s.set0 .SPARES_LOW_MARK
  (due.foldl State.applyWrite { s with waiting := s.waiting.filter (fun x => !s.isDue x) }).markRaised mark

/-- A written BEAT_NUMBER_SET takes effect at the boundary that begins its beat (spec/01 R42), before the beat is numbered. -/
def State.applyNumber (s : State) : State :=
  match s.waitingFor ⟨.BEAT_NUMBER_SET, 0, 0⟩ with
  | some v => ({ s with waiting := s.waiting.filter (fun x => x.1.obj != Obj.BEAT_NUMBER_SET) }).applyWrite (⟨.BEAT_NUMBER_SET, 0, 0⟩, v)
  | none => s

end Sys2Proof.Machine
end

