-- ==== Sys2Proof/Machine/Boundary.lean ====
section
/-! DEFINITION. Machine/Boundary.lean: the beat boundary and its open phase (spec/01 R35, R36, R42, and what the other chapters do at a boundary). -/
namespace Sys2Proof.Machine
open Sys2Proof

/-- Captures that were not audited in their beat are dropped and counted (spec/06 R256). -/
def State.dropCaptures (s : State) : State :=
  let l := s.kpr.captures
  l.foldl (fun (s : State) c => s.incK .AUDIT_SKIPPED c.pass.kw) { s with kpr := { s.kpr with captures := [], seen := [] } }

/-- The energy accounted for the beat that ends, in nJ (spec/13 R538): passes and tier programs (spec/05 R193, spec/08 R327), and `work`, the Keeper,
attention and memory work that the step charged. -/
def State.accounted (s : State) (work : Nat) : Nat := s.kpr.energy / (1000 * 2 ^ 32) + work

/-- The beat that ends: its step is left, overruns are reported, captures dropped (R39, spec/06 R256, spec/10 R424), and a step that runs on keeps its
settings (spec/04 R148). -/
def State.endBeat (s : State) : State :=
  let s := s.keepStepCfg.applyNumber.leaveSteps
  let busy := s.beat.busy
  let s := s.beginBeat
  (s.overruns busy).dropCaptures

/-- Settings and controllers at notch 0: accepted writes (spec/03 R103), the beat's source (R20), hierarchies, known-answer tests, functions,
removals, keys, the fabric map, slots. -/
def State.notchZero (s : State) : State :=
  let mode := s.set0 .BEAT_SOURCE
  let port := s.set0 .BEAT_LINK_PORT
  let s := (s.applyWaiting.selfResize.sourceCheck mode port).hierBoundary.katBoundary
  let s := s.funcsBoundary
  let s := s.removals.foldl State.removalPre s
  let s := s.keysBoundary.applyMap.echoTicks.confirmTick.adoptBoundary.openSlots
  s.slotsPre

/-- An engine's remap banks are swapped in, unless a pair is under way on it (spec/05 R185, R205). -/
def State.remapDue (s : State) (e : Nat) : State :=
  if s.pairUnderWay e then s else [0, 1, 2, 3].foldl (fun (s : State) t => s.swapRemap e t) s

/-- R35 item 1 and what goes with it: calibration runs that overran are stopped, stages counted, trim banks, remap banks and retirements swapped in,
due engines placed (spec/05 R205, R212; spec/07 R269, R281, R284–R287). -/
def State.itemOne (s : State) (ran : Bool) : State :=
  let engs := s.eng.map Prod.fst
  let s := s.calOverrun engs
  let s := if ran then s.calSkipped else s
  let s := { s with cal := { s.cal with stageEngs := [] } }
  let s := [0, 1, 2, 3].foldl State.calCommit s.standoffTick
  let s := (engs.foldl State.remapDue s).deferSwaps (engs.filter s.pairUnderWay)
  let s := engs.foldl State.applyRetire s
  s.placeDueAll s.dueIds

/-- R35 item 3: removals first, rings whose partner returned or is gone, then ends, cancellations and frees, at most `frees` of them where the open
phase cannot finish (R36). -/
def State.itemThree (s : State) (frees : Option Nat) : State := (s.removals.foldl State.removalItem3 s).releaseRings.items3 frees

/-- R35 item 4: ranges of FAULTED Hasp cores, FREE by now, change their owner (spec/02 R63); replays at a spare, sequences that return to a ring, new
requests, at most `admits` where the open phase cannot finish (R36). -/
def State.itemFour (s : State) (admits : Option Nat) : State := s.takeover.replayBoundary.ringReturn.items4 admits

/-- R35 item 5: the power manager's budget (spec/13 R538, R539), then the batch, once the first step may run (spec/15 R609), and the quadrants that it
leaves free are gated (spec/02 R69). -/
def State.itemFive (s : State) (costs : List StepCost) (quiet work : Nat) : State :=
  let s := (s.powerBoundary (s.accounted work) quiet).bootBoundary
  let s := { s with kpr := { s.kpr with energy := 0 } }
  (if s.boot.stepped then s.items5 costs else s).gateBoundary

/-- What follows the items: slots, hand-offs, markers, and then what stops the device: a life-cycle transition, a power command, the watchdog. -/
def State.boundaryEnd (s : State) : State :=
  ((s.slotsPost.handSends.deadRounds.sendMarkers).lcBoundary.devPower.wdtStopNow).flush

/-- BEAT_BOUNDARY: notch 0 of a beat, its open phase run in R35's order. `host` is what the host has written that DMA reads, `costs` the measured
cost of the step that ended for each version, `quiet` and `work` the energies of R538 in nJ; `frees` and `admits` are how much of items 3 and 4 the
open phase has time for, all of it where none is given (R36). -/
def beatBoundary (host : List HostCell) (costs : List StepCost) (quiet work : Nat) (frees admits : Option Nat) (s : State) : State :=
  if !s.boundaryDue then s else
  let ran := s.beat.phase != .none
  let s := (s.hostWrote host).endBeat.notchZero
  ((((s.itemOne ran).rootSwaps.itemThree frees).itemFour admits).itemFive costs quiet work).boundaryEnd

/-- BEAT_BOUNDARY. -/
def execBeatBoundary (t : Nat) (host : List HostCell) (costs : List StepCost) (quiet : Nat) (work : OpenWork) (s : State) :
    Host.Outcome State Fault Refusal :=
  .next (beatBoundary host costs quiet work.energy work.frees work.admits (s.at t))

/-- SEEKING_WRITE_APPLY (R105): in SEEKING what waits for a boundary takes effect without one, with what stands behind it: functions and removals
move, quadrants are gated, keys change, a map is installed, a life-cycle transition or a power command begins. -/
def seekingApply (s : State) : State :=
  if s.beat.mode != .seeking then s else
  let mode := s.set0 .BEAT_SOURCE
  let port := s.set0 .BEAT_LINK_PORT
  let s := (s.applyWaiting.sourceCheck mode port).funcsSeek
  let s := s.removals.foldl State.removalSeek s
  (s.gateBoundary.keysBoundary.applyMap.lcBoundary.devPower.wdtStopNow).flush

/-- SEEKING_WRITE_APPLY. -/
def execSeekingWriteApply (t : Nat) (s : State) : Host.Outcome State Fault Refusal := .next (seekingApply (s.at t))

end Sys2Proof.Machine
end

