-- ==== Sys2Proof/Machine/Gdp.lean ====
section
/-! DEFINITION. Machine/Gdp.lean: the dictionary protocol: frames, sessions, the order of refusals, operations and replies (spec/03 R85–R133,
R631–R633; spec/12 R521, R523). -/
namespace Sys2Proof.Machine
open Sys2Proof

/-- A request, its frame checked. `whole` is a value that a command carries as a closed sequence of segments (R106); `buf` is what DMA reads for an
ADAPTER_LOAD (spec/08 R320). -/
structure GReq where
  path    : GdpPath
  ver     : Nat := 1
  op      : Nat
  sid     : Nat
  seq     : Nat
  index   : Nat
  sub     : Nat
  detail  : Nat := 0
  target  : Nat := 0
  payload : Bytes := []
  whole   : Option Bytes := none
  buf     : Option Bytes := none
  deriving DecidableEq, Repr

/-- The fields of a frame (Table 3.3). -/
def reqOf (p : GdpPath) (f : Bytes) : GReq :=
  { path := p, ver := leAt f 2 1, op := leAt f 3 1, sid := leAt f 4 2, seq := leAt f 6 2, index := leAt f 8 2, sub := leAt f 10 1
    detail := leAt f 12 1, target := leAt f 13 1, payload := (f.drop 16).take (leAt f 14 2) }

/-- What is wrong with a frame, 0 for nothing (R91, Table 3.16). Of several faults the first in the order MAGIC, LENGTH, CRC is the cause reported
(log 64). -/
def frameCause (f : Bytes) : Nat :=
  let n := leAt f 14 2
  if leAt f 0 2 != 0x4744 then 1
  else if n > 1024 || f.length != 20 + n then 3
  else if leAt f (16 + n) 4 != crc32c (f.take (16 + n)) then 2
  else 0

/-- The keyway whose view a request addresses, none for the physical dictionary (R126, R127). -/
def GReq.view (q : GReq) : Option Nat :=
  match pathOwn q.path with
  | some n => some n
  | none => if q.target.testBit 7 then some (q.target % 64) else none

/-- KEYWAY of a response log record (Table 3.9). -/
def GReq.kw (q : GReq) : Nat := q.view.getD 0

/-! ### Sessions (R94–R100, R633) -/

/-- One minute of the hub oscillator, in picoseconds. -/
def minute : Nat := 60000000000000

/-- Ten seconds of the hub oscillator, in picoseconds. -/
def tenSec : Nat := 10000000000000

/-- A session changed. -/
def State.putSession (s : State) (n : Nat) (x : Session) : State := { s with gdp := { s.gdp with sessions := mapSet s.gdp.sessions n x } }

/-- The session that a request names, if it may: a mailbox names its own implicit one (R100), another path one that it opened. -/
def State.sessionOf (s : State) (q : GReq) : Option Session :=
  match q.path with
  | .mailbox fn _ => if q.sid == 0x8000 + fn then some ((mapFind s.gdp.sessions q.sid).getD { path := q.path, proved := true }) else none
  | _ =>
    if q.sid ≥ 0x8000 then none else
    match mapFind s.gdp.sessions q.sid with
    | some x => if pathCode x.path == pathCode q.path then some x else none
    | none => none

/-- Who asks (R97, R100, R523). -/
def State.ctxOf (s : State) (q : GReq) (x : Session) : Ctx :=
  let expert := match q.path with
    | .mailbox fn _ => s.setK .KW_EXPERT_ALLOWED fn != 0
    | _ => x.expert
  { sid := q.sid, path := q.path, view := q.view, expert := expert, keyed := x.remote && x.expert && x.proved && !x.claim
    claim := x.claim && x.proved }

/-- Places that a transport's sessions take, and how many there are (Table 3.1). -/
def State.placesTaken (s : State) (p : GdpPath) : Nat :=
  (s.gdp.sessions.filter (fun x => decide (x.1 < 0x8000) && pathCode x.2.path == pathCode p)).length

def placesOf (p : GdpPath) : Nat := match p with
  | .mgmt _ _ _ => 16
  | _ => 4

/-- The lowest session number that none holds (R633). -/
def State.freeSid (s : State) : Nat := ((List.range 32).find? (fun n => n != 0 && (mapFind s.gdp.sessions n).isNone)).getD 1

/-- The device waits to be claimed: PROVISIONED, and no management key is installed (R96). -/
def State.claimable (s : State) : Bool := s.ward.lc == 2 && s.ward.mgmtKey.isNone

/-- SESSION_OPEN (R96, R523, R633): the answer and the session number of the reply. -/
def State.openSession (s : State) (q : GReq) : State × Answer × Nat :=
  let level := leAt q.payload 0 1
  let mgmt := pathCode q.path == 0
  let claimed := s.gdp.sessions.any (fun x => x.2.claim)
  if q.payload.length != 36 || level > 1 then (s, { status := 0x10, detail := 3 }, q.sid)
  else if s.ward.lc == 2 && (mgmt || (s.claimable && (level == 0 || claimed))) then (s, { status := 0x10, detail := 5 }, q.sid)
  else if s.placesTaken q.path ≥ placesOf q.path then (s, { status := 0x11, detail := 4 }, q.sid)
  else
    let n := s.freeSid
    let (s, ch) := s.random 48
    let x : Session := { path := q.path, expert := level == 1, claim := s.claimable, nonce := (q.payload.drop 4).take 32, challenge := ch
                         opened := s.now, active := s.now }
    (s.putSession n x, { payload := ch }, n)

/-- A proof holds (R96, R633). -/
def State.proofOk (s : State) (n : Nat) (x : Session) (b : Bytes) : Bool :=
  b.length == 48 && (x.claim || (match s.ward.mgmtKey with
    | some k => hmac384 k (x.nonce ++ x.challenge ++ leBytes 1 (if x.expert then 1 else 0) ++ leBytes 1 (pathCode x.path) ++ leBytes 2 n) == b
    | none => false))

/-- A failed proof is counted by its source; the eighth within 60 s mutes the source (R96). -/
def State.proofFailed (s : State) (q : GReq) : State :=
  let src := pathSource q.path
  let old := (((s.gdp.failed.find? (fun x => x.1 == src)).map Prod.snd).getD []).filter (fun t => decide (s.now < t + minute))
  let l := old ++ [s.now]
  let g := { s.gdp with failed := s.gdp.failed.filter (fun x => x.1 != src) ++ [(src, l)] }
  let g := if l.length ≥ 8 then { g with muted := g.muted.filter (fun x => x.1 != src) ++ [(src, s.now)] } else g
  ({ s with gdp := g }).raise 0x4301 0xFF 0 (pathCode q.path) q.sid l.length

/-- SESSION_PROVE on a half-open session. -/
def State.proveSession (s : State) (q : GReq) (x : Session) : State × Answer :=
  if s.proofOk q.sid x q.payload then
    (s.putSession q.sid { x with proved := true }, { payload := leBytes 2 q.sid })
  else (s.proofFailed q, { status := 0x10, detail := 7 })

/-! ### The order of refusals (R631) -/

/-- Operations that change something (R129, R131, R132). -/
def opWrites (op : Nat) : Bool := [2, 4, 6, 7].contains op

/-- What a claim session may do (spec/12 R523). -/
def claimAllows (q : GReq) : Bool :=
  (q.op == 1 && (q.index == 0x1000 || q.index == 0x4000 || q.index == 0x7000)) ||
    (q.op == 2 && findObj q.index q.sub 0 == some ⟨.MGMT_KEY_INSTALL, 0, 0⟩)

/-- Objects whose value is kept as long as it was written: their tables give a greatest length. -/
def keepsLength (o : Obj) : Bool := [Obj.SLOT_MANIFEST, .ATTN_MAP, .FW_SEG].contains o

/-- The segments of a sequence as one value; bytes that no segment gave are 0. -/
def joinSegs (o : Obj) (l : List (Nat × Bytes)) : Bytes :=
  let n := (l.map (fun x => x.1 + x.2.length)).foldl max 0
  let b := l.foldl (fun b x => overlay b x.1 x.2) (zeros n)
  if keepsLength o || o.spec.ty != .blob then b else padTo (objSize o) b

/-- A segment that closes its sequence (R106). -/
def GReq.closes (q : GReq) : Bool := q.whole.isSome || q.detail.testBit 0

/-- The open sequence of a session on an object. -/
def GReq.mine (q : GReq) (k : OKey) (b : BlockSeq) : Bool := b.session == q.sid && b.key == k

/-- The segments that a WRITE_BLOCK leaves staged. -/
def State.segments (s : State) (q : GReq) (k : OKey) : List (Nat × Bytes) :=
  match q.whole with
  | some b => [(0, b)]
  | none => ((s.gdp.blocks.find? (q.mine k)).map (·.bytes)).getD [] ++ [(leAt q.payload 0 4, q.payload.drop 4)]

/-- Existence (step 5): object, then unit. -/
def State.existsFor (s : State) (q : GReq) (c : Ctx) : Refused :=
  if q.sub == 0 then (if (s.topSub c q.index).isSome then none else some (0x12, 1)) else
  match s.lookup c q.index q.sub with
  | none => some (0x12, 1)
  | some k =>
    let named (b : Bytes) : Bool := b.length != objSize k.obj || s.unitNamed c k.obj (leNat b)
    if (q.op == 2 && !named q.payload) || (q.op == 4 && q.closes && !named (joinSegs k.obj (s.segments q (settingKey k)))) then some (0x12, 2)
    else if (q.op == 1 || q.op == 3) && !s.answers c k.obj then some (0x12, 2)
    else none

/-- A view does not permit a write, nor anything of 0x6200 (step 6, Table 3.14); a mailbox whose keyway is under removal answers READ and DESCRIBE only (spec/12 Table 12.6). -/
def State.barredFor (s : State) (q : GReq) (c : Ctx) : Refused :=
  let removing := match q.path with
    | .mailbox fn _ => s.kwClosing fn && q.op != 1 && q.op != 5
    | _ => false
  let bar := match c.view with
    | none => false
    | some n => q.index / 256 == 0x62 || opWrites q.op && (match s.lookup c q.index q.sub with
      | some k => s.viewBars n k
      | none => (s.subs c q.index).all (fun x => (s.lookup c q.index x).elim true (s.viewBars n)))
  if removing || bar then some (0x10, 4) else none

/-- Access, then size (step 8). -/
def State.accessFor (s : State) (q : GReq) (c : Ctx) : Refused :=
  match s.lookup c q.index q.sub with
  | none =>
    if q.op == 2 || q.op == 4 then some (0x10, 1) else if q.op == 3 && q.payload.length != 4 then some (0x10, 3) else none
  | some k =>
    let sp := k.obj.spec
    let ro := sp.acc == .ro || sp.acc == .cor
    let blob := sp.ty == .blob
    let n := q.payload.length
    match q.op with
    | 1 => if sp.acc == .wo then some (0x10, 2)
           else if blob && (valueBytes k.obj (s.readValue c k).1).length > 1024 then some (0x10, 3) else none
    | 2 => if ro then some (0x10, 1) else if n != objSize k.obj then some (0x10, 3) else none
    | 3 => if sp.acc == .wo then some (0x10, 2) else if n != 4 then some (0x10, 3) else none
    | 4 =>
      let fits := match q.whole with
        | some b => decide (b.length ≤ objSize k.obj)
        | none => decide (4 ≤ n) && decide (leAt q.payload 0 4 + (n - 4) ≤ objSize k.obj)
      let whole := blob || !q.closes || (joinSegs k.obj (s.segments q (settingKey k))).length == objSize k.obj
      if ro then some (0x10, 1) else if !fits || !whole then some (0x10, 3) else none
    | 6 => if ro then some (0x10, 1) else none
    | _ => none

/-- Writes that the life-cycle state permits (spec/12 Table 12.8). -/
def State.lcWrites (s : State) (index : Nat) : Bool :=
  match s.ward.lc with
  | 0 => index == 0x4000
  | 2 => index == 0x4000 || index == 0x7000
  | 5 => false
  | _ => true

/-- A command of an object that the life-cycle state forbids (R132; spec/12 Table 12.8, R523; spec/14 R592). -/
def State.lcBars (s : State) (c : Ctx) (o : Obj) : Bool :=
  let test := s.ward.lc == 1 || s.ward.lc == 4
  match o with
  | .KEY_INSTALL => s.ward.lc != 3
  | .MGMT_KEY_INSTALL => !((s.ward.lc == 2 && c.claim) || s.ward.lc == 3)
  | .DEBUG_UNLOCK => !([2, 3, 4].contains s.ward.lc)
  | .BIST_AUTH => !test
  | .LBIST_RUN => !(s.bist.auth && test)
  | .ARRAY_TEST_RUN => !(s.bist.auth && test)
  | _ => false

/-- Indices that accept writes in limited service (R131). -/
def limitedWrites (index : Nat) : Bool :=
  index == 0x1F00 || index == 0x4000 || (0x5000 ≤ index && index ≤ 0x5200) || (0x6000 ≤ index && index ≤ 0x6200) || index == 0x7000

/-- A die steward, or a Hasp core, is resetting. -/
def State.resetting (s : State) (u : UnitId) : Bool := s.ownState u == .resetting

/-- Subindices of an index that a RESTORE of subindex 0 resets: those the session may write. -/
def State.restorable (s : State) (c : Ctx) (index : Nat) : List OKey :=
  ((s.subs c index).filterMap (s.lookup c index)).filter (fun k =>
    k.obj.spec.acc == .rw && (c.expert || !k.obj.spec.expert) && !(c.view.elim false (fun n => s.viewBars n k)))

/-- BUSY (step 12): a block sequence of another session, a commit under way is left to acceptance, an owner that is resetting. A request is served when
it arrives, so none is ever queued behind another (DETAIL 0x03; log 65). -/
def State.busyFor (s : State) (q : GReq) (c : Ctx) : Refused :=
  let open_ := (q.op == 2 || q.op == 4 || q.op == 6) && s.gdp.blocks.any (fun b => b.session != q.sid && (match s.lookup c q.index q.sub with
    | some k => b.key == settingKey k
    | none => q.op == 6 && (s.restorable c q.index).any (fun (k : OKey) => b.key == settingKey k)))
  let v := leNat q.payload
  let die := match s.canonUnit v with
    | some u => s.resetting (uidDie (uidDieOf u))
    | none => false
  let owner := q.op == 2 && (match s.lookup c q.index q.sub with
    | none => false
    | some k => match k.obj with
      | .SLOT_CMD => s.resetting (uidHasp (s.hier.rangeOwner.getD (k.inst % 8) 0))
      | .REQ_CANCEL => s.resetting (uidHasp (s.ownerOf v))
      | .REQ_REARM => s.resetting (uidHasp (s.ownerOf v))
      | .ENG_RETIRE_REQ => die
      | .CAL_RUN_REQ => die
      | .QUAD_GATE_REQ => (List.range 16).any (fun b => v.testBit b != (s.set0 .QUAD_GATE_REQ).testBit b && s.resetting (uidDie (b / 4)))
      | _ => false)
  if open_ then some (0x11, 1) else if owner then some (0x11, 2) else none

/-- The first refusal that applies after the session's (R631, steps 4 to 12). -/
def State.refusalFor (s : State) (q : GReq) (c : Ctx) : Refused :=
  let k := s.lookup c q.index q.sub
  if c.claim && !claimAllows q then some (0x10, 5)
  else if !((1 ≤ q.op && q.op ≤ 7) || (0x10 ≤ q.op && q.op ≤ 0x12)) then some (0x12, 3)
  else if q.op ≥ 0x10 then none
  else (((((((s.existsFor q c).orElse (fun _ => s.barredFor q c)).orElse
    (fun _ => if q.op != 5 && !c.expert && k.elim false (fun k => k.obj.spec.expert) then some (0x13, 0) else none)).orElse
    (fun _ => s.accessFor q c)).orElse
    (fun _ => if opWrites q.op && (!s.lcWrites q.index || ((q.op == 2 || q.op == 4) && k.elim false (fun k => s.lcBars c k.obj))) then some (0x10, 5) else none)).orElse
    (fun _ => if opWrites q.op && s.boot.limited != 0 && !limitedWrites q.index then some (0x10, 6) else none)).orElse
    (fun _ => if k.elim false (fun k => (q.op == 1 || q.op == 3) && s.secret c k ||
      (q.op == 2 || q.op == 4) && k.obj == .DEBUG_UNLOCK && s.confBits != 0) then some (0x10, 8) else none)).orElse
    (fun _ => s.busyFor q c)

/-! ### Operations (Table 3.4) -/

/-- READ. -/
def State.doRead (s : State) (q : GReq) (c : Ctx) : State × Answer :=
  match s.lookup c q.index q.sub with
  | none => (s, { payload := leBytes 1 ((s.topSub c q.index).getD 0) })
  | some k =>
    let v := s.readValue c k
    (s.afterRead c k, { detail := if v.2 then 1 else 0, payload := valueBytes k.obj v.1 })

/-- READ_BLOCK (R109): up to 1,020 bytes from an offset. -/
def State.doReadBlock (s : State) (q : GReq) (c : Ctx) : State × Answer :=
  let off := leAt q.payload 0 4
  match s.lookup c q.index q.sub with
  | none => (s, { payload := leBytes 4 off ++ (leBytes 1 ((s.topSub c q.index).getD 0)).drop off })
  | some k =>
    let v := s.readValue c k
    (s.afterRead c k, { detail := if v.2 then 1 else 0, payload := leBytes 4 off ++ ((valueBytes k.obj v.1).drop off).take 1020 })

/-- WRITE (R102–R104, R114–R117). -/
def State.doWrite (s : State) (q : GReq) (c : Ctx) : State × Answer :=
  match s.lookup c q.index q.sub with
  | none => (s, {})
  | some k => s.accept c k (if k.obj.spec.ty == .blob then .blob q.payload else .num (leNat q.payload)) q.buf

/-- WRITE_BLOCK (R106): a segment is staged; with the last, the whole value is accepted. -/
def State.doWriteBlock (s : State) (q : GReq) (c : Ctx) : State × Answer :=
  match s.lookup c q.index q.sub with
  | none => (s, {})
  | some k0 =>
    let k := settingKey k0
    let rest := s.gdp.blocks.filter (fun b => !q.mine k b)
    let segs := s.segments q k
    if q.closes then
      let b := joinSegs k.obj segs
      let v : OVal := if k.obj.spec.ty == .blob then .blob b else .num (leNat b)
      let r := ({ s with gdp := { s.gdp with blocks := rest } } : State).accept c k0 v q.buf
      let s1 := r.1
      if r.2.status ≥ 0x10 then ({ s1 with gdp := { s1.gdp with blocks := s.gdp.blocks } }, r.2) else (s1, { r.2 with payload := [] })
    else ({ s with gdp := { s.gdp with blocks := rest ++ [⟨q.sid, k, segs, s.now⟩] } }, {})

/-- Type codes of Table 3.5. -/
def tyCode : ObjTy → Nat
  | .bool => 1 | .u8 => 2 | .u16 => 3 | .u32 => 4 | .u64 => 5 | .i16 => 7 | .i32 => 8 | .f32 => 0x0A | .blob => 0x0C

/-- Access codes of Table 3.6. -/
def accCode : Access → Nat
  | .ro => 0 | .cor => 1 | .rw => 2 | .wo => 3

/-- Least and greatest value of a type, as the bits of the value (R632). -/
def tyLimits : ObjTy → Nat × Nat
  | .bool => (0, 1)
  | .i16 => (0x8000, 0x7FFF)
  | .i32 => (0x80000000, 0x7FFFFFFF)
  | .f32 => (0xFF7FFFFF, 0x7F7FFFFF)
  | t => (0, 256 ^ tySize t - 1)

/-- FLAGS [2:1] of a BLOB: the tables give these a range for their elements, TH_LIMIT one of two parts. -/
def blobFlags (o : Obj) : Nat :=
  if o == .TH_LIMIT then 2
  else if [Obj.SENSE_AVG_LOG2, .SENSE_SHIFT, .SYSCAL_COEF, .TH_PULLUP, .TH_NOMINAL, .TH_BETA, .IMON_SCALE].contains o then 0 else 4

/-- FLAGS [2:1], MINIMUM and MAXIMUM of an object (R632). -/
def rangeOf (o : Obj) : Nat × Nat × Nat :=
  let sp := o.spec
  let w := 8 * tySize sp.ty
  match sp.range with
  | .any => (if sp.ty == .blob then blobFlags o else 4, tyLimits sp.ty)
  | .segs l => (if l.length > 1 then 2 else 0, unsigned w (l.headD (0, 0)).1, unsigned w (l.getLastD (0, 0)).2)
  | .mult lo hi step => (0, lo, lo + (hi - lo) / max 1 step * step)
  | .pow2 lo hi => (0, lo, hi)
  | .f32 lo hi => (0, lo, hi)

/-- DEFAULT of an instance as DESCRIBE gives it (R111, R632): an as-built or as-fused one is this device's value. -/
def State.describeDflt (s : State) (c : Ctx) (k : OKey) : Nat :=
  if [Obj.CORE_SITE_MAP_n, .LC_STATE, .LC_RETURNS, .MGMT_MAC, .FUNC_OPEN_LIMIT, .FUNC_CLOSE_LIMIT].contains k.obj then ovNat (s.readOnly c k)
  else ovNat (s.dfltValue (settingKey k))

/-- DESCRIBE (R632). -/
def State.doDescribe (s : State) (q : GReq) (c : Ctx) : State × Answer :=
  match s.lookup c q.index q.sub with
  | none => (s, { payload := [2, 0, 0, 4, 0, 0, 255] })
  | some k =>
    let sp := k.obj.spec
    let barred := c.view.elim false (fun n => s.viewBars n k)
    let acc := if barred && sp.acc == .rw then 0 else accCode sp.acc
    let r := rangeOf k.obj
    let head := leBytes 1 (tyCode sp.ty) ++ leBytes 1 acc ++ leBytes 1 (if sp.expert then 1 else 0) ++ leBytes 1 ((if sp.persisted then 1 else 0) + r.1)
    let n := tySize sp.ty
    let tail := if sp.ty == .blob then leBytes 4 sp.len else leBytes n (s.describeDflt c k) ++ leBytes n r.2.1 ++ leBytes n r.2.2
    (s, { payload := head ++ tail })

/-- One subindex is reset to its default (R111); a selector forgets what the session wrote, a WO command has none. -/
def State.restoreOne (s : State) (c : Ctx) (k : OKey) : State × Answer :=
  if isSelector k.obj then
    ({ s with gdp := { s.gdp with select := s.gdp.select.filter (fun x => !(x.session == c.sid && x.key == k)) } }, {})
  else if k.obj.spec.acc == .rw then
    let r := s.acceptAs c k (s.dfltValue (settingKey k), []) none
    (r.1, { r.2 with payload := [] })
  else (s, {})

/-- RESTORE (R111). -/
def State.doRestore (s : State) (q : GReq) (c : Ctx) : State × Answer :=
  match s.lookup c q.index q.sub with
  | some k => s.restoreOne c k
  | none => ((s.restorable c q.index).foldl (fun (s : State) k => (s.restoreOne c k).1) s, { detail := 1 })

/-- STORE (R112): the current values of the persisted subindices of the index, as a READ returns them. -/
def State.doStore (s : State) (q : GReq) (c : Ctx) : State × Answer :=
  let l := ((s.subs c q.index).filterMap (s.lookup c q.index)).filter (fun k =>
    k.obj.spec.persisted && !(c.view.elim false (fun n => s.viewBars n k)))
  (l.foldl (fun (s : State) k => { s with store := cellPut s.store (settingKey k) (s.readValue c k).1 }) s, {})

/-- An operation on an object. -/
def State.operate (s : State) (q : GReq) (c : Ctx) : State × Answer :=
  match q.op with
  | 1 => s.doRead q c
  | 2 => s.doWrite q c
  | 3 => s.doReadBlock q c
  | 4 => s.doWriteBlock q c
  | 5 => s.doDescribe q c
  | 6 => s.doRestore q c
  | 7 => s.doStore q c
  | _ => (s, {})

/-! ### A request (R101) -/

/-- A refusal adds one record to the response log (R119). -/
def State.logResponse (s : State) (q : GReq) (a : Answer) : State :=
  if a.status < 0x10 then s else
  let r : RespRec := { index := q.index, sub := q.sub, op := q.op, status := a.status, detail := a.detail, session := q.sid
                       transport := pathCode q.path, keyway := q.kw, notch := s.notchTime }
  let l := s.gdp.resps ++ [r]
  ({ s with gdp := { s.gdp with resps := l.drop (l.length - 64), respN := s.gdp.respN + 1 } }).incK .RESP_LOG_COUNT q.kw

/-- The reply frame of an answer (R93). -/
def replyFrame (q : GReq) (sid : Nat) (a : Answer) : Bytes := gdpFrame q.op sid q.seq q.index q.sub a.status a.detail q.target a.payload

/-- What the Ward's ROM answers in recovery (spec/15 R613): sessions, READ of 0x1000 and of BOOT_STATE, the update objects for KIND 1. -/
def State.recoveryAnswers (s : State) (q : GReq) : Bool :=
  let v := leNat q.payload
  (0x10 ≤ q.op && q.op ≤ 0x12) || (q.op == 1 && (q.index == 0x1000 || (q.index == 0x7000 && q.sub == 1))) ||
    (q.index == 0x7000 && 7 ≤ q.sub && q.sub ≤ 0x0D && (match q.sub with
      | 7 => q.op == 1 || v == 1
      | 0x0C => v == 1
      | 0x0D => true
      | _ => s.set0 .FW_TARGET == 1 || (s.waitingFor ⟨.FW_TARGET, 0, 0⟩) == some (.num 1)))

/-- A request of a session that stands (R631 from step 4): its last answer is kept (R94). -/
def State.inSession (s : State) (q : GReq) (x : Session) : State × Answer :=
  let c := s.ctxOf q x
  if pathCode q.path == 2 && (q.op == 0x11 || q.op == 0x12) then (s, { status := 0x10, detail := 4 })
  else if !x.proved then
    if q.op == 0x11 then s.proveSession q x
    else if q.op == 0x12 then (s.closeSessions (fun n _ => n == q.sid), {})
    else (s, { status := 0x10, detail := 7 })
  else if q.op == 0x11 then (s, { status := 0x10, detail := 7 })
  else
    match s.refusalFor q c with
    | some r => (s, { status := r.1, detail := r.2 })
    | none => if q.op == 0x12 then (s.closeSessions (fun n _ => n == q.sid), {}) else s.operate q c

/-- The reply of a session is kept with the SEQ it answered, while the session stands. -/
def State.keepReply (s : State) (q : GReq) (f : Bytes) : State :=
  match s.sessionOf q with
  | some x => s.putSession q.sid { x with lastSeq := some q.seq, reply := f, active := s.now }
  | none => s

/-- A request whose frame is good: the state and the reply, none where none is sent (R91–R96, R631). -/
def State.request (s : State) (q : GReq) : State × Option Bytes :=
  let done (x : State × Answer) (sid : Nat) : State × Bytes := (x.1.logResponse q x.2, replyFrame q sid x.2)
  if s.gdp.muted.any (fun x => x.1 == pathSource q.path) then (s, none)
  else if q.ver != 1 then
    let r := done (s, { status := 0x10, detail := 9 }) q.sid
    (r.1, some r.2)
  else if s.boot.recovery && !s.recoveryAnswers q then (s, none)
  else if pathCode q.path == 2 && q.op == 0x10 then
    let r := done (s, { status := 0x10, detail := 4 }) q.sid
    (r.1, some r.2)
  else if q.op == 0x10 then
    let r := s.openSession q
    let y := done (r.1, r.2.1) r.2.2
    (y.1, some y.2)
  else match s.sessionOf q with
    | none =>
      let r := done (s, { status := 0x10, detail := 7 }) q.sid
      (r.1, some r.2)
    | some x =>
      if x.lastSeq == some q.seq then (s.putSession q.sid { x with active := s.now }, some x.reply)
      else
        let r := done (s.inSession q x) q.sid
        (r.1.keepReply q r.2, some r.2)

/-! ### Frames on their paths (R86–R91) -/

/-- The mailbox of a function. -/
def State.box (s : State) (fn : Nat) : Mailbox := mapGet s.gdp.boxes fn {}
/-- A mailbox changed. -/
def State.putBox (s : State) (fn : Nat) (x : Mailbox) : State := { s with gdp := { s.gdp with boxes := mapSet s.gdp.boxes fn x } }

/-- The part of the Ward that answers a path is up: the image, or in recovery the ROM, on I3C only (spec/15 R613). -/
def State.pathUp (s : State) : GdpPath → Bool
  | .i3c _ _ _ => s.boot.ward || s.boot.recovery
  | _ => s.boot.ward

/-- A dropped frame is counted and reported (R91). -/
def State.badFrame (s : State) (p : GdpPath) (cause : Nat) : State :=
  match p with
  | .mailbox fn _ => (s.incK .GDP_BAD_FRAMES fn).raise 0x4302 fn 0 2 fn cause
  | _ => (s.inc .GDP_BAD_FRAMES).raise 0x4302 0xFF 0 (pathCode p) 0xFF cause

/-- A frame or a request with its reply sent; a datagram or message that is none of GDP is nothing to it (R86, R87). -/
def State.serveRemote (s : State) (p : GdpPath) (cause : Nat) (q : GReq) : State :=
  if !(s.pathUp p && pathTakes p) then s
  else if cause != 0 then s.badFrame p cause
  else
    let r := s.request q
    match r.2 with
    | some f => (r.1.emit (.gdpReply p f)).flush
    | none => r.1

/-- The frame in a mailbox's buffer is answered (R89, R91): BUSY ends, and DONE with a reply. -/
def State.answerBox (s : State) (fn : Nat) (b : Bytes) (cause : Nat) (q : GReq) : State :=
  let x := s.box fn
  if cause != 0 then (s.putBox fn { x with busy := false, done := false, dropped := true, req := b }).badFrame (.mailbox fn) cause
  else
    let s := s.putBox fn { x with done := false, req := b }
    let r := s.request q
    match r.2 with
    | some f =>
      let s := r.1
      let y := s.box fn
      let s := s.putBox fn { y with busy := false, done := true, rsp := f ++ y.rsp.drop f.length }
      (if y.irq.testBit 0 then s.emit (.msix fn (bits y.irq 12 11)) else s).flush
    | none => r.1

/-- Bits of MBX_IRQ that are not reserved: [0] and [22:12] (Table 3.2). -/
def mbxIrq (v : Nat) : Nat := v % 2 + bits v 12 11 * 4096

/-- A doorbell of a mailbox whose request buffer is written, MBX_IRQ before it (R88, R89). While nobody answers, BUSY stays. -/
def State.serveBox (s : State) (fn : Nat) (irq : Option Nat) (b : Bytes) (cause : Nat) (q : GReq) : State :=
  if !(s.boot.link && s.fnHere fn) then s else
  let s := match irq with
    | some v => s.putBox fn { s.box fn with irq := mbxIrq v }
    | none => s
  let x := s.box fn
  if x.busy then s.putBox fn { x with overrun := true }
  else if !s.boot.ward then s.putBox fn { x with busy := true, done := false, req := b }
  else s.answerBox fn b cause q

/-- The request buffer of a mailbox after a frame is written over it. -/
def State.boxReq (s : State) (fn : Nat) (f : Bytes) : Bytes := (f ++ (s.box fn).req.drop f.length).take 2048

/-- The frame that a mailbox's buffer holds: its first 20 + LENGTH bytes (R91). -/
def boxFrame (b : Bytes) : Bytes := padTo (20 + leAt b 14 2) b

/-- What DMA reads for a raw ADAPTER_LOAD: LENGTH bytes from its address (spec/08 Table 8.12). -/
def State.loadBuf (s : State) (q : GReq) : Option Bytes :=
  if q.op == 2 && findObj q.index q.sub 0 == some ⟨.ADAPTER_LOAD, 0, 0⟩ then
    some (memRead s.hostMem (leAt q.payload 8 8) (leAt q.payload 16 4)) else none

/-- A mailbox whose doorbell rang while nobody answered is served (R89). -/
def State.serveHeld (s : State) (fn : Nat) : State :=
  if !((s.box fn).busy && s.boot.link && s.fnHere fn) then s else
  let b := (s.box fn).req
  let f := boxFrame b
  let q := reqOf (.mailbox fn) f
  s.answerBox fn b (frameCause f) { q with buf := s.loadBuf q }

/-- WARD_IMAGE_START: the image starts, then answers the frames that wait in the mailboxes, in the order of their functions (log 65). -/
def execWardImageStart (t : Nat) (s : State) : Host.Outcome State Fault Refusal :=
  let x := wardStart (s.at t)
  .next (if x.boot.ward then (List.range 64).foldl State.serveHeld x else x)

/-- A path exists. -/
def pathOk : GdpPath → Bool
  | .mailbox fn _ => fn < 64
  | _ => true

/-- Operations of Table 3.4. -/
def opKnown (op : Nat) : Bool := (1 ≤ op && op ≤ 7) || (0x10 ≤ op && op ≤ 0x12)

/-- A GDP frame arrives that carries an operation: a frame of another operation is another command's. -/
def gdpIn (op : Nat) (p : GdpPath) (frame : Bytes) (s : State) : State :=
  let b := match p with
    | .mailbox fn _ => s.boxReq fn frame
    | _ => frame
  let f := match p with
    | .mailbox _ _ => boxFrame b
    | _ => frame
  let cause := frameCause f
  let q := reqOf p f
  let q := { q with buf := s.loadBuf q }
  if cause == 0 && q.ver == 1 && opKnown q.op && q.op != op then s else
  match p with
  | .mailbox fn irq => s.serveBox fn irq b cause q
  | _ => s.serveRemote p cause q

/-- A frame on a path that exists. -/
def gdpFrameIn (t op : Nat) (p : GdpPath) (frame : Bytes) (s : State) : Host.Outcome State Fault Refusal :=
  if pathOk p then .next (gdpIn op p frame (s.at t)) else .fault .noSuchUnit

/-- GDP_READ. -/
def execGdpRead (t : Nat) (p : GdpPath) (frame : Bytes) (s : State) : Host.Outcome State Fault Refusal := gdpFrameIn t 1 p frame s
/-- GDP_WRITE. -/
def execGdpWrite (t : Nat) (p : GdpPath) (frame : Bytes) (s : State) : Host.Outcome State Fault Refusal := gdpFrameIn t 2 p frame s
/-- GDP_READ_BLOCK. -/
def execGdpReadBlock (t : Nat) (p : GdpPath) (frame : Bytes) (s : State) : Host.Outcome State Fault Refusal := gdpFrameIn t 3 p frame s
/-- GDP_WRITE_BLOCK. -/
def execGdpWriteBlock (t : Nat) (p : GdpPath) (frame : Bytes) (s : State) : Host.Outcome State Fault Refusal := gdpFrameIn t 4 p frame s
/-- GDP_DESCRIBE. -/
def execGdpDescribe (t : Nat) (p : GdpPath) (frame : Bytes) (s : State) : Host.Outcome State Fault Refusal := gdpFrameIn t 5 p frame s
/-- GDP_RESTORE. -/
def execGdpRestore (t : Nat) (p : GdpPath) (frame : Bytes) (s : State) : Host.Outcome State Fault Refusal := gdpFrameIn t 6 p frame s
/-- GDP_STORE. -/
def execGdpStore (t : Nat) (p : GdpPath) (frame : Bytes) (s : State) : Host.Outcome State Fault Refusal := gdpFrameIn t 7 p frame s
/-- SESSION_OPEN. -/
def execSessionOpen (t : Nat) (p : GdpPath) (frame : Bytes) (s : State) : Host.Outcome State Fault Refusal := gdpFrameIn t 0x10 p frame s
/-- SESSION_PROVE. -/
def execSessionProve (t : Nat) (p : GdpPath) (frame : Bytes) (s : State) : Host.Outcome State Fault Refusal := gdpFrameIn t 0x11 p frame s
/-- SESSION_CLOSE. -/
def execSessionClose (t : Nat) (p : GdpPath) (frame : Bytes) (s : State) : Host.Outcome State Fault Refusal := gdpFrameIn t 0x12 p frame s

/-! ### Mailbox status and timers -/

/-- MBX_STATUS (Table 3.2). -/
def Mailbox.status (x : Mailbox) : Nat :=
  (if x.busy then 1 else 0) + (if x.done then 2 else 0) + (if x.overrun then 4 else 0) + (if x.dropped then 8 else 0)

/-- A read of MBX_STATUS clears OVERRUN and DROPPED (R89). -/
def mbxStatusRead (fn : Nat) (s : State) : State :=
  if !(s.boot.link && s.fnHere fn) then s else
  let x := s.box fn
  (s.putBox fn { x with overrun := false, dropped := false }).emit (.reg x.status)

/-- MBX_STATUS_READ. -/
def execMbxStatusRead (t fn : Nat) (s : State) : Host.Outcome State Fault Refusal :=
  if fn < 64 then .next (mbxStatusRead fn (s.at t)) else .fault .noSuchUnit

/-- A session idle for 60 s is closed; a mailbox's never (R99, R100). -/
def sessionIdle (sid : Nat) (s : State) : State :=
  s.closeSessions (fun n x => n == sid && decide (n < 0x8000) && decide (s.now ≥ x.active + minute))

/-- SESSION_IDLE_TIMEOUT. -/
def execSessionIdleTimeout (t sid : Nat) (s : State) : Host.Outcome State Fault Refusal := .next (sessionIdle sid (s.at t))

/-- A half-open session is closed when it has not been proved within 10 s (R96). -/
def halfOpen (sid : Nat) (s : State) : State :=
  s.closeSessions (fun n x => n == sid && !x.proved && decide (n < 0x8000) && decide (s.now ≥ x.opened + tenSec))

/-- HALF_OPEN_TIMEOUT. -/
def execHalfOpenTimeout (t sid : Nat) (s : State) : Host.Outcome State Fault Refusal := .next (halfOpen sid (s.at t))

/-- A source is muted for 60 s (R96). -/
def muteEnd (p : GdpPath) (s : State) : State :=
  { s with gdp := { s.gdp with muted := s.gdp.muted.filter (fun x => !(x.1 == pathSource p && decide (s.now ≥ x.2 + minute))) } }

/-- SOURCE_MUTE_END. -/
def execSourceMuteEnd (t : Nat) (p : GdpPath) (s : State) : Host.Outcome State Fault Refusal := .next (muteEnd p (s.at t))

/-- A sequence idle for 10 s is discarded (R106). -/
def blockTimeout (sid : Nat) (s : State) : State :=
  { s with gdp := { s.gdp with blocks := s.gdp.blocks.filter (fun b => !(b.session == sid && decide (s.now ≥ b.since + tenSec))) } }

/-- BLOCK_SEQUENCE_TIMEOUT. -/
def execBlockSequenceTimeout (t sid : Nat) (s : State) : Host.Outcome State Fault Refusal := .next (blockTimeout sid (s.at t))

end Sys2Proof.Machine
end

