-- ==== Sys2Proof/Machine/WriteRows.lean ====
section
/-! DEFINITION. Machine/WriteRows.lean: the commands that are a write of one object: each is a GDP WRITE of its object on a path of spec/03, and acts as
spec/03 and the object's chapter say. -/
namespace Sys2Proof.Machine
open Sys2Proof

/-- The WRITE frame of a command with its own object. -/
def writeFrame (o : Obj) (inst : Nat) (h : ReqHead) (payload : Bytes) : Bytes :=
  gdpFrame 2 h.session h.seq (keyIndex ⟨o, inst, 0⟩) (keySub ⟨o, inst, 0⟩) 0 h.detail h.target payload

/-- A WRITE of an object arrives on a path. -/
def writeIn (o : Obj) (inst : Nat) (p : GdpPath) (h : ReqHead) (payload : Bytes) (buf : Option Bytes) (s : State) : State :=
  let f := writeFrame o inst h payload
  let q := { reqOf p f with buf := buf }
  match p with
  | .mailbox fn irq => s.serveBox fn irq (s.boxReq fn f) (frameCause f) q
  | _ => s.serveRemote p (frameCause f) q

/-- A value longer than a frame: a closed WRITE_BLOCK sequence (spec/03 R106), its segments in one. -/
def blockIn (o : Obj) (inst : Nat) (p : GdpPath) (h : ReqHead) (value : Bytes) (s : State) : State :=
  let f := gdpFrame 4 h.session h.seq (keyIndex ⟨o, inst, 0⟩) (keySub ⟨o, inst, 0⟩) 0 (h.detail % 256 / 2 * 2 + 1) h.target []
  let q := { reqOf p f with whole := some value }
  match p with
  | .mailbox fn irq => s.serveBox fn irq (s.boxReq fn f) 0 q
  | _ => s.serveRemote p 0 q

/-- A number written to an object. -/
def writeNum (t : Nat) (o : Obj) (inst : Nat) (p : GdpPath) (h : ReqHead) (v : Nat) (s : State) : Host.Outcome State Fault Refusal :=
  if pathOk p then .next (writeIn o inst p h (leBytes (objSize o) v) none (s.at t)) else .fault .noSuchUnit

/-- A record written to an object. -/
def writeBlob (t : Nat) (o : Obj) (p : GdpPath) (h : ReqHead) (payload : Bytes) (buf : Option Bytes) (s : State) : Host.Outcome State Fault Refusal :=
  if pathOk p then .next (writeIn o 0 p h payload buf (s.at t)) else .fault .noSuchUnit

/-- A command of a slot. -/
def writeSlot (t n : Nat) (o : Obj) (p : GdpPath) (h : ReqHead) (v : Nat) (s : State) : Host.Outcome State Fault Refusal :=
  if n < 16 then writeNum t o n p h v s else .fault .noSuchUnit

/-- FUNC_ENABLE (Table 3.13). -/
def execFuncEnable (t : Nat) (p : GdpPath) (h : ReqHead) (f : Func) (v : Nat) (s : State) : Host.Outcome State Fault Refusal :=
  if funcExists f then writeNum t .FUNC_ENABLE (funcIndex f) p h v s else .fault .noSuchUnit

/-- PLACE_QUERY of a slot. -/
def execPlaceQuery (t : Nat) (p : GdpPath) (h : ReqHead) (n v : Nat) (s : State) : Host.Outcome State Fault Refusal :=
  writeSlot t n .PLACE_QUERY p h v s

/-- ATTN_MAP of a slot (spec/09 R369): always a block sequence. -/
def execAttnMap (t : Nat) (p : GdpPath) (h : ReqHead) (n : Nat) (payload : Bytes) (s : State) : Host.Outcome State Fault Refusal :=
  if n < 16 ∧ pathOk p then .next (blockIn .ATTN_MAP n p h payload (s.at t)) else .fault .noSuchUnit

/-- ADAPTER_LOAD with what DMA reads (spec/08 R320). -/
def execAdapterLoad (t : Nat) (p : GdpPath) (h : ReqHead) (payload : Bytes) (buf : Option Bytes) (s : State) : Host.Outcome State Fault Refusal :=
  writeBlob t .ADAPTER_LOAD p h payload buf s

/-- QUAD_GATE_REQ. -/
def execQuadGateReq (t : Nat) (p : GdpPath) (h : ReqHead) (v : Nat) (s : State) : Host.Outcome State Fault Refusal :=
  writeNum t .QUAD_GATE_REQ 0 p h v s
/-- UNIT_QUERY. -/
def execUnitQuery (t : Nat) (p : GdpPath) (h : ReqHead) (v : Nat) (s : State) : Host.Outcome State Fault Refusal :=
  writeNum t .UNIT_QUERY 0 p h v s
/-- ENG_RETIRE_REQ. -/
def execEngRetireReq (t : Nat) (p : GdpPath) (h : ReqHead) (v : Nat) (s : State) : Host.Outcome State Fault Refusal :=
  writeNum t .ENG_RETIRE_REQ 0 p h v s
/-- ENG_QUERY. -/
def execEngQuery (t : Nat) (p : GdpPath) (h : ReqHead) (v : Nat) (s : State) : Host.Outcome State Fault Refusal :=
  writeNum t .ENG_QUERY 0 p h v s
/-- CAL_RUN_REQ. -/
def execCalRunReq (t : Nat) (p : GdpPath) (h : ReqHead) (v : Nat) (s : State) : Host.Outcome State Fault Refusal :=
  writeNum t .CAL_RUN_REQ 0 p h v s
/-- SEQ_QUERY. -/
def execSeqQuery (t : Nat) (p : GdpPath) (h : ReqHead) (v : Nat) (s : State) : Host.Outcome State Fault Refusal :=
  writeNum t .SEQ_QUERY 0 p h v s
/-- REQ_CANCEL. -/
def execReqCancel (t : Nat) (p : GdpPath) (h : ReqHead) (v : Nat) (s : State) : Host.Outcome State Fault Refusal :=
  writeNum t .REQ_CANCEL 0 p h v s
/-- REQ_REARM. -/
def execReqRearm (t : Nat) (p : GdpPath) (h : ReqHead) (v : Nat) (s : State) : Host.Outcome State Fault Refusal :=
  writeNum t .REQ_REARM 0 p h v s
/-- HIST_QUERY. -/
def execHistQuery (t : Nat) (p : GdpPath) (h : ReqHead) (v : Nat) (s : State) : Host.Outcome State Fault Refusal :=
  writeNum t .HIST_QUERY 0 p h v s
/-- HIST_CLEAR. -/
def execHistClear (t : Nat) (p : GdpPath) (h : ReqHead) (v : Nat) (s : State) : Host.Outcome State Fault Refusal :=
  writeNum t .HIST_CLEAR 0 p h v s
/-- REQ_QUERY. -/
def execReqQuery (t : Nat) (p : GdpPath) (h : ReqHead) (v : Nat) (s : State) : Host.Outcome State Fault Refusal :=
  writeNum t .REQ_QUERY 0 p h v s
/-- SPARE_ADOPT. -/
def execSpareAdopt (t : Nat) (p : GdpPath) (h : ReqHead) (v : Nat) (s : State) : Host.Outcome State Fault Refusal :=
  writeNum t .SPARE_ADOPT 0 p h v s
/-- LATCH_QUERY. -/
def execLatchQuery (t : Nat) (p : GdpPath) (h : ReqHead) (v : Nat) (s : State) : Host.Outcome State Fault Refusal :=
  writeNum t .LATCH_QUERY 0 p h v s
/-- KEY_CLOSE. -/
def execKeyClose (t : Nat) (p : GdpPath) (h : ReqHead) (v : Nat) (s : State) : Host.Outcome State Fault Refusal :=
  writeNum t .KEY_CLOSE 0 p h v s
/-- SYSCAL_CHAN. -/
def execSyscalChan (t : Nat) (p : GdpPath) (h : ReqHead) (v : Nat) (s : State) : Host.Outcome State Fault Refusal :=
  writeNum t .SYSCAL_CHAN 0 p h v s
/-- EVT_ACK. -/
def execEvtAck (t : Nat) (p : GdpPath) (h : ReqHead) (v : Nat) (s : State) : Host.Outcome State Fault Refusal :=
  writeNum t .EVT_ACK 0 p h v s
/-- EVT_QUERY. -/
def execEvtQuery (t : Nat) (p : GdpPath) (h : ReqHead) (v : Nat) (s : State) : Host.Outcome State Fault Refusal :=
  writeNum t .EVT_QUERY 0 p h v s
/-- MBIST_QUERY. -/
def execMbistQuery (t : Nat) (p : GdpPath) (h : ReqHead) (v : Nat) (s : State) : Host.Outcome State Fault Refusal :=
  writeNum t .MBIST_QUERY 0 p h v s
/-- LBIST_RUN. -/
def execLbistRun (t : Nat) (p : GdpPath) (h : ReqHead) (v : Nat) (s : State) : Host.Outcome State Fault Refusal :=
  writeNum t .LBIST_RUN 0 p h v s
/-- ARRAY_TEST_RUN. -/
def execArrayTestRun (t : Nat) (p : GdpPath) (h : ReqHead) (v : Nat) (s : State) : Host.Outcome State Fault Refusal :=
  writeNum t .ARRAY_TEST_RUN 0 p h v s
/-- FW_COMMIT. -/
def execFwCommit (t : Nat) (p : GdpPath) (h : ReqHead) (v : Nat) (s : State) : Host.Outcome State Fault Refusal :=
  writeNum t .FW_COMMIT 0 p h v s
/-- FW_BANK_SELECT. -/
def execFwBankSelect (t : Nat) (p : GdpPath) (h : ReqHead) (v : Nat) (s : State) : Host.Outcome State Fault Refusal :=
  writeNum t .FW_BANK_SELECT 0 p h v s
/-- FABRIC_MAP. -/
def execFabricMap (t : Nat) (p : GdpPath) (h : ReqHead) (payload : Bytes) (s : State) : Host.Outcome State Fault Refusal :=
  writeBlob t .FABRIC_MAP p h payload none s
/-- KEY_INSTALL. -/
def execKeyInstall (t : Nat) (p : GdpPath) (h : ReqHead) (payload : Bytes) (s : State) : Host.Outcome State Fault Refusal :=
  writeBlob t .KEY_INSTALL p h payload none s
/-- MGMT_KEY_INSTALL. -/
def execMgmtKeyInstall (t : Nat) (p : GdpPath) (h : ReqHead) (payload : Bytes) (s : State) : Host.Outcome State Fault Refusal :=
  writeBlob t .MGMT_KEY_INSTALL p h payload none s
/-- LC_REQUEST. -/
def execLcRequest (t : Nat) (p : GdpPath) (h : ReqHead) (payload : Bytes) (s : State) : Host.Outcome State Fault Refusal :=
  writeBlob t .LC_REQUEST p h payload none s
/-- DEBUG_UNLOCK. -/
def execDebugUnlock (t : Nat) (p : GdpPath) (h : ReqHead) (payload : Bytes) (s : State) : Host.Outcome State Fault Refusal :=
  writeBlob t .DEBUG_UNLOCK p h payload none s
/-- BIST_AUTH. -/
def execBistAuth (t : Nat) (p : GdpPath) (h : ReqHead) (payload : Bytes) (s : State) : Host.Outcome State Fault Refusal :=
  writeBlob t .BIST_AUTH p h payload none s
/-- SYSCAL_ZERO: SYSCAL_CMD 1. -/
def execSyscalZero (t : Nat) (p : GdpPath) (h : ReqHead) (s : State) : Host.Outcome State Fault Refusal :=
  writeNum t .SYSCAL_CMD 0 p h 1 s
/-- SYSCAL_FULL_SCALE: SYSCAL_CMD 2. -/
def execSyscalFullScale (t : Nat) (p : GdpPath) (h : ReqHead) (s : State) : Host.Outcome State Fault Refusal :=
  writeNum t .SYSCAL_CMD 0 p h 2 s
/-- SYSCAL_APPLY: SYSCAL_CMD 3. -/
def execSyscalApply (t : Nat) (p : GdpPath) (h : ReqHead) (s : State) : Host.Outcome State Fault Refusal :=
  writeNum t .SYSCAL_CMD 0 p h 3 s
/-- SYSCAL_DISCARD: SYSCAL_CMD 4. -/
def execSyscalDiscard (t : Nat) (p : GdpPath) (h : ReqHead) (s : State) : Host.Outcome State Fault Refusal :=
  writeNum t .SYSCAL_CMD 0 p h 4 s
/-- WARM_RESET: DEV_POWER_CMD 1. -/
def execWarmReset (t : Nat) (p : GdpPath) (h : ReqHead) (s : State) : Host.Outcome State Fault Refusal :=
  writeNum t .DEV_POWER_CMD 0 p h 1 s
/-- ORDERLY_POWER_DOWN: DEV_POWER_CMD 2. -/
def execOrderlyPowerDown (t : Nat) (p : GdpPath) (h : ReqHead) (s : State) : Host.Outcome State Fault Refusal :=
  writeNum t .DEV_POWER_CMD 0 p h 2 s
/-- SLOT_LOAD: SLOT_CMD 1. -/
def execSlotLoad (t : Nat) (p : GdpPath) (h : ReqHead) (n : Nat) (s : State) : Host.Outcome State Fault Refusal :=
  writeSlot t n .SLOT_CMD p h 1 s
/-- SLOT_ABORT: SLOT_CMD 2. -/
def execSlotAbort (t : Nat) (p : GdpPath) (h : ReqHead) (n : Nat) (s : State) : Host.Outcome State Fault Refusal :=
  writeSlot t n .SLOT_CMD p h 2 s
/-- SLOT_EMPTY: SLOT_CMD 3. -/
def execSlotEmpty (t : Nat) (p : GdpPath) (h : ReqHead) (n : Nat) (s : State) : Host.Outcome State Fault Refusal :=
  writeSlot t n .SLOT_CMD p h 3 s

end Sys2Proof.Machine
end

