-- ==== Sys2Proof/Machine/Dispatch.lean ====
section
/-! DEFINITION. Machine/Dispatch.lean: one arm per command, each one direct call of its meaning. -/
namespace Sys2Proof.Machine

/-- What a command does to everything but the queue. -/
def exec (i : Instr) (s : State) : Host.Outcome State Fault Refusal :=
  match i with
  | .beatPinEdge t => Sys2Proof.Machine.execBeatPinEdge t s
  | .beatMarker t port number state => Sys2Proof.Machine.execBeatMarker t port number state s
  | .missedBeat t => Sys2Proof.Machine.execMissedBeat t s
  | .beatSelfTimed t => Sys2Proof.Machine.execBeatSelfTimed t s
  | .seekingLockTimeout t => Sys2Proof.Machine.execSeekingLockTimeout t s
  | .transitionBeatTimeout t => Sys2Proof.Machine.execTransitionBeatTimeout t s
  | .beatBoundary t host costs quiet work => Sys2Proof.Machine.execBeatBoundary t host costs quiet work s
  | .runPhaseStart t => Sys2Proof.Machine.execRunPhaseStart t s
  | .quietWindowStart t => Sys2Proof.Machine.execQuietWindowStart t s
  | .stepWorkEnd t core => Sys2Proof.Machine.execStepWorkEnd t core s
  | .controllerHeartbeat t ctrl => Sys2Proof.Machine.execControllerHeartbeat t ctrl s
  | .ctrlReset t ctrl => Sys2Proof.Machine.execCtrlReset t ctrl s
  | .ctrlRestartDone t ctrl => Sys2Proof.Machine.execCtrlRestartDone t ctrl s
  | .haspHoldExpiry t hc => Sys2Proof.Machine.execHaspHoldExpiry t hc s
  | .haspWorkDelivery t hc => Sys2Proof.Machine.execHaspWorkDelivery t hc s
  | .isolateManagement t unit => Sys2Proof.Machine.execIsolateManagement t unit s
  | .isolateFault t unit => Sys2Proof.Machine.execIsolateFault t unit s
  | .stepOrder t unit => Sys2Proof.Machine.execStepOrder t unit s
  | .quadGateReq t p h v => Sys2Proof.Machine.execQuadGateReq t p h v s
  | .quadOpenDone t quad => Sys2Proof.Machine.execQuadOpenDone t quad s
  | .unitQuery t p h v => Sys2Proof.Machine.execUnitQuery t p h v s
  | .gdpRead t p frame => Sys2Proof.Machine.execGdpRead t p frame s
  | .gdpWrite t p frame => Sys2Proof.Machine.execGdpWrite t p frame s
  | .gdpReadBlock t p frame => Sys2Proof.Machine.execGdpReadBlock t p frame s
  | .gdpWriteBlock t p frame => Sys2Proof.Machine.execGdpWriteBlock t p frame s
  | .gdpDescribe t p frame => Sys2Proof.Machine.execGdpDescribe t p frame s
  | .gdpRestore t p frame => Sys2Proof.Machine.execGdpRestore t p frame s
  | .gdpStore t p frame => Sys2Proof.Machine.execGdpStore t p frame s
  | .sessionOpen t p frame => Sys2Proof.Machine.execSessionOpen t p frame s
  | .sessionProve t p frame => Sys2Proof.Machine.execSessionProve t p frame s
  | .sessionClose t p frame => Sys2Proof.Machine.execSessionClose t p frame s
  | .mbxStatusRead t fn => Sys2Proof.Machine.execMbxStatusRead t fn s
  | .sessionIdleTimeout t sid => Sys2Proof.Machine.execSessionIdleTimeout t sid s
  | .halfOpenTimeout t sid => Sys2Proof.Machine.execHalfOpenTimeout t sid s
  | .sourceMuteEnd t p => Sys2Proof.Machine.execSourceMuteEnd t p s
  | .blockSequenceTimeout t sid => Sys2Proof.Machine.execBlockSequenceTimeout t sid s
  | .seekingWriteApply t => Sys2Proof.Machine.execSeekingWriteApply t s
  | .funcEnable t p h f v => Sys2Proof.Machine.execFuncEnable t p h f v s
  | .funcOpenComplete t f => Sys2Proof.Machine.execFuncOpenComplete t f s
  | .funcOpenLimit t f => Sys2Proof.Machine.execFuncOpenLimit t f s
  | .funcCloseComplete t f => Sys2Proof.Machine.execFuncCloseComplete t f s
  | .funcCloseLimit t f => Sys2Proof.Machine.execFuncCloseLimit t f s
  | .funcPowerupStart t f => Sys2Proof.Machine.execFuncPowerupStart t f s
  | .coreSlot t core passes => Sys2Proof.Machine.execCoreSlot t core passes s
  | .countWordsReady t r => Sys2Proof.Machine.execCountWordsReady t r s
  | .diagReadbackDone t eng tier cells => Sys2Proof.Machine.execDiagReadbackDone t eng tier cells s
  | .spareVerified t eng tier spare ok energy => Sys2Proof.Machine.execSpareVerified t eng tier spare ok energy s
  | .engRetireReq t p h v => Sys2Proof.Machine.execEngRetireReq t p h v s
  | .engQuery t p h v => Sys2Proof.Machine.execEngQuery t p h v s
  | .keeperWorkItem t core w => Sys2Proof.Machine.execKeeperWorkItem t core w s
  | .splitRecomputeDone t r => Sys2Proof.Machine.execSplitRecomputeDone t r s
  | .tileAudit t core => Sys2Proof.Machine.execTileAudit t core s
  | .maskAnd t len masks => Sys2Proof.Machine.execMaskAnd t len masks s
  | .maskOr t len masks => Sys2Proof.Machine.execMaskOr t len masks s
  | .maskXor t len masks => Sys2Proof.Machine.execMaskXor t len masks s
  | .maskAndnot t len a b => Sys2Proof.Machine.execMaskAndnot t len a b s
  | .maskPopcnt t len a => Sys2Proof.Machine.execMaskPopcnt t len a s
  | .maskAny t len a => Sys2Proof.Machine.execMaskAny t len a s
  | .maskAll t len a => Sys2Proof.Machine.execMaskAll t len a s
  | .maskFirst t len a => Sys2Proof.Machine.execMaskFirst t len a s
  | .vrefCompare t die dev => Sys2Proof.Machine.execVrefCompare t die dev s
  | .calStageStart t eng => Sys2Proof.Machine.execCalStageStart t eng s
  | .calRampStageDone t eng r => Sys2Proof.Machine.execCalRampStageDone t eng r s
  | .calCoarseStageDone t eng tier r => Sys2Proof.Machine.execCalCoarseStageDone t eng tier r s
  | .calFineStageDone t eng tier r => Sys2Proof.Machine.execCalFineStageDone t eng tier r s
  | .calDiscardStandoffEnd t eng => Sys2Proof.Machine.execCalDiscardStandoffEnd t eng s
  | .trimStoreWrite t eng => Sys2Proof.Machine.execTrimStoreWrite t eng s
  | .calRunReq t p h v => Sys2Proof.Machine.execCalRunReq t p h v s
  | .senseSelfcalStart t conv => Sys2Proof.Machine.execSenseSelfcalStart t conv s
  | .senseSelfcalDone t conv offset gain => Sys2Proof.Machine.execSenseSelfcalDone t conv offset gain s
  | .slotLoad t p h n => Sys2Proof.Machine.execSlotLoad t p h n s
  | .slotAbort t p h n => Sys2Proof.Machine.execSlotAbort t p h n s
  | .slotEmpty t p h n => Sys2Proof.Machine.execSlotEmpty t p h n s
  | .shardPut t fn addrLo addrHi len ctrl => Sys2Proof.Machine.execShardPut t fn addrLo addrHi len ctrl s
  | .putStatusRead t fn => Sys2Proof.Machine.execPutStatusRead t fn s
  | .ringCons t fn v => Sys2Proof.Machine.execRingCons t fn v s
  | .shardArrival t fn buf => Sys2Proof.Machine.execShardArrival t fn buf s
  | .shardTimeout t slot index => Sys2Proof.Machine.execShardTimeout t slot index s
  | .adapterLoad t p h payload buf => Sys2Proof.Machine.execAdapterLoad t p h payload buf s
  | .tierProgramStart t eng tier => Sys2Proof.Machine.execTierProgramStart t eng tier s
  | .tierProgramDone t eng tier bad badSpares badRefs cells energy => Sys2Proof.Machine.execTierProgramDone t eng tier bad badSpares badRefs cells energy s
  | .replaceRetry t slot chunk => Sys2Proof.Machine.execReplaceRetry t slot chunk s
  | .scrubReadback t eng tier cells => Sys2Proof.Machine.execScrubReadback t eng tier cells s
  | .scrubOverdue t eng tier => Sys2Proof.Machine.execScrubOverdue t eng tier s
  | .imageDigestCheck t eng tier flips => Sys2Proof.Machine.execImageDigestCheck t eng tier flips s
  | .digitalDigestCheck t slot index flips => Sys2Proof.Machine.execDigitalDigestCheck t slot index flips s
  | .placeQuery t p h n v => Sys2Proof.Machine.execPlaceQuery t p h n v s
  | .laneTask t w => Sys2Proof.Machine.execLaneTask t w s
  | .laneTaskDone t seq lane => Sys2Proof.Machine.execLaneTaskDone t seq lane s
  | .pageSeal t seq => Sys2Proof.Machine.execPageSeal t seq s
  | .nextRootBuild t seq => Sys2Proof.Machine.execNextRootBuild t seq s
  | .ringRound t seq => Sys2Proof.Machine.execRingRound t seq s
  | .ringRoundTimeout t seq => Sys2Proof.Machine.execRingRoundTimeout t seq s
  | .attnMap t p h n payload => Sys2Proof.Machine.execAttnMap t p h n payload s
  | .seqQuery t p h v => Sys2Proof.Machine.execSeqQuery t p h v s
  | .submitTail t fn tail host => Sys2Proof.Machine.execSubmitTail t fn tail host s
  | .admitTimeout t idx => Sys2Proof.Machine.execAdmitTimeout t idx s
  | .tokenSample t idx logits drafts => Sys2Proof.Machine.execTokenSample t idx logits drafts s
  | .tokenIrqGapEnd t fn => Sys2Proof.Machine.execTokenIrqGapEnd t fn s
  | .cancel t fn v => Sys2Proof.Machine.execCancel t fn v s
  | .reqCancel t p h v => Sys2Proof.Machine.execReqCancel t p h v s
  | .rearm t fn v => Sys2Proof.Machine.execRearm t fn v s
  | .reqRearm t p h v => Sys2Proof.Machine.execReqRearm t p h v s
  | .specRearmTimeout t idx => Sys2Proof.Machine.execSpecRearmTimeout t idx s
  | .serveStatusRead t fn => Sys2Proof.Machine.execServeStatusRead t fn s
  | .ringStallLimitExpiry t idx => Sys2Proof.Machine.execRingStallLimitExpiry t idx s
  | .kvWaitLimitExpiry t idx => Sys2Proof.Machine.execKvWaitLimitExpiry t idx s
  | .handoffTimeout t idx => Sys2Proof.Machine.execHandoffTimeout t idx s
  | .histQuery t p h v => Sys2Proof.Machine.execHistQuery t p h v s
  | .histClear t p h v => Sys2Proof.Machine.execHistClear t p h v s
  | .reqQuery t p h v => Sys2Proof.Machine.execReqQuery t p h v s
  | .linkTrained t port lanes => Sys2Proof.Machine.execLinkTrained t port lanes s
  | .ident t port f roundTrip => Sys2Proof.Machine.execIdent t port f roundTrip s
  | .linkDown t port => Sys2Proof.Machine.execLinkDown t port s
  | .frameReplay t port => Sys2Proof.Machine.execFrameReplay t port s
  | .fabLaneDegraded t port lanes => Sys2Proof.Machine.execFabLaneDegraded t port lanes s
  | .fabricMap t p h payload => Sys2Proof.Machine.execFabricMap t p h payload s
  | .reachSend t occ => Sys2Proof.Machine.execReachSend t occ s
  | .reach t port f => Sys2Proof.Machine.execReach t port f s
  | .lossNotice t port f => Sys2Proof.Machine.execLossNotice t port f s
  | .adopt t port f => Sys2Proof.Machine.execAdopt t port f s
  | .trainHead t port f => Sys2Proof.Machine.execTrainHead t port f s
  | .trainPage t port f => Sys2Proof.Machine.execTrainPage t port f s
  | .trainEnd t port f => Sys2Proof.Machine.execTrainEnd t port f s
  | .trainAck t port f => Sys2Proof.Machine.execTrainAck t port f s
  | .trainTimeout t flow => Sys2Proof.Machine.execTrainTimeout t flow s
  | .shardReq t port f => Sys2Proof.Machine.execShardReq t port f s
  | .shardData t port f => Sys2Proof.Machine.execShardData t port f s
  | .ringQuery t port f => Sys2Proof.Machine.execRingQuery t port f s
  | .ringPartial t port f => Sys2Proof.Machine.execRingPartial t port f s
  | .flowReplyTimeout t flow => Sys2Proof.Machine.execFlowReplyTimeout t flow s
  | .fabEchoMissing t port => Sys2Proof.Machine.execFabEchoMissing t port s
  | .lossDecision t member => Sys2Proof.Machine.execLossDecision t member s
  | .spareAdopt t p h v => Sys2Proof.Machine.execSpareAdopt t p h v s
  | .standby t port f => Sys2Proof.Machine.execStandby t port f s
  | .latchOp t port f => Sys2Proof.Machine.execLatchOp t port f s
  | .latchReply t port f => Sys2Proof.Machine.execLatchReply t port f s
  | .latchSignal t w num v => Sys2Proof.Machine.execLatchSignal t w num v s
  | .latchSet t w num v => Sys2Proof.Machine.execLatchSet t w num v s
  | .latchRead t w num => Sys2Proof.Machine.execLatchRead t w num s
  | .latchWait t w num target timeout => Sys2Proof.Machine.execLatchWait t w num target timeout s
  | .latchWaitTimeout t num => Sys2Proof.Machine.execLatchWaitTimeout t num s
  | .latchCplCons t fn v => Sys2Proof.Machine.execLatchCplCons t fn v s
  | .latchCompletionWrite t fn => Sys2Proof.Machine.execLatchCompletionWrite t fn s
  | .latchStatusRead t fn => Sys2Proof.Machine.execLatchStatusRead t fn s
  | .latchQuery t p h v => Sys2Proof.Machine.execLatchQuery t p h v s
  | .flr t fn => Sys2Proof.Machine.execFlr t fn s
  | .keyDrainExpiry t kw => Sys2Proof.Machine.execKeyDrainExpiry t kw s
  | .zeroingDone t kw => Sys2Proof.Machine.execZeroingDone t kw s
  | .keyInstall t p h payload => Sys2Proof.Machine.execKeyInstall t p h payload s
  | .keyClose t p h v => Sys2Proof.Machine.execKeyClose t p h v s
  | .keyGenerationDestroy t slot => Sys2Proof.Machine.execKeyGenerationDestroy t slot s
  | .mgmtKeyInstall t p h payload => Sys2Proof.Machine.execMgmtKeyInstall t p h payload s
  | .lcRequest t p h payload => Sys2Proof.Machine.execLcRequest t p h payload s
  | .debugUnlock t p h payload => Sys2Proof.Machine.execDebugUnlock t p h payload s
  | .spdmGetVersion t c => Sys2Proof.Machine.execSpdmGetVersion t c s
  | .spdmGetCapabilities t c => Sys2Proof.Machine.execSpdmGetCapabilities t c s
  | .spdmNegotiateAlgorithms t c => Sys2Proof.Machine.execSpdmNegotiateAlgorithms t c s
  | .spdmGetDigests t c => Sys2Proof.Machine.execSpdmGetDigests t c s
  | .spdmGetCertificate t c slot off len => Sys2Proof.Machine.execSpdmGetCertificate t c slot off len s
  | .spdmChallenge t c nonce => Sys2Proof.Machine.execSpdmChallenge t c nonce s
  | .spdmGetMeasurements t c which nonce => Sys2Proof.Machine.execSpdmGetMeasurements t c which nonce s
  | .ideKm t kw stream k => Sys2Proof.Machine.execIdeKm t kw stream k s
  | .configRequest t fn write reg v => Sys2Proof.Machine.execConfigRequest t fn write reg v s
  | .phaseAdd t k => Sys2Proof.Machine.execPhaseAdd t k s
  | .phaseDrop t k => Sys2Proof.Machine.execPhaseDrop t k s
  | .avsSlackReport t die mon slack => Sys2Proof.Machine.execAvsSlackReport t die mon slack s
  | .railOvervoltage t k => Sys2Proof.Machine.execRailOvervoltage t k s
  | .railUndervoltage t k => Sys2Proof.Machine.execRailUndervoltage t k s
  | .railOvercurrent t k => Sys2Proof.Machine.execRailOvercurrent t k s
  | .imonMonitorFault t k => Sys2Proof.Machine.execImonMonitorFault t k s
  | .packagePowerSample t mv imon => Sys2Proof.Machine.execPackagePowerSample t mv imon s
  | .senseReading t chan conv raw => Sys2Proof.Machine.execSenseReading t chan conv raw s
  | .memTempReading t stack temp => Sys2Proof.Machine.execMemTempReading t stack temp s
  | .xchk t a b => Sys2Proof.Machine.execXchk t a b s
  | .syscalZero t p h => Sys2Proof.Machine.execSyscalZero t p h s
  | .syscalFullScale t p h => Sys2Proof.Machine.execSyscalFullScale t p h s
  | .syscalApply t p h => Sys2Proof.Machine.execSyscalApply t p h s
  | .syscalDiscard t p h => Sys2Proof.Machine.execSyscalDiscard t p h s
  | .syscalCaptureDone t v => Sys2Proof.Machine.execSyscalCaptureDone t v s
  | .syscalTimeout t => Sys2Proof.Machine.execSyscalTimeout t s
  | .syscalChan t p h v => Sys2Proof.Machine.execSyscalChan t p h v s
  | .thermTrip t src => Sys2Proof.Machine.execThermTrip t src s
  | .residueQuarantineEnd t unit => Sys2Proof.Machine.execResidueQuarantineEnd t unit s
  | .katDone t unit pass => Sys2Proof.Machine.execKatDone t unit pass s
  | .eventRecordWrite t => Sys2Proof.Machine.execEventRecordWrite t s
  | .evtIrqGapEnd t fn => Sys2Proof.Machine.execEvtIrqGapEnd t fn s
  | .rateTokenSummary t code kw => Sys2Proof.Machine.execRateTokenSummary t code kw s
  | .evtHeartbeat t => Sys2Proof.Machine.execEvtHeartbeat t s
  | .evtAck t p h v => Sys2Proof.Machine.execEvtAck t p h v s
  | .evtQuery t p h v => Sys2Proof.Machine.execEvtQuery t p h v s
  | .opHourPersist t => Sys2Proof.Machine.execOpHourPersist t s
  | .wardWdtRestart t => Sys2Proof.Machine.execWardWdtRestart t s
  | .wardWdtExpiry t => Sys2Proof.Machine.execWardWdtExpiry t s
  | .mbistQuery t p h v => Sys2Proof.Machine.execMbistQuery t p h v s
  | .bistAuth t p h payload => Sys2Proof.Machine.execBistAuth t p h payload s
  | .lbistRun t p h v => Sys2Proof.Machine.execLbistRun t p h v s
  | .lbistDone t first misr => Sys2Proof.Machine.execLbistDone t first misr s
  | .arrayTestRun t p h v => Sys2Proof.Machine.execArrayTestRun t p h v s
  | .arrayTestDone t bad pass => Sys2Proof.Machine.execArrayTestDone t bad pass s
  | .porNRise t => Sys2Proof.Machine.execPorNRise t s
  | .porNFall t => Sys2Proof.Machine.execPorNFall t s
  | .railStepDone t trips fails ms => Sys2Proof.Machine.execRailStepDone t trips fails ms s
  | .railStartTimeout t k => Sys2Proof.Machine.execRailStartTimeout t k s
  | .wardImageStart t => Sys2Proof.Machine.execWardImageStart t s
  | .firmwareStart t => Sys2Proof.Machine.execFirmwareStart t s
  | .powerDownStep t => Sys2Proof.Machine.execPowerDownStep t s
  | .warmReset t p h => Sys2Proof.Machine.execWarmReset t p h s
  | .orderlyPowerDown t p h => Sys2Proof.Machine.execOrderlyPowerDown t p h s
  | .perstAssert t => Sys2Proof.Machine.execPerstAssert t s
  | .perstDeassert t => Sys2Proof.Machine.execPerstDeassert t s
  | .fwCommit t p h v => Sys2Proof.Machine.execFwCommit t p h v s
  | .fwCommitDone t => Sys2Proof.Machine.execFwCommitDone t s
  | .fwBankSelect t p h v => Sys2Proof.Machine.execFwBankSelect t p h v s
  | .linkTrainingFailed t port => Sys2Proof.Machine.execLinkTrainingFailed t port s
  | .v3p3SbLoss t => Sys2Proof.Machine.execV3p3SbLoss t s
  | .lcErasuresDone t => Sys2Proof.Machine.execLcErasuresDone t s

end Sys2Proof.Machine
end

