-- ==== Sys2Proof/Safety.lean ====
section
/-! DEFINITION. Safety.lean: what counts as a safe run, in the terms statements use. -/
namespace Sys2Proof.Machine
open Sys2Proof

/-- A command completes at a state: it answers a next state. -/
def Completes (c : Instr) (s : State) : Prop := ∃ x, exec c s = .next x

/-- A command completes at a state, and what it answers has a property. -/
def Ends (c : Instr) (s : State) (p : State → Prop) : Prop := ∃ x, exec c s = .next x ∧ p x

/-- The device has what a command's operands name: the unit, port, function, slot, entry, sequence, domain or channel, and a list is of the length that
the command takes. -/
def State.has (s : State) (c : Instr) : Bool :=
  match c with
  | .beatPinEdge _ | .missedBeat _ | .beatSelfTimed _ | .seekingLockTimeout _ | .transitionBeatTimeout _ | .beatBoundary _ _ _ _ _
    | .runPhaseStart _ | .quietWindowStart _ | .sessionIdleTimeout _ _ | .halfOpenTimeout _ _ | .sourceMuteEnd _ _ | .blockSequenceTimeout _ _
    | .seekingWriteApply _ | .maskAnd _ _ _ | .maskOr _ _ _ | .maskXor _ _ _ | .maskAndnot _ _ _ _ | .maskPopcnt _ _ _ | .maskAny _ _ _
    | .maskAll _ _ _ | .maskFirst _ _ _ | .reachSend _ _ | .trainTimeout _ _ | .flowReplyTimeout _ _ | .xchk _ _ _ | .syscalCaptureDone _ _
    | .syscalTimeout _ | .eventRecordWrite _ | .rateTokenSummary _ _ _ | .evtHeartbeat _ | .opHourPersist _ | .wardWdtRestart _ | .wardWdtExpiry _
    | .lbistDone _ _ _ | .arrayTestDone _ _ _ | .porNRise _ | .porNFall _ | .wardImageStart _ | .firmwareStart _ | .powerDownStep _
    | .perstAssert _ | .perstDeassert _ | .fwCommitDone _ | .v3p3SbLoss _ | .lcErasuresDone _ => true
  | .beatMarker _ port _ _ | .linkTrained _ port _ | .ident _ port _ _ | .linkDown _ port | .frameReplay _ ⟨port, _⟩ | .fabLaneDegraded _ port _
    | .reach _ port _ | .lossNotice _ port _ | .adopt _ port _ | .trainHead _ port _ | .trainPage _ port _ | .trainEnd _ port _
    | .trainAck _ port _ | .shardReq _ port _ | .shardData _ port _ | .ringQuery _ port _ | .ringPartial _ port _ | .fabEchoMissing _ port
    | .standby _ port _ | .latchOp _ port _ | .latchReply _ port _ | .linkTrainingFailed _ port => decide (port < 23)
  | .stepWorkEnd _ core | .keeperWorkItem _ core _ | .tileAudit _ core => decide (core < s.numCores)
  | .controllerHeartbeat _ ctrl | .ctrlReset _ ⟨ctrl, _⟩ | .ctrlRestartDone _ ctrl => (s.canonUnit ctrl).any isCtrl
  | .haspHoldExpiry _ hc | .haspWorkDelivery _ hc => decide (hc < 8)
  | .isolateManagement _ unit | .isolateFault _ unit | .stepOrder _ unit | .residueQuarantineEnd _ unit | .katDone _ unit _ => (s.canonUnit unit).isSome
  | .quadGateReq _ p _ _ | .unitQuery _ p _ _ | .gdpRead _ p _ | .gdpWrite _ p _ | .gdpReadBlock _ p _ | .gdpWriteBlock _ p _ | .gdpDescribe _ p _
    | .gdpRestore _ p _ | .gdpStore _ p _ | .sessionOpen _ p _ | .sessionProve _ p _ | .sessionClose _ p _ | .engRetireReq _ p _ _
    | .engQuery _ p _ _ | .calRunReq _ p _ _ | .adapterLoad _ p _ _ _ | .seqQuery _ p _ _ | .reqCancel _ p _ _ | .reqRearm _ p _ _
    | .histQuery _ p _ _ | .histClear _ p _ _ | .reqQuery _ p _ _ | .fabricMap _ p _ _ | .spareAdopt _ p _ _ | .latchQuery _ p _ _
    | .keyInstall _ p _ _ | .keyClose _ p _ _ | .mgmtKeyInstall _ p _ _ | .lcRequest _ p _ _ | .debugUnlock _ p _ _ | .syscalZero _ p _
    | .syscalFullScale _ p _ | .syscalApply _ p _ | .syscalDiscard _ p _ | .syscalChan _ p _ _ | .evtAck _ p _ _ | .evtQuery _ p _ _
    | .mbistQuery _ p _ _ | .bistAuth _ p _ _ | .lbistRun _ p _ _ | .arrayTestRun _ p _ _ | .warmReset _ p _ | .orderlyPowerDown _ p _
    | .fwCommit _ p _ _ | .fwBankSelect _ p _ _ => pathOk p
  | .quadOpenDone _ quad => decide (quad < 16)
  | .mbxStatusRead _ fn | .shardPut _ fn _ _ _ _ | .putStatusRead _ fn | .ringCons _ fn _ | .shardArrival _ fn _ | .submitTail _ fn _ _
    | .tokenIrqGapEnd _ fn | .cancel _ fn _ | .rearm _ fn _ | .serveStatusRead _ fn | .latchCplCons _ fn _ | .latchCompletionWrite _ fn
    | .latchStatusRead _ fn | .flr _ fn | .configRequest _ fn _ _ _ | .evtIrqGapEnd _ fn => decide (fn < 64)
  | .funcEnable _ p _ f _ => funcExists f && pathOk p
  | .funcOpenComplete _ f | .funcOpenLimit _ f | .funcCloseComplete _ f | .funcCloseLimit _ f | .funcPowerupStart _ f => funcExists f
  | .coreSlot _ core passes => decide (core < s.numCores) && passes.all (fun o => o.eng / 16 == core && o.tier < 4)
  | .countWordsReady _ r | .splitRecomputeDone _ r => decide (r.eng < s.numEngines)
  | .diagReadbackDone _ eng tier _ | .calCoarseStageDone _ eng tier _ | .calFineStageDone _ eng tier _ | .tierProgramStart _ eng tier
    | .tierProgramDone _ eng tier _ _ _ _ _ | .scrubReadback _ eng tier _ | .scrubOverdue _ eng tier | .imageDigestCheck _ eng tier _ =>
    decide (eng < s.numEngines) && decide (tier < 4)
  | .spareVerified _ eng tier spare _ _ => decide (eng < s.numEngines) && decide (tier < 4) && decide (spare < 32)
  | .vrefCompare _ die _ | .avsSlackReport _ die _ _ => decide (die < 4)
  | .calStageStart _ eng | .calRampStageDone _ eng _ | .calDiscardStandoffEnd _ eng | .trimStoreWrite _ eng => decide (eng < s.numEngines)
  | .senseSelfcalStart _ conv | .senseSelfcalDone _ conv _ _ => decide (conv < 2)
  | .slotLoad _ p _ n | .slotAbort _ p _ n | .slotEmpty _ p _ n | .placeQuery _ p _ n _ | .attnMap _ p _ n _ => decide (n < 16) && pathOk p
  | .shardTimeout _ slot _ | .replaceRetry _ slot _ | .digitalDigestCheck _ slot _ _ => decide (slot < 16)
  | .laneTask _ w => decide (w.cluster < 64) && decide (w.seq < 32768)
  | .laneTaskDone _ seq _ | .pageSeal _ seq | .nextRootBuild _ seq | .ringRound _ seq | .ringRoundTimeout _ seq => decide (seq < 32768)
  | .admitTimeout _ idx | .tokenSample _ idx _ _ | .specRearmTimeout _ idx | .ringStallLimitExpiry _ idx | .kvWaitLimitExpiry _ idx
    | .handoffTimeout _ idx => decide (idx < 32768)
  | .lossDecision _ member => decide (member < 16)
  | .latchSignal _ w _ _ | .latchSet _ w _ _ | .latchRead _ w _ | .latchWait _ w _ _ _ => latchUserOk w
  | .latchWaitTimeout _ num => decide (num < 16384)
  | .keyDrainExpiry _ kw => decide (kw < 64)
  | .zeroingDone _ kw => decide (kw < 64 ∨ kw = 255)
  | .keyGenerationDestroy _ slot => decide (slot < 128)
  | .spdmGetVersion _ c | .spdmGetCapabilities _ c | .spdmNegotiateAlgorithms _ c | .spdmGetDigests _ c | .spdmGetCertificate _ c _ _ _
    | .spdmChallenge _ c _ | .spdmGetMeasurements _ c _ _ => connOk c
  | .ideKm _ kw stream _ => decide (kw < 64) && decide (stream < 9)
  | .phaseAdd _ k | .phaseDrop _ k | .railOvervoltage _ k | .railUndervoltage _ k | .railOvercurrent _ k | .imonMonitorFault _ k
    | .railStartTimeout _ k => decide (k < 24)
  | .packagePowerSample _ mv imon => decide (mv.length = 24) && decide (imon.length = 24)
  | .senseReading _ chan conv _ => decide (chan < 40) && decide (conv < 2)
  | .memTempReading _ stack _ => decide (stack < 8)
  | .thermTrip _ src => tripSource src
  | .railStepDone _ trips _ _ => trips.all (fun x => decide (1 ≤ x) && decide (x ≤ 17))

/-! ### Frames -/

/-- The parts of the state. -/
inductive StatePart where
  | pending | now | out | free | part | cfg | waiting | cnt | store | beat | hier | gdp | funcs | evt | bist
  | eng | kpr | cal | slots | hostMem | kwMem | srv | kv | sense | pwr | fab | latch | ward | mem | boot
  deriving DecidableEq, Repr

/-- A part is the same in two states. -/
def SamePart (s x : State) : StatePart → Prop
  | .pending => x.pending = s.pending
  | .now => x.now = s.now
  | .out => x.out = s.out
  | .free => x.free = s.free
  | .part => x.part = s.part
  | .cfg => x.cfg = s.cfg
  | .waiting => x.waiting = s.waiting
  | .cnt => x.cnt = s.cnt
  | .store => x.store = s.store
  | .beat => x.beat = s.beat
  | .hier => x.hier = s.hier
  | .gdp => x.gdp = s.gdp
  | .funcs => x.funcs = s.funcs
  | .evt => x.evt = s.evt
  | .bist => x.bist = s.bist
  | .eng => x.eng = s.eng
  | .kpr => x.kpr = s.kpr
  | .cal => x.cal = s.cal
  | .slots => x.slots = s.slots
  | .hostMem => x.hostMem = s.hostMem
  | .kwMem => x.kwMem = s.kwMem
  | .srv => x.srv = s.srv
  | .kv => x.kv = s.kv
  | .sense => x.sense = s.sense
  | .pwr => x.pwr = s.pwr
  | .fab => x.fab = s.fab
  | .latch => x.latch = s.latch
  | .ward => x.ward = s.ward
  | .mem => x.mem = s.mem
  | .boot => x.boot = s.boot

/-- Of all parts of the state, at most the listed ones differ. -/
def Writes (l : List StatePart) (s x : State) : Prop := ∀ f, f ∉ l → SamePart s x f

/-- A command completes at a state, changes at most the listed parts, and what it answers has a property. -/
def Does (c : Instr) (s : State) (l : List StatePart) (p : State → Prop) : Prop := Ends c s (fun x => Writes l s x ∧ p x)

/-- A property that every step keeps. -/
def KeptByStep (p : State → Prop) : Prop := ∀ s x, p s → step s = .next x → p x

/-! ### Requests of the dictionary (spec/03) -/

/-- Somebody answers a path now: the Ward, in recovery its ROM on I3C, and the datagram or message is one of GDP; of a mailbox also the host link and the function, and it is not busy. -/
def State.answersOn (s : State) (p : GdpPath) : Bool :=
  match p with
  | .mailbox fn _ => s.boot.link && s.fnHere fn && !(s.box fn).busy && s.boot.ward
  | p => s.pathUp p && pathTakes p

/-- The state in which a request is served: a mailbox's request buffer holds its frame, MBX_IRQ what the host wrote. -/
def State.taking (s : State) (p : GdpPath) (frame : Bytes) : State :=
  match p with
  | .mailbox fn irq =>
    let b := s.boxReq fn frame
    let s := match irq with
      | some v => s.putBox fn { s.box fn with irq := mbxIrq v }
      | none => s
    s.putBox fn { s.box fn with done := false, req := b }
  | _ => s

/-- The frame that the Ward reads: a mailbox's from its buffer, padded to its LENGTH. -/
def State.frameOn (s : State) (p : GdpPath) (frame : Bytes) : Bytes :=
  match p with
  | .mailbox fn _ => boxFrame (s.boxReq fn frame)
  | _ => frame

/-- A request of an operation on an object is one that its proved session may make (R631, up to step 3): its source is not muted, it is no repetition. -/
def State.asks (s : State) (q : GReq) (x : Session) : Bool :=
  !(s.gdp.muted.any (fun m => m.1 == pathSource q.path)) && q.ver == 1 && (!s.boot.recovery || s.recoveryAnswers q) && decide (1 ≤ q.op) && decide (q.op ≤ 7) &&
    s.sessionOf q == some x && x.lastSeq != some q.seq && x.proved

/-- It stands: nothing refuses it (R631). -/
def State.stands (s : State) (q : GReq) (x : Session) : Bool := s.asks q x && (s.refusalFor q (s.ctxOf q x)).isNone

/-- It gets past what asks whether the object is there, of the session's view, of its level and of the object's access (R631, steps 4 to 8). -/
def State.permits (s : State) (q : GReq) (x : Session) : Bool :=
  let c := s.ctxOf q x
  s.asks q x && !(c.claim && !claimAllows q) && (s.existsFor q c).isNone && (s.barredFor q c).isNone &&
    (c.expert || !(s.lookup c q.index q.sub).elim false (fun k => k.obj.spec.expert)) && (s.accessFor q c).isNone

/-- What follows every answer: a refusal is logged, the session keeps the reply, the reply goes out on the request's path. -/
def State.replied (s : State) (p : GdpPath) (q : GReq) (a : Answer) : State :=
  let f := replyFrame q q.sid a
  let y := (s.logResponse q a).keepReply q f
  match p with
  | .mailbox fn _ =>
    let x := y.box fn
    let z := y.putBox fn { x with busy := false, done := true, rsp := f ++ x.rsp.drop f.length }
    (if x.irq.testBit 0 then z.emit (.msix fn (bits x.irq 12 11)) else z).flush
  | p => (y.emit (.gdpReply p f)).flush

/-- A frame `frame` on a path, of an operation `op` on an object: its checks pass (R91), somebody answers its path, and it stands as the request `q` of
the session `x` in the state `u` in which it is served. -/
abbrev GoodFrame (t : Nat) (p : GdpPath) (frame : Bytes) (op : Nat) (s u : State) (q : GReq) (x : Session) : Prop :=
  pathOk p = true ∧ frameCause ((s.at t).frameOn p frame) = 0 ∧
    q = { reqOf p ((s.at t).frameOn p frame) with buf := (s.at t).loadBuf (reqOf p ((s.at t).frameOn p frame)) } ∧
    q.op = op ∧ u = (s.at t).taking p frame ∧ (s.at t).answersOn p = true ∧ u.stands q x = true

/-- A command that is a write of one object. -/
structure RowWrite where
  t       : Nat
  obj     : Obj
  inst    : Nat
  path    : GdpPath
  head    : ReqHead
  payload : Bytes
  buf     : Option Bytes := none
  deriving DecidableEq, Repr

/-- The WRITE frame of such a command. -/
def RowWrite.frame (w : RowWrite) : Bytes := writeFrame w.obj w.inst w.head w.payload

/-- Its request. -/
def RowWrite.req (w : RowWrite) : GReq := { reqOf w.path w.frame with buf := w.buf }

/-- The command that writes a number to an object. -/
def RowWrite.num (t : Nat) (o : Obj) (inst : Nat) (p : GdpPath) (h : ReqHead) (v : Nat) : RowWrite :=
  { t, obj := o, inst, path := p, head := h, payload := leBytes (objSize o) v }

/-- The command that writes a record to an object; `buf` is what DMA reads for it. -/
def RowWrite.record (t : Nat) (o : Obj) (p : GdpPath) (h : ReqHead) (payload : Bytes) (buf : Option Bytes := none) : RowWrite :=
  { t, obj := o, inst := 0, path := p, head := h, payload, buf }

/-- A write of an object is served: somebody answers its path, and in the state `u` in which it is served the request stands and names the cell `k` of
the object. -/
abbrev Served (w : RowWrite) (s u : State) (x : Session) (k : OKey) : Prop :=
  pathOk w.path = true ∧ w.payload.length ≤ 1024 ∧ u = (s.at w.t).taking w.path w.frame ∧ (s.at w.t).answersOn w.path = true ∧
    u.stands w.req x = true ∧ u.lookup (u.ctxOf w.req x) w.req.index w.req.sub = some k ∧ k.obj = w.obj

/-- … and, served or refused by the device's state alone (R631, steps 9 to 12), it gets past what comes before. -/
abbrev Permitted (w : RowWrite) (s u : State) (x : Session) (k : OKey) : Prop :=
  pathOk w.path = true ∧ w.payload.length ≤ 1024 ∧ u = (s.at w.t).taking w.path w.frame ∧ (s.at w.t).answersOn w.path = true ∧
    u.permits w.req x = true ∧ u.lookup (u.ctxOf w.req x) w.req.index w.req.sub = some k ∧ k.obj = w.obj

/-- The clamps of an accepted value are recorded and reported (R117, R118). -/
def State.clamped (s : State) (c : Ctx) (k : OKey) (l : List Clamp) : State :=
  l.foldl (fun (s : State) x => s.clampRecord (settingKey k) c.sid (pathCode c.path) c.kw x) s

/-- The answer to an accepted value (R103, R117): CLAMPED with the number of clamped fields, else OK with DETAIL 0 when it acts at once and 1 when it
waits. -/
def acceptedAnswer (o : Obj) (now : Bool) (r : OVal × List Clamp) : Answer :=
  if r.2.isEmpty then { detail := if now then 0 else 1, payload := valueBytes o r.1 }
  else { status := 1, detail := min 255 r.2.length, payload := valueBytes o r.1 }

/-- The value that a write gives its object, range-checked. -/
def State.checked (s : State) (k : OKey) (payload : Bytes) : OVal × List Clamp :=
  s.rangeCheck (settingKey k) (if k.obj.spec.ty == .blob then .blob payload else .num (leNat payload))

/-- Who asks, of a request served in `u` in the session `x`. -/
def RowWrite.asker (w : RowWrite) (u : State) (x : Session) : Ctx := u.ctxOf w.req x

/-- The value that is accepted. -/
def RowWrite.taken (w : RowWrite) (u : State) (k : OKey) : OVal := (u.checked k w.payload).1

/-- The end of an accepted write: `y`, what it does to the state `u`, then its clamps reported and its answer sent. -/
def RowWrite.answered (w : RowWrite) (u y : State) (x : Session) (k : OKey) : State :=
  (y.clamped (w.asker u x) k (u.checked k w.payload).2).replied w.path w.req
    (acceptedAnswer w.obj (w.obj.spec.effect == .now) (u.checked k w.payload))

/-! ### Routed frames (spec/11) -/

/-- A routed frame of a TYPE has come to this device on a live port and stands opened as `g` in the state `u` (R459, R462): it is counted, it is for the
device's logical address, and it is clear or its tag holds. -/
abbrev FrameHere (t port ty : Nat) (f : HFrame) (s u : State) (g : HFrame) : Prop :=
  port < 23 ∧ frameKnown f.type = true ∧ f.type = ty ∧ (s.port port).live = true ∧ s.fabricOn = true ∧ f.dst = s.logAddr ∧
    ((s.at t).incI .RX_BYTES port (hfSize f)).openHere port f = (u, some g) ∧ g.flags = f.flags

/-- … the next of its flow, in the state `v` in which the flow awaits the one after it (R464). -/
abbrev FrameNext (t port ty : Nat) (f : HFrame) (s v : State) (g : HFrame) : Prop :=
  ∃ u : State, FrameHere t port ty f s u g ∧ u.rxNext g = g.seq ∧ v = u.rxStep g

/-! ### The life-cycle -/

/-- The transitions of Table 12.9 that a device of this model can make (spec/12 R522; BLANK to MANUFACTURE needs factory test access and has
no command): MANUFACTURE 1, PROVISIONED 2, DEPLOYED 3, RETURN 4, DECOMMISSIONED 5. -/
def lcStep (a b : Nat) : Bool :=
  (a == 1 && b == 2) || (a == 2 && b == 3) || (a == 3 && b == 4) || (a == 4 && b == 2) || (decide (1 ≤ a) && decide (a ≤ 4) && b == 5)

/-- The life-cycle registers are legal: LC_STATE is a state of Table 12.9, and a transition accepted or under way is one of its transitions. -/
def State.lcOk (s : State) : Bool :=
  decide (s.ward.lc ≤ 5) && s.ward.lcNext.all (lcStep s.ward.lc) && s.ward.erasing.all (lcStep s.ward.lc)

end Sys2Proof.Machine
end

