-- ==== Sys2Proof/Certificates/Slice0/Obligations.lean ====
section
/-! DEFINITION. Certificates/Slice0/Obligations.lean: the statements for the provers. -/
open Sys2Proof Sys2Proof.Machine

/-- A step runs the command at the front of the queue on the state with the queue's rest. -/
def Obligations.StepRunsFront : Prop :=
  ∀ (c : Instr) (r : List Instr) (s : State), step { s with pending := c :: r } = exec c { s with pending := r }

/-! ### The beat (spec/01) -/

/-- An edge on BEAT_P/N in LOCKED or FREERUN, stamped to 1 ns, before its beat's boundary is decided (R23–R26, R29): inside the window and of a legal
period it is accepted, which stores the phase error, corrects the beat's length and leaves LOCKED; away from both predicted boundaries it is a
glitch, which is counted and places no boundary.
The model's choices in it: logs 12, 54. -/
def Obligations.PinEdgeAcceptedOrGlitch : Prop :=
  ∀ (t a e w : Nat) (s : State), s.beat.trans = none → s.beat.source = .pin → (s.beat.mode = .locked ∨ s.beat.mode = .freerun) →
    s.beat.decided = false → s.beat.lastAccepted = some a → e = max s.now t / 1000 * 1000 → w = s.jitter s.periodEst →
    periodOk ((e - a) / max 1 ((2 * (e - a) + s.periodEst) / (2 * max 1 s.periodEst))) = true →
    (s.beat.last ≤ e + w → e ≤ s.beat.last + w →
      Does (.beatPinEdge t) s [.now, .out, .beat, .cnt, .evt, .boot] (fun x =>
        x.beat.mode = .locked ∧ x.beat.decided = true ∧ x.beat.missed = 0 ∧ x.beat.last = s.beat.last ∧
        x.beat.phaseErr = divRne ((e : Int) - s.beat.last) 1000 ∧
        x.beat.length = edgeLength s.periodEst ((e : Int) - s.beat.last) ∧ x.beat.next = s.beat.last + x.beat.length ∧
        x.count ⟨.BEAT_PHASE_ERR_MAX, 0, 0⟩ = max (s.count ⟨.BEAT_PHASE_ERR_MAX, 0, 0⟩) x.beat.phaseErr.natAbs ∧
        x.count ⟨.GLITCH_COUNT, 0, 0⟩ = s.count ⟨.GLITCH_COUNT, 0, 0⟩)) ∧
    ((e + w < s.beat.last ∨ s.beat.last + w < e) → (e + w < s.beat.next ∨ s.beat.next + w < e ∨ s.beat.early.isSome) →
      s.count ⟨.GLITCH_COUNT, 0, 0⟩ + 1 < 2 ^ 32 →
      Does (.beatPinEdge t) s [.now, .out, .beat, .cnt, .evt] (fun x =>
        x.count ⟨.GLITCH_COUNT, 0, 0⟩ = s.count ⟨.GLITCH_COUNT, 0, 0⟩ + 1 ∧ x.beat.mode = s.beat.mode ∧ x.beat.decided = s.beat.decided ∧
        x.beat.last = s.beat.last ∧ x.beat.next = s.beat.next ∧ x.beat.length = s.beat.length ∧ x.beat.number = s.beat.number ∧
        x.beat.phaseErr = s.beat.phaseErr ∧ x.beat.periods = s.beat.periods))

/-- The beat's timers (R28, R29, R30, Table 1.1). A boundary whose window has closed without an accepted edge is missed: it stays where it was
predicted, and the device is in FREERUN (in auto mode a missed pin may be left for the link at the next boundary: R19). After the last beat of BEAT_FREERUN_LIMIT missed in a row the next boundary is self-timed. 2,000 ms in
SEEKING end in SELF, and the notches spent so far are counted from (R41, R634). A transition beat whose predicted first edge does not come ends in FREERUN as that window closes, its boundary the first missed. -/
def Obligations.BeatTimersChangeState : Prop :=
  (∀ (t : Nat) (s : State), (s.beat.mode = .locked ∨ s.beat.mode = .freerun) → s.beat.decided = false → s.beat.trans = none →
    s.beat.last + s.jitter s.periodEst ≤ max s.now t →
    Does (.missedBeat t) s [.now, .out, .beat, .evt] (fun x =>
      x.beat.mode = .freerun ∧ x.beat.decided = true ∧ x.beat.missed = s.beat.missed + 1 ∧ x.beat.last = s.beat.last ∧ x.beat.next = s.beat.next ∧
      x.beat.length = s.beat.length ∧ x.beat.number = s.beat.number ∧ x.beat.phaseErr = s.beat.phaseErr)) ∧
  (∀ (t : Nat) (s : State), s.beat.mode = .freerun → s.beat.trans = none → s.count ⟨.BEAT_FREERUN_LIMIT, 0, 0⟩ ≤ s.beat.missed →
    s.beat.next ≤ max s.now t →
    Does (.beatSelfTimed t) s [.now, .out, .beat, .evt] (fun x => x.beat = { s.beat with mode := .self, since := max s.now t })) ∧
  (∀ (t : Nat) (s : State), s.beat.mode = .seeking → s.beat.since + 2000000000000 ≤ max s.now t →
    Does (.seekingLockTimeout t) s [.now, .out, .beat, .evt, .funcs] (fun x =>
      x.beat = { s.beat with mode := .self, since := max s.now t, next := max s.now t, length := 0
                             spent := (s.at t).notchClock, seekSpent := (s.at t).seekClock })) ∧
  (∀ (t : Nat) (s : State) (tr : Transition), s.beat.trans = some tr → s.beat.mode ≠ .seeking →
    tr.predict + s.jitter (meanPeriod tr.periods) ≤ max s.now t →
    Does (.transitionBeatTimeout t) s [.now, .out, .beat, .evt] (fun x =>
      x.beat.mode = .freerun ∧ x.beat.trans = none ∧ x.beat.source = tr.source ∧ x.beat.periods = tr.periods ∧ x.beat.missed = 1 ∧
      x.beat.firstMissed = s.beat.number + 1 ∧ x.beat.next = tr.predict + s.jitter (meanPeriod tr.periods) ∧
      x.beat.last = s.beat.last ∧ x.beat.number = s.beat.number))

/-- A beat marker on a trained port whose link is not SILENT (R18, R19, R21): it is an echo, counted as bytes received; on any port but BEAT_LINK_PORT
it places no boundary and leaves the beat alone; on BEAT_LINK_PORT it is an edge of the link source at its arrival minus the port's link delay plus
LINK_BEAT_OFFSET. -/
def Obligations.MarkerIsEchoOrLinkEdge : Prop :=
  ∀ (t port number state : Nat) (s : State), port < 23 → ((s.port port).link = 2 ∨ (s.port port).link = 3) →
    s.count ⟨.RX_BYTES, port, 0⟩ + 39 < 2 ^ 64 →
    (port ≠ s.set0 .BEAT_LINK_PORT →
      Does (.beatMarker t port number state) s [.now, .out, .cnt, .fab] (fun x =>
        x.port port = { s.port port with marked := true, misses := 0, marks := (s.port port).marks + 1 } ∧
        (∀ q, q ≠ port → x.port q = s.port q) ∧ x.count ⟨.RX_BYTES, port, 0⟩ = s.count ⟨.RX_BYTES, port, 0⟩ + 39)) ∧
    (port = s.set0 .BEAT_LINK_PORT →
      Ends (.beatMarker t port number state) s (fun x =>
        x.beat.linkEdges = ((((max s.now t : Nat) : Int) - (s.port port).delay * 1000 + signed 32 (s.set0 .LINK_BEAT_OFFSET) * 1000).toNat ::
          s.beat.linkEdges).take 17 ∧ x.beat.pinEdges = s.beat.pinEdges ∧
        x.port port = { s.port port with marked := true, misses := 0, marks := (s.port port).marks + 1 }))

/-- The phases of a beat (R34, R36–R39): from notch OPEN_END the run phase starts and the cores that hold tiles of the step work; from notch
QUIET_START the quiet window opens, while work that runs goes on; as a core's work of the present step ends, that core alone is idle,
and a core whose work of an earlier step ends joins the step that runs.
The model's choices in it: log 12. -/
def Obligations.PhasesOfABeat : Prop :=
  (∀ (t : Nat) (s : State), s.beat.phase = .open_ → s.set0 .OPEN_END ≤ (s.at t).notchNow →
    Does (.runPhaseStart t) s [.now, .out, .beat] (fun x =>
      x.beat = { s.beat with phase := .run, busy := x.beat.busy } ∧ (∀ b, b ∈ s.beat.busy → b ∈ x.beat.busy) ∧
      (∀ c, c ∈ s.stepCores → c ∈ x.beat.busyCores) ∧ (∀ c, c ∈ x.beat.busyCores → c ∈ s.stepCores ∨ c ∈ s.beat.busyCores))) ∧
  (∀ (t : Nat) (s : State), (s.beat.phase = .run ∨ s.beat.phase = .open_) → s.set0 .QUIET_START ≤ (s.at t).notchNow →
    Does (.quietWindowStart t) s [.now, .out, .beat, .eng] (fun x => x.beat = { s.beat with phase := .quiet })) ∧
  (∀ (t core : Nat) (s : State), core < s.numCores → (∀ b, (core, b) ∈ s.beat.busy → b = s.beat.number) →
    Does (.stepWorkEnd t core) s [.now, .out, .beat, .eng] (fun x => x.beat = { s.beat with busy := s.beat.busy.filter (fun y => y.1 != core) })) ∧
  (∀ (t core b : Nat) (s : State), core < s.numCores → (core, b) ∈ s.beat.busy → b ≠ s.beat.number →
    Does (.stepWorkEnd t core) s [.now, .out, .beat, .eng] (fun x => x.beat = { s.beat with
      busy := s.beat.busy.filter (fun y => y.1 != core) ++
        if (s.beat.phase = .run ∨ s.beat.phase = .quiet) ∧ core ∈ s.stepCores then [(core, s.beat.number)] else [] }))

/-- A beat boundary (R34, R35, R42): once it is due, notch 0 of the next beat begins at the predicted instant with the next number (a write of
BEAT_NUMBER_SET that waits is taken up first), in the open phase, and the queue, the clock and the build are as they were. What stops the device at a
boundary (a life-cycle transition, a power command, the watchdog's hold) comes last; when nothing does, the beat so begun stands. -/
def Obligations.BoundaryBeginsNextBeat : Prop :=
  ∀ (t : Nat) (host : List HostCell) (costs : List StepCost) (quiet work : Nat) (frees admits : Option Nat) (s : State),
    s.beat.mode ≠ .seeking → s.beat.trans = none → s.beat.next ≤ max s.now t →
    ∃ u : State, exec (.beatBoundary t host costs quiet ⟨work, frees, admits⟩) s = .next u.lcBoundary.devPower.wdtStopNow.flush ∧
      u.beat.number = s.applyNumber.beat.nextNumber ∧ u.beat.last = s.beat.next ∧ u.beat.phase = .open_ ∧ u.now = max s.now t ∧
      u.pending = s.pending ∧ u.part = s.part ∧
      (u.lcBoundary.boot.command = 0 → u.lcBoundary.evt.wdtStop = false →
        Ends (.beatBoundary t host costs quiet ⟨work, frees, admits⟩) s (fun x =>
          x.beat.number = s.applyNumber.beat.nextNumber ∧ x.beat.last = s.beat.next ∧ x.beat.phase = .open_ ∧ x.now = max s.now t))

/-! ### Hierarchies (spec/02) -/

/-- Controllers and their watchdogs (R55, R57, R59–R62). A heartbeat is taken at its instant; a live Hasp core that delivers by OPEN_END − 8 is admitted and built into the step
that is being built, and later its work waits for the next. The parent that watches a controller resets it once it has been silent for 2 ms, while fewer than 3 resets within 1,000 beats failed to
make it live, and else marks it FAULTED; a controller that no silence or no parent's watch concerns is reset by the Ward's command alone. Live again, it
takes its heartbeat and its latest reset no longer counts; a Hasp core's held requests resume within 2 beats of its reset and are failed after. -/
def Obligations.ControllersAndTheirResets : Prop :=
  (∀ (t c u : Nat) (s : State), s.canonUnit c = some u → isCtrl u = true →
    exec (.controllerHeartbeat t c) s = .next { s.at t with hier := { s.hier with beatsAt := mapSet s.hier.beatsAt u (max s.now t) } }) ∧
  (∀ (t hc : Nat) (s : State), hc < 8 → s.haspLive hc = true →
    ((s.boot.stepped = false ∨ s.beat.phase ≠ .open_ ∨ s.set0 .OPEN_END < (s.at t).notchNow + 8 ∨ s.hier.merged.contains hc = true) →
      s.hier.delivered.contains hc = false →
      exec (.haspWorkDelivery t hc) s = .next { s.at t with hier := { s.hier with delivered := s.hier.delivered ++ [hc] } }) ∧
    (∀ y : State, s.boot.stepped = true → s.beat.phase = .open_ → (s.at t).notchNow + 8 ≤ s.set0 .OPEN_END → s.hier.merged.contains hc = false →
      y = ((s.at t).admitUpTo [hc] s.srv.admitsLeft).buildPart [hc] ⟨((s.at t).admitUpTo [hc] s.srv.admitsLeft).srv.room.1,
        ((s.at t).admitUpTo [hc] s.srv.admitsLeft).srv.room.2.1, ((s.at t).admitUpTo [hc] s.srv.admitsLeft).srv.room.2.2⟩ →
      exec (.haspWorkDelivery t hc) s = .next { y with hier := { y.hier with merged := y.hier.merged ++ [hc] } }.flush)) ∧
  (∀ (t c u : Nat) (ward : Bool) (s y z : State) (failed : List Nat), s.canonUnit c = some u → isCtrl u = true →
    failed = (mapGet s.hier.resets u []).filter (fun b => s.beat.count < b + 1000) →
    y = ((({ s.at t with hier := { s.hier with
      own := mapSet s.hier.own u .resetting
      resets := mapSet s.hier.resets u (s.beat.count :: failed)
      resetAt := if s.ownState u = .resetting then s.hier.resetAt else mapSet s.hier.resetAt u s.beat.count
      beatsAt := mapSet s.hier.beatsAt u (max s.now t)
      delivered := s.hier.delivered.filter (fun h => some h != haspOf u) } } : State).inc .CTRL_RESET_COUNT).resetWork u).raise 0x4202 0xFF u →
    z = (((s.at t).setOwn u .faulted).resetWork u).raise 0x8203 0xFF u →
    ((s.at t).silent u = true → s.watched u = true →
      (failed.length < 3 → exec (.ctrlReset t ⟨c, ward⟩) s = .next y) ∧
      (3 ≤ failed.length → haspOf u = none → exec (.ctrlReset t ⟨c, ward⟩) s = .next z) ∧
      (∀ hc, 3 ≤ failed.length → haspOf u = some hc → exec (.ctrlReset t ⟨c, ward⟩) s = .next
        (z.mapReqs (fun i r => s.ownerOf i == hc && r.state == .held && r.hold == .hasp) (fun x i => x.endReq i 10)))) ∧
    (((s.at t).silent u = false ∨ s.watched u = false) →
      exec (.ctrlReset t ⟨c, ward⟩) s = .next
        (if ward ∧ s.hier.watchFrom.isSome ∧ (s.ownState u = .online ∨ s.ownState u = .resetting) then y else s.at t))) ∧
  (∀ (t c u : Nat) (s y : State), s.canonUnit c = some u → isCtrl u = true → s.ownState u = .resetting →
    y = { s.at t with hier := { s.hier with own := mapSet s.hier.own u .online, beatsAt := mapSet s.hier.beatsAt u (max s.now t)
                                            resets := mapSet s.hier.resets u ((mapGet s.hier.resets u []).drop 1) } } →
    (haspOf u = none → exec (.ctrlRestartDone t c) s = .next y) ∧
    (∀ hc, haspOf u = some hc → s.beat.count ≤ mapGet s.hier.resetAt u 0 + 2 →
      exec (.ctrlRestartDone t c) s = .next
        (y.mapReqs (fun i r => s.ownerOf i == hc && r.state == .held && r.hold == .hasp && r.ending.isNone) (fun x i => x.releaseReq i)))) ∧
  (∀ (t hc : Nat) (s : State), hc < 8 → s.haspLive hc = false → mapGet s.hier.resetAt (uidHasp hc) 0 + 2 ≤ s.beat.count →
    Does (.haspHoldExpiry t hc) s [.now, .out, .srv] (fun x =>
      ∀ i, (x.req i = s.req i ∨ x.req i = { s.req i with ending := some (10, 0) }) ∧
        ((i, s.req i) ∈ s.srv.reqs → s.ownerOf i = hc → (s.req i).state = .held → (s.req i).hold = .hasp → (s.req i).ending = none →
          (x.req i).ending = some (10, 0))))

/-- Isolation, step orders and quadrants (R64–R66, R69). Isolated for management, a unit with work goes on to the boundary and stands in the queue of
isolations (without boundaries, at once: log 46); isolated for a fault, it is ISOLATED at once unless it is in a more severe state, and its results in
flight are discarded. An order for an isolated unit is refused to its owner, which faults the requests that need it (log 57); an order for another unit
changes nothing. A quadrant whose opening ends takes work again. -/
def Obligations.IsolationAndQuadrants : Prop :=
  (∀ (t v u : Nat) (s : State), s.canonUnit v = some u →
    (s.beat.mode ≠ .seeking → s.hier.isolate.contains u = false →
      exec (.isolateManagement t v) s = .next { s.at t with hier := { s.hier with isolate := s.hier.isolate ++ [u] } }) ∧
    (s.beat.mode = .seeking →
      Does (.isolateManagement t v) s [.now, .out, .hier, .eng] (fun x =>
        x.hier = { s.hier with own := mapSet s.hier.own u ((s.ownState u).worse .isolated) })) ∧
    (∃ x : State, exec (.isolateFault t v) s = .next x ∧ x = ((s.at t).setOwn u ((s.ownState u).worse .isolated)).discardUnit u ∧
      x.hier = { s.hier with own := mapSet s.hier.own u ((s.ownState u).worse .isolated) } ∧
      (∀ d, d ∈ x.kpr.done → d ∈ s.kpr.done ∧ s.unitHoldsTier u d.pass.eng d.pass.tier = false) ∧
      (∀ p, p ∈ x.kpr.passes → s.unitHoldsTier u p.eng p.tier = true → p.dropped = true)) ∧
    (s.unitState u = .isolated → exec (.stepOrder t v) s = .next (((s.at t).emit (.orderRefused u)).faultAll .unitIsolated (s.placedOn u))) ∧
    (s.unitState u ≠ .isolated → exec (.stepOrder t v) s = .next (s.at t))) ∧
  (∀ (t q since : Nat) (s : State), q < 16 → mapFind s.hier.opening q = some since → s.ownState (uidQuad q) = .gated →
     exec (.quadOpenDone t q) s = .next { s.at t with hier := { s.hier with
       own := mapSet s.hier.own (uidQuad q) .online, opening := mapDel s.hier.opening q, opened := s.hier.opened ++ [q] } })

/-! ### The dictionary (spec/03) -/

/-- What a session writes to a selector stands for that session alone (R83, R217, R351, R401, R409, R441, R488, R526, R597): the value, clamped to its
range, is what the session's later reads use, and no other session's and no other selector's selection changes. -/
def Obligations.SelectorsStandForTheirSession : Prop :=
  ∀ (t : Nat) (p : GdpPath) (h : ReqHead) (n v : Nat) (s u : State) (x : Session) (k : OKey) (c : Instr) (w : RowWrite),
    (c, w) ∈ [(Instr.unitQuery t p h v, RowWrite.num t .UNIT_QUERY 0 p h v), (.engQuery t p h v, .num t .ENG_QUERY 0 p h v),
      (.placeQuery t p h n v, .num t .PLACE_QUERY n p h v), (.seqQuery t p h v, .num t .SEQ_QUERY 0 p h v),
      (.histQuery t p h v, .num t .HIST_QUERY 0 p h v), (.reqQuery t p h v, .num t .REQ_QUERY 0 p h v),
      (.latchQuery t p h v, .num t .LATCH_QUERY 0 p h v), (.evtQuery t p h v, .num t .EVT_QUERY 0 p h v),
      (.mbistQuery t p h v, .num t .MBIST_QUERY 0 p h v)] →
    n < 16 → Served w s u x k →
    ∃ y : State, exec c s = .next (w.answered u y x k) ∧
      y = { u with gdp := { u.gdp with select := y.gdp.select } } ∧
      ∀ (d : Ctx) (j : OKey), y.selected d j = if d.sid = w.req.sid ∧ j = k then ovNat (w.taken u k) else u.selected d j

/-- A write of an object that takes effect at a boundary (R102, R103, R104, R117): it is accepted at once, range-checked, and waits, the last of its
object behind every other that waits; the setting in force does not change, and a read shows the value that waits. Commands that act at a boundary are
such writes (Table 3.13, R216, R299, Table 8.13, Table 13.6, Tables 14.13 to 14.15, Table 15.14). -/
def Obligations.WritesWaitForTheBoundary : Prop :=
  ∀ (t : Nat) (p : GdpPath) (h : ReqHead) (n v : Nat) (b : Bytes) (s u : State) (x : Session) (k : OKey) (c : Instr) (w : RowWrite),
    (c, w) ∈ [(Instr.quadGateReq t p h v, RowWrite.num t .QUAD_GATE_REQ 0 p h v), (.slotLoad t p h n, .num t .SLOT_CMD n p h 1),
      (.slotAbort t p h n, .num t .SLOT_CMD n p h 2), (.slotEmpty t p h n, .num t .SLOT_CMD n p h 3), (.histClear t p h v, .num t .HIST_CLEAR 0 p h v),
      (.fabricMap t p h b, .record t .FABRIC_MAP p h b), (.keyClose t p h v, .num t .KEY_CLOSE 0 p h v),
      (.syscalZero t p h, .num t .SYSCAL_CMD 0 p h 1), (.syscalFullScale t p h, .num t .SYSCAL_CMD 0 p h 2),
      (.syscalApply t p h, .num t .SYSCAL_CMD 0 p h 3), (.syscalDiscard t p h, .num t .SYSCAL_CMD 0 p h 4),
      (.syscalChan t p h v, .num t .SYSCAL_CHAN 0 p h v), (.evtAck t p h v, .num t .EVT_ACK 0 p h v),
      (.engRetireReq t p h v, .num t .ENG_RETIRE_REQ 0 p h v), (.calRunReq t p h v, .num t .CAL_RUN_REQ 0 p h v),
      (.lbistRun t p h v, .num t .LBIST_RUN 0 p h v), (.arrayTestRun t p h v, .num t .ARRAY_TEST_RUN 0 p h v),
      (.fwCommit t p h v, .num t .FW_COMMIT 0 p h v), (.fwBankSelect t p h v, .num t .FW_BANK_SELECT 0 p h v),
      (.warmReset t p h, .num t .DEV_POWER_CMD 0 p h 1), (.orderlyPowerDown t p h, .num t .DEV_POWER_CMD 0 p h 2)] →
    n < 16 → Served w s u x k → u.acceptBar (settingKey k) (w.taken u k) = none →
    ∃ y : State, exec c s = .next (w.answered u y x k) ∧
      y = { u with waiting := u.waiting.filter (fun z => z.1 != settingKey k) ++ [(settingKey k, w.taken u k)] } ∧
      (∀ j, y.setting j = u.setting j) ∧ y.waitingFor (settingKey k) = some (w.taken u k) ∧
      (∀ j, j ≠ settingKey k → y.waitingFor j = u.waitingFor j)

/-- What the operations on an object do, once their frame is good, somebody answers its path and nothing refuses the request (R85, R86, R93, R103,
R106, R109–R112, R632): the reply goes out on the path and the session keeps it. READ and READ_BLOCK give the value, DETAIL 1 when it waits for its
time; WRITE, and the last segment of a WRITE_BLOCK sequence, accept a value, which acts at once or waits for the boundary; another segment is staged;
DESCRIBE changes nothing; RESTORE leaves the default waiting; STORE puts the value of every persisted subindex into flash. Subindex 0 reads and is
described as the highest subindex there is, and restores every subindex that the session may write.
The model's choices in it: log 5. -/
def Obligations.OperationsOfTheDictionary : Prop :=
  (∀ (t : Nat) (p : GdpPath) (f : Bytes) (s u : State) (q : GReq) (x : Session) (k : OKey), u.lookup (u.ctxOf q x) q.index q.sub = some k →
    (GoodFrame t p f 1 s u q x →
      exec (.gdpRead t p f) s = .next ((u.afterRead (u.ctxOf q x) k).replied p q
        { detail := if (u.readValue (u.ctxOf q x) k).2 then 1 else 0, payload := valueBytes k.obj (u.readValue (u.ctxOf q x) k).1 })) ∧
    (GoodFrame t p f 3 s u q x →
      exec (.gdpReadBlock t p f) s = .next ((u.afterRead (u.ctxOf q x) k).replied p q
        { detail := if (u.readValue (u.ctxOf q x) k).2 then 1 else 0
          payload := leBytes 4 (leAt q.payload 0 4) ++ ((valueBytes k.obj (u.readValue (u.ctxOf q x) k).1).drop (leAt q.payload 0 4)).take 1020 })) ∧
    (GoodFrame t p f 2 s u q x →
      exec (.gdpWrite t p f) s = .next ((u.acceptAs (u.ctxOf q x) k (u.checked k q.payload) q.buf).1.replied p q
        (u.acceptAs (u.ctxOf q x) k (u.checked k q.payload) q.buf).2) ∧
      (k.obj.spec.effect = .boundary → k.obj ≠ .FUNC_ENABLE → u.acceptBar (settingKey k) (u.checked k q.payload).1 = none →
        exec (.gdpWrite t p f) s = .next (((u.queueWrite (settingKey k) (u.checked k q.payload).1).clamped (u.ctxOf q x) k
          (u.checked k q.payload).2).replied p q (acceptedAnswer k.obj false (u.checked k q.payload))))) ∧
    (GoodFrame t p f 4 s u q x → q.closes = false →
      exec (.gdpWriteBlock t p f) s = .next (({ u with gdp := { u.gdp with
        blocks := u.gdp.blocks.filter (fun b => !q.mine (settingKey k) b) ++ [⟨q.sid, settingKey k, u.segments q (settingKey k), u.now⟩] } } : State).replied p q {})) ∧
    (GoodFrame t p f 4 s u q x → q.closes = true → ∀ r : State × Answer,
      r = ({ u with gdp := { u.gdp with blocks := u.gdp.blocks.filter (fun b => !q.mine (settingKey k) b) } } : State).accept (u.ctxOf q x) k
        (if k.obj.spec.ty == .blob then .blob (joinSegs k.obj (u.segments q (settingKey k))) else .num (leNat (joinSegs k.obj (u.segments q (settingKey k)))))
        q.buf →
      exec (.gdpWriteBlock t p f) s = .next (if r.2.status < 16 then r.1.replied p q { r.2 with payload := [] }
        else ({ r.1 with gdp := { r.1.gdp with blocks := u.gdp.blocks } } : State).replied p q r.2)) ∧
    (GoodFrame t p f 5 s u q x →
      ∃ b : Bytes, exec (.gdpDescribe t p f) s = .next (u.replied p q { payload := b }) ∧ b.take 1 = leBytes 1 (tyCode k.obj.spec.ty)) ∧
    (GoodFrame t p f 6 s u q x →
      (isSelector k.obj = true → exec (.gdpRestore t p f) s = .next (({ u with gdp := { u.gdp with
        select := u.gdp.select.filter (fun y => !(y.session == (u.ctxOf q x).sid && y.key == k)) } } : State).replied p q {})) ∧
      (isSelector k.obj = false → k.obj.spec.acc = .rw → k.obj.spec.effect = .boundary → k.obj ≠ .FUNC_ENABLE →
        u.acceptBar (settingKey k) (u.dfltValue (settingKey k)) = none →
        exec (.gdpRestore t p f) s = .next ((u.queueWrite (settingKey k) (u.dfltValue (settingKey k))).replied p q { detail := 1 })))) ∧
  (∀ (t : Nat) (p : GdpPath) (f : Bytes) (s u : State) (q : GReq) (x : Session) (top : Nat), u.lookup (u.ctxOf q x) q.index q.sub = none →
    top = (u.topSub (u.ctxOf q x) q.index).getD 0 →
    (GoodFrame t p f 1 s u q x → exec (.gdpRead t p f) s = .next (u.replied p q { payload := leBytes 1 top })) ∧
    (GoodFrame t p f 3 s u q x → exec (.gdpReadBlock t p f) s = .next (u.replied p q
      { payload := leBytes 4 (leAt q.payload 0 4) ++ (leBytes 1 top).drop (leAt q.payload 0 4) })) ∧
    (GoodFrame t p f 5 s u q x → exec (.gdpDescribe t p f) s = .next (u.replied p q { payload := [2, 0, 0, 4, 0, 0, 255] })) ∧
    (GoodFrame t p f 6 s u q x → exec (.gdpRestore t p f) s = .next
      (((u.restorable (u.ctxOf q x) q.index).foldl (fun (y : State) k => (y.restoreOne (u.ctxOf q x) k).1) u).replied p q { detail := 1 }))) ∧
  (∀ (t : Nat) (p : GdpPath) (f : Bytes) (s u : State) (q : GReq) (x : Session), GoodFrame t p f 7 s u q x →
    ∃ y : State, exec (.gdpStore t p f) s = .next (y.replied p q {}) ∧ y = { u with store := y.store } ∧
      ((u.ctxOf q x).view = none → ∀ j, j ∈ (u.subs (u.ctxOf q x) q.index).filterMap (u.lookup (u.ctxOf q x) q.index) →
        j.obj.spec.persisted = true → (cellFind y.store (settingKey j)).isSome = true))

/-- Sessions (R96, R99, R631, R633). SESSION_OPEN takes the lowest free number with a challenge of 48 random bytes; a session whose proof holds is
proved; a half-open or a proved one closes, and what it has selected and staged goes with it. Each reply goes out on the request's path. While the device waits to be
claimed, what opens is a claim session, on I3C, with write access and the only one. (A function's mailbox has its one session without these: R100.)
The model's choices in it: logs 5, 6, 65. -/
def Obligations.SessionsOpenProveClose : Prop :=
  ∀ (t : Nat) (p : GdpPath) (f : Bytes) (s : State) (q : GReq), pathCode p ≠ 2 → frameCause f = 0 →
    q = { reqOf p f with buf := (s.at t).loadBuf (reqOf p f) } → q.ver = 1 → s.pathUp p = true → pathTakes p = true → s.boot.recovery = false →
    s.gdp.muted.any (fun m => m.1 == pathSource p) = false →
    (q.op = 0x10 → q.payload.length = 36 → leAt q.payload 0 1 ≤ 1 → s.placesTaken p < placesOf p →
      (s.ward.lc = 2 → pathCode p = 1 ∧ (s.ward.mgmtKey = none → leAt q.payload 0 1 = 1 ∧ s.gdp.sessions.any (fun z => z.2.claim) = false)) →
      ∀ (n : Nat) (ch : Bytes) (y : State), n = s.freeSid → ch = randomBytes s.free 48 →
        y = { s.at t with
          free := s.free + 48
          gdp := { s.gdp with sessions := mapSet s.gdp.sessions n { path := p, expert := leAt q.payload 0 1 == 1, claim := s.ward.lc == 2 && s.ward.mgmtKey.isNone
                                                                    nonce := (q.payload.drop 4).take 32, challenge := ch, opened := max s.now t, active := max s.now t } } } →
        exec (.sessionOpen t p f) s = .next (y.emit (.gdpReply p (replyFrame q n { payload := ch }))).flush) ∧
    (q.op = 0x11 → ∀ x : Session, s.sessionOf q = some x → x.lastSeq ≠ some q.seq → x.proved = false → s.proofOk q.sid x q.payload = true →
      ∀ r : Bytes, r = replyFrame q q.sid { payload := leBytes 2 q.sid } →
        exec (.sessionProve t p f) s = .next ((((s.at t).putSession q.sid { x with proved := true }).keepReply q r).emit (.gdpReply p r)).flush) ∧
    (q.op = 0x12 → ∀ x : Session, s.sessionOf q = some x → x.lastSeq ≠ some q.seq → (x.proved = true → x.claim = false) →
      ∀ (y : State) (r : Bytes), r = replyFrame q q.sid {} →
        y = { s.at t with gdp := { s.gdp with
          sessions := s.gdp.sessions.filter (fun z => !(z.1 == q.sid))
          select := s.gdp.select.filter (fun z => !((s.gdp.sessions.filter (fun z => z.1 == q.sid)).map Prod.fst).contains z.session)
          blocks := s.gdp.blocks.filter (fun z => !((s.gdp.sessions.filter (fun z => z.1 == q.sid)).map Prod.fst).contains z.session) } } →
        exec (.sessionClose t p f) s = .next (y.emit (.gdpReply p r)).flush)

/-- The timers of sessions, and MBX_STATUS (R89, R96, R99, R106). A session idle for 60 s and a half-open one of 10 s are closed, a source is muted for
60 s, a block sequence idle for 10 s is discarded. A read of MBX_STATUS answers BUSY, DONE, OVERRUN and DROPPED and clears the last two. Nothing else
changes. -/
def Obligations.TimersOfSessions : Prop :=
  (∀ (t sid : Nat) (s : State) (x : Session), mapFind s.gdp.sessions sid = some x → (∀ z, (sid, z) ∈ s.gdp.sessions → z = x) → sid < 0x8000 →
    (x.active + 60000000000000 ≤ max s.now t → Does (.sessionIdleTimeout t sid) s [.now, .out, .gdp] (fun y =>
      mapFind y.gdp.sessions sid = none ∧ ∀ n, n ≠ sid → mapFind y.gdp.sessions n = mapFind s.gdp.sessions n)) ∧
    (max s.now t < x.active + 60000000000000 →
      Does (.sessionIdleTimeout t sid) s [.now, .out, .gdp] (fun y => mapFind y.gdp.sessions sid = some x)) ∧
    (x.proved = false → x.opened + 10000000000000 ≤ max s.now t →
      Does (.halfOpenTimeout t sid) s [.now, .out, .gdp] (fun y =>
        mapFind y.gdp.sessions sid = none ∧ ∀ n, n ≠ sid → mapFind y.gdp.sessions n = mapFind s.gdp.sessions n))) ∧
  (∀ (t : Nat) (p : GdpPath) (s : State),
    exec (.sourceMuteEnd t p) s = .next { s.at t with gdp := { s.gdp with
      muted := s.gdp.muted.filter (fun x => !(x.1 == pathSource p && decide (x.2 + 60000000000000 ≤ max s.now t))) } }) ∧
  (∀ (t sid : Nat) (s : State),
    exec (.blockSequenceTimeout t sid) s = .next { s.at t with gdp := { s.gdp with
      blocks := s.gdp.blocks.filter (fun b => !(b.session == sid && decide (b.since + 10000000000000 ≤ max s.now t))) } }) ∧
  (∀ (t fn : Nat) (s : State), fn < 64 → s.boot.link = true → s.fnHere fn = true →
    exec (.mbxStatusRead t fn) s = .next { s.at t with
      out := [.reg ((if (s.box fn).busy then 1 else 0) + (if (s.box fn).done then 2 else 0) + (if (s.box fn).overrun then 4 else 0) +
        (if (s.box fn).dropped then 8 else 0))]
      gdp := { s.gdp with boxes := mapSet s.gdp.boxes fn { s.box fn with overrun := false, dropped := false } } })

/-- Functions (R102, R124, R125, R331, R449, R496, R628 to R630, Table 3.13). A write of FUNC_ENABLE waits for the boundary; a function that is CLOSING
latches it, and answers 1 with PENDING. An OPENING whose condition holds becomes ON, and a 0 written meanwhile stands; one that has lasted FUNC_OPEN_LIMIT beats fails, OFF, with its
cause. A CLOSING ends once nothing of the function is in use, and is forced OFF with its cause after FUNC_CLOSE_LIMIT beats. At power-up an enabled
function of an owner that has started is to open at the next boundary, in SEEKING at once. A training attempt that fails while a write of 0 waits ends the opening step. -/
def Obligations.FunctionsOpenAndClose : Prop :=
  (∀ (t : Nat) (p : GdpPath) (h : ReqHead) (f : Func) (v : Nat) (s u : State) (x : Session) (w : RowWrite) (k : OKey), funcExists f = true → v ≤ 1 →
     w = .num t .FUNC_ENABLE (funcIndex f) p h v → k = funcEnableKey f → Served w s u x k →
     ∀ y : State, y = u.queueWrite k (.num v) →
       ((u.func f).state ≠ .closing →
         exec (.funcEnable t p h f v) s = .next ((y.putFunc f { u.func f with want := some (v != 0) }).replied p w.req { detail := 1, payload := leBytes 1 v })) ∧
       ((u.func f).state = .closing →
         exec (.funcEnable t p h f v) s = .next ((y.putFunc f { u.func f with latched := v != 0 }).replied p w.req
           { status := if v = 1 then 2 else 0, detail := 1, payload := leBytes 1 v }))) ∧
  (∀ (t : Nat) (f : Func) (s : State), funcExists f = true → (s.func f).state = .opening →
    (match f with
      | .slot n => (s.at t).slotOpened n = true
      | .port n => s.portReady n = true
      | .keyway n => (s.at t).kwReady n = true ∧ s.beat.mode = .seeking) →
    Does (.funcOpenComplete t f) s [.now, .out, .funcs, .evt] (fun x =>
      x.func f = { s.func f with state := .on, beats := 0, since := max s.now t, want := (s.func f).want.filter (· == false), cause := 0 } ∧ ∀ g, g ≠ f → x.func g = s.func g)) ∧
  (∀ (t : Nat) (f : Func) (s y : State), funcExists f = true → (s.func f).state = .opening → openLimit f ≤ (s.at t).funcBeats f → y = (s.at t).funcFail f 0 →
    y.func f = { s.func f with state := .off, beats := 0, since := max s.now t, want := none, cause := 0x8301 } ∧
    exec (.funcOpenLimit t f) s = .next (match f with
      | .slot _ => y.flush
      | .port n => (y.portOff n).flush
      | .keyway n => (y.kwOpenFailed n).flush)) ∧
  (∀ (t n : Nat) (s : State), n < 16 → (s.func (.slot n)).state = .closing → s.slotPinned n = false →
    exec (.funcCloseComplete t (.slot n)) s = .next (((s.at t).drainedSlot n).funcTo (.slot n) .off).flush) ∧
  (∀ (t n : Nat) (s : State), n < 23 → (s.func (.port n)).state = .closing → s.portBusy n = false →
    exec (.funcCloseComplete t (.port n)) s = .next (((s.at t).funcTo (.port n) .off).portOff n).flush) ∧
  (∀ (t n : Nat) (s : State), n < 64 → (s.func (.keyway n)).state = .closing → s.beat.mode = .seeking → (s.kway n).removal = .zero → s.zeroed n = true →
    exec (.funcCloseComplete t (.keyway n)) s = .next ((s.at t).removalEnd n).flush) ∧
  (∀ (t : Nat) (f : Func) (s : State), funcExists f = true → (s.func f).state = .closing → closeLimit f ≤ (s.at t).funcBeats f →
    exec (.funcCloseLimit t f) s = .next (match f with
      | .slot n => (((((s.at t).endSoon 4 (fun r => ((s.versions.filter (fun p => p.1 == n)).map (fun p => p.2.2.number)).any (r.pinned n))).funcForce
          (.slot n)).drainedSlot n)).flush
      | .port n => (((s.at t).funcForce (.port n)).portOff n).flush
      | .keyway n => ((s.at t).kwForce n).flush)) ∧
  (∀ (t : Nat) (f : Func) (s : State), funcExists f = true → s.ownerUp f = true → s.boot.ward = true → s.boot.started.contains f = false →
    (s.func f).state = .off → s.enabled f = true → s.beat.mode ≠ .seeking →
    exec (.funcPowerupStart t f) s = .next { s.at t with
      boot := { s.boot with started := s.boot.started ++ [f] }, funcs := putFuncIn s.funcs f { s.func f with want := some true } }) ∧
  (∀ (t : Nat) (f : Func) (s y : State), funcExists f = true → s.ownerUp f = true → s.boot.ward = true → s.boot.started.contains f = false →
    y = { s.at t with boot := { s.boot with started := s.boot.started ++ [f] } } →
    ((s.func f).state = .off → s.enabled f = true → s.beat.mode = .seeking →
      exec (.funcPowerupStart t f) s = .next ((y.putFunc f { s.func f with want := some true }).funcMove f)) ∧
    (((s.func f).state ≠ .off ∨ s.enabled f = false) → exec (.funcPowerupStart t f) s = .next y)) ∧
  (∀ (t n : Nat) (s : State), n < 23 → (s.port n).link = 1 → (s.func (.port n)).want = some false →
    exec (.linkTrainingFailed t n) s = .next ((s.at t).putPort n { s.port n with link := 0 }))

/-- In SEEKING a write that would wait for a boundary takes effect without one (R105): every one that waits, in the order of acceptance, and what
stands behind it moves, functions and removals first, then quadrants, keys, the fabric map, and what stops the device. A setting that waits alone and
has no effect but its value stands after it as the setting in force. -/
def Obligations.SeekingAppliesWrites : Prop :=
  ∀ (t : Nat) (s : State), s.beat.mode = .seeking →
    ∃ y z : State, exec (.seekingWriteApply t) s = .next (z.keysBoundary.applyMap.lcBoundary.devPower.wdtStopNow).flush ∧
      y = (((s.at t).applyWaiting.sourceCheck (s.set0 .BEAT_SOURCE) (s.set0 .BEAT_LINK_PORT)).funcsSeek) ∧
      z = (List.range 16).foldl (fun (x : State) q =>
        if ((y.removals.foldl State.removalSeek y).set0 .QUAD_GATE_REQ).testBit q then x.gateQuad q else x.openQuad q) (y.removals.foldl State.removalSeek y) ∧
      ∀ (k : OKey) (v : OVal), s.waiting = [(k, v)] → k.obj.spec.effect = .boundary → k.obj.spec.acc = .rw →
        k.obj ∉ [Obj.ATTN_MAP, .FABRIC_MAP, .ADAPTER_TABLE, .SYSCAL_CHAN, .FW_SEG, .PWR_LIMIT, .BEAT_NUMBER_SET, .AVS_ENABLE, .SPARES_LOW_MARK] →
        (s.at t).applyWaiting = { s.at t with waiting := [], cfg := cellPut s.cfg k v }

/-- What commands that wait for a boundary do there (R216, R299, R332, R441, R512, R584, R593, Table 13.6, R604, R612, R616): a slot's command acts on its slot; a
key slot that is ACTIVE enters CLOSING; records up to the number written are acknowledged; a procedure of the sense block starts again; histograms are
cleared; an engine or tier is marked for retirement; a calibration is due; a unit to test is isolated for management; a commit begins for FW_TARGET's
kind; the VALID bank that is not active becomes PENDING; a power command stands. -/
def Obligations.CommandsActAtTheirBoundary : Prop :=
  ∀ (s : State) (n kw v : Nat) (u : UnitId),
    s.applyWrite (⟨.SLOT_CMD, n, 0⟩, .num 1) = s.slotLoad n ∧
    s.applyWrite (⟨.SLOT_CMD, n, 0⟩, .num 2) = s.slotAbort n ∧
    s.applyWrite (⟨.SLOT_CMD, n, 0⟩, .num 3) = s.slotEmpty n ∧
    ((s.keySlot v).state = 1 → s.applyWrite (⟨.KEY_CLOSE, 0, 0⟩, .num v) =
      { s with ward := { s.ward with keys := mapSet s.ward.keys v { s.keySlot v with state := 2, next := none, since := s.notchClock } } }) ∧
    s.applyWrite (⟨.EVT_ACK, 0, 0⟩, .num v) = { s with evt := { s.evt with critUnacked := s.evt.critUnacked.filter (fun x => decide (v < x)) } } ∧
    (s.applyWrite (⟨.SYSCAL_CHAN, 0, 0⟩, .num v)).sense.cal = { s.sense.cal with status := 0, started := none, capture := none } ∧
    s.applyWrite (⟨.HIST_CLEAR, 0, kw⟩, .num v) = { s with srv := { s.srv with hists := s.srv.hists.filter (fun h => kw != 0 && h.kw != kw) } } ∧
    (s.lbistUnit v = some u → s.bist.lbist = none → s.beat.mode ≠ .seeking → s.hier.isolate.contains u = false →
      s.applyWrite (⟨.LBIST_RUN, 0, 0⟩, .num v) = { s with bist := { s.bist with lbist := some (u, s.ownState u) }
                                                           hier := { s.hier with isolate := s.hier.isolate ++ [u] } }) ∧
    (s.canonUnit v = some u → uidType u = 4 → s.bist.array = none →
      (s.applyWrite (⟨.ARRAY_TEST_RUN, 0, 0⟩, .num v)).bist = { s.bist with array := some (s.engineOf u) }) ∧
    s.applyWrite (⟨.FW_COMMIT, 0, 0⟩, .num v) = { s with boot := { s.boot with commit := some v, commitKind := s.set0 .FW_TARGET, result := 1 } } ∧
    s.applyWrite (⟨.ENG_RETIRE_REQ, 0, 0⟩, .num v) = s.retireUnit v ∧
    (uidType v = 4 → (s.engine (s.engineOf v)).retiring = none → (s.engine (s.engineOf v)).retired = false →
      ((s.retireUnit v).engine (s.engineOf v)).retiring = some .commanded) ∧
    (uidType v = 5 → uidTierOf v < (s.engine (s.engineOf v)).tiers.length → ((s.engine (s.engineOf v)).tier (uidTierOf v)).health ≠ .retired →
      (((s.retireUnit v).engine (s.engineOf v)).tier (uidTierOf v)).retiring = true) ∧
    s.applyWrite (⟨.CAL_RUN_REQ, 0, 0⟩, .num v) = s.calRequest (s.engineOf v) ∧
    ((s.engine (s.engineOf v)).retired = false → (s.engine (s.engineOf v)).due = none →
      s.calRequest (s.engineOf v) = s.putEngine (s.engineOf v) { s.engine (s.engineOf v) with due := some 1, dueSince := s.now, standoff := none }) ∧
    ((s.boot.bank (s.boot.inactive v)).state = 1 → s.applyWrite (⟨.FW_BANK_SELECT, 0, 0⟩, .num v) =
      { s with boot := s.boot.putBank (s.boot.inactive v) { s.boot.bank (s.boot.inactive v) with state := 2 } }) ∧
    s.applyWrite (⟨.DEV_POWER_CMD, 0, 0⟩, .num v) = { s with boot := { s.boot with command := v } }

/-! ### The analogue engine (spec/05) -/

/-- A core slot (R66, R164, R174, R176, R177, R181, R184, R185, R232, R233), under the settings of its step. What may no longer run leaves the queue,
orders join it or are refused, and each free engine starts one pass, an L pass after its H pass and passes of one tier together; a slot whose outlier
load exceeds its budget is longer, counted and reported. A core that is not at step work, or whose engines the power guard stalls, starts none.
The model's choices in it: logs 14, 57. -/
def Obligations.CoreSlotStartsPasses : Prop :=
  (∀ (t core : Nat) (l picks : List PassOrder) (s y : State) (kw load base : Nat), core < s.numCores →
    l.all (fun o => o.eng / 16 == core && o.tier < 4) = true →
    ((s.pwr.stalled = true ∨ s.beat.busyCores.contains core = false) → exec (.coreSlot t core l) s = .next (s.at t)) ∧
    (s.pwr.stalled = false → s.beat.busyCores.contains core = true → mapFind s.kpr.stepCfg (s.coreBeat core) = none →
      y = ((s.at t).sweepQueue core).takeOrders l → picks = (List.range 16).filterMap (fun e => y.nextOrder (16 * core + e)) →
      load = y.outlierLoad picks → base = y.slotLength picks → kw = (match picks with | o :: _ => (y.req o.req).kw | [] => 0xFF) →
      (load ≤ y.set0 .OUTLIER_LOAD_BUDGET → exec (.coreSlot t core l) s = .next (y.startPasses picks)) ∧
      (y.set0 .OUTLIER_LOAD_BUDGET < load → exec (.coreSlot t core l) s = .next
        ((((y.startPasses picks).incK .OUTLIER_DERATE_COUNT kw).incK .OUTLIER_DERATE_NS kw
          (max base (4 * ((load + 6143) / 6144)) - base)).raise 0x4601 kw (s.uidCore core))))) ∧
  (∀ (o : PassOrder) (s : State),
    (s.mayPass o.eng o.tier = true → s.halfFits o = true → s.takeOrder o = { s with kpr := { s.kpr with queue := s.kpr.queue ++ [o] } }) ∧
    ((s.mayPass o.eng o.tier = false ∨ s.halfFits o = false) → s.takeOrder o =
      if s.tierState o.eng o.tier = .isolated then (s.emit (.orderRefused (s.uidTier o.eng o.tier))).faultStep o.req .unitIsolated
      else s.emit (.orderRefused (s.uidTier o.eng o.tier))) ∧
    (s.startPass o).kpr.passes = s.kpr.passes ++ [s.passOf o] ∧ (s.startPass o).kpr.queue = s.kpr.queue.erase o ∧
    (s.startPass o).engine o.eng = { s.engine o.eng with lastTier := some o.tier } ∧
    Writes [.cnt, .free, .eng, .kpr] s (s.startPass o))

/-- Count words (R179, R182, R187–R193, R226). They are charged to the engine as one pass with its energy; of a pass whose results are discarded that is
all. A first pass below gain 3 with a saturated output is retried at gain 3 when SAT_RETRY is 1; of a retry's outputs those that were saturated take the
new counts. Then the counts are final: what is saturated or failed and has no digital copy is split, and else the pass leaves its engine and the Keeper
holds its counts; banks that a pair under way has held back swap after it.
The model's choices in it: logs 57, 60. -/
def Obligations.CountWordsEndAPass : Prop :=
  ∀ (t : Nat) (r : PassResult) (s y z : State) (p : Pass) (ws : List Nat), r.eng < s.numEngines →
    s.kpr.passes.find? (fun p => p.eng == r.eng && !p.split) = some p → mapFind s.kpr.stepCfg (s.coreBeat (r.eng / 16)) = none →
    y = (s.at t).chargePasses p.eng 1 (driveSum p.drive) (p.selected && !p.retry) →
    ws = y.wordsOf p (driveSum p.drive) r.ticks → z = y.rangeFailAll p (failedCols ws) →
    (y.engine p.eng).passes = (s.engine p.eng).passes + 1 ∧
    (p.dropped = true → exec (.countWordsReady t r) s = .next ((y.leavePass p).lateSwap r.eng)) ∧
    (p.dropped = false → p.retry = false → (outputs p ws).any (fun o => o.state == .saturated) = true → z.set0 .SAT_RETRY = 1 → p.gain < 3 →
      y.mayPass p.eng p.tier = true →
      exec (.countWordsReady t r) s = .next (((z.inc .SAT_RETRY_COUNT).rePass { p with retry := true, words := ws }).lateSwap r.eng)) ∧
    (p.dropped = false → p.retry = true →
      exec (.countWordsReady t r) s = .next ((z.settle { p with retry := false }
        (mergeWords p.plan p.words ws (outsIn (outputs p p.words) (fun o => o == .saturated)))).lateSwap r.eng)) ∧
    (p.dropped = false → p.retry = false →
      ((outputs p ws).any (fun o => o.state == .saturated) = false ∨ z.set0 .SAT_RETRY ≠ 1 ∨ 3 ≤ p.gain ∨ y.mayPass p.eng p.tier = false) →
      exec (.countWordsReady t r) s = .next ((z.settle p ws).lateSwap r.eng)) ∧
    (p.dropped = false → p.retry = false → (outputs p ws).any (fun o => o.state == .saturated || o.state == .failed) = false → z.set0 .AUDIT_ENABLE = 0 →
      Ends (.countWordsReady t r) s (fun x =>
        x.kpr = { z.kpr with passes := z.kpr.passes.filter (fun q => q.eng != p.eng), done := z.kpr.done ++ [⟨p, ws, outputs p ws, [], []⟩]
                             open_ := if p.half = .h then mapSet z.kpr.open_ p.eng p else z.kpr.open_ }))

/-- Diagnosis and spares (R186, R200–R205, R207, R210, R211, R348). In a quiet window of the core a diagnosis reads a tier, charged as 520 passes, and
keeps its mismatches; the last ends the diagnosis with the action of Table 5.11. A tile that power-up verifies is read in the same form. A spare that
verified holds its column's digits, and in its last tier goes to the shadow banks; one that did not is BAD and another is chosen; its programming's
energy is charged to the beat's budget either way. -/
def Obligations.DiagnosisAndSpares : Prop :=
  (∀ (t eng tier : Nat) (cells : List CellRead) (s z : State) (d d' : Diag) (rest : List Nat), eng < s.numEngines → tier < 4 →
    (s.at t).mayDiagRead eng = true → (∀ n w v x, s.tileAt eng tier = some (n, w, v, x) → x.state ≠ .verify) →
    (s.engine eng).diag = some d → d.toRead = tier :: rest → z = (s.at t).readBack eng tier →
    d' = { d with bad := d.bad ++ (z.mismatchesAt eng tier cells).map (fun x => (tier, x.1, x.2)), toRead := rest, readAt := some s.beat.count } →
    (rest ≠ [] → exec (.diagReadbackDone t eng tier cells) s = .next (z.putEngine eng { z.engine eng with diag := some d' })) ∧
    (rest = [] → exec (.diagReadbackDone t eng tier cells) s = .next ((z.diagEnd eng d'
      ((List.range 4).filter (fun t => ((z.engine eng).tier t).health != .retired))).deEscalate eng))) ∧
  (∀ (t eng tier n : Nat) (w : Which) (v : Version) (x : Tile) (cells : List CellRead) (s : State), eng < s.numEngines → tier < 4 →
    s.pwr.stalled = false → s.tileAt eng tier = some (n, w, v, x) → x.state = .verify →
    exec (.diagReadbackDone t eng tier cells) s = .next (((s.at t).readBack eng tier).verifyTile eng tier cells)) ∧
  (∀ (t eng tier spare energy : Nat) (s u : State) (j : SpareJob), eng < s.numEngines → tier < 4 → spare < 32 → (s.at t).maySpare eng = true →
    (s.engine eng).spares.find? (fun j => j.spare == spare && j.left.contains tier) = some j →
    u = { s.at t with kpr := { s.kpr with energy := s.kpr.energy + energy * 1000000 * 2 ^ 32 } } →
    (∀ (e : EngS) (j' : SpareJob), j' = { j with left := j.left.filter (· != tier) } →
      e = (s.engine eng).putTier tier { (s.engine eng).tier tier with
        spareCols := mapSet ((s.engine eng).tier tier).spareCols spare (s.columnOf eng tier j.column)
        shadowMax := mapSet ((s.engine eng).tier tier).shadowMax (512 + spare) (largestDigit (s.columnOf eng tier j.column)) } →
      ∀ y : State, y = u.putEngine eng { e with spares := e.spares.map (fun k => if k = j then j' else k) } →
      exec (.spareVerified t eng tier spare true energy) s = .next (if j'.left = [] then y.shadowRemap eng j' else y)) ∧
    (∀ (e : EngS), e = (s.engine eng).putTier tier { (s.engine eng).tier tier with
        remap := mapSet ((s.engine eng).tier tier).remap spare ⟨false, false, true, 0⟩ } →
      ∀ y : State, y = u.putEngine eng { e with spares := e.spares.filter (fun k => !decide (k = j)) } →
      exec (.spareVerified t eng tier spare false energy) s = .next
        ((if j.all then y.pathRemap eng j.tier j.column else y.cellRemap eng j.tier j.column).sparesLowAll eng (s.engine eng).sparesFree)))

/-! ### The Keeper (spec/06) -/

/-- Keeper work (R48, R51–R53, R66, R149, R150, R221, R228, R229, R235–R238, R244, R568). Unless the power guard stalls the Keepers, a core that is not
ONLINE refuses its orders, and digital repair, exact-tier and adapter work wait for what has priority on the MAC array. Else: a chunk sum of at most
8,388,607 in magnitude enters its total promoted; an ended total has its value formed from its terms; a narrowed block goes into SRAM, and one with a
non-finite element faults the step; a clean word reads, a double error poisons its word and faults the step that read it, a word written whole is
poisoned no longer; a residue mismatch isolates the core. The eight sub-passes of a split pass are charged to its engine; outputs whose sub-passes hold
leave with their split term at gain 3, those whose sub-passes fail stay as they were and their repair has failed, and the pass leaves its engine.
The model's choices in it: logs 14, 15. -/
def Obligations.KeeperWork : Prop :=
  (∀ (t core : Nat) (s : State), core < s.numCores → s.pwr.stalled = false → mapFind s.kpr.stepCfg (s.coreBeat core) = none →
     (∀ w, s.coreState core ≠ .online → exec (.keeperWorkItem t core w) s = .next { s.at t with out := [.orderRefused (s.uidCore core)] }) ∧
     (s.coreState core = .online →
       (∀ w, s.macFree core w = false → exec (.keeperWorkItem t core w) s = .next (s.at t)) ∧
       (∀ (k : TotalKey) (tier : Nat) (engs : List Nat) (half : PassHalf) (v : Version) (ts : List Tile) (j : Nat) (ds : List PassDone),
         s.chunkAt core k tier engs = some (v, ts, j) →
         ts.all (fun x => (s.halvesOf v x (s.req k.req).kw).contains half && s.partReady core k tier engs half j x) = true →
         ds = ts.filterMap (fun x => s.doneOf x.eng tier k half) →
         ((chunkSum ds j).natAbs ≤ 8388607 → exec (.keeperWorkItem t core (.promote k tier engs half)) s = .next ((s.at t).addTerm k
           (termPlace core tier (lowestEng engs) 0 (halfCode half)) (promote (chunkSum ds j) ((ts.head?.map Tile.plan).getD 1) half
             ((ds.head?.map (fun d => d.pass.ca)).getD (-128)) (chunkCode ts j)))) ∧
         (8388607 < (chunkSum ds j).natAbs →
           exec (.keeperWorkItem t core (.promote k tier engs half)) s = .next ((s.at t).chunkOverflow core k tier engs j))) ∧
       (∀ (k : TotalKey) (z : Total), s.total k = some z → z.value = none →
         Ends (.keeperWorkItem t core (.finish k)) s (fun x =>
           x.total k = some { z with value := some (totalOf z.exact (z.terms.map Prod.snd)).1 } ∧ ∀ j, j ≠ k → x.total j = s.total j)) ∧
       (∀ (req fmt : Nat) (r : FmtRow) (x : List F32), fmtRow fmt = some r → r.scaled = true →
         (∀ n : Narrowed, narrow (s.narrowCfg (s.req req).kw fmt false false) x (List.replicate 32 false) = some n →
           Ends (.keeperWorkItem t core (.narrow req (.keeper fmt) x)) s (fun y =>
             y.kpr = { s.kpr with blocks := s.kpr.blocks ++ [⟨core, req, fmt, unsigned 8 n.code, encodeBlock fmt n.d, outlierPlane n.outs⟩] })) ∧
         (narrow (s.narrowCfg (s.req req).kw fmt false false) x (List.replicate 32 false) = none →
           exec (.keeperWorkItem t core (.narrow req (.keeper fmt) x)) s =
             .next ((((s.at t).incK .FMT_NONFINITE_COUNT (s.req req).kw).raise 0x8401 (s.req req).kw).faultStep req .nonfiniteAct))) ∧
       (∀ (req layer row fmt : Nat) (draft : Bool) (v : Version) (h : ShardHdr) (x : List F32) (n : Narrowed),
         s.servedBy req draft = some v → v.layerHdr layer = some h → h.kind ≠ 3 → fmt = s.driveFormat (some h) (s.req req).kw →
         narrow (s.narrowCfg (s.req req).kw fmt true (s.exactOf v layer).isSome) x (v.digitalRows layer row) = some n →
         Ends (.keeperWorkItem t core (.narrow req (.arrayEdge draft layer row) x)) s (fun y =>
           y.kpr = { s.kpr with blocks := s.kpr.blocks ++ [⟨core, req, fmt, unsigned 8 n.code, encodeBlock fmt n.d, outlierPlane n.outs⟩] })) ∧
       (∀ (req : Nat) (x : List F32), exec (.keeperWorkItem t core (.reduce req x)) s =
         .next { s.at t with kpr := { s.kpr with sums := s.kpr.sums ++ [(req, laneSum x)] } }) ∧
       (∀ (req : Nat) (unit : UnitId) (row addr : Nat), s.reaches core unit addr = true → s.hier.poisoned.contains ⟨unit, addr⟩ = false →
         exec (.keeperWorkItem t core (.sramRead req unit row addr .clean)) s = .next (s.at t) ∧
         Ends (.keeperWorkItem t core (.sramRead req unit row addr .double)) s (fun y =>
           y.hier.poisoned = s.hier.poisoned ++ [⟨unit, addr⟩] ∧ y.count ⟨.SRAM_LAST_ERR_UNIT, 0, 0⟩ = unit ∧
           y.count ⟨.SRAM_LAST_ERR_ADDR, 0, 0⟩ = addr ∧ ((s.req req).batch ≠ none → (s.req req).faulted = false → (y.req req).faulted = true))) ∧
       (∀ (unit : UnitId) (addr : Nat), s.reaches core unit addr = true →
         exec (.keeperWorkItem t core (.sramWrite unit addr)) s = .next { s.at t with hier := { s.hier with
           poisoned := s.hier.poisoned.filter (fun p => !decide (p = ⟨unit, addr⟩)) } }) ∧
       (∀ (req : Nat) (unit : UnitId) (row addr : Nat) (e : EccResult), s.reaches core unit addr = false →
         exec (.keeperWorkItem t core (.sramRead req unit row addr e)) s = .next (s.at t) ∧
         exec (.keeperWorkItem t core (.sramWrite unit addr)) s = .next (s.at t)) ∧
       Ends (.keeperWorkItem t core .residue) s (fun y =>
         y.ownState (s.uidCore core) = (s.ownState (s.uidCore core)).worse .isolated ∧
         mapFind y.evt.quarantine (s.uidCore core) = some ((s.at t).beatMark, true) ∧
         y.evt.mismatches = s.evt.mismatches ++ [(s.uidCore core, (s.at t).opMsNow)]))) ∧
  (∀ (t : Nat) (r : SplitResult) (s y : State) (p : Pass) (ws : List (List Nat)) (bad lost : List Nat), r.eng < s.numEngines →
     s.kpr.passes.find? (fun p => p.eng == r.eng && p.split) = some p → mapFind s.kpr.stepCfg (s.coreBeat (r.eng / 16)) = none →
     y = (List.range 8).foldl (fun s m => s.chargePasses p.eng 1 (driveSum (subDrive p.drive m)) false) (s.at t) → ws = y.subWords p r.ticks →
     bad = outsIn (outputs p p.words) OutState.bad → lost = bad.filter (subBad p ws) →
     (p.dropped = true → exec (.splitRecomputeDone t r) s = .next ((y.leavePass p).lateSwap r.eng)) ∧
     (∀ d : PassDone, p.dropped = false →
       d = ⟨{ p with split := false }, p.words, (outputs p p.words).zipIdx.map (fun x =>
         if bad.contains x.2 && !lost.contains x.2 then ⟨.split, 0, 3, splitTerm p ws x.2⟩ else x.1),
         outsIn (outputs p p.words) (fun o => o == .saturated), bad⟩ →
       exec (.splitRecomputeDone t r) s = .next ((((y.subRange p ws).endPass d).repairFailedAll d.pass lost).lateSwap r.eng) ∧
       (lost = [] → Ends (.splitRecomputeDone t r) s (fun x => x.kpr.done = (y.subRange p ws).kpr.done ++ [d]))))

/-- Tile audit (R253–R255, R570, R571). In the quiet window of a core its oldest capture is judged, each unrepaired output against the exact value of
its aligned digits, and counted. When every output passes the tier's audit is noted; else each failing one is counted, reported and its columns
flagged, the requests that could have used the tier are named, and the core may be isolated.
The model's choices in it: log 17. -/
def Obligations.TileAuditJudges : Prop :=
  ∀ (t core : Nat) (s y : State) (c : Capture) (judged : List (OutNum × Nat)) (bad : List Nat), core < s.numCores → s.quietFor core = true →
    s.pwr.stalled = false → (s.at t).boundaryDue = false →
    s.kpr.captures.find? (fun c => c.core == core) = some c → judged = c.outs.zipIdx.filter (fun x => x.1.state == .ok) →
    bad = (judged.filter (fun x => !auditPass (s.set0 .AUDIT_TOL_TICKS) (s.set0 .AUDIT_TOL_GAIN) c.pass x.1
      (auditExact (s.imageAt c.pass.eng c.pass.tier) c.pass (c.first + x.2)))).map (fun x => c.first + x.2) →
    y = ({ s.at t with kpr := { s.kpr with captures := s.kpr.captures.filter (fun d => !decide (d = c)) } } : State).incK .AUDIT_COUNT c.pass.kw
      judged.length →
    (bad = [] → exec (.tileAudit t core) s = .next (y.putTier c.pass.eng c.pass.tier { (s.engine c.pass.eng).tier c.pass.tier with auditBeat := c.beat })) ∧
    (bad ≠ [] → ∀ z : State, z = (y.auditFails c bad).nameAffectedAll c.pass.eng c.pass.tier c.beat →
      exec (.tileAudit t core) s = .next ((z.putTier c.pass.eng c.pass.tier { (z.engine c.pass.eng).tier c.pass.tier with
        auditFails := (z.beat.count :: ((z.engine c.pass.eng).tier c.pass.tier).auditFails).filter (fun b => z.beat.count < b + 1024) }).coreEscalate core))

/-- Mask operations (R257, Table 6.5), bit by bit: AND, OR, XOR and AND NOT of masks of a length, the count of set bits, whether any and whether every
bit is set, and the lowest set index, 0xFFFF_FFFF when none is. The result is driven out, and nothing else changes. -/
def Obligations.MaskOperations : Prop :=
  (∀ (t len : Nat) (l : List Nat) (s : State), ∃ v : Nat, exec (.maskAnd t len l) s = .next { s.at t with out := [.mask v] } ∧
    ∀ i, v.testBit i = (decide (i < len) && l.all (fun m => m.testBit i))) ∧
  (∀ (t len : Nat) (l : List Nat) (s : State), ∃ v : Nat, exec (.maskOr t len l) s = .next { s.at t with out := [.mask v] } ∧
    ∀ i, v.testBit i = (decide (i < len) && l.any (fun m => m.testBit i))) ∧
  (∀ (t len : Nat) (l : List Nat) (s : State), ∃ v : Nat, exec (.maskXor t len l) s = .next { s.at t with out := [.mask v] } ∧
    ∀ i, v.testBit i = (decide (i < len) && decide ((l.filter (fun m => m.testBit i)).length % 2 = 1))) ∧
  (∀ (t len a b : Nat) (s : State), ∃ v : Nat, exec (.maskAndnot t len a b) s = .next { s.at t with out := [.mask v] } ∧
    ∀ i, v.testBit i = (decide (i < len) && a.testBit i && !b.testBit i)) ∧
  (∀ (t len a : Nat) (s : State),
    exec (.maskPopcnt t len a) s = .next { s.at t with out := [.mask ((List.range len).filter (fun i => a.testBit i)).length] } ∧
    exec (.maskAny t len a) s = .next { s.at t with out := [.mask (if (List.range len).any (fun i => a.testBit i) then 1 else 0)] } ∧
    exec (.maskAll t len a) s = .next { s.at t with out := [.mask (if (List.range len).all (fun i => a.testBit i) then 1 else 0)] } ∧
    exec (.maskFirst t len a) s = .next { s.at t with out := [.mask (((List.range len).find? (fun i => a.testBit i)).getD 0xFFFFFFFF)] })

/-! ### Calibration (spec/07) -/

/-- Stages of a calibration run (R273–R281, R283, R287). A stage that may start begins the run, from a copy of the active trims and with the settings kept
from then, and notes T_q. Its passes are charged as it ends. A ramp stage whose groups all keep a source and whose trim fits updates the shadow; one
with a dead group retires the engine, and one whose trim does not fit discards the run. A coarse and a fine stage write the entries of the columns
that keep their limits and reject the others; a fine stage that fails a whole-run check discards the run. -/
def Obligations.StagesOfACalibration : Prop :=
  (∀ (t eng : Nat) (s : State) (st : Nat) (rest : List Nat) (r0 : CalRun), eng < s.numEngines → (s.at t).stageAllowed eng = true → s.pwr.stalled = false →
    (s.engine eng).run = none →
    r0 = { cls := (s.engine eng).due.getD 0, stages := (s.engine eng).stages, firstBeat := s.beat.count
           settings := calObjs.map (fun o => (⟨o, 0, 0⟩, s.setting ⟨o, 0, 0⟩)) } →
    (s.engine eng).leftStages r0 = st :: rest →
    (s.boot.stepped = true → (s.at t).fits ((s.engine eng).stagePs st (r0.set .CAL_REPEATS)) = true) →
    Does (.calStageStart t eng) s [.now, .out, .eng, .cal, .kpr] (fun x =>
      x.engine eng = { s.engine eng with
        run := some { r0 with stages := rest, running := some st, tqs := [((s.tq eng).map Reading.value).getD 0] }
        shadow := (s.engine eng).active
        lastTier := if st = 0 then (s.engine eng).lastTier else some (stageTier st) })) ∧
  (∀ (t eng : Nat) (x : List (List RampSum)) (s y : State) (r : CalRun) (o : RampOut), eng < s.numEngines → (s.engine eng).stageNow 0 = some r →
    y = (s.at t).chargeStage eng 0 (r.set .CAL_REPEATS) → o = rampResult (y.engine eng).shadow (r.set .CAL_RAMP_FAIL_PCT) x →
    ∀ z : State, z = y.rampEvents eng o.fresh →
    (o.dead = true → exec (.calRampStageDone t eng x) s = .next ((z.raise 0x8702 0xFF (z.uidEngine eng)).retireEngine eng .rampSources)) ∧
    (o.dead = false → (o.new < -128 ∨ 127 < o.new) → exec (.calRampStageDone t eng x) s = .next (z.discardRun eng)) ∧
    (o.dead = false → -128 ≤ o.new → o.new ≤ 127 → exec (.calRampStageDone t eng x) s = .next ((z.putEngine eng { z.engine eng with
      shadow := { (z.engine eng).shadow with rampFailed := o.failed, rampSel := o.sel, rampTrim := o.new } }).endStage eng r))) ∧
  (∀ (t eng tier : Nat) (cs : List ColSum) (s y z : State) (r : CalRun) (res : List (Nat × Option Nat)) (new : Map Nat) (bad : List Nat),
    eng < s.numEngines → tier < 4 → (s.engine eng).stageNow (2 * tier + 1) = some r → y = (s.at t).chargeStage eng (2 * tier + 1) (r.set .CAL_REPEATS) →
    res = (openColumns r tier cs).map (fun c => (c.col, coarseColumn r (mapGet ((y.engine eng).active.trims.getD tier []) c.col 0)
      (mapGet ((y.engine eng).shadow.trims.getD tier []) c.col 0) c)) →
    new = res.foldl (fun (m : Map Nat) x => match x.2 with
      | some w => mapSet m x.1 w
      | none => m) ((y.engine eng).shadow.trims.getD tier []) →
    bad = (res.filter (fun x => x.2.isNone)).map Prod.fst →
    z = (y.putEngine eng { y.engine eng with shadow := { (y.engine eng).shadow with trims := (y.engine eng).shadow.trims.set tier new } }).rejectColumns
      eng tier bad →
    exec (.calCoarseStageDone t eng tier cs) s = .next (if (z.engine eng).run.isNone then z
      else z.endStage eng { r with rejected := r.rejected ++ bad.map (fun c => (tier, c)) })) ∧
  (∀ (t eng tier : Nat) (cs : List ColSum) (s y z : State) (r r' : CalRun) (res : List (Nat × Option Nat)) (new : Map Nat) (bad : List Nat),
    eng < s.numEngines → tier < 4 → (s.engine eng).stageNow (2 * tier + 2) = some r → y = (s.at t).chargeStage eng (2 * tier + 2) (r.set .CAL_REPEATS) →
    res = (openColumns r tier cs).map (fun c => (c.col, fineColumn r c)) →
    new = res.foldl (fun (m : Map Nat) x => match x.2 with
      | some w => mapSet m x.1 w
      | none => m) ((y.engine eng).shadow.resid.getD tier []) →
    bad = (res.filter (fun x => x.2.isNone)).map Prod.fst →
    z = (y.putEngine eng { y.engine eng with shadow := { (y.engine eng).shadow with resid := (y.engine eng).shadow.resid.set tier new } }).rejectColumns
      eng tier bad →
    r' = { r with rejected := r.rejected ++ bad.map (fun c => (tier, c)) } → (z.engine eng).run.isSome = true →
    exec (.calFineStageDone t eng tier cs) s = .next (if z.runFails r' then z.discardRun eng else z.endStage eng r'))

/-- The references, the trim store and the converters (R263, R264, R268, R269, R281, R294–R297). A die whose deviation is above CAL_REF_TOL is halted
and its READY shadows are dropped; the sixteenth good comparison in a row ends the halt. A stand-off that is over lets its engine be due again, a due
record is written over the older one in a quiet window. A converter in self-calibration publishes nothing, its readings
are STALE, and its coefficients change only when offset and gain keep their limits.
The model's choices in it: log 18. -/
def Obligations.ReferencesAndStores : Prop :=
  (∀ (t die : Nat) (dev : Int) (s : State), die < 4 →
    (s.set0 .CAL_REF_TOL < dev.natAbs → Does (.vrefCompare t die dev) s [.now, .out, .evt, .cal, .eng] (fun x =>
      mapFind x.cal.refDev die = some dev ∧ die ∈ x.cal.halted ∧ mapFind x.cal.goodRow die = some 0)) ∧
    (dev.natAbs ≤ s.set0 .CAL_REF_TOL → die ∈ s.cal.halted → Does (.vrefCompare t die dev) s [.now, .out, .cal] (fun x =>
      mapFind x.cal.refDev die = some dev ∧ (die ∈ x.cal.halted ↔ mapGet s.cal.goodRow die 0 + 1 < 16) ∧ ∀ d, d ≠ die → (d ∈ x.cal.halted ↔ d ∈ s.cal.halted))) ∧
    (dev.natAbs ≤ s.set0 .CAL_REF_TOL → die ∉ s.cal.halted →
      exec (.vrefCompare t die dev) s = .next { s.at t with cal := { s.cal with refDev := mapSet s.cal.refDev die dev } })) ∧
  (∀ (t eng : Nat) (s : State), eng < s.numEngines → (s.engine eng).standoff = some 0 →
    exec (.calDiscardStandoffEnd t eng) s = .next (((s.at t).putEngine eng { s.engine eng with standoff := none }).placeDue eng)) ∧
  (∀ (t eng : Nat) (s : State), eng < s.numEngines → (s.engine eng).nvDue = true → s.quietFor (eng / 16) = true →
    (∀ last, (s.engine eng).nvLast = some last → last + s.set0 .CAL_NV_INTERVAL * 1000000000000 ≤ max s.now t) →
    Does (.trimStoreWrite t eng) s [.now, .out, .eng] (fun x =>
      (x.engine eng).newest = some ⟨(((s.engine eng).newest.map NvRec.seq).getD 0) + 1, (s.engine eng).active, (s.engine eng).tiers.map (fun y => y.trimmed)⟩ ∧
      (x.engine eng).nvWrites = (s.engine eng).nvWrites + 1 ∧ (x.engine eng).nvLast = some (max s.now t) ∧ (x.engine eng).nvDue = false)) ∧
  (∀ (t conv : Nat) (s : State), conv < 2 → s.sense.selfBusy = none → (s.at t).selfDue conv = true → (List.range 40).any s.fastNow = false →
    exec (.senseSelfcalStart t conv) s = .next { s.at t with sense := { s.sense with
      selfBusy := some conv
      readings := s.sense.readings.map (fun x => if s.convOf x.1 == conv then (x.1, { x.2 with stale := true }) else x) } }) ∧
  (∀ (t conv : Nat) (offset gain : Int) (s : State), conv < 2 → s.sense.selfBusy = some conv →
    Does (.senseSelfcalDone t conv offset gain) s [.now, .out, .evt, .sense] (fun x =>
      x.sense.selfBusy = none ∧ mapFind x.sense.selfLast conv = some (max s.now t) ∧ conv ∉ x.sense.selfWant ∧
      (offset.natAbs ≤ 64 → gain.natAbs ≤ 10000 → mapFind x.sense.coefs conv = some (offset, gain)) ∧
      (64 < offset.natAbs ∨ 10000 < gain.natAbs → x.sense.coefs = s.sense.coefs)))

/-! ### Model slots (spec/08) -/

/-- The put registers and the request ring (R312–R314). A write of PUT_CTRL without VALID only sets the registers; with VALID it queues a put of a shard
that the function's slot has asked for, while fewer than 64 stand, and any other put only sets UNREQUESTED; a read of PUT_STATUS answers the free
places and UNREQUESTED, and clears it. RING_CONS makes room, and the oldest entry that waits is written to its ring slot and signalled. A function
that is not there or whose keyway is removed changes nothing. -/
def Obligations.PutsAndTheRequestRing : Prop :=
  ∀ (t fn : Nat) (s : State), fn < 64 →
    (∀ lo hi len ctrl, (s.fnHere fn = false ∨ s.kwClosing fn = true) →
      exec (.shardPut t fn lo hi len ctrl) s = .next (s.at t) ∧ exec (.ringCons t fn ctrl) s = .next (s.at t)) ∧
    (∀ (lo hi len ctrl : Nat) (r : RingS), s.fnHere fn = true → s.kwClosing fn = false →
      r = { s.ring fn with addrLo := lo / 64 * 64, addrHi := hi, len := len } →
      (ctrl.testBit 31 = false → exec (.shardPut t fn lo hi len ctrl) s = .next ((s.at t).putRing fn r)) ∧
      (ctrl.testBit 31 = true → ((s.slot (bits ctrl 16 4)).owner = fn ∧ s.setI .SLOT_SOURCE (bits ctrl 16 4) = 0xFFFF ∧
          ((s.slot (bits ctrl 16 4)).outstanding (ctrl % 65536)).isSome = true) → (s.ring fn).puts.length < 64 →
        Does (.shardPut t fn lo hi len ctrl) s [.now, .out, .slots] (fun x => ∃ g : Option Nat,
          x.ring fn = { r with puts := (s.ring fn).puts ++ [{ slot := bits ctrl 16 4, index := ctrl % 65536, addr := hi * 2 ^ 32 + lo / 64 * 64, len, gen := g }] } ∧
          (s.namedSlot .DMA_KEY_SLOT fn = none → g = none) ∧
          (∀ k, s.namedSlot .DMA_KEY_SLOT fn = some k → g = if s.keyActive k fn 0 then some (s.keySlot k).gen else none))) ∧
      (ctrl.testBit 31 = true → ((s.slot (bits ctrl 16 4)).owner ≠ fn ∨ s.setI .SLOT_SOURCE (bits ctrl 16 4) ≠ 0xFFFF ∨
          ((s.slot (bits ctrl 16 4)).outstanding (ctrl % 65536)).isSome = false ∨ 64 ≤ (s.ring fn).puts.length) →
        exec (.shardPut t fn lo hi len ctrl) s = .next ((s.at t).putRing fn { r with unrequested := true }))) ∧
    exec (.putStatusRead t fn) s = .next { (s.at t).putRing fn { s.ring fn with unrequested := false } with
      out := [.reg ((64 - (s.ring fn).puts.length) + (if (s.ring fn).unrequested then 256 else 0))] } ∧
    (∀ (v : Nat) (r : RingS), s.fnHere fn = true → s.kwClosing fn = false → r = { s.ring fn with cons := v % 65536 } →
      (r.waiting = [] → exec (.ringCons t fn v) s = .next ((s.at t).putRing fn r)) ∧
      (∀ slot index version attempt : Nat, r.waiting = [(slot, 0x80, index, version, attempt)] → s.kwDma fn = true →
        r.unconsumed (s.setK .REQ_RING_LEN fn) < s.setK .REQ_RING_LEN fn →
        exec (.ringCons t fn v) s = .next { (s.at t).putRing fn { r with written := r.written + 1, waiting := [] } with
          hostMem := memWrite s.hostMem (s.setK .REQ_RING_ADDR fn + 16 * (r.written % s.setK .REQ_RING_LEN fn))
            (ringSlotBytes r.written (s.setK .REQ_RING_LEN fn) slot 0x80 index version attempt)
          out := [.dma fn true (s.setK .REQ_RING_ADDR fn + 16 * (r.written % s.setK .REQ_RING_LEN fn)) 16, .msix fn (s.setK .REQ_RING_VECTOR fn)] }))

/-- What comes of a put and of its absence (R54, R315–R319, R492, R513, R514, spec/12 Table 12.7). Once the slot's Hasp core is live, the oldest put's bytes are
read by DMA, opened where they were put sealed, and checked against the manifest: a shard that passes is accepted, one that fails is reported with its
attempt and asked for again with the reason of the check, or the load fails once 1 + SHARD_RETRY_MAX attempts have; an exact-join shard off its grid
fails its load with code 7. A request with no put within SHARD_TIMEOUT beats is made again with REASON 4, or fails its load with code 6.
The model's choices in it: logs 5, 26, 61. -/
def Obligations.ShardsArriveOrAreLate : Prop :=
  (∀ (t fn : Nat) (buf : Option Bytes) (s y : State) (p : Put) (rest : List Put) (w : Which) (v : Version) (q : ShardReq) (h : ShardHdr) (exact : Bool),
    fn < 64 → (s.ring fn).puts = p :: rest → s.slotOwnerLive p.slot = true → s.kwClosing fn = false → s.kwDma fn = true →
    (s.slot p.slot).outstanding p.index = some (w, v, q, h) → exact = decide (h.kind ≤ 2 ∧ (h.exactJoin = true ∨ s.set0 .JOIN_MODE_DEFAULT = 1)) →
    y = ((s.at t).putRing fn { s.ring fn with puts := rest }).emit (.dma fn false p.addr p.len) →
    (p.gen = none →
      (∀ pay, shardCheck exact h buf p.len = .ok pay → exec (.shardArrival t fn buf) s = .next (y.acceptShard p.slot w v h pay)) ∧
      (∀ reason, shardCheck exact h buf p.len = .bad reason → exec (.shardArrival t fn buf) s =
        .next ((y.raise 0x4801 (s.slot p.slot).owner 0 p.slot h.index (reason + 256 * q.attempt)).retryReq p.slot v q reason)) ∧
      (shardCheck exact h buf p.len = .code7 → (s.slot p.slot).phase ≠ .none → exec (.shardArrival t fn buf) s = .next (y.loadFail p.slot 7)) ∧
      (shardCheck exact h buf p.len = .code7 → (s.slot p.slot).phase = .none →
        exec (.shardArrival t fn buf) s = .next (y.retryReq p.slot v q 3))) ∧
    (∀ (g k : Nat) (key b : Bytes), p.gen = some g → s.namedSlot .DMA_KEY_SLOT fn = some k → (s.keySlot k).keyOf g = some key → buf = some b →
      p.len = 160 + h.payLen → b.length = p.len →
      (∀ x : Bytes, openSealed key fn 1 b = some x → exec (.shardArrival t fn buf) s = .next (y.shardArrived p.slot w v q h (some x) x.length)) ∧
      (openSealed key fn 1 b = none →
        exec (.shardArrival t fn buf) s = .next ((y.sealedFail fn).shardArrived p.slot w v q h none 0)))) ∧
  (∀ (t fn : Nat) (buf : Option Bytes) (s y : State) (p : Put) (rest : List Put), fn < 64 → (s.ring fn).puts = p :: rest →
    y = (s.at t).putRing fn { s.ring fn with puts := rest } →
    (s.slotOwnerLive p.slot = false → exec (.shardArrival t fn buf) s = .next (s.at t)) ∧
    (s.slotOwnerLive p.slot = true → (s.kwClosing fn = true ∨ s.kwDma fn = false) → exec (.shardArrival t fn buf) s = .next y) ∧
    (s.slotOwnerLive p.slot = true → s.kwClosing fn = false → s.kwDma fn = true → (s.slot p.slot).outstanding p.index = none →
      exec (.shardArrival t fn buf) s = .next (y.emit (.dma fn false p.addr p.len)))) ∧
  (∀ (t slot index : Nat) (s y : State) (w : Which) (v : Version) (q : ShardReq) (h : ShardHdr), slot < 16 →
    (s.slot slot).outstanding index = some (w, v, q, h) → (s.at t).shardLate q = true → s.slotOwnerLive slot = true →
    (∀ p, p ∈ (s.ring (s.slot slot).owner).puts → p.slot ≠ slot ∨ p.index ≠ index) →
    y = (s.at t).putSlot slot { s.slot slot with retries := (s.slot slot).retries + 1 } →
    (q.attempt ≤ s.set0 .SHARD_RETRY_MAX → ∀ r : ShardReq, r = { q with reason := 4, attempt := q.attempt + 1, issued := true, beat := none } →
      exec (.shardTimeout t slot index) s = .next ((y.mapReq slot v.number q.index (fun _ => r)).issueReq slot v r)) ∧
    (s.set0 .SHARD_RETRY_MAX < q.attempt → (s.slot slot).phase ≠ .none → exec (.shardTimeout t slot index) s = .next (y.loadFail slot 6)))

/-- ADAPTER_LOAD (R320, R492, R497, R513, R514, Table 8.2). Where DMA is permitted the buffer is read; opened first where the keyway's DMA key slot is
ACTIVE, an adapter shard of the stated length whose own header, digest and blocks are right is written at its keyway addresses, where the map and the
memory allow, with its standby records. A buffer that DMA cannot read in full, that does not open or that is no such shard is answered with the refusal of a
command, and nothing is written.
The model's choices in it: logs 5, 16. -/
def Obligations.AdaptersAreLoaded : Prop :=
  ∀ (t : Nat) (p : GdpPath) (h : ReqHead) (payload r : Bytes) (buf : Option Bytes) (s u y : State) (x : Session) (w : RowWrite) (k : OKey) (kw : Nat)
    (key : Option Bytes),
    w = .record t .ADAPTER_LOAD p h payload buf → Served w s u x k → kw = (w.asker u x).kw → r = ovBytes (w.taken u k) →
    y = u.emit (.dma kw false (leAt r 8 8) (leAt r 16 4)) →
    key = (match u.namedSlot .DMA_KEY_SLOT kw with
      | some n => if u.keyActive n kw 0 then some (u.keySlot n).key else none
      | none => none) →
    ((u.kwClosing kw = true ∨ u.kwDma kw = false) →
      exec (.adapterLoad t p h payload buf) s = .next (u.replied p w.req { status := 0x10, detail := 4 })) ∧
    (u.kwClosing kw = false → u.kwDma kw = true →
      (∀ (b pl : Bytes) (z : State), buf = some b → b.length = leAt r 16 4 →
        (match key with | none => pl = b | some c => openSealed c kw 3 b = some pl) → adapterShardOk pl = true →
        y.fillKw kw (leAt r 24 8) (pl.drop 128) = some z →
        exec (.adapterLoad t p h payload buf) s = .next (w.answered u
          (z.noteAdapters kw ((z.adapterEntries kw).filter (fun d => leAt d 0 2 == leAt r 0 2))) x k)) ∧
      ((buf = none ∨ ∃ b, buf = some b ∧ (b.length ≠ leAt r 16 4 ∨ (key = none ∧ adapterShardOk b = false))) →
        exec (.adapterLoad t p h payload buf) s = .next (y.replied p w.req { status := 0x10, detail := 4 })) ∧
      (∀ (b c : Bytes), buf = some b → b.length = leAt r 16 4 → key = some c → openSealed c kw 3 b = none →
        exec (.adapterLoad t p h payload buf) s = .next ((y.sealedFail kw).replied p w.req { status := 0x10, detail := 4 }))) ∧
    (∀ (b : Bytes) (z : State) (a i : Nat), u.fillKw kw a b = some z → memWf (u.kwCells kw) = true →
      memByte (z.kwCells kw) i = (if a ≤ i ∧ i < a + b.length then b.getD (i - a) 0 else memByte (u.kwCells kw) i) ∧
      a + b.length ≤ u.setK .QUOTA_MEM_PAGES kw * 2097152 ∧ ∀ j, j ≠ kw → z.kwCells j = u.kwCells j)

/-- Tier programs (R209, R324–R328, R343, Table 7.7). One starts when the tile waits with its image, the engine is ONLINE and free, no READY run stands and power
permits: a calibration run in progress is abandoned, the tier's cells go to level 0, its program count rises, its trim is lost, and it is WORN at 10,000; a
tile that waits on a tier which takes no more programs is placed again. At its end the tier holds the image, columns outside their window have gone to
spares and the tier is read back: cells that read back as programmed leave the tile waiting for a calibration, which is due at once; cells that do not
are programmed once more, and after that the tier is SUSPECT and the tile is placed again. A placed tier not read back within SCRUB_INTERVAL hours of
operation is counted in SCRUB_OVERDUE and reported by event 0x4804, once. -/
def Obligations.TierPrograms : Prop :=
  (∀ (t eng tier n : Nat) (w : Which) (v : Version) (z : Tile) (s : State), eng < s.numEngines → tier < 4 → s.mayProgram eng tier = true →
     s.waitsElsewhere eng tier = false → s.pwr.stalled = false → s.tileAt eng tier = some (n, w, v, z) → s.count ⟨.PROG_TIERS_COUNT, 0, 0⟩ + 1 < 2 ^ 64 →
     ∀ r : TierS, r = { (s.engine eng).tier tier with
       weights := [], refs := false, spareCols := []
       programs := ((s.engine eng).tier tier).programs + 1, trimmed := false
       health := if 10000 ≤ ((s.engine eng).tier tier).programs + 1 ∧ ((s.engine eng).tier tier).health = .good then .worn
                 else ((s.engine eng).tier tier).health } →
     Does (.tierProgramStart t eng tier) s [.now, .out, .eng, .slots, .cnt, .evt] (fun x =>
       x.slots.programs = s.slots.programs ++ [⟨eng, tier, n, v.number, false⟩] ∧
       x.engine eng = { ({ s.engine eng with run := none, shadow := (s.engine eng).active } : EngS).putTier tier r with
         healthAt := if r.health = ((s.engine eng).tier tier).health then (s.engine eng).healthAt else (s.at t).notchTime } ∧
       (∀ e, e ≠ eng → x.engine e = s.engine e) ∧
       x.count ⟨.PROG_TIERS_COUNT, 0, 0⟩ = s.count ⟨.PROG_TIERS_COUNT, 0, 0⟩ + 1)) ∧
  (∀ (t eng tier : Nat) (w : Which) (v : Version) (z : Tile) (s : State), eng < s.numEngines → tier < 4 → s.waitsElsewhere eng tier = true →
     exec (.tierProgramStart t eng tier) s = .next ((s.at t).tileAgain eng tier)) ∧
  (∀ (t eng tier n energy : Nat) (bad bs refs : List Nat) (cells : List CellRead) (w : Which) (v : Version) (z : Tile)
     (s u y q : State), eng < s.numEngines → tier < 4 → (∃ p, p ∈ s.slots.programs ∧ p.eng = eng ∧ p.tier = tier) →
     u = { s.at t with slots := { s.slots with programs := s.slots.programs.filter (fun p => !(p.eng == eng && p.tier == tier)) }
                       kpr := { s.kpr with energy := s.kpr.energy + energy * 1000000 * 2 ^ 32 } } →
     u.tileAt eng tier = some (n, w, v, z) →
     y = (u.putTier eng tier (((s.engine eng).tier tier).programmed z.image bs)).progRemaps eng tier bs (((s.engine eng).tier tier).badColumns (bad ++ refs) bs) →
     q = y.programRead eng tier →
     ((((y.engine eng).tier tier).retiring = true ∨ ((y.engine eng).tier tier).health = .retired) →
       exec (.tierProgramDone t eng tier bad bs refs cells energy) s = .next (y.tileAgain eng tier)) ∧
     (((y.engine eng).tier tier).retiring = false → ((y.engine eng).tier tier).health ≠ .retired →
       (readsTrue z.image cells = true →
         exec (.tierProgramDone t eng tier bad bs refs cells energy) s = .next
           ((q.mapTile eng tier (fun t => { t with state := .awaitCal, tries := 0 })).putEngine eng { (q.engine eng) with
             due := some 0, dueSince := if (q.engine eng).due = some 0 then (q.engine eng).dueSince else q.now, standoff := none })) ∧
       (readsTrue z.image cells = false →
         (z.tries = 0 → exec (.tierProgramDone t eng tier bad bs refs cells energy) s = .next
           (q.mapTile eng tier (fun t => { t with state := .waiting, tries := 1 }))) ∧
         (z.tries ≠ 0 → exec (.tierProgramDone t eng tier bad bs refs cells energy) s = .next
           (((q.changeTier eng tier { (q.engine eng).tier tier with health := .suspect }).mapTile eng tier (fun t => { t with state := .waiting })).tileAgain
             eng tier))))) ∧
  (∀ (t eng tier n : Nat) (w : Which) (v : Version) (z : Tile) (s : State), eng < s.numEngines → tier < 4 → s.tileAt eng tier = some (n, w, v, z) →
    (((s.engine eng).tier tier).overdue = false → ((s.engine eng).tier tier).scrubHour + s.set0 .SCRUB_INTERVAL ≤ (s.at t).opHours →
      exec (.scrubOverdue t eng tier) s = .next ((((s.at t).putTier eng tier { (s.engine eng).tier tier with overdue := true }).inc .SCRUB_OVERDUE).raise
        0x4804 (s.slot n).owner (s.uidTier eng tier) ((s.at t).opHours - ((s.engine eng).tier tier).scrubHour) n)) ∧
    ((((s.engine eng).tier tier).overdue = true ∨ (s.at t).opHours < ((s.engine eng).tier tier).scrubHour + s.set0 .SCRUB_INTERVAL) →
      exec (.scrubOverdue t eng tier) s = .next (s.at t)))

/-- Scrub (R335, R342, R344, R345). A replacement that found no place is tried again after 256 beats. The tier that its core's scrub reads next is noted with
its hour and counted, and its mismatches are counted, reported and flagged; one whose image failed its digest takes the two-way test. An image whose digest
(SHA-384, log 5) fails is under R333 from the next boundary, and its bytes are those found; a digital shard whose digest fails is asked for again, and a
layer's shard is bad until then. -/
def Obligations.ScrubAndDigests : Prop :=
  (∀ (t slot chunk b : Nat) (v : Version) (s : State), slot < 16 → s.slotOwnerLive slot = true → (s.slot slot).cur = some v → mapFind v.retry chunk = some b →
    b + 256 ≤ s.beat.count → exec (.replaceRetry t slot chunk) s = .next ((s.at t).replaceChunk slot .cur v chunk)) ∧
  (∀ (t eng tier n : Nat) (cells : List CellRead) (w : Which) (v : Version) (z : Tile) (s q y : State), eng < s.numEngines → tier < 4 →
    s.tileAt eng tier = some (n, w, v, z) → (s.at t).scrubNext eng tier = true → q = (s.at t).readBack eng tier →
    y = (q.putTier eng tier { (q.engine eng).tier tier with
      scrubHour := q.opHours, overdue := false, scrubAt := q.notchClock, scrubIn := some s.beat.count }).inc .SCRUB_TIERS_COUNT →
    ((z.imageBad = true ∨ z.badNext = true) → exec (.scrubReadback t eng tier cells) s = .next (y.twoWay eng tier n w z cells)) ∧
    (z.imageBad = false → z.badNext = false → ∀ m : List (Nat × Nat), m = ((q.engine eng).tier tier).mismatches z.image cells →
      (m = [] → exec (.scrubReadback t eng tier cells) s = .next y) ∧
      (m ≠ [] → ∀ cols : List Nat, cols = (m.map Prod.snd).eraseDups →
        exec (.scrubReadback t eng tier cells) s = .next (((y.inc .SCRUB_MISMATCH_COUNT m.length).raise 0x4802 (s.slot n).owner (s.uidTier eng tier) m.length
          (cols.foldl min (cols.headD 0)) (if m.all (fun p => p.1 ≥ 512) then 0xFF else n)).flagColumns eng tier cols)))) ∧
  (∀ (t eng tier n : Nat) (flips : List (Nat × Byte)) (w : Which) (v : Version) (z : Tile) (s : State), eng < s.numEngines → tier < 4 →
    s.tileAt eng tier = some (n, w, v, z) →
    (sha384 (applyFlips z.image flips) = z.digest → exec (.imageDigestCheck t eng tier flips) s = .next (s.at t)) ∧
    (sha384 (applyFlips z.image flips) ≠ z.digest → exec (.imageDigestCheck t eng tier flips) s = .next
      ((s.at t).mapTile eng tier (fun y => { y with image := applyFlips z.image flips, badNext := true })))) ∧
  (∀ (t slot index : Nat) (flips : List (Nat × Byte)) (v : Version) (p : Nat × Bytes) (h : ShardHdr) (s y : State), slot < 16 →
    (s.slot slot).cur = some v → v.held.find? (fun p => p.1 == index) = some p → v.shards.find? (fun h => h.index == index) = some h →
    v.badHeld.contains index = false →
    (shardDigest h.bytes (applyFlips p.2 flips) = hdrDigest h.bytes → exec (.digitalDigestCheck t slot index flips) s = .next (s.at t)) ∧
    (shardDigest h.bytes (applyFlips p.2 flips) ≠ hdrDigest h.bytes → h.kind = 2 →
      y = (s.at t).putSlot slot { s.slot slot with cur := some { v.ask index 7 with held := (v.ask index 7).held.filter (fun q => q.1 != index) } } →
      exec (.digitalDigestCheck t slot index flips) s = .next ((y.raise 0x8803 (s.slot slot).owner 0 slot v.number index).issueSlot slot)) ∧
    (shardDigest h.bytes (applyFlips p.2 flips) ≠ hdrDigest h.bytes → h.kind = 3 →
      y = (s.at t).putSlot slot { s.slot slot with cur := some { v.ask index 7 with
        held := (v.ask index 7).held.map (fun q => if q.1 == index then (index, applyFlips p.2 flips) else q)
        badHeld := (v.ask index 7).badHeld ++ [index] } } →
      exec (.digitalDigestCheck t slot index flips) s = .next (((y.raise 0x8803 (s.slot slot).owner 0 slot v.number index).faultAll .layerLost
        ((y.raise 0x8803 (s.slot slot).owner 0 slot v.number index).inStep (fun r => r.slot == slot && r.version == v.number))).issueSlot slot)))

/-! ### Attention and the KV cache (spec/09) -/

/-- A lane task (R66, R356, R357, R369–R371, R391, R397, R398). A cluster whose attention engine is not ONLINE refuses it; a sequence not in use, or a
task that is not one of its step (a cluster off its home die, a lane it lacks, a position past the step's), does nothing. Else the task takes a walk epoch, writes the step's keys and values, and computes its rows: the positions the row sees, in
one pass, finished in the layer's format, under the settings and the root of its step, where that has run on past its beat. A ring sequence then begins its prefill round or sends its queries. LANE_TASK_DONE releases the epoch.
The model's choices in it: log 7. -/
def Obligations.LaneTasks : Prop :=
  (∀ (t : Nat) (w : LaneWork) (s : State), w.cluster < 64 → w.seq < 32768 → s.pwr.stalled = false →
    (s.attnState w.cluster ≠ .online → exec (.laneTask t w) s = .next { s.at t with out := [.orderRefused (uidAttn w.cluster)] }) ∧
    (s.attnState w.cluster = .online → ((s.seqAt w.seq).state ≠ 1 ∨ s.laneFits w = false) → exec (.laneTask t w) s = .next (s.at t)) ∧
    (s.attnState w.cluster = .online → (s.seqAt w.seq).state = 1 → s.laneFits w = true →
      ∀ (beat : Nat) (cfg : List (OKey × OVal)) (back : State → State), beat = s.stepOf (s.seqAt w.seq) →
        ((mapFind s.kpr.stepCfg beat = none ∧ cfg = s.cfg ∧ back = id) ∨
          (∃ l, mapFind s.kpr.stepCfg beat = some l ∧ cfg = l ++ s.cfg.filter (fun x => !isStepSetting x.1) ∧ back = fun x => { x with cfg := s.cfg })) →
      ∀ (q : SeqS) (y z : State), q = s.stepSeq w.seq →
        y = { s.at t with cfg := cfg
                          kv := { s.kv with epochs := s.kv.epochs ++ [(beat, .lane w.seq w.lane)]
                                            laneUse := s.kv.laneUse ++ [(w.cluster, (s.seqAt w.seq).req)] } } →
        y.writeAll w.seq w.lane w.cluster q w.first (w.keys.zip w.vals) = (z, true) →
        ∀ r : State, r = z.rows w.seq w.lane w.cluster q 0 w.rows →
          (((r.seqAt w.seq).ring = false ∨ (r.seqAt w.seq).state ≠ 1 ∨ (r.req (r.seqAt w.seq).req).batch = none) →
            exec (.laneTask t w) s = .next (back r)) ∧
          ((r.seqAt w.seq).ring = true → (r.seqAt w.seq).state = 1 →
            (∀ n, (r.req (r.seqAt w.seq).req).batch = some (.prefill n) → exec (.laneTask t w) s = .next (back (r.beginPrefill w (r.seqAt w.seq)))) ∧
            (∀ l, (r.req (r.seqAt w.seq).req).batch = some (.decode l) → exec (.laneTask t w) s = .next (back (r.beginDecode w (r.seqAt w.seq))))))) ∧
  (∀ (i n cluster k : Nat) (q : SeqS) (r : QRow) (s : State) (l : Lane) (a : RowAcc), l = q.lane n → q.ring = false →
    rowPartial l r (s.kv.look q l n) (l.visible q.full r) (RowAcc.start (32 * l.dims)) = .ok a →
    (s.rows i n cluster q k [r]).kv.outputs = s.kv.outputs.filter (fun x => !(x.1 == i && x.2.1 == n && x.2.2.1 == k)) ++ [(i, n, k, l.outBytes a.finish)]) ∧
  (∀ (l : Lane) (r : QRow) (p : Nat), p ∈ l.visible false r ↔ p ≤ r.pos ∧
    (r.head ∈ l.full ∨ l.window = 0 ∨ r.pos < p + l.window ∨ p ∈ l.globals ∨ p = r.pos)) ∧
  (∀ (t seq lane b : Nat) (rest : List (Nat × EpochBy)) (s : State), seq < 32768 → s.kv.epochs = (b, .lane seq lane) :: rest →
    exec (.laneTaskDone t seq lane) s = .next { s.at t with kv := { s.kv with epochs := rest } })

/-- Sealing and the next-step root (R361, R381, R385, R389, R394). A page of a sequence in use whose slots all hold committed positions is sealed; with
PREFIX_ENABLE 0 nothing else happens. The root of the next step adds the pages and copies that its positions need beyond the current one, from fresh
memory of its home die and in the formats of its lanes as they now are; with nothing to add there is no new root, and where memory, after evicting, does not allow it, the sequence is marked, counted and
reported.
The model's choices in it: logs 20, 27. -/
def Obligations.PagesAndRoots : Prop :=
  (∀ (t seq : Nat) (s : State), seq < 32768 → (s.seqAt seq).state = 1 →
    exec (.pageSeal t seq) s = .next ((List.range ((s.seqAt seq).localLen (s.seqAt seq).length / (s.seqAt seq).per)).foldl
      (fun x p => x.sealPage seq p) (s.at t))) ∧
  (∀ (i p lane h : Nat) (e : Pte) (s : State), s.setK .PREFIX_ENABLE (s.seqAt i).kw = 0 → lane < (s.seqAt i).lanes.length →
    s.kv.pteAt (s.seqAt i) (s.seqAt i).cur lane p = some e → h = e.page →
    ((s.sealPage i p).page h).sealed = true ∧
    ((s.page h).sealed = false → (s.sealPage i p).page h = { s.page h with sealed := true, sealTime := s.notchTime })) ∧
  (∀ (t seq write upto : Nat) (lm : Nat × Nat) (s : State) (q : SeqS) (plan : List Plan), seq < 32768 → q = s.freshLanes (s.seqAt seq) → q.state = 1 → q.next = 0 →
    (q.req = 0xFFFF ∨ (s.req q.req).active = true) →
    lm = (match (if q.req = 0xFFFF then none else (s.req q.req).batch) with
      | some (.decode l) => if (s.req q.req).sampled then (0, 0) else (1, l + 1)
      | some (.prefill n) => if (s.req q.req).sampled then (0, 0) else (n, n)
      | none => (0, 0)) →
    write = q.localLen (q.length + lm.1) → upto = min maxLocal (q.localLen (q.length + lm.2) + 9) → plan = s.nextPlan q write upto →
    (plan = [] → exec (.nextRootBuild t seq) s = .next ((s.at t).putSeq seq { q with noPage := false, reserved := max q.reserved upto })) ∧
    (plan ≠ [] → ∀ y : State, y = (s.at t).evictFor q (s.planMem q (s.kv.leavesOf q.cur) q.cur plan) →
      s.kvFits q (s.planMem q (s.kv.leavesOf q.cur) q.cur plan) = false →
      y.kvFits q (s.planMem q (s.kv.leavesOf q.cur) q.cur plan) = false →
      exec (.nextRootBuild t seq) s = .next (((y.putSeq seq { q with noPage := true }).incK .KV_NO_PAGE_COUNT q.kw).raise 0x4901 q.kw 0 seq
        plan.length (y.quotaFree q.kw))) ∧
    (plan ≠ [] → s.kvFits q (s.planMem q (s.kv.leavesOf q.cur) q.cur plan) = true →
      Ends (.nextRootBuild t seq) s (fun x =>
        x.seqAt seq = { q with next := s.kv.nextAddr, nextTo := max q.reserved upto, noPage := false } ∧ ∀ i, i ≠ seq → x.seqAt i = s.seqAt i)))

/-- A ring sequence's rounds (R397, R399, R400, Table 9.8). A lane whose next set is here adds its partials, and sends the set on but for the last
round, after which the rows are merged; without that set nothing happens. A round that lasts RING_ROUND_TIMEOUT notches is reported, the sequence's
ring step is dropped, and the request's step is faulted.
The model's choices in it: log 19. -/
def Obligations.RingRounds : Prop :=
  (∀ (t seq : Nat) (s : State), seq < 32768 →
    exec (.ringRound t seq) s = .next ((s.kv.rounds.filter (fun z => z.seq == seq)).foldl State.nextRound (s.at t))) ∧
  (∀ (s : State) (y : RingRound) (q : SeqS), q = s.seqAt y.seq →
    (y.sets.find? (fun x => x.origin == q.originOf (y.round + 1)) = none → s.nextRound y = s) ∧
    (∀ (x : RingSet) (z : State) (r : RingRound), y.begun = true → y.decode = false → y.round + 1 < q.ringSize →
      q.state = 1 → y.sets.find? (fun x => x.origin == q.originOf (y.round + 1)) = some x → z = s.setRows y x 0 y.rows →
      (z.seqAt y.seq).state = 1 → r = { y with round := y.round + 1, since := z.notchClock } →
      (y.round + 2 < q.ringSize → s.nextRound y = (z.putRound r).sendSet q y.seq y.lane x.origin (y.round + 2) ((z.putRound r).stepTop q) x.pages) ∧
      (q.ringSize ≤ y.round + 2 → s.nextRound y = (z.putRound r).finishRing r))) ∧
  (∀ (t seq : Nat) (s : State) (y : RingRound) (q : SeqS), seq < 32768 → q = s.seqAt seq →
    s.kv.rounds.find? (fun y => y.seq == seq && y.begun && (s.at t).notchesPast y.since (s.setK .RING_ROUND_TIMEOUT q.kw)) = some y →
    exec (.ringRoundTimeout t seq) s = .next ((((s.at t).raise 0x8902 q.kw (uidAttn y.cluster) seq
      (q.ringId + 65536 * (s.awaited y).2 + 16777216 * (s.awaited y).1) (q.lane y.lane).layer).dropRing seq).faultStep q.req .ringTimeout))

/-- An attention map (R373–R375, R103, R106): ATTN_MAP, a closed block sequence of its slot, waits for the boundary range-checked field by field, its
clamps reported. There it stands for the version it names, if the slot has that version; else event 0x4905 is raised and no map changes. -/
def Obligations.AttentionMaps : Prop :=
  (∀ (t n : Nat) (p : GdpPath) (h : ReqHead) (payload f : Bytes) (s u z : State) (x : Session) (k : OKey) (q : GReq) (v : OVal × List Clamp),
    n < 16 → pathOk p = true →
    f = gdpFrame 4 h.session h.seq (keyIndex ⟨.ATTN_MAP, n, 0⟩) (keySub ⟨.ATTN_MAP, n, 0⟩) 0 (h.detail % 256 / 2 * 2 + 1) h.target [] →
    q = { reqOf p f with whole := some payload } → u = (s.at t).taking p f → (s.at t).answersOn p = true → u.stands q x = true →
    u.lookup (u.ctxOf q x) q.index q.sub = some k → k.obj = .ATTN_MAP →
    z = { u with gdp := { u.gdp with blocks := u.gdp.blocks.filter (fun b => !q.mine (settingKey k) b) } } →
    v = z.rangeCheck (settingKey k) (.blob (joinSegs .ATTN_MAP [(0, payload)])) →
    exec (.attnMap t p h n payload) s = .next (((z.queueWrite (settingKey k) v.1).clamped (u.ctxOf q x) k v.2).replied p q
      { acceptedAnswer .ATTN_MAP false v with payload := [] })) ∧
  (∀ (n v : Nat) (b : Bytes) (s : State), v = leAt b 0 4 →
    ((∃ w c, (n, w, c) ∈ s.versions ∧ c.number = v) →
      (s.putMap n b).mapOf n v = some b ∧ ∀ m, m ≠ v → (s.putMap n b).mapOf n m = s.mapOf n m) ∧
    ((∀ w c, (n, w, c) ∈ s.versions → c.number ≠ v) → s.putMap n b = s.raise 0x4905 (s.slot n).owner 0 n v))

/-! ### Serving (spec/10) -/

/-- The serving registers (R403, R404, R416, R430, R434). SUBMIT_TAIL is stored with what the host wrote before it, and SERVE_STATUS answers and clears
its flags, for a function that is there and not being removed. A cancellation of an active entry of the function is recorded at its notch time; of any
other entry it sets UNKNOWN_INDEX with event 0x4A05. A disarmed request of the function is re-armed at the next build, by REARM or after
SPEC_REARM_BEATS. A held-back token interrupt is signalled once at the end of its gap. REQ_CANCEL and REQ_REARM act at once, for the keyway that asks, as
CANCEL and REARM do for theirs. -/
def Obligations.ServingRegisters : Prop :=
  (∀ (t fn tail : Nat) (host : List HostCell) (s y : State), fn < 64 → y = { s.at t with hostMem := memLoad s.hostMem host } →
    (s.fnHere fn = true → s.kwClosing fn = false →
      exec (.submitTail t fn tail host) s = .next (y.putSub fn { s.sub fn with tail := tail % 65536 })) ∧
    ((s.fnHere fn = false ∨ s.kwClosing fn = true) → exec (.submitTail t fn tail host) s = .next y) ∧
    (∀ a, memWf s.hostMem = true → (∀ c, c ∈ host → c.1 ≠ a) → memByte y.hostMem a = memByte s.hostMem a)) ∧
  (∀ (t fn : Nat) (s : State), fn < 64 → s.fnHere fn = true →
    exec (.serveStatusRead t fn) s = .next { (s.at t).putSub fn { s.sub fn with unknown := false, bad := false } with
      out := [.reg ((if (s.sub fn).unknown then 1 else 0) + (if (s.sub fn).bad then 2 else 0))] }) ∧
  (∀ (t fn i : Nat) (s : State), fn < 64 → s.fnHere fn = true → s.kwClosing fn = false → i < 32768 →
    ((s.req i).active = true → (s.req i).kw = fn → (s.req i).cancel = none →
      exec (.cancel t fn (2 ^ 31 + i)) s = .next ((s.at t).putReq i { s.req i with cancel := some (s.at t).notchTime })) ∧
    (((s.req i).state = .free ∨ (s.req i).kw ≠ fn) →
      exec (.cancel t fn (2 ^ 31 + i)) s = .next (((s.at t).putSub fn { s.sub fn with unknown := true }).raise 0x4A05 fn 0 i 0)) ∧
    (((s.req i).state = .ended ∧ (s.req i).kw = fn) ∨ ((s.req i).active = true ∧ (s.req i).kw = fn ∧ (s.req i).cancel.isSome = true) →
      exec (.cancel t fn (2 ^ 31 + i)) s = .next (s.at t)) ∧
    ((s.req i).active = true → (s.req i).kw = fn → (s.req i).disarmed = true →
      exec (.rearm t fn (2 ^ 31 + i)) s = .next ((s.at t).putReq i { s.req i with rearmNext := true })) ∧
    (((s.req i).active = false ∨ (s.req i).kw ≠ fn ∨ (s.req i).disarmed = false) → exec (.rearm t fn (2 ^ 31 + i)) s = .next (s.at t)) ∧
    (∀ v, v.testBit 31 = false → exec (.cancel t fn v) s = .next (s.at t) ∧ exec (.rearm t fn v) s = .next (s.at t))) ∧
  (∀ (t i n : Nat) (s : State), i < 32768 → n = s.setK .SPEC_REARM_BEATS (s.req i).kw → (s.req i).active = true → (s.req i).disarmed = true → n ≠ 0 →
    (s.req i).disarmBeat + n ≤ s.beat.count + 1 →
    exec (.specRearmTimeout t i) s = .next ((s.at t).putReq i { s.req i with rearmNext := true })) ∧
  (∀ (t fn last : Nat) (s : State), fn < 64 → (s.sub fn).irqHeld = true → (s.sub fn).irqLast = some last →
    (s.at t).notchesPast last (s.setK .TOKEN_IRQ_GAP fn) = true →
    exec (.tokenIrqGapEnd t fn) s = .next { (s.at t).putSub fn { s.sub fn with irqHeld := false, irqLast := some (s.at t).notchClock } with
      out := [.msix fn (s.setK .TOKEN_VECTOR fn)] }) ∧
  (∀ (t : Nat) (p : GdpPath) (h : ReqHead) (v : Nat) (s u : State) (x : Session) (k : OKey) (w : RowWrite),
     (w = .num t .REQ_CANCEL 0 p h v → Served w s u x k →
       exec (.reqCancel t p h v) s = .next (w.answered u (u.cancelReq (w.asker u x).kw (ovNat (w.taken u k)) 1) x k)) ∧
     (w = .num t .REQ_REARM 0 p h v → Served w s u x k →
       exec (.reqRearm t p h v) s = .next (w.answered u (u.rearmReq (w.asker u x).kw (ovNat (w.taken u k))) x k)) ∧
     (∀ (i kw : Nat), (u.req i).active = true → (u.req i).kw = kw → (u.req i).cancel = none →
       u.cancelReq kw i 1 = u.putReq i { u.req i with cancel := some u.notchTime }))

/-- Limits of waiting requests (R408, R438, Tables 10.5 and 10.11). A QUEUED request not admitted within ADMIT_TIMEOUT beats ends with cause 7, one held
for a full ring for RING_STALL_LIMIT beats with 12, one held for a page for KV_WAIT_LIMIT beats with 13, and one whose handoff train does not come
within HANDOFF_TIMEOUT beats with 11: a final entry stands in its token ring, and the entry is ENDED. -/
def Obligations.RequestLimitsEndRequests : Prop :=
  ∀ (t i : Nat) (s : State) (r : ReqS), i < 32768 → r = s.req i →
    (r.state = .queued → r.takenBeat + s.setK .ADMIT_TIMEOUT r.kw ≤ s.beat.count →
      exec (.admitTimeout t i) s = .next ((s.at t).endReq i 7).flush) ∧
    (r.state = .held → r.hold = .ringFull → s.setK .RING_STALL_LIMIT r.kw ≠ 0 →
      s.setK .RING_STALL_LIMIT r.kw ≤ r.causeBeats + (if (s.at t).boundaryDue then 1 else 0) →
      exec (.ringStallLimitExpiry t i) s = .next ((s.at t).endReq i 12).flush) ∧
    (r.state = .held → r.hold = .noPage → s.setK .KV_WAIT_LIMIT r.kw ≤ r.causeBeats + (if (s.at t).boundaryDue then 1 else 0) →
      exec (.kvWaitLimitExpiry t i) s = .next ((s.at t).endReq i 13).flush) ∧
    (r.state = .waitKv → r.takenBeat + s.setK .HANDOFF_TIMEOUT r.kw ≤ s.beat.count →
      exec (.handoffTimeout t i) s = .next ((s.at t).endReq i 11).flush) ∧
    (∀ cause, (mapGet s.ward.kws r.kw {}).noDma = false →
      (s.endReq i cause).hostMem = memWrite s.hostMem (r.field 24 8 + 16 * (r.ringProd % r.ringLen))
        (ringEntry r.ringProd r.ringLog2 0xFFFFFFFF (endFlags cause + 256 * cause) 0 s.beatNow 0) ∧
      (s.endReq i cause).req i = { r with ringProd := (r.ringProd + 1) % 2 ^ 32, state := .ended, hold := .none, ending := none, batch := none, cancel := none })

/-- Sampling (R240, R421, R426, R428, R429, R432, R437). The logits of a request's step, with the draft's tokens and logits, are sampled once: the
tokens that speculation accepts are delivered, up to the one that ends the request. A logit, of the model or of the draft, that is not finite faults the step instead. A prefill is
sampled with its last chunk only, and a HANDOFF_OUT request keeps its first token for the train.
The model's choices in it: logs 7, 28. -/
def Obligations.TokensAreSampled : Prop :=
  (∀ (t i n l : Nat) (logits : List (List F32)) (drafts : List (Nat × List F32)) (s : State) (r : ReqS) (toks : List (Nat × Nat × Bool)), i < 32768 →
    r = s.req i → r.faulted = false → r.sampled = false →
    ((r.batch = some (.decode l) ∧ n = 0) ∨ (r.batch = some (.prefill n) ∧ l = 0 ∧ r.prefillDone + n = r.total)) →
    logits.length = l + 1 → drafts.length = l → toks = r.sample.speculate (r.promptLen + r.generated) logits drafts →
    (logits.all (fun z => z.all F32.finite) = true → drafts.all (fun d => d.2.all F32.finite) = true →
      (r.handOut = false → exec (.tokenSample t i logits drafts) s = .next ((s.at t).stepTokens i n l toks).flush) ∧
      (r.handOut = true → exec (.tokenSample t i logits drafts) s = .next
        ((s.at t).handSample i n ((toks.map (fun x => (x.1, x.2.1))).headD (0, 0))).flush)) ∧
    ((logits.all (fun z => z.all F32.finite) = false ∨ drafts.all (fun d => d.2.all F32.finite) = false) →
      exec (.tokenSample t i logits drafts) s = .next
        (((((s.at t).incK .NONFINITE_LOGIT_COUNT r.kw).raise 0x8602 r.kw).faultStep i .nonfiniteLogit)).flush)) ∧
  (∀ (c : SampleCfg) (x : Nat) (z : List F32) (zs : List (List F32)) (d : Nat) (qz : List F32) (ds : List (Nat × List F32)), c.greedy = true →
    c.speculate x (z :: zs) ((d, qz) :: ds) =
      if argMax z = d then (d, logprob (c.dist z) d, true) :: c.speculate (x + 1) zs ds else [(argMax z, logprob (c.dist z) (argMax z), false)]) ∧
  (∀ (r : ReqS) (n : Nat) (toks : List (Nat × Nat × Bool)),
    (r.cut n toks).map (fun x => (x.1, x.2.1, x.2.2.1)) <+: toks ∧
    ∀ j x, (r.cut n toks)[j]? = some x → x.2.2.2 = r.endOf x.1 (n + j + 1) (r.promptLen + n + j) ∧ (x.2.2.2 ≠ none → j + 1 = (r.cut n toks).length))

/-! ### The Hinge fabric (spec/11) -/

/-- The links of the Hinge ports (R444, R446–R449, R452, R471, R474). A port that trains is UP, or HALF on a lane pair or once it has run on one, and
sends IDENT; a partner's IDENT, which may come while the port still trains, gives its address and the link's delay, half the round trip; a link that goes DOWN, or whose echoes have been missing
for ECHO_MISS_LIMIT boundaries, is DOWN or SILENT with its event, and flows over it take other routes; a replayed frame is counted, and the eighth time in a row takes the link DOWN; a failed lane
leaves the port on a pair.
The model's choices in it: log 19. -/
def Obligations.LinksOfPorts : Prop :=
  (∀ (t p lanes : Nat) (s : State) (x : PortS) (half : Bool), p < 23 → x = s.port p → x.link < 2 → (lanes = 15 ∨ lanes = 3 ∨ lanes = 12) →
    (s.func (.port p)).state ≠ .off → half = (x.half || lanes != 15) →
    Does (.linkTrained t p lanes) s [.now, .out, .fab, .evt, .cnt, .free] (fun y =>
      y.port p = { x with link := if half then 3 else 2, half := half, lanes := if lanes = 15 ∧ half = true then x.lanes else lanes
                          marked := true, misses := 0, marks := 0 } ∧
      (∀ q, q ≠ p → y.port q = s.port q) ∧ y.out = [.frame p s.identFrame])) ∧
  (∀ (t p trip phys logical part step boot epoch : Nat) (f : HFrame) (s y : State), p < 23 → f.type = 0x02 → (s.func (.port p)).state ≠ .off → (s.port p).link ≠ 5 →
    f.body = .ident phys logical part step boot epoch →
    y = ((s.at t).incI .RX_BYTES p (hfSize f)).putPort p { s.port p with
      partner := phys, logical := logical, delay := trip / 2, ident := true, epoch := epoch, boot := boot } →
    (epoch = s.fab.epoch → exec (.ident t p f trip) s = .next (y.relive logical).rerouteDead.flush) ∧
    (epoch ≠ s.fab.epoch → exec (.ident t p f trip) s = .next ((y.raise 0x4B04 0xFF (uidPort p)).relive logical).rerouteDead.flush)) ∧
  (∀ (t p : Nat) (s : State), p < 23 → 2 ≤ (s.port p).link → (s.port p).link ≠ 5 →
    exec (.linkDown t p) s = .next ((((s.at t).putPort p { s.port p with link := 0, ident := false, resent := 0 }).raise 0x4B01 0xFF (uidPort p)).rerouteDead).flush ∧
    ∀ (again : Bool) (n : Nat) (y : State), n = (if again then (s.port p).resent + 1 else 1) →
      y = (((s.at t).putPort p { s.port p with resent := n }).incI .LINK_RETRIES p).incI .FEC_UNCORR p →
      (n < 8 → exec (.frameReplay t ⟨p, again⟩) s = .next y.flush) ∧
      (8 ≤ n → exec (.frameReplay t ⟨p, again⟩) s = .next (((y.putPort p { s.port p with link := 0, ident := false, resent := 0 }).raise 0x4B01 0xFF
        (uidPort p)).rerouteDead).flush)) ∧
  (∀ (t p lanes : Nat) (s : State) (x : PortS), p < 23 → x = s.port p → x.link ≠ 5 → x.half = false → (lanes = 3 ∨ lanes = 12) →
    (s.func (.port p)).state ≠ .off →
    Does (.fabLaneDegraded t p lanes) s [.now, .out, .fab, .evt, .cnt, .free] (fun y =>
      y.port p = { x with half := true, lanes := lanes, link := if x.link = 4 then 4 else 3, up := 3 } ∧ (∀ q, q ≠ p → y.port q = s.port q) ∧
      y.out = if x.link < 2 then [.frame p s.identFrame] else [])) ∧
  (∀ (t p : Nat) (s y : State), p < 23 → (s.port p).live = true → s.set0 .ECHO_MISS_LIMIT ≤ (s.port p).misses →
    y = (s.at t).putPort p { s.port p with up := (s.port p).link, link := 4, marks := 0 } →
    exec (.fabEchoMissing t p) s = .next ((y.raise 0x4B03 0xFF (uidPort p)).raise 0x4B01 0xFF (uidPort p)).rerouteDead.flush)

/-- Reach, floods and lost members (R453, R458, R472, R473, R475, R477, Tables 11.9 and 11.11). REACH goes out on every live local port with this
device's global links and its view of the members' links, and a member's REACH is kept. A flood of a live port is forwarded once on the other live
ports, then acted on; a repeat is only counted. The lead that has confirmed a loss floods LOSS_NOTICE and, with an idle spare in auto mode, ADOPT; an
idle spare that SPARE_ADOPT names for a lost address of its group adopts it, and else refuses.
The model's choices in it: log 25. -/
def Obligations.ReachAndFloods : Prop :=
  (∀ (t : Nat) (occ : List Nat) (s : State), (s.fabricOn = false → exec (.reachSend t occ) s = .next (s.at t)) ∧
    (s.fabricOn = true → ∀ (own : List (Nat × Nat × Nat)) (links : List (Nat × Nat)),
      own = ((List.range 8).filter (fun k => (s.port (15 + k)).live && (s.port (15 + k)).partner != 0xFFFF)).map (fun k =>
        (15 + k, groupOf (s.port (15 + k)).partner, min 100 (occ.getD k 0))) →
      links = ((List.range 16).filter (fun m => m != memberOf s.physAddr)).map (fun m => (m, s.linkToMember m)) →
      Does (.reachSend t occ) s [.now, .out, .fab, .cnt, .free] (fun y => y.fab = { s.fab with own := own } ∧
        y.out = s.localLive.map (fun p => .frame p { type := 0x03, dst := (s.port p).logical, src := s.logAddr, body := .reach own links })))) ∧
  (∀ (t p : Nat) (f : HFrame) (s y : State) (globals : List (Nat × Nat × Nat)) (links : List (Nat × Nat)), p < 15 → f.type = 0x03 →
    (s.port p).live = true → (s.port p).partner ≠ 0xFFFF → s.fabricOn = true → f.body = .reach globals links → y = (s.at t).incI .RX_BYTES p (hfSize f) →
    exec (.reach t p f) s = .next ({ y with fab := { y.fab with
      reach := mapSet y.fab.reach (memberOf (s.port p).partner) ⟨globals, links⟩ } } : State).rerouteDead.flush) ∧
  (∀ (t p : Nat) (f : HFrame) (s y z : State), p < 23 → (s.port p).live = true → y = (s.at t).incI .RX_BYTES p (hfSize f) →
    z = (y.noteFlood f.src f.flow).floodOn (some p) { f with hops := f.hops + 1 } →
    (s.fab.floods.contains (f.src, f.flow) = true →
      (f.type = 0x04 → exec (.lossNotice t p f) s = .next y.flush) ∧ (f.type = 0x05 → exec (.adopt t p f) s = .next y)) ∧
    (s.fab.floods.contains (f.src, f.flow) = false →
      (f.type = 0x04 → exec (.lossNotice t p f) s = .next (z.partnerLost (leAt f.payload 0 2)).flush) ∧
      (f.type = 0x05 → exec (.adopt t p f) s = .next (z.adoptNamed (leAt f.payload 0 2) (leAt f.payload 2 2) (leAt f.payload 4 8))))) ∧
  (∀ (t m a : Nat) (s y : State), m < 16 → a = s.memberLogical m → s.isLead = true → s.set0 .LOSS_CONFIRM_BEATS ≤ mapGet s.fab.confirm m 0 →
    s.fab.lost.contains a = false → y = ((s.at t).flood 0x04 (noticePayload a s.beat.number)).partnerLost a →
    ((s.idleSpares.filter (· != m)).head? = none → exec (.lossDecision t m) s = .next (y.raise 0x8B02 0xFF).flush) ∧
    (∀ k, (s.idleSpares.filter (· != m)).head? = some k →
      (s.isSpare a = false → y.set0 .SPARE_AUTO = 1 → exec (.lossDecision t m) s = .next
        ((y.flood 0x05 (adoptPayload a (16 * groupOf y.physAddr + k) y.beat.number)).adoptNamed a (16 * groupOf y.physAddr + k) y.beat.number).flush) ∧
      ((s.isSpare a = true ∨ y.set0 .SPARE_AUTO ≠ 1) → exec (.lossDecision t m) s = .next y.flush))) ∧
  (∀ (t : Nat) (p : GdpPath) (h : ReqHead) (v : Nat) (s u : State) (x : Session) (k : OKey) (w : RowWrite) (n : Nat),
    w = .num t .SPARE_ADOPT 0 p h v → Served w s u x k → n = ovNat (w.taken u k) →
    (u.idleSpare = true → u.fab.lost.contains n = true → groupOf n = groupOf u.physAddr →
      exec (.spareAdopt t p h v) s = .next (w.answered u
        ((u.flood 0x05 (adoptPayload n u.physAddr u.beat.number)).adoptNamed n u.physAddr u.beat.number) x k)) ∧
    ((u.idleSpare = false ∨ u.fab.lost.contains n = false ∨ groupOf n ≠ groupOf u.physAddr) →
      exec (.spareAdopt t p h v) s = .next (u.replied p w.req { status := 0x10, detail := 4 })))

/-- A train comes in (R464, R466, R467). Its frames are taken in SEQ order, and another is dropped. TRAIN_HEAD takes its BYTES of page memory, or is
answered with STATUS 1 without room and 6 where the keyway does not serve or ROLE refuses; TRAIN_PAGE puts its bytes into its page at their offset, and every 64th frame
is acknowledged; TRAIN_END is answered with 4 when the CRC over the page bytes fails, with 6 when the keyway serves no longer, and else with what the
handoff or the ring set comes to.
The model's choices in it: logs 5, 20. -/
def Obligations.TrainsComeIn : Prop :=
  (∀ (t p : Nat) (f g : HFrame) (s u : State), u.rxNext g ≠ g.seq →
    (FrameHere t p 0x10 f s u g → exec (.trainHead t p f) s = .next u) ∧ (FrameHere t p 0x11 f s u g → exec (.trainPage t p f) s = .next u) ∧
    (FrameHere t p 0x12 f s u g → exec (.trainEnd t p f) s = .next u)) ∧
  (∀ (t p kind kw bytes : Nat) (f g : HFrame) (h : Bytes) (s v : State), FrameNext t p 0x10 f s v g → h = padTo 64 g.payload → kind = leAt h 0 1 →
    kw = leAt h 1 1 → bytes = up4k (leAt h 8 8) →
    ((kind ≠ 1 ∧ kind ≠ 2 ∨ kw ≠ g.keyway ∨ v.kwServes kw = false ∨ (kind = 1 ∧ v.set0 .ROLE = 1)) →
      exec (.trainHead t p f) s = .next (v.replyTo g 0x13 6 (leBytes 4 g.seq))) ∧
    ((kind = 1 ∧ v.set0 .ROLE ≠ 1 ∨ kind = 2) → kw = g.keyway → v.kwServes kw = true →
      (v.memFits kw bytes = false → exec (.trainHead t p f) s = .next (v.replyTo g 0x13 1 (leBytes 4 g.seq))) ∧
      (v.memFits kw bytes = true → ∀ y : State, y = v.memTake kw bytes → exec (.trainHead t p f) s = .next { y with fab := { y.fab with
        trains := y.fab.trains.filter (fun x => !(x.src == g.src && x.flow == g.flow)) ++
          [{ src := g.src, flow := g.flow, head := h, bytes := bytes, kw := kw, since := y.notchClock }] } }))) ∧
  (∀ (t p : Nat) (f g : HFrame) (s v y : State) (x x' : RxTrain) (old b : Bytes) (off : Nat), FrameNext t p 0x11 f s v g → v.rxTrain g = some x →
    old = mapGet x.pages (leAt g.payload 0 4) [] → off = leAt g.payload 4 4 → b = g.payload.drop 8 →
    x' = { x with pages := mapSet x.pages (leAt g.payload 0 4) (overlay (padTo (max old.length (off + b.length)) old) off b)
                  order := x.order ++ b, since := v.notchClock } →
    y = { v with fab := { v.fab with trains := v.fab.trains.map (fun z => if z.src == g.src && z.flow == g.flow then x' else z) } } →
    exec (.trainPage t p f) s = .next (if (g.seq + 1) % 64 = 0 then y.replyTo g 0x13 0 (leBytes 4 g.seq) else y)) ∧
  (∀ (t p : Nat) (f g : HFrame) (s v : State) (x : RxTrain), FrameNext t p 0x12 f s v g → v.rxTrain g = some x →
    (v.kwServes x.kw = false → exec (.trainEnd t p f) s = .next ((v.freeTrain x).replyTo g 0x13 6 (leBytes 4 g.seq))) ∧
    (v.kwServes x.kw = true → leAt g.payload 0 4 ≠ crc32c x.order →
      exec (.trainEnd t p f) s = .next ((v.freeTrain x).replyTo g 0x13 4 (leBytes 4 g.seq))) ∧
    (v.kwServes x.kw = true → leAt g.payload 0 4 = crc32c x.order → ∀ r : State × Nat,
      r = (if leAt x.head 0 1 = 1 then v.handTrain x else v.setTrain x) →
      exec (.trainEnd t p f) s = .next (r.1.replyTo g 0x13 r.2 (leBytes 4 g.seq))))

/-- A train of this device (R437, R464, R466–R468). An acknowledgement moves its window on, and with its last frame it is done; STATUS 4 sends the
whole train once more, and any other fails it. A train without progress for TRAIN_TIMEOUT notches fails, and one that comes in is dropped. A flow of
one frame without a reply for 20 µs is sent again up to 3 times; then a latch operation but WAIT ends LOST, and what has a timeout of its own is left to
it.
The model's choices in it: log 24. -/
def Obligations.TrainsAndRepliesOfThisDevice : Prop :=
  (∀ (t p n : Nat) (f g : HFrame) (s u y : State) (x : Flow), FrameHere t p 0x13 f s u g → u.replyFlow g = some x → x.isTrain = true →
    (g.status = 0 → n = min x.sent (max x.acked (leAt g.payload 0 4 + 1)) →
      y = u.mapFlow x.num (fun z =>
        { z with acked := n, since := if n > x.acked then u.now else z.since, progress := if n > x.acked then u.notchClock else z.progress }) →
      (x.frames.length ≤ n → exec (.trainAck t p f) s = .next (y.trainDone x).flush) ∧
      (n < x.frames.length → exec (.trainAck t p f) s = .next (y.pump x.num).flush)) ∧
    (g.status = 4 → exec (.trainAck t p f) s = .next (u.trainAgain x).flush) ∧
    (g.status ≠ 0 → g.status ≠ 4 → exec (.trainAck t p f) s = .next (u.trainFail x g.status).flush)) ∧
  (∀ (t num : Nat) (s y : State),
    ((s.flow num = none ∧ y = s.at t) ∨ (∃ f, s.flow num = some f ∧ f.isTrain = true ∧ (s.at t).trainLate f.progress = true ∧ y = (s.at t).trainFail f 0xFF)) →
    exec (.trainTimeout t num) s = .next ((y.fab.trains.filter (fun x => x.flow == num && y.trainLate x.since)).foldl State.freeTrain y).flush) ∧
  (∀ (t num : Nat) (s : State) (f : Flow), s.flow num = some f → f.isTrain = false → f.since + 20000000 ≤ max s.now t →
    (∀ x, x ∈ s.fab.shards → x.flow ≠ num ∨ x.src ≠ f.dst) →
    (f.resends < 3 → exec (.flowReplyTimeout t num) s = .next
      (((s.at t).sendAll f.port f.frames).mapFlow num (fun x => { x with resends := x.resends + 1, since := max s.now t }))) ∧
    (3 ≤ f.resends → (∀ who n op, f.kind = .latch who n op → op = 4 → exec (.flowReplyTimeout t num) s = .next (s.at t)) ∧
      (∀ who n op, f.kind = .latch who n op → op ≠ 4 → exec (.flowReplyTimeout t num) s = .next (((s.at t).dropFlow num).remoteLost who n op)) ∧
      ((∀ who n op, f.kind ≠ .latch who n op) → exec (.flowReplyTimeout t num) s = .next ((s.at t).dropFlow num))))

/-- Shards, ring queries and standby records over the fabric (R398, R399, R469, R470, R475). SHARD_REQ is answered from the store, with STATUS 1 for a
shard not held and 6 where the keyway does not serve; SHARD_DATA is put together in SEQ order, and its last frame brings the shard to the checks of R316. A
ring query is answered with this member's partials, and when every origin's are here the rows are merged. An idle spare keeps the records of a member of
its group.
The model's choices in it: log 19. -/
def Obligations.ShardsQueriesAndRecords : Prop :=
  (∀ (t p : Nat) (f g : HFrame) (s v : State), FrameNext t p 0x20 f s v g →
    (v.kwServes g.keyway = false → exec (.shardReq t p f) s = .next (v.answer g [⟨0x21, 6, leBytes 4 0, .none⟩])) ∧
    (v.kwServes g.keyway = true → v.shardHeld g.keyway (leAt g.payload 0 8) (leAt g.payload 8 4) (leAt g.payload 12 2) = none →
      exec (.shardReq t p f) s = .next (v.answer g [⟨0x21, 1, leBytes 4 0, .none⟩])) ∧
    (∀ b, v.kwServes g.keyway = true → v.shardHeld g.keyway (leAt g.payload 0 8) (leAt g.payload 8 4) (leAt g.payload 12 2) = some b →
      exec (.shardReq t p f) s = .next (v.answer g (shardItems b)))) ∧
  (∀ (t p slot index : Nat) (f g : HFrame) (s u z : State) (x : Flow) (y y' : RxShard), FrameHere t p 0x21 f s u g → u.replyFlow g = some x →
    x.kind = .shardReq slot index → y = u.rxShard g → y' = { y with next := y.next + 1, bytes := y.bytes ++ g.payload.drop 4 } →
    z = u.mapFlow x.num (fun z => { z with since := u.now }) →
    (g.seq ≠ y.next → exec (.shardData t p f) s = .next u) ∧
    (g.seq = y.next → g.seq = 0 → g.status ≠ 0 → exec (.shardData t p f) s = .next (((u.dropFlow x.num).dropShard g).shardMissing slot index)) ∧
    (g.seq = y.next → (g.seq ≠ 0 ∨ g.status = 0) → hfLast g = false → exec (.shardData t p f) s = .next { z.dropShard g with fab := { (z.dropShard g).fab with
      shards := (z.dropShard g).fab.shards ++ [y'] } }) ∧
    (∀ (w : Which) (v : Version) (q : ShardReq) (h : ShardHdr), g.seq = y.next → (g.seq ≠ 0 ∨ g.status = 0) → hfLast g = true →
      s.kwClosing (s.slot slot).owner = false → (s.slot slot).outstanding index = some (w, v, q, h) →
      exec (.shardData t p f) s = .next (((z.dropFlow x.num).dropShard g).shardArrived slot w v q h (some y'.bytes) y'.bytes.length)) ∧
    (g.seq = y.next → (g.seq ≠ 0 ∨ g.status = 0) → hfLast g = true →
      (s.kwClosing (s.slot slot).owner = true ∨ (s.slot slot).outstanding index = none) →
      exec (.shardData t p f) s = .next ((z.dropFlow x.num).dropShard g))) ∧
  (∀ (t p i layer : Nat) (draft : Bool) (rows : List QRow) (f g : HFrame) (s v : State), FrameNext t p 0x30 f s v g → g.body = .ringQuery draft rows →
    v.ringSeq g.keyway (leAt g.payload 0 2) = some i → layer = leAt g.payload 4 2 →
    (∀ l, v.answerRows (v.seqAt i) draft layer rows = .ok l → exec (.ringQuery t p f) s = .next
      (v.answer g [⟨0x31, 0, ringSub (v.seqAt i) layer l.length (leAt g.payload 8 8), .ringPartial l⟩])) ∧
    (∀ e, v.answerRows (v.seqAt i) draft layer rows = .error (some e) → exec (.ringQuery t p f) s = .next (v.faultSeq i 0 e))) ∧
  (∀ (t p seq lane : Nat) (rows : List (F32 × F32 × List F32)) (f g : HFrame) (s u z : State) (x : Flow) (y : RingRound), FrameHere t p 0x31 f s u g →
    u.replyFlow g = some x → g.body = .ringPartial rows → x.kind = .ringQuery seq lane → u.ringRound seq lane = some y → y.decode = true →
    rows.length = y.rows.length → z = (u.dropFlow x.num).keepRows seq lane (leAt g.payload 2 1) 0 rows →
    exec (.ringPartial t p f) s = .next (if z.allPartials y (z.seqAt seq).ringSize then z.finishRing y else z)) ∧
  (∀ (t p : Nat) (recs : List StandbyRec) (f g : HFrame) (s v : State), FrameNext t p 0x50 f s v g →
    (v.idleSpare = true → groupOf g.src = groupOf v.physAddr → g.body = .standby recs →
      exec (.standby t p f) s = .next (recs.foldl (fun x r => x.takeRec g.src r) v)) ∧
    ((v.idleSpare = false ∨ groupOf g.src ≠ groupOf v.physAddr) → exec (.standby t p f) s = .next v))

/-- Latches of this device (R481–R485, R488, Table 11.12). SIGNAL adds to COUNT up to 4,294,967,295, SET sets it, READ leaves it; every waiter whose target
the COUNT then meets completes, the others wait on, and other latches are as they were. A WAIT whose target is met completes at once, and another is
registered with its timeout; one beyond the limits is FULL. When its notches have passed a WAIT completes TIMEOUT and is counted.
The model's choices in it: log 21. -/
def Obligations.LatchesOfThisDevice : Prop :=
  (∀ (t kw num v p : Nat) (un : UnitId) (s : State), kw < 64 → s.latchSeen kw num = .ok p →
    (∀ (c : Instr) (n : Nat), (c = .latchSignal t (.unit kw un) num v ∧ n = min (s.latch.count p + v) 4294967295) ∨
        (c = .latchSet t (.unit kw un) num v ∧ n = v) ∨ (c = .latchRead t (.unit kw un) num ∧ n = s.latch.count p) →
      Ends c s (fun x => x.latch.count p = n ∧ (∀ q, q ≠ p → x.latch.count q = s.latch.count q) ∧
        (c ≠ .latchRead t (.unit kw un) num → x.latch.waiters = s.latch.waiters.filter (fun w => !(w.latch == p && decide (w.target ≤ n)))) ∧
        (c = .latchRead t (.unit kw un) num → x.latch.waiters = s.latch.waiters) ∧ x.kv = s.kv ∧ x.srv = s.srv ∧ x.hostMem = s.hostMem)) ∧
    (∀ target timeout, Ends (.latchWait t (.unit kw un) num target timeout) s (fun x =>
      (∀ q, x.latch.count q = s.latch.count q) ∧
      x.latch.waiters = if s.latch.isFull p false = false ∧ s.latch.count p < target then s.latch.waiters ++
        [⟨p, num, target, if timeout = 0 then none else some ((s.at t).notchClock + timeout * 65536), .unit kw un⟩] else s.latch.waiters))) ∧
  (∀ (t fn num v tag p : Nat) (remote : Option Nat) (s : State), fn < 64 → s.fnHere fn = true → (s.lregs fn).busy = false →
    (∀ a, remote = some a → a % 2048 = s.logAddr) → s.latchSeen fn (num % 16384) = .ok p →
    (∀ (c : Instr) (n : Nat), (c = .latchSignal t (.host fn remote tag) num v ∧ n = min (s.latch.count p + v % 2 ^ 32) 4294967295) ∨
        (c = .latchSet t (.host fn remote tag) num v ∧ n = v % 2 ^ 32) ∨ (c = .latchRead t (.host fn remote tag) num ∧ n = s.latch.count p) →
      Ends c s (fun x => x.latch.count p = n ∧ (x.lregs fn).busy = false ∧ (x.lregs fn).done = true ∧ (x.lregs fn).status = 0 ∧
        (x.lregs fn).result = n ∧ (x.lregs fn).num = num % 16384)) ∧
    (∀ (target timeout : Nat) (y : State), y = (s.at t).putLregs fn { s.lregs fn with
        num := num % 16384,
        addr := (match remote with | some a => 32768 + a % 2048 | none => (s.lregs fn).addr % 32768),
        value := target % 2 ^ 32, timeout := timeout % 2 ^ 32, busy := false } →
      (y.latch.isFull p false = true → Ends (.latchWait t (.host fn remote tag) num target timeout) s (fun x =>
        (x.lregs fn).done = true ∧ (x.lregs fn).status = 4 ∧ x.latch.waiters = s.latch.waiters)) ∧
      (y.latch.isFull p false = false → target % 2 ^ 32 ≤ s.latch.count p → Ends (.latchWait t (.host fn remote tag) num target timeout) s (fun x =>
        (x.lregs fn).queue = (s.lregs fn).queue ++ [⟨num % 16384, tag % 32768, s.latch.count p, (s.at t).notchTime, 0⟩] ∧
        x.latch.waiters = s.latch.waiters)) ∧
      (y.latch.isFull p false = false → s.latch.count p < target % 2 ^ 32 → Ends (.latchWait t (.host fn remote tag) num target timeout) s (fun x =>
        (x.lregs fn).queue = (s.lregs fn).queue ∧ (x.lregs fn).busy = false ∧ x.latch.waiters = s.latch.waiters ++ [⟨p, num % 16384, target % 2 ^ 32,
          if timeout % 2 ^ 32 = 0 then none else some ((s.at t).notchClock + timeout % 2 ^ 32 * 65536), .host fn (tag % 32768)⟩])))) ∧
  (∀ (t fn num v : Nat) (remote : Option Nat) (tag : Nat) (s : State), fn < 64 → ((s.lregs fn).busy = true ∨ s.fnHere fn = false) →
    exec (.latchSignal t (.host fn remote tag) num v) s = .next (s.at t) ∧ exec (.latchSet t (.host fn remote tag) num v) s = .next (s.at t) ∧
    exec (.latchRead t (.host fn remote tag) num) s = .next (s.at t) ∧ ∀ timeout, exec (.latchWait t (.host fn remote tag) num v timeout) s = .next (s.at t)) ∧
  (∀ (t p : Nat) (s : State), p < 16384 → Ends (.latchWaitTimeout t p) s (fun x =>
    x.latch.waiters = s.latch.waiters.filter (fun w => !(w.latch == p && (match w.until_ with | some u => decide (u ≤ max s.now t) | none => false))) ∧
    ∀ q, x.latch.count q = s.latch.count q))

/-- Latch frames and the host's latch registers (R463, R484, R485, Tables 11.13 to 11.16). A LATCH_OP in SEQ order acts on its latch for the frame's
keyway and is answered with COUNT and STATUS, a WAIT when it completes; a LATCH_REPLY ends the operation at its source. A host's operation on another
device's latch goes to its owner as one flow, and without a live route is LOST. A read of LATCH_STATUS clears DONE; the oldest completion is written to the ring while it
has room, and signalled; a write of LATCH_CPL_CONS makes room, modulo 65,536.
The model's choices in it: log 30. -/
def Obligations.LatchFramesAndRegisters : Prop :=
  (∀ (t p num op : Nat) (f g : HFrame) (s v : State), FrameNext t p 0x40 f s v g → num = leAt g.payload 0 2 → op = leAt g.payload 2 1 →
    ((op = 1 ∨ op = 2 ∨ op = 3) → ∀ r : State × Nat × LStat, r = v.latchNow g.keyway num op (leAt g.payload 4 4) →
      exec (.latchOp t p f) s = .next (r.1.replyTo g 0x41 r.2.2.code (leBytes 4 r.2.1))) ∧
    (op = 4 → exec (.latchOp t p f) s = .next (v.latchWait (.remote g.src g.flow g.keyway g.keySlot (leAt g.payload 12 4)) num (leAt g.payload 4 4)
      (leAt g.payload 8 4)))) ∧
  (∀ (t p num op : Nat) (who : LatchUser) (f g : HFrame) (s u : State) (x : Flow), FrameHere t p 0x41 f s u g → u.replyFlow g = some x →
    x.kind = .latch who num op →
    exec (.latchReply t p f) s = .next ((u.dropFlow x.num).remoteEnd who num op (leAt g.payload 0 4) (latchStat g.status))) ∧
  (∀ (fn num op tag count : Nat) (a : Option Nat) (st : LStat) (s : State),
    (op ≠ 4 → s.remoteEnd (.host fn a tag) num op count st =
      s.putLregs fn { s.lregs fn with busy := false, done := true, status := st.code, result := count }) ∧
    (op = 4 → s.remoteEnd (.host fn a tag) num op count st =
      s.putLregs fn { s.lregs fn with queue := (s.lregs fn).queue ++ [⟨num, tag, count, s.notchTime, st.code⟩] })) ∧
  (∀ (t fn a num v tag : Nat) (s y : State) (z : State × Option Nat), fn < 64 → s.fnHere fn = true → (s.lregs fn).busy = false → a % 2048 ≠ s.logAddr →
    y = (s.at t).putLregs fn { s.lregs fn with num := num % 16384, addr := 32768 + a % 2048, value := v % 2 ^ 32, timeout := 0, busy := true } →
    z = y.startFlow (.latch (.host fn (some a) (tag % 32768)) (num % 16384) 1) (a % 2048) fn
      [⟨0x40, 0, latchPayload (num % 16384) 1 (v % 2 ^ 32) 0 (tag % 32768), .none⟩] →
    exec (.latchSignal t (.host fn (some a) tag) num v) s =
      .next (if z.2 = none then z.1.remoteLost (.host fn (some a) (tag % 32768)) (num % 16384) 1 else z.1)) ∧
  (∀ (t fn : Nat) (s : State), fn < 64 → s.fnHere fn = true →
    exec (.latchStatusRead t fn) s = .next { (s.at t).putLregs fn { s.lregs fn with done := false } with
      out := [.reg ((if (s.lregs fn).busy then 1 else 0) + (if (s.lregs fn).done then 2 else 0) + 4 * (s.lregs fn).status)] } ∧
    (∀ n v, n < 65536 → v = ((s.lregs fn).cons + n) % 65536 → exec (.latchCplCons t fn v) s = .next ((s.at t).putLregs fn { s.lregs fn with
      cons := (s.lregs fn).cons + n })) ∧
    (∀ (c : LatchCpl) (rest : List LatchCpl) (len : Nat), (s.lregs fn).queue = c :: rest → len = 2 ^ s.setK .LATCH_CPL_LOG2 fn →
      (s.lregs fn).prod - (s.lregs fn).cons < len → s.kwDma fn = true →
      exec (.latchCompletionWrite t fn) s = .next { (s.at t).putLregs fn { s.lregs fn with prod := (s.lregs fn).prod + 1, queue := rest } with
        hostMem := memWrite s.hostMem (s.setK .LATCH_CPL_ADDR fn + 16 * ((s.lregs fn).prod % len)) (c.record (s.lregs fn).prod len)
        out := [.dma fn true (s.setK .LATCH_CPL_ADDR fn + 16 * ((s.lregs fn).prod % len)) (c.record (s.lregs fn).prod len).length,
                .msix fn (s.setK .LATCH_VECTOR fn)] }))

/-! ### Keyways and trust (spec/12) -/

/-- The removal of a keyway (R493, R502, R519, Tables 12.6 and 12.7). A function-level reset of a function that is there returns its registers to their
reset values and stops its DMA, and begins the removal of a keyway that is not OFF and not being closed; KEY_DRAIN notches after its start the transfers
that still run are dropped; a zeroing job that ends leaves the jobs.
The model's choices in it: log 32. -/
def Obligations.KeywaysAreRemoved : Prop :=
  (∀ (t n : Nat) (s y : State), n < 64 → y = (s.at t).resetFunction n →
    (s.fnHere n = false → exec (.flr t n) s = .next (s.at t)) ∧
    (s.fnHere n = true → (s.kwState n = .off ∨ s.kwState n = .closing) → exec (.flr t n) s = .next y) ∧
    (s.fnHere n = true → s.kwState n ≠ .off → s.kwState n ≠ .closing →
      exec (.flr t n) s = .next ((y.funcTo (.keyway n) .closing).removalBegin n .flr true)) ∧
    y.ring n = {} ∧ y.sub n = {} ∧ y.lregs n = {} ∧ y.kway n = { s.kway n with noDma := true } ∧
    ∀ m, m ≠ n → y.ring m = s.ring m ∧ y.sub m = s.sub m ∧ y.lregs m = s.lregs m ∧ y.kway m = s.kway m) ∧
  (∀ (t n : Nat) (s : State), n < 64 → (s.kway n).removal = .drain → (s.kway n).drained = false →
    (s.at t).notchesPast (s.kway n).b0 (s.set0 .KEY_DRAIN) = true →
    exec (.keyDrainExpiry t n) s = .next (((s.at t).dropTransfers n).putKway n { s.kway n with drained := true })) ∧
  (∀ (t n pages : Nat) (a b : List (Nat × Nat)) (s : State), (n < 64 ∨ n = 255) → s.mem.zeroing = a ++ (n, pages) :: b → (∀ z, z ∈ a → z.1 ≠ n) →
    exec (.zeroingDone t n) s = .next { s.at t with mem := { s.mem with zeroing := a ++ b } })

/-- Keys (R507–R511, R523, Table 12.4). In DEPLOYED, KEY_INSTALL of a record that unwraps puts its key into a slot that is not CLOSING — an EMPTY one
is ACTIVE at once as generation 1, an ACTIVE one takes it at the boundary — and a record that does not unwrap raises 0x4C02 and is refused.
MGMT_KEY_INSTALL waits for the boundary, in a claim with the move to DEPLOYED. A previous generation is destroyed once nothing holds it, or after
KEY_DRAIN.
The model's choices in it: log 8. -/
def Obligations.KeysAreInstalledAndDestroyed : Prop :=
  (∀ (t : Nat) (p : GdpPath) (h : ReqHead) (payload b : Bytes) (s u : State) (x : Session) (w : RowWrite) (k : OKey) (n kw : Nat),
    w = .record t .KEY_INSTALL p h payload → b = ovBytes (w.taken u k) → n = leAt b 0 1 → kw = leAt b 1 1 →
    (Permitted w s u x k → u.ward.lc ≠ 3 → exec (.keyInstall t p h payload) s = .next (u.replied p w.req { status := 0x10, detail := 5 })) ∧
    (Served w s u x k → u.ward.lc = 3) ∧
    (Served w s u x k → (128 ≤ n ∨ (u.keySlot n).state = 2) → exec (.keyInstall t p h payload) s = .next (u.replied p w.req { status := 0x10, detail := 4 })) ∧
    (Served w s u x k → n < 128 → (u.keySlot n).state ≠ 2 →
      (∀ own, pathOwn p = some own → kw = own ∧ (u.setK .DMA_KEY_SLOT own = n ∨ u.setK .LINK_KEY_SLOT own = n)) →
      (u.unwrap b = none → exec (.keyInstall t p h payload) s = .next ((u.raise 0x4C02 kw).replied p w.req { status := 0x10, detail := 4 })) ∧
      (∀ key, u.unwrap b = some key → exec (.keyInstall t p h payload) s = .next (w.answered u
        ((u.putKeySlot n ((u.keySlot n).install key kw (leAt b 2 1))).raise 0x1C01 kw) x k)))) ∧
  (∀ (k : KeySlot) (key : Bytes) (kw usage : Nat),
    (k.state ≠ 1 → (k.install key kw usage).state = 1 ∧ (k.install key kw usage).gen = 1 ∧ (k.install key kw usage).key = key ∧
      (k.install key kw usage).kw = kw ∧ (k.install key kw usage).usage = usage) ∧
    (k.state = 1 → (k.install key kw usage).key = k.key ∧ (k.install key kw usage).gen = k.gen ∧
      ((k.install key kw usage).next.map (fun r => (r.key, r.kw, r.usage))) = some (key, kw, usage))) ∧
  (∀ (t : Nat) (p : GdpPath) (h : ReqHead) (payload b : Bytes) (s u : State) (x : Session) (w : RowWrite) (k : OKey),
    w = .record t .MGMT_KEY_INSTALL p h payload → b = ovBytes (w.taken u k) →
    (Permitted w s u x k → u.ward.lc ≠ 3 → (u.ward.lc ≠ 2 ∨ (w.asker u x).claim = false) →
      exec (.mgmtKeyInstall t p h payload) s = .next (u.replied p w.req { status := 0x10, detail := 5 })) ∧
    (Served w s u x k →
      (u.unwrap b = none → exec (.mgmtKeyInstall t p h payload) s = .next ((u.raise 0x4C02 0).replied p w.req { status := 0x10, detail := 4 })) ∧
      (∀ key, u.unwrap b = some key → exec (.mgmtKeyInstall t p h payload) s = .next (w.answered u
        (({ u with ward := { u.ward with mgmtNext := some key, lcNext := if u.ward.lc = 2 then some 3 else u.ward.lcNext } } : State).raise 0x1C01 0) x k)))) ∧
  (∀ (t n at_ : Nat) (old : Bytes) (s : State), n < 128 → (s.keySlot n).prev = some (old, at_) →
    ((s.prevHeld n = false ∨ (s.at t).notchesPast at_ (s.set0 .KEY_DRAIN) = true) →
      exec (.keyGenerationDestroy t n) s = .next ((s.at t).putKeySlot n { s.keySlot n with prev := none })) ∧
    (s.prevHeld n = true → (s.at t).notchesPast at_ (s.set0 .KEY_DRAIN) = false → exec (.keyGenerationDestroy t n) s = .next (s.at t)))

/-- The life-cycle and debug (R518, R522, R524, R525, Table 12.9). LC_REQUEST of a transition that its signature or the proved management key allows
waits for the boundary, and LC_NONCE changes; another is refused with event 0x4C05, and LC_NONCE changes too. DEBUG_UNLOCK opens JTAG for a signed
record in PROVISIONED, DEPLOYED or RETURN with no confidential keyway, extends MEAS_4 and changes LC_NONCE. When the erasures of a transition have been
completed, LC_STATE is the new state and the device resets.
The model's choices in it: logs 8, 34. -/
def Obligations.LifeCycleAndDebug : Prop :=
  (∀ (t : Nat) (p : GdpPath) (h : ReqHead) (payload b : Bytes) (s u : State) (x : Session) (w : RowWrite) (k : OKey),
    w = .record t .LC_REQUEST p h payload → Served w s u x k → b = ovBytes (w.taken u k) →
    (u.lcAllowed (leAt b 0 1) (w.asker u x).keyed (u.isSigned b) = true → exec (.lcRequest t p h payload) s = .next (w.answered u
      ({ u with ward := { u.ward with lcNext := some (leAt b 0 1) } } : State).newNonce x k)) ∧
    (u.lcAllowed (leAt b 0 1) (w.asker u x).keyed (u.isSigned b) = false → exec (.lcRequest t p h payload) s = .next
      ((u.newNonce.raise 0x4C05 0xFF).replied p w.req { status := 0x10, detail := 5 }))) ∧
  (∀ (s : State) (target : Nat) (keyed sig : Bool), s.ward.lc ≤ 5 → s.lcAllowed target keyed sig = true → lcStep s.ward.lc target = true ∧
    (sig = true ∨ (keyed = true ∧ target = 5))) ∧
  (∀ (t : Nat) (p : GdpPath) (h : ReqHead) (payload b : Bytes) (s u : State) (x : Session) (w : RowWrite) (k : OKey),
    w = .record t .DEBUG_UNLOCK p h payload → b = ovBytes (w.taken u k) →
    (Served w s u x k → (u.ward.lc = 2 ∨ u.ward.lc = 3 ∨ u.ward.lc = 4) ∧ u.confBits = 0 ∧
      (leAt b 0 1 = 0 → u.isSigned b = true → ∀ y : State, y = u.newNonce → exec (.debugUnlock t p h payload) s = .next (w.answered u
        (({ y with ward := { y.ward.extend 4 y.debugRecord with jtag := true } } : State).raise 0x4C04 0xFF) x k)) ∧
      ((leAt b 0 1 ≠ 0 ∨ u.isSigned b = false) → exec (.debugUnlock t p h payload) s = .next
        ((u.newNonce.raise 0x4C05 0xFF).replied p w.req { status := 0x10, detail := 5 }))) ∧
    (Permitted w s u x k → (u.ward.lc = 2 ∨ u.ward.lc = 3 ∨ u.ward.lc = 4) → u.confBits ≠ 0 →
      exec (.debugUnlock t p h payload) s = .next (u.replied p w.req { status := 0x10, detail := 8 })) ∧
    (Permitted w s u x k → (u.ward.lc < 2 ∨ 4 < u.ward.lc) → exec (.debugUnlock t p h payload) s = .next (u.replied p w.req { status := 0x10, detail := 5 }))) ∧
  (∀ (t target : Nat) (s y : State), s.ward.erasing = some target → s.boot.ward = true →
    y = { s.at t with
      ward := { s.ward with erasing := none, lc := target
                            returns := if target = 4 then s.ward.returns + 1 else s.ward.returns
                            uds := if target = 5 then false else s.ward.uds || target == 2 }
      store := if target = 5 then [] else s.store } →
    exec (.lcErasuresDone t) s = .next (((y.raise 0x1C03 0xFF 0 s.ward.lc target).saveAll).warmRestart 2) ∧
    Ends (.lcErasuresDone t) s (fun x => x.ward.lc = target ∧ x.ward.erasing = none))

/-- Attestation and the host link (R490, R506, R515, R608, log 33). While its connection is up, SPDM answers each request in order with its answer: VERSION begins the connection
anew, digests and certificates are those of this boot's chain, a challenge and measurements are answered with a fresh nonce under the Alias key, and a
request before its stage is answered with UnexpectedRequest. IDE_KM keys, establishes and stops a stream. A configuration request answers Request Retry
Status until HOST_READY, then NumVFs, TotalVFs, First VF Offset and VF Stride of the physical function, and sets NumVFs up to 63.
The model's choices in it: logs 33, 35, 36. -/
def Obligations.AttestationAndHostLink : Prop :=
  (∀ (t : Nat) (c : SpdmConn) (s : State), connOk c = true → s.spdmUp c = true →
    exec (.spdmGetVersion t c) s = .next { (s.at t).putStage c 1 with out := [.spdm c (.version [0x12])] } ∧
    (s.spdmStage c < 1 → exec (.spdmGetCapabilities t c) s = .next { s.at t with out := [.spdm c (.error 4)] }) ∧
    (1 ≤ s.spdmStage c → exec (.spdmGetCapabilities t c) s = .next { (s.at t).putStage c 2 with out := [.spdm c .capabilities] }) ∧
    (s.spdmStage c < 2 → exec (.spdmNegotiateAlgorithms t c) s = .next { s.at t with out := [.spdm c (.error 4)] }) ∧
    (2 ≤ s.spdmStage c → exec (.spdmNegotiateAlgorithms t c) s = .next { (s.at t).putStage c 3 with out := [.spdm c .algorithms] }) ∧
    (s.spdmStage c < 3 → ∀ slot off len which nonce,
      exec (.spdmGetDigests t c) s = .next { s.at t with out := [.spdm c (.error 4)] } ∧
      exec (.spdmGetCertificate t c slot off len) s = .next { s.at t with out := [.spdm c (.error 4)] } ∧
      exec (.spdmChallenge t c nonce) s = .next { s.at t with out := [.spdm c (.error 4)] } ∧
      exec (.spdmGetMeasurements t c which nonce) s = .next { s.at t with out := [.spdm c (.error 4)] }) ∧
    (3 ≤ s.spdmStage c →
      exec (.spdmGetDigests t c) s = .next { s.at t with out := [.spdm c (.digests [sha384 s.chain])] } ∧
      (∀ off len, off < s.chain.length → exec (.spdmGetCertificate t c 0 off len) s = .next { s.at t with out := [.spdm c
        (.certificate 0 ((s.chain.drop off).take len) (s.chain.length - off - min len (s.chain.length - off)))] }) ∧
      (∀ slot off len, (slot ≠ 0 ∨ s.chain.length ≤ off) → exec (.spdmGetCertificate t c slot off len) s = .next { s.at t with out := [.spdm c (.error 1)] }) ∧
      (∀ (nonce : Bytes) (r : State × Bytes), r = (s.at t).random 32 → exec (.spdmChallenge t c nonce) s = .next { r.1.drawn with
        out := [.spdm c (.challengeAuth (sha384 s.chain) r.2 (Config.aliasSign (s.measReg 0) (sha384 s.chain ++ nonce ++ r.2) r.1.free))] }) ∧
      (∀ (which : Nat) (nonce : Bytes) (r : State × Bytes) (l : List (Nat × Bytes)), r = (s.at t).random 32 →
        l = (if which = 0 then [] else if which = 0xFF then s.measBlocks c else (s.measBlocks c).filter (fun b => b.1 == which)) → (which = 0 ∨ l ≠ []) →
        exec (.spdmGetMeasurements t c which nonce) s = .next { r.1.drawn with out := [.spdm c (.measurements (s.measBlocks c).length l r.2
          (Config.aliasSign (s.measReg 0) (leBytes 1 (s.measBlocks c).length ++ l.flatMap (fun b => leBytes 1 b.1 ++ b.2) ++ nonce ++ r.2) r.1.free))] }))) ∧
  (∀ (t kw stream : Nat) (s : State), kw < 64 → stream < 9 → s.spdmUp (.doe kw) = true →
    (∀ k now, now = mapGet s.ward.streams stream 0 →
      Does (.ideKm t kw stream k) s [.now, .out, .ward] (fun x => x.ward = { s.ward with streams := x.ward.streams } ∧
        (∀ j, j ≠ stream → mapGet x.ward.streams j 0 = mapGet s.ward.streams j 0) ∧
        mapGet x.ward.streams stream 0 = if k = 1 ∧ now = 0 then 1 else if k = 2 ∧ now ≠ 0 then 2 else if k = 3 then 0 else now))) ∧
  (∀ (t fn reg v : Nat) (w : Bool) (s : State), fn < 64 → s.boot.link = true →
    (s.boot.ready = false → exec (.configRequest t fn w reg v) s = .next { s.at t with out := [.config fn .retry] }) ∧
    (s.boot.ready = true →
      (s.fnHere fn = false → exec (.configRequest t fn w reg v) s = .next { s.at t with out := [.config fn .unsupported] }) ∧
      (fn = 0 → reg < 4 → exec (.configRequest t fn false reg v) s = .next { s.at t with out := [.config fn (.ok ([s.ward.vfs, 63, 1, 1].getD reg 0))] }) ∧
      (fn = 0 → v ≤ 63 → exec (.configRequest t fn true 0 v) s = .next { s.at t with
        ward := { s.ward with vfs := v }, out := [.config fn (.ok 0)] }) ∧
      (s.fnHere fn = true → (fn ≠ 0 ∨ reg ≠ 0 ∨ 63 < v) → exec (.configRequest t fn true reg v) s = .next { s.at t with out := [.config fn (.ok 0)] }) ∧
      (s.fnHere fn = true → (fn ≠ 0 ∨ 4 ≤ reg) → Does (.configRequest t fn false reg v) s [.now, .out, .free] (fun x =>
        ∃ y, y < 2 ^ 32 ∧ x.out = [.config fn (.ok y)]))))

/-! ### Power, heat and the sense block (spec/13) -/

/-- Phases and setpoints (R531, R532). A domain that sheds and needs a further phase gets it; a phase that has not been needed for 100 µs is dropped.
With AVS_ENABLE 0 reports change nothing. A report at or above the low mark moves no setpoint; one below it raises the die's setpoint by 5 mV, to 850 mV
at most and at most once per 10 µs; at 850 mV it raises event 0x4D07.
The model's choices in it: log 38. -/
def Obligations.PhasesAndSetpoints : Prop :=
  (∀ (t k : Nat) (s : State), k < 24 → s.sheds k = true →
    (s.phasesOn k < s.phasesNeeded k → exec (.phaseAdd t k) s = .next { s.at t with pwr := { s.pwr with
      phases := mapSet s.pwr.phases k (s.phasesOn k + 1) } }) ∧
    (s.phasesNeeded k ≤ s.phasesOn k → exec (.phaseAdd t k) s = .next (s.at t)) ∧
    (∀ b, mapFind s.pwr.spareAt (phaseKey k (s.phasesOn k)) = some b → s.phasesNeeded k < s.phasesOn k → b + 100000000 ≤ max s.now t →
      exec (.phaseDrop t k) s = .next { s.at t with pwr := { s.pwr with phases := mapSet s.pwr.phases k (s.phasesOn k - 1) } }) ∧
    ((s.phasesOn k ≤ s.phasesNeeded k ∨ ∀ b, mapFind s.pwr.spareAt (phaseKey k (s.phasesOn k)) = some b → max s.now t < b + 100000000) →
      exec (.phaseDrop t k) s = .next (s.at t))) ∧
  (∀ (t die mon : Nat) (slack : Int) (s : State), die < 4 →
    (s.set0 .AVS_ENABLE = 0 → exec (.avsSlackReport t die mon slack) s = .next (s.at t)) ∧
    (s.set0 .AVS_ENABLE ≠ 0 → Config.avsLow die mon ≤ slack →
      Does (.avsSlackReport t die mon slack) s [.now, .out, .pwr] (fun x => x.pwr.vcore = s.pwr.vcore ∧ x.pwr.rose = s.pwr.rose)) ∧
    (s.set0 .AVS_ENABLE ≠ 0 → slack < Config.avsLow die mon → s.pwr.vcore.getD die 750 < 850 →
      ((∀ b, mapFind s.pwr.rose die = some b → b + 10000000 ≤ max s.now t) →
        Does (.avsSlackReport t die mon slack) s [.now, .out, .pwr] (fun x =>
          x.pwr.vcore = s.pwr.vcore.set die (min 850 (s.pwr.vcore.getD die 750 + 5)) ∧ x.pwr.rose = mapSet s.pwr.rose die (max s.now t))) ∧
      (∀ b, mapFind s.pwr.rose die = some b → max s.now t < b + 10000000 →
        Does (.avsSlackReport t die mon slack) s [.now, .out, .pwr] (fun x => x.pwr.vcore = s.pwr.vcore ∧ x.pwr.rose = s.pwr.rose))) ∧
    (s.set0 .AVS_ENABLE ≠ 0 → slack < Config.avsLow die mon → 850 ≤ s.pwr.vcore.getD die 750 →
      ∃ y : State, Writes [.now, .out, .pwr] s y ∧ y.pwr.vcore = s.pwr.vcore ∧ y.pwr.rose = s.pwr.rose ∧
        exec (.avsSlackReport t die mon slack) s = .next (y.raise 0x4D07 0xFF (uidDie die))))

/-- Rail faults and trips (R533, R558–R560, R602, Table 13.2). A fault of a domain that is on is counted and raises 0x8D03 with the domain and the kind; a
monitor fault leaves the domain on, its current counted at its limit; every other kind turns it off for good, and it is lost: a VCORE quadrant is FAULTED,
the engines of a VANA die are isolated for a fault, the loss of VHUB, VSERDES or VMEM ends serving in limited service. A domain that is off has no fault.
A trip raises 0xCD01 with its source, drives THERM_TRIP_N low and turns every domain but VAUX off. -/
def Obligations.RailFaultsAndTrips : Prop :=
  (∀ (t k kind unit : Nat) (c : Instr) (s y : State), k < 24 →
    ((c = .railOvervoltage t k ∧ kind = 1) ∨ (c = .railUndervoltage t k ∧ kind = 2) ∨ (c = .railOvercurrent t k ∧ kind = 3) ∨
      (c = .imonMonitorFault t k ∧ kind = 4 ∧ s.pwr.monFault.contains k = false)) →
    unit = (if k < 16 then uidQuad k else if k < 20 then uidDie (k - 16) else 0) →
    y = ((s.at t).inc .RAIL_FAULT_COUNT).raise 0x8D03 0xFF unit k kind →
    (s.railOn k = false → exec c s = .next (s.at t)) ∧
    (s.railOn k = true → kind = 4 → exec c s = .next { y with pwr := { y.pwr with monFault := s.pwr.monFault.filter (· != k) ++ [k] } }) ∧
    (s.railOn k = true → kind ≠ 4 → exec c s = .next (({ y with pwr := { y.pwr with
      rails := mapSet s.pwr.rails k 2
      lowFrom := if kind = 1 then mapSet s.pwr.lowFrom k (max s.now t) else s.pwr.lowFrom } } : State).railLoss k))) ∧
  (∀ (t k unit : Nat) (s y : State), k < 24 → unit = (if k < 16 then uidQuad k else if k < 20 then uidDie (k - 16) else 0) →
    y = ((s.at t).inc .RAIL_FAULT_COUNT).raise 0x8D03 0xFF unit k 5 →
    s.starting = true → (upRails (s.boot.steps + 1)).contains k = true → mapFind s.pwr.rails k = none →
    exec (.railStartTimeout t k) s = .next (({ y with pwr := { y.pwr with rails := mapSet s.pwr.rails k 2 } } : State).railLoss k)) ∧
  (∀ (k : Nat) (s : State),
    (k < 16 → (s.railLoss k).hier.own = mapSet (mapSet s.hier.own (uidQuad k) ((s.ownState (uidQuad k)).worse .isolated)) (uidQuad k)
      (((s.ownState (uidQuad k)).worse .isolated).worse .faulted)) ∧
    (16 ≤ k → k < 20 → s.railLoss k =
      ((List.range (s.numEngines / 4)).map (fun i => s.uidEngine ((k - 16) * (s.numEngines / 4) + i))).foldl State.isolateFault s) ∧
    (20 ≤ k → k < 23 → s.railLoss k = s.enterLimited 16) ∧
    (k = 23 → (s.railLoss k).boot.trip = true ∧ ∀ j, j < 24 → (s.railLoss k).railOn j = false)) ∧
  (∀ (t src : Nat) (s : State), tripSource src = true →
    ((s.boot.trip = true ∨ s.railOn 23 = false) → exec (.thermTrip t src) s = .next (s.at t)) ∧
    (s.boot.trip = false → s.railOn 23 = true →
      exec (.thermTrip t src) s = .next ((s.at t).tripNow.raise 0xCD01 0xFF (unitOfSource src) src) ∧
      (s.at t).tripNow.boot.trip = true ∧ (s.at t).tripNow.railOn 23 = true ∧ (∀ k, k < 23 → (s.at t).tripNow.railOn k = false) ∧
      (s.at t).tripNow.srv.reqs = [] ∧ (s.at t).tripNow.kwMem = []))

/-- Power samples and temperatures (R534, R535, R546, R553). A sample's package power is the sum of voltage times current over the 24 domains, and its energy
is that over 10 µs; the guard then stalls work while P1 is above 1,450 W or P10 above 1.05 times the limit, until P1 is below 0.9 times it. A converter's
reading of the channel it has chosen next is published in that channel's record, and a stack's in MEM_TEMPS; other channels and stacks keep theirs.
The model's choices in it: logs 37, 39. -/
def Obligations.PowerAndTemperatures : Prop :=
  (∀ (t : Nat) (mv : List Nat) (imon : List Int) (s y : State), mv.length = 24 → imon.length = 24 → y = (s.at t).takeSample mv imon →
    exec (.packagePowerSample t mv imon) s = .next y.guard ∧
    (∀ k, k < 24 → mapGet y.pwr.mv k 0 = mv.getD k 0 ∧ mapGet y.pwr.ua k 0 = s.imonCurrent k (imon.getD k 0)) ∧
    (∃ mw : Nat, mw = sumNat ((List.range 24).map (fun k => mv.getD k 0 * y.current k)) / 1000000 ∧
      y.pwr.samples = (mw :: s.pwr.samples).take 1000 ∧ y.pwr.energy = s.pwr.energy + 10 * mw) ∧
    (s.pwr.stalled = false → (y.guard.pwr.stalled = true ↔ y.p1 > 1450000 ∨ 100 * y.p10 > 105 * (1000 * y.guardLimit))) ∧
    (s.pwr.stalled = true → (y.guard.pwr.stalled = false ↔ y.p1 ≤ 1450000 ∧ 100 * y.p10 ≤ 105 * (1000 * y.guardLimit) ∧
      10 * y.p1 < 9 * (1000 * y.guardLimit)))) ∧
  (∀ (t chan conv raw : Nat) (s : State) (v : Int × Bool), chan < 40 → conv < 2 → v = s.chanValue chan (raw % 2 ^ 24) →
    ((s.convBusy conv = true ∨ s.syscalHolds chan = true ∨ s.converts conv chan = false ∨
        (∃ n, mapFind s.sense.next conv = some n ∧ n ≠ chan ∧ s.syscalHolds n = false ∧ s.converts conv n = true)) →
      exec (.senseReading t chan conv raw) s = .next (s.at t)) ∧
    (s.convBusy conv = false → s.syscalHolds chan = false → s.converts conv chan = true →
      (∀ n, mapFind s.sense.next conv = some n → n = chan ∨ s.syscalHolds n = true ∨ s.converts conv n = false) → Ends (.senseReading t chan conv raw) s (fun x =>
      mapFind x.sense.readings chan = some ((s.at t).newReading chan conv (raw % 2 ^ 24) v) ∧
      (∀ c, c ≠ chan → mapFind x.sense.readings c = mapFind s.sense.readings c) ∧ x.sense.memTemps = s.sense.memTemps ∧
      x.sense.mode = s.sense.mode ∧ x.sense.cal = s.sense.cal ∧ x.pwr.rails = s.pwr.rails))) ∧
  (∀ (t stack : Nat) (temp : Int) (s : State), stack < 8 → Ends (.memTempReading t stack temp) s (fun x =>
    x.sense = { s.sense with memTemps := mapSet s.sense.memTemps stack (16 * temp) }))

/-- The cross-check and system calibration (R547–R552, Tables 13.5 to 13.7). A check passes when the values differ by at most XCHK_TOL and both lie within 6 mV
of 600 mV; the third failure in a row enters the state it indicates and is counted; 16 passes in a row return to NORMAL; a converter that self-calibrates
suspends the check. The first capture is the zero; the second computes the gain, or is rejected with event 0x4D06 beyond the limits. 60 s after step 1 the procedure is
discarded. -/
def Obligations.CrossCheckAndSystemCalibration : Prop :=
  (∀ (t : Nat) (a b : Int) (s y : State) (pass : Prop),
    (pass ↔ (a - b).natAbs ≤ s.set0 .XCHK_TOL ∧ (a - 600000).natAbs ≤ 6000 ∧ (b - 600000).natAbs ≤ 6000) →
    (s.sense.selfBusy.isSome = true → exec (.xchk t a b) s = .next (s.at t)) ∧
    (s.sense.selfBusy = none → pass → Does (.xchk t a b) s [.now, .out, .sense] (fun x => x.sense = { s.sense with
      xDiff := a - b, xFails := 0, xPasses := s.sense.xPasses + 1, mode := if 16 ≤ s.sense.xPasses + 1 then 0 else s.sense.mode })) ∧
    (s.sense.selfBusy = none → ¬pass → y = { s.at t with sense := { s.sense with xDiff := a - b, xFails := s.sense.xFails + 1, xPasses := 0 } } →
      ((s.sense.xFails < 2 ∨ s.sense.mode = xchkState a b) → exec (.xchk t a b) s = .next y) ∧
      (2 ≤ s.sense.xFails → s.sense.mode ≠ xchkState a b → exec (.xchk t a b) s = .next (y.enterSense (xchkState a b)) ∧
        (y.enterSense (xchkState a b)).sense.mode = xchkState a b))) ∧
  (∀ (t : Nat) (v : Int) (s : State), s.sense.selfBusy ≠ some (s.convOf (s.set0 .SYSCAL_CHAN)) →
    (s.sense.cal.capture = some 1 → exec (.syscalCaptureDone t v) s = .next ((s.at t).putCal { s.sense.cal with capture := none, zero := v, status := 1 })) ∧
    (s.sense.cal.capture = some 2 → ∀ d : Int, d = v - s.sense.cal.zero →
      (s.sense.cal.zero.natAbs ≤ 24000 → 0 < d → 95 * d ≤ 100 * (s.set0 .SYSCAL_FS_VALUE : Int) → 100 * (s.set0 .SYSCAL_FS_VALUE : Int) ≤ 105 * d →
        exec (.syscalCaptureDone t v) s = .next ((s.at t).putCal { s.sense.cal with
          capture := none, gain := ratioF32 (s.set0 .SYSCAL_FS_VALUE) d, status := 2 })) ∧
      ((24000 < s.sense.cal.zero.natAbs ∨ d ≤ 0 ∨ 100 * (s.set0 .SYSCAL_FS_VALUE : Int) < 95 * d ∨ 105 * d < 100 * (s.set0 .SYSCAL_FS_VALUE : Int)) →
        exec (.syscalCaptureDone t v) s =
          .next (((s.at t).putCal { s.sense.cal with capture := none, status := 4 }).raise 0x4D06 0xFF (uidHub 0)))) ∧
    (s.sense.cal.capture = none → exec (.syscalCaptureDone t v) s = .next (s.at t))) ∧
  (∀ (t b : Nat) (s : State), s.sense.cal.started = some b →
    (b + 60000000000000 ≤ max s.now t → exec (.syscalTimeout t) s = .next ((s.at t).putCal { s.sense.cal with
      status := 0, started := none, capture := none })) ∧
    (max s.now t < b + 60000000000000 → exec (.syscalTimeout t) s = .next (s.at t)))

/-! ### Faults, records and tests (spec/14) -/

/-- The event recorder (R575, R576, R578, R579, R582, R583, Table 14.7; its CRC and the ring's sectors as logs 5 and 41 say). An event joins the queue of 4,096, a critical
one before every other class; one that meets a full queue is dropped and counted, and the next record carries LOSS. While the Ward runs, the first event of
the queue is written: its record takes the next SEQ, goes to the end of the ring, carries LOSS after a loss, and holds SEQ, CODE, KEYWAY, the unit, the payload, its CRC and VALID at their places. A
held-back EVT_VECTOR is signalled once at the end of its gap; a token that arrives for a pair with suppressed events is taken by a SUMMARY record; the
heartbeat goes to the sink each EVT_HEARTBEAT ms. -/
def Obligations.EventsAreRecorded : Prop :=
  (∀ (t : Nat) (e : Event) (q : List Event) (s : State), s.evt.queue = e :: q →
    (s.boot.ward = true → exec (.eventRecordWrite t) s = .next (({ s.at t with evt := { s.evt with queue := q } } : State).writeEvent e)) ∧
    (s.boot.ward = false → exec (.eventRecordWrite t) s = .next (s.at t))) ∧
  (∀ (t : Nat) (s : State), s.evt.queue = [] → exec (.eventRecordWrite t) s = .next (s.at t)) ∧
  (∀ (e : Event) (flags : Nat) (payload : Bytes) (s : State) (r : EvRecord), r = (s.putRecord e flags payload).2 →
    r.seq = s.evt.nextSeq ∧ r.bytes = s.recordBytes e s.evt.nextSeq
      (flags + (if s.redacted e.kw then 1 else 0) + (if s.evt.loss then 16 else 0)) (if s.redacted e.kw then zeros 24 else payload) ∧
    (s.putRecord e flags payload).1.evt.nextSeq = s.evt.nextSeq + 1 ∧ (s.putRecord e flags payload).1.evt.loss = false ∧
    (s.putRecord e flags payload).1.evt.ring = ringAdd s.evt.ring r ∧
    (∀ x, x ∈ ringAdd s.evt.ring r → x ∈ s.evt.ring ∨ x = r) ∧ r ∈ ringAdd s.evt.ring r ∧
    (∀ x, x ∈ s.evt.ring → r.seq ≤ x.seq + 130048 → x ∈ ringAdd s.evt.ring r)) ∧
  (∀ (e : Event) (v : EvtS),
    (4096 ≤ v.queue.length → (v.enqueue e).queue = v.queue ∧ (v.enqueue e).loss = true ∧
      (∀ n, v.dropped.find? (fun p => p.1 == e.kw) = some (e.kw, n) → (v.enqueue e).dropped.find? (fun p => p.1 == e.kw) = some (e.kw, n + 1)) ∧
      (v.dropped.find? (fun p => p.1 == e.kw) = none → (v.enqueue e).dropped = v.dropped ++ [(e.kw, 1)])) ∧
    (v.queue.length < 4096 → (v.enqueue e).dropped = v.dropped ∧ (v.enqueue e).loss = v.loss ∧
      (evClass e.code ≠ 0xC → (v.enqueue e).queue = v.queue ++ [e]) ∧
      (evClass e.code = 0xC →
        (v.enqueue e).queue = v.queue.filter (fun x => evClass x.code == 0xC) ++ e :: v.queue.filter (fun x => evClass x.code != 0xC)))) ∧
  (∀ (e : Event) (seq flags : Nat) (payload b : Bytes) (s : State), payload.length = 24 → b = s.recordBytes e seq flags payload →
    b.length = 64 ∧ leAt b 0 4 = seq % 2 ^ 32 ∧ leAt b 4 2 = e.code % 2 ^ 16 ∧ leAt b 6 1 = flags % 2 ^ 8 ∧ leAt b 7 1 = e.kw % 2 ^ 8 ∧
    leAt b 8 4 = s.evt.cycles % 2 ^ 32 ∧ leAt b 12 4 = s.opMsNow / 3600000 % 2 ^ 32 ∧ leAt b 16 4 = s.opMsNow % 3600000 ∧ leAt b 20 4 = e.unit % 2 ^ 32 ∧
    leAt b 24 8 = e.notch % 2 ^ 64 ∧ leAt b 32 2 = e.suppressed % 2 ^ 16 ∧ (b.drop 34).take 24 = payload ∧
    leAt b 58 4 = crc32c (b.take 58) % 2 ^ 32 ∧ leAt b 62 2 = 0x5AA5) ∧
  (∀ (t fn : Nat) (s : State), fn < 64 →
    (s.evt.irqHeld.contains fn = true → (∀ b, mapFind s.evt.irqLast fn = some b → (s.at t).notchesPast b 16 = true) →
      exec (.evtIrqGapEnd t fn) s = .next { s.at t with
        evt := { s.evt with irqHeld := s.evt.irqHeld.filter (· != fn), irqLast := mapSet s.evt.irqLast fn (s.at t).notchClock }
        out := [.msix fn (s.setK .EVT_VECTOR fn)] }) ∧
    (s.evt.irqHeld.contains fn = false → exec (.evtIrqGapEnd t fn) s = .next (s.at t))) ∧
  (∀ (t code kw : Nat) (s : State) (b r : Bucket), findBucket s.evt.buckets code kw = some b →
    r = b.refill (max s.now t) (s.set0 .EVT_RATE_PERIOD * 1000000000) (s.set0 .EVT_RATE_BURST) →
    (b.suppressed ≠ 0 → 0 < r.tokens → exec (.rateTokenSummary t code kw) s = .next { s.at t with
      evt := ({ s.evt with buckets := putBucket s.evt.buckets { r with tokens := r.tokens - 1, suppressed := 0 } } : EvtS).enqueue
        { code := code, kw := kw, notch := (s.at t).notchTime, suppressed := min 65535 b.suppressed, summary := true } }) ∧
    ((b.suppressed = 0 ∨ r.tokens = 0) → exec (.rateTokenSummary t code kw) s = .next (s.at t))) ∧
  (∀ (t : Nat) (s : State), s.boot.ward = true → s.sink = true → s.evt.hbLast + s.set0 .EVT_HEARTBEAT * 1000000000 ≤ max s.now t →
    exec (.evtHeartbeat t) s = .next { s.at t with
      evt := { s.evt with hbLast := max s.now t }
      out := [.datagram (gdpFrame 1 0 (s.newestSeq none % 65536) 0x6100 0x01 0 0 0 (leBytes 4 (s.newestSeq none)))] })

/-- Operating time and the Ward watchdog (R577, R585, R586). The count is persisted at each whole hour while the Ward runs; the Ward restarts its watchdog;
100 ms without a restart reset the Ward and are counted, while serving goes on and the Ward may boot again; a third expiry within 10 minutes holds it, and
the stop waits for the boundary. -/
def Obligations.OperatingTimeAndWatchdog : Prop :=
  (∀ (t : Nat) (s : State), s.boot.ward = true →
    (s.evt.opSaved < (s.at t).opMsNow / 3600000 * 3600000 →
      exec (.opHourPersist t) s = .next { s.at t with evt := { s.evt with opSaved := (s.at t).opMsNow / 3600000 * 3600000 } }) ∧
    ((s.at t).opMsNow / 3600000 * 3600000 ≤ s.evt.opSaved → exec (.opHourPersist t) s = .next (s.at t)) ∧
    exec (.wardWdtRestart t) s = .next { s.at t with evt := { s.evt with wdtLast := max s.now t } }) ∧
  (∀ (t : Nat) (s : State), (s.boot.por = false ∨ s.boot.v3p3 = false ∨ s.railOn 23 = false ∨ s.evt.wdtHeld = true ∨
    max s.now t < s.evt.wdtLast + 100000000000) → exec (.wardWdtExpiry t) s = .next (s.at t)) ∧
  (∀ (t : Nat) (s : State) (recent : List Nat), s.boot.por = true → s.boot.v3p3 = true → s.railOn 23 = true → s.evt.wdtHeld = false →
    s.evt.wdtLast + 100000000000 ≤ max s.now t →
    recent = s.evt.wdtTimes.filter (fun x => decide (max s.now t < x + 600000000000000)) ++ [max s.now t] →
    s.count ⟨.WARD_WDT_RESETS, 0, 0⟩ + 1 < 2 ^ 32 →
    (recent.length < 3 → Does (.wardWdtExpiry t) s [.now, .out, .cnt, .evt, .boot] (fun x =>
      x.boot.ward = false ∧ x.evt.wdtHeld = false ∧ x.evt.wdtBack = true ∧ x.evt.wdtStop = false ∧ x.evt.wdtTimes = recent ∧
      x.evt.wdtLast = max s.now t ∧ x.evt.queue = s.evt.queue ∧ x.evt.ring = s.evt.ring ∧ x.evt.opMs = (s.at t).opMsNow ∧ x.boot.state = s.boot.state ∧
      x.count ⟨.WARD_WDT_RESETS, 0, 0⟩ = s.count ⟨.WARD_WDT_RESETS, 0, 0⟩ + 1 ∧ x.alertLow = true)) ∧
    (3 ≤ recent.length → s.beat.mode ≠ .seeking → Does (.wardWdtExpiry t) s [.now, .out, .cnt, .evt, .boot] (fun x =>
      x.boot.ward = false ∧ x.evt.wdtHeld = true ∧ x.evt.wdtBack = false ∧ x.evt.wdtStop = true ∧ x.evt.wdtTimes = recent ∧
      x.count ⟨.WARD_WDT_RESETS, 0, 0⟩ = s.count ⟨.WARD_WDT_RESETS, 0, 0⟩ + 1 ∧ x.alertLow = true)))

/-- Tests and repair (R569, R592–R595, Table 14.12). A quarantine that is over is followed by the known-answer test; a test that passes with no earlier mismatch
lets its unit return at the boundary, every other leaves it FAULTED and kept so. BIST_AUTH of a signed record in MANUFACTURE or RETURN grants its authority and
changes LC_NONCE; another is refused with 0x4C05. A logic BIST run ends with its result and returns the unit to its state of before; an array test
ends with its result, every failing column remapped.
The model's choices in it: logs 43, 44. -/
def Obligations.UnitsAreTestedAndRepaired : Prop :=
  (∀ (t v u : Nat) (s : State), s.canonUnit v = some u →
    ((s.at t).quarantineOver u = true → s.bist.kat.contains u = false →
      exec (.residueQuarantineEnd t v) s = .next { s.at t with bist := { s.bist with kat := s.bist.kat ++ [u] } }) ∧
    ((s.at t).quarantineOver u = false → exec (.residueQuarantineEnd t v) s = .next (s.at t))) ∧
  (∀ (t v u : Nat) (b : BeatMark) (mismatch pass ok : Bool) (s : State) (r : Bytes), s.canonUnit v = some u → s.bist.kat.contains u = true →
    s.beat.phase = .quiet → (s.at t).boundaryDue = false → mapFind s.evt.quarantine u = some (b, mismatch) → ok = (pass && !(s.at t).earlierMismatch u mismatch) →
    r = bistResult u 3 (if pass then 0 else 1) (Config.freeNat s.free) 0xFFFFFFFF (Config.freeNat (s.free + 1)) (Config.freeNat (s.free + 2)) →
    ∀ y : State, y = { s.at t with
      free := s.free + 3
      evt := { s.evt with quarantine := mapDel s.evt.quarantine u }
      bist := { s.bist with
        kat := s.bist.kat.filter (· != u)
        result := r
        katOk := if ok then s.bist.katOk ++ [u] else s.bist.katOk
        kept := if ok then s.bist.kept else s.bist.kept.filter (· != u) ++ [u] }
      hier := if ok then s.hier else { s.hier with own := mapSet s.hier.own u ((s.ownState u).worse .faulted) } } →
    exec (.katDone t v pass) s = .next ((y.inc .KAT_COUNT).raise (if pass then 0x1E03 else 0x8E02) 0xFF u)) ∧
  (∀ (t : Nat) (p : GdpPath) (h : ReqHead) (payload b : Bytes) (s u : State) (x : Session) (w : RowWrite) (k : OKey),
    w = .record t .BIST_AUTH p h payload → b = ovBytes (w.taken u k) →
    (Served w s u x k → leAt b 0 1 = 0x20 → u.isSigned b = true → exec (.bistAuth t p h payload) s = .next (w.answered u
      ({ u with bist := { u.bist with auth := true } } : State).newNonce x k)) ∧
    (Served w s u x k → (u.ward.lc = 1 ∨ u.ward.lc = 4) ∧ ((leAt b 0 1 ≠ 0x20 ∨ u.isSigned b = false) → exec (.bistAuth t p h payload) s = .next
      ((u.newNonce.raise 0x4C05 0xFF).replied p w.req { status := 0x10, detail := 5 }))) ∧
    (Permitted w s u x k → u.ward.lc ≠ 1 → u.ward.lc ≠ 4 → exec (.bistAuth t p h payload) s = .next
      (u.replied p w.req { status := 0x10, detail := 5 }))) ∧
  (∀ (t n misr want u : Nat) (first : Option Nat) (prior : UState) (s y z : State), s.bist.lbist = some (u, prior) → n = s.set0 .LBIST_PATTERNS →
    want = Config.lbistSig (uidType u) n →
    y = { s.at t with
      bist := { s.bist with
        lbist := none
        result := bistResult u 1 (if first = none then 0 else 1) n (first.getD 0xFFFFFFFF) (if first = none then want else misr) want
        lbistOk := if first = none then s.bist.lbistOk.filter (· != u) ++ [u] else s.bist.lbistOk.filter (· != u) }
      hier := { s.hier with isolate := s.hier.isolate.filter (· != u) } } →
    z = (if s.ownState u = .isolated then y.setOwn u prior else y) →
    exec (.lbistDone t first misr) s = .next (z.repairs.raise (if first = none then 0x1E04 else 0x8E07) 0xFF u)) ∧
  (∀ (t eng : Nat) (bad : List (Nat × Nat × Nat)) (tiers : List Nat) (cols : List (Nat × Nat)) (pass : Bool) (s y : State), s.bist.array = some eng →
    tiers = (List.range 4).filter (fun i => ((s.engine eng).tier i).health != .worn) → cols = (bad.map (fun b => (b.1, b.2.2))).eraseDups →
    y = { s.at t with bist := { s.bist with
      array := none
      result := bistResult (s.uidEngine eng) 2 (if pass then 0 else 1) tiers.length
        (match cols with | [] => 0xFFFFFFFF | c :: _ => c.1 % 4 * 16384 + c.2 % 512) bad.length 0
      arrayOk := if pass then s.bist.arrayOk.filter (· != eng) ++ [eng] else s.bist.arrayOk.filter (· != eng) } } →
    exec (.arrayTestDone t bad pass) s = .next
      ((cols.foldl (fun (x : State) c => x.cellRemap eng (c.1 % 4) (c.2 % 512)) (tiers.foldl (fun (x : State) i => x.arrayTier eng i) y)).repairs)) ∧
  (∀ (t : Nat) (first : Option Nat) (misr : Nat) (bad : List (Nat × Nat × Nat)) (pass : Bool) (s : State),
    (s.bist.lbist = none → exec (.lbistDone t first misr) s = .next (s.at t)) ∧
    (s.bist.array = none → exec (.arrayTestDone t bad pass) s = .next (s.at t)))

/-! ### Power-up, resets and firmware images (spec/15) -/

/-- Resets and the power sequence's end (R599, R600, R603, R604, R606, R607, Table 15.3). POR_N high starts the Ward ROM on VAUX, on a WARD image that
verifies or in recovery. POR_N low and the loss of V3P3_SB lose all volatile state and keep what stands in flash, fuses and cells. A step of the
power-down that ends goes on with the next step whose domains are on, or ends the stop. PERST# low starts the removal of every keyway, counted and
reported as event 0x4F03, and the beat goes on; PERST# high latches the enable of every keyway that was started and is enabled. -/
def Obligations.ResetsOfTheDevice : Prop :=
  (∀ (t : Nat) (s : State), (s.boot.por = true → exec (.porNRise t) s = .next (s.at t)) ∧
    (s.boot.por = false → Does (.porNRise t) s [.now, .out, .boot, .pwr, .evt] (fun x =>
      x.boot.por = true ∧ x.boot.v3p3 = true ∧ x.boot.trip = false ∧ x.boot.porAt = max s.now t ∧ x.boot.ward = false ∧ x.railOn 23 = true ∧
      x.boot.recovery = ((s.boot.loadKind 1).running 1).isNone ∧ x.evt.wdtLast = max s.now t))) ∧
  (∀ (t : Nat) (c : Instr) (s : State), ((c = .porNFall t ∧ s.boot.por = true) ∨ c = .v3p3SbLoss t) → Ends c s (fun x =>
    x.boot.por = false ∧ x.boot.v3p3 = (if c = .porNFall t then s.boot.v3p3 else false) ∧ x.boot.trip = false ∧ x.boot.ward = false ∧ x.boot.state = 0 ∧
    x.boot.banks = s.boot.banks ∧ x.store = s.store ∧ x.evt.ring = s.evt.ring ∧ x.evt.cycles = s.evt.cycles ∧ x.evt.opMs = s.evt.opSaved ∧
    x.ward.lc = s.ward.lc ∧ x.ward.mgmtKey = s.ward.mgmtKey ∧ x.ward.keys = [] ∧ x.kwMem = [] ∧ x.srv = {} ∧ x.kv = {} ∧ x.latch = {} ∧ x.gdp = {} ∧
    x.cfg = [] ∧ x.waiting = [] ∧ x.hostMem = s.hostMem ∧ x.pwr = {} ∧ x.sense = {} ∧ x.beat = {} ∧
    ∀ n, n < 16 → mapFind x.slots.slots n = (mapFind s.slots.slots n).map (fun y => { recA := y.recA.map s.recLost, recB := y.recB.map s.recLost }))) ∧
  (∀ (t : Nat) (s : State), s.boot.por = false → exec (.porNFall t) s = .next (s.at t)) ∧
  (∀ (t k : Nat) (r : List Nat) (s : State),
    (s.boot.down = [] → exec (.powerDownStep t) s = .next (s.at t)) ∧
    (s.boot.down = k :: r →
      (∀ j r', r.filter (fun i => (stepRails i).any s.railOn) = j :: r' → exec (.powerDownStep t) s =
        .next (({ s.at t with boot := { s.boot with down := j :: r' } } : State).downStep j)) ∧
      (r.filter (fun i => (stepRails i).any s.railOn) = [] → exec (.powerDownStep t) s = .next (s.at t).downEnd))) ∧
  (∀ (s : State),
    (s.boot.stopping = 1 → s.downEnd = ({ s with boot := { s.boot with down := [] } } : State).warmRestart 1) ∧
    (s.boot.stopping = 2 → s.downEnd = { s with boot := { s.boot with down := [], state := 8, stopping := 0 } }) ∧
    (∀ j, (s.downStep j).pending = s.pending ∧ ∀ k, k ∈ stepRails j → (s.downStep j).railOn k = false)) ∧
  (∀ (t : Nat) (s y : State), s.boot.v3p3 = true → s.boot.perst = false → y = (List.range 64).foldl State.kwReset (s.at t) →
    ∃ x : State, exec (.perstAssert t) s = .next x ∧
      x = (({ y with
        boot := { y.boot with perst := true, link := false }
        ward := { y.ward with vfs := 0, streams := [], spdm := y.ward.spdm.filter (fun c => match c.1 with | .doe _ => false | .i3c _ => true) }
        gdp := { y.gdp with
          select := y.gdp.select.filter (fun c => decide (c.session < 0x8000))
          blocks := y.gdp.blocks.filter (fun c => decide (c.session < 0x8000)) } } : State).inc .HOST_RESETS).raise 0x4F03 0xFF ∧
      x.beat.number = s.beat.number ∧ x.beat.last = s.beat.last ∧ x.beat.phase = s.beat.phase) ∧
  (∀ (t : Nat) (s : State), (s.boot.perst = true ∨ s.boot.v3p3 = false) → exec (.perstAssert t) s = .next (s.at t)) ∧
  (∀ (t : Nat) (s : State), (s.boot.perst = false → exec (.perstDeassert t) s = .next (s.at t)) ∧
    (s.boot.perst = true → Does (.perstDeassert t) s [.now, .out, .boot, .funcs] (fun x =>
      x.boot.perst = false ∧ x.boot.link = (s.hubUp && decide (3 ≤ s.boot.state) && s.boot.state != 8) ∧
      ∀ n, n < 64 →
        (s.boot.started.contains (.keyway n) = true → s.enabled (.keyway n) = true → ((s.func (.keyway n)).state = .off ∨ (s.func (.keyway n)).state = .closing) →
          x.func (.keyway n) = { s.func (.keyway n) with latched := true }) ∧
        ((s.boot.started.contains (.keyway n) = false ∨ s.enabled (.keyway n) = false ∨
          ((s.func (.keyway n)).state ≠ .off ∧ (s.func (.keyway n)).state ≠ .closing)) → x.func (.keyway n) = s.func (.keyway n)))))

/-- The power-up and firmware images (R585, R601, R608, R612, R614, R616, Table 15.1, Table 15.4). The WARD image starts at a power-up with BOOT_STATE 1 and
counts the boot, and after a watchdog reset without its sessions; then it answers the frames that wait in the mailboxes. The domains of Table 15.1 come up step by step, after the first the trip self-test, after
the last the receiver and memory BIST. HASP and STEW images that run and are qualified set HOST_READY; others bring limited service. An update that passes
its checks makes the inactive bank PENDING with the next sequence number; one that fails leaves both banks.
The model's choices in it: log 9. -/
def Obligations.BootRunsItsImages : Prop :=
  (∀ (t : Nat) (s : State), s.boot.por = true → s.boot.v3p3 = true → s.boot.ward = false → s.boot.recovery = false → s.evt.wdtHeld = false →
    s.railOn 23 = true →
    (s.boot.state = 0 → ∃ x : State, exec (.wardImageStart t) s = .next ((List.range 64).foldl State.serveHeld x) ∧
      x.boot.ward = true ∧ x.boot.state = 1 ∧ x.boot.cold = false ∧
      x.fab.bootCount = s.fab.bootCount + 1 ∧ x.evt.cycles = (if s.boot.cold then s.evt.cycles + 1 else s.evt.cycles) ∧
      x.evt.opSince = some (max s.now t) ∧ x.evt.wdtLast = max s.now t ∧ x.evt.wdtBack = false ∧ x.ward.kexId = s.ward.kexId + 1) ∧
    (s.boot.state ≠ 0 → s.evt.wdtBack = true → ∃ x : State, exec (.wardImageStart t) s = .next ((List.range 64).foldl State.serveHeld x) ∧
      x.boot.ward = true ∧ x.boot.state = s.boot.state ∧
      x.gdp.sessions = [] ∧ x.gdp.select = [] ∧ x.gdp.blocks = [] ∧ x.evt.opSince = some (max s.now t) ∧ x.evt.wdtBack = false ∧
      x.srv = s.srv ∧ x.slots = s.slots ∧ x.beat = s.beat ∧ x.gdp.boxes = s.gdp.boxes)) ∧
  (∀ (fn : Nat) (s : State),
    (((s.box fn).busy = false ∨ s.boot.link = false ∨ s.fnHere fn = false) → s.serveHeld fn = s) ∧
    ((s.box fn).busy = true → s.boot.link = true → s.fnHere fn = true → ∀ f : Bytes, f = boxFrame (s.box fn).req →
      frameCause f ≠ 0 → s.serveHeld fn = (s.putBox fn { s.box fn with busy := false, done := false, dropped := true }).badFrame (.mailbox fn) (frameCause f))) ∧
  (∀ (t ms : Nat) (trips : List Nat) (fails : List BistFail) (s : State), (∀ i, i ∈ trips → 1 ≤ i ∧ i ≤ 17) →
    (s.starting = false → exec (.railStepDone t trips fails ms) s = .next (s.at t)) ∧
    (s.starting = true →
      (s.boot.steps = 0 → ∀ y : State, y = (({ (s.at t).railsUp 1 with boot := { ((s.at t).railsUp 1).boot with state := 2 } } : State).milestone 4) →
        (trips = [] → exec (.railStepDone t trips fails ms) s = .next y) ∧
        (trips ≠ [] → exec (.railStepDone t trips fails ms) s =
          .next ((trips.foldl (fun (x : State) i => x.raise 0xCD02 0xFF (unitOfSource i)) y).enterLimited 8))) ∧
      (s.boot.steps = 1 → s.boot.limited = 0 → exec (.railStepDone t trips fails ms) s = .next ((s.at t).railsUp 2)) ∧
      (s.boot.steps = 1 → s.boot.limited ≠ 0 → exec (.railStepDone t trips fails ms) s = .next (({ (s.at t).railsUp 2 with
        boot := { ((s.at t).railsUp 2).boot with link := !s.boot.perst } } : State).hostReady)) ∧
      (s.boot.steps = 2 → exec (.railStepDone t trips fails ms) s = .next ((s.at t).railsUp 3)) ∧
      (s.boot.steps = 3 → ∀ y z : State, y = ((((s.at t).railsUp 4).milestone 5).milestone 6).milestone 7 (max s.now t + ms * 1000000000) →
        z = ({ y with
          beat := { y.beat with mode := .seeking, since := max s.now t, spent := y.notchClock, seekSpent := y.seekClock }
          boot := { y.boot with state := 3, link := !s.boot.perst } } : State).memoryBist fails ms →
        z.kwMem = [] ∧ z.bist.ms = ms ∧
        exec (.railStepDone t trips fails ms) s = .next (if z.boot.limited = 0 then z else z.enterLimited z.boot.limited)))) ∧
  (∀ (step k : Nat) (s : State), (s.railsUp step).boot = { s.boot with steps := step } ∧
    (k ∈ upRails step → mapFind s.pwr.rails k = none → (s.railsUp step).railOn k = true) ∧
    ((k ∉ upRails step ∨ mapFind s.pwr.rails k ≠ none) → (s.railsUp step).railOn k = s.railOn k)) ∧
  (∀ (t : Nat) (s y z : State), s.boot.ward = true → s.boot.state = 3 → s.boot.limited = 0 → s.boot.trip = false → s.boot.down = [] →
    y = ({ s.at t with boot := { (s.boot.loadKind 2).loadKind 3 with state := 4 } } : State).fallbacks → z = (y.measureImage 2).measureImage 3 →
    (z.imageCause = 0 → exec (.firmwareStart t) s = .next z.firmwareRuns ∧ z.firmwareRuns.boot.state = 5 ∧ z.firmwareRuns.boot.ready = true) ∧
    (z.imageCause ≠ 0 → exec (.firmwareStart t) s = .next (z.enterLimited z.imageCause)) ∧
    (z.imageCause = 0 ↔ z.boot.running 2 ≠ none ∧ z.boot.running 3 ≠ none ∧
      qualified [z.boot.runHdr 1, z.boot.runHdr 2, z.boot.runHdr 3] 0xB1 = true)) ∧
  (∀ (t : Nat) (s : State), (s.boot.ward = false ∨ s.boot.state ≠ 3 ∨ s.boot.limited ≠ 0 ∨ s.boot.trip = true ∨ s.boot.down ≠ []) →
    exec (.firmwareStart t) s = .next (s.at t)) ∧
  (∀ (t len kind : Nat) (s : State) (img hd : Bytes), s.boot.commit = some len → kind = s.boot.commitKind → img = s.boot.image → hd = img.take 192 →
    ((img.length ≠ len ∨ 192 + leAt hd 32 4 ≠ len) → exec (.fwCommitDone t) s =
      .next (({ s.at t with boot := { s.boot with commit := none, result := 4 } } : State).raise 0x4F02 0xFF)) ∧
    (img.length = len → 192 + leAt hd 32 4 = len → headerOk kind hd = false → exec (.fwCommitDone t) s =
      .next (({ s.at t with boot := { s.boot with commit := none, result := 3 } } : State).raise 0x4F02 0xFF)) ∧
    (img.length = len → 192 + leAt hd 32 4 = len → headerOk kind hd = true → exec (.fwCommitDone t) s =
      .next (({ s.at t with boot := { s.boot with
        commit := none
        result := 2
        staged := []
        banks := s.boot.banks.set (s.boot.inactive kind) ⟨2, ((s.boot.active kind).elim 0 (fun i => (s.boot.bank i).seq) + 1) % 4294967296, hd, img.drop 192,
          sha384 (img.drop 192) == (hd.drop 48).take 48⟩ } } : State).raise 0x1F02 0xFF))) ∧
  (∀ (t : Nat) (s : State), s.boot.commit = none → exec (.fwCommitDone t) s = .next (s.at t))

/-! ### Invariants of the whole block -/

/-- The life-cycle stays legal (R522, R525, Table 12.9): whatever command a step runs, LC_STATE stays a state of the table, and a transition that was accepted
or whose erasures are under way is one of the table's transitions from it. -/
def Obligations.LifeCycleStaysLegal : Prop :=
  KeptByStep (fun s => s.lcOk = true)

/-- Every memory stays canonical: whatever command a step runs, the cells of host memory and of every keyway's memory rise strictly and none is listed with
what an unlisted cell reads as (log 11). -/
def Obligations.MemoriesStayCanonical : Prop :=
  KeptByStep (fun s => memWf s.hostMem = true ∧ ∀ m, m ∈ s.kwMem → memWf m.2 = true)

/-- What every step does (logs 1, 22): it takes the command at the front of the queue and no other, time never runs back, and the build of the device stays
what it is. Every command — each constructor, in every state — completes when the device has what its operands name, and leaves the queue as it was; one that
names what the device lacks is a fault, and nothing is ever refused. -/
def Obligations.StepsTakeOneCommand : Prop :=
  (∀ (s x : State), step s = .next x → x.pending = s.pending.tail ∧ s.now ≤ x.now ∧ x.part = s.part) ∧
  (∀ (c : Instr) (s : State),
    (s.has c = true → ∃ x : State, exec c s = .next x ∧ x.pending = s.pending ∧ s.now ≤ x.now ∧ x.part = s.part) ∧
    (s.has c = false → exec c s = .fault .noSuchUnit))

/-- The state after reset (Tables 1.1, 3.13, 12.10, 15.4, R600; what the spec leaves open, logs 3, 11, 47): no command waits, BEAT_STATE is SEEKING,
BOOT_STATE is 0, POR_N is low and the Ward does not run, every function is OFF, no session is open, no request is active, no memory lists a cell, and
both invariants hold. -/
def Obligations.ResetIsLegal : Prop :=
  State.reset.pending = [] ∧ State.reset.beat.mode = .seeking ∧ State.reset.beat.number = 0 ∧ State.reset.boot.state = 0 ∧ State.reset.boot.por = false ∧
  State.reset.boot.ward = false ∧ (∀ f, (State.reset.func f).state = .off) ∧ State.reset.gdp.sessions = [] ∧
  (∀ i, (State.reset.req i).active = false) ∧ (∀ k, k < 24 → State.reset.railOn k = false) ∧ State.reset.hostMem = [] ∧ State.reset.kwMem = [] ∧
  State.reset.lcOk = true ∧ memWf State.reset.hostMem = true ∧ ∀ m, m ∈ State.reset.kwMem → memWf m.2 = true
end

