-- ==== Sys2Proof/Laws/Clock.lean ====
section
/-! SUPPORT. Laws/Clock.lean: beginning a command moves the clock and empties the outputs; every reader of the state that looks at neither reads the same. -/
namespace Sys2Proof.Machine
open Sys2Proof
@[simp] theorem State.at_acceptBar (s : State) (k : OKey) (v : OVal) (t : Nat) : (s.at t).acceptBar k v = s.acceptBar k v := id rfl
@[simp] theorem State.at_accepts (s : State) (e : Nat) (t : Nat) : (s.at t).accepts e = s.accepts e := id rfl
@[simp] theorem State.at_accounted (s : State) (work : Nat) (t : Nat) : (s.at t).accounted work = s.accounted work := id rfl
@[simp] theorem State.at_adapterBytes (s : State) (n : Nat) (t : Nat) : (s.at t).adapterBytes n = s.adapterBytes n := id rfl
@[simp] theorem State.at_adapterEntries (s : State) (kw : Nat) (t : Nat) : (s.at t).adapterEntries kw = s.adapterEntries kw := id rfl
@[simp] theorem State.at_adapterOk (s : State) (r : ReqS) (d : Bytes) (n : Nat) (m : Nat) (t : Nat) : (s.at t).adapterOk r d n m = s.adapterOk r d n m := id rfl
@[simp] theorem State.at_alertLow (s : State) (t : Nat) : (s.at t).alertLow = s.alertLow := id rfl
@[simp] theorem State.at_allPartials (s : State) (y : RingRound) (n : Nat) (t : Nat) : (s.at t).allPartials y n = s.allPartials y n := id rfl
@[simp] theorem State.at_answers (s : State) (c : Ctx) (o : Obj) (t : Nat) : (s.at t).answers c o = s.answers c o := id rfl
@[simp] theorem State.at_attnState (s : State) (cl : Nat) (t : Nat) : (s.at t).attnState cl = s.attnState cl := id rfl
@[simp] theorem State.at_awaited (s : State) (y : RingRound) (t : Nat) : (s.at t).awaited y = s.awaited y := id rfl
@[simp] theorem State.at_bankStates (s : State) (t : Nat) : (s.at t).bankStates = s.bankStates := id rfl
@[simp] theorem State.at_barredFor (s : State) (q : GReq) (c : Ctx) (t : Nat) : (s.at t).barredFor q c = s.barredFor q c := id rfl
@[simp] theorem State.at_beatPeriod (s : State) (t : Nat) : (s.at t).beatPeriod = s.beatPeriod := id rfl
@[simp] theorem State.at_box (s : State) (fn : Nat) (t : Nat) : (s.at t).box fn = s.box fn := id rfl
@[simp] theorem State.at_boxReq (s : State) (fn : Nat) (f : Bytes) (t : Nat) : (s.at t).boxReq fn f = s.boxReq fn f := id rfl
@[simp] theorem State.at_busyEngines (s : State) (skip : Nat → Which → Bool) (t : Nat) : (s.at t).busyEngines skip = s.busyEngines skip := id rfl
@[simp] theorem State.at_busyFor (s : State) (q : GReq) (c : Ctx) (t : Nat) : (s.at t).busyFor q c = s.busyFor q c := id rfl
@[simp] theorem State.at_calDueCount (s : State) (t : Nat) : (s.at t).calDueCount = s.calDueCount := id rfl
@[simp] theorem State.at_calInfo (s : State) (eng : Nat) (t : Nat) : (s.at t).calInfo eng = s.calInfo eng := id rfl
@[simp] theorem State.at_calSettled (s : State) (t : Nat) : (s.at t).calSettled = s.calSettled := id rfl
@[simp] theorem State.at_calState (s : State) (eng : Nat) (t : Nat) : (s.at t).calState eng = s.calState eng := id rfl
@[simp] theorem State.at_calWorst (s : State) (t : Nat) : (s.at t).calWorst = s.calWorst := id rfl
@[simp] theorem State.at_candidates (s : State) (h : Nat) (flow : Nat) (t : Nat) : (s.at t).candidates h flow = s.candidates h flow := id rfl
@[simp] theorem State.at_canonUnit (s : State) (v : Nat) (t : Nat) : (s.at t).canonUnit v = s.canonUnit v := id rfl
@[simp] theorem State.at_captureOf (s : State) (p : Pass) (ws : List Nat) (outs : List OutNum) (pos : Nat) (t : Nat) : (s.at t).captureOf p ws outs pos = s.captureOf p ws outs pos := id rfl
@[simp] theorem State.at_cell (s : State) (c : Ctx) (k : OKey) (t : Nat) : (s.at t).cell c k = s.cell c k := id rfl
@[simp] theorem State.at_chain (s : State) (t : Nat) : (s.at t).chain = s.chain := id rfl
@[simp] theorem State.at_chanLimit (s : State) (c : Nat) (t : Nat) : (s.at t).chanLimit c = s.chanLimit c := id rfl
@[simp] theorem State.at_chanValue (s : State) (c : Nat) (raw : Nat) (t : Nat) : (s.at t).chanValue c raw = s.chanValue c raw := id rfl
@[simp] theorem State.at_chunkAt (s : State) (core : Nat) (k : TotalKey) (tier : Nat) (engs : List Nat) (t : Nat) : (s.at t).chunkAt core k tier engs = s.chunkAt core k tier engs := id rfl
@[simp] theorem State.at_chunkEntry (s : State) (v : Version) (w : Which) (ts : List Tile) (t : Nat) : (s.at t).chunkEntry v w ts = s.chunkEntry v w ts := id rfl
@[simp] theorem State.at_chunksOf (s : State) (n : Nat) (t : Nat) : (s.at t).chunksOf n = s.chunksOf n := id rfl
@[simp] theorem State.at_claimable (s : State) (t : Nat) : (s.at t).claimable = s.claimable := id rfl
@[simp] theorem State.at_clampBlob (s : State) (o : Obj) (b : Bytes) (t : Nat) : (s.at t).clampBlob o b = s.clampBlob o b := id rfl
@[simp] theorem State.at_clampJobs (s : State) (b : Bytes) (t : Nat) : (s.at t).clampJobs b = s.clampJobs b := id rfl
@[simp] theorem State.at_classSet (s : State) (o : Obj) (cls : Nat) (kw : Nat) (t : Nat) : (s.at t).classSet o cls kw = s.classSet o cls kw := id rfl
@[simp] theorem State.at_clearRefused (s : State) (kw : Nat) (t : Nat) : (s.at t).clearRefused kw = s.clearRefused kw := id rfl
@[simp] theorem State.at_clusterOfCore (s : State) (core : Nat) (t : Nat) : (s.at t).clusterOfCore core = s.clusterOfCore core := id rfl
@[simp] theorem State.at_clusterState (s : State) (cl : Nat) (t : Nat) : (s.at t).clusterState cl = s.clusterState cl := id rfl
@[simp] theorem State.at_clustersOnline (s : State) (t : Nat) : (s.at t).clustersOnline = s.clustersOnline := id rfl
@[simp] theorem State.at_coef (s : State) (c : Nat) (t : Nat) : (s.at t).coef c = s.coef c := id rfl
@[simp] theorem State.at_columnOf (s : State) (eng : Nat) (tier : Nat) (col : Nat) (t : Nat) : (s.at t).columnOf eng tier col = s.columnOf eng tier col := id rfl
@[simp] theorem State.at_confBits (s : State) (t : Nat) : (s.at t).confBits = s.confBits := id rfl
@[simp] theorem State.at_confidential (s : State) (kw : Nat) (t : Nat) : (s.at t).confidential kw = s.confidential kw := id rfl
@[simp] theorem State.at_convBusy (s : State) (conv : Nat) (t : Nat) : (s.at t).convBusy conv = s.convBusy conv := id rfl
@[simp] theorem State.at_convOf (s : State) (c : Nat) (t : Nat) : (s.at t).convOf c = s.convOf c := id rfl
@[simp] theorem State.at_converts (s : State) (conv : Nat) (c : Nat) (t : Nat) : (s.at t).converts conv c = s.converts conv c := id rfl
@[simp] theorem State.at_cool (s : State) (t : Nat) : (s.at t).cool = s.cool := id rfl
@[simp] theorem State.at_coreBeat (s : State) (core : Nat) (t : Nat) : (s.at t).coreBeat core = s.coreBeat core := id rfl
@[simp] theorem State.at_coreOf (s : State) (v : UnitId) (t : Nat) : (s.at t).coreOf v = s.coreOf v := id rfl
@[simp] theorem State.at_coreQuota (s : State) (kw : Nat) (core : Nat) (t : Nat) : (s.at t).coreQuota kw core = s.coreQuota kw core := id rfl
@[simp] theorem State.at_coreRange (s : State) (n : Nat) (t : Nat) : (s.at t).coreRange n = s.coreRange n := id rfl
@[simp] theorem State.at_coreState (s : State) (core : Nat) (t : Nat) : (s.at t).coreState core = s.coreState core := id rfl
@[simp] theorem State.at_coresOf (s : State) (n : Nat) (v : Version) (t : Nat) : (s.at t).coresOf n v = s.coresOf n v := id rfl
@[simp] theorem State.at_coresPer (s : State) (t : Nat) : (s.at t).coresPer = s.coresPer := id rfl
@[simp] theorem State.at_count (s : State) (k : OKey) (t : Nat) : (s.at t).count k = s.count k := id rfl
@[simp] theorem State.at_cper (s : State) (r : EvRecord) (t : Nat) : (s.at t).cper r = s.cper r := id rfl
@[simp] theorem State.at_cplLen (s : State) (fn : Nat) (t : Nat) : (s.at t).cplLen fn = s.cplLen fn := id rfl
@[simp] theorem State.at_ctxOf (s : State) (q : GReq) (x : Session) (t : Nat) : (s.at t).ctxOf q x = s.ctxOf q x := id rfl
@[simp] theorem State.at_current (s : State) (k : Nat) (t : Nat) : (s.at t).current k = s.current k := id rfl
@[simp] theorem State.at_devFits (s : State) (d : DevMem) (bytes : Nat) (t : Nat) : (s.at t).devFits d bytes = s.devFits d bytes := id rfl
@[simp] theorem State.at_dfltLog2 (s : State) (kw : Nat) (t : Nat) : (s.at t).dfltLog2 kw = s.dfltLog2 kw := id rfl
@[simp] theorem State.at_dfltValue (s : State) (k : OKey) (t : Nat) : (s.at t).dfltValue k = s.dfltValue k := id rfl
@[simp] theorem State.at_dieBytes (s : State) (die : Nat) (t : Nat) : (s.at t).dieBytes die = s.dieBytes die := id rfl
@[simp] theorem State.at_dieHalted (s : State) (eng : Nat) (t : Nat) : (s.at t).dieHalted eng = s.dieHalted eng := id rfl
@[simp] theorem State.at_dieOfCore (s : State) (core : Nat) (t : Nat) : (s.at t).dieOfCore core = s.dieOfCore core := id rfl
@[simp] theorem State.at_diePages (s : State) (die : Nat) (t : Nat) : (s.at t).diePages die = s.diePages die := id rfl
@[simp] theorem State.at_dieState (s : State) (d : Nat) (t : Nat) : (s.at t).dieState d = s.dieState d := id rfl
@[simp] theorem State.at_digitalCores (s : State) (slot : Nat) (v : Version) (t : Nat) : (s.at t).digitalCores slot v = s.digitalCores slot v := id rfl
@[simp] theorem State.at_doneOf (s : State) (eng : Nat) (tier : Nat) (k : TotalKey) (half : PassHalf) (t : Nat) : (s.at t).doneOf eng tier k half = s.doneOf eng tier k half := id rfl
@[simp] theorem State.at_driveFormat (s : State) (h : Option ShardHdr) (kw : Nat) (t : Nat) : (s.at t).driveFormat h kw = s.driveFormat h kw := id rfl
@[simp] theorem State.at_dueAt (s : State) (c : Nat) (t : Nat) : (s.at t).dueAt c = s.dueAt c := id rfl
@[simp] theorem State.at_dueKey (s : State) (eng : Nat) (t : Nat) : (s.at t).dueKey eng = s.dueKey eng := id rfl
@[simp] theorem State.at_enabled (s : State) (f : Func) (t : Nat) : (s.at t).enabled f = s.enabled f := id rfl
@[simp] theorem State.at_engInfo (s : State) (eng : Nat) (t : Nat) : (s.at t).engInfo eng = s.engInfo eng := id rfl
@[simp] theorem State.at_engSeen (s : State) (v : Option Nat) (eng : Nat) (t : Nat) : (s.at t).engSeen v eng = s.engSeen v eng := id rfl
@[simp] theorem State.at_engSum (s : State) (v : Option Nat) (f : EngS → Nat) (t : Nat) : (s.at t).engSum v f = s.engSum v f := id rfl
@[simp] theorem State.at_engine (s : State) (n : Nat) (t : Nat) : (s.at t).engine n = s.engine n := id rfl
@[simp] theorem State.at_engineFree (s : State) (eng : Nat) (t : Nat) : (s.at t).engineFree eng = s.engineFree eng := id rfl
@[simp] theorem State.at_engineOf (s : State) (v : UnitId) (t : Nat) : (s.at t).engineOf v = s.engineOf v := id rfl
@[simp] theorem State.at_engineState (s : State) (n : Nat) (t : Nat) : (s.at t).engineState n = s.engineState n := id rfl
@[simp] theorem State.at_enginesIdle (s : State) (t : Nat) : (s.at t).enginesIdle = s.enginesIdle := id rfl
@[simp] theorem State.at_enginesOf (s : State) (v : Option Nat) (t : Nat) : (s.at t).enginesOf v = s.enginesOf v := id rfl
@[simp] theorem State.at_entriesOf (s : State) (kw : Nat) (t : Nat) : (s.at t).entriesOf kw = s.entriesOf kw := id rfl
@[simp] theorem State.at_evtDropped (s : State) (view : Option Nat) (t : Nat) : (s.at t).evtDropped view = s.evtDropped view := id rfl
@[simp] theorem State.at_evtLast (s : State) (view : Option Nat) (t : Nat) : (s.at t).evtLast view = s.evtLast view := id rfl
@[simp] theorem State.at_evtWindow (s : State) (view : Option Nat) (q : Nat) (t : Nat) : (s.at t).evtWindow view q = s.evtWindow view q := id rfl
@[simp] theorem State.at_exactCore (s : State) (slot : Nat) (v : Version) (outs : Nat) (out : Nat) (t : Nat) : (s.at t).exactCore slot v outs out = s.exactCore slot v outs out := id rfl
@[simp] theorem State.at_exactFor (s : State) (k : TotalKey) (t : Nat) : (s.at t).exactFor k = s.exactFor k := id rfl
@[simp] theorem State.at_exactOf (s : State) (v : Version) (layer : Nat) (t : Nat) : (s.at t).exactOf v layer = s.exactOf v layer := id rfl
@[simp] theorem State.at_existsFor (s : State) (q : GReq) (c : Ctx) (t : Nat) : (s.at t).existsFor q c = s.existsFor q c := id rfl
@[simp] theorem State.at_exports (s : State) (code : Nat) (summary : Bool) (t : Nat) : (s.at t).exports code summary = s.exports code summary := id rfl
@[simp] theorem State.at_fabricOn (s : State) (t : Nat) : (s.at t).fabricOn = s.fabricOn := id rfl
@[simp] theorem State.at_fastNow (s : State) (c : Nat) (t : Nat) : (s.at t).fastNow c = s.fastNow c := id rfl
@[simp] theorem State.at_findPlace (s : State) (cores : List Nat) (busy : List Nat) (taken : List (Nat × Nat)) (n : Nat) (t : Nat) : (s.at t).findPlace cores busy taken n = s.findPlace cores busy taken n := id rfl
@[simp] theorem State.at_firmwareUp (s : State) (t : Nat) : (s.at t).firmwareUp = s.firmwareUp := id rfl
@[simp] theorem State.at_firstBudget (s : State) (r : ReqS) (t : Nat) : (s.at t).firstBudget r = s.firstBudget r := id rfl
@[simp] theorem State.at_flow (s : State) (num : Nat) (t : Nat) : (s.at t).flow num = s.flow num := id rfl
@[simp] theorem State.at_flowKey (s : State) (f : Flow) (t : Nat) : (s.at t).flowKey f = s.flowKey f := id rfl
@[simp] theorem State.at_fnHere (s : State) (fn : Nat) (t : Nat) : (s.at t).fnHere fn = s.fnHere fn := id rfl
@[simp] theorem State.at_freeBelow (s : State) (n : Nat) (t : Nat) : (s.at t).freeBelow n = s.freeBelow n := id rfl
@[simp] theorem State.at_freeIndex (s : State) (t : Nat) : (s.at t).freeIndex = s.freeIndex := id rfl
@[simp] theorem State.at_freeSid (s : State) (t : Nat) : (s.at t).freeSid = s.freeSid := id rfl
@[simp] theorem State.at_freshLanes (s : State) (q : SeqS) (t : Nat) : (s.at t).freshLanes q = s.freshLanes q := id rfl
@[simp] theorem State.at_func (s : State) (f : Func) (t : Nat) : (s.at t).func f = s.func f := id rfl
@[simp] theorem State.at_funcCounts (s : State) (f : Func) (t : Nat) : (s.at t).funcCounts f = s.funcCounts f := id rfl
@[simp] theorem State.at_funcHeld (s : State) (a1 : Func) (t : Nat) : (s.at t).funcHeld a1 = s.funcHeld a1 := id rfl
@[simp] theorem State.at_funcKw (s : State) (a1 : Func) (t : Nat) : (s.at t).funcKw a1 = s.funcKw a1 := id rfl
@[simp] theorem State.at_fuseRecord (s : State) (t : Nat) : (s.at t).fuseRecord = s.fuseRecord := id rfl
@[simp] theorem State.at_gainOf (s : State) (h : Option ShardHdr) (t : Nat) : (s.at t).gainOf h = s.gainOf h := id rfl
@[simp] theorem State.at_globalLinks (s : State) (new : Bool) (t : Nat) : (s.at t).globalLinks new = s.globalLinks new := id rfl
@[simp] theorem State.at_groups (s : State) (t : Nat) : (s.at t).groups = s.groups := id rfl
@[simp] theorem State.at_guardLimit (s : State) (t : Nat) : (s.at t).guardLimit = s.guardLimit := id rfl
@[simp] theorem State.at_halfFits (s : State) (o : PassOrder) (t : Nat) : (s.at t).halfFits o = s.halfFits o := id rfl
@[simp] theorem State.at_halvesOf (s : State) (v : Version) (t : Tile) (kw : Nat) (n_ : Nat) : (s.at n_).halvesOf v t kw = s.halvesOf v t kw := id rfl
@[simp] theorem State.at_hasCopy (s : State) (eng : Nat) (tier : Nat) (t : Nat) : (s.at t).hasCopy eng tier = s.hasCopy eng tier := id rfl
@[simp] theorem State.at_hasPair (s : State) (o : PassOrder) (t : Nat) : (s.at t).hasPair o = s.hasPair o := id rfl
@[simp] theorem State.at_hasTerm (s : State) (k : TotalKey) (place : Nat) (t : Nat) : (s.at t).hasTerm k place = s.hasTerm k place := id rfl
@[simp] theorem State.at_haspBits (s : State) (t : Nat) : (s.at t).haspBits = s.haspBits := id rfl
@[simp] theorem State.at_haspLive (s : State) (n : Nat) (t : Nat) : (s.at t).haspLive n = s.haspLive n := id rfl
@[simp] theorem State.at_hiddenKw (s : State) (c : Ctx) (n : Nat) (t : Nat) : (s.at t).hiddenKw c n = s.hiddenKw c n := id rfl
@[simp] theorem State.at_hist (s : State) (kw : Nat) (cls : Nat) (kind : Nat) (t : Nat) : (s.at t).hist kw cls kind = s.hist kw cls kind := id rfl
@[simp] theorem State.at_histWindow (s : State) (kw : Nat) (q : Nat) (t : Nat) : (s.at t).histWindow kw q = s.histWindow kw q := id rfl
@[simp] theorem State.at_hot (s : State) (t : Nat) : (s.at t).hot = s.hot := id rfl
@[simp] theorem State.at_hottest (s : State) (t : Nat) : (s.at t).hottest = s.hottest := id rfl
@[simp] theorem State.at_hubUp (s : State) (t : Nat) : (s.at t).hubUp = s.hubUp := id rfl
@[simp] theorem State.at_identFrame (s : State) (t : Nat) : (s.at t).identFrame = s.identFrame := id rfl
@[simp] theorem State.at_idleSpare (s : State) (t : Nat) : (s.at t).idleSpare = s.idleSpare := id rfl
@[simp] theorem State.at_idleSpares (s : State) (t : Nat) : (s.at t).idleSpares = s.idleSpares := id rfl
@[simp] theorem State.at_ifRevBytes (s : State) (t : Nat) : (s.at t).ifRevBytes = s.ifRevBytes := id rfl
@[simp] theorem State.at_ifRevs (s : State) (t : Nat) : (s.at t).ifRevs = s.ifRevs := id rfl
@[simp] theorem State.at_imageAt (s : State) (eng : Nat) (tier : Nat) (t : Nat) : (s.at t).imageAt eng tier = s.imageAt eng tier := id rfl
@[simp] theorem State.at_imageCause (s : State) (t : Nat) : (s.at t).imageCause = s.imageCause := id rfl
@[simp] theorem State.at_imageInfo (s : State) (t : Nat) : (s.at t).imageInfo = s.imageInfo := id rfl
@[simp] theorem State.at_imageRecompute (s : State) (v : Version) (t : Tile) (n_ : Nat) : (s.at n_).imageRecompute v t = s.imageRecompute v t := id rfl
@[simp] theorem State.at_imonCurrent (s : State) (k : Nat) (v : Int) (t : Nat) : (s.at t).imonCurrent k v = s.imonCurrent k v := id rfl
@[simp] theorem State.at_inFlight (s : State) (n : Nat) (t : Nat) : (s.at t).inFlight n = s.inFlight n := id rfl
@[simp] theorem State.at_inForce (s : State) (k : OKey) (t : Nat) : (s.at t).inForce k = s.inForce k := id rfl
@[simp] theorem State.at_inService (s : State) (n : Nat) (w : Which) (t : Nat) : (s.at t).inService n w = s.inService n w := id rfl
@[simp] theorem State.at_inStep (s : State) (p : ReqS → Bool) (t : Nat) : (s.at t).inStep p = s.inStep p := id rfl
@[simp] theorem State.at_int8Row (s : State) (kw : Nat) (data : Nat) (scale : Nat) (row : Nat) (nb : Nat) (len : Nat) (t : Nat) : (s.at t).int8Row kw data scale row nb len = s.int8Row kw data scale row nb len := id rfl
@[simp] theorem State.at_isDue (s : State) (x : OKey × OVal) (t : Nat) : (s.at t).isDue x = s.isDue x := id rfl
@[simp] theorem State.at_isLead (s : State) (t : Nat) : (s.at t).isLead = s.isLead := id rfl
@[simp] theorem State.at_isSigned (s : State) (b : Bytes) (t : Nat) : (s.at t).isSigned b = s.isSigned b := id rfl
@[simp] theorem State.at_isSpare (s : State) (a : Nat) (t : Nat) : (s.at t).isSpare a = s.isSpare a := id rfl
@[simp] theorem State.at_jitter (s : State) (p : Nat) (t : Nat) : (s.at t).jitter p = s.jitter p := id rfl
@[simp] theorem State.at_jtagState (s : State) (t : Nat) : (s.at t).jtagState = s.jtagState := id rfl
@[simp] theorem State.at_keyActive (s : State) (n : Nat) (kw : Nat) (usage : Nat) (t : Nat) : (s.at t).keyActive n kw usage = s.keyActive n kw usage := id rfl
@[simp] theorem State.at_keyInfo (s : State) (n : Nat) (t : Nat) : (s.at t).keyInfo n = s.keyInfo n := id rfl
@[simp] theorem State.at_keyShut (s : State) (kw : Nat) (t : Nat) : (s.at t).keyShut kw = s.keyShut kw := id rfl
@[simp] theorem State.at_keySlot (s : State) (n : Nat) (t : Nat) : (s.at t).keySlot n = s.keySlot n := id rfl
@[simp] theorem State.at_kvBytes (s : State) (kw : Option Nat) (t : Nat) : (s.at t).kvBytes kw = s.kvBytes kw := id rfl
@[simp] theorem State.at_kvFits (s : State) (q : SeqS) (bytes : Nat) (t : Nat) : (s.at t).kvFits q bytes = s.kvFits q bytes := id rfl
@[simp] theorem State.at_kvPages (s : State) (kw : Option Nat) (t : Nat) : (s.at t).kvPages kw = s.kvPages kw := id rfl
@[simp] theorem State.at_kwCells (s : State) (kw : Nat) (t : Nat) : (s.at t).kwCells kw = s.kwCells kw := id rfl
@[simp] theorem State.at_kwClosing (s : State) (n : Nat) (t : Nat) : (s.at t).kwClosing n = s.kwClosing n := id rfl
@[simp] theorem State.at_kwDma (s : State) (n : Nat) (t : Nat) : (s.at t).kwDma n = s.kwDma n := id rfl
@[simp] theorem State.at_kwKeys (s : State) (n : Nat) (t : Nat) : (s.at t).kwKeys n = s.kwKeys n := id rfl
@[simp] theorem State.at_kwMapped (s : State) (kw : Nat) (addr : Nat) (len : Nat) (t : Nat) : (s.at t).kwMapped kw addr len = s.kwMapped kw addr len := id rfl
@[simp] theorem State.at_kwOn (s : State) (n : Nat) (t : Nat) : (s.at t).kwOn n = s.kwOn n := id rfl
@[simp] theorem State.at_kwRange (s : State) (first : Obj) (count : Obj) (bound : Nat) (n : Nat) (t : Nat) : (s.at t).kwRange first count bound n = s.kwRange first count bound n := id rfl
@[simp] theorem State.at_kwServes (s : State) (kw : Nat) (t : Nat) : (s.at t).kwServes kw = s.kwServes kw := id rfl
@[simp] theorem State.at_kwState (s : State) (n : Nat) (t : Nat) : (s.at t).kwState n = s.kwState n := id rfl
@[simp] theorem State.at_kwTakes (s : State) (n : Nat) (t : Nat) : (s.at t).kwTakes n = s.kwTakes n := id rfl
@[simp] theorem State.at_kway (s : State) (n : Nat) (t : Nat) : (s.at t).kway n = s.kway n := id rfl
@[simp] theorem State.at_kwsNotOff (s : State) (t : Nat) : (s.at t).kwsNotOff = s.kwsNotOff := id rfl
@[simp] theorem State.at_laneFits (s : State) (w : LaneWork) (t : Nat) : (s.at t).laneFits w = s.laneFits w := id rfl
@[simp] theorem State.at_lanePages (s : State) (q : SeqS) (lane : Nat) (pages : Nat) (t : Nat) : (s.at t).lanePages q lane pages = s.lanePages q lane pages := id rfl
@[simp] theorem State.at_lanesOf (s : State) (slot : Nat) (version : Nat) (fmt : Nat) (dflt : Bool) (draft : Bool) (b : Bytes) (t : Nat) : (s.at t).lanesOf slot version fmt dflt draft b = s.lanesOf slot version fmt dflt draft b := id rfl
@[simp] theorem State.at_latchInfo (s : State) (kw : Nat) (num : Nat) (t : Nat) : (s.at t).latchInfo kw num = s.latchInfo kw num := id rfl
@[simp] theorem State.at_latchOf (s : State) (kw : Nat) (num : Nat) (t : Nat) : (s.at t).latchOf kw num = s.latchOf kw num := id rfl
@[simp] theorem State.at_latchRange (s : State) (n : Nat) (t : Nat) : (s.at t).latchRange n = s.latchRange n := id rfl
@[simp] theorem State.at_latchSeen (s : State) (kw : Nat) (num : Nat) (t : Nat) : (s.at t).latchSeen kw num = s.latchSeen kw num := id rfl
@[simp] theorem State.at_latchesInView (s : State) (kw : Nat) (t : Nat) : (s.at t).latchesInView kw = s.latchesInView kw := id rfl
@[simp] theorem State.at_lbistPassed (s : State) (u : UnitId) (t : Nat) : (s.at t).lbistPassed u = s.lbistPassed u := id rfl
@[simp] theorem State.at_lbistUnit (s : State) (v : Nat) (t : Nat) : (s.at t).lbistUnit v = s.lbistUnit v := id rfl
@[simp] theorem State.at_lcAllowed (s : State) (target : Nat) (keyed : Bool) (sig : Bool) (t : Nat) : (s.at t).lcAllowed target keyed sig = s.lcAllowed target keyed sig := id rfl
@[simp] theorem State.at_lcBars (s : State) (c : Ctx) (o : Obj) (t : Nat) : (s.at t).lcBars c o = s.lcBars c o := id rfl
@[simp] theorem State.at_lcWrites (s : State) (index : Nat) (t : Nat) : (s.at t).lcWrites index = s.lcWrites index := id rfl
@[simp] theorem State.at_linkKey (s : State) (kw : Nat) (t : Nat) : (s.at t).linkKey kw = s.linkKey kw := id rfl
@[simp] theorem State.at_linkKeys (s : State) (f : HFrame) (t : Nat) : (s.at t).linkKeys f = s.linkKeys f := id rfl
@[simp] theorem State.at_linkToMember (s : State) (m : Nat) (t : Nat) : (s.at t).linkToMember m = s.linkToMember m := id rfl
@[simp] theorem State.at_liveMembers (s : State) (t : Nat) : (s.at t).liveMembers = s.liveMembers := id rfl
@[simp] theorem State.at_loadBuf (s : State) (q : GReq) (t : Nat) : (s.at t).loadBuf q = s.loadBuf q := id rfl
@[simp] theorem State.at_loadedDigest (s : State) (t : Nat) : (s.at t).loadedDigest = s.loadedDigest := id rfl
@[simp] theorem State.at_localLive (s : State) (t : Nat) : (s.at t).localLive = s.localLive := id rfl
@[simp] theorem State.at_lockOf (s : State) (edges : List Nat) (t : Nat) : (s.at t).lockOf edges = s.lockOf edges := id rfl
@[simp] theorem State.at_logAddr (s : State) (t : Nat) : (s.at t).logAddr = s.logAddr := id rfl
@[simp] theorem State.at_logicalOfSite (s : State) (cl : Nat) (site : Nat) (t : Nat) : (s.at t).logicalOfSite cl site = s.logicalOfSite cl site := id rfl
@[simp] theorem State.at_lookup (s : State) (c : Ctx) (index : Nat) (sub : Nat) (t : Nat) : (s.at t).lookup c index sub = s.lookup c index sub := id rfl
@[simp] theorem State.at_lowestLive (s : State) (t : Nat) : (s.at t).lowestLive = s.lowestLive := id rfl
@[simp] theorem State.at_lregs (s : State) (fn : Nat) (t : Nat) : (s.at t).lregs fn = s.lregs fn := id rfl
@[simp] theorem State.at_macFree (s : State) (core : Nat) (w : KeeperWork) (t : Nat) : (s.at t).macFree core w = s.macFree core w := id rfl
@[simp] theorem State.at_mapOf (s : State) (slot : Nat) (version : Nat) (t : Nat) : (s.at t).mapOf slot version = s.mapOf slot version := id rfl
@[simp] theorem State.at_mapVersions (s : State) (n : Nat) (t : Nat) : (s.at t).mapVersions n = s.mapVersions n := id rfl
@[simp] theorem State.at_mayAdopt (s : State) (a : Nat) (t : Nat) : (s.at t).mayAdopt a = s.mayAdopt a := id rfl
@[simp] theorem State.at_mayConvert (s : State) (conv : Nat) (c : Nat) (t : Nat) : (s.at t).mayConvert conv c = s.mayConvert conv c := id rfl
@[simp] theorem State.at_mayFree (s : State) (w : Waste) (t : Nat) : (s.at t).mayFree w = s.mayFree w := id rfl
@[simp] theorem State.at_mayMirror (s : State) (kw : Nat) (t : Nat) : (s.at t).mayMirror kw = s.mayMirror kw := id rfl
@[simp] theorem State.at_mayPass (s : State) (eng : Nat) (tier : Nat) (t : Nat) : (s.at t).mayPass eng tier = s.mayPass eng tier := id rfl
@[simp] theorem State.at_mayProgram (s : State) (eng : Nat) (tier : Nat) (t : Nat) : (s.at t).mayProgram eng tier = s.mayProgram eng tier := id rfl
@[simp] theorem State.at_mayRun (s : State) (haspIn : List Nat) (i : Nat) (r : ReqS) (st : RState) (t : Nat) : (s.at t).mayRun haspIn i r st = s.mayRun haspIn i r st := id rfl
@[simp] theorem State.at_mayStage (s : State) (eng : Nat) (t : Nat) : (s.at t).mayStage eng = s.mayStage eng := id rfl
@[simp] theorem State.at_mbistWindow (s : State) (q : Nat) (t : Nat) : (s.at t).mbistWindow q = s.mbistWindow q := id rfl
@[simp] theorem State.at_meanCode (s : State) (c : Nat) (raw : Nat) (t : Nat) : (s.at t).meanCode c raw = s.meanCode c raw := id rfl
@[simp] theorem State.at_measBlocks (s : State) (c : SpdmConn) (t : Nat) : (s.at t).measBlocks c = s.measBlocks c := id rfl
@[simp] theorem State.at_measReg (s : State) (n : Nat) (t : Nat) : (s.at t).measReg n = s.measReg n := id rfl
@[simp] theorem State.at_memFits (s : State) (kw : Nat) (bytes : Nat) (t : Nat) : (s.at t).memFits kw bytes = s.memFits kw bytes := id rfl
@[simp] theorem State.at_memTempsBytes (s : State) (t : Nat) : (s.at t).memTempsBytes = s.memTempsBytes := id rfl
@[simp] theorem State.at_memberAddr (s : State) (q : SeqS) (i : Nat) (t : Nat) : (s.at t).memberAddr q i = s.memberAddr q i := id rfl
@[simp] theorem State.at_memberLogical (s : State) (m : Nat) (t : Nat) : (s.at t).memberLogical m = s.memberLogical m := id rfl
@[simp] theorem State.at_members (s : State) (t : Nat) : (s.at t).members = s.members := id rfl
@[simp] theorem State.at_merging (s : State) (t : Nat) : (s.at t).merging = s.merging := id rfl
@[simp] theorem State.at_mismatchesAt (s : State) (eng : Nat) (tier : Nat) (cells : List CellRead) (t : Nat) : (s.at t).mismatchesAt eng tier cells = s.mismatchesAt eng tier cells := id rfl
@[simp] theorem State.at_namedSlot (s : State) (o : Obj) (kw : Nat) (t : Nat) : (s.at t).namedSlot o kw = s.namedSlot o kw := id rfl
@[simp] theorem State.at_narrowCfg (s : State) (kw : Nat) (fmt : Nat) (edge : Bool) (octaves : Bool) (t : Nat) : (s.at t).narrowCfg kw fmt edge octaves = s.narrowCfg kw fmt edge octaves := id rfl
@[simp] theorem State.at_newPages (s : State) (kw : Nat) (addr : Nat) (len : Nat) (t : Nat) : (s.at t).newPages kw addr len = s.newPages kw addr len := id rfl
@[simp] theorem State.at_newestSeq (s : State) (view : Option Nat) (t : Nat) : (s.at t).newestSeq view = s.newestSeq view := id rfl
@[simp] theorem State.at_nextDue (s : State) (core : Nat) (t : Nat) : (s.at t).nextDue core = s.nextDue core := id rfl
@[simp] theorem State.at_nextLive (s : State) (hc : Nat) (t : Nat) : (s.at t).nextLive hc = s.nextLive hc := id rfl
@[simp] theorem State.at_nextOrder (s : State) (eng : Nat) (t : Nat) : (s.at t).nextOrder eng = s.nextOrder eng := id rfl
@[simp] theorem State.at_nextPlan (s : State) (q : SeqS) (write : Nat) (upto : Nat) (t : Nat) : (s.at t).nextPlan q write upto = s.nextPlan q write upto := id rfl
@[simp] theorem State.at_nslot (s : State) (t : Nat) : (s.at t).nslot = s.nslot := id rfl
@[simp] theorem State.at_numCores (s : State) (t : Nat) : (s.at t).numCores = s.numCores := id rfl
@[simp] theorem State.at_numEngines (s : State) (t : Nat) : (s.at t).numEngines = s.numEngines := id rfl
@[simp] theorem State.at_oldestEpoch (s : State) (t : Nat) : (s.at t).oldestEpoch = s.oldestEpoch := id rfl
@[simp] theorem State.at_oldestSeq (s : State) (view : Option Nat) (t : Nat) : (s.at t).oldestSeq view = s.oldestSeq view := id rfl
@[simp] theorem State.at_openStepEnded (s : State) (a1 : Func) (t : Nat) : (s.at t).openStepEnded a1 = s.openStepEnded a1 := id rfl
@[simp] theorem State.at_otherNext (s : State) (conv : Nat) (c : Nat) (t : Nat) : (s.at t).otherNext conv c = s.otherNext conv c := id rfl
@[simp] theorem State.at_outlierLoad (s : State) (l : List PassOrder) (t : Nat) : (s.at t).outlierLoad l = s.outlierLoad l := id rfl
@[simp] theorem State.at_outlierWork (s : State) (o : PassOrder) (t : Nat) : (s.at t).outlierWork o = s.outlierWork o := id rfl
@[simp] theorem State.at_overOnset (s : State) (c : Nat) (t : Nat) : (s.at t).overOnset c = s.overOnset c := id rfl
@[simp] theorem State.at_ownKept (s : State) (x : Nat × UState) (t : Nat) : (s.at t).ownKept x = s.ownKept x := id rfl
@[simp] theorem State.at_ownRank (s : State) (j : Nat × Nat) (t : Nat) : (s.at t).ownRank j = s.ownRank j := id rfl
@[simp] theorem State.at_ownState (s : State) (u : UnitId) (t : Nat) : (s.at t).ownState u = s.ownState u := id rfl
@[simp] theorem State.at_ownerOf (s : State) (i : Nat) (t : Nat) : (s.at t).ownerOf i = s.ownerOf i := id rfl
@[simp] theorem State.at_ownerUp (s : State) (a1 : Func) (t : Nat) : (s.at t).ownerUp a1 = s.ownerUp a1 := id rfl
@[simp] theorem State.at_p1 (s : State) (t : Nat) : (s.at t).p1 = s.p1 := id rfl
@[simp] theorem State.at_p10 (s : State) (t : Nat) : (s.at t).p10 = s.p10 := id rfl
@[simp] theorem State.at_paceSource (s : State) (c : Nat) (t : Nat) : (s.at t).paceSource c = s.paceSource c := id rfl
@[simp] theorem State.at_page (s : State) (h : Nat) (t : Nat) : (s.at t).page h = s.page h := id rfl
@[simp] theorem State.at_pageSet (s : State) (q : SeqS) (p : Nat) (t : Nat) : (s.at t).pageSet q p = s.pageSet q p := id rfl
@[simp] theorem State.at_pairOf (s : State) (p : Pass) (t : Nat) : (s.at t).pairOf p = s.pairOf p := id rfl
@[simp] theorem State.at_pairUnderWay (s : State) (eng : Nat) (t : Nat) : (s.at t).pairUnderWay eng = s.pairUnderWay eng := id rfl
@[simp] theorem State.at_parentOf (s : State) (q : SeqS) (b : Nat) (t : Nat) : (s.at t).parentOf q b = s.parentOf q b := id rfl
@[simp] theorem State.at_partReady (s : State) (core : Nat) (k : TotalKey) (tier : Nat) (engs : List Nat) (half : PassHalf) (j : Nat) (t : Tile) (n_ : Nat) : (s.at n_).partReady core k tier engs half j t = s.partReady core k tier engs half j t := id rfl
@[simp] theorem State.at_partialOf (s : State) (seq : Nat) (lane : Nat) (row : Nat) (origin : Nat) (t : Nat) : (s.at t).partialOf seq lane row origin = s.partialOf seq lane row origin := id rfl
@[simp] theorem State.at_passEnergy (s : State) (sA : Nat) (selected : Bool) (t : Nat) : (s.at t).passEnergy sA selected = s.passEnergy sA selected := id rfl
@[simp] theorem State.at_passOf (s : State) (o : PassOrder) (t : Nat) : (s.at t).passOf o = s.passOf o := id rfl
@[simp] theorem State.at_pathUp (s : State) (a1 : GdpPath) (t : Nat) : (s.at t).pathUp a1 = s.pathUp a1 := id rfl
@[simp] theorem State.at_periodEst (s : State) (t : Nat) : (s.at t).periodEst = s.periodEst := id rfl
@[simp] theorem State.at_phasesNeeded (s : State) (k : Nat) (t : Nat) : (s.at t).phasesNeeded k = s.phasesNeeded k := id rfl
@[simp] theorem State.at_phasesOn (s : State) (k : Nat) (t : Nat) : (s.at t).phasesOn k = s.phasesOn k := id rfl
@[simp] theorem State.at_physAddr (s : State) (t : Nat) : (s.at t).physAddr = s.physAddr := id rfl
@[simp] theorem State.at_pinVolt (s : State) (c : Nat) (raw : Nat) (t : Nat) : (s.at t).pinVolt c raw = s.pinVolt c raw := id rfl
@[simp] theorem State.at_pinned (s : State) (n : Nat) (v : Nat) (t : Nat) : (s.at t).pinned n v = s.pinned n v := id rfl
@[simp] theorem State.at_placeAgain (s : State) (n : Nat) (ts : List Tile) (t : Nat) : (s.at t).placeAgain n ts = s.placeAgain n ts := id rfl
@[simp] theorem State.at_placeOn (s : State) (core : Nat → Bool) (n : Nat) (ts : List Tile) (t : Nat) : (s.at t).placeOn core n ts = s.placeOn core n ts := id rfl
@[simp] theorem State.at_placeWindow (s : State) (n : Nat) (q : Nat) (t : Nat) : (s.at t).placeWindow n q = s.placeWindow n q := id rfl
@[simp] theorem State.at_placeable (s : State) (busy : List Nat) (taken : List (Nat × Nat)) (core : Nat) (tier : Nat) (t : Nat) : (s.at t).placeable busy taken core tier = s.placeable busy taken core tier := id rfl
@[simp] theorem State.at_placedOn (s : State) (u : UnitId) (t : Nat) : (s.at t).placedOn u = s.placedOn u := id rfl
@[simp] theorem State.at_places (s : State) (core : Nat) (t : Nat) : (s.at t).places core = s.places core := id rfl
@[simp] theorem State.at_placesTaken (s : State) (p : GdpPath) (t : Nat) : (s.at t).placesTaken p = s.placesTaken p := id rfl
@[simp] theorem State.at_planMem (s : State) (q : SeqS) (old : List Nat) (root : Nat) (l : List Plan) (t : Nat) : (s.at t).planMem q old root l = s.planMem q old root l := id rfl
@[simp] theorem State.at_planOf (s : State) (eng : Nat) (tier : Nat) (t : Nat) : (s.at t).planOf eng tier = s.planOf eng tier := id rfl
@[simp] theorem State.at_planesOf (s : State) (kw : Nat) (d : Bytes) (t : Nat) : (s.at t).planesOf kw d = s.planesOf kw d := id rfl
@[simp] theorem State.at_port (s : State) (p : Nat) (t : Nat) : (s.at t).port p = s.port p := id rfl
@[simp] theorem State.at_portBusy (s : State) (p : Nat) (t : Nat) : (s.at t).portBusy p = s.portBusy p := id rfl
@[simp] theorem State.at_portReady (s : State) (p : Nat) (t : Nat) : (s.at t).portReady p = s.portReady p := id rfl
@[simp] theorem State.at_portTo (s : State) (new : Bool) (a : Nat) (t : Nat) : (s.at t).portTo new a = s.portTo new a := id rfl
@[simp] theorem State.at_portToMember (s : State) (new : Bool) (m : Nat) (t : Nat) : (s.at t).portToMember new m = s.portToMember new m := id rfl
@[simp] theorem State.at_powerForProgram (s : State) (t : Nat) : (s.at t).powerForProgram = s.powerForProgram := id rfl
@[simp] theorem State.at_present (s : State) (g : Nat) (t : Nat) : (s.at t).present g = s.present g := id rfl
@[simp] theorem State.at_prevHeld (s : State) (n : Nat) (t : Nat) : (s.at t).prevHeld n = s.prevHeld n := id rfl
@[simp] theorem State.at_programEnergy (s : State) (t : Nat) : (s.at t).programEnergy = s.programEnergy := id rfl
@[simp] theorem State.at_programsToStart (s : State) (t : Nat) : (s.at t).programsToStart = s.programsToStart := id rfl
@[simp] theorem State.at_proofOk (s : State) (n : Nat) (x : Session) (b : Bytes) (t : Nat) : (s.at t).proofOk n x b = s.proofOk n x b := id rfl
@[simp] theorem State.at_quadChan (s : State) (eng : Nat) (t : Nat) : (s.at t).quadChan eng = s.quadChan eng := id rfl
@[simp] theorem State.at_quadGated (s : State) (t : Nat) : (s.at t).quadGated = s.quadGated := id rfl
@[simp] theorem State.at_quadHeld (s : State) (q : Nat) (t : Nat) : (s.at t).quadHeld q = s.quadHeld q := id rfl
@[simp] theorem State.at_quadOfCore (s : State) (core : Nat) (t : Nat) : (s.at t).quadOfCore core = s.quadOfCore core := id rfl
@[simp] theorem State.at_quadShut (s : State) (q : Nat) (t : Nat) : (s.at t).quadShut q = s.quadShut q := id rfl
@[simp] theorem State.at_quadState (s : State) (q : Nat) (t : Nat) : (s.at t).quadState q = s.quadState q := id rfl
@[simp] theorem State.at_quadWork (s : State) (q : Nat) (t : Nat) : (s.at t).quadWork q = s.quadWork q := id rfl
@[simp] theorem State.at_queried (s : State) (c : Ctx) (t : Nat) : (s.at t).queried c = s.queried c := id rfl
@[simp] theorem State.at_quietFor (s : State) (core : Nat) (t : Nat) : (s.at t).quietFor core = s.quietFor core := id rfl
@[simp] theorem State.at_quotaConflict (s : State) (n : Nat) (t : Nat) : (s.at t).quotaConflict n = s.quotaConflict n := id rfl
@[simp] theorem State.at_quotaCores (s : State) (kw : Nat) (t : Nat) : (s.at t).quotaCores kw = s.quotaCores kw := id rfl
@[simp] theorem State.at_quotaFree (s : State) (kw : Nat) (t : Nat) : (s.at t).quotaFree kw = s.quotaFree kw := id rfl
@[simp] theorem State.at_railInfo (s : State) (t : Nat) : (s.at t).railInfo = s.railInfo := id rfl
@[simp] theorem State.at_railOn (s : State) (k : Nat) (t : Nat) : (s.at t).railOn k = s.railOn k := id rfl
@[simp] theorem State.at_rangeBound (s : State) (p : Pass) (place : Nat) (sA : Nat) (t : Nat) : (s.at t).rangeBound p place sA = s.rangeBound p place sA := id rfl
@[simp] theorem State.at_rangeCheck (s : State) (k : OKey) (v : OVal) (t : Nat) : (s.at t).rangeCheck k v = s.rangeCheck k v := id rfl
@[simp] theorem State.at_rankAddr (s : State) (j : Nat × Nat) (i : Nat) (t : Nat) : (s.at t).rankAddr j i = s.rankAddr j i := id rfl
@[simp] theorem State.at_ranked (s : State) (p : Nat → ReqS → Bool) (t : Nat) : (s.at t).ranked p = s.ranked p := id rfl
@[simp] theorem State.at_reaches (s : State) (core : Nat) (unit : UnitId) (addr : Nat) (t : Nat) : (s.at t).reaches core unit addr = s.reaches core unit addr := id rfl
@[simp] theorem State.at_readEng (s : State) (c : Ctx) (k : OKey) (t : Nat) : (s.at t).readEng c k = s.readEng c k := id rfl
@[simp] theorem State.at_readServe (s : State) (c : Ctx) (k : OKey) (t : Nat) : (s.at t).readServe c k = s.readServe c k := id rfl
@[simp] theorem State.at_readSlot (s : State) (c : Ctx) (k : OKey) (t : Nat) : (s.at t).readSlot c k = s.readSlot c k := id rfl
@[simp] theorem State.at_readyOn (s : State) (die : Nat) (t : Nat) : (s.at t).readyOn die = s.readyOn die := id rfl
@[simp] theorem State.at_recLost (s : State) (r : SlotRec) (t : Nat) : (s.at t).recLost r = s.recLost r := id rfl
@[simp] theorem State.at_recoveryAnswers (s : State) (q : GReq) (t : Nat) : (s.at t).recoveryAnswers q = s.recoveryAnswers q := id rfl
@[simp] theorem State.at_redacted (s : State) (kw : Nat) (t : Nat) : (s.at t).redacted kw = s.redacted kw := id rfl
@[simp] theorem State.at_refusal (s : State) (kw : Nat) (d : Bytes) (t : Nat) : (s.at t).refusal kw d = s.refusal kw d := id rfl
@[simp] theorem State.at_remapTable (s : State) (eng : Nat) (tier : Nat) (t : Nat) : (s.at t).remapTable eng tier = s.remapTable eng tier := id rfl
@[simp] theorem State.at_removals (s : State) (t : Nat) : (s.at t).removals = s.removals := id rfl
@[simp] theorem State.at_removes (s : State) (n : Nat) (r : ReqS) (t : Nat) : (s.at t).removes n r = s.removes n r := id rfl
@[simp] theorem State.at_repairsWait (s : State) (core : Nat) (t : Nat) : (s.at t).repairsWait core = s.repairsWait core := id rfl
@[simp] theorem State.at_replyFlow (s : State) (f : HFrame) (t : Nat) : (s.at t).replyFlow f = s.replyFlow f := id rfl
@[simp] theorem State.at_req (s : State) (i : Nat) (t : Nat) : (s.at t).req i = s.req i := id rfl
@[simp] theorem State.at_reqCount (s : State) (kw : Option Nat) (p : ReqS → Bool) (t : Nat) : (s.at t).reqCount kw p = s.reqCount kw p := id rfl
@[simp] theorem State.at_resetting (s : State) (u : UnitId) (t : Nat) : (s.at t).resetting u = s.resetting u := id rfl
@[simp] theorem State.at_restorable (s : State) (c : Ctx) (index : Nat) (t : Nat) : (s.at t).restorable c index = s.restorable c index := id rfl
@[simp] theorem State.at_ring (s : State) (fn : Nat) (t : Nat) : (s.at t).ring fn = s.ring fn := id rfl
@[simp] theorem State.at_ringRound (s : State) (seq : Nat) (lane : Nat) (t : Nat) : (s.at t).ringRound seq lane = s.ringRound seq lane := id rfl
@[simp] theorem State.at_ringSeq (s : State) (kw : Nat) (ring : Nat) (t : Nat) : (s.at t).ringSeq kw ring = s.ringSeq kw ring := id rfl
@[simp] theorem State.at_ringsOf (s : State) (kw : Nat) (t : Nat) : (s.at t).ringsOf kw = s.ringsOf kw := id rfl
@[simp] theorem State.at_roleRefuses (s : State) (kind : Nat) (t : Nat) : (s.at t).roleRefuses kind = s.roleRefuses kind := id rfl
@[simp] theorem State.at_roleState (s : State) (t : Nat) : (s.at t).roleState = s.roleState := id rfl
@[simp] theorem State.at_roomOf (s : State) (t : Nat) : (s.at t).roomOf = s.roomOf := id rfl
@[simp] theorem State.at_routeLive (s : State) (f : Flow) (t : Nat) : (s.at t).routeLive f = s.routeLive f := id rfl
@[simp] theorem State.at_runFails (s : State) (r : CalRun) (t : Nat) : (s.at t).runFails r = s.runFails r := id rfl
@[simp] theorem State.at_running (s : State) (core : Nat) (t : Nat) : (s.at t).running core = s.running core := id rfl
@[simp] theorem State.at_runsOn (s : State) (r : ReqS) (t : Nat) : (s.at t).runsOn r = s.runsOn r := id rfl
@[simp] theorem State.at_rxNext (s : State) (f : HFrame) (t : Nat) : (s.at t).rxNext f = s.rxNext f := id rfl
@[simp] theorem State.at_rxShard (s : State) (f : HFrame) (t : Nat) : (s.at t).rxShard f = s.rxShard f := id rfl
@[simp] theorem State.at_rxTrain (s : State) (f : HFrame) (t : Nat) : (s.at t).rxTrain f = s.rxTrain f := id rfl
@[simp] theorem State.at_secret (s : State) (c : Ctx) (k : OKey) (t : Nat) : (s.at t).secret c k = s.secret c k := id rfl
@[simp] theorem State.at_seeks (s : State) (src : BeatSrc) (t : Nat) : (s.at t).seeks src = s.seeks src := id rfl
@[simp] theorem State.at_segments (s : State) (q : GReq) (k : OKey) (t : Nat) : (s.at t).segments q k = s.segments q k := id rfl
@[simp] theorem State.at_selected (s : State) (c : Ctx) (k : OKey) (t : Nat) : (s.at t).selected c k = s.selected c k := id rfl
@[simp] theorem State.at_selfPeriod (s : State) (t : Nat) : (s.at t).selfPeriod = s.selfPeriod := id rfl
@[simp] theorem State.at_senseReadings (s : State) (t : Nat) : (s.at t).senseReadings = s.senseReadings := id rfl
@[simp] theorem State.at_seqAt (s : State) (i : Nat) (t : Nat) : (s.at t).seqAt i = s.seqAt i := id rfl
@[simp] theorem State.at_seqCount (s : State) (kw : Option Nat) (p : SeqS → Bool) (t : Nat) : (s.at t).seqCount kw p = s.seqCount kw p := id rfl
@[simp] theorem State.at_seqFor (s : State) (i : Nat) (r : ReqS) (v : Version) (map : Bytes) (draft : Option (Version × Bytes)) (log2 : Nat) (fmt : Nat) (home : Nat) (dflt : Bool) (t : Nat) : (s.at t).seqFor i r v map draft log2 fmt home dflt = s.seqFor i r v map draft log2 fmt home dflt := id rfl
@[simp] theorem State.at_seqReq (s : State) (seq : Nat) (t : Nat) : (s.at t).seqReq seq = s.seqReq seq := id rfl
@[simp] theorem State.at_serveState (s : State) (n : Nat) (t : Nat) : (s.at t).serveState n = s.serveState n := id rfl
@[simp] theorem State.at_servedBy (s : State) (req : Nat) (draft : Bool) (t : Nat) : (s.at t).servedBy req draft = s.servedBy req draft := id rfl
@[simp] theorem State.at_sessionOf (s : State) (q : GReq) (t : Nat) : (s.at t).sessionOf q = s.sessionOf q := id rfl
@[simp] theorem State.at_set0 (s : State) (o : Obj) (t : Nat) : (s.at t).set0 o = s.set0 o := id rfl
@[simp] theorem State.at_setByte (s : State) (o : Obj) (i : Nat) (t : Nat) : (s.at t).setByte o i = s.setByte o i := id rfl
@[simp] theorem State.at_setField (s : State) (o : Obj) (off : Nat) (n : Nat) (t : Nat) : (s.at t).setField o off n = s.setField o off n := id rfl
@[simp] theorem State.at_setI (s : State) (o : Obj) (inst : Nat) (t : Nat) : (s.at t).setI o inst = s.setI o inst := id rfl
@[simp] theorem State.at_setK (s : State) (o : Obj) (kw : Nat) (t : Nat) : (s.at t).setK o kw = s.setK o kw := id rfl
@[simp] theorem State.at_setpoint (s : State) (die : Nat) (t : Nat) : (s.at t).setpoint die = s.setpoint die := id rfl
@[simp] theorem State.at_setting (s : State) (k : OKey) (t : Nat) : (s.at t).setting k = s.setting k := id rfl
@[simp] theorem State.at_settingBytes (s : State) (k : OKey) (t : Nat) : (s.at t).settingBytes k = s.settingBytes k := id rfl
@[simp] theorem State.at_shardDies (s : State) (slot : Nat) (v : Version) (h : ShardHdr) (t : Nat) : (s.at t).shardDies slot v h = s.shardDies slot v h := id rfl
@[simp] theorem State.at_shardHeld (s : State) (kw : Nat) (model : Nat) (version : Nat) (index : Nat) (t : Nat) : (s.at t).shardHeld kw model version index = s.shardHeld kw model version index := id rfl
@[simp] theorem State.at_shareOf (s : State) (e : Nat) (kw : Nat) (t : Nat) : (s.at t).shareOf e kw = s.shareOf e kw := id rfl
@[simp] theorem State.at_sheds (s : State) (k : Nat) (t : Nat) : (s.at t).sheds k = s.sheds k := id rfl
@[simp] theorem State.at_shownLost (s : State) (m : Nat) (t : Nat) : (s.at t).shownLost m = s.shownLost m := id rfl
@[simp] theorem State.at_sink (s : State) (t : Nat) : (s.at t).sink = s.sink := id rfl
@[simp] theorem State.at_siteEnabled (s : State) (cl : Nat) (site : Nat) (t : Nat) : (s.at t).siteEnabled cl site = s.siteEnabled cl site := id rfl
@[simp] theorem State.at_siteMap (s : State) (cl : Nat) (t : Nat) : (s.at t).siteMap cl = s.siteMap cl := id rfl
@[simp] theorem State.at_siteUnit (s : State) (v : Nat) (t : Nat) : (s.at t).siteUnit v = s.siteUnit v := id rfl
@[simp] theorem State.at_slot (s : State) (n : Nat) (t : Nat) : (s.at t).slot n = s.slot n := id rfl
@[simp] theorem State.at_slotBytes (s : State) (n : Nat) (t : Nat) : (s.at t).slotBytes n = s.slotBytes n := id rfl
@[simp] theorem State.at_slotFor (s : State) (kw : Nat) (n : Nat) (t : Nat) : (s.at t).slotFor kw n = s.slotFor kw n := id rfl
@[simp] theorem State.at_slotLength (s : State) (l : List PassOrder) (t : Nat) : (s.at t).slotLength l = s.slotLength l := id rfl
@[simp] theorem State.at_slotOf (s : State) (a : Nat) (t : Nat) : (s.at t).slotOf a = s.slotOf a := id rfl
@[simp] theorem State.at_slotOpen (s : State) (n : Nat) (t : Nat) : (s.at t).slotOpen n = s.slotOpen n := id rfl
@[simp] theorem State.at_slotOwnerLive (s : State) (n : Nat) (t : Nat) : (s.at t).slotOwnerLive n = s.slotOwnerLive n := id rfl
@[simp] theorem State.at_slotPinned (s : State) (n : Nat) (t : Nat) : (s.at t).slotPinned n = s.slotPinned n := id rfl
@[simp] theorem State.at_slotRing (s : State) (t : Nat) : (s.at t).slotRing = s.slotRing := id rfl
@[simp] theorem State.at_slotSeen (s : State) (n : Nat) (slot : Nat) (t : Nat) : (s.at t).slotSeen n slot = s.slotSeen n slot := id rfl
@[simp] theorem State.at_slotsServing (s : State) (t : Nat) : (s.at t).slotsServing = s.slotsServing := id rfl
@[simp] theorem State.at_sourceLevels (s : State) (c : Nat) (t : Nat) : (s.at t).sourceLevels c = s.sourceLevels c := id rfl
@[simp] theorem State.at_sourceMem (s : State) (q : SeqS) (l : Lane) (a1 : Source) (t : Nat) : (s.at t).sourceMem q l a1 = s.sourceMem q l a1 := id rfl
@[simp] theorem State.at_sourceValue (s : State) (c : Nat) (t : Nat) : (s.at t).sourceValue c = s.sourceValue c := id rfl
@[simp] theorem State.at_spareMember (s : State) (m : Nat) (t : Nat) : (s.at t).spareMember m = s.spareMember m := id rfl
@[simp] theorem State.at_spares (s : State) (g : Nat) (t : Nat) : (s.at t).spares g = s.spares g := id rfl
@[simp] theorem State.at_spdmStage (s : State) (c : SpdmConn) (t : Nat) : (s.at t).spdmStage c = s.spdmStage c := id rfl
@[simp] theorem State.at_spdmUp (s : State) (a1 : SpdmConn) (t : Nat) : (s.at t).spdmUp a1 = s.spdmUp a1 := id rfl
@[simp] theorem State.at_starting (s : State) (t : Nat) : (s.at t).starting = s.starting := id rfl
@[simp] theorem State.at_stepCores (s : State) (t : Nat) : (s.at t).stepCores = s.stepCores := id rfl
@[simp] theorem State.at_stepEnd (s : State) (q : SeqS) (t : Nat) : (s.at t).stepEnd q = s.stepEnd q := id rfl
@[simp] theorem State.at_stepOf (s : State) (q : SeqS) (t : Nat) : (s.at t).stepOf q = s.stepOf q := id rfl
@[simp] theorem State.at_stepSeq (s : State) (i : Nat) (t : Nat) : (s.at t).stepSeq i = s.stepSeq i := id rfl
@[simp] theorem State.at_stepTop (s : State) (q : SeqS) (t : Nat) : (s.at t).stepTop q = s.stepTop q := id rfl
@[simp] theorem State.at_streamUp (s : State) (n : Nat) (t : Nat) : (s.at t).streamUp n = s.streamUp n := id rfl
@[simp] theorem State.at_sub (s : State) (fn : Nat) (t : Nat) : (s.at t).sub fn = s.sub fn := id rfl
@[simp] theorem State.at_subWords (s : State) (p : Pass) (ticks : List (List Int)) (t : Nat) : (s.at t).subWords p ticks = s.subWords p ticks := id rfl
@[simp] theorem State.at_subs (s : State) (c : Ctx) (index : Nat) (t : Nat) : (s.at t).subs c index = s.subs c index := id rfl
@[simp] theorem State.at_syscalHolds (s : State) (c : Nat) (t : Nat) : (s.at t).syscalHolds c = s.syscalHolds c := id rfl
@[simp] theorem State.at_syscalInSeq (s : State) (cmd : Nat) (t : Nat) : (s.at t).syscalInSeq cmd = s.syscalInSeq cmd := id rfl
@[simp] theorem State.at_tdiff (s : State) (eng : Nat) (t : Nat) : (s.at t).tdiff eng = s.tdiff eng := id rfl
@[simp] theorem State.at_thermistor (s : State) (n : Nat) (ratio : F32) (t : Nat) : (s.at t).thermistor n ratio = s.thermistor n ratio := id rfl
@[simp] theorem State.at_throttleStep (s : State) (t : Nat) : (s.at t).throttleStep = s.throttleStep := id rfl
@[simp] theorem State.at_tierState (s : State) (n : Nat) (t : Nat) (n_ : Nat) : (s.at n_).tierState n t = s.tierState n t := id rfl
@[simp] theorem State.at_tiersFree (s : State) (t : Nat) : (s.at t).tiersFree = s.tiersFree := id rfl
@[simp] theorem State.at_tiersIn (s : State) (h : Health) (p : Nat → Bool) (t : Nat) : (s.at t).tiersIn h p = s.tiersIn h p := id rfl
@[simp] theorem State.at_tileAt (s : State) (eng : Nat) (tier : Nat) (t : Nat) : (s.at t).tileAt eng tier = s.tileAt eng tier := id rfl
@[simp] theorem State.at_tileDigital (s : State) (t : Tile) (n_ : Nat) : (s.at n_).tileDigital t = s.tileDigital t := id rfl
@[simp] theorem State.at_tileLost (s : State) (v : Version) (t : Tile) (n_ : Nat) : (s.at n_).tileLost v t = s.tileLost v t := id rfl
@[simp] theorem State.at_tilesDigital (s : State) (n : Nat) (t : Nat) : (s.at t).tilesDigital n = s.tilesDigital n := id rfl
@[simp] theorem State.at_tjSeen (s : State) (t : Nat) : (s.at t).tjSeen = s.tjSeen := id rfl
@[simp] theorem State.at_toGroup (s : State) (new : Bool) (h : Nat) (flow : Nat) (t : Nat) : (s.at t).toGroup new h flow = s.toGroup new h flow := id rfl
@[simp] theorem State.at_tokenBudget (s : State) (r : ReqS) (t : Nat) : (s.at t).tokenBudget r = s.tokenBudget r := id rfl
@[simp] theorem State.at_topSub (s : State) (c : Ctx) (index : Nat) (t : Nat) : (s.at t).topSub c index = s.topSub c index := id rfl
@[simp] theorem State.at_total (s : State) (k : TotalKey) (t : Nat) : (s.at t).total k = s.total k := id rfl
@[simp] theorem State.at_tq (s : State) (eng : Nat) (t : Nat) : (s.at t).tq eng = s.tq eng := id rfl
@[simp] theorem State.at_treeBytes (s : State) (kw : Nat) (t : Nat) : (s.at t).treeBytes kw = s.treeBytes kw := id rfl
@[simp] theorem State.at_uidCore (s : State) (n : Nat) (t : Nat) : (s.at t).uidCore n = s.uidCore n := id rfl
@[simp] theorem State.at_uidEngine (s : State) (n : Nat) (t : Nat) : (s.at t).uidEngine n = s.uidEngine n := id rfl
@[simp] theorem State.at_uidTier (s : State) (n : Nat) (t : Nat) (n_ : Nat) : (s.at n_).uidTier n t = s.uidTier n t := id rfl
@[simp] theorem State.at_unitBusy (s : State) (u : UnitId) (t : Nat) : (s.at t).unitBusy u = s.unitBusy u := id rfl
@[simp] theorem State.at_unitHolds (s : State) (u : UnitId) (eng : Nat) (t : Nat) : (s.at t).unitHolds u eng = s.unitHolds u eng := id rfl
@[simp] theorem State.at_unitHoldsCore (s : State) (u : UnitId) (core : Nat) (t : Nat) : (s.at t).unitHoldsCore u core = s.unitHoldsCore u core := id rfl
@[simp] theorem State.at_unitHoldsTier (s : State) (u : UnitId) (eng : Nat) (tier : Nat) (t : Nat) : (s.at t).unitHoldsTier u eng tier = s.unitHoldsTier u eng tier := id rfl
@[simp] theorem State.at_unitNamed (s : State) (c : Ctx) (o : Obj) (v : Nat) (t : Nat) : (s.at t).unitNamed c o v = s.unitNamed c o v := id rfl
@[simp] theorem State.at_unitRead (s : State) (c : Ctx) (t : Nat) : (s.at t).unitRead c = s.unitRead c := id rfl
@[simp] theorem State.at_unitSeen (s : State) (v : Option Nat) (u : UnitId) (t : Nat) : (s.at t).unitSeen v u = s.unitSeen v u := id rfl
@[simp] theorem State.at_unitState (s : State) (u : UnitId) (t : Nat) : (s.at t).unitState u = s.unitState u := id rfl
@[simp] theorem State.at_unwrap (s : State) (b : Bytes) (t : Nat) : (s.at t).unwrap b = s.unwrap b := id rfl
@[simp] theorem State.at_usable (s : State) (new : Bool) (p : Nat) (t : Nat) : (s.at t).usable new p = s.usable new p := id rfl
@[simp] theorem State.at_usersOf (s : State) (u : UnitId) (t : Nat) : (s.at t).usersOf u = s.usersOf u := id rfl
@[simp] theorem State.at_vcoreSet (s : State) (t : Nat) : (s.at t).vcoreSet = s.vcoreSet := id rfl
@[simp] theorem State.at_verInStep (s : State) (n : Nat) (v : Version) (t : Nat) : (s.at t).verInStep n v = s.verInStep n v := id rfl
@[simp] theorem State.at_versionNo (s : State) (slot : Nat) (n : Nat) (t : Nat) : (s.at t).versionNo slot n = s.versionNo slot n := id rfl
@[simp] theorem State.at_versionShut (s : State) (slot : Nat) (version : Nat) (t : Nat) : (s.at t).versionShut slot version = s.versionShut slot version := id rfl
@[simp] theorem State.at_versions (s : State) (t : Nat) : (s.at t).versions = s.versions := id rfl
@[simp] theorem State.at_viewBars (s : State) (n : Nat) (k : OKey) (t : Nat) : (s.at t).viewBars n k = s.viewBars n k := id rfl
@[simp] theorem State.at_viewers (s : State) (kw : Nat) (t : Nat) : (s.at t).viewers kw = s.viewers kw := id rfl
@[simp] theorem State.at_visible (s : State) (n : Nat) (k : OKey) (t : Nat) : (s.at t).visible n k = s.visible n k := id rfl
@[simp] theorem State.at_waitKv (s : State) (kw : Nat) (tag : Nat) (t : Nat) : (s.at t).waitKv kw tag = s.waitKv kw tag := id rfl
@[simp] theorem State.at_waitingFor (s : State) (k : OKey) (t : Nat) : (s.at t).waitingFor k = s.waitingFor k := id rfl
@[simp] theorem State.at_waitsElsewhere (s : State) (eng : Nat) (tier : Nat) (t : Nat) : (s.at t).waitsElsewhere eng tier = s.waitsElsewhere eng tier := id rfl
@[simp] theorem State.at_wasteOf (s : State) (kw : Nat) (t : Nat) : (s.at t).wasteOf kw = s.wasteOf kw := id rfl
@[simp] theorem State.at_watched (s : State) (u : UnitId) (t : Nat) : (s.at t).watched u = s.watched u := id rfl
@[simp] theorem State.at_windowBytes (s : State) (n : Nat) (t : Nat) : (s.at t).windowBytes n = s.windowBytes n := id rfl
@[simp] theorem State.at_wordOf (s : State) (p : Pass) (sA : Nat) (ticks : List Int) (c : Nat) (t : Nat) : (s.at t).wordOf p sA ticks c = s.wordOf p sA ticks c := id rfl
@[simp] theorem State.at_wordsOf (s : State) (p : Pass) (sA : Nat) (ticks : List Int) (t : Nat) : (s.at t).wordsOf p sA ticks = s.wordsOf p sA ticks := id rfl
@[simp] theorem State.at_zeroed (s : State) (n : Nat) (t : Nat) : (s.at t).zeroed n = s.zeroed n := id rfl
end Sys2Proof.Machine
end

