-- ==== Sys2Proof/Laws/State.lean ====
section
/-! SUPPORT. Laws/State.lean: what each shared update leaves as it was, field by field, and what it writes. -/
namespace Sys2Proof.Machine
open Sys2Proof
set_option linter.unusedSimpArgs false
/-- A fold keeps what each of its steps keeps. -/
theorem foldl_keeps {α β : Type} (g : State → β) (f : State → α → State) (h : ∀ x a, g (f x a) = g x) (l : List α) (s : State) :
    g (l.foldl f s) = g s := by
  induction l generalizing s with
  | nil => rfl
  | cons a r ih => simp [ih, h]

/-! ### Maps and cells -/
@[simp] theorem mapFind_mapSet {α : Type} (m : Map α) (k j : Nat) (v : α) : mapFind (mapSet m k v) j = if k = j then some v else mapFind m j := by
  induction m with
  | nil => simp [mapSet, mapFind]
  | cons x r ih =>
    obtain ⟨a, b⟩ := x
    simp only [mapSet]
    split
    · rename_i h; simp only [beq_iff_eq] at h; subst h
      by_cases h2 : k = j <;> simp [mapFind, h2]
    · rename_i h; simp only [beq_iff_eq] at h
      split
      · by_cases h2 : k = j <;> simp [mapFind, h2]
      · simp only [mapFind, ih, beq_iff_eq]
        by_cases h2 : k = j
        · subst h2; have h3 : ¬ a = k := fun e => h e.symm
          simp [h3]
        · simp [h2]
@[simp] theorem mapGet_mapSet {α : Type} (m : Map α) (k j : Nat) (v d : α) : mapGet (mapSet m k v) j d = if k = j then v else mapGet m j d := by
  unfold mapGet; rw [mapFind_mapSet]; split <;> rfl
@[simp] theorem cellFind_cellPut {α : Type} (l : List (OKey × α)) (k j : OKey) (v : α) :
    cellFind (cellPut l k v) j = if k = j then some v else cellFind l j := by
  induction l with
  | nil => by_cases h : k = j <;> simp [cellPut, cellFind, h, eq_comm]
  | cons x r ih =>
    obtain ⟨a, b⟩ := x
    simp only [cellPut]
    split
    · rename_i h; subst h
      by_cases h2 : a = j
      · subst h2; simp [cellFind]
      · have h3 : ¬ j = a := fun e => h2 e.symm
        simp [cellFind, h2, h3]
    · rename_i h
      simp only [cellFind, ih]
      by_cases h2 : j = a <;> by_cases h4 : k = j <;> simp_all

/-! ### What an update writes -/
@[simp] theorem State.at_now (s : State) (t : Nat) : (s.at t).now = max s.now t := id rfl
@[simp] theorem State.at_out (s : State) (t : Nat) : (s.at t).out = [] := id rfl
@[simp] theorem State.emit_out (s : State) (o : Output) : (s.emit o).out = s.out ++ [o] := id rfl
@[simp] theorem State.drawn_free (s : State) : s.drawn.free = s.free + 1 := id rfl
@[simp] theorem State.setBoot_boot (s : State) (f : BootS → BootS) : (s.setBoot f).boot = f s.boot := id rfl
@[simp] theorem State.putCal_sense (s : State) (c : SysCal) : (s.putCal c).sense = { s.sense with cal := c } := id rfl
@[simp] theorem State.engine_putEngine (s : State) (e f : Nat) (x : EngS) : (s.putEngine e x).engine f = if e = f then x else s.engine f := by
  simp [State.engine, State.putEngine]
@[simp] theorem State.port_putPort (s : State) (p q : Nat) (x : PortS) : (s.putPort p x).port q = if p = q then x else s.port q := by
  simp [State.port, State.putPort]
@[simp] theorem State.req_putReq (s : State) (i j : Nat) (r : ReqS) : (s.putReq i r).req j = if i = j then r else s.req j := by
  simp [State.req, State.putReq]
@[simp] theorem State.seqAt_putSeq (s : State) (i j : Nat) (q : SeqS) : (s.putSeq i q).seqAt j = if i = j then q else s.seqAt j := by
  simp [State.seqAt, State.putSeq]
@[simp] theorem State.sub_putSub (s : State) (i j : Nat) (x : SubS) : (s.putSub i x).sub j = if i = j then x else s.sub j := by
  simp [State.sub, State.putSub]
@[simp] theorem State.slot_putSlot (s : State) (i j : Nat) (x : SlotS) : (s.putSlot i x).slot j = if i = j then x else s.slot j := by
  simp [State.slot, State.putSlot]
@[simp] theorem State.ring_putRing (s : State) (i j : Nat) (x : RingS) : (s.putRing i x).ring j = if i = j then x else s.ring j := by
  simp [State.ring, State.putRing]
@[simp] theorem State.box_putBox (s : State) (i j : Nat) (x : Mailbox) : (s.putBox i x).box j = if i = j then x else s.box j := by
  simp [State.box, State.putBox]
@[simp] theorem State.lregs_putLregs (s : State) (i j : Nat) (x : LatchRegs) : (s.putLregs i x).lregs j = if i = j then x else s.lregs j := by
  simp [State.lregs, State.putLregs]
@[simp] theorem State.kway_putKway (s : State) (i j : Nat) (x : KeywayS) : (s.putKway i x).kway j = if i = j then x else s.kway j := by
  simp [State.kway, State.putKway]
@[simp] theorem State.keySlot_putKeySlot (s : State) (i j : Nat) (x : KeySlot) : (s.putKeySlot i x).keySlot j = if i = j then x else s.keySlot j := by
  simp [State.keySlot, State.putKeySlot]
@[simp] theorem State.count_putCount (s : State) (k j : OKey) (v : Nat) : (s.putCount k v).count j = if k = j then v else s.count j := by
  simp [State.count, State.putCount]; split <;> rfl
@[simp] theorem State.setting_putSetting (s : State) (k j : OKey) (v : OVal) : (s.putSetting k v).setting j = if k = j then v else s.setting j := by
  simp [State.setting, State.putSetting]; split <;> rfl

@[simp] theorem findFunc_putFuncIn (l : List (Func × FuncS)) (f g : Func) (x : FuncS) :
    findFunc (putFuncIn l f x) g = if f = g then some x else findFunc l g := by
  induction l with
  | nil => by_cases h : f = g <;> simp [putFuncIn, findFunc, h]
  | cons a r ih =>
    obtain ⟨b, y⟩ := a
    simp only [putFuncIn]
    split
    · rename_i h; subst h
      by_cases h2 : b = g <;> simp [findFunc, h2]
    · rename_i h
      simp only [findFunc, ih]
      by_cases h2 : b = g <;> by_cases h4 : f = g <;> simp_all
@[simp] theorem State.func_putFunc (s : State) (f g : Func) (x : FuncS) : (s.putFunc f x).func g = if f = g then x else s.func g := by
  simp [State.func, State.putFunc]; split <;> rfl
@[simp] theorem State.func_funcTo (s : State) (f : Func) (x : FState) : ((s.funcTo f x).func f).state = x := by
  simp [State.funcTo]

/-! ### What an update leaves -/
@[simp] theorem State.emit_pending (s : State) (o : Output) : (State.emit s o).pending = s.pending := id rfl
@[simp] theorem State.emit_now (s : State) (o : Output) : (State.emit s o).now = s.now := id rfl
@[simp] theorem State.emit_free (s : State) (o : Output) : (State.emit s o).free = s.free := id rfl
@[simp] theorem State.emit_part (s : State) (o : Output) : (State.emit s o).part = s.part := id rfl
@[simp] theorem State.emit_cfg (s : State) (o : Output) : (State.emit s o).cfg = s.cfg := id rfl
@[simp] theorem State.emit_waiting (s : State) (o : Output) : (State.emit s o).waiting = s.waiting := id rfl
@[simp] theorem State.emit_cnt (s : State) (o : Output) : (State.emit s o).cnt = s.cnt := id rfl
@[simp] theorem State.emit_store (s : State) (o : Output) : (State.emit s o).store = s.store := id rfl
@[simp] theorem State.emit_beat (s : State) (o : Output) : (State.emit s o).beat = s.beat := id rfl
@[simp] theorem State.emit_hier (s : State) (o : Output) : (State.emit s o).hier = s.hier := id rfl
@[simp] theorem State.emit_gdp (s : State) (o : Output) : (State.emit s o).gdp = s.gdp := id rfl
@[simp] theorem State.emit_funcs (s : State) (o : Output) : (State.emit s o).funcs = s.funcs := id rfl
@[simp] theorem State.emit_evt (s : State) (o : Output) : (State.emit s o).evt = s.evt := id rfl
@[simp] theorem State.emit_bist (s : State) (o : Output) : (State.emit s o).bist = s.bist := id rfl
@[simp] theorem State.emit_eng (s : State) (o : Output) : (State.emit s o).eng = s.eng := id rfl
@[simp] theorem State.emit_kpr (s : State) (o : Output) : (State.emit s o).kpr = s.kpr := id rfl
@[simp] theorem State.emit_cal (s : State) (o : Output) : (State.emit s o).cal = s.cal := id rfl
@[simp] theorem State.emit_slots (s : State) (o : Output) : (State.emit s o).slots = s.slots := id rfl
@[simp] theorem State.emit_hostMem (s : State) (o : Output) : (State.emit s o).hostMem = s.hostMem := id rfl
@[simp] theorem State.emit_kwMem (s : State) (o : Output) : (State.emit s o).kwMem = s.kwMem := id rfl
@[simp] theorem State.emit_srv (s : State) (o : Output) : (State.emit s o).srv = s.srv := id rfl
@[simp] theorem State.emit_kv (s : State) (o : Output) : (State.emit s o).kv = s.kv := id rfl
@[simp] theorem State.emit_sense (s : State) (o : Output) : (State.emit s o).sense = s.sense := id rfl
@[simp] theorem State.emit_pwr (s : State) (o : Output) : (State.emit s o).pwr = s.pwr := id rfl
@[simp] theorem State.emit_fab (s : State) (o : Output) : (State.emit s o).fab = s.fab := id rfl
@[simp] theorem State.emit_latch (s : State) (o : Output) : (State.emit s o).latch = s.latch := id rfl
@[simp] theorem State.emit_ward (s : State) (o : Output) : (State.emit s o).ward = s.ward := id rfl
@[simp] theorem State.emit_mem (s : State) (o : Output) : (State.emit s o).mem = s.mem := id rfl
@[simp] theorem State.emit_boot (s : State) (o : Output) : (State.emit s o).boot = s.boot := id rfl
@[simp] theorem State.putCount_pending (s : State) (k : OKey) (v : Nat) : (State.putCount s k v).pending = s.pending := id rfl
@[simp] theorem State.putCount_now (s : State) (k : OKey) (v : Nat) : (State.putCount s k v).now = s.now := id rfl
@[simp] theorem State.putCount_out (s : State) (k : OKey) (v : Nat) : (State.putCount s k v).out = s.out := id rfl
@[simp] theorem State.putCount_free (s : State) (k : OKey) (v : Nat) : (State.putCount s k v).free = s.free := id rfl
@[simp] theorem State.putCount_part (s : State) (k : OKey) (v : Nat) : (State.putCount s k v).part = s.part := id rfl
@[simp] theorem State.putCount_cfg (s : State) (k : OKey) (v : Nat) : (State.putCount s k v).cfg = s.cfg := id rfl
@[simp] theorem State.putCount_waiting (s : State) (k : OKey) (v : Nat) : (State.putCount s k v).waiting = s.waiting := id rfl
@[simp] theorem State.putCount_store (s : State) (k : OKey) (v : Nat) : (State.putCount s k v).store = s.store := id rfl
@[simp] theorem State.putCount_beat (s : State) (k : OKey) (v : Nat) : (State.putCount s k v).beat = s.beat := id rfl
@[simp] theorem State.putCount_hier (s : State) (k : OKey) (v : Nat) : (State.putCount s k v).hier = s.hier := id rfl
@[simp] theorem State.putCount_gdp (s : State) (k : OKey) (v : Nat) : (State.putCount s k v).gdp = s.gdp := id rfl
@[simp] theorem State.putCount_funcs (s : State) (k : OKey) (v : Nat) : (State.putCount s k v).funcs = s.funcs := id rfl
@[simp] theorem State.putCount_evt (s : State) (k : OKey) (v : Nat) : (State.putCount s k v).evt = s.evt := id rfl
@[simp] theorem State.putCount_bist (s : State) (k : OKey) (v : Nat) : (State.putCount s k v).bist = s.bist := id rfl
@[simp] theorem State.putCount_eng (s : State) (k : OKey) (v : Nat) : (State.putCount s k v).eng = s.eng := id rfl
@[simp] theorem State.putCount_kpr (s : State) (k : OKey) (v : Nat) : (State.putCount s k v).kpr = s.kpr := id rfl
@[simp] theorem State.putCount_cal (s : State) (k : OKey) (v : Nat) : (State.putCount s k v).cal = s.cal := id rfl
@[simp] theorem State.putCount_slots (s : State) (k : OKey) (v : Nat) : (State.putCount s k v).slots = s.slots := id rfl
@[simp] theorem State.putCount_hostMem (s : State) (k : OKey) (v : Nat) : (State.putCount s k v).hostMem = s.hostMem := id rfl
@[simp] theorem State.putCount_kwMem (s : State) (k : OKey) (v : Nat) : (State.putCount s k v).kwMem = s.kwMem := id rfl
@[simp] theorem State.putCount_srv (s : State) (k : OKey) (v : Nat) : (State.putCount s k v).srv = s.srv := id rfl
@[simp] theorem State.putCount_kv (s : State) (k : OKey) (v : Nat) : (State.putCount s k v).kv = s.kv := id rfl
@[simp] theorem State.putCount_sense (s : State) (k : OKey) (v : Nat) : (State.putCount s k v).sense = s.sense := id rfl
@[simp] theorem State.putCount_pwr (s : State) (k : OKey) (v : Nat) : (State.putCount s k v).pwr = s.pwr := id rfl
@[simp] theorem State.putCount_fab (s : State) (k : OKey) (v : Nat) : (State.putCount s k v).fab = s.fab := id rfl
@[simp] theorem State.putCount_latch (s : State) (k : OKey) (v : Nat) : (State.putCount s k v).latch = s.latch := id rfl
@[simp] theorem State.putCount_ward (s : State) (k : OKey) (v : Nat) : (State.putCount s k v).ward = s.ward := id rfl
@[simp] theorem State.putCount_mem (s : State) (k : OKey) (v : Nat) : (State.putCount s k v).mem = s.mem := id rfl
@[simp] theorem State.putCount_boot (s : State) (k : OKey) (v : Nat) : (State.putCount s k v).boot = s.boot := id rfl
@[simp] theorem State.drawn_pending (s : State) : (State.drawn s).pending = s.pending := id rfl
@[simp] theorem State.drawn_now (s : State) : (State.drawn s).now = s.now := id rfl
@[simp] theorem State.drawn_out (s : State) : (State.drawn s).out = s.out := id rfl
@[simp] theorem State.drawn_part (s : State) : (State.drawn s).part = s.part := id rfl
@[simp] theorem State.drawn_cfg (s : State) : (State.drawn s).cfg = s.cfg := id rfl
@[simp] theorem State.drawn_waiting (s : State) : (State.drawn s).waiting = s.waiting := id rfl
@[simp] theorem State.drawn_cnt (s : State) : (State.drawn s).cnt = s.cnt := id rfl
@[simp] theorem State.drawn_store (s : State) : (State.drawn s).store = s.store := id rfl
@[simp] theorem State.drawn_beat (s : State) : (State.drawn s).beat = s.beat := id rfl
@[simp] theorem State.drawn_hier (s : State) : (State.drawn s).hier = s.hier := id rfl
@[simp] theorem State.drawn_gdp (s : State) : (State.drawn s).gdp = s.gdp := id rfl
@[simp] theorem State.drawn_funcs (s : State) : (State.drawn s).funcs = s.funcs := id rfl
@[simp] theorem State.drawn_evt (s : State) : (State.drawn s).evt = s.evt := id rfl
@[simp] theorem State.drawn_bist (s : State) : (State.drawn s).bist = s.bist := id rfl
@[simp] theorem State.drawn_eng (s : State) : (State.drawn s).eng = s.eng := id rfl
@[simp] theorem State.drawn_kpr (s : State) : (State.drawn s).kpr = s.kpr := id rfl
@[simp] theorem State.drawn_cal (s : State) : (State.drawn s).cal = s.cal := id rfl
@[simp] theorem State.drawn_slots (s : State) : (State.drawn s).slots = s.slots := id rfl
@[simp] theorem State.drawn_hostMem (s : State) : (State.drawn s).hostMem = s.hostMem := id rfl
@[simp] theorem State.drawn_kwMem (s : State) : (State.drawn s).kwMem = s.kwMem := id rfl
@[simp] theorem State.drawn_srv (s : State) : (State.drawn s).srv = s.srv := id rfl
@[simp] theorem State.drawn_kv (s : State) : (State.drawn s).kv = s.kv := id rfl
@[simp] theorem State.drawn_sense (s : State) : (State.drawn s).sense = s.sense := id rfl
@[simp] theorem State.drawn_pwr (s : State) : (State.drawn s).pwr = s.pwr := id rfl
@[simp] theorem State.drawn_fab (s : State) : (State.drawn s).fab = s.fab := id rfl
@[simp] theorem State.drawn_latch (s : State) : (State.drawn s).latch = s.latch := id rfl
@[simp] theorem State.drawn_ward (s : State) : (State.drawn s).ward = s.ward := id rfl
@[simp] theorem State.drawn_mem (s : State) : (State.drawn s).mem = s.mem := id rfl
@[simp] theorem State.drawn_boot (s : State) : (State.drawn s).boot = s.boot := id rfl
@[simp] theorem State.addCount_pending (s : State) (k : OKey) (n : Nat) : (State.addCount s k n).pending = s.pending := by simp only [State.addCount]; split <;> rfl
@[simp] theorem State.addCount_now (s : State) (k : OKey) (n : Nat) : (State.addCount s k n).now = s.now := by simp only [State.addCount]; split <;> rfl
@[simp] theorem State.addCount_out (s : State) (k : OKey) (n : Nat) : (State.addCount s k n).out = s.out := by simp only [State.addCount]; split <;> rfl
@[simp] theorem State.addCount_part (s : State) (k : OKey) (n : Nat) : (State.addCount s k n).part = s.part := by simp only [State.addCount]; split <;> rfl
@[simp] theorem State.addCount_cfg (s : State) (k : OKey) (n : Nat) : (State.addCount s k n).cfg = s.cfg := by simp only [State.addCount]; split <;> rfl
@[simp] theorem State.addCount_waiting (s : State) (k : OKey) (n : Nat) : (State.addCount s k n).waiting = s.waiting := by simp only [State.addCount]; split <;> rfl
@[simp] theorem State.addCount_store (s : State) (k : OKey) (n : Nat) : (State.addCount s k n).store = s.store := by simp only [State.addCount]; split <;> rfl
@[simp] theorem State.addCount_beat (s : State) (k : OKey) (n : Nat) : (State.addCount s k n).beat = s.beat := by simp only [State.addCount]; split <;> rfl
@[simp] theorem State.addCount_hier (s : State) (k : OKey) (n : Nat) : (State.addCount s k n).hier = s.hier := by simp only [State.addCount]; split <;> rfl
@[simp] theorem State.addCount_gdp (s : State) (k : OKey) (n : Nat) : (State.addCount s k n).gdp = s.gdp := by simp only [State.addCount]; split <;> rfl
@[simp] theorem State.addCount_funcs (s : State) (k : OKey) (n : Nat) : (State.addCount s k n).funcs = s.funcs := by simp only [State.addCount]; split <;> rfl
@[simp] theorem State.addCount_evt (s : State) (k : OKey) (n : Nat) : (State.addCount s k n).evt = s.evt := by simp only [State.addCount]; split <;> rfl
@[simp] theorem State.addCount_bist (s : State) (k : OKey) (n : Nat) : (State.addCount s k n).bist = s.bist := by simp only [State.addCount]; split <;> rfl
@[simp] theorem State.addCount_eng (s : State) (k : OKey) (n : Nat) : (State.addCount s k n).eng = s.eng := by simp only [State.addCount]; split <;> rfl
@[simp] theorem State.addCount_kpr (s : State) (k : OKey) (n : Nat) : (State.addCount s k n).kpr = s.kpr := by simp only [State.addCount]; split <;> rfl
@[simp] theorem State.addCount_cal (s : State) (k : OKey) (n : Nat) : (State.addCount s k n).cal = s.cal := by simp only [State.addCount]; split <;> rfl
@[simp] theorem State.addCount_slots (s : State) (k : OKey) (n : Nat) : (State.addCount s k n).slots = s.slots := by simp only [State.addCount]; split <;> rfl
@[simp] theorem State.addCount_hostMem (s : State) (k : OKey) (n : Nat) : (State.addCount s k n).hostMem = s.hostMem := by simp only [State.addCount]; split <;> rfl
@[simp] theorem State.addCount_kwMem (s : State) (k : OKey) (n : Nat) : (State.addCount s k n).kwMem = s.kwMem := by simp only [State.addCount]; split <;> rfl
@[simp] theorem State.addCount_srv (s : State) (k : OKey) (n : Nat) : (State.addCount s k n).srv = s.srv := by simp only [State.addCount]; split <;> rfl
@[simp] theorem State.addCount_kv (s : State) (k : OKey) (n : Nat) : (State.addCount s k n).kv = s.kv := by simp only [State.addCount]; split <;> rfl
@[simp] theorem State.addCount_sense (s : State) (k : OKey) (n : Nat) : (State.addCount s k n).sense = s.sense := by simp only [State.addCount]; split <;> rfl
@[simp] theorem State.addCount_pwr (s : State) (k : OKey) (n : Nat) : (State.addCount s k n).pwr = s.pwr := by simp only [State.addCount]; split <;> rfl
@[simp] theorem State.addCount_fab (s : State) (k : OKey) (n : Nat) : (State.addCount s k n).fab = s.fab := by simp only [State.addCount]; split <;> rfl
@[simp] theorem State.addCount_latch (s : State) (k : OKey) (n : Nat) : (State.addCount s k n).latch = s.latch := by simp only [State.addCount]; split <;> rfl
@[simp] theorem State.addCount_ward (s : State) (k : OKey) (n : Nat) : (State.addCount s k n).ward = s.ward := by simp only [State.addCount]; split <;> rfl
@[simp] theorem State.addCount_mem (s : State) (k : OKey) (n : Nat) : (State.addCount s k n).mem = s.mem := by simp only [State.addCount]; split <;> rfl
@[simp] theorem State.addCount_boot (s : State) (k : OKey) (n : Nat) : (State.addCount s k n).boot = s.boot := by simp only [State.addCount]; split <;> rfl
@[simp] theorem State.incI_pending (s : State) (o : Obj) (inst : Nat) (n : Nat) : (State.incI s o inst n).pending = s.pending := by simp [State.incI]
@[simp] theorem State.incI_now (s : State) (o : Obj) (inst : Nat) (n : Nat) : (State.incI s o inst n).now = s.now := by simp [State.incI]
@[simp] theorem State.incI_out (s : State) (o : Obj) (inst : Nat) (n : Nat) : (State.incI s o inst n).out = s.out := by simp [State.incI]
@[simp] theorem State.incI_part (s : State) (o : Obj) (inst : Nat) (n : Nat) : (State.incI s o inst n).part = s.part := by simp [State.incI]
@[simp] theorem State.incI_cfg (s : State) (o : Obj) (inst : Nat) (n : Nat) : (State.incI s o inst n).cfg = s.cfg := by simp [State.incI]
@[simp] theorem State.incI_waiting (s : State) (o : Obj) (inst : Nat) (n : Nat) : (State.incI s o inst n).waiting = s.waiting := by simp [State.incI]
@[simp] theorem State.incI_store (s : State) (o : Obj) (inst : Nat) (n : Nat) : (State.incI s o inst n).store = s.store := by simp [State.incI]
@[simp] theorem State.incI_beat (s : State) (o : Obj) (inst : Nat) (n : Nat) : (State.incI s o inst n).beat = s.beat := by simp [State.incI]
@[simp] theorem State.incI_hier (s : State) (o : Obj) (inst : Nat) (n : Nat) : (State.incI s o inst n).hier = s.hier := by simp [State.incI]
@[simp] theorem State.incI_gdp (s : State) (o : Obj) (inst : Nat) (n : Nat) : (State.incI s o inst n).gdp = s.gdp := by simp [State.incI]
@[simp] theorem State.incI_funcs (s : State) (o : Obj) (inst : Nat) (n : Nat) : (State.incI s o inst n).funcs = s.funcs := by simp [State.incI]
@[simp] theorem State.incI_evt (s : State) (o : Obj) (inst : Nat) (n : Nat) : (State.incI s o inst n).evt = s.evt := by simp [State.incI]
@[simp] theorem State.incI_bist (s : State) (o : Obj) (inst : Nat) (n : Nat) : (State.incI s o inst n).bist = s.bist := by simp [State.incI]
@[simp] theorem State.incI_eng (s : State) (o : Obj) (inst : Nat) (n : Nat) : (State.incI s o inst n).eng = s.eng := by simp [State.incI]
@[simp] theorem State.incI_kpr (s : State) (o : Obj) (inst : Nat) (n : Nat) : (State.incI s o inst n).kpr = s.kpr := by simp [State.incI]
@[simp] theorem State.incI_cal (s : State) (o : Obj) (inst : Nat) (n : Nat) : (State.incI s o inst n).cal = s.cal := by simp [State.incI]
@[simp] theorem State.incI_slots (s : State) (o : Obj) (inst : Nat) (n : Nat) : (State.incI s o inst n).slots = s.slots := by simp [State.incI]
@[simp] theorem State.incI_hostMem (s : State) (o : Obj) (inst : Nat) (n : Nat) : (State.incI s o inst n).hostMem = s.hostMem := by simp [State.incI]
@[simp] theorem State.incI_kwMem (s : State) (o : Obj) (inst : Nat) (n : Nat) : (State.incI s o inst n).kwMem = s.kwMem := by simp [State.incI]
@[simp] theorem State.incI_srv (s : State) (o : Obj) (inst : Nat) (n : Nat) : (State.incI s o inst n).srv = s.srv := by simp [State.incI]
@[simp] theorem State.incI_kv (s : State) (o : Obj) (inst : Nat) (n : Nat) : (State.incI s o inst n).kv = s.kv := by simp [State.incI]
@[simp] theorem State.incI_sense (s : State) (o : Obj) (inst : Nat) (n : Nat) : (State.incI s o inst n).sense = s.sense := by simp [State.incI]
@[simp] theorem State.incI_pwr (s : State) (o : Obj) (inst : Nat) (n : Nat) : (State.incI s o inst n).pwr = s.pwr := by simp [State.incI]
@[simp] theorem State.incI_fab (s : State) (o : Obj) (inst : Nat) (n : Nat) : (State.incI s o inst n).fab = s.fab := by simp [State.incI]
@[simp] theorem State.incI_latch (s : State) (o : Obj) (inst : Nat) (n : Nat) : (State.incI s o inst n).latch = s.latch := by simp [State.incI]
@[simp] theorem State.incI_ward (s : State) (o : Obj) (inst : Nat) (n : Nat) : (State.incI s o inst n).ward = s.ward := by simp [State.incI]
@[simp] theorem State.incI_mem (s : State) (o : Obj) (inst : Nat) (n : Nat) : (State.incI s o inst n).mem = s.mem := by simp [State.incI]
@[simp] theorem State.incI_boot (s : State) (o : Obj) (inst : Nat) (n : Nat) : (State.incI s o inst n).boot = s.boot := by simp [State.incI]
@[simp] theorem State.raiseEv_pending (s : State) (e : Event) : (State.raiseEv s e).pending = s.pending := id rfl
@[simp] theorem State.raiseEv_now (s : State) (e : Event) : (State.raiseEv s e).now = s.now := id rfl
@[simp] theorem State.raiseEv_out (s : State) (e : Event) : (State.raiseEv s e).out = s.out := id rfl
@[simp] theorem State.raiseEv_free (s : State) (e : Event) : (State.raiseEv s e).free = s.free := id rfl
@[simp] theorem State.raiseEv_part (s : State) (e : Event) : (State.raiseEv s e).part = s.part := id rfl
@[simp] theorem State.raiseEv_cfg (s : State) (e : Event) : (State.raiseEv s e).cfg = s.cfg := id rfl
@[simp] theorem State.raiseEv_waiting (s : State) (e : Event) : (State.raiseEv s e).waiting = s.waiting := id rfl
@[simp] theorem State.raiseEv_cnt (s : State) (e : Event) : (State.raiseEv s e).cnt = s.cnt := id rfl
@[simp] theorem State.raiseEv_store (s : State) (e : Event) : (State.raiseEv s e).store = s.store := id rfl
@[simp] theorem State.raiseEv_beat (s : State) (e : Event) : (State.raiseEv s e).beat = s.beat := id rfl
@[simp] theorem State.raiseEv_hier (s : State) (e : Event) : (State.raiseEv s e).hier = s.hier := id rfl
@[simp] theorem State.raiseEv_gdp (s : State) (e : Event) : (State.raiseEv s e).gdp = s.gdp := id rfl
@[simp] theorem State.raiseEv_funcs (s : State) (e : Event) : (State.raiseEv s e).funcs = s.funcs := id rfl
@[simp] theorem State.raiseEv_bist (s : State) (e : Event) : (State.raiseEv s e).bist = s.bist := id rfl
@[simp] theorem State.raiseEv_eng (s : State) (e : Event) : (State.raiseEv s e).eng = s.eng := id rfl
@[simp] theorem State.raiseEv_kpr (s : State) (e : Event) : (State.raiseEv s e).kpr = s.kpr := id rfl
@[simp] theorem State.raiseEv_cal (s : State) (e : Event) : (State.raiseEv s e).cal = s.cal := id rfl
@[simp] theorem State.raiseEv_slots (s : State) (e : Event) : (State.raiseEv s e).slots = s.slots := id rfl
@[simp] theorem State.raiseEv_hostMem (s : State) (e : Event) : (State.raiseEv s e).hostMem = s.hostMem := id rfl
@[simp] theorem State.raiseEv_kwMem (s : State) (e : Event) : (State.raiseEv s e).kwMem = s.kwMem := id rfl
@[simp] theorem State.raiseEv_srv (s : State) (e : Event) : (State.raiseEv s e).srv = s.srv := id rfl
@[simp] theorem State.raiseEv_kv (s : State) (e : Event) : (State.raiseEv s e).kv = s.kv := id rfl
@[simp] theorem State.raiseEv_sense (s : State) (e : Event) : (State.raiseEv s e).sense = s.sense := id rfl
@[simp] theorem State.raiseEv_pwr (s : State) (e : Event) : (State.raiseEv s e).pwr = s.pwr := id rfl
@[simp] theorem State.raiseEv_fab (s : State) (e : Event) : (State.raiseEv s e).fab = s.fab := id rfl
@[simp] theorem State.raiseEv_latch (s : State) (e : Event) : (State.raiseEv s e).latch = s.latch := id rfl
@[simp] theorem State.raiseEv_ward (s : State) (e : Event) : (State.raiseEv s e).ward = s.ward := id rfl
@[simp] theorem State.raiseEv_mem (s : State) (e : Event) : (State.raiseEv s e).mem = s.mem := id rfl
@[simp] theorem State.raiseEv_boot (s : State) (e : Event) : (State.raiseEv s e).boot = s.boot := id rfl
@[simp] theorem State.raise_pending (s : State) (code : Nat) (kw : Nat) (unit : UnitId) (p0 : Nat) (p1 : Nat) (p2 : Nat) : (State.raise s code kw unit p0 p1 p2).pending = s.pending := id rfl
@[simp] theorem State.raise_now (s : State) (code : Nat) (kw : Nat) (unit : UnitId) (p0 : Nat) (p1 : Nat) (p2 : Nat) : (State.raise s code kw unit p0 p1 p2).now = s.now := id rfl
@[simp] theorem State.raise_out (s : State) (code : Nat) (kw : Nat) (unit : UnitId) (p0 : Nat) (p1 : Nat) (p2 : Nat) : (State.raise s code kw unit p0 p1 p2).out = s.out := id rfl
@[simp] theorem State.raise_free (s : State) (code : Nat) (kw : Nat) (unit : UnitId) (p0 : Nat) (p1 : Nat) (p2 : Nat) : (State.raise s code kw unit p0 p1 p2).free = s.free := id rfl
@[simp] theorem State.raise_part (s : State) (code : Nat) (kw : Nat) (unit : UnitId) (p0 : Nat) (p1 : Nat) (p2 : Nat) : (State.raise s code kw unit p0 p1 p2).part = s.part := id rfl
@[simp] theorem State.raise_cfg (s : State) (code : Nat) (kw : Nat) (unit : UnitId) (p0 : Nat) (p1 : Nat) (p2 : Nat) : (State.raise s code kw unit p0 p1 p2).cfg = s.cfg := id rfl
@[simp] theorem State.raise_waiting (s : State) (code : Nat) (kw : Nat) (unit : UnitId) (p0 : Nat) (p1 : Nat) (p2 : Nat) : (State.raise s code kw unit p0 p1 p2).waiting = s.waiting := id rfl
@[simp] theorem State.raise_cnt (s : State) (code : Nat) (kw : Nat) (unit : UnitId) (p0 : Nat) (p1 : Nat) (p2 : Nat) : (State.raise s code kw unit p0 p1 p2).cnt = s.cnt := id rfl
@[simp] theorem State.raise_store (s : State) (code : Nat) (kw : Nat) (unit : UnitId) (p0 : Nat) (p1 : Nat) (p2 : Nat) : (State.raise s code kw unit p0 p1 p2).store = s.store := id rfl
@[simp] theorem State.raise_beat (s : State) (code : Nat) (kw : Nat) (unit : UnitId) (p0 : Nat) (p1 : Nat) (p2 : Nat) : (State.raise s code kw unit p0 p1 p2).beat = s.beat := id rfl
@[simp] theorem State.raise_hier (s : State) (code : Nat) (kw : Nat) (unit : UnitId) (p0 : Nat) (p1 : Nat) (p2 : Nat) : (State.raise s code kw unit p0 p1 p2).hier = s.hier := id rfl
@[simp] theorem State.raise_gdp (s : State) (code : Nat) (kw : Nat) (unit : UnitId) (p0 : Nat) (p1 : Nat) (p2 : Nat) : (State.raise s code kw unit p0 p1 p2).gdp = s.gdp := id rfl
@[simp] theorem State.raise_funcs (s : State) (code : Nat) (kw : Nat) (unit : UnitId) (p0 : Nat) (p1 : Nat) (p2 : Nat) : (State.raise s code kw unit p0 p1 p2).funcs = s.funcs := id rfl
@[simp] theorem State.raise_bist (s : State) (code : Nat) (kw : Nat) (unit : UnitId) (p0 : Nat) (p1 : Nat) (p2 : Nat) : (State.raise s code kw unit p0 p1 p2).bist = s.bist := id rfl
@[simp] theorem State.raise_eng (s : State) (code : Nat) (kw : Nat) (unit : UnitId) (p0 : Nat) (p1 : Nat) (p2 : Nat) : (State.raise s code kw unit p0 p1 p2).eng = s.eng := id rfl
@[simp] theorem State.raise_kpr (s : State) (code : Nat) (kw : Nat) (unit : UnitId) (p0 : Nat) (p1 : Nat) (p2 : Nat) : (State.raise s code kw unit p0 p1 p2).kpr = s.kpr := id rfl
@[simp] theorem State.raise_cal (s : State) (code : Nat) (kw : Nat) (unit : UnitId) (p0 : Nat) (p1 : Nat) (p2 : Nat) : (State.raise s code kw unit p0 p1 p2).cal = s.cal := id rfl
@[simp] theorem State.raise_slots (s : State) (code : Nat) (kw : Nat) (unit : UnitId) (p0 : Nat) (p1 : Nat) (p2 : Nat) : (State.raise s code kw unit p0 p1 p2).slots = s.slots := id rfl
@[simp] theorem State.raise_hostMem (s : State) (code : Nat) (kw : Nat) (unit : UnitId) (p0 : Nat) (p1 : Nat) (p2 : Nat) : (State.raise s code kw unit p0 p1 p2).hostMem = s.hostMem := id rfl
@[simp] theorem State.raise_kwMem (s : State) (code : Nat) (kw : Nat) (unit : UnitId) (p0 : Nat) (p1 : Nat) (p2 : Nat) : (State.raise s code kw unit p0 p1 p2).kwMem = s.kwMem := id rfl
@[simp] theorem State.raise_srv (s : State) (code : Nat) (kw : Nat) (unit : UnitId) (p0 : Nat) (p1 : Nat) (p2 : Nat) : (State.raise s code kw unit p0 p1 p2).srv = s.srv := id rfl
@[simp] theorem State.raise_kv (s : State) (code : Nat) (kw : Nat) (unit : UnitId) (p0 : Nat) (p1 : Nat) (p2 : Nat) : (State.raise s code kw unit p0 p1 p2).kv = s.kv := id rfl
@[simp] theorem State.raise_sense (s : State) (code : Nat) (kw : Nat) (unit : UnitId) (p0 : Nat) (p1 : Nat) (p2 : Nat) : (State.raise s code kw unit p0 p1 p2).sense = s.sense := id rfl
@[simp] theorem State.raise_pwr (s : State) (code : Nat) (kw : Nat) (unit : UnitId) (p0 : Nat) (p1 : Nat) (p2 : Nat) : (State.raise s code kw unit p0 p1 p2).pwr = s.pwr := id rfl
@[simp] theorem State.raise_fab (s : State) (code : Nat) (kw : Nat) (unit : UnitId) (p0 : Nat) (p1 : Nat) (p2 : Nat) : (State.raise s code kw unit p0 p1 p2).fab = s.fab := id rfl
@[simp] theorem State.raise_latch (s : State) (code : Nat) (kw : Nat) (unit : UnitId) (p0 : Nat) (p1 : Nat) (p2 : Nat) : (State.raise s code kw unit p0 p1 p2).latch = s.latch := id rfl
@[simp] theorem State.raise_ward (s : State) (code : Nat) (kw : Nat) (unit : UnitId) (p0 : Nat) (p1 : Nat) (p2 : Nat) : (State.raise s code kw unit p0 p1 p2).ward = s.ward := id rfl
@[simp] theorem State.raise_mem (s : State) (code : Nat) (kw : Nat) (unit : UnitId) (p0 : Nat) (p1 : Nat) (p2 : Nat) : (State.raise s code kw unit p0 p1 p2).mem = s.mem := id rfl
@[simp] theorem State.raise_boot (s : State) (code : Nat) (kw : Nat) (unit : UnitId) (p0 : Nat) (p1 : Nat) (p2 : Nat) : (State.raise s code kw unit p0 p1 p2).boot = s.boot := id rfl
@[simp] theorem State.incK_pending (s : State) (o : Obj) (kw : Nat) (n : Nat) : (State.incK s o kw n).pending = s.pending := by simp [State.incK]
@[simp] theorem State.incK_now (s : State) (o : Obj) (kw : Nat) (n : Nat) : (State.incK s o kw n).now = s.now := by simp [State.incK]
@[simp] theorem State.incK_out (s : State) (o : Obj) (kw : Nat) (n : Nat) : (State.incK s o kw n).out = s.out := by simp [State.incK]
@[simp] theorem State.incK_part (s : State) (o : Obj) (kw : Nat) (n : Nat) : (State.incK s o kw n).part = s.part := by simp [State.incK]
@[simp] theorem State.incK_cfg (s : State) (o : Obj) (kw : Nat) (n : Nat) : (State.incK s o kw n).cfg = s.cfg := by simp [State.incK]
@[simp] theorem State.incK_waiting (s : State) (o : Obj) (kw : Nat) (n : Nat) : (State.incK s o kw n).waiting = s.waiting := by simp [State.incK]
@[simp] theorem State.incK_store (s : State) (o : Obj) (kw : Nat) (n : Nat) : (State.incK s o kw n).store = s.store := by simp [State.incK]
@[simp] theorem State.incK_beat (s : State) (o : Obj) (kw : Nat) (n : Nat) : (State.incK s o kw n).beat = s.beat := by simp [State.incK]
@[simp] theorem State.incK_hier (s : State) (o : Obj) (kw : Nat) (n : Nat) : (State.incK s o kw n).hier = s.hier := by simp [State.incK]
@[simp] theorem State.incK_gdp (s : State) (o : Obj) (kw : Nat) (n : Nat) : (State.incK s o kw n).gdp = s.gdp := by simp [State.incK]
@[simp] theorem State.incK_funcs (s : State) (o : Obj) (kw : Nat) (n : Nat) : (State.incK s o kw n).funcs = s.funcs := by simp [State.incK]
@[simp] theorem State.incK_evt (s : State) (o : Obj) (kw : Nat) (n : Nat) : (State.incK s o kw n).evt = s.evt := by simp [State.incK]
@[simp] theorem State.incK_bist (s : State) (o : Obj) (kw : Nat) (n : Nat) : (State.incK s o kw n).bist = s.bist := by simp [State.incK]
@[simp] theorem State.incK_eng (s : State) (o : Obj) (kw : Nat) (n : Nat) : (State.incK s o kw n).eng = s.eng := by simp [State.incK]
@[simp] theorem State.incK_kpr (s : State) (o : Obj) (kw : Nat) (n : Nat) : (State.incK s o kw n).kpr = s.kpr := by simp [State.incK]
@[simp] theorem State.incK_cal (s : State) (o : Obj) (kw : Nat) (n : Nat) : (State.incK s o kw n).cal = s.cal := by simp [State.incK]
@[simp] theorem State.incK_slots (s : State) (o : Obj) (kw : Nat) (n : Nat) : (State.incK s o kw n).slots = s.slots := by simp [State.incK]
@[simp] theorem State.incK_hostMem (s : State) (o : Obj) (kw : Nat) (n : Nat) : (State.incK s o kw n).hostMem = s.hostMem := by simp [State.incK]
@[simp] theorem State.incK_kwMem (s : State) (o : Obj) (kw : Nat) (n : Nat) : (State.incK s o kw n).kwMem = s.kwMem := by simp [State.incK]
@[simp] theorem State.incK_srv (s : State) (o : Obj) (kw : Nat) (n : Nat) : (State.incK s o kw n).srv = s.srv := by simp [State.incK]
@[simp] theorem State.incK_kv (s : State) (o : Obj) (kw : Nat) (n : Nat) : (State.incK s o kw n).kv = s.kv := by simp [State.incK]
@[simp] theorem State.incK_sense (s : State) (o : Obj) (kw : Nat) (n : Nat) : (State.incK s o kw n).sense = s.sense := by simp [State.incK]
@[simp] theorem State.incK_pwr (s : State) (o : Obj) (kw : Nat) (n : Nat) : (State.incK s o kw n).pwr = s.pwr := by simp [State.incK]
@[simp] theorem State.incK_fab (s : State) (o : Obj) (kw : Nat) (n : Nat) : (State.incK s o kw n).fab = s.fab := by simp [State.incK]
@[simp] theorem State.incK_latch (s : State) (o : Obj) (kw : Nat) (n : Nat) : (State.incK s o kw n).latch = s.latch := by simp [State.incK]
@[simp] theorem State.incK_ward (s : State) (o : Obj) (kw : Nat) (n : Nat) : (State.incK s o kw n).ward = s.ward := by simp [State.incK]
@[simp] theorem State.incK_mem (s : State) (o : Obj) (kw : Nat) (n : Nat) : (State.incK s o kw n).mem = s.mem := by simp [State.incK]
@[simp] theorem State.incK_boot (s : State) (o : Obj) (kw : Nat) (n : Nat) : (State.incK s o kw n).boot = s.boot := by simp [State.incK]
@[simp] theorem State.putReq_pending (s : State) (i : Nat) (r : ReqS) : (State.putReq s i r).pending = s.pending := id rfl
@[simp] theorem State.putReq_now (s : State) (i : Nat) (r : ReqS) : (State.putReq s i r).now = s.now := id rfl
@[simp] theorem State.putReq_out (s : State) (i : Nat) (r : ReqS) : (State.putReq s i r).out = s.out := id rfl
@[simp] theorem State.putReq_free (s : State) (i : Nat) (r : ReqS) : (State.putReq s i r).free = s.free := id rfl
@[simp] theorem State.putReq_part (s : State) (i : Nat) (r : ReqS) : (State.putReq s i r).part = s.part := id rfl
@[simp] theorem State.putReq_cfg (s : State) (i : Nat) (r : ReqS) : (State.putReq s i r).cfg = s.cfg := id rfl
@[simp] theorem State.putReq_waiting (s : State) (i : Nat) (r : ReqS) : (State.putReq s i r).waiting = s.waiting := id rfl
@[simp] theorem State.putReq_cnt (s : State) (i : Nat) (r : ReqS) : (State.putReq s i r).cnt = s.cnt := id rfl
@[simp] theorem State.putReq_store (s : State) (i : Nat) (r : ReqS) : (State.putReq s i r).store = s.store := id rfl
@[simp] theorem State.putReq_beat (s : State) (i : Nat) (r : ReqS) : (State.putReq s i r).beat = s.beat := id rfl
@[simp] theorem State.putReq_hier (s : State) (i : Nat) (r : ReqS) : (State.putReq s i r).hier = s.hier := id rfl
@[simp] theorem State.putReq_gdp (s : State) (i : Nat) (r : ReqS) : (State.putReq s i r).gdp = s.gdp := id rfl
@[simp] theorem State.putReq_funcs (s : State) (i : Nat) (r : ReqS) : (State.putReq s i r).funcs = s.funcs := id rfl
@[simp] theorem State.putReq_evt (s : State) (i : Nat) (r : ReqS) : (State.putReq s i r).evt = s.evt := id rfl
@[simp] theorem State.putReq_bist (s : State) (i : Nat) (r : ReqS) : (State.putReq s i r).bist = s.bist := id rfl
@[simp] theorem State.putReq_eng (s : State) (i : Nat) (r : ReqS) : (State.putReq s i r).eng = s.eng := id rfl
@[simp] theorem State.putReq_kpr (s : State) (i : Nat) (r : ReqS) : (State.putReq s i r).kpr = s.kpr := id rfl
@[simp] theorem State.putReq_cal (s : State) (i : Nat) (r : ReqS) : (State.putReq s i r).cal = s.cal := id rfl
@[simp] theorem State.putReq_slots (s : State) (i : Nat) (r : ReqS) : (State.putReq s i r).slots = s.slots := id rfl
@[simp] theorem State.putReq_hostMem (s : State) (i : Nat) (r : ReqS) : (State.putReq s i r).hostMem = s.hostMem := id rfl
@[simp] theorem State.putReq_kwMem (s : State) (i : Nat) (r : ReqS) : (State.putReq s i r).kwMem = s.kwMem := id rfl
@[simp] theorem State.putReq_kv (s : State) (i : Nat) (r : ReqS) : (State.putReq s i r).kv = s.kv := id rfl
@[simp] theorem State.putReq_sense (s : State) (i : Nat) (r : ReqS) : (State.putReq s i r).sense = s.sense := id rfl
@[simp] theorem State.putReq_pwr (s : State) (i : Nat) (r : ReqS) : (State.putReq s i r).pwr = s.pwr := id rfl
@[simp] theorem State.putReq_fab (s : State) (i : Nat) (r : ReqS) : (State.putReq s i r).fab = s.fab := id rfl
@[simp] theorem State.putReq_latch (s : State) (i : Nat) (r : ReqS) : (State.putReq s i r).latch = s.latch := id rfl
@[simp] theorem State.putReq_ward (s : State) (i : Nat) (r : ReqS) : (State.putReq s i r).ward = s.ward := id rfl
@[simp] theorem State.putReq_mem (s : State) (i : Nat) (r : ReqS) : (State.putReq s i r).mem = s.mem := id rfl
@[simp] theorem State.putReq_boot (s : State) (i : Nat) (r : ReqS) : (State.putReq s i r).boot = s.boot := id rfl
@[simp] theorem State.putSession_pending (s : State) (n : Nat) (x : Session) : (State.putSession s n x).pending = s.pending := id rfl
@[simp] theorem State.putSession_now (s : State) (n : Nat) (x : Session) : (State.putSession s n x).now = s.now := id rfl
@[simp] theorem State.putSession_out (s : State) (n : Nat) (x : Session) : (State.putSession s n x).out = s.out := id rfl
@[simp] theorem State.putSession_free (s : State) (n : Nat) (x : Session) : (State.putSession s n x).free = s.free := id rfl
@[simp] theorem State.putSession_part (s : State) (n : Nat) (x : Session) : (State.putSession s n x).part = s.part := id rfl
@[simp] theorem State.putSession_cfg (s : State) (n : Nat) (x : Session) : (State.putSession s n x).cfg = s.cfg := id rfl
@[simp] theorem State.putSession_waiting (s : State) (n : Nat) (x : Session) : (State.putSession s n x).waiting = s.waiting := id rfl
@[simp] theorem State.putSession_cnt (s : State) (n : Nat) (x : Session) : (State.putSession s n x).cnt = s.cnt := id rfl
@[simp] theorem State.putSession_store (s : State) (n : Nat) (x : Session) : (State.putSession s n x).store = s.store := id rfl
@[simp] theorem State.putSession_beat (s : State) (n : Nat) (x : Session) : (State.putSession s n x).beat = s.beat := id rfl
@[simp] theorem State.putSession_hier (s : State) (n : Nat) (x : Session) : (State.putSession s n x).hier = s.hier := id rfl
@[simp] theorem State.putSession_funcs (s : State) (n : Nat) (x : Session) : (State.putSession s n x).funcs = s.funcs := id rfl
@[simp] theorem State.putSession_evt (s : State) (n : Nat) (x : Session) : (State.putSession s n x).evt = s.evt := id rfl
@[simp] theorem State.putSession_bist (s : State) (n : Nat) (x : Session) : (State.putSession s n x).bist = s.bist := id rfl
@[simp] theorem State.putSession_eng (s : State) (n : Nat) (x : Session) : (State.putSession s n x).eng = s.eng := id rfl
@[simp] theorem State.putSession_kpr (s : State) (n : Nat) (x : Session) : (State.putSession s n x).kpr = s.kpr := id rfl
@[simp] theorem State.putSession_cal (s : State) (n : Nat) (x : Session) : (State.putSession s n x).cal = s.cal := id rfl
@[simp] theorem State.putSession_slots (s : State) (n : Nat) (x : Session) : (State.putSession s n x).slots = s.slots := id rfl
@[simp] theorem State.putSession_hostMem (s : State) (n : Nat) (x : Session) : (State.putSession s n x).hostMem = s.hostMem := id rfl
@[simp] theorem State.putSession_kwMem (s : State) (n : Nat) (x : Session) : (State.putSession s n x).kwMem = s.kwMem := id rfl
@[simp] theorem State.putSession_srv (s : State) (n : Nat) (x : Session) : (State.putSession s n x).srv = s.srv := id rfl
@[simp] theorem State.putSession_kv (s : State) (n : Nat) (x : Session) : (State.putSession s n x).kv = s.kv := id rfl
@[simp] theorem State.putSession_sense (s : State) (n : Nat) (x : Session) : (State.putSession s n x).sense = s.sense := id rfl
@[simp] theorem State.putSession_pwr (s : State) (n : Nat) (x : Session) : (State.putSession s n x).pwr = s.pwr := id rfl
@[simp] theorem State.putSession_fab (s : State) (n : Nat) (x : Session) : (State.putSession s n x).fab = s.fab := id rfl
@[simp] theorem State.putSession_latch (s : State) (n : Nat) (x : Session) : (State.putSession s n x).latch = s.latch := id rfl
@[simp] theorem State.putSession_ward (s : State) (n : Nat) (x : Session) : (State.putSession s n x).ward = s.ward := id rfl
@[simp] theorem State.putSession_mem (s : State) (n : Nat) (x : Session) : (State.putSession s n x).mem = s.mem := id rfl
@[simp] theorem State.putSession_boot (s : State) (n : Nat) (x : Session) : (State.putSession s n x).boot = s.boot := id rfl
@[simp] theorem State.closeSessions_pending (s : State) (p : Nat → Session → Bool) : (State.closeSessions s p).pending = s.pending := id rfl
@[simp] theorem State.closeSessions_now (s : State) (p : Nat → Session → Bool) : (State.closeSessions s p).now = s.now := id rfl
@[simp] theorem State.closeSessions_out (s : State) (p : Nat → Session → Bool) : (State.closeSessions s p).out = s.out := id rfl
@[simp] theorem State.closeSessions_free (s : State) (p : Nat → Session → Bool) : (State.closeSessions s p).free = s.free := id rfl
@[simp] theorem State.closeSessions_part (s : State) (p : Nat → Session → Bool) : (State.closeSessions s p).part = s.part := id rfl
@[simp] theorem State.closeSessions_cfg (s : State) (p : Nat → Session → Bool) : (State.closeSessions s p).cfg = s.cfg := id rfl
@[simp] theorem State.closeSessions_waiting (s : State) (p : Nat → Session → Bool) : (State.closeSessions s p).waiting = s.waiting := id rfl
@[simp] theorem State.closeSessions_cnt (s : State) (p : Nat → Session → Bool) : (State.closeSessions s p).cnt = s.cnt := id rfl
@[simp] theorem State.closeSessions_store (s : State) (p : Nat → Session → Bool) : (State.closeSessions s p).store = s.store := id rfl
@[simp] theorem State.closeSessions_beat (s : State) (p : Nat → Session → Bool) : (State.closeSessions s p).beat = s.beat := id rfl
@[simp] theorem State.closeSessions_hier (s : State) (p : Nat → Session → Bool) : (State.closeSessions s p).hier = s.hier := id rfl
@[simp] theorem State.closeSessions_funcs (s : State) (p : Nat → Session → Bool) : (State.closeSessions s p).funcs = s.funcs := id rfl
@[simp] theorem State.closeSessions_evt (s : State) (p : Nat → Session → Bool) : (State.closeSessions s p).evt = s.evt := id rfl
@[simp] theorem State.closeSessions_bist (s : State) (p : Nat → Session → Bool) : (State.closeSessions s p).bist = s.bist := id rfl
@[simp] theorem State.closeSessions_eng (s : State) (p : Nat → Session → Bool) : (State.closeSessions s p).eng = s.eng := id rfl
@[simp] theorem State.closeSessions_kpr (s : State) (p : Nat → Session → Bool) : (State.closeSessions s p).kpr = s.kpr := id rfl
@[simp] theorem State.closeSessions_cal (s : State) (p : Nat → Session → Bool) : (State.closeSessions s p).cal = s.cal := id rfl
@[simp] theorem State.closeSessions_slots (s : State) (p : Nat → Session → Bool) : (State.closeSessions s p).slots = s.slots := id rfl
@[simp] theorem State.closeSessions_hostMem (s : State) (p : Nat → Session → Bool) : (State.closeSessions s p).hostMem = s.hostMem := id rfl
@[simp] theorem State.closeSessions_kwMem (s : State) (p : Nat → Session → Bool) : (State.closeSessions s p).kwMem = s.kwMem := id rfl
@[simp] theorem State.closeSessions_srv (s : State) (p : Nat → Session → Bool) : (State.closeSessions s p).srv = s.srv := id rfl
@[simp] theorem State.closeSessions_kv (s : State) (p : Nat → Session → Bool) : (State.closeSessions s p).kv = s.kv := id rfl
@[simp] theorem State.closeSessions_sense (s : State) (p : Nat → Session → Bool) : (State.closeSessions s p).sense = s.sense := id rfl
@[simp] theorem State.closeSessions_pwr (s : State) (p : Nat → Session → Bool) : (State.closeSessions s p).pwr = s.pwr := id rfl
@[simp] theorem State.closeSessions_fab (s : State) (p : Nat → Session → Bool) : (State.closeSessions s p).fab = s.fab := id rfl
@[simp] theorem State.closeSessions_latch (s : State) (p : Nat → Session → Bool) : (State.closeSessions s p).latch = s.latch := id rfl
@[simp] theorem State.closeSessions_ward (s : State) (p : Nat → Session → Bool) : (State.closeSessions s p).ward = s.ward := id rfl
@[simp] theorem State.closeSessions_mem (s : State) (p : Nat → Session → Bool) : (State.closeSessions s p).mem = s.mem := id rfl
@[simp] theorem State.closeSessions_boot (s : State) (p : Nat → Session → Bool) : (State.closeSessions s p).boot = s.boot := id rfl
@[simp] theorem State.putEngine_pending (s : State) (n : Nat) (e : EngS) : (State.putEngine s n e).pending = s.pending := id rfl
@[simp] theorem State.putEngine_now (s : State) (n : Nat) (e : EngS) : (State.putEngine s n e).now = s.now := id rfl
@[simp] theorem State.putEngine_out (s : State) (n : Nat) (e : EngS) : (State.putEngine s n e).out = s.out := id rfl
@[simp] theorem State.putEngine_free (s : State) (n : Nat) (e : EngS) : (State.putEngine s n e).free = s.free := id rfl
@[simp] theorem State.putEngine_part (s : State) (n : Nat) (e : EngS) : (State.putEngine s n e).part = s.part := id rfl
@[simp] theorem State.putEngine_cfg (s : State) (n : Nat) (e : EngS) : (State.putEngine s n e).cfg = s.cfg := id rfl
@[simp] theorem State.putEngine_waiting (s : State) (n : Nat) (e : EngS) : (State.putEngine s n e).waiting = s.waiting := id rfl
@[simp] theorem State.putEngine_cnt (s : State) (n : Nat) (e : EngS) : (State.putEngine s n e).cnt = s.cnt := id rfl
@[simp] theorem State.putEngine_store (s : State) (n : Nat) (e : EngS) : (State.putEngine s n e).store = s.store := id rfl
@[simp] theorem State.putEngine_beat (s : State) (n : Nat) (e : EngS) : (State.putEngine s n e).beat = s.beat := id rfl
@[simp] theorem State.putEngine_hier (s : State) (n : Nat) (e : EngS) : (State.putEngine s n e).hier = s.hier := id rfl
@[simp] theorem State.putEngine_gdp (s : State) (n : Nat) (e : EngS) : (State.putEngine s n e).gdp = s.gdp := id rfl
@[simp] theorem State.putEngine_funcs (s : State) (n : Nat) (e : EngS) : (State.putEngine s n e).funcs = s.funcs := id rfl
@[simp] theorem State.putEngine_evt (s : State) (n : Nat) (e : EngS) : (State.putEngine s n e).evt = s.evt := id rfl
@[simp] theorem State.putEngine_bist (s : State) (n : Nat) (e : EngS) : (State.putEngine s n e).bist = s.bist := id rfl
@[simp] theorem State.putEngine_kpr (s : State) (n : Nat) (e : EngS) : (State.putEngine s n e).kpr = s.kpr := id rfl
@[simp] theorem State.putEngine_cal (s : State) (n : Nat) (e : EngS) : (State.putEngine s n e).cal = s.cal := id rfl
@[simp] theorem State.putEngine_slots (s : State) (n : Nat) (e : EngS) : (State.putEngine s n e).slots = s.slots := id rfl
@[simp] theorem State.putEngine_hostMem (s : State) (n : Nat) (e : EngS) : (State.putEngine s n e).hostMem = s.hostMem := id rfl
@[simp] theorem State.putEngine_kwMem (s : State) (n : Nat) (e : EngS) : (State.putEngine s n e).kwMem = s.kwMem := id rfl
@[simp] theorem State.putEngine_srv (s : State) (n : Nat) (e : EngS) : (State.putEngine s n e).srv = s.srv := id rfl
@[simp] theorem State.putEngine_kv (s : State) (n : Nat) (e : EngS) : (State.putEngine s n e).kv = s.kv := id rfl
@[simp] theorem State.putEngine_sense (s : State) (n : Nat) (e : EngS) : (State.putEngine s n e).sense = s.sense := id rfl
@[simp] theorem State.putEngine_pwr (s : State) (n : Nat) (e : EngS) : (State.putEngine s n e).pwr = s.pwr := id rfl
@[simp] theorem State.putEngine_fab (s : State) (n : Nat) (e : EngS) : (State.putEngine s n e).fab = s.fab := id rfl
@[simp] theorem State.putEngine_latch (s : State) (n : Nat) (e : EngS) : (State.putEngine s n e).latch = s.latch := id rfl
@[simp] theorem State.putEngine_ward (s : State) (n : Nat) (e : EngS) : (State.putEngine s n e).ward = s.ward := id rfl
@[simp] theorem State.putEngine_mem (s : State) (n : Nat) (e : EngS) : (State.putEngine s n e).mem = s.mem := id rfl
@[simp] theorem State.putEngine_boot (s : State) (n : Nat) (e : EngS) : (State.putEngine s n e).boot = s.boot := id rfl
@[simp] theorem State.putTier_pending (s : State) (n : Nat) (t : Nat) (x : TierS) : (State.putTier s n t x).pending = s.pending := id rfl
@[simp] theorem State.putTier_now (s : State) (n : Nat) (t : Nat) (x : TierS) : (State.putTier s n t x).now = s.now := id rfl
@[simp] theorem State.putTier_out (s : State) (n : Nat) (t : Nat) (x : TierS) : (State.putTier s n t x).out = s.out := id rfl
@[simp] theorem State.putTier_free (s : State) (n : Nat) (t : Nat) (x : TierS) : (State.putTier s n t x).free = s.free := id rfl
@[simp] theorem State.putTier_part (s : State) (n : Nat) (t : Nat) (x : TierS) : (State.putTier s n t x).part = s.part := id rfl
@[simp] theorem State.putTier_cfg (s : State) (n : Nat) (t : Nat) (x : TierS) : (State.putTier s n t x).cfg = s.cfg := id rfl
@[simp] theorem State.putTier_waiting (s : State) (n : Nat) (t : Nat) (x : TierS) : (State.putTier s n t x).waiting = s.waiting := id rfl
@[simp] theorem State.putTier_cnt (s : State) (n : Nat) (t : Nat) (x : TierS) : (State.putTier s n t x).cnt = s.cnt := id rfl
@[simp] theorem State.putTier_store (s : State) (n : Nat) (t : Nat) (x : TierS) : (State.putTier s n t x).store = s.store := id rfl
@[simp] theorem State.putTier_beat (s : State) (n : Nat) (t : Nat) (x : TierS) : (State.putTier s n t x).beat = s.beat := id rfl
@[simp] theorem State.putTier_hier (s : State) (n : Nat) (t : Nat) (x : TierS) : (State.putTier s n t x).hier = s.hier := id rfl
@[simp] theorem State.putTier_gdp (s : State) (n : Nat) (t : Nat) (x : TierS) : (State.putTier s n t x).gdp = s.gdp := id rfl
@[simp] theorem State.putTier_funcs (s : State) (n : Nat) (t : Nat) (x : TierS) : (State.putTier s n t x).funcs = s.funcs := id rfl
@[simp] theorem State.putTier_evt (s : State) (n : Nat) (t : Nat) (x : TierS) : (State.putTier s n t x).evt = s.evt := id rfl
@[simp] theorem State.putTier_bist (s : State) (n : Nat) (t : Nat) (x : TierS) : (State.putTier s n t x).bist = s.bist := id rfl
@[simp] theorem State.putTier_kpr (s : State) (n : Nat) (t : Nat) (x : TierS) : (State.putTier s n t x).kpr = s.kpr := id rfl
@[simp] theorem State.putTier_cal (s : State) (n : Nat) (t : Nat) (x : TierS) : (State.putTier s n t x).cal = s.cal := id rfl
@[simp] theorem State.putTier_slots (s : State) (n : Nat) (t : Nat) (x : TierS) : (State.putTier s n t x).slots = s.slots := id rfl
@[simp] theorem State.putTier_hostMem (s : State) (n : Nat) (t : Nat) (x : TierS) : (State.putTier s n t x).hostMem = s.hostMem := id rfl
@[simp] theorem State.putTier_kwMem (s : State) (n : Nat) (t : Nat) (x : TierS) : (State.putTier s n t x).kwMem = s.kwMem := id rfl
@[simp] theorem State.putTier_srv (s : State) (n : Nat) (t : Nat) (x : TierS) : (State.putTier s n t x).srv = s.srv := id rfl
@[simp] theorem State.putTier_kv (s : State) (n : Nat) (t : Nat) (x : TierS) : (State.putTier s n t x).kv = s.kv := id rfl
@[simp] theorem State.putTier_sense (s : State) (n : Nat) (t : Nat) (x : TierS) : (State.putTier s n t x).sense = s.sense := id rfl
@[simp] theorem State.putTier_pwr (s : State) (n : Nat) (t : Nat) (x : TierS) : (State.putTier s n t x).pwr = s.pwr := id rfl
@[simp] theorem State.putTier_fab (s : State) (n : Nat) (t : Nat) (x : TierS) : (State.putTier s n t x).fab = s.fab := id rfl
@[simp] theorem State.putTier_latch (s : State) (n : Nat) (t : Nat) (x : TierS) : (State.putTier s n t x).latch = s.latch := id rfl
@[simp] theorem State.putTier_ward (s : State) (n : Nat) (t : Nat) (x : TierS) : (State.putTier s n t x).ward = s.ward := id rfl
@[simp] theorem State.putTier_mem (s : State) (n : Nat) (t : Nat) (x : TierS) : (State.putTier s n t x).mem = s.mem := id rfl
@[simp] theorem State.putTier_boot (s : State) (n : Nat) (t : Nat) (x : TierS) : (State.putTier s n t x).boot = s.boot := id rfl
@[simp] theorem State.memTake_pending (s : State) (kw : Nat) (bytes : Nat) : (State.memTake s kw bytes).pending = s.pending := id rfl
@[simp] theorem State.memTake_now (s : State) (kw : Nat) (bytes : Nat) : (State.memTake s kw bytes).now = s.now := id rfl
@[simp] theorem State.memTake_out (s : State) (kw : Nat) (bytes : Nat) : (State.memTake s kw bytes).out = s.out := id rfl
@[simp] theorem State.memTake_free (s : State) (kw : Nat) (bytes : Nat) : (State.memTake s kw bytes).free = s.free := id rfl
@[simp] theorem State.memTake_part (s : State) (kw : Nat) (bytes : Nat) : (State.memTake s kw bytes).part = s.part := id rfl
@[simp] theorem State.memTake_cfg (s : State) (kw : Nat) (bytes : Nat) : (State.memTake s kw bytes).cfg = s.cfg := id rfl
@[simp] theorem State.memTake_waiting (s : State) (kw : Nat) (bytes : Nat) : (State.memTake s kw bytes).waiting = s.waiting := id rfl
@[simp] theorem State.memTake_cnt (s : State) (kw : Nat) (bytes : Nat) : (State.memTake s kw bytes).cnt = s.cnt := id rfl
@[simp] theorem State.memTake_store (s : State) (kw : Nat) (bytes : Nat) : (State.memTake s kw bytes).store = s.store := id rfl
@[simp] theorem State.memTake_beat (s : State) (kw : Nat) (bytes : Nat) : (State.memTake s kw bytes).beat = s.beat := id rfl
@[simp] theorem State.memTake_hier (s : State) (kw : Nat) (bytes : Nat) : (State.memTake s kw bytes).hier = s.hier := id rfl
@[simp] theorem State.memTake_gdp (s : State) (kw : Nat) (bytes : Nat) : (State.memTake s kw bytes).gdp = s.gdp := id rfl
@[simp] theorem State.memTake_funcs (s : State) (kw : Nat) (bytes : Nat) : (State.memTake s kw bytes).funcs = s.funcs := id rfl
@[simp] theorem State.memTake_evt (s : State) (kw : Nat) (bytes : Nat) : (State.memTake s kw bytes).evt = s.evt := id rfl
@[simp] theorem State.memTake_bist (s : State) (kw : Nat) (bytes : Nat) : (State.memTake s kw bytes).bist = s.bist := id rfl
@[simp] theorem State.memTake_eng (s : State) (kw : Nat) (bytes : Nat) : (State.memTake s kw bytes).eng = s.eng := id rfl
@[simp] theorem State.memTake_kpr (s : State) (kw : Nat) (bytes : Nat) : (State.memTake s kw bytes).kpr = s.kpr := id rfl
@[simp] theorem State.memTake_cal (s : State) (kw : Nat) (bytes : Nat) : (State.memTake s kw bytes).cal = s.cal := id rfl
@[simp] theorem State.memTake_slots (s : State) (kw : Nat) (bytes : Nat) : (State.memTake s kw bytes).slots = s.slots := id rfl
@[simp] theorem State.memTake_hostMem (s : State) (kw : Nat) (bytes : Nat) : (State.memTake s kw bytes).hostMem = s.hostMem := id rfl
@[simp] theorem State.memTake_kwMem (s : State) (kw : Nat) (bytes : Nat) : (State.memTake s kw bytes).kwMem = s.kwMem := id rfl
@[simp] theorem State.memTake_srv (s : State) (kw : Nat) (bytes : Nat) : (State.memTake s kw bytes).srv = s.srv := id rfl
@[simp] theorem State.memTake_kv (s : State) (kw : Nat) (bytes : Nat) : (State.memTake s kw bytes).kv = s.kv := id rfl
@[simp] theorem State.memTake_sense (s : State) (kw : Nat) (bytes : Nat) : (State.memTake s kw bytes).sense = s.sense := id rfl
@[simp] theorem State.memTake_pwr (s : State) (kw : Nat) (bytes : Nat) : (State.memTake s kw bytes).pwr = s.pwr := id rfl
@[simp] theorem State.memTake_fab (s : State) (kw : Nat) (bytes : Nat) : (State.memTake s kw bytes).fab = s.fab := id rfl
@[simp] theorem State.memTake_latch (s : State) (kw : Nat) (bytes : Nat) : (State.memTake s kw bytes).latch = s.latch := id rfl
@[simp] theorem State.memTake_ward (s : State) (kw : Nat) (bytes : Nat) : (State.memTake s kw bytes).ward = s.ward := id rfl
@[simp] theorem State.memTake_boot (s : State) (kw : Nat) (bytes : Nat) : (State.memTake s kw bytes).boot = s.boot := id rfl
@[simp] theorem State.note_pending (s : State) (kw : Nat) (r : StandbyRec) : (State.note s kw r).pending = s.pending := by unfold State.note; (repeat' split) <;> rfl
@[simp] theorem State.note_now (s : State) (kw : Nat) (r : StandbyRec) : (State.note s kw r).now = s.now := by unfold State.note; (repeat' split) <;> rfl
@[simp] theorem State.note_out (s : State) (kw : Nat) (r : StandbyRec) : (State.note s kw r).out = s.out := by unfold State.note; (repeat' split) <;> rfl
@[simp] theorem State.note_free (s : State) (kw : Nat) (r : StandbyRec) : (State.note s kw r).free = s.free := by unfold State.note; (repeat' split) <;> rfl
@[simp] theorem State.note_part (s : State) (kw : Nat) (r : StandbyRec) : (State.note s kw r).part = s.part := by unfold State.note; (repeat' split) <;> rfl
@[simp] theorem State.note_cfg (s : State) (kw : Nat) (r : StandbyRec) : (State.note s kw r).cfg = s.cfg := by unfold State.note; (repeat' split) <;> rfl
@[simp] theorem State.note_waiting (s : State) (kw : Nat) (r : StandbyRec) : (State.note s kw r).waiting = s.waiting := by unfold State.note; (repeat' split) <;> rfl
@[simp] theorem State.note_cnt (s : State) (kw : Nat) (r : StandbyRec) : (State.note s kw r).cnt = s.cnt := by unfold State.note; (repeat' split) <;> rfl
@[simp] theorem State.note_store (s : State) (kw : Nat) (r : StandbyRec) : (State.note s kw r).store = s.store := by unfold State.note; (repeat' split) <;> rfl
@[simp] theorem State.note_beat (s : State) (kw : Nat) (r : StandbyRec) : (State.note s kw r).beat = s.beat := by unfold State.note; (repeat' split) <;> rfl
@[simp] theorem State.note_hier (s : State) (kw : Nat) (r : StandbyRec) : (State.note s kw r).hier = s.hier := by unfold State.note; (repeat' split) <;> rfl
@[simp] theorem State.note_gdp (s : State) (kw : Nat) (r : StandbyRec) : (State.note s kw r).gdp = s.gdp := by unfold State.note; (repeat' split) <;> rfl
@[simp] theorem State.note_funcs (s : State) (kw : Nat) (r : StandbyRec) : (State.note s kw r).funcs = s.funcs := by unfold State.note; (repeat' split) <;> rfl
@[simp] theorem State.note_evt (s : State) (kw : Nat) (r : StandbyRec) : (State.note s kw r).evt = s.evt := by unfold State.note; (repeat' split) <;> rfl
@[simp] theorem State.note_bist (s : State) (kw : Nat) (r : StandbyRec) : (State.note s kw r).bist = s.bist := by unfold State.note; (repeat' split) <;> rfl
@[simp] theorem State.note_eng (s : State) (kw : Nat) (r : StandbyRec) : (State.note s kw r).eng = s.eng := by unfold State.note; (repeat' split) <;> rfl
@[simp] theorem State.note_kpr (s : State) (kw : Nat) (r : StandbyRec) : (State.note s kw r).kpr = s.kpr := by unfold State.note; (repeat' split) <;> rfl
@[simp] theorem State.note_cal (s : State) (kw : Nat) (r : StandbyRec) : (State.note s kw r).cal = s.cal := by unfold State.note; (repeat' split) <;> rfl
@[simp] theorem State.note_slots (s : State) (kw : Nat) (r : StandbyRec) : (State.note s kw r).slots = s.slots := by unfold State.note; (repeat' split) <;> rfl
@[simp] theorem State.note_hostMem (s : State) (kw : Nat) (r : StandbyRec) : (State.note s kw r).hostMem = s.hostMem := by unfold State.note; (repeat' split) <;> rfl
@[simp] theorem State.note_kwMem (s : State) (kw : Nat) (r : StandbyRec) : (State.note s kw r).kwMem = s.kwMem := by unfold State.note; (repeat' split) <;> rfl
@[simp] theorem State.note_srv (s : State) (kw : Nat) (r : StandbyRec) : (State.note s kw r).srv = s.srv := by unfold State.note; (repeat' split) <;> rfl
@[simp] theorem State.note_kv (s : State) (kw : Nat) (r : StandbyRec) : (State.note s kw r).kv = s.kv := by unfold State.note; (repeat' split) <;> rfl
@[simp] theorem State.note_sense (s : State) (kw : Nat) (r : StandbyRec) : (State.note s kw r).sense = s.sense := by unfold State.note; (repeat' split) <;> rfl
@[simp] theorem State.note_pwr (s : State) (kw : Nat) (r : StandbyRec) : (State.note s kw r).pwr = s.pwr := by unfold State.note; (repeat' split) <;> rfl
@[simp] theorem State.note_latch (s : State) (kw : Nat) (r : StandbyRec) : (State.note s kw r).latch = s.latch := by unfold State.note; (repeat' split) <;> rfl
@[simp] theorem State.note_ward (s : State) (kw : Nat) (r : StandbyRec) : (State.note s kw r).ward = s.ward := by unfold State.note; (repeat' split) <;> rfl
@[simp] theorem State.note_mem (s : State) (kw : Nat) (r : StandbyRec) : (State.note s kw r).mem = s.mem := by unfold State.note; (repeat' split) <;> rfl
@[simp] theorem State.note_boot (s : State) (kw : Nat) (r : StandbyRec) : (State.note s kw r).boot = s.boot := by unfold State.note; (repeat' split) <;> rfl
@[simp] theorem State.inc_pending (s : State) (o : Obj) (n : Nat) : (State.inc s o n).pending = s.pending := by simp [State.inc]
@[simp] theorem State.inc_now (s : State) (o : Obj) (n : Nat) : (State.inc s o n).now = s.now := by simp [State.inc]
@[simp] theorem State.inc_out (s : State) (o : Obj) (n : Nat) : (State.inc s o n).out = s.out := by simp [State.inc]
@[simp] theorem State.inc_part (s : State) (o : Obj) (n : Nat) : (State.inc s o n).part = s.part := by simp [State.inc]
@[simp] theorem State.inc_cfg (s : State) (o : Obj) (n : Nat) : (State.inc s o n).cfg = s.cfg := by simp [State.inc]
@[simp] theorem State.inc_waiting (s : State) (o : Obj) (n : Nat) : (State.inc s o n).waiting = s.waiting := by simp [State.inc]
@[simp] theorem State.inc_store (s : State) (o : Obj) (n : Nat) : (State.inc s o n).store = s.store := by simp [State.inc]
@[simp] theorem State.inc_beat (s : State) (o : Obj) (n : Nat) : (State.inc s o n).beat = s.beat := by simp [State.inc]
@[simp] theorem State.inc_hier (s : State) (o : Obj) (n : Nat) : (State.inc s o n).hier = s.hier := by simp [State.inc]
@[simp] theorem State.inc_gdp (s : State) (o : Obj) (n : Nat) : (State.inc s o n).gdp = s.gdp := by simp [State.inc]
@[simp] theorem State.inc_funcs (s : State) (o : Obj) (n : Nat) : (State.inc s o n).funcs = s.funcs := by simp [State.inc]
@[simp] theorem State.inc_evt (s : State) (o : Obj) (n : Nat) : (State.inc s o n).evt = s.evt := by simp [State.inc]
@[simp] theorem State.inc_bist (s : State) (o : Obj) (n : Nat) : (State.inc s o n).bist = s.bist := by simp [State.inc]
@[simp] theorem State.inc_eng (s : State) (o : Obj) (n : Nat) : (State.inc s o n).eng = s.eng := by simp [State.inc]
@[simp] theorem State.inc_kpr (s : State) (o : Obj) (n : Nat) : (State.inc s o n).kpr = s.kpr := by simp [State.inc]
@[simp] theorem State.inc_cal (s : State) (o : Obj) (n : Nat) : (State.inc s o n).cal = s.cal := by simp [State.inc]
@[simp] theorem State.inc_slots (s : State) (o : Obj) (n : Nat) : (State.inc s o n).slots = s.slots := by simp [State.inc]
@[simp] theorem State.inc_hostMem (s : State) (o : Obj) (n : Nat) : (State.inc s o n).hostMem = s.hostMem := by simp [State.inc]
@[simp] theorem State.inc_kwMem (s : State) (o : Obj) (n : Nat) : (State.inc s o n).kwMem = s.kwMem := by simp [State.inc]
@[simp] theorem State.inc_srv (s : State) (o : Obj) (n : Nat) : (State.inc s o n).srv = s.srv := by simp [State.inc]
@[simp] theorem State.inc_kv (s : State) (o : Obj) (n : Nat) : (State.inc s o n).kv = s.kv := by simp [State.inc]
@[simp] theorem State.inc_sense (s : State) (o : Obj) (n : Nat) : (State.inc s o n).sense = s.sense := by simp [State.inc]
@[simp] theorem State.inc_pwr (s : State) (o : Obj) (n : Nat) : (State.inc s o n).pwr = s.pwr := by simp [State.inc]
@[simp] theorem State.inc_fab (s : State) (o : Obj) (n : Nat) : (State.inc s o n).fab = s.fab := by simp [State.inc]
@[simp] theorem State.inc_latch (s : State) (o : Obj) (n : Nat) : (State.inc s o n).latch = s.latch := by simp [State.inc]
@[simp] theorem State.inc_ward (s : State) (o : Obj) (n : Nat) : (State.inc s o n).ward = s.ward := by simp [State.inc]
@[simp] theorem State.inc_mem (s : State) (o : Obj) (n : Nat) : (State.inc s o n).mem = s.mem := by simp [State.inc]
@[simp] theorem State.inc_boot (s : State) (o : Obj) (n : Nat) : (State.inc s o n).boot = s.boot := by simp [State.inc]
@[simp] theorem State.putSub_pending (s : State) (fn : Nat) (x : SubS) : (State.putSub s fn x).pending = s.pending := id rfl
@[simp] theorem State.putSub_now (s : State) (fn : Nat) (x : SubS) : (State.putSub s fn x).now = s.now := id rfl
@[simp] theorem State.putSub_out (s : State) (fn : Nat) (x : SubS) : (State.putSub s fn x).out = s.out := id rfl
@[simp] theorem State.putSub_free (s : State) (fn : Nat) (x : SubS) : (State.putSub s fn x).free = s.free := id rfl
@[simp] theorem State.putSub_part (s : State) (fn : Nat) (x : SubS) : (State.putSub s fn x).part = s.part := id rfl
@[simp] theorem State.putSub_cfg (s : State) (fn : Nat) (x : SubS) : (State.putSub s fn x).cfg = s.cfg := id rfl
@[simp] theorem State.putSub_waiting (s : State) (fn : Nat) (x : SubS) : (State.putSub s fn x).waiting = s.waiting := id rfl
@[simp] theorem State.putSub_cnt (s : State) (fn : Nat) (x : SubS) : (State.putSub s fn x).cnt = s.cnt := id rfl
@[simp] theorem State.putSub_store (s : State) (fn : Nat) (x : SubS) : (State.putSub s fn x).store = s.store := id rfl
@[simp] theorem State.putSub_beat (s : State) (fn : Nat) (x : SubS) : (State.putSub s fn x).beat = s.beat := id rfl
@[simp] theorem State.putSub_hier (s : State) (fn : Nat) (x : SubS) : (State.putSub s fn x).hier = s.hier := id rfl
@[simp] theorem State.putSub_gdp (s : State) (fn : Nat) (x : SubS) : (State.putSub s fn x).gdp = s.gdp := id rfl
@[simp] theorem State.putSub_funcs (s : State) (fn : Nat) (x : SubS) : (State.putSub s fn x).funcs = s.funcs := id rfl
@[simp] theorem State.putSub_evt (s : State) (fn : Nat) (x : SubS) : (State.putSub s fn x).evt = s.evt := id rfl
@[simp] theorem State.putSub_bist (s : State) (fn : Nat) (x : SubS) : (State.putSub s fn x).bist = s.bist := id rfl
@[simp] theorem State.putSub_eng (s : State) (fn : Nat) (x : SubS) : (State.putSub s fn x).eng = s.eng := id rfl
@[simp] theorem State.putSub_kpr (s : State) (fn : Nat) (x : SubS) : (State.putSub s fn x).kpr = s.kpr := id rfl
@[simp] theorem State.putSub_cal (s : State) (fn : Nat) (x : SubS) : (State.putSub s fn x).cal = s.cal := id rfl
@[simp] theorem State.putSub_slots (s : State) (fn : Nat) (x : SubS) : (State.putSub s fn x).slots = s.slots := id rfl
@[simp] theorem State.putSub_hostMem (s : State) (fn : Nat) (x : SubS) : (State.putSub s fn x).hostMem = s.hostMem := id rfl
@[simp] theorem State.putSub_kwMem (s : State) (fn : Nat) (x : SubS) : (State.putSub s fn x).kwMem = s.kwMem := id rfl
@[simp] theorem State.putSub_kv (s : State) (fn : Nat) (x : SubS) : (State.putSub s fn x).kv = s.kv := id rfl
@[simp] theorem State.putSub_sense (s : State) (fn : Nat) (x : SubS) : (State.putSub s fn x).sense = s.sense := id rfl
@[simp] theorem State.putSub_pwr (s : State) (fn : Nat) (x : SubS) : (State.putSub s fn x).pwr = s.pwr := id rfl
@[simp] theorem State.putSub_fab (s : State) (fn : Nat) (x : SubS) : (State.putSub s fn x).fab = s.fab := id rfl
@[simp] theorem State.putSub_latch (s : State) (fn : Nat) (x : SubS) : (State.putSub s fn x).latch = s.latch := id rfl
@[simp] theorem State.putSub_ward (s : State) (fn : Nat) (x : SubS) : (State.putSub s fn x).ward = s.ward := id rfl
@[simp] theorem State.putSub_mem (s : State) (fn : Nat) (x : SubS) : (State.putSub s fn x).mem = s.mem := id rfl
@[simp] theorem State.putSub_boot (s : State) (fn : Nat) (x : SubS) : (State.putSub s fn x).boot = s.boot := id rfl
@[simp] theorem State.devGive_pending (s : State) (d : DevMem) (bytes : Nat) : (State.devGive s d bytes).pending = s.pending := by unfold State.devGive; (repeat' split) <;> rfl
@[simp] theorem State.devGive_now (s : State) (d : DevMem) (bytes : Nat) : (State.devGive s d bytes).now = s.now := by unfold State.devGive; (repeat' split) <;> rfl
@[simp] theorem State.devGive_out (s : State) (d : DevMem) (bytes : Nat) : (State.devGive s d bytes).out = s.out := by unfold State.devGive; (repeat' split) <;> rfl
@[simp] theorem State.devGive_free (s : State) (d : DevMem) (bytes : Nat) : (State.devGive s d bytes).free = s.free := by unfold State.devGive; (repeat' split) <;> rfl
@[simp] theorem State.devGive_part (s : State) (d : DevMem) (bytes : Nat) : (State.devGive s d bytes).part = s.part := by unfold State.devGive; (repeat' split) <;> rfl
@[simp] theorem State.devGive_cfg (s : State) (d : DevMem) (bytes : Nat) : (State.devGive s d bytes).cfg = s.cfg := by unfold State.devGive; (repeat' split) <;> rfl
@[simp] theorem State.devGive_waiting (s : State) (d : DevMem) (bytes : Nat) : (State.devGive s d bytes).waiting = s.waiting := by unfold State.devGive; (repeat' split) <;> rfl
@[simp] theorem State.devGive_cnt (s : State) (d : DevMem) (bytes : Nat) : (State.devGive s d bytes).cnt = s.cnt := by unfold State.devGive; (repeat' split) <;> rfl
@[simp] theorem State.devGive_store (s : State) (d : DevMem) (bytes : Nat) : (State.devGive s d bytes).store = s.store := by unfold State.devGive; (repeat' split) <;> rfl
@[simp] theorem State.devGive_beat (s : State) (d : DevMem) (bytes : Nat) : (State.devGive s d bytes).beat = s.beat := by unfold State.devGive; (repeat' split) <;> rfl
@[simp] theorem State.devGive_hier (s : State) (d : DevMem) (bytes : Nat) : (State.devGive s d bytes).hier = s.hier := by unfold State.devGive; (repeat' split) <;> rfl
@[simp] theorem State.devGive_gdp (s : State) (d : DevMem) (bytes : Nat) : (State.devGive s d bytes).gdp = s.gdp := by unfold State.devGive; (repeat' split) <;> rfl
@[simp] theorem State.devGive_funcs (s : State) (d : DevMem) (bytes : Nat) : (State.devGive s d bytes).funcs = s.funcs := by unfold State.devGive; (repeat' split) <;> rfl
@[simp] theorem State.devGive_evt (s : State) (d : DevMem) (bytes : Nat) : (State.devGive s d bytes).evt = s.evt := by unfold State.devGive; (repeat' split) <;> rfl
@[simp] theorem State.devGive_bist (s : State) (d : DevMem) (bytes : Nat) : (State.devGive s d bytes).bist = s.bist := by unfold State.devGive; (repeat' split) <;> rfl
@[simp] theorem State.devGive_eng (s : State) (d : DevMem) (bytes : Nat) : (State.devGive s d bytes).eng = s.eng := by unfold State.devGive; (repeat' split) <;> rfl
@[simp] theorem State.devGive_kpr (s : State) (d : DevMem) (bytes : Nat) : (State.devGive s d bytes).kpr = s.kpr := by unfold State.devGive; (repeat' split) <;> rfl
@[simp] theorem State.devGive_cal (s : State) (d : DevMem) (bytes : Nat) : (State.devGive s d bytes).cal = s.cal := by unfold State.devGive; (repeat' split) <;> rfl
@[simp] theorem State.devGive_slots (s : State) (d : DevMem) (bytes : Nat) : (State.devGive s d bytes).slots = s.slots := by unfold State.devGive; (repeat' split) <;> rfl
@[simp] theorem State.devGive_hostMem (s : State) (d : DevMem) (bytes : Nat) : (State.devGive s d bytes).hostMem = s.hostMem := by unfold State.devGive; (repeat' split) <;> rfl
@[simp] theorem State.devGive_kwMem (s : State) (d : DevMem) (bytes : Nat) : (State.devGive s d bytes).kwMem = s.kwMem := by unfold State.devGive; (repeat' split) <;> rfl
@[simp] theorem State.devGive_srv (s : State) (d : DevMem) (bytes : Nat) : (State.devGive s d bytes).srv = s.srv := by unfold State.devGive; (repeat' split) <;> rfl
@[simp] theorem State.devGive_kv (s : State) (d : DevMem) (bytes : Nat) : (State.devGive s d bytes).kv = s.kv := by unfold State.devGive; (repeat' split) <;> rfl
@[simp] theorem State.devGive_sense (s : State) (d : DevMem) (bytes : Nat) : (State.devGive s d bytes).sense = s.sense := by unfold State.devGive; (repeat' split) <;> rfl
@[simp] theorem State.devGive_pwr (s : State) (d : DevMem) (bytes : Nat) : (State.devGive s d bytes).pwr = s.pwr := by unfold State.devGive; (repeat' split) <;> rfl
@[simp] theorem State.devGive_fab (s : State) (d : DevMem) (bytes : Nat) : (State.devGive s d bytes).fab = s.fab := by unfold State.devGive; (repeat' split) <;> rfl
@[simp] theorem State.devGive_latch (s : State) (d : DevMem) (bytes : Nat) : (State.devGive s d bytes).latch = s.latch := by unfold State.devGive; (repeat' split) <;> rfl
@[simp] theorem State.devGive_ward (s : State) (d : DevMem) (bytes : Nat) : (State.devGive s d bytes).ward = s.ward := by unfold State.devGive; (repeat' split) <;> rfl
@[simp] theorem State.devGive_boot (s : State) (d : DevMem) (bytes : Nat) : (State.devGive s d bytes).boot = s.boot := by unfold State.devGive; (repeat' split) <;> rfl
@[simp] theorem State.random_pending (s : State) (n : Nat) : (State.random s n).1.pending = s.pending := id rfl
@[simp] theorem State.random_now (s : State) (n : Nat) : (State.random s n).1.now = s.now := id rfl
@[simp] theorem State.random_out (s : State) (n : Nat) : (State.random s n).1.out = s.out := id rfl
@[simp] theorem State.random_part (s : State) (n : Nat) : (State.random s n).1.part = s.part := id rfl
@[simp] theorem State.random_cfg (s : State) (n : Nat) : (State.random s n).1.cfg = s.cfg := id rfl
@[simp] theorem State.random_waiting (s : State) (n : Nat) : (State.random s n).1.waiting = s.waiting := id rfl
@[simp] theorem State.random_cnt (s : State) (n : Nat) : (State.random s n).1.cnt = s.cnt := id rfl
@[simp] theorem State.random_store (s : State) (n : Nat) : (State.random s n).1.store = s.store := id rfl
@[simp] theorem State.random_beat (s : State) (n : Nat) : (State.random s n).1.beat = s.beat := id rfl
@[simp] theorem State.random_hier (s : State) (n : Nat) : (State.random s n).1.hier = s.hier := id rfl
@[simp] theorem State.random_gdp (s : State) (n : Nat) : (State.random s n).1.gdp = s.gdp := id rfl
@[simp] theorem State.random_funcs (s : State) (n : Nat) : (State.random s n).1.funcs = s.funcs := id rfl
@[simp] theorem State.random_evt (s : State) (n : Nat) : (State.random s n).1.evt = s.evt := id rfl
@[simp] theorem State.random_bist (s : State) (n : Nat) : (State.random s n).1.bist = s.bist := id rfl
@[simp] theorem State.random_eng (s : State) (n : Nat) : (State.random s n).1.eng = s.eng := id rfl
@[simp] theorem State.random_kpr (s : State) (n : Nat) : (State.random s n).1.kpr = s.kpr := id rfl
@[simp] theorem State.random_cal (s : State) (n : Nat) : (State.random s n).1.cal = s.cal := id rfl
@[simp] theorem State.random_slots (s : State) (n : Nat) : (State.random s n).1.slots = s.slots := id rfl
@[simp] theorem State.random_hostMem (s : State) (n : Nat) : (State.random s n).1.hostMem = s.hostMem := id rfl
@[simp] theorem State.random_kwMem (s : State) (n : Nat) : (State.random s n).1.kwMem = s.kwMem := id rfl
@[simp] theorem State.random_srv (s : State) (n : Nat) : (State.random s n).1.srv = s.srv := id rfl
@[simp] theorem State.random_kv (s : State) (n : Nat) : (State.random s n).1.kv = s.kv := id rfl
@[simp] theorem State.random_sense (s : State) (n : Nat) : (State.random s n).1.sense = s.sense := id rfl
@[simp] theorem State.random_pwr (s : State) (n : Nat) : (State.random s n).1.pwr = s.pwr := id rfl
@[simp] theorem State.random_fab (s : State) (n : Nat) : (State.random s n).1.fab = s.fab := id rfl
@[simp] theorem State.random_latch (s : State) (n : Nat) : (State.random s n).1.latch = s.latch := id rfl
@[simp] theorem State.random_ward (s : State) (n : Nat) : (State.random s n).1.ward = s.ward := id rfl
@[simp] theorem State.random_mem (s : State) (n : Nat) : (State.random s n).1.mem = s.mem := id rfl
@[simp] theorem State.random_boot (s : State) (n : Nat) : (State.random s n).1.boot = s.boot := id rfl
@[simp] theorem State.putKeySlot_pending (s : State) (n : Nat) (k : KeySlot) : (State.putKeySlot s n k).pending = s.pending := id rfl
@[simp] theorem State.putKeySlot_now (s : State) (n : Nat) (k : KeySlot) : (State.putKeySlot s n k).now = s.now := id rfl
@[simp] theorem State.putKeySlot_out (s : State) (n : Nat) (k : KeySlot) : (State.putKeySlot s n k).out = s.out := id rfl
@[simp] theorem State.putKeySlot_free (s : State) (n : Nat) (k : KeySlot) : (State.putKeySlot s n k).free = s.free := id rfl
@[simp] theorem State.putKeySlot_part (s : State) (n : Nat) (k : KeySlot) : (State.putKeySlot s n k).part = s.part := id rfl
@[simp] theorem State.putKeySlot_cfg (s : State) (n : Nat) (k : KeySlot) : (State.putKeySlot s n k).cfg = s.cfg := id rfl
@[simp] theorem State.putKeySlot_waiting (s : State) (n : Nat) (k : KeySlot) : (State.putKeySlot s n k).waiting = s.waiting := id rfl
@[simp] theorem State.putKeySlot_cnt (s : State) (n : Nat) (k : KeySlot) : (State.putKeySlot s n k).cnt = s.cnt := id rfl
@[simp] theorem State.putKeySlot_store (s : State) (n : Nat) (k : KeySlot) : (State.putKeySlot s n k).store = s.store := id rfl
@[simp] theorem State.putKeySlot_beat (s : State) (n : Nat) (k : KeySlot) : (State.putKeySlot s n k).beat = s.beat := id rfl
@[simp] theorem State.putKeySlot_hier (s : State) (n : Nat) (k : KeySlot) : (State.putKeySlot s n k).hier = s.hier := id rfl
@[simp] theorem State.putKeySlot_gdp (s : State) (n : Nat) (k : KeySlot) : (State.putKeySlot s n k).gdp = s.gdp := id rfl
@[simp] theorem State.putKeySlot_funcs (s : State) (n : Nat) (k : KeySlot) : (State.putKeySlot s n k).funcs = s.funcs := id rfl
@[simp] theorem State.putKeySlot_evt (s : State) (n : Nat) (k : KeySlot) : (State.putKeySlot s n k).evt = s.evt := id rfl
@[simp] theorem State.putKeySlot_bist (s : State) (n : Nat) (k : KeySlot) : (State.putKeySlot s n k).bist = s.bist := id rfl
@[simp] theorem State.putKeySlot_eng (s : State) (n : Nat) (k : KeySlot) : (State.putKeySlot s n k).eng = s.eng := id rfl
@[simp] theorem State.putKeySlot_kpr (s : State) (n : Nat) (k : KeySlot) : (State.putKeySlot s n k).kpr = s.kpr := id rfl
@[simp] theorem State.putKeySlot_cal (s : State) (n : Nat) (k : KeySlot) : (State.putKeySlot s n k).cal = s.cal := id rfl
@[simp] theorem State.putKeySlot_slots (s : State) (n : Nat) (k : KeySlot) : (State.putKeySlot s n k).slots = s.slots := id rfl
@[simp] theorem State.putKeySlot_hostMem (s : State) (n : Nat) (k : KeySlot) : (State.putKeySlot s n k).hostMem = s.hostMem := id rfl
@[simp] theorem State.putKeySlot_kwMem (s : State) (n : Nat) (k : KeySlot) : (State.putKeySlot s n k).kwMem = s.kwMem := id rfl
@[simp] theorem State.putKeySlot_srv (s : State) (n : Nat) (k : KeySlot) : (State.putKeySlot s n k).srv = s.srv := id rfl
@[simp] theorem State.putKeySlot_kv (s : State) (n : Nat) (k : KeySlot) : (State.putKeySlot s n k).kv = s.kv := id rfl
@[simp] theorem State.putKeySlot_sense (s : State) (n : Nat) (k : KeySlot) : (State.putKeySlot s n k).sense = s.sense := id rfl
@[simp] theorem State.putKeySlot_pwr (s : State) (n : Nat) (k : KeySlot) : (State.putKeySlot s n k).pwr = s.pwr := id rfl
@[simp] theorem State.putKeySlot_fab (s : State) (n : Nat) (k : KeySlot) : (State.putKeySlot s n k).fab = s.fab := id rfl
@[simp] theorem State.putKeySlot_latch (s : State) (n : Nat) (k : KeySlot) : (State.putKeySlot s n k).latch = s.latch := id rfl
@[simp] theorem State.putKeySlot_mem (s : State) (n : Nat) (k : KeySlot) : (State.putKeySlot s n k).mem = s.mem := id rfl
@[simp] theorem State.putKeySlot_boot (s : State) (n : Nat) (k : KeySlot) : (State.putKeySlot s n k).boot = s.boot := id rfl
@[simp] theorem State.select_pending (s : State) (c : Ctx) (k : OKey) (v : Nat) : (State.select s c k v).pending = s.pending := id rfl
@[simp] theorem State.select_now (s : State) (c : Ctx) (k : OKey) (v : Nat) : (State.select s c k v).now = s.now := id rfl
@[simp] theorem State.select_out (s : State) (c : Ctx) (k : OKey) (v : Nat) : (State.select s c k v).out = s.out := id rfl
@[simp] theorem State.select_free (s : State) (c : Ctx) (k : OKey) (v : Nat) : (State.select s c k v).free = s.free := id rfl
@[simp] theorem State.select_part (s : State) (c : Ctx) (k : OKey) (v : Nat) : (State.select s c k v).part = s.part := id rfl
@[simp] theorem State.select_cfg (s : State) (c : Ctx) (k : OKey) (v : Nat) : (State.select s c k v).cfg = s.cfg := id rfl
@[simp] theorem State.select_waiting (s : State) (c : Ctx) (k : OKey) (v : Nat) : (State.select s c k v).waiting = s.waiting := id rfl
@[simp] theorem State.select_cnt (s : State) (c : Ctx) (k : OKey) (v : Nat) : (State.select s c k v).cnt = s.cnt := id rfl
@[simp] theorem State.select_store (s : State) (c : Ctx) (k : OKey) (v : Nat) : (State.select s c k v).store = s.store := id rfl
@[simp] theorem State.select_beat (s : State) (c : Ctx) (k : OKey) (v : Nat) : (State.select s c k v).beat = s.beat := id rfl
@[simp] theorem State.select_hier (s : State) (c : Ctx) (k : OKey) (v : Nat) : (State.select s c k v).hier = s.hier := id rfl
@[simp] theorem State.select_funcs (s : State) (c : Ctx) (k : OKey) (v : Nat) : (State.select s c k v).funcs = s.funcs := id rfl
@[simp] theorem State.select_evt (s : State) (c : Ctx) (k : OKey) (v : Nat) : (State.select s c k v).evt = s.evt := id rfl
@[simp] theorem State.select_bist (s : State) (c : Ctx) (k : OKey) (v : Nat) : (State.select s c k v).bist = s.bist := id rfl
@[simp] theorem State.select_eng (s : State) (c : Ctx) (k : OKey) (v : Nat) : (State.select s c k v).eng = s.eng := id rfl
@[simp] theorem State.select_kpr (s : State) (c : Ctx) (k : OKey) (v : Nat) : (State.select s c k v).kpr = s.kpr := id rfl
@[simp] theorem State.select_cal (s : State) (c : Ctx) (k : OKey) (v : Nat) : (State.select s c k v).cal = s.cal := id rfl
@[simp] theorem State.select_slots (s : State) (c : Ctx) (k : OKey) (v : Nat) : (State.select s c k v).slots = s.slots := id rfl
@[simp] theorem State.select_hostMem (s : State) (c : Ctx) (k : OKey) (v : Nat) : (State.select s c k v).hostMem = s.hostMem := id rfl
@[simp] theorem State.select_kwMem (s : State) (c : Ctx) (k : OKey) (v : Nat) : (State.select s c k v).kwMem = s.kwMem := id rfl
@[simp] theorem State.select_srv (s : State) (c : Ctx) (k : OKey) (v : Nat) : (State.select s c k v).srv = s.srv := id rfl
@[simp] theorem State.select_kv (s : State) (c : Ctx) (k : OKey) (v : Nat) : (State.select s c k v).kv = s.kv := id rfl
@[simp] theorem State.select_sense (s : State) (c : Ctx) (k : OKey) (v : Nat) : (State.select s c k v).sense = s.sense := id rfl
@[simp] theorem State.select_pwr (s : State) (c : Ctx) (k : OKey) (v : Nat) : (State.select s c k v).pwr = s.pwr := id rfl
@[simp] theorem State.select_fab (s : State) (c : Ctx) (k : OKey) (v : Nat) : (State.select s c k v).fab = s.fab := id rfl
@[simp] theorem State.select_latch (s : State) (c : Ctx) (k : OKey) (v : Nat) : (State.select s c k v).latch = s.latch := id rfl
@[simp] theorem State.select_ward (s : State) (c : Ctx) (k : OKey) (v : Nat) : (State.select s c k v).ward = s.ward := id rfl
@[simp] theorem State.select_mem (s : State) (c : Ctx) (k : OKey) (v : Nat) : (State.select s c k v).mem = s.mem := id rfl
@[simp] theorem State.select_boot (s : State) (c : Ctx) (k : OKey) (v : Nat) : (State.select s c k v).boot = s.boot := id rfl
@[simp] theorem State.queueWrite_pending (s : State) (k : OKey) (v : OVal) : (State.queueWrite s k v).pending = s.pending := id rfl
@[simp] theorem State.queueWrite_now (s : State) (k : OKey) (v : OVal) : (State.queueWrite s k v).now = s.now := id rfl
@[simp] theorem State.queueWrite_out (s : State) (k : OKey) (v : OVal) : (State.queueWrite s k v).out = s.out := id rfl
@[simp] theorem State.queueWrite_free (s : State) (k : OKey) (v : OVal) : (State.queueWrite s k v).free = s.free := id rfl
@[simp] theorem State.queueWrite_part (s : State) (k : OKey) (v : OVal) : (State.queueWrite s k v).part = s.part := id rfl
@[simp] theorem State.queueWrite_cfg (s : State) (k : OKey) (v : OVal) : (State.queueWrite s k v).cfg = s.cfg := id rfl
@[simp] theorem State.queueWrite_cnt (s : State) (k : OKey) (v : OVal) : (State.queueWrite s k v).cnt = s.cnt := id rfl
@[simp] theorem State.queueWrite_store (s : State) (k : OKey) (v : OVal) : (State.queueWrite s k v).store = s.store := id rfl
@[simp] theorem State.queueWrite_beat (s : State) (k : OKey) (v : OVal) : (State.queueWrite s k v).beat = s.beat := id rfl
@[simp] theorem State.queueWrite_hier (s : State) (k : OKey) (v : OVal) : (State.queueWrite s k v).hier = s.hier := id rfl
@[simp] theorem State.queueWrite_gdp (s : State) (k : OKey) (v : OVal) : (State.queueWrite s k v).gdp = s.gdp := id rfl
@[simp] theorem State.queueWrite_funcs (s : State) (k : OKey) (v : OVal) : (State.queueWrite s k v).funcs = s.funcs := id rfl
@[simp] theorem State.queueWrite_evt (s : State) (k : OKey) (v : OVal) : (State.queueWrite s k v).evt = s.evt := id rfl
@[simp] theorem State.queueWrite_bist (s : State) (k : OKey) (v : OVal) : (State.queueWrite s k v).bist = s.bist := id rfl
@[simp] theorem State.queueWrite_eng (s : State) (k : OKey) (v : OVal) : (State.queueWrite s k v).eng = s.eng := id rfl
@[simp] theorem State.queueWrite_kpr (s : State) (k : OKey) (v : OVal) : (State.queueWrite s k v).kpr = s.kpr := id rfl
@[simp] theorem State.queueWrite_cal (s : State) (k : OKey) (v : OVal) : (State.queueWrite s k v).cal = s.cal := id rfl
@[simp] theorem State.queueWrite_slots (s : State) (k : OKey) (v : OVal) : (State.queueWrite s k v).slots = s.slots := id rfl
@[simp] theorem State.queueWrite_hostMem (s : State) (k : OKey) (v : OVal) : (State.queueWrite s k v).hostMem = s.hostMem := id rfl
@[simp] theorem State.queueWrite_kwMem (s : State) (k : OKey) (v : OVal) : (State.queueWrite s k v).kwMem = s.kwMem := id rfl
@[simp] theorem State.queueWrite_srv (s : State) (k : OKey) (v : OVal) : (State.queueWrite s k v).srv = s.srv := id rfl
@[simp] theorem State.queueWrite_kv (s : State) (k : OKey) (v : OVal) : (State.queueWrite s k v).kv = s.kv := id rfl
@[simp] theorem State.queueWrite_sense (s : State) (k : OKey) (v : OVal) : (State.queueWrite s k v).sense = s.sense := id rfl
@[simp] theorem State.queueWrite_pwr (s : State) (k : OKey) (v : OVal) : (State.queueWrite s k v).pwr = s.pwr := id rfl
@[simp] theorem State.queueWrite_fab (s : State) (k : OKey) (v : OVal) : (State.queueWrite s k v).fab = s.fab := id rfl
@[simp] theorem State.queueWrite_latch (s : State) (k : OKey) (v : OVal) : (State.queueWrite s k v).latch = s.latch := id rfl
@[simp] theorem State.queueWrite_ward (s : State) (k : OKey) (v : OVal) : (State.queueWrite s k v).ward = s.ward := id rfl
@[simp] theorem State.queueWrite_mem (s : State) (k : OKey) (v : OVal) : (State.queueWrite s k v).mem = s.mem := id rfl
@[simp] theorem State.queueWrite_boot (s : State) (k : OKey) (v : OVal) : (State.queueWrite s k v).boot = s.boot := id rfl
@[simp] theorem State.putFunc_pending (s : State) (f : Func) (x : FuncS) : (State.putFunc s f x).pending = s.pending := id rfl
@[simp] theorem State.putFunc_now (s : State) (f : Func) (x : FuncS) : (State.putFunc s f x).now = s.now := id rfl
@[simp] theorem State.putFunc_out (s : State) (f : Func) (x : FuncS) : (State.putFunc s f x).out = s.out := id rfl
@[simp] theorem State.putFunc_free (s : State) (f : Func) (x : FuncS) : (State.putFunc s f x).free = s.free := id rfl
@[simp] theorem State.putFunc_part (s : State) (f : Func) (x : FuncS) : (State.putFunc s f x).part = s.part := id rfl
@[simp] theorem State.putFunc_cfg (s : State) (f : Func) (x : FuncS) : (State.putFunc s f x).cfg = s.cfg := id rfl
@[simp] theorem State.putFunc_waiting (s : State) (f : Func) (x : FuncS) : (State.putFunc s f x).waiting = s.waiting := id rfl
@[simp] theorem State.putFunc_cnt (s : State) (f : Func) (x : FuncS) : (State.putFunc s f x).cnt = s.cnt := id rfl
@[simp] theorem State.putFunc_store (s : State) (f : Func) (x : FuncS) : (State.putFunc s f x).store = s.store := id rfl
@[simp] theorem State.putFunc_beat (s : State) (f : Func) (x : FuncS) : (State.putFunc s f x).beat = s.beat := id rfl
@[simp] theorem State.putFunc_hier (s : State) (f : Func) (x : FuncS) : (State.putFunc s f x).hier = s.hier := id rfl
@[simp] theorem State.putFunc_gdp (s : State) (f : Func) (x : FuncS) : (State.putFunc s f x).gdp = s.gdp := id rfl
@[simp] theorem State.putFunc_evt (s : State) (f : Func) (x : FuncS) : (State.putFunc s f x).evt = s.evt := id rfl
@[simp] theorem State.putFunc_bist (s : State) (f : Func) (x : FuncS) : (State.putFunc s f x).bist = s.bist := id rfl
@[simp] theorem State.putFunc_eng (s : State) (f : Func) (x : FuncS) : (State.putFunc s f x).eng = s.eng := id rfl
@[simp] theorem State.putFunc_kpr (s : State) (f : Func) (x : FuncS) : (State.putFunc s f x).kpr = s.kpr := id rfl
@[simp] theorem State.putFunc_cal (s : State) (f : Func) (x : FuncS) : (State.putFunc s f x).cal = s.cal := id rfl
@[simp] theorem State.putFunc_slots (s : State) (f : Func) (x : FuncS) : (State.putFunc s f x).slots = s.slots := id rfl
@[simp] theorem State.putFunc_hostMem (s : State) (f : Func) (x : FuncS) : (State.putFunc s f x).hostMem = s.hostMem := id rfl
@[simp] theorem State.putFunc_kwMem (s : State) (f : Func) (x : FuncS) : (State.putFunc s f x).kwMem = s.kwMem := id rfl
@[simp] theorem State.putFunc_srv (s : State) (f : Func) (x : FuncS) : (State.putFunc s f x).srv = s.srv := id rfl
@[simp] theorem State.putFunc_kv (s : State) (f : Func) (x : FuncS) : (State.putFunc s f x).kv = s.kv := id rfl
@[simp] theorem State.putFunc_sense (s : State) (f : Func) (x : FuncS) : (State.putFunc s f x).sense = s.sense := id rfl
@[simp] theorem State.putFunc_pwr (s : State) (f : Func) (x : FuncS) : (State.putFunc s f x).pwr = s.pwr := id rfl
@[simp] theorem State.putFunc_fab (s : State) (f : Func) (x : FuncS) : (State.putFunc s f x).fab = s.fab := id rfl
@[simp] theorem State.putFunc_latch (s : State) (f : Func) (x : FuncS) : (State.putFunc s f x).latch = s.latch := id rfl
@[simp] theorem State.putFunc_ward (s : State) (f : Func) (x : FuncS) : (State.putFunc s f x).ward = s.ward := id rfl
@[simp] theorem State.putFunc_mem (s : State) (f : Func) (x : FuncS) : (State.putFunc s f x).mem = s.mem := id rfl
@[simp] theorem State.putFunc_boot (s : State) (f : Func) (x : FuncS) : (State.putFunc s f x).boot = s.boot := id rfl
@[simp] theorem State.clampRecord_pending (s : State) (k : OKey) (session : Nat) (transport : Nat) (kw : Nat) (c : Clamp) : (State.clampRecord s k session transport kw c).pending = s.pending := by simp [State.clampRecord]
@[simp] theorem State.clampRecord_now (s : State) (k : OKey) (session : Nat) (transport : Nat) (kw : Nat) (c : Clamp) : (State.clampRecord s k session transport kw c).now = s.now := by simp [State.clampRecord]
@[simp] theorem State.clampRecord_out (s : State) (k : OKey) (session : Nat) (transport : Nat) (kw : Nat) (c : Clamp) : (State.clampRecord s k session transport kw c).out = s.out := by simp [State.clampRecord]
@[simp] theorem State.clampRecord_part (s : State) (k : OKey) (session : Nat) (transport : Nat) (kw : Nat) (c : Clamp) : (State.clampRecord s k session transport kw c).part = s.part := by simp [State.clampRecord]
@[simp] theorem State.clampRecord_cfg (s : State) (k : OKey) (session : Nat) (transport : Nat) (kw : Nat) (c : Clamp) : (State.clampRecord s k session transport kw c).cfg = s.cfg := by simp [State.clampRecord]
@[simp] theorem State.clampRecord_waiting (s : State) (k : OKey) (session : Nat) (transport : Nat) (kw : Nat) (c : Clamp) : (State.clampRecord s k session transport kw c).waiting = s.waiting := by simp [State.clampRecord]
@[simp] theorem State.clampRecord_store (s : State) (k : OKey) (session : Nat) (transport : Nat) (kw : Nat) (c : Clamp) : (State.clampRecord s k session transport kw c).store = s.store := by simp [State.clampRecord]
@[simp] theorem State.clampRecord_beat (s : State) (k : OKey) (session : Nat) (transport : Nat) (kw : Nat) (c : Clamp) : (State.clampRecord s k session transport kw c).beat = s.beat := by simp [State.clampRecord]
@[simp] theorem State.clampRecord_hier (s : State) (k : OKey) (session : Nat) (transport : Nat) (kw : Nat) (c : Clamp) : (State.clampRecord s k session transport kw c).hier = s.hier := by simp [State.clampRecord]
@[simp] theorem State.clampRecord_funcs (s : State) (k : OKey) (session : Nat) (transport : Nat) (kw : Nat) (c : Clamp) : (State.clampRecord s k session transport kw c).funcs = s.funcs := by simp [State.clampRecord]
@[simp] theorem State.clampRecord_evt (s : State) (k : OKey) (session : Nat) (transport : Nat) (kw : Nat) (c : Clamp) : (State.clampRecord s k session transport kw c).evt = s.evt := by simp [State.clampRecord]
@[simp] theorem State.clampRecord_bist (s : State) (k : OKey) (session : Nat) (transport : Nat) (kw : Nat) (c : Clamp) : (State.clampRecord s k session transport kw c).bist = s.bist := by simp [State.clampRecord]
@[simp] theorem State.clampRecord_eng (s : State) (k : OKey) (session : Nat) (transport : Nat) (kw : Nat) (c : Clamp) : (State.clampRecord s k session transport kw c).eng = s.eng := by simp [State.clampRecord]
@[simp] theorem State.clampRecord_kpr (s : State) (k : OKey) (session : Nat) (transport : Nat) (kw : Nat) (c : Clamp) : (State.clampRecord s k session transport kw c).kpr = s.kpr := by simp [State.clampRecord]
@[simp] theorem State.clampRecord_cal (s : State) (k : OKey) (session : Nat) (transport : Nat) (kw : Nat) (c : Clamp) : (State.clampRecord s k session transport kw c).cal = s.cal := by simp [State.clampRecord]
@[simp] theorem State.clampRecord_slots (s : State) (k : OKey) (session : Nat) (transport : Nat) (kw : Nat) (c : Clamp) : (State.clampRecord s k session transport kw c).slots = s.slots := by simp [State.clampRecord]
@[simp] theorem State.clampRecord_hostMem (s : State) (k : OKey) (session : Nat) (transport : Nat) (kw : Nat) (c : Clamp) : (State.clampRecord s k session transport kw c).hostMem = s.hostMem := by simp [State.clampRecord]
@[simp] theorem State.clampRecord_kwMem (s : State) (k : OKey) (session : Nat) (transport : Nat) (kw : Nat) (c : Clamp) : (State.clampRecord s k session transport kw c).kwMem = s.kwMem := by simp [State.clampRecord]
@[simp] theorem State.clampRecord_srv (s : State) (k : OKey) (session : Nat) (transport : Nat) (kw : Nat) (c : Clamp) : (State.clampRecord s k session transport kw c).srv = s.srv := by simp [State.clampRecord]
@[simp] theorem State.clampRecord_kv (s : State) (k : OKey) (session : Nat) (transport : Nat) (kw : Nat) (c : Clamp) : (State.clampRecord s k session transport kw c).kv = s.kv := by simp [State.clampRecord]
@[simp] theorem State.clampRecord_sense (s : State) (k : OKey) (session : Nat) (transport : Nat) (kw : Nat) (c : Clamp) : (State.clampRecord s k session transport kw c).sense = s.sense := by simp [State.clampRecord]
@[simp] theorem State.clampRecord_pwr (s : State) (k : OKey) (session : Nat) (transport : Nat) (kw : Nat) (c : Clamp) : (State.clampRecord s k session transport kw c).pwr = s.pwr := by simp [State.clampRecord]
@[simp] theorem State.clampRecord_fab (s : State) (k : OKey) (session : Nat) (transport : Nat) (kw : Nat) (c : Clamp) : (State.clampRecord s k session transport kw c).fab = s.fab := by simp [State.clampRecord]
@[simp] theorem State.clampRecord_latch (s : State) (k : OKey) (session : Nat) (transport : Nat) (kw : Nat) (c : Clamp) : (State.clampRecord s k session transport kw c).latch = s.latch := by simp [State.clampRecord]
@[simp] theorem State.clampRecord_ward (s : State) (k : OKey) (session : Nat) (transport : Nat) (kw : Nat) (c : Clamp) : (State.clampRecord s k session transport kw c).ward = s.ward := by simp [State.clampRecord]
@[simp] theorem State.clampRecord_mem (s : State) (k : OKey) (session : Nat) (transport : Nat) (kw : Nat) (c : Clamp) : (State.clampRecord s k session transport kw c).mem = s.mem := by simp [State.clampRecord]
@[simp] theorem State.clampRecord_boot (s : State) (k : OKey) (session : Nat) (transport : Nat) (kw : Nat) (c : Clamp) : (State.clampRecord s k session transport kw c).boot = s.boot := by simp [State.clampRecord]
@[simp] theorem State.devTake_pending (s : State) (d : DevMem) (bytes : Nat) : (State.devTake s d bytes).pending = s.pending := id rfl
@[simp] theorem State.devTake_now (s : State) (d : DevMem) (bytes : Nat) : (State.devTake s d bytes).now = s.now := id rfl
@[simp] theorem State.devTake_out (s : State) (d : DevMem) (bytes : Nat) : (State.devTake s d bytes).out = s.out := id rfl
@[simp] theorem State.devTake_free (s : State) (d : DevMem) (bytes : Nat) : (State.devTake s d bytes).free = s.free := id rfl
@[simp] theorem State.devTake_part (s : State) (d : DevMem) (bytes : Nat) : (State.devTake s d bytes).part = s.part := id rfl
@[simp] theorem State.devTake_cfg (s : State) (d : DevMem) (bytes : Nat) : (State.devTake s d bytes).cfg = s.cfg := id rfl
@[simp] theorem State.devTake_waiting (s : State) (d : DevMem) (bytes : Nat) : (State.devTake s d bytes).waiting = s.waiting := id rfl
@[simp] theorem State.devTake_cnt (s : State) (d : DevMem) (bytes : Nat) : (State.devTake s d bytes).cnt = s.cnt := id rfl
@[simp] theorem State.devTake_store (s : State) (d : DevMem) (bytes : Nat) : (State.devTake s d bytes).store = s.store := id rfl
@[simp] theorem State.devTake_beat (s : State) (d : DevMem) (bytes : Nat) : (State.devTake s d bytes).beat = s.beat := id rfl
@[simp] theorem State.devTake_hier (s : State) (d : DevMem) (bytes : Nat) : (State.devTake s d bytes).hier = s.hier := id rfl
@[simp] theorem State.devTake_gdp (s : State) (d : DevMem) (bytes : Nat) : (State.devTake s d bytes).gdp = s.gdp := id rfl
@[simp] theorem State.devTake_funcs (s : State) (d : DevMem) (bytes : Nat) : (State.devTake s d bytes).funcs = s.funcs := id rfl
@[simp] theorem State.devTake_evt (s : State) (d : DevMem) (bytes : Nat) : (State.devTake s d bytes).evt = s.evt := id rfl
@[simp] theorem State.devTake_bist (s : State) (d : DevMem) (bytes : Nat) : (State.devTake s d bytes).bist = s.bist := id rfl
@[simp] theorem State.devTake_eng (s : State) (d : DevMem) (bytes : Nat) : (State.devTake s d bytes).eng = s.eng := id rfl
@[simp] theorem State.devTake_kpr (s : State) (d : DevMem) (bytes : Nat) : (State.devTake s d bytes).kpr = s.kpr := id rfl
@[simp] theorem State.devTake_cal (s : State) (d : DevMem) (bytes : Nat) : (State.devTake s d bytes).cal = s.cal := id rfl
@[simp] theorem State.devTake_slots (s : State) (d : DevMem) (bytes : Nat) : (State.devTake s d bytes).slots = s.slots := id rfl
@[simp] theorem State.devTake_hostMem (s : State) (d : DevMem) (bytes : Nat) : (State.devTake s d bytes).hostMem = s.hostMem := id rfl
@[simp] theorem State.devTake_kwMem (s : State) (d : DevMem) (bytes : Nat) : (State.devTake s d bytes).kwMem = s.kwMem := id rfl
@[simp] theorem State.devTake_srv (s : State) (d : DevMem) (bytes : Nat) : (State.devTake s d bytes).srv = s.srv := id rfl
@[simp] theorem State.devTake_kv (s : State) (d : DevMem) (bytes : Nat) : (State.devTake s d bytes).kv = s.kv := id rfl
@[simp] theorem State.devTake_sense (s : State) (d : DevMem) (bytes : Nat) : (State.devTake s d bytes).sense = s.sense := id rfl
@[simp] theorem State.devTake_pwr (s : State) (d : DevMem) (bytes : Nat) : (State.devTake s d bytes).pwr = s.pwr := id rfl
@[simp] theorem State.devTake_fab (s : State) (d : DevMem) (bytes : Nat) : (State.devTake s d bytes).fab = s.fab := id rfl
@[simp] theorem State.devTake_latch (s : State) (d : DevMem) (bytes : Nat) : (State.devTake s d bytes).latch = s.latch := id rfl
@[simp] theorem State.devTake_ward (s : State) (d : DevMem) (bytes : Nat) : (State.devTake s d bytes).ward = s.ward := id rfl
@[simp] theorem State.devTake_boot (s : State) (d : DevMem) (bytes : Nat) : (State.devTake s d bytes).boot = s.boot := id rfl
@[simp] theorem State.funcTo_pending (s : State) (f : Func) (x : FState) : (State.funcTo s f x).pending = s.pending := id rfl
@[simp] theorem State.funcTo_now (s : State) (f : Func) (x : FState) : (State.funcTo s f x).now = s.now := id rfl
@[simp] theorem State.funcTo_out (s : State) (f : Func) (x : FState) : (State.funcTo s f x).out = s.out := id rfl
@[simp] theorem State.funcTo_free (s : State) (f : Func) (x : FState) : (State.funcTo s f x).free = s.free := id rfl
@[simp] theorem State.funcTo_part (s : State) (f : Func) (x : FState) : (State.funcTo s f x).part = s.part := id rfl
@[simp] theorem State.funcTo_cfg (s : State) (f : Func) (x : FState) : (State.funcTo s f x).cfg = s.cfg := id rfl
@[simp] theorem State.funcTo_waiting (s : State) (f : Func) (x : FState) : (State.funcTo s f x).waiting = s.waiting := id rfl
@[simp] theorem State.funcTo_cnt (s : State) (f : Func) (x : FState) : (State.funcTo s f x).cnt = s.cnt := id rfl
@[simp] theorem State.funcTo_store (s : State) (f : Func) (x : FState) : (State.funcTo s f x).store = s.store := id rfl
@[simp] theorem State.funcTo_beat (s : State) (f : Func) (x : FState) : (State.funcTo s f x).beat = s.beat := id rfl
@[simp] theorem State.funcTo_hier (s : State) (f : Func) (x : FState) : (State.funcTo s f x).hier = s.hier := id rfl
@[simp] theorem State.funcTo_gdp (s : State) (f : Func) (x : FState) : (State.funcTo s f x).gdp = s.gdp := id rfl
@[simp] theorem State.funcTo_bist (s : State) (f : Func) (x : FState) : (State.funcTo s f x).bist = s.bist := id rfl
@[simp] theorem State.funcTo_eng (s : State) (f : Func) (x : FState) : (State.funcTo s f x).eng = s.eng := id rfl
@[simp] theorem State.funcTo_kpr (s : State) (f : Func) (x : FState) : (State.funcTo s f x).kpr = s.kpr := id rfl
@[simp] theorem State.funcTo_cal (s : State) (f : Func) (x : FState) : (State.funcTo s f x).cal = s.cal := id rfl
@[simp] theorem State.funcTo_slots (s : State) (f : Func) (x : FState) : (State.funcTo s f x).slots = s.slots := id rfl
@[simp] theorem State.funcTo_hostMem (s : State) (f : Func) (x : FState) : (State.funcTo s f x).hostMem = s.hostMem := id rfl
@[simp] theorem State.funcTo_kwMem (s : State) (f : Func) (x : FState) : (State.funcTo s f x).kwMem = s.kwMem := id rfl
@[simp] theorem State.funcTo_srv (s : State) (f : Func) (x : FState) : (State.funcTo s f x).srv = s.srv := id rfl
@[simp] theorem State.funcTo_kv (s : State) (f : Func) (x : FState) : (State.funcTo s f x).kv = s.kv := id rfl
@[simp] theorem State.funcTo_sense (s : State) (f : Func) (x : FState) : (State.funcTo s f x).sense = s.sense := id rfl
@[simp] theorem State.funcTo_pwr (s : State) (f : Func) (x : FState) : (State.funcTo s f x).pwr = s.pwr := id rfl
@[simp] theorem State.funcTo_fab (s : State) (f : Func) (x : FState) : (State.funcTo s f x).fab = s.fab := id rfl
@[simp] theorem State.funcTo_latch (s : State) (f : Func) (x : FState) : (State.funcTo s f x).latch = s.latch := id rfl
@[simp] theorem State.funcTo_ward (s : State) (f : Func) (x : FState) : (State.funcTo s f x).ward = s.ward := id rfl
@[simp] theorem State.funcTo_mem (s : State) (f : Func) (x : FState) : (State.funcTo s f x).mem = s.mem := id rfl
@[simp] theorem State.funcTo_boot (s : State) (f : Func) (x : FState) : (State.funcTo s f x).boot = s.boot := id rfl
@[simp] theorem State.putPort_pending (s : State) (p : Nat) (x : PortS) : (State.putPort s p x).pending = s.pending := id rfl
@[simp] theorem State.putPort_now (s : State) (p : Nat) (x : PortS) : (State.putPort s p x).now = s.now := id rfl
@[simp] theorem State.putPort_out (s : State) (p : Nat) (x : PortS) : (State.putPort s p x).out = s.out := id rfl
@[simp] theorem State.putPort_free (s : State) (p : Nat) (x : PortS) : (State.putPort s p x).free = s.free := id rfl
@[simp] theorem State.putPort_part (s : State) (p : Nat) (x : PortS) : (State.putPort s p x).part = s.part := id rfl
@[simp] theorem State.putPort_cfg (s : State) (p : Nat) (x : PortS) : (State.putPort s p x).cfg = s.cfg := id rfl
@[simp] theorem State.putPort_waiting (s : State) (p : Nat) (x : PortS) : (State.putPort s p x).waiting = s.waiting := id rfl
@[simp] theorem State.putPort_cnt (s : State) (p : Nat) (x : PortS) : (State.putPort s p x).cnt = s.cnt := id rfl
@[simp] theorem State.putPort_store (s : State) (p : Nat) (x : PortS) : (State.putPort s p x).store = s.store := id rfl
@[simp] theorem State.putPort_beat (s : State) (p : Nat) (x : PortS) : (State.putPort s p x).beat = s.beat := id rfl
@[simp] theorem State.putPort_hier (s : State) (p : Nat) (x : PortS) : (State.putPort s p x).hier = s.hier := id rfl
@[simp] theorem State.putPort_gdp (s : State) (p : Nat) (x : PortS) : (State.putPort s p x).gdp = s.gdp := id rfl
@[simp] theorem State.putPort_funcs (s : State) (p : Nat) (x : PortS) : (State.putPort s p x).funcs = s.funcs := id rfl
@[simp] theorem State.putPort_evt (s : State) (p : Nat) (x : PortS) : (State.putPort s p x).evt = s.evt := id rfl
@[simp] theorem State.putPort_bist (s : State) (p : Nat) (x : PortS) : (State.putPort s p x).bist = s.bist := id rfl
@[simp] theorem State.putPort_eng (s : State) (p : Nat) (x : PortS) : (State.putPort s p x).eng = s.eng := id rfl
@[simp] theorem State.putPort_kpr (s : State) (p : Nat) (x : PortS) : (State.putPort s p x).kpr = s.kpr := id rfl
@[simp] theorem State.putPort_cal (s : State) (p : Nat) (x : PortS) : (State.putPort s p x).cal = s.cal := id rfl
@[simp] theorem State.putPort_slots (s : State) (p : Nat) (x : PortS) : (State.putPort s p x).slots = s.slots := id rfl
@[simp] theorem State.putPort_hostMem (s : State) (p : Nat) (x : PortS) : (State.putPort s p x).hostMem = s.hostMem := id rfl
@[simp] theorem State.putPort_kwMem (s : State) (p : Nat) (x : PortS) : (State.putPort s p x).kwMem = s.kwMem := id rfl
@[simp] theorem State.putPort_srv (s : State) (p : Nat) (x : PortS) : (State.putPort s p x).srv = s.srv := id rfl
@[simp] theorem State.putPort_kv (s : State) (p : Nat) (x : PortS) : (State.putPort s p x).kv = s.kv := id rfl
@[simp] theorem State.putPort_sense (s : State) (p : Nat) (x : PortS) : (State.putPort s p x).sense = s.sense := id rfl
@[simp] theorem State.putPort_pwr (s : State) (p : Nat) (x : PortS) : (State.putPort s p x).pwr = s.pwr := id rfl
@[simp] theorem State.putPort_latch (s : State) (p : Nat) (x : PortS) : (State.putPort s p x).latch = s.latch := id rfl
@[simp] theorem State.putPort_ward (s : State) (p : Nat) (x : PortS) : (State.putPort s p x).ward = s.ward := id rfl
@[simp] theorem State.putPort_mem (s : State) (p : Nat) (x : PortS) : (State.putPort s p x).mem = s.mem := id rfl
@[simp] theorem State.putPort_boot (s : State) (p : Nat) (x : PortS) : (State.putPort s p x).boot = s.boot := id rfl
@[simp] theorem State.putSetting_pending (s : State) (k : OKey) (v : OVal) : (State.putSetting s k v).pending = s.pending := id rfl
@[simp] theorem State.putSetting_now (s : State) (k : OKey) (v : OVal) : (State.putSetting s k v).now = s.now := id rfl
@[simp] theorem State.putSetting_out (s : State) (k : OKey) (v : OVal) : (State.putSetting s k v).out = s.out := id rfl
@[simp] theorem State.putSetting_free (s : State) (k : OKey) (v : OVal) : (State.putSetting s k v).free = s.free := id rfl
@[simp] theorem State.putSetting_part (s : State) (k : OKey) (v : OVal) : (State.putSetting s k v).part = s.part := id rfl
@[simp] theorem State.putSetting_waiting (s : State) (k : OKey) (v : OVal) : (State.putSetting s k v).waiting = s.waiting := id rfl
@[simp] theorem State.putSetting_cnt (s : State) (k : OKey) (v : OVal) : (State.putSetting s k v).cnt = s.cnt := id rfl
@[simp] theorem State.putSetting_store (s : State) (k : OKey) (v : OVal) : (State.putSetting s k v).store = s.store := id rfl
@[simp] theorem State.putSetting_beat (s : State) (k : OKey) (v : OVal) : (State.putSetting s k v).beat = s.beat := id rfl
@[simp] theorem State.putSetting_hier (s : State) (k : OKey) (v : OVal) : (State.putSetting s k v).hier = s.hier := id rfl
@[simp] theorem State.putSetting_gdp (s : State) (k : OKey) (v : OVal) : (State.putSetting s k v).gdp = s.gdp := id rfl
@[simp] theorem State.putSetting_funcs (s : State) (k : OKey) (v : OVal) : (State.putSetting s k v).funcs = s.funcs := id rfl
@[simp] theorem State.putSetting_evt (s : State) (k : OKey) (v : OVal) : (State.putSetting s k v).evt = s.evt := id rfl
@[simp] theorem State.putSetting_bist (s : State) (k : OKey) (v : OVal) : (State.putSetting s k v).bist = s.bist := id rfl
@[simp] theorem State.putSetting_eng (s : State) (k : OKey) (v : OVal) : (State.putSetting s k v).eng = s.eng := id rfl
@[simp] theorem State.putSetting_kpr (s : State) (k : OKey) (v : OVal) : (State.putSetting s k v).kpr = s.kpr := id rfl
@[simp] theorem State.putSetting_cal (s : State) (k : OKey) (v : OVal) : (State.putSetting s k v).cal = s.cal := id rfl
@[simp] theorem State.putSetting_slots (s : State) (k : OKey) (v : OVal) : (State.putSetting s k v).slots = s.slots := id rfl
@[simp] theorem State.putSetting_hostMem (s : State) (k : OKey) (v : OVal) : (State.putSetting s k v).hostMem = s.hostMem := id rfl
@[simp] theorem State.putSetting_kwMem (s : State) (k : OKey) (v : OVal) : (State.putSetting s k v).kwMem = s.kwMem := id rfl
@[simp] theorem State.putSetting_srv (s : State) (k : OKey) (v : OVal) : (State.putSetting s k v).srv = s.srv := id rfl
@[simp] theorem State.putSetting_kv (s : State) (k : OKey) (v : OVal) : (State.putSetting s k v).kv = s.kv := id rfl
@[simp] theorem State.putSetting_sense (s : State) (k : OKey) (v : OVal) : (State.putSetting s k v).sense = s.sense := id rfl
@[simp] theorem State.putSetting_pwr (s : State) (k : OKey) (v : OVal) : (State.putSetting s k v).pwr = s.pwr := id rfl
@[simp] theorem State.putSetting_fab (s : State) (k : OKey) (v : OVal) : (State.putSetting s k v).fab = s.fab := id rfl
@[simp] theorem State.putSetting_latch (s : State) (k : OKey) (v : OVal) : (State.putSetting s k v).latch = s.latch := id rfl
@[simp] theorem State.putSetting_ward (s : State) (k : OKey) (v : OVal) : (State.putSetting s k v).ward = s.ward := id rfl
@[simp] theorem State.putSetting_mem (s : State) (k : OKey) (v : OVal) : (State.putSetting s k v).mem = s.mem := id rfl
@[simp] theorem State.putSetting_boot (s : State) (k : OKey) (v : OVal) : (State.putSetting s k v).boot = s.boot := id rfl
@[simp] theorem State.putKway_pending (s : State) (n : Nat) (x : KeywayS) : (State.putKway s n x).pending = s.pending := id rfl
@[simp] theorem State.putKway_now (s : State) (n : Nat) (x : KeywayS) : (State.putKway s n x).now = s.now := id rfl
@[simp] theorem State.putKway_out (s : State) (n : Nat) (x : KeywayS) : (State.putKway s n x).out = s.out := id rfl
@[simp] theorem State.putKway_free (s : State) (n : Nat) (x : KeywayS) : (State.putKway s n x).free = s.free := id rfl
@[simp] theorem State.putKway_part (s : State) (n : Nat) (x : KeywayS) : (State.putKway s n x).part = s.part := id rfl
@[simp] theorem State.putKway_cfg (s : State) (n : Nat) (x : KeywayS) : (State.putKway s n x).cfg = s.cfg := id rfl
@[simp] theorem State.putKway_waiting (s : State) (n : Nat) (x : KeywayS) : (State.putKway s n x).waiting = s.waiting := id rfl
@[simp] theorem State.putKway_cnt (s : State) (n : Nat) (x : KeywayS) : (State.putKway s n x).cnt = s.cnt := id rfl
@[simp] theorem State.putKway_store (s : State) (n : Nat) (x : KeywayS) : (State.putKway s n x).store = s.store := id rfl
@[simp] theorem State.putKway_beat (s : State) (n : Nat) (x : KeywayS) : (State.putKway s n x).beat = s.beat := id rfl
@[simp] theorem State.putKway_hier (s : State) (n : Nat) (x : KeywayS) : (State.putKway s n x).hier = s.hier := id rfl
@[simp] theorem State.putKway_gdp (s : State) (n : Nat) (x : KeywayS) : (State.putKway s n x).gdp = s.gdp := id rfl
@[simp] theorem State.putKway_funcs (s : State) (n : Nat) (x : KeywayS) : (State.putKway s n x).funcs = s.funcs := id rfl
@[simp] theorem State.putKway_evt (s : State) (n : Nat) (x : KeywayS) : (State.putKway s n x).evt = s.evt := id rfl
@[simp] theorem State.putKway_bist (s : State) (n : Nat) (x : KeywayS) : (State.putKway s n x).bist = s.bist := id rfl
@[simp] theorem State.putKway_eng (s : State) (n : Nat) (x : KeywayS) : (State.putKway s n x).eng = s.eng := id rfl
@[simp] theorem State.putKway_kpr (s : State) (n : Nat) (x : KeywayS) : (State.putKway s n x).kpr = s.kpr := id rfl
@[simp] theorem State.putKway_cal (s : State) (n : Nat) (x : KeywayS) : (State.putKway s n x).cal = s.cal := id rfl
@[simp] theorem State.putKway_slots (s : State) (n : Nat) (x : KeywayS) : (State.putKway s n x).slots = s.slots := id rfl
@[simp] theorem State.putKway_hostMem (s : State) (n : Nat) (x : KeywayS) : (State.putKway s n x).hostMem = s.hostMem := id rfl
@[simp] theorem State.putKway_kwMem (s : State) (n : Nat) (x : KeywayS) : (State.putKway s n x).kwMem = s.kwMem := id rfl
@[simp] theorem State.putKway_srv (s : State) (n : Nat) (x : KeywayS) : (State.putKway s n x).srv = s.srv := id rfl
@[simp] theorem State.putKway_kv (s : State) (n : Nat) (x : KeywayS) : (State.putKway s n x).kv = s.kv := id rfl
@[simp] theorem State.putKway_sense (s : State) (n : Nat) (x : KeywayS) : (State.putKway s n x).sense = s.sense := id rfl
@[simp] theorem State.putKway_pwr (s : State) (n : Nat) (x : KeywayS) : (State.putKway s n x).pwr = s.pwr := id rfl
@[simp] theorem State.putKway_fab (s : State) (n : Nat) (x : KeywayS) : (State.putKway s n x).fab = s.fab := id rfl
@[simp] theorem State.putKway_latch (s : State) (n : Nat) (x : KeywayS) : (State.putKway s n x).latch = s.latch := id rfl
@[simp] theorem State.putKway_mem (s : State) (n : Nat) (x : KeywayS) : (State.putKway s n x).mem = s.mem := id rfl
@[simp] theorem State.putKway_boot (s : State) (n : Nat) (x : KeywayS) : (State.putKway s n x).boot = s.boot := id rfl
@[simp] theorem State.putSlot_pending (s : State) (n : Nat) (x : SlotS) : (State.putSlot s n x).pending = s.pending := id rfl
@[simp] theorem State.putSlot_now (s : State) (n : Nat) (x : SlotS) : (State.putSlot s n x).now = s.now := id rfl
@[simp] theorem State.putSlot_out (s : State) (n : Nat) (x : SlotS) : (State.putSlot s n x).out = s.out := id rfl
@[simp] theorem State.putSlot_free (s : State) (n : Nat) (x : SlotS) : (State.putSlot s n x).free = s.free := id rfl
@[simp] theorem State.putSlot_part (s : State) (n : Nat) (x : SlotS) : (State.putSlot s n x).part = s.part := id rfl
@[simp] theorem State.putSlot_cfg (s : State) (n : Nat) (x : SlotS) : (State.putSlot s n x).cfg = s.cfg := id rfl
@[simp] theorem State.putSlot_waiting (s : State) (n : Nat) (x : SlotS) : (State.putSlot s n x).waiting = s.waiting := id rfl
@[simp] theorem State.putSlot_cnt (s : State) (n : Nat) (x : SlotS) : (State.putSlot s n x).cnt = s.cnt := id rfl
@[simp] theorem State.putSlot_store (s : State) (n : Nat) (x : SlotS) : (State.putSlot s n x).store = s.store := id rfl
@[simp] theorem State.putSlot_beat (s : State) (n : Nat) (x : SlotS) : (State.putSlot s n x).beat = s.beat := id rfl
@[simp] theorem State.putSlot_hier (s : State) (n : Nat) (x : SlotS) : (State.putSlot s n x).hier = s.hier := id rfl
@[simp] theorem State.putSlot_gdp (s : State) (n : Nat) (x : SlotS) : (State.putSlot s n x).gdp = s.gdp := id rfl
@[simp] theorem State.putSlot_funcs (s : State) (n : Nat) (x : SlotS) : (State.putSlot s n x).funcs = s.funcs := id rfl
@[simp] theorem State.putSlot_evt (s : State) (n : Nat) (x : SlotS) : (State.putSlot s n x).evt = s.evt := id rfl
@[simp] theorem State.putSlot_bist (s : State) (n : Nat) (x : SlotS) : (State.putSlot s n x).bist = s.bist := id rfl
@[simp] theorem State.putSlot_eng (s : State) (n : Nat) (x : SlotS) : (State.putSlot s n x).eng = s.eng := id rfl
@[simp] theorem State.putSlot_kpr (s : State) (n : Nat) (x : SlotS) : (State.putSlot s n x).kpr = s.kpr := id rfl
@[simp] theorem State.putSlot_cal (s : State) (n : Nat) (x : SlotS) : (State.putSlot s n x).cal = s.cal := id rfl
@[simp] theorem State.putSlot_hostMem (s : State) (n : Nat) (x : SlotS) : (State.putSlot s n x).hostMem = s.hostMem := id rfl
@[simp] theorem State.putSlot_kwMem (s : State) (n : Nat) (x : SlotS) : (State.putSlot s n x).kwMem = s.kwMem := id rfl
@[simp] theorem State.putSlot_srv (s : State) (n : Nat) (x : SlotS) : (State.putSlot s n x).srv = s.srv := id rfl
@[simp] theorem State.putSlot_kv (s : State) (n : Nat) (x : SlotS) : (State.putSlot s n x).kv = s.kv := id rfl
@[simp] theorem State.putSlot_sense (s : State) (n : Nat) (x : SlotS) : (State.putSlot s n x).sense = s.sense := id rfl
@[simp] theorem State.putSlot_pwr (s : State) (n : Nat) (x : SlotS) : (State.putSlot s n x).pwr = s.pwr := id rfl
@[simp] theorem State.putSlot_fab (s : State) (n : Nat) (x : SlotS) : (State.putSlot s n x).fab = s.fab := id rfl
@[simp] theorem State.putSlot_latch (s : State) (n : Nat) (x : SlotS) : (State.putSlot s n x).latch = s.latch := id rfl
@[simp] theorem State.putSlot_ward (s : State) (n : Nat) (x : SlotS) : (State.putSlot s n x).ward = s.ward := id rfl
@[simp] theorem State.putSlot_mem (s : State) (n : Nat) (x : SlotS) : (State.putSlot s n x).mem = s.mem := id rfl
@[simp] theorem State.putSlot_boot (s : State) (n : Nat) (x : SlotS) : (State.putSlot s n x).boot = s.boot := id rfl
@[simp] theorem State.setOwn_pending (s : State) (u : UnitId) (x : UState) : (State.setOwn s u x).pending = s.pending := id rfl
@[simp] theorem State.setOwn_now (s : State) (u : UnitId) (x : UState) : (State.setOwn s u x).now = s.now := id rfl
@[simp] theorem State.setOwn_out (s : State) (u : UnitId) (x : UState) : (State.setOwn s u x).out = s.out := id rfl
@[simp] theorem State.setOwn_free (s : State) (u : UnitId) (x : UState) : (State.setOwn s u x).free = s.free := id rfl
@[simp] theorem State.setOwn_part (s : State) (u : UnitId) (x : UState) : (State.setOwn s u x).part = s.part := id rfl
@[simp] theorem State.setOwn_cfg (s : State) (u : UnitId) (x : UState) : (State.setOwn s u x).cfg = s.cfg := id rfl
@[simp] theorem State.setOwn_waiting (s : State) (u : UnitId) (x : UState) : (State.setOwn s u x).waiting = s.waiting := id rfl
@[simp] theorem State.setOwn_cnt (s : State) (u : UnitId) (x : UState) : (State.setOwn s u x).cnt = s.cnt := id rfl
@[simp] theorem State.setOwn_store (s : State) (u : UnitId) (x : UState) : (State.setOwn s u x).store = s.store := id rfl
@[simp] theorem State.setOwn_beat (s : State) (u : UnitId) (x : UState) : (State.setOwn s u x).beat = s.beat := id rfl
@[simp] theorem State.setOwn_gdp (s : State) (u : UnitId) (x : UState) : (State.setOwn s u x).gdp = s.gdp := id rfl
@[simp] theorem State.setOwn_funcs (s : State) (u : UnitId) (x : UState) : (State.setOwn s u x).funcs = s.funcs := id rfl
@[simp] theorem State.setOwn_evt (s : State) (u : UnitId) (x : UState) : (State.setOwn s u x).evt = s.evt := id rfl
@[simp] theorem State.setOwn_bist (s : State) (u : UnitId) (x : UState) : (State.setOwn s u x).bist = s.bist := id rfl
@[simp] theorem State.setOwn_eng (s : State) (u : UnitId) (x : UState) : (State.setOwn s u x).eng = s.eng := id rfl
@[simp] theorem State.setOwn_kpr (s : State) (u : UnitId) (x : UState) : (State.setOwn s u x).kpr = s.kpr := id rfl
@[simp] theorem State.setOwn_cal (s : State) (u : UnitId) (x : UState) : (State.setOwn s u x).cal = s.cal := id rfl
@[simp] theorem State.setOwn_slots (s : State) (u : UnitId) (x : UState) : (State.setOwn s u x).slots = s.slots := id rfl
@[simp] theorem State.setOwn_hostMem (s : State) (u : UnitId) (x : UState) : (State.setOwn s u x).hostMem = s.hostMem := id rfl
@[simp] theorem State.setOwn_kwMem (s : State) (u : UnitId) (x : UState) : (State.setOwn s u x).kwMem = s.kwMem := id rfl
@[simp] theorem State.setOwn_srv (s : State) (u : UnitId) (x : UState) : (State.setOwn s u x).srv = s.srv := id rfl
@[simp] theorem State.setOwn_kv (s : State) (u : UnitId) (x : UState) : (State.setOwn s u x).kv = s.kv := id rfl
@[simp] theorem State.setOwn_sense (s : State) (u : UnitId) (x : UState) : (State.setOwn s u x).sense = s.sense := id rfl
@[simp] theorem State.setOwn_pwr (s : State) (u : UnitId) (x : UState) : (State.setOwn s u x).pwr = s.pwr := id rfl
@[simp] theorem State.setOwn_fab (s : State) (u : UnitId) (x : UState) : (State.setOwn s u x).fab = s.fab := id rfl
@[simp] theorem State.setOwn_latch (s : State) (u : UnitId) (x : UState) : (State.setOwn s u x).latch = s.latch := id rfl
@[simp] theorem State.setOwn_ward (s : State) (u : UnitId) (x : UState) : (State.setOwn s u x).ward = s.ward := id rfl
@[simp] theorem State.setOwn_mem (s : State) (u : UnitId) (x : UState) : (State.setOwn s u x).mem = s.mem := id rfl
@[simp] theorem State.setOwn_boot (s : State) (u : UnitId) (x : UState) : (State.setOwn s u x).boot = s.boot := id rfl
@[simp] theorem State.putPage_pending (s : State) (h : Nat) (p : PageS) : (State.putPage s h p).pending = s.pending := id rfl
@[simp] theorem State.putPage_now (s : State) (h : Nat) (p : PageS) : (State.putPage s h p).now = s.now := id rfl
@[simp] theorem State.putPage_out (s : State) (h : Nat) (p : PageS) : (State.putPage s h p).out = s.out := id rfl
@[simp] theorem State.putPage_free (s : State) (h : Nat) (p : PageS) : (State.putPage s h p).free = s.free := id rfl
@[simp] theorem State.putPage_part (s : State) (h : Nat) (p : PageS) : (State.putPage s h p).part = s.part := id rfl
@[simp] theorem State.putPage_cfg (s : State) (h : Nat) (p : PageS) : (State.putPage s h p).cfg = s.cfg := id rfl
@[simp] theorem State.putPage_waiting (s : State) (h : Nat) (p : PageS) : (State.putPage s h p).waiting = s.waiting := id rfl
@[simp] theorem State.putPage_cnt (s : State) (h : Nat) (p : PageS) : (State.putPage s h p).cnt = s.cnt := id rfl
@[simp] theorem State.putPage_store (s : State) (h : Nat) (p : PageS) : (State.putPage s h p).store = s.store := id rfl
@[simp] theorem State.putPage_beat (s : State) (h : Nat) (p : PageS) : (State.putPage s h p).beat = s.beat := id rfl
@[simp] theorem State.putPage_hier (s : State) (h : Nat) (p : PageS) : (State.putPage s h p).hier = s.hier := id rfl
@[simp] theorem State.putPage_gdp (s : State) (h : Nat) (p : PageS) : (State.putPage s h p).gdp = s.gdp := id rfl
@[simp] theorem State.putPage_funcs (s : State) (h : Nat) (p : PageS) : (State.putPage s h p).funcs = s.funcs := id rfl
@[simp] theorem State.putPage_evt (s : State) (h : Nat) (p : PageS) : (State.putPage s h p).evt = s.evt := id rfl
@[simp] theorem State.putPage_bist (s : State) (h : Nat) (p : PageS) : (State.putPage s h p).bist = s.bist := id rfl
@[simp] theorem State.putPage_eng (s : State) (h : Nat) (p : PageS) : (State.putPage s h p).eng = s.eng := id rfl
@[simp] theorem State.putPage_kpr (s : State) (h : Nat) (p : PageS) : (State.putPage s h p).kpr = s.kpr := id rfl
@[simp] theorem State.putPage_cal (s : State) (h : Nat) (p : PageS) : (State.putPage s h p).cal = s.cal := id rfl
@[simp] theorem State.putPage_slots (s : State) (h : Nat) (p : PageS) : (State.putPage s h p).slots = s.slots := id rfl
@[simp] theorem State.putPage_hostMem (s : State) (h : Nat) (p : PageS) : (State.putPage s h p).hostMem = s.hostMem := id rfl
@[simp] theorem State.putPage_kwMem (s : State) (h : Nat) (p : PageS) : (State.putPage s h p).kwMem = s.kwMem := id rfl
@[simp] theorem State.putPage_srv (s : State) (h : Nat) (p : PageS) : (State.putPage s h p).srv = s.srv := id rfl
@[simp] theorem State.putPage_sense (s : State) (h : Nat) (p : PageS) : (State.putPage s h p).sense = s.sense := id rfl
@[simp] theorem State.putPage_pwr (s : State) (h : Nat) (p : PageS) : (State.putPage s h p).pwr = s.pwr := id rfl
@[simp] theorem State.putPage_fab (s : State) (h : Nat) (p : PageS) : (State.putPage s h p).fab = s.fab := id rfl
@[simp] theorem State.putPage_latch (s : State) (h : Nat) (p : PageS) : (State.putPage s h p).latch = s.latch := id rfl
@[simp] theorem State.putPage_ward (s : State) (h : Nat) (p : PageS) : (State.putPage s h p).ward = s.ward := id rfl
@[simp] theorem State.putPage_mem (s : State) (h : Nat) (p : PageS) : (State.putPage s h p).mem = s.mem := id rfl
@[simp] theorem State.putPage_boot (s : State) (h : Nat) (p : PageS) : (State.putPage s h p).boot = s.boot := id rfl
@[simp] theorem State.putSeq_pending (s : State) (i : Nat) (q : SeqS) : (State.putSeq s i q).pending = s.pending := id rfl
@[simp] theorem State.putSeq_now (s : State) (i : Nat) (q : SeqS) : (State.putSeq s i q).now = s.now := id rfl
@[simp] theorem State.putSeq_out (s : State) (i : Nat) (q : SeqS) : (State.putSeq s i q).out = s.out := id rfl
@[simp] theorem State.putSeq_free (s : State) (i : Nat) (q : SeqS) : (State.putSeq s i q).free = s.free := id rfl
@[simp] theorem State.putSeq_part (s : State) (i : Nat) (q : SeqS) : (State.putSeq s i q).part = s.part := id rfl
@[simp] theorem State.putSeq_cfg (s : State) (i : Nat) (q : SeqS) : (State.putSeq s i q).cfg = s.cfg := id rfl
@[simp] theorem State.putSeq_waiting (s : State) (i : Nat) (q : SeqS) : (State.putSeq s i q).waiting = s.waiting := id rfl
@[simp] theorem State.putSeq_cnt (s : State) (i : Nat) (q : SeqS) : (State.putSeq s i q).cnt = s.cnt := id rfl
@[simp] theorem State.putSeq_store (s : State) (i : Nat) (q : SeqS) : (State.putSeq s i q).store = s.store := id rfl
@[simp] theorem State.putSeq_beat (s : State) (i : Nat) (q : SeqS) : (State.putSeq s i q).beat = s.beat := id rfl
@[simp] theorem State.putSeq_hier (s : State) (i : Nat) (q : SeqS) : (State.putSeq s i q).hier = s.hier := id rfl
@[simp] theorem State.putSeq_gdp (s : State) (i : Nat) (q : SeqS) : (State.putSeq s i q).gdp = s.gdp := id rfl
@[simp] theorem State.putSeq_funcs (s : State) (i : Nat) (q : SeqS) : (State.putSeq s i q).funcs = s.funcs := id rfl
@[simp] theorem State.putSeq_evt (s : State) (i : Nat) (q : SeqS) : (State.putSeq s i q).evt = s.evt := id rfl
@[simp] theorem State.putSeq_bist (s : State) (i : Nat) (q : SeqS) : (State.putSeq s i q).bist = s.bist := id rfl
@[simp] theorem State.putSeq_eng (s : State) (i : Nat) (q : SeqS) : (State.putSeq s i q).eng = s.eng := id rfl
@[simp] theorem State.putSeq_kpr (s : State) (i : Nat) (q : SeqS) : (State.putSeq s i q).kpr = s.kpr := id rfl
@[simp] theorem State.putSeq_cal (s : State) (i : Nat) (q : SeqS) : (State.putSeq s i q).cal = s.cal := id rfl
@[simp] theorem State.putSeq_slots (s : State) (i : Nat) (q : SeqS) : (State.putSeq s i q).slots = s.slots := id rfl
@[simp] theorem State.putSeq_hostMem (s : State) (i : Nat) (q : SeqS) : (State.putSeq s i q).hostMem = s.hostMem := id rfl
@[simp] theorem State.putSeq_kwMem (s : State) (i : Nat) (q : SeqS) : (State.putSeq s i q).kwMem = s.kwMem := id rfl
@[simp] theorem State.putSeq_srv (s : State) (i : Nat) (q : SeqS) : (State.putSeq s i q).srv = s.srv := id rfl
@[simp] theorem State.putSeq_sense (s : State) (i : Nat) (q : SeqS) : (State.putSeq s i q).sense = s.sense := id rfl
@[simp] theorem State.putSeq_pwr (s : State) (i : Nat) (q : SeqS) : (State.putSeq s i q).pwr = s.pwr := id rfl
@[simp] theorem State.putSeq_fab (s : State) (i : Nat) (q : SeqS) : (State.putSeq s i q).fab = s.fab := id rfl
@[simp] theorem State.putSeq_latch (s : State) (i : Nat) (q : SeqS) : (State.putSeq s i q).latch = s.latch := id rfl
@[simp] theorem State.putSeq_ward (s : State) (i : Nat) (q : SeqS) : (State.putSeq s i q).ward = s.ward := id rfl
@[simp] theorem State.putSeq_mem (s : State) (i : Nat) (q : SeqS) : (State.putSeq s i q).mem = s.mem := id rfl
@[simp] theorem State.putSeq_boot (s : State) (i : Nat) (q : SeqS) : (State.putSeq s i q).boot = s.boot := id rfl
@[simp] theorem State.at_pending (s : State) (t : Nat) : (State.at s t).pending = s.pending := id rfl
@[simp] theorem State.at_free (s : State) (t : Nat) : (State.at s t).free = s.free := id rfl
@[simp] theorem State.at_part (s : State) (t : Nat) : (State.at s t).part = s.part := id rfl
@[simp] theorem State.at_cfg (s : State) (t : Nat) : (State.at s t).cfg = s.cfg := id rfl
@[simp] theorem State.at_waiting (s : State) (t : Nat) : (State.at s t).waiting = s.waiting := id rfl
@[simp] theorem State.at_cnt (s : State) (t : Nat) : (State.at s t).cnt = s.cnt := id rfl
@[simp] theorem State.at_store (s : State) (t : Nat) : (State.at s t).store = s.store := id rfl
@[simp] theorem State.at_beat (s : State) (t : Nat) : (State.at s t).beat = s.beat := id rfl
@[simp] theorem State.at_hier (s : State) (t : Nat) : (State.at s t).hier = s.hier := id rfl
@[simp] theorem State.at_gdp (s : State) (t : Nat) : (State.at s t).gdp = s.gdp := id rfl
@[simp] theorem State.at_funcs (s : State) (t : Nat) : (State.at s t).funcs = s.funcs := id rfl
@[simp] theorem State.at_evt (s : State) (t : Nat) : (State.at s t).evt = s.evt := id rfl
@[simp] theorem State.at_bist (s : State) (t : Nat) : (State.at s t).bist = s.bist := id rfl
@[simp] theorem State.at_eng (s : State) (t : Nat) : (State.at s t).eng = s.eng := id rfl
@[simp] theorem State.at_kpr (s : State) (t : Nat) : (State.at s t).kpr = s.kpr := id rfl
@[simp] theorem State.at_cal (s : State) (t : Nat) : (State.at s t).cal = s.cal := id rfl
@[simp] theorem State.at_slots (s : State) (t : Nat) : (State.at s t).slots = s.slots := id rfl
@[simp] theorem State.at_hostMem (s : State) (t : Nat) : (State.at s t).hostMem = s.hostMem := id rfl
@[simp] theorem State.at_kwMem (s : State) (t : Nat) : (State.at s t).kwMem = s.kwMem := id rfl
@[simp] theorem State.at_srv (s : State) (t : Nat) : (State.at s t).srv = s.srv := id rfl
@[simp] theorem State.at_kv (s : State) (t : Nat) : (State.at s t).kv = s.kv := id rfl
@[simp] theorem State.at_sense (s : State) (t : Nat) : (State.at s t).sense = s.sense := id rfl
@[simp] theorem State.at_pwr (s : State) (t : Nat) : (State.at s t).pwr = s.pwr := id rfl
@[simp] theorem State.at_fab (s : State) (t : Nat) : (State.at s t).fab = s.fab := id rfl
@[simp] theorem State.at_latch (s : State) (t : Nat) : (State.at s t).latch = s.latch := id rfl
@[simp] theorem State.at_ward (s : State) (t : Nat) : (State.at s t).ward = s.ward := id rfl
@[simp] theorem State.at_mem (s : State) (t : Nat) : (State.at s t).mem = s.mem := id rfl
@[simp] theorem State.at_boot (s : State) (t : Nat) : (State.at s t).boot = s.boot := id rfl
@[simp] theorem State.dropFlow_pending (s : State) (num : Nat) : (State.dropFlow s num).pending = s.pending := id rfl
@[simp] theorem State.dropFlow_now (s : State) (num : Nat) : (State.dropFlow s num).now = s.now := id rfl
@[simp] theorem State.dropFlow_out (s : State) (num : Nat) : (State.dropFlow s num).out = s.out := id rfl
@[simp] theorem State.dropFlow_free (s : State) (num : Nat) : (State.dropFlow s num).free = s.free := id rfl
@[simp] theorem State.dropFlow_part (s : State) (num : Nat) : (State.dropFlow s num).part = s.part := id rfl
@[simp] theorem State.dropFlow_cfg (s : State) (num : Nat) : (State.dropFlow s num).cfg = s.cfg := id rfl
@[simp] theorem State.dropFlow_waiting (s : State) (num : Nat) : (State.dropFlow s num).waiting = s.waiting := id rfl
@[simp] theorem State.dropFlow_cnt (s : State) (num : Nat) : (State.dropFlow s num).cnt = s.cnt := id rfl
@[simp] theorem State.dropFlow_store (s : State) (num : Nat) : (State.dropFlow s num).store = s.store := id rfl
@[simp] theorem State.dropFlow_beat (s : State) (num : Nat) : (State.dropFlow s num).beat = s.beat := id rfl
@[simp] theorem State.dropFlow_hier (s : State) (num : Nat) : (State.dropFlow s num).hier = s.hier := id rfl
@[simp] theorem State.dropFlow_gdp (s : State) (num : Nat) : (State.dropFlow s num).gdp = s.gdp := id rfl
@[simp] theorem State.dropFlow_funcs (s : State) (num : Nat) : (State.dropFlow s num).funcs = s.funcs := id rfl
@[simp] theorem State.dropFlow_evt (s : State) (num : Nat) : (State.dropFlow s num).evt = s.evt := id rfl
@[simp] theorem State.dropFlow_bist (s : State) (num : Nat) : (State.dropFlow s num).bist = s.bist := id rfl
@[simp] theorem State.dropFlow_eng (s : State) (num : Nat) : (State.dropFlow s num).eng = s.eng := id rfl
@[simp] theorem State.dropFlow_kpr (s : State) (num : Nat) : (State.dropFlow s num).kpr = s.kpr := id rfl
@[simp] theorem State.dropFlow_cal (s : State) (num : Nat) : (State.dropFlow s num).cal = s.cal := id rfl
@[simp] theorem State.dropFlow_slots (s : State) (num : Nat) : (State.dropFlow s num).slots = s.slots := id rfl
@[simp] theorem State.dropFlow_hostMem (s : State) (num : Nat) : (State.dropFlow s num).hostMem = s.hostMem := id rfl
@[simp] theorem State.dropFlow_kwMem (s : State) (num : Nat) : (State.dropFlow s num).kwMem = s.kwMem := id rfl
@[simp] theorem State.dropFlow_srv (s : State) (num : Nat) : (State.dropFlow s num).srv = s.srv := id rfl
@[simp] theorem State.dropFlow_kv (s : State) (num : Nat) : (State.dropFlow s num).kv = s.kv := id rfl
@[simp] theorem State.dropFlow_sense (s : State) (num : Nat) : (State.dropFlow s num).sense = s.sense := id rfl
@[simp] theorem State.dropFlow_pwr (s : State) (num : Nat) : (State.dropFlow s num).pwr = s.pwr := id rfl
@[simp] theorem State.dropFlow_latch (s : State) (num : Nat) : (State.dropFlow s num).latch = s.latch := id rfl
@[simp] theorem State.dropFlow_ward (s : State) (num : Nat) : (State.dropFlow s num).ward = s.ward := id rfl
@[simp] theorem State.dropFlow_mem (s : State) (num : Nat) : (State.dropFlow s num).mem = s.mem := id rfl
@[simp] theorem State.dropFlow_boot (s : State) (num : Nat) : (State.dropFlow s num).boot = s.boot := id rfl
@[simp] theorem State.mapFlow_pending (s : State) (num : Nat) (g : Flow → Flow) : (State.mapFlow s num g).pending = s.pending := id rfl
@[simp] theorem State.mapFlow_now (s : State) (num : Nat) (g : Flow → Flow) : (State.mapFlow s num g).now = s.now := id rfl
@[simp] theorem State.mapFlow_out (s : State) (num : Nat) (g : Flow → Flow) : (State.mapFlow s num g).out = s.out := id rfl
@[simp] theorem State.mapFlow_free (s : State) (num : Nat) (g : Flow → Flow) : (State.mapFlow s num g).free = s.free := id rfl
@[simp] theorem State.mapFlow_part (s : State) (num : Nat) (g : Flow → Flow) : (State.mapFlow s num g).part = s.part := id rfl
@[simp] theorem State.mapFlow_cfg (s : State) (num : Nat) (g : Flow → Flow) : (State.mapFlow s num g).cfg = s.cfg := id rfl
@[simp] theorem State.mapFlow_waiting (s : State) (num : Nat) (g : Flow → Flow) : (State.mapFlow s num g).waiting = s.waiting := id rfl
@[simp] theorem State.mapFlow_cnt (s : State) (num : Nat) (g : Flow → Flow) : (State.mapFlow s num g).cnt = s.cnt := id rfl
@[simp] theorem State.mapFlow_store (s : State) (num : Nat) (g : Flow → Flow) : (State.mapFlow s num g).store = s.store := id rfl
@[simp] theorem State.mapFlow_beat (s : State) (num : Nat) (g : Flow → Flow) : (State.mapFlow s num g).beat = s.beat := id rfl
@[simp] theorem State.mapFlow_hier (s : State) (num : Nat) (g : Flow → Flow) : (State.mapFlow s num g).hier = s.hier := id rfl
@[simp] theorem State.mapFlow_gdp (s : State) (num : Nat) (g : Flow → Flow) : (State.mapFlow s num g).gdp = s.gdp := id rfl
@[simp] theorem State.mapFlow_funcs (s : State) (num : Nat) (g : Flow → Flow) : (State.mapFlow s num g).funcs = s.funcs := id rfl
@[simp] theorem State.mapFlow_evt (s : State) (num : Nat) (g : Flow → Flow) : (State.mapFlow s num g).evt = s.evt := id rfl
@[simp] theorem State.mapFlow_bist (s : State) (num : Nat) (g : Flow → Flow) : (State.mapFlow s num g).bist = s.bist := id rfl
@[simp] theorem State.mapFlow_eng (s : State) (num : Nat) (g : Flow → Flow) : (State.mapFlow s num g).eng = s.eng := id rfl
@[simp] theorem State.mapFlow_kpr (s : State) (num : Nat) (g : Flow → Flow) : (State.mapFlow s num g).kpr = s.kpr := id rfl
@[simp] theorem State.mapFlow_cal (s : State) (num : Nat) (g : Flow → Flow) : (State.mapFlow s num g).cal = s.cal := id rfl
@[simp] theorem State.mapFlow_slots (s : State) (num : Nat) (g : Flow → Flow) : (State.mapFlow s num g).slots = s.slots := id rfl
@[simp] theorem State.mapFlow_hostMem (s : State) (num : Nat) (g : Flow → Flow) : (State.mapFlow s num g).hostMem = s.hostMem := id rfl
@[simp] theorem State.mapFlow_kwMem (s : State) (num : Nat) (g : Flow → Flow) : (State.mapFlow s num g).kwMem = s.kwMem := id rfl
@[simp] theorem State.mapFlow_srv (s : State) (num : Nat) (g : Flow → Flow) : (State.mapFlow s num g).srv = s.srv := id rfl
@[simp] theorem State.mapFlow_kv (s : State) (num : Nat) (g : Flow → Flow) : (State.mapFlow s num g).kv = s.kv := id rfl
@[simp] theorem State.mapFlow_sense (s : State) (num : Nat) (g : Flow → Flow) : (State.mapFlow s num g).sense = s.sense := id rfl
@[simp] theorem State.mapFlow_pwr (s : State) (num : Nat) (g : Flow → Flow) : (State.mapFlow s num g).pwr = s.pwr := id rfl
@[simp] theorem State.mapFlow_latch (s : State) (num : Nat) (g : Flow → Flow) : (State.mapFlow s num g).latch = s.latch := id rfl
@[simp] theorem State.mapFlow_ward (s : State) (num : Nat) (g : Flow → Flow) : (State.mapFlow s num g).ward = s.ward := id rfl
@[simp] theorem State.mapFlow_mem (s : State) (num : Nat) (g : Flow → Flow) : (State.mapFlow s num g).mem = s.mem := id rfl
@[simp] theorem State.mapFlow_boot (s : State) (num : Nat) (g : Flow → Flow) : (State.mapFlow s num g).boot = s.boot := id rfl
@[simp] theorem State.changeTier_pending (s : State) (eng : Nat) (tier : Nat) (x : TierS) : (State.changeTier s eng tier x).pending = s.pending := id rfl
@[simp] theorem State.changeTier_now (s : State) (eng : Nat) (tier : Nat) (x : TierS) : (State.changeTier s eng tier x).now = s.now := id rfl
@[simp] theorem State.changeTier_out (s : State) (eng : Nat) (tier : Nat) (x : TierS) : (State.changeTier s eng tier x).out = s.out := id rfl
@[simp] theorem State.changeTier_free (s : State) (eng : Nat) (tier : Nat) (x : TierS) : (State.changeTier s eng tier x).free = s.free := id rfl
@[simp] theorem State.changeTier_part (s : State) (eng : Nat) (tier : Nat) (x : TierS) : (State.changeTier s eng tier x).part = s.part := id rfl
@[simp] theorem State.changeTier_cfg (s : State) (eng : Nat) (tier : Nat) (x : TierS) : (State.changeTier s eng tier x).cfg = s.cfg := id rfl
@[simp] theorem State.changeTier_waiting (s : State) (eng : Nat) (tier : Nat) (x : TierS) : (State.changeTier s eng tier x).waiting = s.waiting := id rfl
@[simp] theorem State.changeTier_cnt (s : State) (eng : Nat) (tier : Nat) (x : TierS) : (State.changeTier s eng tier x).cnt = s.cnt := id rfl
@[simp] theorem State.changeTier_store (s : State) (eng : Nat) (tier : Nat) (x : TierS) : (State.changeTier s eng tier x).store = s.store := id rfl
@[simp] theorem State.changeTier_beat (s : State) (eng : Nat) (tier : Nat) (x : TierS) : (State.changeTier s eng tier x).beat = s.beat := id rfl
@[simp] theorem State.changeTier_hier (s : State) (eng : Nat) (tier : Nat) (x : TierS) : (State.changeTier s eng tier x).hier = s.hier := id rfl
@[simp] theorem State.changeTier_gdp (s : State) (eng : Nat) (tier : Nat) (x : TierS) : (State.changeTier s eng tier x).gdp = s.gdp := id rfl
@[simp] theorem State.changeTier_funcs (s : State) (eng : Nat) (tier : Nat) (x : TierS) : (State.changeTier s eng tier x).funcs = s.funcs := id rfl
@[simp] theorem State.changeTier_evt (s : State) (eng : Nat) (tier : Nat) (x : TierS) : (State.changeTier s eng tier x).evt = s.evt := id rfl
@[simp] theorem State.changeTier_bist (s : State) (eng : Nat) (tier : Nat) (x : TierS) : (State.changeTier s eng tier x).bist = s.bist := id rfl
@[simp] theorem State.changeTier_kpr (s : State) (eng : Nat) (tier : Nat) (x : TierS) : (State.changeTier s eng tier x).kpr = s.kpr := id rfl
@[simp] theorem State.changeTier_cal (s : State) (eng : Nat) (tier : Nat) (x : TierS) : (State.changeTier s eng tier x).cal = s.cal := id rfl
@[simp] theorem State.changeTier_slots (s : State) (eng : Nat) (tier : Nat) (x : TierS) : (State.changeTier s eng tier x).slots = s.slots := id rfl
@[simp] theorem State.changeTier_hostMem (s : State) (eng : Nat) (tier : Nat) (x : TierS) : (State.changeTier s eng tier x).hostMem = s.hostMem := id rfl
@[simp] theorem State.changeTier_kwMem (s : State) (eng : Nat) (tier : Nat) (x : TierS) : (State.changeTier s eng tier x).kwMem = s.kwMem := id rfl
@[simp] theorem State.changeTier_srv (s : State) (eng : Nat) (tier : Nat) (x : TierS) : (State.changeTier s eng tier x).srv = s.srv := id rfl
@[simp] theorem State.changeTier_kv (s : State) (eng : Nat) (tier : Nat) (x : TierS) : (State.changeTier s eng tier x).kv = s.kv := id rfl
@[simp] theorem State.changeTier_sense (s : State) (eng : Nat) (tier : Nat) (x : TierS) : (State.changeTier s eng tier x).sense = s.sense := id rfl
@[simp] theorem State.changeTier_pwr (s : State) (eng : Nat) (tier : Nat) (x : TierS) : (State.changeTier s eng tier x).pwr = s.pwr := id rfl
@[simp] theorem State.changeTier_fab (s : State) (eng : Nat) (tier : Nat) (x : TierS) : (State.changeTier s eng tier x).fab = s.fab := id rfl
@[simp] theorem State.changeTier_latch (s : State) (eng : Nat) (tier : Nat) (x : TierS) : (State.changeTier s eng tier x).latch = s.latch := id rfl
@[simp] theorem State.changeTier_ward (s : State) (eng : Nat) (tier : Nat) (x : TierS) : (State.changeTier s eng tier x).ward = s.ward := id rfl
@[simp] theorem State.changeTier_mem (s : State) (eng : Nat) (tier : Nat) (x : TierS) : (State.changeTier s eng tier x).mem = s.mem := id rfl
@[simp] theorem State.changeTier_boot (s : State) (eng : Nat) (tier : Nat) (x : TierS) : (State.changeTier s eng tier x).boot = s.boot := id rfl
@[simp] theorem State.memGive_pending (s : State) (kw : Nat) (bytes : Nat) : (State.memGive s kw bytes).pending = s.pending := id rfl
@[simp] theorem State.memGive_now (s : State) (kw : Nat) (bytes : Nat) : (State.memGive s kw bytes).now = s.now := id rfl
@[simp] theorem State.memGive_out (s : State) (kw : Nat) (bytes : Nat) : (State.memGive s kw bytes).out = s.out := id rfl
@[simp] theorem State.memGive_free (s : State) (kw : Nat) (bytes : Nat) : (State.memGive s kw bytes).free = s.free := id rfl
@[simp] theorem State.memGive_part (s : State) (kw : Nat) (bytes : Nat) : (State.memGive s kw bytes).part = s.part := id rfl
@[simp] theorem State.memGive_cfg (s : State) (kw : Nat) (bytes : Nat) : (State.memGive s kw bytes).cfg = s.cfg := id rfl
@[simp] theorem State.memGive_waiting (s : State) (kw : Nat) (bytes : Nat) : (State.memGive s kw bytes).waiting = s.waiting := id rfl
@[simp] theorem State.memGive_cnt (s : State) (kw : Nat) (bytes : Nat) : (State.memGive s kw bytes).cnt = s.cnt := id rfl
@[simp] theorem State.memGive_store (s : State) (kw : Nat) (bytes : Nat) : (State.memGive s kw bytes).store = s.store := id rfl
@[simp] theorem State.memGive_beat (s : State) (kw : Nat) (bytes : Nat) : (State.memGive s kw bytes).beat = s.beat := id rfl
@[simp] theorem State.memGive_hier (s : State) (kw : Nat) (bytes : Nat) : (State.memGive s kw bytes).hier = s.hier := id rfl
@[simp] theorem State.memGive_gdp (s : State) (kw : Nat) (bytes : Nat) : (State.memGive s kw bytes).gdp = s.gdp := id rfl
@[simp] theorem State.memGive_funcs (s : State) (kw : Nat) (bytes : Nat) : (State.memGive s kw bytes).funcs = s.funcs := id rfl
@[simp] theorem State.memGive_evt (s : State) (kw : Nat) (bytes : Nat) : (State.memGive s kw bytes).evt = s.evt := id rfl
@[simp] theorem State.memGive_bist (s : State) (kw : Nat) (bytes : Nat) : (State.memGive s kw bytes).bist = s.bist := id rfl
@[simp] theorem State.memGive_eng (s : State) (kw : Nat) (bytes : Nat) : (State.memGive s kw bytes).eng = s.eng := id rfl
@[simp] theorem State.memGive_kpr (s : State) (kw : Nat) (bytes : Nat) : (State.memGive s kw bytes).kpr = s.kpr := id rfl
@[simp] theorem State.memGive_cal (s : State) (kw : Nat) (bytes : Nat) : (State.memGive s kw bytes).cal = s.cal := id rfl
@[simp] theorem State.memGive_slots (s : State) (kw : Nat) (bytes : Nat) : (State.memGive s kw bytes).slots = s.slots := id rfl
@[simp] theorem State.memGive_hostMem (s : State) (kw : Nat) (bytes : Nat) : (State.memGive s kw bytes).hostMem = s.hostMem := id rfl
@[simp] theorem State.memGive_kwMem (s : State) (kw : Nat) (bytes : Nat) : (State.memGive s kw bytes).kwMem = s.kwMem := id rfl
@[simp] theorem State.memGive_srv (s : State) (kw : Nat) (bytes : Nat) : (State.memGive s kw bytes).srv = s.srv := id rfl
@[simp] theorem State.memGive_kv (s : State) (kw : Nat) (bytes : Nat) : (State.memGive s kw bytes).kv = s.kv := id rfl
@[simp] theorem State.memGive_sense (s : State) (kw : Nat) (bytes : Nat) : (State.memGive s kw bytes).sense = s.sense := id rfl
@[simp] theorem State.memGive_pwr (s : State) (kw : Nat) (bytes : Nat) : (State.memGive s kw bytes).pwr = s.pwr := id rfl
@[simp] theorem State.memGive_fab (s : State) (kw : Nat) (bytes : Nat) : (State.memGive s kw bytes).fab = s.fab := id rfl
@[simp] theorem State.memGive_latch (s : State) (kw : Nat) (bytes : Nat) : (State.memGive s kw bytes).latch = s.latch := id rfl
@[simp] theorem State.memGive_ward (s : State) (kw : Nat) (bytes : Nat) : (State.memGive s kw bytes).ward = s.ward := id rfl
@[simp] theorem State.memGive_boot (s : State) (kw : Nat) (bytes : Nat) : (State.memGive s kw bytes).boot = s.boot := id rfl
@[simp] theorem State.putRing_pending (s : State) (fn : Nat) (r : RingS) : (State.putRing s fn r).pending = s.pending := id rfl
@[simp] theorem State.putRing_now (s : State) (fn : Nat) (r : RingS) : (State.putRing s fn r).now = s.now := id rfl
@[simp] theorem State.putRing_out (s : State) (fn : Nat) (r : RingS) : (State.putRing s fn r).out = s.out := id rfl
@[simp] theorem State.putRing_free (s : State) (fn : Nat) (r : RingS) : (State.putRing s fn r).free = s.free := id rfl
@[simp] theorem State.putRing_part (s : State) (fn : Nat) (r : RingS) : (State.putRing s fn r).part = s.part := id rfl
@[simp] theorem State.putRing_cfg (s : State) (fn : Nat) (r : RingS) : (State.putRing s fn r).cfg = s.cfg := id rfl
@[simp] theorem State.putRing_waiting (s : State) (fn : Nat) (r : RingS) : (State.putRing s fn r).waiting = s.waiting := id rfl
@[simp] theorem State.putRing_cnt (s : State) (fn : Nat) (r : RingS) : (State.putRing s fn r).cnt = s.cnt := id rfl
@[simp] theorem State.putRing_store (s : State) (fn : Nat) (r : RingS) : (State.putRing s fn r).store = s.store := id rfl
@[simp] theorem State.putRing_beat (s : State) (fn : Nat) (r : RingS) : (State.putRing s fn r).beat = s.beat := id rfl
@[simp] theorem State.putRing_hier (s : State) (fn : Nat) (r : RingS) : (State.putRing s fn r).hier = s.hier := id rfl
@[simp] theorem State.putRing_gdp (s : State) (fn : Nat) (r : RingS) : (State.putRing s fn r).gdp = s.gdp := id rfl
@[simp] theorem State.putRing_funcs (s : State) (fn : Nat) (r : RingS) : (State.putRing s fn r).funcs = s.funcs := id rfl
@[simp] theorem State.putRing_evt (s : State) (fn : Nat) (r : RingS) : (State.putRing s fn r).evt = s.evt := id rfl
@[simp] theorem State.putRing_bist (s : State) (fn : Nat) (r : RingS) : (State.putRing s fn r).bist = s.bist := id rfl
@[simp] theorem State.putRing_eng (s : State) (fn : Nat) (r : RingS) : (State.putRing s fn r).eng = s.eng := id rfl
@[simp] theorem State.putRing_kpr (s : State) (fn : Nat) (r : RingS) : (State.putRing s fn r).kpr = s.kpr := id rfl
@[simp] theorem State.putRing_cal (s : State) (fn : Nat) (r : RingS) : (State.putRing s fn r).cal = s.cal := id rfl
@[simp] theorem State.putRing_hostMem (s : State) (fn : Nat) (r : RingS) : (State.putRing s fn r).hostMem = s.hostMem := id rfl
@[simp] theorem State.putRing_kwMem (s : State) (fn : Nat) (r : RingS) : (State.putRing s fn r).kwMem = s.kwMem := id rfl
@[simp] theorem State.putRing_srv (s : State) (fn : Nat) (r : RingS) : (State.putRing s fn r).srv = s.srv := id rfl
@[simp] theorem State.putRing_kv (s : State) (fn : Nat) (r : RingS) : (State.putRing s fn r).kv = s.kv := id rfl
@[simp] theorem State.putRing_sense (s : State) (fn : Nat) (r : RingS) : (State.putRing s fn r).sense = s.sense := id rfl
@[simp] theorem State.putRing_pwr (s : State) (fn : Nat) (r : RingS) : (State.putRing s fn r).pwr = s.pwr := id rfl
@[simp] theorem State.putRing_fab (s : State) (fn : Nat) (r : RingS) : (State.putRing s fn r).fab = s.fab := id rfl
@[simp] theorem State.putRing_latch (s : State) (fn : Nat) (r : RingS) : (State.putRing s fn r).latch = s.latch := id rfl
@[simp] theorem State.putRing_ward (s : State) (fn : Nat) (r : RingS) : (State.putRing s fn r).ward = s.ward := id rfl
@[simp] theorem State.putRing_mem (s : State) (fn : Nat) (r : RingS) : (State.putRing s fn r).mem = s.mem := id rfl
@[simp] theorem State.putRing_boot (s : State) (fn : Nat) (r : RingS) : (State.putRing s fn r).boot = s.boot := id rfl
@[simp] theorem State.mapReq_pending (s : State) (n : Nat) (version : Nat) (index : Nat) (f : ShardReq → ShardReq) : (State.mapReq s n version index f).pending = s.pending := id rfl
@[simp] theorem State.mapReq_now (s : State) (n : Nat) (version : Nat) (index : Nat) (f : ShardReq → ShardReq) : (State.mapReq s n version index f).now = s.now := id rfl
@[simp] theorem State.mapReq_out (s : State) (n : Nat) (version : Nat) (index : Nat) (f : ShardReq → ShardReq) : (State.mapReq s n version index f).out = s.out := id rfl
@[simp] theorem State.mapReq_free (s : State) (n : Nat) (version : Nat) (index : Nat) (f : ShardReq → ShardReq) : (State.mapReq s n version index f).free = s.free := id rfl
@[simp] theorem State.mapReq_part (s : State) (n : Nat) (version : Nat) (index : Nat) (f : ShardReq → ShardReq) : (State.mapReq s n version index f).part = s.part := id rfl
@[simp] theorem State.mapReq_cfg (s : State) (n : Nat) (version : Nat) (index : Nat) (f : ShardReq → ShardReq) : (State.mapReq s n version index f).cfg = s.cfg := id rfl
@[simp] theorem State.mapReq_waiting (s : State) (n : Nat) (version : Nat) (index : Nat) (f : ShardReq → ShardReq) : (State.mapReq s n version index f).waiting = s.waiting := id rfl
@[simp] theorem State.mapReq_cnt (s : State) (n : Nat) (version : Nat) (index : Nat) (f : ShardReq → ShardReq) : (State.mapReq s n version index f).cnt = s.cnt := id rfl
@[simp] theorem State.mapReq_store (s : State) (n : Nat) (version : Nat) (index : Nat) (f : ShardReq → ShardReq) : (State.mapReq s n version index f).store = s.store := id rfl
@[simp] theorem State.mapReq_beat (s : State) (n : Nat) (version : Nat) (index : Nat) (f : ShardReq → ShardReq) : (State.mapReq s n version index f).beat = s.beat := id rfl
@[simp] theorem State.mapReq_hier (s : State) (n : Nat) (version : Nat) (index : Nat) (f : ShardReq → ShardReq) : (State.mapReq s n version index f).hier = s.hier := id rfl
@[simp] theorem State.mapReq_gdp (s : State) (n : Nat) (version : Nat) (index : Nat) (f : ShardReq → ShardReq) : (State.mapReq s n version index f).gdp = s.gdp := id rfl
@[simp] theorem State.mapReq_funcs (s : State) (n : Nat) (version : Nat) (index : Nat) (f : ShardReq → ShardReq) : (State.mapReq s n version index f).funcs = s.funcs := id rfl
@[simp] theorem State.mapReq_evt (s : State) (n : Nat) (version : Nat) (index : Nat) (f : ShardReq → ShardReq) : (State.mapReq s n version index f).evt = s.evt := id rfl
@[simp] theorem State.mapReq_bist (s : State) (n : Nat) (version : Nat) (index : Nat) (f : ShardReq → ShardReq) : (State.mapReq s n version index f).bist = s.bist := id rfl
@[simp] theorem State.mapReq_eng (s : State) (n : Nat) (version : Nat) (index : Nat) (f : ShardReq → ShardReq) : (State.mapReq s n version index f).eng = s.eng := id rfl
@[simp] theorem State.mapReq_kpr (s : State) (n : Nat) (version : Nat) (index : Nat) (f : ShardReq → ShardReq) : (State.mapReq s n version index f).kpr = s.kpr := id rfl
@[simp] theorem State.mapReq_cal (s : State) (n : Nat) (version : Nat) (index : Nat) (f : ShardReq → ShardReq) : (State.mapReq s n version index f).cal = s.cal := id rfl
@[simp] theorem State.mapReq_hostMem (s : State) (n : Nat) (version : Nat) (index : Nat) (f : ShardReq → ShardReq) : (State.mapReq s n version index f).hostMem = s.hostMem := id rfl
@[simp] theorem State.mapReq_kwMem (s : State) (n : Nat) (version : Nat) (index : Nat) (f : ShardReq → ShardReq) : (State.mapReq s n version index f).kwMem = s.kwMem := id rfl
@[simp] theorem State.mapReq_srv (s : State) (n : Nat) (version : Nat) (index : Nat) (f : ShardReq → ShardReq) : (State.mapReq s n version index f).srv = s.srv := id rfl
@[simp] theorem State.mapReq_kv (s : State) (n : Nat) (version : Nat) (index : Nat) (f : ShardReq → ShardReq) : (State.mapReq s n version index f).kv = s.kv := id rfl
@[simp] theorem State.mapReq_sense (s : State) (n : Nat) (version : Nat) (index : Nat) (f : ShardReq → ShardReq) : (State.mapReq s n version index f).sense = s.sense := id rfl
@[simp] theorem State.mapReq_pwr (s : State) (n : Nat) (version : Nat) (index : Nat) (f : ShardReq → ShardReq) : (State.mapReq s n version index f).pwr = s.pwr := id rfl
@[simp] theorem State.mapReq_fab (s : State) (n : Nat) (version : Nat) (index : Nat) (f : ShardReq → ShardReq) : (State.mapReq s n version index f).fab = s.fab := id rfl
@[simp] theorem State.mapReq_latch (s : State) (n : Nat) (version : Nat) (index : Nat) (f : ShardReq → ShardReq) : (State.mapReq s n version index f).latch = s.latch := id rfl
@[simp] theorem State.mapReq_ward (s : State) (n : Nat) (version : Nat) (index : Nat) (f : ShardReq → ShardReq) : (State.mapReq s n version index f).ward = s.ward := id rfl
@[simp] theorem State.mapReq_mem (s : State) (n : Nat) (version : Nat) (index : Nat) (f : ShardReq → ShardReq) : (State.mapReq s n version index f).mem = s.mem := id rfl
@[simp] theorem State.mapReq_boot (s : State) (n : Nat) (version : Nat) (index : Nat) (f : ShardReq → ShardReq) : (State.mapReq s n version index f).boot = s.boot := id rfl
@[simp] theorem State.mapVer_pending (s : State) (n : Nat) (w : Which) (f : Version → Version) : (State.mapVer s n w f).pending = s.pending := id rfl
@[simp] theorem State.mapVer_now (s : State) (n : Nat) (w : Which) (f : Version → Version) : (State.mapVer s n w f).now = s.now := id rfl
@[simp] theorem State.mapVer_out (s : State) (n : Nat) (w : Which) (f : Version → Version) : (State.mapVer s n w f).out = s.out := id rfl
@[simp] theorem State.mapVer_free (s : State) (n : Nat) (w : Which) (f : Version → Version) : (State.mapVer s n w f).free = s.free := id rfl
@[simp] theorem State.mapVer_part (s : State) (n : Nat) (w : Which) (f : Version → Version) : (State.mapVer s n w f).part = s.part := id rfl
@[simp] theorem State.mapVer_cfg (s : State) (n : Nat) (w : Which) (f : Version → Version) : (State.mapVer s n w f).cfg = s.cfg := id rfl
@[simp] theorem State.mapVer_waiting (s : State) (n : Nat) (w : Which) (f : Version → Version) : (State.mapVer s n w f).waiting = s.waiting := id rfl
@[simp] theorem State.mapVer_cnt (s : State) (n : Nat) (w : Which) (f : Version → Version) : (State.mapVer s n w f).cnt = s.cnt := id rfl
@[simp] theorem State.mapVer_store (s : State) (n : Nat) (w : Which) (f : Version → Version) : (State.mapVer s n w f).store = s.store := id rfl
@[simp] theorem State.mapVer_beat (s : State) (n : Nat) (w : Which) (f : Version → Version) : (State.mapVer s n w f).beat = s.beat := id rfl
@[simp] theorem State.mapVer_hier (s : State) (n : Nat) (w : Which) (f : Version → Version) : (State.mapVer s n w f).hier = s.hier := id rfl
@[simp] theorem State.mapVer_gdp (s : State) (n : Nat) (w : Which) (f : Version → Version) : (State.mapVer s n w f).gdp = s.gdp := id rfl
@[simp] theorem State.mapVer_funcs (s : State) (n : Nat) (w : Which) (f : Version → Version) : (State.mapVer s n w f).funcs = s.funcs := id rfl
@[simp] theorem State.mapVer_evt (s : State) (n : Nat) (w : Which) (f : Version → Version) : (State.mapVer s n w f).evt = s.evt := id rfl
@[simp] theorem State.mapVer_bist (s : State) (n : Nat) (w : Which) (f : Version → Version) : (State.mapVer s n w f).bist = s.bist := id rfl
@[simp] theorem State.mapVer_eng (s : State) (n : Nat) (w : Which) (f : Version → Version) : (State.mapVer s n w f).eng = s.eng := id rfl
@[simp] theorem State.mapVer_kpr (s : State) (n : Nat) (w : Which) (f : Version → Version) : (State.mapVer s n w f).kpr = s.kpr := id rfl
@[simp] theorem State.mapVer_cal (s : State) (n : Nat) (w : Which) (f : Version → Version) : (State.mapVer s n w f).cal = s.cal := id rfl
@[simp] theorem State.mapVer_hostMem (s : State) (n : Nat) (w : Which) (f : Version → Version) : (State.mapVer s n w f).hostMem = s.hostMem := id rfl
@[simp] theorem State.mapVer_kwMem (s : State) (n : Nat) (w : Which) (f : Version → Version) : (State.mapVer s n w f).kwMem = s.kwMem := id rfl
@[simp] theorem State.mapVer_srv (s : State) (n : Nat) (w : Which) (f : Version → Version) : (State.mapVer s n w f).srv = s.srv := id rfl
@[simp] theorem State.mapVer_kv (s : State) (n : Nat) (w : Which) (f : Version → Version) : (State.mapVer s n w f).kv = s.kv := id rfl
@[simp] theorem State.mapVer_sense (s : State) (n : Nat) (w : Which) (f : Version → Version) : (State.mapVer s n w f).sense = s.sense := id rfl
@[simp] theorem State.mapVer_pwr (s : State) (n : Nat) (w : Which) (f : Version → Version) : (State.mapVer s n w f).pwr = s.pwr := id rfl
@[simp] theorem State.mapVer_fab (s : State) (n : Nat) (w : Which) (f : Version → Version) : (State.mapVer s n w f).fab = s.fab := id rfl
@[simp] theorem State.mapVer_latch (s : State) (n : Nat) (w : Which) (f : Version → Version) : (State.mapVer s n w f).latch = s.latch := id rfl
@[simp] theorem State.mapVer_ward (s : State) (n : Nat) (w : Which) (f : Version → Version) : (State.mapVer s n w f).ward = s.ward := id rfl
@[simp] theorem State.mapVer_mem (s : State) (n : Nat) (w : Which) (f : Version → Version) : (State.mapVer s n w f).mem = s.mem := id rfl
@[simp] theorem State.mapVer_boot (s : State) (n : Nat) (w : Which) (f : Version → Version) : (State.mapVer s n w f).boot = s.boot := id rfl
@[simp] theorem State.putCal_pending (s : State) (c : SysCal) : (State.putCal s c).pending = s.pending := id rfl
@[simp] theorem State.putCal_now (s : State) (c : SysCal) : (State.putCal s c).now = s.now := id rfl
@[simp] theorem State.putCal_out (s : State) (c : SysCal) : (State.putCal s c).out = s.out := id rfl
@[simp] theorem State.putCal_free (s : State) (c : SysCal) : (State.putCal s c).free = s.free := id rfl
@[simp] theorem State.putCal_part (s : State) (c : SysCal) : (State.putCal s c).part = s.part := id rfl
@[simp] theorem State.putCal_cfg (s : State) (c : SysCal) : (State.putCal s c).cfg = s.cfg := id rfl
@[simp] theorem State.putCal_waiting (s : State) (c : SysCal) : (State.putCal s c).waiting = s.waiting := id rfl
@[simp] theorem State.putCal_cnt (s : State) (c : SysCal) : (State.putCal s c).cnt = s.cnt := id rfl
@[simp] theorem State.putCal_store (s : State) (c : SysCal) : (State.putCal s c).store = s.store := id rfl
@[simp] theorem State.putCal_beat (s : State) (c : SysCal) : (State.putCal s c).beat = s.beat := id rfl
@[simp] theorem State.putCal_hier (s : State) (c : SysCal) : (State.putCal s c).hier = s.hier := id rfl
@[simp] theorem State.putCal_gdp (s : State) (c : SysCal) : (State.putCal s c).gdp = s.gdp := id rfl
@[simp] theorem State.putCal_funcs (s : State) (c : SysCal) : (State.putCal s c).funcs = s.funcs := id rfl
@[simp] theorem State.putCal_evt (s : State) (c : SysCal) : (State.putCal s c).evt = s.evt := id rfl
@[simp] theorem State.putCal_bist (s : State) (c : SysCal) : (State.putCal s c).bist = s.bist := id rfl
@[simp] theorem State.putCal_eng (s : State) (c : SysCal) : (State.putCal s c).eng = s.eng := id rfl
@[simp] theorem State.putCal_kpr (s : State) (c : SysCal) : (State.putCal s c).kpr = s.kpr := id rfl
@[simp] theorem State.putCal_cal (s : State) (c : SysCal) : (State.putCal s c).cal = s.cal := id rfl
@[simp] theorem State.putCal_slots (s : State) (c : SysCal) : (State.putCal s c).slots = s.slots := id rfl
@[simp] theorem State.putCal_hostMem (s : State) (c : SysCal) : (State.putCal s c).hostMem = s.hostMem := id rfl
@[simp] theorem State.putCal_kwMem (s : State) (c : SysCal) : (State.putCal s c).kwMem = s.kwMem := id rfl
@[simp] theorem State.putCal_srv (s : State) (c : SysCal) : (State.putCal s c).srv = s.srv := id rfl
@[simp] theorem State.putCal_kv (s : State) (c : SysCal) : (State.putCal s c).kv = s.kv := id rfl
@[simp] theorem State.putCal_pwr (s : State) (c : SysCal) : (State.putCal s c).pwr = s.pwr := id rfl
@[simp] theorem State.putCal_fab (s : State) (c : SysCal) : (State.putCal s c).fab = s.fab := id rfl
@[simp] theorem State.putCal_latch (s : State) (c : SysCal) : (State.putCal s c).latch = s.latch := id rfl
@[simp] theorem State.putCal_ward (s : State) (c : SysCal) : (State.putCal s c).ward = s.ward := id rfl
@[simp] theorem State.putCal_mem (s : State) (c : SysCal) : (State.putCal s c).mem = s.mem := id rfl
@[simp] theorem State.putCal_boot (s : State) (c : SysCal) : (State.putCal s c).boot = s.boot := id rfl
@[simp] theorem State.setBoot_pending (s : State) (f : BootS → BootS) : (State.setBoot s f).pending = s.pending := id rfl
@[simp] theorem State.setBoot_now (s : State) (f : BootS → BootS) : (State.setBoot s f).now = s.now := id rfl
@[simp] theorem State.setBoot_out (s : State) (f : BootS → BootS) : (State.setBoot s f).out = s.out := id rfl
@[simp] theorem State.setBoot_free (s : State) (f : BootS → BootS) : (State.setBoot s f).free = s.free := id rfl
@[simp] theorem State.setBoot_part (s : State) (f : BootS → BootS) : (State.setBoot s f).part = s.part := id rfl
@[simp] theorem State.setBoot_cfg (s : State) (f : BootS → BootS) : (State.setBoot s f).cfg = s.cfg := id rfl
@[simp] theorem State.setBoot_waiting (s : State) (f : BootS → BootS) : (State.setBoot s f).waiting = s.waiting := id rfl
@[simp] theorem State.setBoot_cnt (s : State) (f : BootS → BootS) : (State.setBoot s f).cnt = s.cnt := id rfl
@[simp] theorem State.setBoot_store (s : State) (f : BootS → BootS) : (State.setBoot s f).store = s.store := id rfl
@[simp] theorem State.setBoot_beat (s : State) (f : BootS → BootS) : (State.setBoot s f).beat = s.beat := id rfl
@[simp] theorem State.setBoot_hier (s : State) (f : BootS → BootS) : (State.setBoot s f).hier = s.hier := id rfl
@[simp] theorem State.setBoot_gdp (s : State) (f : BootS → BootS) : (State.setBoot s f).gdp = s.gdp := id rfl
@[simp] theorem State.setBoot_funcs (s : State) (f : BootS → BootS) : (State.setBoot s f).funcs = s.funcs := id rfl
@[simp] theorem State.setBoot_evt (s : State) (f : BootS → BootS) : (State.setBoot s f).evt = s.evt := id rfl
@[simp] theorem State.setBoot_bist (s : State) (f : BootS → BootS) : (State.setBoot s f).bist = s.bist := id rfl
@[simp] theorem State.setBoot_eng (s : State) (f : BootS → BootS) : (State.setBoot s f).eng = s.eng := id rfl
@[simp] theorem State.setBoot_kpr (s : State) (f : BootS → BootS) : (State.setBoot s f).kpr = s.kpr := id rfl
@[simp] theorem State.setBoot_cal (s : State) (f : BootS → BootS) : (State.setBoot s f).cal = s.cal := id rfl
@[simp] theorem State.setBoot_slots (s : State) (f : BootS → BootS) : (State.setBoot s f).slots = s.slots := id rfl
@[simp] theorem State.setBoot_hostMem (s : State) (f : BootS → BootS) : (State.setBoot s f).hostMem = s.hostMem := id rfl
@[simp] theorem State.setBoot_kwMem (s : State) (f : BootS → BootS) : (State.setBoot s f).kwMem = s.kwMem := id rfl
@[simp] theorem State.setBoot_srv (s : State) (f : BootS → BootS) : (State.setBoot s f).srv = s.srv := id rfl
@[simp] theorem State.setBoot_kv (s : State) (f : BootS → BootS) : (State.setBoot s f).kv = s.kv := id rfl
@[simp] theorem State.setBoot_sense (s : State) (f : BootS → BootS) : (State.setBoot s f).sense = s.sense := id rfl
@[simp] theorem State.setBoot_pwr (s : State) (f : BootS → BootS) : (State.setBoot s f).pwr = s.pwr := id rfl
@[simp] theorem State.setBoot_fab (s : State) (f : BootS → BootS) : (State.setBoot s f).fab = s.fab := id rfl
@[simp] theorem State.setBoot_latch (s : State) (f : BootS → BootS) : (State.setBoot s f).latch = s.latch := id rfl
@[simp] theorem State.setBoot_ward (s : State) (f : BootS → BootS) : (State.setBoot s f).ward = s.ward := id rfl
@[simp] theorem State.setBoot_mem (s : State) (f : BootS → BootS) : (State.setBoot s f).mem = s.mem := id rfl
@[simp] theorem State.putLregs_pending (s : State) (fn : Nat) (r : LatchRegs) : (State.putLregs s fn r).pending = s.pending := id rfl
@[simp] theorem State.putLregs_now (s : State) (fn : Nat) (r : LatchRegs) : (State.putLregs s fn r).now = s.now := id rfl
@[simp] theorem State.putLregs_out (s : State) (fn : Nat) (r : LatchRegs) : (State.putLregs s fn r).out = s.out := id rfl
@[simp] theorem State.putLregs_free (s : State) (fn : Nat) (r : LatchRegs) : (State.putLregs s fn r).free = s.free := id rfl
@[simp] theorem State.putLregs_part (s : State) (fn : Nat) (r : LatchRegs) : (State.putLregs s fn r).part = s.part := id rfl
@[simp] theorem State.putLregs_cfg (s : State) (fn : Nat) (r : LatchRegs) : (State.putLregs s fn r).cfg = s.cfg := id rfl
@[simp] theorem State.putLregs_waiting (s : State) (fn : Nat) (r : LatchRegs) : (State.putLregs s fn r).waiting = s.waiting := id rfl
@[simp] theorem State.putLregs_cnt (s : State) (fn : Nat) (r : LatchRegs) : (State.putLregs s fn r).cnt = s.cnt := id rfl
@[simp] theorem State.putLregs_store (s : State) (fn : Nat) (r : LatchRegs) : (State.putLregs s fn r).store = s.store := id rfl
@[simp] theorem State.putLregs_beat (s : State) (fn : Nat) (r : LatchRegs) : (State.putLregs s fn r).beat = s.beat := id rfl
@[simp] theorem State.putLregs_hier (s : State) (fn : Nat) (r : LatchRegs) : (State.putLregs s fn r).hier = s.hier := id rfl
@[simp] theorem State.putLregs_gdp (s : State) (fn : Nat) (r : LatchRegs) : (State.putLregs s fn r).gdp = s.gdp := id rfl
@[simp] theorem State.putLregs_funcs (s : State) (fn : Nat) (r : LatchRegs) : (State.putLregs s fn r).funcs = s.funcs := id rfl
@[simp] theorem State.putLregs_evt (s : State) (fn : Nat) (r : LatchRegs) : (State.putLregs s fn r).evt = s.evt := id rfl
@[simp] theorem State.putLregs_bist (s : State) (fn : Nat) (r : LatchRegs) : (State.putLregs s fn r).bist = s.bist := id rfl
@[simp] theorem State.putLregs_eng (s : State) (fn : Nat) (r : LatchRegs) : (State.putLregs s fn r).eng = s.eng := id rfl
@[simp] theorem State.putLregs_kpr (s : State) (fn : Nat) (r : LatchRegs) : (State.putLregs s fn r).kpr = s.kpr := id rfl
@[simp] theorem State.putLregs_cal (s : State) (fn : Nat) (r : LatchRegs) : (State.putLregs s fn r).cal = s.cal := id rfl
@[simp] theorem State.putLregs_slots (s : State) (fn : Nat) (r : LatchRegs) : (State.putLregs s fn r).slots = s.slots := id rfl
@[simp] theorem State.putLregs_hostMem (s : State) (fn : Nat) (r : LatchRegs) : (State.putLregs s fn r).hostMem = s.hostMem := id rfl
@[simp] theorem State.putLregs_kwMem (s : State) (fn : Nat) (r : LatchRegs) : (State.putLregs s fn r).kwMem = s.kwMem := id rfl
@[simp] theorem State.putLregs_srv (s : State) (fn : Nat) (r : LatchRegs) : (State.putLregs s fn r).srv = s.srv := id rfl
@[simp] theorem State.putLregs_kv (s : State) (fn : Nat) (r : LatchRegs) : (State.putLregs s fn r).kv = s.kv := id rfl
@[simp] theorem State.putLregs_sense (s : State) (fn : Nat) (r : LatchRegs) : (State.putLregs s fn r).sense = s.sense := id rfl
@[simp] theorem State.putLregs_pwr (s : State) (fn : Nat) (r : LatchRegs) : (State.putLregs s fn r).pwr = s.pwr := id rfl
@[simp] theorem State.putLregs_fab (s : State) (fn : Nat) (r : LatchRegs) : (State.putLregs s fn r).fab = s.fab := id rfl
@[simp] theorem State.putLregs_ward (s : State) (fn : Nat) (r : LatchRegs) : (State.putLregs s fn r).ward = s.ward := id rfl
@[simp] theorem State.putLregs_mem (s : State) (fn : Nat) (r : LatchRegs) : (State.putLregs s fn r).mem = s.mem := id rfl
@[simp] theorem State.putLregs_boot (s : State) (fn : Nat) (r : LatchRegs) : (State.putLregs s fn r).boot = s.boot := id rfl
@[simp] theorem State.milestone_pending (s : State) (row : Nat) (ps : Nat) : (State.milestone s row ps).pending = s.pending := by unfold State.milestone; (repeat' split) <;> rfl
@[simp] theorem State.milestone_now (s : State) (row : Nat) (ps : Nat) : (State.milestone s row ps).now = s.now := by unfold State.milestone; (repeat' split) <;> rfl
@[simp] theorem State.milestone_out (s : State) (row : Nat) (ps : Nat) : (State.milestone s row ps).out = s.out := by unfold State.milestone; (repeat' split) <;> rfl
@[simp] theorem State.milestone_free (s : State) (row : Nat) (ps : Nat) : (State.milestone s row ps).free = s.free := by unfold State.milestone; (repeat' split) <;> rfl
@[simp] theorem State.milestone_part (s : State) (row : Nat) (ps : Nat) : (State.milestone s row ps).part = s.part := by unfold State.milestone; (repeat' split) <;> rfl
@[simp] theorem State.milestone_cfg (s : State) (row : Nat) (ps : Nat) : (State.milestone s row ps).cfg = s.cfg := by unfold State.milestone; (repeat' split) <;> rfl
@[simp] theorem State.milestone_waiting (s : State) (row : Nat) (ps : Nat) : (State.milestone s row ps).waiting = s.waiting := by unfold State.milestone; (repeat' split) <;> rfl
@[simp] theorem State.milestone_cnt (s : State) (row : Nat) (ps : Nat) : (State.milestone s row ps).cnt = s.cnt := by unfold State.milestone; (repeat' split) <;> rfl
@[simp] theorem State.milestone_store (s : State) (row : Nat) (ps : Nat) : (State.milestone s row ps).store = s.store := by unfold State.milestone; (repeat' split) <;> rfl
@[simp] theorem State.milestone_beat (s : State) (row : Nat) (ps : Nat) : (State.milestone s row ps).beat = s.beat := by unfold State.milestone; (repeat' split) <;> rfl
@[simp] theorem State.milestone_hier (s : State) (row : Nat) (ps : Nat) : (State.milestone s row ps).hier = s.hier := by unfold State.milestone; (repeat' split) <;> rfl
@[simp] theorem State.milestone_gdp (s : State) (row : Nat) (ps : Nat) : (State.milestone s row ps).gdp = s.gdp := by unfold State.milestone; (repeat' split) <;> rfl
@[simp] theorem State.milestone_funcs (s : State) (row : Nat) (ps : Nat) : (State.milestone s row ps).funcs = s.funcs := by unfold State.milestone; (repeat' split) <;> rfl
@[simp] theorem State.milestone_evt (s : State) (row : Nat) (ps : Nat) : (State.milestone s row ps).evt = s.evt := by unfold State.milestone; (repeat' split) <;> rfl
@[simp] theorem State.milestone_bist (s : State) (row : Nat) (ps : Nat) : (State.milestone s row ps).bist = s.bist := by unfold State.milestone; (repeat' split) <;> rfl
@[simp] theorem State.milestone_eng (s : State) (row : Nat) (ps : Nat) : (State.milestone s row ps).eng = s.eng := by unfold State.milestone; (repeat' split) <;> rfl
@[simp] theorem State.milestone_kpr (s : State) (row : Nat) (ps : Nat) : (State.milestone s row ps).kpr = s.kpr := by unfold State.milestone; (repeat' split) <;> rfl
@[simp] theorem State.milestone_cal (s : State) (row : Nat) (ps : Nat) : (State.milestone s row ps).cal = s.cal := by unfold State.milestone; (repeat' split) <;> rfl
@[simp] theorem State.milestone_slots (s : State) (row : Nat) (ps : Nat) : (State.milestone s row ps).slots = s.slots := by unfold State.milestone; (repeat' split) <;> rfl
@[simp] theorem State.milestone_hostMem (s : State) (row : Nat) (ps : Nat) : (State.milestone s row ps).hostMem = s.hostMem := by unfold State.milestone; (repeat' split) <;> rfl
@[simp] theorem State.milestone_kwMem (s : State) (row : Nat) (ps : Nat) : (State.milestone s row ps).kwMem = s.kwMem := by unfold State.milestone; (repeat' split) <;> rfl
@[simp] theorem State.milestone_srv (s : State) (row : Nat) (ps : Nat) : (State.milestone s row ps).srv = s.srv := by unfold State.milestone; (repeat' split) <;> rfl
@[simp] theorem State.milestone_kv (s : State) (row : Nat) (ps : Nat) : (State.milestone s row ps).kv = s.kv := by unfold State.milestone; (repeat' split) <;> rfl
@[simp] theorem State.milestone_sense (s : State) (row : Nat) (ps : Nat) : (State.milestone s row ps).sense = s.sense := by unfold State.milestone; (repeat' split) <;> rfl
@[simp] theorem State.milestone_pwr (s : State) (row : Nat) (ps : Nat) : (State.milestone s row ps).pwr = s.pwr := by unfold State.milestone; (repeat' split) <;> rfl
@[simp] theorem State.milestone_fab (s : State) (row : Nat) (ps : Nat) : (State.milestone s row ps).fab = s.fab := by unfold State.milestone; (repeat' split) <;> rfl
@[simp] theorem State.milestone_latch (s : State) (row : Nat) (ps : Nat) : (State.milestone s row ps).latch = s.latch := by unfold State.milestone; (repeat' split) <;> rfl
@[simp] theorem State.milestone_ward (s : State) (row : Nat) (ps : Nat) : (State.milestone s row ps).ward = s.ward := by unfold State.milestone; (repeat' split) <;> rfl
@[simp] theorem State.milestone_mem (s : State) (row : Nat) (ps : Nat) : (State.milestone s row ps).mem = s.mem := by unfold State.milestone; (repeat' split) <;> rfl
@[simp] theorem State.mapTile_pending (s : State) (eng : Nat) (tier : Nat) (f : Tile → Tile) : (State.mapTile s eng tier f).pending = s.pending := id rfl
@[simp] theorem State.mapTile_now (s : State) (eng : Nat) (tier : Nat) (f : Tile → Tile) : (State.mapTile s eng tier f).now = s.now := id rfl
@[simp] theorem State.mapTile_out (s : State) (eng : Nat) (tier : Nat) (f : Tile → Tile) : (State.mapTile s eng tier f).out = s.out := id rfl
@[simp] theorem State.mapTile_free (s : State) (eng : Nat) (tier : Nat) (f : Tile → Tile) : (State.mapTile s eng tier f).free = s.free := id rfl
@[simp] theorem State.mapTile_part (s : State) (eng : Nat) (tier : Nat) (f : Tile → Tile) : (State.mapTile s eng tier f).part = s.part := id rfl
@[simp] theorem State.mapTile_cfg (s : State) (eng : Nat) (tier : Nat) (f : Tile → Tile) : (State.mapTile s eng tier f).cfg = s.cfg := id rfl
@[simp] theorem State.mapTile_waiting (s : State) (eng : Nat) (tier : Nat) (f : Tile → Tile) : (State.mapTile s eng tier f).waiting = s.waiting := id rfl
@[simp] theorem State.mapTile_cnt (s : State) (eng : Nat) (tier : Nat) (f : Tile → Tile) : (State.mapTile s eng tier f).cnt = s.cnt := id rfl
@[simp] theorem State.mapTile_store (s : State) (eng : Nat) (tier : Nat) (f : Tile → Tile) : (State.mapTile s eng tier f).store = s.store := id rfl
@[simp] theorem State.mapTile_beat (s : State) (eng : Nat) (tier : Nat) (f : Tile → Tile) : (State.mapTile s eng tier f).beat = s.beat := id rfl
@[simp] theorem State.mapTile_hier (s : State) (eng : Nat) (tier : Nat) (f : Tile → Tile) : (State.mapTile s eng tier f).hier = s.hier := id rfl
@[simp] theorem State.mapTile_gdp (s : State) (eng : Nat) (tier : Nat) (f : Tile → Tile) : (State.mapTile s eng tier f).gdp = s.gdp := id rfl
@[simp] theorem State.mapTile_funcs (s : State) (eng : Nat) (tier : Nat) (f : Tile → Tile) : (State.mapTile s eng tier f).funcs = s.funcs := id rfl
@[simp] theorem State.mapTile_evt (s : State) (eng : Nat) (tier : Nat) (f : Tile → Tile) : (State.mapTile s eng tier f).evt = s.evt := id rfl
@[simp] theorem State.mapTile_bist (s : State) (eng : Nat) (tier : Nat) (f : Tile → Tile) : (State.mapTile s eng tier f).bist = s.bist := id rfl
@[simp] theorem State.mapTile_eng (s : State) (eng : Nat) (tier : Nat) (f : Tile → Tile) : (State.mapTile s eng tier f).eng = s.eng := id rfl
@[simp] theorem State.mapTile_kpr (s : State) (eng : Nat) (tier : Nat) (f : Tile → Tile) : (State.mapTile s eng tier f).kpr = s.kpr := id rfl
@[simp] theorem State.mapTile_cal (s : State) (eng : Nat) (tier : Nat) (f : Tile → Tile) : (State.mapTile s eng tier f).cal = s.cal := id rfl
@[simp] theorem State.mapTile_hostMem (s : State) (eng : Nat) (tier : Nat) (f : Tile → Tile) : (State.mapTile s eng tier f).hostMem = s.hostMem := id rfl
@[simp] theorem State.mapTile_kwMem (s : State) (eng : Nat) (tier : Nat) (f : Tile → Tile) : (State.mapTile s eng tier f).kwMem = s.kwMem := id rfl
@[simp] theorem State.mapTile_srv (s : State) (eng : Nat) (tier : Nat) (f : Tile → Tile) : (State.mapTile s eng tier f).srv = s.srv := id rfl
@[simp] theorem State.mapTile_kv (s : State) (eng : Nat) (tier : Nat) (f : Tile → Tile) : (State.mapTile s eng tier f).kv = s.kv := id rfl
@[simp] theorem State.mapTile_sense (s : State) (eng : Nat) (tier : Nat) (f : Tile → Tile) : (State.mapTile s eng tier f).sense = s.sense := id rfl
@[simp] theorem State.mapTile_pwr (s : State) (eng : Nat) (tier : Nat) (f : Tile → Tile) : (State.mapTile s eng tier f).pwr = s.pwr := id rfl
@[simp] theorem State.mapTile_fab (s : State) (eng : Nat) (tier : Nat) (f : Tile → Tile) : (State.mapTile s eng tier f).fab = s.fab := id rfl
@[simp] theorem State.mapTile_latch (s : State) (eng : Nat) (tier : Nat) (f : Tile → Tile) : (State.mapTile s eng tier f).latch = s.latch := id rfl
@[simp] theorem State.mapTile_ward (s : State) (eng : Nat) (tier : Nat) (f : Tile → Tile) : (State.mapTile s eng tier f).ward = s.ward := id rfl
@[simp] theorem State.mapTile_mem (s : State) (eng : Nat) (tier : Nat) (f : Tile → Tile) : (State.mapTile s eng tier f).mem = s.mem := id rfl
@[simp] theorem State.mapTile_boot (s : State) (eng : Nat) (tier : Nat) (f : Tile → Tile) : (State.mapTile s eng tier f).boot = s.boot := id rfl
@[simp] theorem State.railsOff_pending (s : State) (l : List Nat) : (State.railsOff s l).pending = s.pending := id rfl
@[simp] theorem State.railsOff_now (s : State) (l : List Nat) : (State.railsOff s l).now = s.now := id rfl
@[simp] theorem State.railsOff_out (s : State) (l : List Nat) : (State.railsOff s l).out = s.out := id rfl
@[simp] theorem State.railsOff_free (s : State) (l : List Nat) : (State.railsOff s l).free = s.free := id rfl
@[simp] theorem State.railsOff_part (s : State) (l : List Nat) : (State.railsOff s l).part = s.part := id rfl
@[simp] theorem State.railsOff_cfg (s : State) (l : List Nat) : (State.railsOff s l).cfg = s.cfg := id rfl
@[simp] theorem State.railsOff_waiting (s : State) (l : List Nat) : (State.railsOff s l).waiting = s.waiting := id rfl
@[simp] theorem State.railsOff_cnt (s : State) (l : List Nat) : (State.railsOff s l).cnt = s.cnt := id rfl
@[simp] theorem State.railsOff_store (s : State) (l : List Nat) : (State.railsOff s l).store = s.store := id rfl
@[simp] theorem State.railsOff_beat (s : State) (l : List Nat) : (State.railsOff s l).beat = s.beat := id rfl
@[simp] theorem State.railsOff_hier (s : State) (l : List Nat) : (State.railsOff s l).hier = s.hier := id rfl
@[simp] theorem State.railsOff_gdp (s : State) (l : List Nat) : (State.railsOff s l).gdp = s.gdp := id rfl
@[simp] theorem State.railsOff_funcs (s : State) (l : List Nat) : (State.railsOff s l).funcs = s.funcs := id rfl
@[simp] theorem State.railsOff_evt (s : State) (l : List Nat) : (State.railsOff s l).evt = s.evt := id rfl
@[simp] theorem State.railsOff_bist (s : State) (l : List Nat) : (State.railsOff s l).bist = s.bist := id rfl
@[simp] theorem State.railsOff_eng (s : State) (l : List Nat) : (State.railsOff s l).eng = s.eng := id rfl
@[simp] theorem State.railsOff_kpr (s : State) (l : List Nat) : (State.railsOff s l).kpr = s.kpr := id rfl
@[simp] theorem State.railsOff_cal (s : State) (l : List Nat) : (State.railsOff s l).cal = s.cal := id rfl
@[simp] theorem State.railsOff_slots (s : State) (l : List Nat) : (State.railsOff s l).slots = s.slots := id rfl
@[simp] theorem State.railsOff_hostMem (s : State) (l : List Nat) : (State.railsOff s l).hostMem = s.hostMem := id rfl
@[simp] theorem State.railsOff_kwMem (s : State) (l : List Nat) : (State.railsOff s l).kwMem = s.kwMem := id rfl
@[simp] theorem State.railsOff_srv (s : State) (l : List Nat) : (State.railsOff s l).srv = s.srv := id rfl
@[simp] theorem State.railsOff_kv (s : State) (l : List Nat) : (State.railsOff s l).kv = s.kv := id rfl
@[simp] theorem State.railsOff_sense (s : State) (l : List Nat) : (State.railsOff s l).sense = s.sense := id rfl
@[simp] theorem State.railsOff_fab (s : State) (l : List Nat) : (State.railsOff s l).fab = s.fab := id rfl
@[simp] theorem State.railsOff_latch (s : State) (l : List Nat) : (State.railsOff s l).latch = s.latch := id rfl
@[simp] theorem State.railsOff_ward (s : State) (l : List Nat) : (State.railsOff s l).ward = s.ward := id rfl
@[simp] theorem State.railsOff_mem (s : State) (l : List Nat) : (State.railsOff s l).mem = s.mem := id rfl
@[simp] theorem State.railsOff_boot (s : State) (l : List Nat) : (State.railsOff s l).boot = s.boot := id rfl
@[simp] theorem State.seekBeats_pending (s : State) : (State.seekBeats s).pending = s.pending := by unfold State.seekBeats; (repeat' split) <;> rfl
@[simp] theorem State.seekBeats_now (s : State) : (State.seekBeats s).now = s.now := by unfold State.seekBeats; (repeat' split) <;> rfl
@[simp] theorem State.seekBeats_out (s : State) : (State.seekBeats s).out = s.out := by unfold State.seekBeats; (repeat' split) <;> rfl
@[simp] theorem State.seekBeats_free (s : State) : (State.seekBeats s).free = s.free := by unfold State.seekBeats; (repeat' split) <;> rfl
@[simp] theorem State.seekBeats_part (s : State) : (State.seekBeats s).part = s.part := by unfold State.seekBeats; (repeat' split) <;> rfl
@[simp] theorem State.seekBeats_cfg (s : State) : (State.seekBeats s).cfg = s.cfg := by unfold State.seekBeats; (repeat' split) <;> rfl
@[simp] theorem State.seekBeats_waiting (s : State) : (State.seekBeats s).waiting = s.waiting := by unfold State.seekBeats; (repeat' split) <;> rfl
@[simp] theorem State.seekBeats_cnt (s : State) : (State.seekBeats s).cnt = s.cnt := by unfold State.seekBeats; (repeat' split) <;> rfl
@[simp] theorem State.seekBeats_store (s : State) : (State.seekBeats s).store = s.store := by unfold State.seekBeats; (repeat' split) <;> rfl
@[simp] theorem State.seekBeats_beat (s : State) : (State.seekBeats s).beat = s.beat := by unfold State.seekBeats; (repeat' split) <;> rfl
@[simp] theorem State.seekBeats_hier (s : State) : (State.seekBeats s).hier = s.hier := by unfold State.seekBeats; (repeat' split) <;> rfl
@[simp] theorem State.seekBeats_gdp (s : State) : (State.seekBeats s).gdp = s.gdp := by unfold State.seekBeats; (repeat' split) <;> rfl
@[simp] theorem State.seekBeats_evt (s : State) : (State.seekBeats s).evt = s.evt := by unfold State.seekBeats; (repeat' split) <;> rfl
@[simp] theorem State.seekBeats_bist (s : State) : (State.seekBeats s).bist = s.bist := by unfold State.seekBeats; (repeat' split) <;> rfl
@[simp] theorem State.seekBeats_eng (s : State) : (State.seekBeats s).eng = s.eng := by unfold State.seekBeats; (repeat' split) <;> rfl
@[simp] theorem State.seekBeats_kpr (s : State) : (State.seekBeats s).kpr = s.kpr := by unfold State.seekBeats; (repeat' split) <;> rfl
@[simp] theorem State.seekBeats_cal (s : State) : (State.seekBeats s).cal = s.cal := by unfold State.seekBeats; (repeat' split) <;> rfl
@[simp] theorem State.seekBeats_slots (s : State) : (State.seekBeats s).slots = s.slots := by unfold State.seekBeats; (repeat' split) <;> rfl
@[simp] theorem State.seekBeats_hostMem (s : State) : (State.seekBeats s).hostMem = s.hostMem := by unfold State.seekBeats; (repeat' split) <;> rfl
@[simp] theorem State.seekBeats_kwMem (s : State) : (State.seekBeats s).kwMem = s.kwMem := by unfold State.seekBeats; (repeat' split) <;> rfl
@[simp] theorem State.seekBeats_srv (s : State) : (State.seekBeats s).srv = s.srv := by unfold State.seekBeats; (repeat' split) <;> rfl
@[simp] theorem State.seekBeats_kv (s : State) : (State.seekBeats s).kv = s.kv := by unfold State.seekBeats; (repeat' split) <;> rfl
@[simp] theorem State.seekBeats_sense (s : State) : (State.seekBeats s).sense = s.sense := by unfold State.seekBeats; (repeat' split) <;> rfl
@[simp] theorem State.seekBeats_pwr (s : State) : (State.seekBeats s).pwr = s.pwr := by unfold State.seekBeats; (repeat' split) <;> rfl
@[simp] theorem State.seekBeats_fab (s : State) : (State.seekBeats s).fab = s.fab := by unfold State.seekBeats; (repeat' split) <;> rfl
@[simp] theorem State.seekBeats_latch (s : State) : (State.seekBeats s).latch = s.latch := by unfold State.seekBeats; (repeat' split) <;> rfl
@[simp] theorem State.seekBeats_ward (s : State) : (State.seekBeats s).ward = s.ward := by unfold State.seekBeats; (repeat' split) <;> rfl
@[simp] theorem State.seekBeats_mem (s : State) : (State.seekBeats s).mem = s.mem := by unfold State.seekBeats; (repeat' split) <;> rfl
@[simp] theorem State.seekBeats_boot (s : State) : (State.seekBeats s).boot = s.boot := by unfold State.seekBeats; (repeat' split) <;> rfl
@[simp] theorem State.dmaWrite_pending (s : State) (fn : Nat) (a : Nat) (b : Bytes) : (State.dmaWrite s fn a b).pending = s.pending := id rfl
@[simp] theorem State.dmaWrite_now (s : State) (fn : Nat) (a : Nat) (b : Bytes) : (State.dmaWrite s fn a b).now = s.now := id rfl
@[simp] theorem State.dmaWrite_free (s : State) (fn : Nat) (a : Nat) (b : Bytes) : (State.dmaWrite s fn a b).free = s.free := id rfl
@[simp] theorem State.dmaWrite_part (s : State) (fn : Nat) (a : Nat) (b : Bytes) : (State.dmaWrite s fn a b).part = s.part := id rfl
@[simp] theorem State.dmaWrite_cfg (s : State) (fn : Nat) (a : Nat) (b : Bytes) : (State.dmaWrite s fn a b).cfg = s.cfg := id rfl
@[simp] theorem State.dmaWrite_waiting (s : State) (fn : Nat) (a : Nat) (b : Bytes) : (State.dmaWrite s fn a b).waiting = s.waiting := id rfl
@[simp] theorem State.dmaWrite_cnt (s : State) (fn : Nat) (a : Nat) (b : Bytes) : (State.dmaWrite s fn a b).cnt = s.cnt := id rfl
@[simp] theorem State.dmaWrite_store (s : State) (fn : Nat) (a : Nat) (b : Bytes) : (State.dmaWrite s fn a b).store = s.store := id rfl
@[simp] theorem State.dmaWrite_beat (s : State) (fn : Nat) (a : Nat) (b : Bytes) : (State.dmaWrite s fn a b).beat = s.beat := id rfl
@[simp] theorem State.dmaWrite_hier (s : State) (fn : Nat) (a : Nat) (b : Bytes) : (State.dmaWrite s fn a b).hier = s.hier := id rfl
@[simp] theorem State.dmaWrite_gdp (s : State) (fn : Nat) (a : Nat) (b : Bytes) : (State.dmaWrite s fn a b).gdp = s.gdp := id rfl
@[simp] theorem State.dmaWrite_funcs (s : State) (fn : Nat) (a : Nat) (b : Bytes) : (State.dmaWrite s fn a b).funcs = s.funcs := id rfl
@[simp] theorem State.dmaWrite_evt (s : State) (fn : Nat) (a : Nat) (b : Bytes) : (State.dmaWrite s fn a b).evt = s.evt := id rfl
@[simp] theorem State.dmaWrite_bist (s : State) (fn : Nat) (a : Nat) (b : Bytes) : (State.dmaWrite s fn a b).bist = s.bist := id rfl
@[simp] theorem State.dmaWrite_eng (s : State) (fn : Nat) (a : Nat) (b : Bytes) : (State.dmaWrite s fn a b).eng = s.eng := id rfl
@[simp] theorem State.dmaWrite_kpr (s : State) (fn : Nat) (a : Nat) (b : Bytes) : (State.dmaWrite s fn a b).kpr = s.kpr := id rfl
@[simp] theorem State.dmaWrite_cal (s : State) (fn : Nat) (a : Nat) (b : Bytes) : (State.dmaWrite s fn a b).cal = s.cal := id rfl
@[simp] theorem State.dmaWrite_slots (s : State) (fn : Nat) (a : Nat) (b : Bytes) : (State.dmaWrite s fn a b).slots = s.slots := id rfl
@[simp] theorem State.dmaWrite_kwMem (s : State) (fn : Nat) (a : Nat) (b : Bytes) : (State.dmaWrite s fn a b).kwMem = s.kwMem := id rfl
@[simp] theorem State.dmaWrite_srv (s : State) (fn : Nat) (a : Nat) (b : Bytes) : (State.dmaWrite s fn a b).srv = s.srv := id rfl
@[simp] theorem State.dmaWrite_kv (s : State) (fn : Nat) (a : Nat) (b : Bytes) : (State.dmaWrite s fn a b).kv = s.kv := id rfl
@[simp] theorem State.dmaWrite_sense (s : State) (fn : Nat) (a : Nat) (b : Bytes) : (State.dmaWrite s fn a b).sense = s.sense := id rfl
@[simp] theorem State.dmaWrite_pwr (s : State) (fn : Nat) (a : Nat) (b : Bytes) : (State.dmaWrite s fn a b).pwr = s.pwr := id rfl
@[simp] theorem State.dmaWrite_fab (s : State) (fn : Nat) (a : Nat) (b : Bytes) : (State.dmaWrite s fn a b).fab = s.fab := id rfl
@[simp] theorem State.dmaWrite_latch (s : State) (fn : Nat) (a : Nat) (b : Bytes) : (State.dmaWrite s fn a b).latch = s.latch := id rfl
@[simp] theorem State.dmaWrite_ward (s : State) (fn : Nat) (a : Nat) (b : Bytes) : (State.dmaWrite s fn a b).ward = s.ward := id rfl
@[simp] theorem State.dmaWrite_mem (s : State) (fn : Nat) (a : Nat) (b : Bytes) : (State.dmaWrite s fn a b).mem = s.mem := id rfl
@[simp] theorem State.dmaWrite_boot (s : State) (fn : Nat) (a : Nat) (b : Bytes) : (State.dmaWrite s fn a b).boot = s.boot := id rfl
@[simp] theorem State.dmaRead_pending (s : State) (fn : Nat) (a : Nat) (n : Nat) : (State.dmaRead s fn a n).1.pending = s.pending := id rfl
@[simp] theorem State.dmaRead_now (s : State) (fn : Nat) (a : Nat) (n : Nat) : (State.dmaRead s fn a n).1.now = s.now := id rfl
@[simp] theorem State.dmaRead_free (s : State) (fn : Nat) (a : Nat) (n : Nat) : (State.dmaRead s fn a n).1.free = s.free := id rfl
@[simp] theorem State.dmaRead_part (s : State) (fn : Nat) (a : Nat) (n : Nat) : (State.dmaRead s fn a n).1.part = s.part := id rfl
@[simp] theorem State.dmaRead_cfg (s : State) (fn : Nat) (a : Nat) (n : Nat) : (State.dmaRead s fn a n).1.cfg = s.cfg := id rfl
@[simp] theorem State.dmaRead_waiting (s : State) (fn : Nat) (a : Nat) (n : Nat) : (State.dmaRead s fn a n).1.waiting = s.waiting := id rfl
@[simp] theorem State.dmaRead_cnt (s : State) (fn : Nat) (a : Nat) (n : Nat) : (State.dmaRead s fn a n).1.cnt = s.cnt := id rfl
@[simp] theorem State.dmaRead_store (s : State) (fn : Nat) (a : Nat) (n : Nat) : (State.dmaRead s fn a n).1.store = s.store := id rfl
@[simp] theorem State.dmaRead_beat (s : State) (fn : Nat) (a : Nat) (n : Nat) : (State.dmaRead s fn a n).1.beat = s.beat := id rfl
@[simp] theorem State.dmaRead_hier (s : State) (fn : Nat) (a : Nat) (n : Nat) : (State.dmaRead s fn a n).1.hier = s.hier := id rfl
@[simp] theorem State.dmaRead_gdp (s : State) (fn : Nat) (a : Nat) (n : Nat) : (State.dmaRead s fn a n).1.gdp = s.gdp := id rfl
@[simp] theorem State.dmaRead_funcs (s : State) (fn : Nat) (a : Nat) (n : Nat) : (State.dmaRead s fn a n).1.funcs = s.funcs := id rfl
@[simp] theorem State.dmaRead_evt (s : State) (fn : Nat) (a : Nat) (n : Nat) : (State.dmaRead s fn a n).1.evt = s.evt := id rfl
@[simp] theorem State.dmaRead_bist (s : State) (fn : Nat) (a : Nat) (n : Nat) : (State.dmaRead s fn a n).1.bist = s.bist := id rfl
@[simp] theorem State.dmaRead_eng (s : State) (fn : Nat) (a : Nat) (n : Nat) : (State.dmaRead s fn a n).1.eng = s.eng := id rfl
@[simp] theorem State.dmaRead_kpr (s : State) (fn : Nat) (a : Nat) (n : Nat) : (State.dmaRead s fn a n).1.kpr = s.kpr := id rfl
@[simp] theorem State.dmaRead_cal (s : State) (fn : Nat) (a : Nat) (n : Nat) : (State.dmaRead s fn a n).1.cal = s.cal := id rfl
@[simp] theorem State.dmaRead_slots (s : State) (fn : Nat) (a : Nat) (n : Nat) : (State.dmaRead s fn a n).1.slots = s.slots := id rfl
@[simp] theorem State.dmaRead_hostMem (s : State) (fn : Nat) (a : Nat) (n : Nat) : (State.dmaRead s fn a n).1.hostMem = s.hostMem := id rfl
@[simp] theorem State.dmaRead_kwMem (s : State) (fn : Nat) (a : Nat) (n : Nat) : (State.dmaRead s fn a n).1.kwMem = s.kwMem := id rfl
@[simp] theorem State.dmaRead_srv (s : State) (fn : Nat) (a : Nat) (n : Nat) : (State.dmaRead s fn a n).1.srv = s.srv := id rfl
@[simp] theorem State.dmaRead_kv (s : State) (fn : Nat) (a : Nat) (n : Nat) : (State.dmaRead s fn a n).1.kv = s.kv := id rfl
@[simp] theorem State.dmaRead_sense (s : State) (fn : Nat) (a : Nat) (n : Nat) : (State.dmaRead s fn a n).1.sense = s.sense := id rfl
@[simp] theorem State.dmaRead_pwr (s : State) (fn : Nat) (a : Nat) (n : Nat) : (State.dmaRead s fn a n).1.pwr = s.pwr := id rfl
@[simp] theorem State.dmaRead_fab (s : State) (fn : Nat) (a : Nat) (n : Nat) : (State.dmaRead s fn a n).1.fab = s.fab := id rfl
@[simp] theorem State.dmaRead_latch (s : State) (fn : Nat) (a : Nat) (n : Nat) : (State.dmaRead s fn a n).1.latch = s.latch := id rfl
@[simp] theorem State.dmaRead_ward (s : State) (fn : Nat) (a : Nat) (n : Nat) : (State.dmaRead s fn a n).1.ward = s.ward := id rfl
@[simp] theorem State.dmaRead_mem (s : State) (fn : Nat) (a : Nat) (n : Nat) : (State.dmaRead s fn a n).1.mem = s.mem := id rfl
@[simp] theorem State.dmaRead_boot (s : State) (fn : Nat) (a : Nat) (n : Nat) : (State.dmaRead s fn a n).1.boot = s.boot := id rfl
@[simp] theorem State.countNotches_pending (s : State) (m : BeatMode) : (State.countNotches s m).pending = s.pending := by unfold State.countNotches; (repeat' split) <;> rfl
@[simp] theorem State.countNotches_now (s : State) (m : BeatMode) : (State.countNotches s m).now = s.now := by unfold State.countNotches; (repeat' split) <;> rfl
@[simp] theorem State.countNotches_out (s : State) (m : BeatMode) : (State.countNotches s m).out = s.out := by unfold State.countNotches; (repeat' split) <;> rfl
@[simp] theorem State.countNotches_free (s : State) (m : BeatMode) : (State.countNotches s m).free = s.free := by unfold State.countNotches; (repeat' split) <;> rfl
@[simp] theorem State.countNotches_part (s : State) (m : BeatMode) : (State.countNotches s m).part = s.part := by unfold State.countNotches; (repeat' split) <;> rfl
@[simp] theorem State.countNotches_cfg (s : State) (m : BeatMode) : (State.countNotches s m).cfg = s.cfg := by unfold State.countNotches; (repeat' split) <;> rfl
@[simp] theorem State.countNotches_waiting (s : State) (m : BeatMode) : (State.countNotches s m).waiting = s.waiting := by unfold State.countNotches; (repeat' split) <;> rfl
@[simp] theorem State.countNotches_cnt (s : State) (m : BeatMode) : (State.countNotches s m).cnt = s.cnt := by unfold State.countNotches; (repeat' split) <;> rfl
@[simp] theorem State.countNotches_store (s : State) (m : BeatMode) : (State.countNotches s m).store = s.store := by unfold State.countNotches; (repeat' split) <;> rfl
@[simp] theorem State.countNotches_hier (s : State) (m : BeatMode) : (State.countNotches s m).hier = s.hier := by unfold State.countNotches; (repeat' split) <;> rfl
@[simp] theorem State.countNotches_gdp (s : State) (m : BeatMode) : (State.countNotches s m).gdp = s.gdp := by unfold State.countNotches; (repeat' split) <;> rfl
@[simp] theorem State.countNotches_funcs (s : State) (m : BeatMode) : (State.countNotches s m).funcs = s.funcs := by unfold State.countNotches; (repeat' split) <;> rfl
@[simp] theorem State.countNotches_evt (s : State) (m : BeatMode) : (State.countNotches s m).evt = s.evt := by unfold State.countNotches; (repeat' split) <;> rfl
@[simp] theorem State.countNotches_bist (s : State) (m : BeatMode) : (State.countNotches s m).bist = s.bist := by unfold State.countNotches; (repeat' split) <;> rfl
@[simp] theorem State.countNotches_eng (s : State) (m : BeatMode) : (State.countNotches s m).eng = s.eng := by unfold State.countNotches; (repeat' split) <;> rfl
@[simp] theorem State.countNotches_kpr (s : State) (m : BeatMode) : (State.countNotches s m).kpr = s.kpr := by unfold State.countNotches; (repeat' split) <;> rfl
@[simp] theorem State.countNotches_cal (s : State) (m : BeatMode) : (State.countNotches s m).cal = s.cal := by unfold State.countNotches; (repeat' split) <;> rfl
@[simp] theorem State.countNotches_slots (s : State) (m : BeatMode) : (State.countNotches s m).slots = s.slots := by unfold State.countNotches; (repeat' split) <;> rfl
@[simp] theorem State.countNotches_hostMem (s : State) (m : BeatMode) : (State.countNotches s m).hostMem = s.hostMem := by unfold State.countNotches; (repeat' split) <;> rfl
@[simp] theorem State.countNotches_kwMem (s : State) (m : BeatMode) : (State.countNotches s m).kwMem = s.kwMem := by unfold State.countNotches; (repeat' split) <;> rfl
@[simp] theorem State.countNotches_srv (s : State) (m : BeatMode) : (State.countNotches s m).srv = s.srv := by unfold State.countNotches; (repeat' split) <;> rfl
@[simp] theorem State.countNotches_kv (s : State) (m : BeatMode) : (State.countNotches s m).kv = s.kv := by unfold State.countNotches; (repeat' split) <;> rfl
@[simp] theorem State.countNotches_sense (s : State) (m : BeatMode) : (State.countNotches s m).sense = s.sense := by unfold State.countNotches; (repeat' split) <;> rfl
@[simp] theorem State.countNotches_pwr (s : State) (m : BeatMode) : (State.countNotches s m).pwr = s.pwr := by unfold State.countNotches; (repeat' split) <;> rfl
@[simp] theorem State.countNotches_fab (s : State) (m : BeatMode) : (State.countNotches s m).fab = s.fab := by unfold State.countNotches; (repeat' split) <;> rfl
@[simp] theorem State.countNotches_latch (s : State) (m : BeatMode) : (State.countNotches s m).latch = s.latch := by unfold State.countNotches; (repeat' split) <;> rfl
@[simp] theorem State.countNotches_ward (s : State) (m : BeatMode) : (State.countNotches s m).ward = s.ward := by unfold State.countNotches; (repeat' split) <;> rfl
@[simp] theorem State.countNotches_mem (s : State) (m : BeatMode) : (State.countNotches s m).mem = s.mem := by unfold State.countNotches; (repeat' split) <;> rfl
@[simp] theorem State.countNotches_boot (s : State) (m : BeatMode) : (State.countNotches s m).boot = s.boot := by unfold State.countNotches; (repeat' split) <;> rfl
@[simp] theorem State.phaseError_pending (s : State) (err : Int) : (State.phaseError s err).pending = s.pending := id rfl
@[simp] theorem State.phaseError_now (s : State) (err : Int) : (State.phaseError s err).now = s.now := id rfl
@[simp] theorem State.phaseError_out (s : State) (err : Int) : (State.phaseError s err).out = s.out := id rfl
@[simp] theorem State.phaseError_free (s : State) (err : Int) : (State.phaseError s err).free = s.free := id rfl
@[simp] theorem State.phaseError_part (s : State) (err : Int) : (State.phaseError s err).part = s.part := id rfl
@[simp] theorem State.phaseError_cfg (s : State) (err : Int) : (State.phaseError s err).cfg = s.cfg := id rfl
@[simp] theorem State.phaseError_waiting (s : State) (err : Int) : (State.phaseError s err).waiting = s.waiting := id rfl
@[simp] theorem State.phaseError_store (s : State) (err : Int) : (State.phaseError s err).store = s.store := id rfl
@[simp] theorem State.phaseError_hier (s : State) (err : Int) : (State.phaseError s err).hier = s.hier := id rfl
@[simp] theorem State.phaseError_gdp (s : State) (err : Int) : (State.phaseError s err).gdp = s.gdp := id rfl
@[simp] theorem State.phaseError_funcs (s : State) (err : Int) : (State.phaseError s err).funcs = s.funcs := id rfl
@[simp] theorem State.phaseError_evt (s : State) (err : Int) : (State.phaseError s err).evt = s.evt := id rfl
@[simp] theorem State.phaseError_bist (s : State) (err : Int) : (State.phaseError s err).bist = s.bist := id rfl
@[simp] theorem State.phaseError_eng (s : State) (err : Int) : (State.phaseError s err).eng = s.eng := id rfl
@[simp] theorem State.phaseError_kpr (s : State) (err : Int) : (State.phaseError s err).kpr = s.kpr := id rfl
@[simp] theorem State.phaseError_cal (s : State) (err : Int) : (State.phaseError s err).cal = s.cal := id rfl
@[simp] theorem State.phaseError_slots (s : State) (err : Int) : (State.phaseError s err).slots = s.slots := id rfl
@[simp] theorem State.phaseError_hostMem (s : State) (err : Int) : (State.phaseError s err).hostMem = s.hostMem := id rfl
@[simp] theorem State.phaseError_kwMem (s : State) (err : Int) : (State.phaseError s err).kwMem = s.kwMem := id rfl
@[simp] theorem State.phaseError_srv (s : State) (err : Int) : (State.phaseError s err).srv = s.srv := id rfl
@[simp] theorem State.phaseError_kv (s : State) (err : Int) : (State.phaseError s err).kv = s.kv := id rfl
@[simp] theorem State.phaseError_sense (s : State) (err : Int) : (State.phaseError s err).sense = s.sense := id rfl
@[simp] theorem State.phaseError_pwr (s : State) (err : Int) : (State.phaseError s err).pwr = s.pwr := id rfl
@[simp] theorem State.phaseError_fab (s : State) (err : Int) : (State.phaseError s err).fab = s.fab := id rfl
@[simp] theorem State.phaseError_latch (s : State) (err : Int) : (State.phaseError s err).latch = s.latch := id rfl
@[simp] theorem State.phaseError_ward (s : State) (err : Int) : (State.phaseError s err).ward = s.ward := id rfl
@[simp] theorem State.phaseError_mem (s : State) (err : Int) : (State.phaseError s err).mem = s.mem := id rfl
@[simp] theorem State.phaseError_boot (s : State) (err : Int) : (State.phaseError s err).boot = s.boot := id rfl
@[simp] theorem State.setNext_pending (s : State) (conv : Nat) (last : Nat) : (State.setNext s conv last).pending = s.pending := id rfl
@[simp] theorem State.setNext_now (s : State) (conv : Nat) (last : Nat) : (State.setNext s conv last).now = s.now := id rfl
@[simp] theorem State.setNext_out (s : State) (conv : Nat) (last : Nat) : (State.setNext s conv last).out = s.out := id rfl
@[simp] theorem State.setNext_free (s : State) (conv : Nat) (last : Nat) : (State.setNext s conv last).free = s.free := id rfl
@[simp] theorem State.setNext_part (s : State) (conv : Nat) (last : Nat) : (State.setNext s conv last).part = s.part := id rfl
@[simp] theorem State.setNext_cfg (s : State) (conv : Nat) (last : Nat) : (State.setNext s conv last).cfg = s.cfg := id rfl
@[simp] theorem State.setNext_waiting (s : State) (conv : Nat) (last : Nat) : (State.setNext s conv last).waiting = s.waiting := id rfl
@[simp] theorem State.setNext_cnt (s : State) (conv : Nat) (last : Nat) : (State.setNext s conv last).cnt = s.cnt := id rfl
@[simp] theorem State.setNext_store (s : State) (conv : Nat) (last : Nat) : (State.setNext s conv last).store = s.store := id rfl
@[simp] theorem State.setNext_beat (s : State) (conv : Nat) (last : Nat) : (State.setNext s conv last).beat = s.beat := id rfl
@[simp] theorem State.setNext_hier (s : State) (conv : Nat) (last : Nat) : (State.setNext s conv last).hier = s.hier := id rfl
@[simp] theorem State.setNext_gdp (s : State) (conv : Nat) (last : Nat) : (State.setNext s conv last).gdp = s.gdp := id rfl
@[simp] theorem State.setNext_funcs (s : State) (conv : Nat) (last : Nat) : (State.setNext s conv last).funcs = s.funcs := id rfl
@[simp] theorem State.setNext_evt (s : State) (conv : Nat) (last : Nat) : (State.setNext s conv last).evt = s.evt := id rfl
@[simp] theorem State.setNext_bist (s : State) (conv : Nat) (last : Nat) : (State.setNext s conv last).bist = s.bist := id rfl
@[simp] theorem State.setNext_eng (s : State) (conv : Nat) (last : Nat) : (State.setNext s conv last).eng = s.eng := id rfl
@[simp] theorem State.setNext_kpr (s : State) (conv : Nat) (last : Nat) : (State.setNext s conv last).kpr = s.kpr := id rfl
@[simp] theorem State.setNext_cal (s : State) (conv : Nat) (last : Nat) : (State.setNext s conv last).cal = s.cal := id rfl
@[simp] theorem State.setNext_slots (s : State) (conv : Nat) (last : Nat) : (State.setNext s conv last).slots = s.slots := id rfl
@[simp] theorem State.setNext_hostMem (s : State) (conv : Nat) (last : Nat) : (State.setNext s conv last).hostMem = s.hostMem := id rfl
@[simp] theorem State.setNext_kwMem (s : State) (conv : Nat) (last : Nat) : (State.setNext s conv last).kwMem = s.kwMem := id rfl
@[simp] theorem State.setNext_srv (s : State) (conv : Nat) (last : Nat) : (State.setNext s conv last).srv = s.srv := id rfl
@[simp] theorem State.setNext_kv (s : State) (conv : Nat) (last : Nat) : (State.setNext s conv last).kv = s.kv := id rfl
@[simp] theorem State.setNext_pwr (s : State) (conv : Nat) (last : Nat) : (State.setNext s conv last).pwr = s.pwr := id rfl
@[simp] theorem State.setNext_fab (s : State) (conv : Nat) (last : Nat) : (State.setNext s conv last).fab = s.fab := id rfl
@[simp] theorem State.setNext_latch (s : State) (conv : Nat) (last : Nat) : (State.setNext s conv last).latch = s.latch := id rfl
@[simp] theorem State.setNext_ward (s : State) (conv : Nat) (last : Nat) : (State.setNext s conv last).ward = s.ward := id rfl
@[simp] theorem State.setNext_mem (s : State) (conv : Nat) (last : Nat) : (State.setNext s conv last).mem = s.mem := id rfl
@[simp] theorem State.setNext_boot (s : State) (conv : Nat) (last : Nat) : (State.setNext s conv last).boot = s.boot := id rfl
@[simp] theorem State.beatTo_pending (s : State) (m : BeatMode) : (State.beatTo s m).pending = s.pending := by unfold State.beatTo; (repeat' split) <;> simp
@[simp] theorem State.beatTo_now (s : State) (m : BeatMode) : (State.beatTo s m).now = s.now := by unfold State.beatTo; (repeat' split) <;> simp
@[simp] theorem State.beatTo_out (s : State) (m : BeatMode) : (State.beatTo s m).out = s.out := by unfold State.beatTo; (repeat' split) <;> simp
@[simp] theorem State.beatTo_free (s : State) (m : BeatMode) : (State.beatTo s m).free = s.free := by unfold State.beatTo; (repeat' split) <;> simp
@[simp] theorem State.beatTo_part (s : State) (m : BeatMode) : (State.beatTo s m).part = s.part := by unfold State.beatTo; (repeat' split) <;> simp
@[simp] theorem State.beatTo_cfg (s : State) (m : BeatMode) : (State.beatTo s m).cfg = s.cfg := by unfold State.beatTo; (repeat' split) <;> simp
@[simp] theorem State.beatTo_waiting (s : State) (m : BeatMode) : (State.beatTo s m).waiting = s.waiting := by unfold State.beatTo; (repeat' split) <;> simp
@[simp] theorem State.beatTo_cnt (s : State) (m : BeatMode) : (State.beatTo s m).cnt = s.cnt := by unfold State.beatTo; (repeat' split) <;> simp
@[simp] theorem State.beatTo_store (s : State) (m : BeatMode) : (State.beatTo s m).store = s.store := by unfold State.beatTo; (repeat' split) <;> simp
@[simp] theorem State.beatTo_hier (s : State) (m : BeatMode) : (State.beatTo s m).hier = s.hier := by unfold State.beatTo; (repeat' split) <;> simp
@[simp] theorem State.beatTo_gdp (s : State) (m : BeatMode) : (State.beatTo s m).gdp = s.gdp := by unfold State.beatTo; (repeat' split) <;> simp
@[simp] theorem State.beatTo_bist (s : State) (m : BeatMode) : (State.beatTo s m).bist = s.bist := by unfold State.beatTo; (repeat' split) <;> simp
@[simp] theorem State.beatTo_eng (s : State) (m : BeatMode) : (State.beatTo s m).eng = s.eng := by unfold State.beatTo; (repeat' split) <;> simp
@[simp] theorem State.beatTo_kpr (s : State) (m : BeatMode) : (State.beatTo s m).kpr = s.kpr := by unfold State.beatTo; (repeat' split) <;> simp
@[simp] theorem State.beatTo_cal (s : State) (m : BeatMode) : (State.beatTo s m).cal = s.cal := by unfold State.beatTo; (repeat' split) <;> simp
@[simp] theorem State.beatTo_slots (s : State) (m : BeatMode) : (State.beatTo s m).slots = s.slots := by unfold State.beatTo; (repeat' split) <;> simp
@[simp] theorem State.beatTo_hostMem (s : State) (m : BeatMode) : (State.beatTo s m).hostMem = s.hostMem := by unfold State.beatTo; (repeat' split) <;> simp
@[simp] theorem State.beatTo_kwMem (s : State) (m : BeatMode) : (State.beatTo s m).kwMem = s.kwMem := by unfold State.beatTo; (repeat' split) <;> simp
@[simp] theorem State.beatTo_srv (s : State) (m : BeatMode) : (State.beatTo s m).srv = s.srv := by unfold State.beatTo; (repeat' split) <;> simp
@[simp] theorem State.beatTo_kv (s : State) (m : BeatMode) : (State.beatTo s m).kv = s.kv := by unfold State.beatTo; (repeat' split) <;> simp
@[simp] theorem State.beatTo_sense (s : State) (m : BeatMode) : (State.beatTo s m).sense = s.sense := by unfold State.beatTo; (repeat' split) <;> simp
@[simp] theorem State.beatTo_fab (s : State) (m : BeatMode) : (State.beatTo s m).fab = s.fab := by unfold State.beatTo; (repeat' split) <;> simp
@[simp] theorem State.beatTo_latch (s : State) (m : BeatMode) : (State.beatTo s m).latch = s.latch := by unfold State.beatTo; (repeat' split) <;> simp
@[simp] theorem State.beatTo_ward (s : State) (m : BeatMode) : (State.beatTo s m).ward = s.ward := by unfold State.beatTo; (repeat' split) <;> simp
@[simp] theorem State.beatTo_mem (s : State) (m : BeatMode) : (State.beatTo s m).mem = s.mem := by unfold State.beatTo; (repeat' split) <;> simp
@[simp] theorem State.logResponse_pending (s : State) (q : GReq) (a : Answer) : (State.logResponse s q a).pending = s.pending := by unfold State.logResponse; (repeat' split) <;> simp
@[simp] theorem State.logResponse_now (s : State) (q : GReq) (a : Answer) : (State.logResponse s q a).now = s.now := by unfold State.logResponse; (repeat' split) <;> simp
@[simp] theorem State.logResponse_out (s : State) (q : GReq) (a : Answer) : (State.logResponse s q a).out = s.out := by unfold State.logResponse; (repeat' split) <;> simp
@[simp] theorem State.logResponse_part (s : State) (q : GReq) (a : Answer) : (State.logResponse s q a).part = s.part := by unfold State.logResponse; (repeat' split) <;> simp
@[simp] theorem State.logResponse_cfg (s : State) (q : GReq) (a : Answer) : (State.logResponse s q a).cfg = s.cfg := by unfold State.logResponse; (repeat' split) <;> simp
@[simp] theorem State.logResponse_waiting (s : State) (q : GReq) (a : Answer) : (State.logResponse s q a).waiting = s.waiting := by unfold State.logResponse; (repeat' split) <;> simp
@[simp] theorem State.logResponse_store (s : State) (q : GReq) (a : Answer) : (State.logResponse s q a).store = s.store := by unfold State.logResponse; (repeat' split) <;> simp
@[simp] theorem State.logResponse_beat (s : State) (q : GReq) (a : Answer) : (State.logResponse s q a).beat = s.beat := by unfold State.logResponse; (repeat' split) <;> simp
@[simp] theorem State.logResponse_hier (s : State) (q : GReq) (a : Answer) : (State.logResponse s q a).hier = s.hier := by unfold State.logResponse; (repeat' split) <;> simp
@[simp] theorem State.logResponse_funcs (s : State) (q : GReq) (a : Answer) : (State.logResponse s q a).funcs = s.funcs := by unfold State.logResponse; (repeat' split) <;> simp
@[simp] theorem State.logResponse_evt (s : State) (q : GReq) (a : Answer) : (State.logResponse s q a).evt = s.evt := by unfold State.logResponse; (repeat' split) <;> simp
@[simp] theorem State.logResponse_bist (s : State) (q : GReq) (a : Answer) : (State.logResponse s q a).bist = s.bist := by unfold State.logResponse; (repeat' split) <;> simp
@[simp] theorem State.logResponse_eng (s : State) (q : GReq) (a : Answer) : (State.logResponse s q a).eng = s.eng := by unfold State.logResponse; (repeat' split) <;> simp
@[simp] theorem State.logResponse_kpr (s : State) (q : GReq) (a : Answer) : (State.logResponse s q a).kpr = s.kpr := by unfold State.logResponse; (repeat' split) <;> simp
@[simp] theorem State.logResponse_cal (s : State) (q : GReq) (a : Answer) : (State.logResponse s q a).cal = s.cal := by unfold State.logResponse; (repeat' split) <;> simp
@[simp] theorem State.logResponse_slots (s : State) (q : GReq) (a : Answer) : (State.logResponse s q a).slots = s.slots := by unfold State.logResponse; (repeat' split) <;> simp
@[simp] theorem State.logResponse_hostMem (s : State) (q : GReq) (a : Answer) : (State.logResponse s q a).hostMem = s.hostMem := by unfold State.logResponse; (repeat' split) <;> simp
@[simp] theorem State.logResponse_kwMem (s : State) (q : GReq) (a : Answer) : (State.logResponse s q a).kwMem = s.kwMem := by unfold State.logResponse; (repeat' split) <;> simp
@[simp] theorem State.logResponse_srv (s : State) (q : GReq) (a : Answer) : (State.logResponse s q a).srv = s.srv := by unfold State.logResponse; (repeat' split) <;> simp
@[simp] theorem State.logResponse_kv (s : State) (q : GReq) (a : Answer) : (State.logResponse s q a).kv = s.kv := by unfold State.logResponse; (repeat' split) <;> simp
@[simp] theorem State.logResponse_sense (s : State) (q : GReq) (a : Answer) : (State.logResponse s q a).sense = s.sense := by unfold State.logResponse; (repeat' split) <;> simp
@[simp] theorem State.logResponse_pwr (s : State) (q : GReq) (a : Answer) : (State.logResponse s q a).pwr = s.pwr := by unfold State.logResponse; (repeat' split) <;> simp
@[simp] theorem State.logResponse_fab (s : State) (q : GReq) (a : Answer) : (State.logResponse s q a).fab = s.fab := by unfold State.logResponse; (repeat' split) <;> simp
@[simp] theorem State.logResponse_latch (s : State) (q : GReq) (a : Answer) : (State.logResponse s q a).latch = s.latch := by unfold State.logResponse; (repeat' split) <;> simp
@[simp] theorem State.logResponse_ward (s : State) (q : GReq) (a : Answer) : (State.logResponse s q a).ward = s.ward := by unfold State.logResponse; (repeat' split) <;> simp
@[simp] theorem State.logResponse_mem (s : State) (q : GReq) (a : Answer) : (State.logResponse s q a).mem = s.mem := by unfold State.logResponse; (repeat' split) <;> simp
@[simp] theorem State.logResponse_boot (s : State) (q : GReq) (a : Answer) : (State.logResponse s q a).boot = s.boot := by unfold State.logResponse; (repeat' split) <;> simp
@[simp] theorem State.keepReply_pending (s : State) (q : GReq) (f : Bytes) : (State.keepReply s q f).pending = s.pending := by unfold State.keepReply; (repeat' split) <;> rfl
@[simp] theorem State.keepReply_now (s : State) (q : GReq) (f : Bytes) : (State.keepReply s q f).now = s.now := by unfold State.keepReply; (repeat' split) <;> rfl
@[simp] theorem State.keepReply_out (s : State) (q : GReq) (f : Bytes) : (State.keepReply s q f).out = s.out := by unfold State.keepReply; (repeat' split) <;> rfl
@[simp] theorem State.keepReply_free (s : State) (q : GReq) (f : Bytes) : (State.keepReply s q f).free = s.free := by unfold State.keepReply; (repeat' split) <;> rfl
@[simp] theorem State.keepReply_part (s : State) (q : GReq) (f : Bytes) : (State.keepReply s q f).part = s.part := by unfold State.keepReply; (repeat' split) <;> rfl
@[simp] theorem State.keepReply_cfg (s : State) (q : GReq) (f : Bytes) : (State.keepReply s q f).cfg = s.cfg := by unfold State.keepReply; (repeat' split) <;> rfl
@[simp] theorem State.keepReply_waiting (s : State) (q : GReq) (f : Bytes) : (State.keepReply s q f).waiting = s.waiting := by unfold State.keepReply; (repeat' split) <;> rfl
@[simp] theorem State.keepReply_cnt (s : State) (q : GReq) (f : Bytes) : (State.keepReply s q f).cnt = s.cnt := by unfold State.keepReply; (repeat' split) <;> rfl
@[simp] theorem State.keepReply_store (s : State) (q : GReq) (f : Bytes) : (State.keepReply s q f).store = s.store := by unfold State.keepReply; (repeat' split) <;> rfl
@[simp] theorem State.keepReply_beat (s : State) (q : GReq) (f : Bytes) : (State.keepReply s q f).beat = s.beat := by unfold State.keepReply; (repeat' split) <;> rfl
@[simp] theorem State.keepReply_hier (s : State) (q : GReq) (f : Bytes) : (State.keepReply s q f).hier = s.hier := by unfold State.keepReply; (repeat' split) <;> rfl
@[simp] theorem State.keepReply_funcs (s : State) (q : GReq) (f : Bytes) : (State.keepReply s q f).funcs = s.funcs := by unfold State.keepReply; (repeat' split) <;> rfl
@[simp] theorem State.keepReply_evt (s : State) (q : GReq) (f : Bytes) : (State.keepReply s q f).evt = s.evt := by unfold State.keepReply; (repeat' split) <;> rfl
@[simp] theorem State.keepReply_bist (s : State) (q : GReq) (f : Bytes) : (State.keepReply s q f).bist = s.bist := by unfold State.keepReply; (repeat' split) <;> rfl
@[simp] theorem State.keepReply_eng (s : State) (q : GReq) (f : Bytes) : (State.keepReply s q f).eng = s.eng := by unfold State.keepReply; (repeat' split) <;> rfl
@[simp] theorem State.keepReply_kpr (s : State) (q : GReq) (f : Bytes) : (State.keepReply s q f).kpr = s.kpr := by unfold State.keepReply; (repeat' split) <;> rfl
@[simp] theorem State.keepReply_cal (s : State) (q : GReq) (f : Bytes) : (State.keepReply s q f).cal = s.cal := by unfold State.keepReply; (repeat' split) <;> rfl
@[simp] theorem State.keepReply_slots (s : State) (q : GReq) (f : Bytes) : (State.keepReply s q f).slots = s.slots := by unfold State.keepReply; (repeat' split) <;> rfl
@[simp] theorem State.keepReply_hostMem (s : State) (q : GReq) (f : Bytes) : (State.keepReply s q f).hostMem = s.hostMem := by unfold State.keepReply; (repeat' split) <;> rfl
@[simp] theorem State.keepReply_kwMem (s : State) (q : GReq) (f : Bytes) : (State.keepReply s q f).kwMem = s.kwMem := by unfold State.keepReply; (repeat' split) <;> rfl
@[simp] theorem State.keepReply_srv (s : State) (q : GReq) (f : Bytes) : (State.keepReply s q f).srv = s.srv := by unfold State.keepReply; (repeat' split) <;> rfl
@[simp] theorem State.keepReply_kv (s : State) (q : GReq) (f : Bytes) : (State.keepReply s q f).kv = s.kv := by unfold State.keepReply; (repeat' split) <;> rfl
@[simp] theorem State.keepReply_sense (s : State) (q : GReq) (f : Bytes) : (State.keepReply s q f).sense = s.sense := by unfold State.keepReply; (repeat' split) <;> rfl
@[simp] theorem State.keepReply_pwr (s : State) (q : GReq) (f : Bytes) : (State.keepReply s q f).pwr = s.pwr := by unfold State.keepReply; (repeat' split) <;> rfl
@[simp] theorem State.keepReply_fab (s : State) (q : GReq) (f : Bytes) : (State.keepReply s q f).fab = s.fab := by unfold State.keepReply; (repeat' split) <;> rfl
@[simp] theorem State.keepReply_latch (s : State) (q : GReq) (f : Bytes) : (State.keepReply s q f).latch = s.latch := by unfold State.keepReply; (repeat' split) <;> rfl
@[simp] theorem State.keepReply_ward (s : State) (q : GReq) (f : Bytes) : (State.keepReply s q f).ward = s.ward := by unfold State.keepReply; (repeat' split) <;> rfl
@[simp] theorem State.keepReply_mem (s : State) (q : GReq) (f : Bytes) : (State.keepReply s q f).mem = s.mem := by unfold State.keepReply; (repeat' split) <;> rfl
@[simp] theorem State.keepReply_boot (s : State) (q : GReq) (f : Bytes) : (State.keepReply s q f).boot = s.boot := by unfold State.keepReply; (repeat' split) <;> rfl
@[simp] theorem State.chargePasses_pending (s : State) (eng : Nat) (n : Nat) (sA : Nat) (selected : Bool) : (State.chargePasses s eng n sA selected).pending = s.pending := by simp [State.chargePasses]
@[simp] theorem State.chargePasses_now (s : State) (eng : Nat) (n : Nat) (sA : Nat) (selected : Bool) : (State.chargePasses s eng n sA selected).now = s.now := by simp [State.chargePasses]
@[simp] theorem State.chargePasses_out (s : State) (eng : Nat) (n : Nat) (sA : Nat) (selected : Bool) : (State.chargePasses s eng n sA selected).out = s.out := by simp [State.chargePasses]
@[simp] theorem State.chargePasses_part (s : State) (eng : Nat) (n : Nat) (sA : Nat) (selected : Bool) : (State.chargePasses s eng n sA selected).part = s.part := by simp [State.chargePasses]
@[simp] theorem State.chargePasses_cfg (s : State) (eng : Nat) (n : Nat) (sA : Nat) (selected : Bool) : (State.chargePasses s eng n sA selected).cfg = s.cfg := by simp [State.chargePasses]
@[simp] theorem State.chargePasses_waiting (s : State) (eng : Nat) (n : Nat) (sA : Nat) (selected : Bool) : (State.chargePasses s eng n sA selected).waiting = s.waiting := by simp [State.chargePasses]
@[simp] theorem State.chargePasses_store (s : State) (eng : Nat) (n : Nat) (sA : Nat) (selected : Bool) : (State.chargePasses s eng n sA selected).store = s.store := by simp [State.chargePasses]
@[simp] theorem State.chargePasses_beat (s : State) (eng : Nat) (n : Nat) (sA : Nat) (selected : Bool) : (State.chargePasses s eng n sA selected).beat = s.beat := by simp [State.chargePasses]
@[simp] theorem State.chargePasses_hier (s : State) (eng : Nat) (n : Nat) (sA : Nat) (selected : Bool) : (State.chargePasses s eng n sA selected).hier = s.hier := by simp [State.chargePasses]
@[simp] theorem State.chargePasses_gdp (s : State) (eng : Nat) (n : Nat) (sA : Nat) (selected : Bool) : (State.chargePasses s eng n sA selected).gdp = s.gdp := by simp [State.chargePasses]
@[simp] theorem State.chargePasses_funcs (s : State) (eng : Nat) (n : Nat) (sA : Nat) (selected : Bool) : (State.chargePasses s eng n sA selected).funcs = s.funcs := by simp [State.chargePasses]
@[simp] theorem State.chargePasses_evt (s : State) (eng : Nat) (n : Nat) (sA : Nat) (selected : Bool) : (State.chargePasses s eng n sA selected).evt = s.evt := by simp [State.chargePasses]
@[simp] theorem State.chargePasses_bist (s : State) (eng : Nat) (n : Nat) (sA : Nat) (selected : Bool) : (State.chargePasses s eng n sA selected).bist = s.bist := by simp [State.chargePasses]
@[simp] theorem State.chargePasses_cal (s : State) (eng : Nat) (n : Nat) (sA : Nat) (selected : Bool) : (State.chargePasses s eng n sA selected).cal = s.cal := by simp [State.chargePasses]
@[simp] theorem State.chargePasses_slots (s : State) (eng : Nat) (n : Nat) (sA : Nat) (selected : Bool) : (State.chargePasses s eng n sA selected).slots = s.slots := by simp [State.chargePasses]
@[simp] theorem State.chargePasses_hostMem (s : State) (eng : Nat) (n : Nat) (sA : Nat) (selected : Bool) : (State.chargePasses s eng n sA selected).hostMem = s.hostMem := by simp [State.chargePasses]
@[simp] theorem State.chargePasses_kwMem (s : State) (eng : Nat) (n : Nat) (sA : Nat) (selected : Bool) : (State.chargePasses s eng n sA selected).kwMem = s.kwMem := by simp [State.chargePasses]
@[simp] theorem State.chargePasses_srv (s : State) (eng : Nat) (n : Nat) (sA : Nat) (selected : Bool) : (State.chargePasses s eng n sA selected).srv = s.srv := by simp [State.chargePasses]
@[simp] theorem State.chargePasses_kv (s : State) (eng : Nat) (n : Nat) (sA : Nat) (selected : Bool) : (State.chargePasses s eng n sA selected).kv = s.kv := by simp [State.chargePasses]
@[simp] theorem State.chargePasses_sense (s : State) (eng : Nat) (n : Nat) (sA : Nat) (selected : Bool) : (State.chargePasses s eng n sA selected).sense = s.sense := by simp [State.chargePasses]
@[simp] theorem State.chargePasses_pwr (s : State) (eng : Nat) (n : Nat) (sA : Nat) (selected : Bool) : (State.chargePasses s eng n sA selected).pwr = s.pwr := by simp [State.chargePasses]
@[simp] theorem State.chargePasses_fab (s : State) (eng : Nat) (n : Nat) (sA : Nat) (selected : Bool) : (State.chargePasses s eng n sA selected).fab = s.fab := by simp [State.chargePasses]
@[simp] theorem State.chargePasses_latch (s : State) (eng : Nat) (n : Nat) (sA : Nat) (selected : Bool) : (State.chargePasses s eng n sA selected).latch = s.latch := by simp [State.chargePasses]
@[simp] theorem State.chargePasses_ward (s : State) (eng : Nat) (n : Nat) (sA : Nat) (selected : Bool) : (State.chargePasses s eng n sA selected).ward = s.ward := by simp [State.chargePasses]
@[simp] theorem State.chargePasses_mem (s : State) (eng : Nat) (n : Nat) (sA : Nat) (selected : Bool) : (State.chargePasses s eng n sA selected).mem = s.mem := by simp [State.chargePasses]
@[simp] theorem State.chargePasses_boot (s : State) (eng : Nat) (n : Nat) (sA : Nat) (selected : Bool) : (State.chargePasses s eng n sA selected).boot = s.boot := by simp [State.chargePasses]
@[simp] theorem State.switchEvent_pending (s : State) (src : BeatSrc) (auto : Nat) : (State.switchEvent s src auto).pending = s.pending := id rfl
@[simp] theorem State.switchEvent_now (s : State) (src : BeatSrc) (auto : Nat) : (State.switchEvent s src auto).now = s.now := id rfl
@[simp] theorem State.switchEvent_out (s : State) (src : BeatSrc) (auto : Nat) : (State.switchEvent s src auto).out = s.out := id rfl
@[simp] theorem State.switchEvent_free (s : State) (src : BeatSrc) (auto : Nat) : (State.switchEvent s src auto).free = s.free := id rfl
@[simp] theorem State.switchEvent_part (s : State) (src : BeatSrc) (auto : Nat) : (State.switchEvent s src auto).part = s.part := id rfl
@[simp] theorem State.switchEvent_cfg (s : State) (src : BeatSrc) (auto : Nat) : (State.switchEvent s src auto).cfg = s.cfg := id rfl
@[simp] theorem State.switchEvent_waiting (s : State) (src : BeatSrc) (auto : Nat) : (State.switchEvent s src auto).waiting = s.waiting := id rfl
@[simp] theorem State.switchEvent_cnt (s : State) (src : BeatSrc) (auto : Nat) : (State.switchEvent s src auto).cnt = s.cnt := id rfl
@[simp] theorem State.switchEvent_store (s : State) (src : BeatSrc) (auto : Nat) : (State.switchEvent s src auto).store = s.store := id rfl
@[simp] theorem State.switchEvent_beat (s : State) (src : BeatSrc) (auto : Nat) : (State.switchEvent s src auto).beat = s.beat := id rfl
@[simp] theorem State.switchEvent_hier (s : State) (src : BeatSrc) (auto : Nat) : (State.switchEvent s src auto).hier = s.hier := id rfl
@[simp] theorem State.switchEvent_gdp (s : State) (src : BeatSrc) (auto : Nat) : (State.switchEvent s src auto).gdp = s.gdp := id rfl
@[simp] theorem State.switchEvent_funcs (s : State) (src : BeatSrc) (auto : Nat) : (State.switchEvent s src auto).funcs = s.funcs := id rfl
@[simp] theorem State.switchEvent_bist (s : State) (src : BeatSrc) (auto : Nat) : (State.switchEvent s src auto).bist = s.bist := id rfl
@[simp] theorem State.switchEvent_eng (s : State) (src : BeatSrc) (auto : Nat) : (State.switchEvent s src auto).eng = s.eng := id rfl
@[simp] theorem State.switchEvent_kpr (s : State) (src : BeatSrc) (auto : Nat) : (State.switchEvent s src auto).kpr = s.kpr := id rfl
@[simp] theorem State.switchEvent_cal (s : State) (src : BeatSrc) (auto : Nat) : (State.switchEvent s src auto).cal = s.cal := id rfl
@[simp] theorem State.switchEvent_slots (s : State) (src : BeatSrc) (auto : Nat) : (State.switchEvent s src auto).slots = s.slots := id rfl
@[simp] theorem State.switchEvent_hostMem (s : State) (src : BeatSrc) (auto : Nat) : (State.switchEvent s src auto).hostMem = s.hostMem := id rfl
@[simp] theorem State.switchEvent_kwMem (s : State) (src : BeatSrc) (auto : Nat) : (State.switchEvent s src auto).kwMem = s.kwMem := id rfl
@[simp] theorem State.switchEvent_srv (s : State) (src : BeatSrc) (auto : Nat) : (State.switchEvent s src auto).srv = s.srv := id rfl
@[simp] theorem State.switchEvent_kv (s : State) (src : BeatSrc) (auto : Nat) : (State.switchEvent s src auto).kv = s.kv := id rfl
@[simp] theorem State.switchEvent_sense (s : State) (src : BeatSrc) (auto : Nat) : (State.switchEvent s src auto).sense = s.sense := id rfl
@[simp] theorem State.switchEvent_pwr (s : State) (src : BeatSrc) (auto : Nat) : (State.switchEvent s src auto).pwr = s.pwr := id rfl
@[simp] theorem State.switchEvent_fab (s : State) (src : BeatSrc) (auto : Nat) : (State.switchEvent s src auto).fab = s.fab := id rfl
@[simp] theorem State.switchEvent_latch (s : State) (src : BeatSrc) (auto : Nat) : (State.switchEvent s src auto).latch = s.latch := id rfl
@[simp] theorem State.switchEvent_ward (s : State) (src : BeatSrc) (auto : Nat) : (State.switchEvent s src auto).ward = s.ward := id rfl
@[simp] theorem State.switchEvent_mem (s : State) (src : BeatSrc) (auto : Nat) : (State.switchEvent s src auto).mem = s.mem := id rfl
@[simp] theorem State.switchEvent_boot (s : State) (src : BeatSrc) (auto : Nat) : (State.switchEvent s src auto).boot = s.boot := id rfl
@[simp] theorem State.putBox_pending (s : State) (fn : Nat) (x : Mailbox) : (State.putBox s fn x).pending = s.pending := id rfl
@[simp] theorem State.putBox_now (s : State) (fn : Nat) (x : Mailbox) : (State.putBox s fn x).now = s.now := id rfl
@[simp] theorem State.putBox_out (s : State) (fn : Nat) (x : Mailbox) : (State.putBox s fn x).out = s.out := id rfl
@[simp] theorem State.putBox_free (s : State) (fn : Nat) (x : Mailbox) : (State.putBox s fn x).free = s.free := id rfl
@[simp] theorem State.putBox_part (s : State) (fn : Nat) (x : Mailbox) : (State.putBox s fn x).part = s.part := id rfl
@[simp] theorem State.putBox_cfg (s : State) (fn : Nat) (x : Mailbox) : (State.putBox s fn x).cfg = s.cfg := id rfl
@[simp] theorem State.putBox_waiting (s : State) (fn : Nat) (x : Mailbox) : (State.putBox s fn x).waiting = s.waiting := id rfl
@[simp] theorem State.putBox_cnt (s : State) (fn : Nat) (x : Mailbox) : (State.putBox s fn x).cnt = s.cnt := id rfl
@[simp] theorem State.putBox_store (s : State) (fn : Nat) (x : Mailbox) : (State.putBox s fn x).store = s.store := id rfl
@[simp] theorem State.putBox_beat (s : State) (fn : Nat) (x : Mailbox) : (State.putBox s fn x).beat = s.beat := id rfl
@[simp] theorem State.putBox_hier (s : State) (fn : Nat) (x : Mailbox) : (State.putBox s fn x).hier = s.hier := id rfl
@[simp] theorem State.putBox_funcs (s : State) (fn : Nat) (x : Mailbox) : (State.putBox s fn x).funcs = s.funcs := id rfl
@[simp] theorem State.putBox_evt (s : State) (fn : Nat) (x : Mailbox) : (State.putBox s fn x).evt = s.evt := id rfl
@[simp] theorem State.putBox_bist (s : State) (fn : Nat) (x : Mailbox) : (State.putBox s fn x).bist = s.bist := id rfl
@[simp] theorem State.putBox_eng (s : State) (fn : Nat) (x : Mailbox) : (State.putBox s fn x).eng = s.eng := id rfl
@[simp] theorem State.putBox_kpr (s : State) (fn : Nat) (x : Mailbox) : (State.putBox s fn x).kpr = s.kpr := id rfl
@[simp] theorem State.putBox_cal (s : State) (fn : Nat) (x : Mailbox) : (State.putBox s fn x).cal = s.cal := id rfl
@[simp] theorem State.putBox_slots (s : State) (fn : Nat) (x : Mailbox) : (State.putBox s fn x).slots = s.slots := id rfl
@[simp] theorem State.putBox_hostMem (s : State) (fn : Nat) (x : Mailbox) : (State.putBox s fn x).hostMem = s.hostMem := id rfl
@[simp] theorem State.putBox_kwMem (s : State) (fn : Nat) (x : Mailbox) : (State.putBox s fn x).kwMem = s.kwMem := id rfl
@[simp] theorem State.putBox_srv (s : State) (fn : Nat) (x : Mailbox) : (State.putBox s fn x).srv = s.srv := id rfl
@[simp] theorem State.putBox_kv (s : State) (fn : Nat) (x : Mailbox) : (State.putBox s fn x).kv = s.kv := id rfl
@[simp] theorem State.putBox_sense (s : State) (fn : Nat) (x : Mailbox) : (State.putBox s fn x).sense = s.sense := id rfl
@[simp] theorem State.putBox_pwr (s : State) (fn : Nat) (x : Mailbox) : (State.putBox s fn x).pwr = s.pwr := id rfl
@[simp] theorem State.putBox_fab (s : State) (fn : Nat) (x : Mailbox) : (State.putBox s fn x).fab = s.fab := id rfl
@[simp] theorem State.putBox_latch (s : State) (fn : Nat) (x : Mailbox) : (State.putBox s fn x).latch = s.latch := id rfl
@[simp] theorem State.putBox_ward (s : State) (fn : Nat) (x : Mailbox) : (State.putBox s fn x).ward = s.ward := id rfl
@[simp] theorem State.putBox_mem (s : State) (fn : Nat) (x : Mailbox) : (State.putBox s fn x).mem = s.mem := id rfl
@[simp] theorem State.putBox_boot (s : State) (fn : Nat) (x : Mailbox) : (State.putBox s fn x).boot = s.boot := id rfl
@[simp] theorem State.glitch_pending (s : State) (src : BeatSrc) (e : Nat) : (State.glitch s src e).pending = s.pending := by simp [State.glitch]
@[simp] theorem State.glitch_now (s : State) (src : BeatSrc) (e : Nat) : (State.glitch s src e).now = s.now := by simp [State.glitch]
@[simp] theorem State.glitch_out (s : State) (src : BeatSrc) (e : Nat) : (State.glitch s src e).out = s.out := by simp [State.glitch]
@[simp] theorem State.glitch_part (s : State) (src : BeatSrc) (e : Nat) : (State.glitch s src e).part = s.part := by simp [State.glitch]
@[simp] theorem State.glitch_cfg (s : State) (src : BeatSrc) (e : Nat) : (State.glitch s src e).cfg = s.cfg := by simp [State.glitch]
@[simp] theorem State.glitch_waiting (s : State) (src : BeatSrc) (e : Nat) : (State.glitch s src e).waiting = s.waiting := by simp [State.glitch]
@[simp] theorem State.glitch_store (s : State) (src : BeatSrc) (e : Nat) : (State.glitch s src e).store = s.store := by simp [State.glitch]
@[simp] theorem State.glitch_beat (s : State) (src : BeatSrc) (e : Nat) : (State.glitch s src e).beat = s.beat := by simp [State.glitch]
@[simp] theorem State.glitch_hier (s : State) (src : BeatSrc) (e : Nat) : (State.glitch s src e).hier = s.hier := by simp [State.glitch]
@[simp] theorem State.glitch_gdp (s : State) (src : BeatSrc) (e : Nat) : (State.glitch s src e).gdp = s.gdp := by simp [State.glitch]
@[simp] theorem State.glitch_funcs (s : State) (src : BeatSrc) (e : Nat) : (State.glitch s src e).funcs = s.funcs := by simp [State.glitch]
@[simp] theorem State.glitch_bist (s : State) (src : BeatSrc) (e : Nat) : (State.glitch s src e).bist = s.bist := by simp [State.glitch]
@[simp] theorem State.glitch_eng (s : State) (src : BeatSrc) (e : Nat) : (State.glitch s src e).eng = s.eng := by simp [State.glitch]
@[simp] theorem State.glitch_kpr (s : State) (src : BeatSrc) (e : Nat) : (State.glitch s src e).kpr = s.kpr := by simp [State.glitch]
@[simp] theorem State.glitch_cal (s : State) (src : BeatSrc) (e : Nat) : (State.glitch s src e).cal = s.cal := by simp [State.glitch]
@[simp] theorem State.glitch_slots (s : State) (src : BeatSrc) (e : Nat) : (State.glitch s src e).slots = s.slots := by simp [State.glitch]
@[simp] theorem State.glitch_hostMem (s : State) (src : BeatSrc) (e : Nat) : (State.glitch s src e).hostMem = s.hostMem := by simp [State.glitch]
@[simp] theorem State.glitch_kwMem (s : State) (src : BeatSrc) (e : Nat) : (State.glitch s src e).kwMem = s.kwMem := by simp [State.glitch]
@[simp] theorem State.glitch_srv (s : State) (src : BeatSrc) (e : Nat) : (State.glitch s src e).srv = s.srv := by simp [State.glitch]
@[simp] theorem State.glitch_kv (s : State) (src : BeatSrc) (e : Nat) : (State.glitch s src e).kv = s.kv := by simp [State.glitch]
@[simp] theorem State.glitch_sense (s : State) (src : BeatSrc) (e : Nat) : (State.glitch s src e).sense = s.sense := by simp [State.glitch]
@[simp] theorem State.glitch_pwr (s : State) (src : BeatSrc) (e : Nat) : (State.glitch s src e).pwr = s.pwr := by simp [State.glitch]
@[simp] theorem State.glitch_fab (s : State) (src : BeatSrc) (e : Nat) : (State.glitch s src e).fab = s.fab := by simp [State.glitch]
@[simp] theorem State.glitch_latch (s : State) (src : BeatSrc) (e : Nat) : (State.glitch s src e).latch = s.latch := by simp [State.glitch]
@[simp] theorem State.glitch_ward (s : State) (src : BeatSrc) (e : Nat) : (State.glitch s src e).ward = s.ward := by simp [State.glitch]
@[simp] theorem State.glitch_mem (s : State) (src : BeatSrc) (e : Nat) : (State.glitch s src e).mem = s.mem := by simp [State.glitch]
@[simp] theorem State.glitch_boot (s : State) (src : BeatSrc) (e : Nat) : (State.glitch s src e).boot = s.boot := by simp [State.glitch]
@[simp] theorem State.hostWrote_pending (s : State) (h : List HostCell) : (State.hostWrote s h).pending = s.pending := id rfl
@[simp] theorem State.hostWrote_now (s : State) (h : List HostCell) : (State.hostWrote s h).now = s.now := id rfl
@[simp] theorem State.hostWrote_out (s : State) (h : List HostCell) : (State.hostWrote s h).out = s.out := id rfl
@[simp] theorem State.hostWrote_free (s : State) (h : List HostCell) : (State.hostWrote s h).free = s.free := id rfl
@[simp] theorem State.hostWrote_part (s : State) (h : List HostCell) : (State.hostWrote s h).part = s.part := id rfl
@[simp] theorem State.hostWrote_cfg (s : State) (h : List HostCell) : (State.hostWrote s h).cfg = s.cfg := id rfl
@[simp] theorem State.hostWrote_waiting (s : State) (h : List HostCell) : (State.hostWrote s h).waiting = s.waiting := id rfl
@[simp] theorem State.hostWrote_cnt (s : State) (h : List HostCell) : (State.hostWrote s h).cnt = s.cnt := id rfl
@[simp] theorem State.hostWrote_store (s : State) (h : List HostCell) : (State.hostWrote s h).store = s.store := id rfl
@[simp] theorem State.hostWrote_beat (s : State) (h : List HostCell) : (State.hostWrote s h).beat = s.beat := id rfl
@[simp] theorem State.hostWrote_hier (s : State) (h : List HostCell) : (State.hostWrote s h).hier = s.hier := id rfl
@[simp] theorem State.hostWrote_gdp (s : State) (h : List HostCell) : (State.hostWrote s h).gdp = s.gdp := id rfl
@[simp] theorem State.hostWrote_funcs (s : State) (h : List HostCell) : (State.hostWrote s h).funcs = s.funcs := id rfl
@[simp] theorem State.hostWrote_evt (s : State) (h : List HostCell) : (State.hostWrote s h).evt = s.evt := id rfl
@[simp] theorem State.hostWrote_bist (s : State) (h : List HostCell) : (State.hostWrote s h).bist = s.bist := id rfl
@[simp] theorem State.hostWrote_eng (s : State) (h : List HostCell) : (State.hostWrote s h).eng = s.eng := id rfl
@[simp] theorem State.hostWrote_kpr (s : State) (h : List HostCell) : (State.hostWrote s h).kpr = s.kpr := id rfl
@[simp] theorem State.hostWrote_cal (s : State) (h : List HostCell) : (State.hostWrote s h).cal = s.cal := id rfl
@[simp] theorem State.hostWrote_slots (s : State) (h : List HostCell) : (State.hostWrote s h).slots = s.slots := id rfl
@[simp] theorem State.hostWrote_kwMem (s : State) (h : List HostCell) : (State.hostWrote s h).kwMem = s.kwMem := id rfl
@[simp] theorem State.hostWrote_srv (s : State) (h : List HostCell) : (State.hostWrote s h).srv = s.srv := id rfl
@[simp] theorem State.hostWrote_kv (s : State) (h : List HostCell) : (State.hostWrote s h).kv = s.kv := id rfl
@[simp] theorem State.hostWrote_sense (s : State) (h : List HostCell) : (State.hostWrote s h).sense = s.sense := id rfl
@[simp] theorem State.hostWrote_pwr (s : State) (h : List HostCell) : (State.hostWrote s h).pwr = s.pwr := id rfl
@[simp] theorem State.hostWrote_fab (s : State) (h : List HostCell) : (State.hostWrote s h).fab = s.fab := id rfl
@[simp] theorem State.hostWrote_latch (s : State) (h : List HostCell) : (State.hostWrote s h).latch = s.latch := id rfl
@[simp] theorem State.hostWrote_ward (s : State) (h : List HostCell) : (State.hostWrote s h).ward = s.ward := id rfl
@[simp] theorem State.hostWrote_mem (s : State) (h : List HostCell) : (State.hostWrote s h).mem = s.mem := id rfl
@[simp] theorem State.hostWrote_boot (s : State) (h : List HostCell) : (State.hostWrote s h).boot = s.boot := id rfl
@[simp] theorem State.readBack_pending (s : State) (eng : Nat) (tier : Nat) : (State.readBack s eng tier).pending = s.pending := by simp [State.readBack]
@[simp] theorem State.readBack_now (s : State) (eng : Nat) (tier : Nat) : (State.readBack s eng tier).now = s.now := by simp [State.readBack]
@[simp] theorem State.readBack_out (s : State) (eng : Nat) (tier : Nat) : (State.readBack s eng tier).out = s.out := by simp [State.readBack]
@[simp] theorem State.readBack_part (s : State) (eng : Nat) (tier : Nat) : (State.readBack s eng tier).part = s.part := by simp [State.readBack]
@[simp] theorem State.readBack_cfg (s : State) (eng : Nat) (tier : Nat) : (State.readBack s eng tier).cfg = s.cfg := by simp [State.readBack]
@[simp] theorem State.readBack_waiting (s : State) (eng : Nat) (tier : Nat) : (State.readBack s eng tier).waiting = s.waiting := by simp [State.readBack]
@[simp] theorem State.readBack_store (s : State) (eng : Nat) (tier : Nat) : (State.readBack s eng tier).store = s.store := by simp [State.readBack]
@[simp] theorem State.readBack_beat (s : State) (eng : Nat) (tier : Nat) : (State.readBack s eng tier).beat = s.beat := by simp [State.readBack]
@[simp] theorem State.readBack_hier (s : State) (eng : Nat) (tier : Nat) : (State.readBack s eng tier).hier = s.hier := by simp [State.readBack]
@[simp] theorem State.readBack_gdp (s : State) (eng : Nat) (tier : Nat) : (State.readBack s eng tier).gdp = s.gdp := by simp [State.readBack]
@[simp] theorem State.readBack_funcs (s : State) (eng : Nat) (tier : Nat) : (State.readBack s eng tier).funcs = s.funcs := by simp [State.readBack]
@[simp] theorem State.readBack_evt (s : State) (eng : Nat) (tier : Nat) : (State.readBack s eng tier).evt = s.evt := by simp [State.readBack]
@[simp] theorem State.readBack_bist (s : State) (eng : Nat) (tier : Nat) : (State.readBack s eng tier).bist = s.bist := by simp [State.readBack]
@[simp] theorem State.readBack_cal (s : State) (eng : Nat) (tier : Nat) : (State.readBack s eng tier).cal = s.cal := by simp [State.readBack]
@[simp] theorem State.readBack_slots (s : State) (eng : Nat) (tier : Nat) : (State.readBack s eng tier).slots = s.slots := by simp [State.readBack]
@[simp] theorem State.readBack_hostMem (s : State) (eng : Nat) (tier : Nat) : (State.readBack s eng tier).hostMem = s.hostMem := by simp [State.readBack]
@[simp] theorem State.readBack_kwMem (s : State) (eng : Nat) (tier : Nat) : (State.readBack s eng tier).kwMem = s.kwMem := by simp [State.readBack]
@[simp] theorem State.readBack_srv (s : State) (eng : Nat) (tier : Nat) : (State.readBack s eng tier).srv = s.srv := by simp [State.readBack]
@[simp] theorem State.readBack_kv (s : State) (eng : Nat) (tier : Nat) : (State.readBack s eng tier).kv = s.kv := by simp [State.readBack]
@[simp] theorem State.readBack_sense (s : State) (eng : Nat) (tier : Nat) : (State.readBack s eng tier).sense = s.sense := by simp [State.readBack]
@[simp] theorem State.readBack_pwr (s : State) (eng : Nat) (tier : Nat) : (State.readBack s eng tier).pwr = s.pwr := by simp [State.readBack]
@[simp] theorem State.readBack_fab (s : State) (eng : Nat) (tier : Nat) : (State.readBack s eng tier).fab = s.fab := by simp [State.readBack]
@[simp] theorem State.readBack_latch (s : State) (eng : Nat) (tier : Nat) : (State.readBack s eng tier).latch = s.latch := by simp [State.readBack]
@[simp] theorem State.readBack_ward (s : State) (eng : Nat) (tier : Nat) : (State.readBack s eng tier).ward = s.ward := by simp [State.readBack]
@[simp] theorem State.readBack_mem (s : State) (eng : Nat) (tier : Nat) : (State.readBack s eng tier).mem = s.mem := by simp [State.readBack]
@[simp] theorem State.readBack_boot (s : State) (eng : Nat) (tier : Nat) : (State.readBack s eng tier).boot = s.boot := by simp [State.readBack]
@[simp] theorem State.leavePass_pending (s : State) (p : Pass) : (State.leavePass s p).pending = s.pending := id rfl
@[simp] theorem State.leavePass_now (s : State) (p : Pass) : (State.leavePass s p).now = s.now := id rfl
@[simp] theorem State.leavePass_out (s : State) (p : Pass) : (State.leavePass s p).out = s.out := id rfl
@[simp] theorem State.leavePass_free (s : State) (p : Pass) : (State.leavePass s p).free = s.free := id rfl
@[simp] theorem State.leavePass_part (s : State) (p : Pass) : (State.leavePass s p).part = s.part := id rfl
@[simp] theorem State.leavePass_cfg (s : State) (p : Pass) : (State.leavePass s p).cfg = s.cfg := id rfl
@[simp] theorem State.leavePass_waiting (s : State) (p : Pass) : (State.leavePass s p).waiting = s.waiting := id rfl
@[simp] theorem State.leavePass_cnt (s : State) (p : Pass) : (State.leavePass s p).cnt = s.cnt := id rfl
@[simp] theorem State.leavePass_store (s : State) (p : Pass) : (State.leavePass s p).store = s.store := id rfl
@[simp] theorem State.leavePass_beat (s : State) (p : Pass) : (State.leavePass s p).beat = s.beat := id rfl
@[simp] theorem State.leavePass_hier (s : State) (p : Pass) : (State.leavePass s p).hier = s.hier := id rfl
@[simp] theorem State.leavePass_gdp (s : State) (p : Pass) : (State.leavePass s p).gdp = s.gdp := id rfl
@[simp] theorem State.leavePass_funcs (s : State) (p : Pass) : (State.leavePass s p).funcs = s.funcs := id rfl
@[simp] theorem State.leavePass_evt (s : State) (p : Pass) : (State.leavePass s p).evt = s.evt := id rfl
@[simp] theorem State.leavePass_bist (s : State) (p : Pass) : (State.leavePass s p).bist = s.bist := id rfl
@[simp] theorem State.leavePass_eng (s : State) (p : Pass) : (State.leavePass s p).eng = s.eng := id rfl
@[simp] theorem State.leavePass_cal (s : State) (p : Pass) : (State.leavePass s p).cal = s.cal := id rfl
@[simp] theorem State.leavePass_slots (s : State) (p : Pass) : (State.leavePass s p).slots = s.slots := id rfl
@[simp] theorem State.leavePass_hostMem (s : State) (p : Pass) : (State.leavePass s p).hostMem = s.hostMem := id rfl
@[simp] theorem State.leavePass_kwMem (s : State) (p : Pass) : (State.leavePass s p).kwMem = s.kwMem := id rfl
@[simp] theorem State.leavePass_srv (s : State) (p : Pass) : (State.leavePass s p).srv = s.srv := id rfl
@[simp] theorem State.leavePass_kv (s : State) (p : Pass) : (State.leavePass s p).kv = s.kv := id rfl
@[simp] theorem State.leavePass_sense (s : State) (p : Pass) : (State.leavePass s p).sense = s.sense := id rfl
@[simp] theorem State.leavePass_pwr (s : State) (p : Pass) : (State.leavePass s p).pwr = s.pwr := id rfl
@[simp] theorem State.leavePass_fab (s : State) (p : Pass) : (State.leavePass s p).fab = s.fab := id rfl
@[simp] theorem State.leavePass_latch (s : State) (p : Pass) : (State.leavePass s p).latch = s.latch := id rfl
@[simp] theorem State.leavePass_ward (s : State) (p : Pass) : (State.leavePass s p).ward = s.ward := id rfl
@[simp] theorem State.leavePass_mem (s : State) (p : Pass) : (State.leavePass s p).mem = s.mem := id rfl
@[simp] theorem State.leavePass_boot (s : State) (p : Pass) : (State.leavePass s p).boot = s.boot := id rfl
@[simp] theorem State.scanRing_pending (s : State) : (State.scanRing s).pending = s.pending := id rfl
@[simp] theorem State.scanRing_now (s : State) : (State.scanRing s).now = s.now := id rfl
@[simp] theorem State.scanRing_out (s : State) : (State.scanRing s).out = s.out := id rfl
@[simp] theorem State.scanRing_free (s : State) : (State.scanRing s).free = s.free := id rfl
@[simp] theorem State.scanRing_part (s : State) : (State.scanRing s).part = s.part := id rfl
@[simp] theorem State.scanRing_cfg (s : State) : (State.scanRing s).cfg = s.cfg := id rfl
@[simp] theorem State.scanRing_waiting (s : State) : (State.scanRing s).waiting = s.waiting := id rfl
@[simp] theorem State.scanRing_store (s : State) : (State.scanRing s).store = s.store := id rfl
@[simp] theorem State.scanRing_beat (s : State) : (State.scanRing s).beat = s.beat := id rfl
@[simp] theorem State.scanRing_hier (s : State) : (State.scanRing s).hier = s.hier := id rfl
@[simp] theorem State.scanRing_gdp (s : State) : (State.scanRing s).gdp = s.gdp := id rfl
@[simp] theorem State.scanRing_funcs (s : State) : (State.scanRing s).funcs = s.funcs := id rfl
@[simp] theorem State.scanRing_evt (s : State) : (State.scanRing s).evt = s.evt := id rfl
@[simp] theorem State.scanRing_bist (s : State) : (State.scanRing s).bist = s.bist := id rfl
@[simp] theorem State.scanRing_eng (s : State) : (State.scanRing s).eng = s.eng := id rfl
@[simp] theorem State.scanRing_kpr (s : State) : (State.scanRing s).kpr = s.kpr := id rfl
@[simp] theorem State.scanRing_cal (s : State) : (State.scanRing s).cal = s.cal := id rfl
@[simp] theorem State.scanRing_slots (s : State) : (State.scanRing s).slots = s.slots := id rfl
@[simp] theorem State.scanRing_hostMem (s : State) : (State.scanRing s).hostMem = s.hostMem := id rfl
@[simp] theorem State.scanRing_kwMem (s : State) : (State.scanRing s).kwMem = s.kwMem := id rfl
@[simp] theorem State.scanRing_srv (s : State) : (State.scanRing s).srv = s.srv := id rfl
@[simp] theorem State.scanRing_kv (s : State) : (State.scanRing s).kv = s.kv := id rfl
@[simp] theorem State.scanRing_sense (s : State) : (State.scanRing s).sense = s.sense := id rfl
@[simp] theorem State.scanRing_pwr (s : State) : (State.scanRing s).pwr = s.pwr := id rfl
@[simp] theorem State.scanRing_fab (s : State) : (State.scanRing s).fab = s.fab := id rfl
@[simp] theorem State.scanRing_latch (s : State) : (State.scanRing s).latch = s.latch := id rfl
@[simp] theorem State.scanRing_ward (s : State) : (State.scanRing s).ward = s.ward := id rfl
@[simp] theorem State.scanRing_mem (s : State) : (State.scanRing s).mem = s.mem := id rfl
@[simp] theorem State.scanRing_boot (s : State) : (State.scanRing s).boot = s.boot := id rfl
@[simp] theorem State.countVia_pending (s : State) (via : Option Nat) : (State.countVia s via).pending = s.pending := by unfold State.countVia; (repeat' split) <;> simp
@[simp] theorem State.countVia_now (s : State) (via : Option Nat) : (State.countVia s via).now = s.now := by unfold State.countVia; (repeat' split) <;> simp
@[simp] theorem State.countVia_out (s : State) (via : Option Nat) : (State.countVia s via).out = s.out := by unfold State.countVia; (repeat' split) <;> simp
@[simp] theorem State.countVia_part (s : State) (via : Option Nat) : (State.countVia s via).part = s.part := by unfold State.countVia; (repeat' split) <;> simp
@[simp] theorem State.countVia_cfg (s : State) (via : Option Nat) : (State.countVia s via).cfg = s.cfg := by unfold State.countVia; (repeat' split) <;> simp
@[simp] theorem State.countVia_waiting (s : State) (via : Option Nat) : (State.countVia s via).waiting = s.waiting := by unfold State.countVia; (repeat' split) <;> simp
@[simp] theorem State.countVia_store (s : State) (via : Option Nat) : (State.countVia s via).store = s.store := by unfold State.countVia; (repeat' split) <;> simp
@[simp] theorem State.countVia_beat (s : State) (via : Option Nat) : (State.countVia s via).beat = s.beat := by unfold State.countVia; (repeat' split) <;> simp
@[simp] theorem State.countVia_hier (s : State) (via : Option Nat) : (State.countVia s via).hier = s.hier := by unfold State.countVia; (repeat' split) <;> simp
@[simp] theorem State.countVia_gdp (s : State) (via : Option Nat) : (State.countVia s via).gdp = s.gdp := by unfold State.countVia; (repeat' split) <;> simp
@[simp] theorem State.countVia_funcs (s : State) (via : Option Nat) : (State.countVia s via).funcs = s.funcs := by unfold State.countVia; (repeat' split) <;> simp
@[simp] theorem State.countVia_evt (s : State) (via : Option Nat) : (State.countVia s via).evt = s.evt := by unfold State.countVia; (repeat' split) <;> simp
@[simp] theorem State.countVia_bist (s : State) (via : Option Nat) : (State.countVia s via).bist = s.bist := by unfold State.countVia; (repeat' split) <;> simp
@[simp] theorem State.countVia_eng (s : State) (via : Option Nat) : (State.countVia s via).eng = s.eng := by unfold State.countVia; (repeat' split) <;> simp
@[simp] theorem State.countVia_kpr (s : State) (via : Option Nat) : (State.countVia s via).kpr = s.kpr := by unfold State.countVia; (repeat' split) <;> simp
@[simp] theorem State.countVia_cal (s : State) (via : Option Nat) : (State.countVia s via).cal = s.cal := by unfold State.countVia; (repeat' split) <;> simp
@[simp] theorem State.countVia_slots (s : State) (via : Option Nat) : (State.countVia s via).slots = s.slots := by unfold State.countVia; (repeat' split) <;> simp
@[simp] theorem State.countVia_hostMem (s : State) (via : Option Nat) : (State.countVia s via).hostMem = s.hostMem := by unfold State.countVia; (repeat' split) <;> simp
@[simp] theorem State.countVia_kwMem (s : State) (via : Option Nat) : (State.countVia s via).kwMem = s.kwMem := by unfold State.countVia; (repeat' split) <;> simp
@[simp] theorem State.countVia_srv (s : State) (via : Option Nat) : (State.countVia s via).srv = s.srv := by unfold State.countVia; (repeat' split) <;> simp
@[simp] theorem State.countVia_kv (s : State) (via : Option Nat) : (State.countVia s via).kv = s.kv := by unfold State.countVia; (repeat' split) <;> simp
@[simp] theorem State.countVia_sense (s : State) (via : Option Nat) : (State.countVia s via).sense = s.sense := by unfold State.countVia; (repeat' split) <;> simp
@[simp] theorem State.countVia_pwr (s : State) (via : Option Nat) : (State.countVia s via).pwr = s.pwr := by unfold State.countVia; (repeat' split) <;> simp
@[simp] theorem State.countVia_fab (s : State) (via : Option Nat) : (State.countVia s via).fab = s.fab := by unfold State.countVia; (repeat' split) <;> simp
@[simp] theorem State.countVia_latch (s : State) (via : Option Nat) : (State.countVia s via).latch = s.latch := by unfold State.countVia; (repeat' split) <;> simp
@[simp] theorem State.countVia_ward (s : State) (via : Option Nat) : (State.countVia s via).ward = s.ward := by unfold State.countVia; (repeat' split) <;> simp
@[simp] theorem State.countVia_mem (s : State) (via : Option Nat) : (State.countVia s via).mem = s.mem := by unfold State.countVia; (repeat' split) <;> simp
@[simp] theorem State.countVia_boot (s : State) (via : Option Nat) : (State.countVia s via).boot = s.boot := by unfold State.countVia; (repeat' split) <;> simp
/-- Outside SEEKING, and not for it, no notches are put aside (R634). -/
theorem State.countNotches_idle (s : State) (m : BeatMode) (h : s.beat.mode ≠ .seeking) (h2 : m ≠ .seeking) : s.countNotches m = s := by
  simp [State.countNotches, h, h2]
/-- What entering a beat state writes of the beat: the state and its begin, and the notches spent where SEEKING begins or ends. -/
theorem State.beatTo_beat (s : State) (m : BeatMode) :
    (s.beatTo m).beat = { (s.seekBeats.countNotches m).beat with mode := m, since := s.now } := by
  cases m <;> simp [State.beatTo]
/-- … between LOCKED, FREERUN and SELF the state and its begin alone. -/
theorem State.beatTo_beat_locked (s : State) (m : BeatMode) (h : s.beat.mode ≠ .seeking) (h2 : m ≠ .seeking) :
    (s.beatTo m).beat = { s.beat with mode := m, since := s.now } := by
  rw [State.beatTo_beat, State.countNotches_idle _ _ (by simpa using h) h2, State.seekBeats_beat]
end Sys2Proof.Machine
end

