-- ==== Sys2Proof/Laws/Cells.lean ====
section
/-! SUPPORT. Laws/Cells.lean: host memory and the keyways' memories as one tuple, and how a record update, a choice and a fold carry it. -/
namespace Sys2Proof.Machine
open Sys2Proof
/-- Host memory and the keyways' memories. -/
def State.hk (s : State) : List Host.Cell × Map (List Host.Cell) := (s.hostMem, s.kwMem)
@[simp] theorem hk_eta (s : State) : (s.hostMem, s.kwMem) = s.hk := id rfl
@[simp] theorem hk_mk (pending_ : List Instr) (now_ : Nat) (out_ : List Output) (free_ : Nat) (part_ : Part) (cfg_ : List (OKey × OVal)) (waiting_ : List (OKey × OVal)) (cnt_ : List (OKey × Nat)) (store_ : List (OKey × OVal)) (beat_ : BeatS) (hier_ : HierS) (gdp_ : GdpS) (funcs_ : List (Func × FuncS)) (evt_ : EvtS) (bist_ : BistS) (eng_ : Map EngS) (kpr_ : KprS) (cal_ : CalS) (slots_ : SlotsS) (hostMem_ : List Host.Cell) (kwMem_ : Map (List Host.Cell)) (srv_ : SrvS) (kv_ : KvS) (sense_ : SenseS) (pwr_ : PwrS) (fab_ : FabS) (latch_ : LatchS) (ward_ : WardS) (mem_ : MemS) (boot_ : BootS) :
    (State.mk pending_ now_ out_ free_ part_ cfg_ waiting_ cnt_ store_ beat_ hier_ gdp_ funcs_ evt_ bist_ eng_ kpr_ cal_ slots_ hostMem_ kwMem_ srv_ kv_ sense_ pwr_ fab_ latch_ ward_ mem_ boot_).hk = (hostMem_, kwMem_) := id rfl
@[simp] theorem hk_ite (c : Prop) [Decidable c] (a b : State) : (if c then a else b).hk = if c then a.hk else b.hk := by split <;> rfl
@[simp] theorem hk_foldl {α : Type} (f : State → α → State) (h : ∀ x a, (f x a).hk = x.hk) (l : List α) (s : State) : (l.foldl f s).hk = s.hk := by
  induction l generalizing s with
  | nil => rfl
  | cons a r ih => simp [ih, h]
@[simp] theorem State.at_hk (s : State) (n : Nat) : (s.at n).hk = s.hk := id rfl
end Sys2Proof.Machine
end

