-- ==== Sys2Proof/Laws/Cells1.lean ====
section
/-! SUPPORT. Laws/Cells1.lean: operations that leave it as it was (part 1 of 4, each operation after those it calls). -/
namespace Sys2Proof.Machine
open Sys2Proof
@[simp] theorem State.emit_hk (s : State) (o : Output) :
    (State.emit s o).hk = s.hk := by simp [State.emit]
@[simp] theorem State.drawn_hk (s : State) :
    (State.drawn s).hk = s.hk := by simp [State.drawn]
@[simp] theorem State.random_hk (s : State) (n : Nat) :
    (State.random s n).1.hk = s.hk := by simp [State.random]
@[simp] theorem State.putSetting_hk (s : State) (k : OKey) (v : OVal) :
    (State.putSetting s k v).hk = s.hk := by simp [State.putSetting]
@[simp] theorem State.putCount_hk (s : State) (k : OKey) (v : Nat) :
    (State.putCount s k v).hk = s.hk := by simp [State.putCount]
@[simp] theorem State.addCount_hk (s : State) (k : OKey) (n : Nat) :
    (State.addCount s k n).hk = s.hk := by simp [State.addCount]
@[simp] theorem State.inc_hk (s : State) (o : Obj) (n : Nat) :
    (State.inc s o n).hk = s.hk := by simp [State.inc]
@[simp] theorem State.incK_hk (s : State) (o : Obj) (kw : Nat) (n : Nat) :
    (State.incK s o kw n).hk = s.hk := by simp [State.incK]
@[simp] theorem State.incI_hk (s : State) (o : Obj) (inst : Nat) (n : Nat) :
    (State.incI s o inst n).hk = s.hk := by simp [State.incI]
@[simp] theorem State.dmaRead_hk (s : State) (fn : Nat) (a : Nat) (n : Nat) :
    (State.dmaRead s fn a n).1.hk = s.hk := by simp [State.dmaRead]
@[simp] theorem State.milestone_hk (s : State) (row : Nat) (ps : Nat) :
    (State.milestone s row ps).hk = s.hk := by simp [State.milestone]
@[simp] theorem State.raiseEv_hk (s : State) (e : Event) :
    (State.raiseEv s e).hk = s.hk := by simp [State.raiseEv]
@[simp] theorem State.raise_hk (s : State) (code : Nat) (kw : Nat) (unit : UnitId) (p0 : Nat) (p1 : Nat) (p2 : Nat) :
    (State.raise s code kw unit p0 p1 p2).hk = s.hk := by simp [State.raise]
@[simp] theorem State.raiseMany_hk (s : State) (code : Nat) (kw : Nat) (a1 : Nat) :
    (State.raiseMany s code kw a1).hk = s.hk := by fun_induction State.raiseMany s code kw a1 <;> simp_all
@[simp] theorem State.setOwn_hk (s : State) (u : UnitId) (x : UState) :
    (State.setOwn s u x).hk = s.hk := by simp [State.setOwn]
@[simp] theorem State.putEngine_hk (s : State) (n : Nat) (e : EngS) :
    (State.putEngine s n e).hk = s.hk := by simp [State.putEngine]
@[simp] theorem State.putTier_hk (s : State) (n : Nat) (t : Nat) (x : TierS) :
    (State.putTier s n t x).hk = s.hk := by simp [State.putTier]
@[simp] theorem State.putFunc_hk (s : State) (f : Func) (x : FuncS) :
    (State.putFunc s f x).hk = s.hk := by simp [State.putFunc]
@[simp] theorem State.putReq_hk (s : State) (i : Nat) (r : ReqS) :
    (State.putReq s i r).hk = s.hk := by simp [State.putReq]
@[simp] theorem State.putSub_hk (s : State) (fn : Nat) (x : SubS) :
    (State.putSub s fn x).hk = s.hk := by simp [State.putSub]
@[simp] theorem State.tokenIrq_hk (s : State) (kw : Nat) :
    (State.tokenIrq s kw).hk = s.hk := by simp [State.tokenIrq]
@[simp] theorem State.logEnd_hk (s : State) (i : Nat) :
    (State.logEnd s i).hk = s.hk := by simp [State.logEnd]
@[simp] theorem State.note_hk (s : State) (kw : Nat) (r : StandbyRec) :
    (State.note s kw r).hk = s.hk := by simp [State.note]
@[simp] theorem State.closeReq_hk (s : State) (i : Nat) (cause : Nat) :
    (State.closeReq s i cause).hk = s.hk := by simp [State.closeReq]
@[simp] theorem State.holdReq_hk (s : State) (i : Nat) (h : Hold) :
    (State.holdReq s i h).hk = s.hk := by simp [State.holdReq]
@[simp] theorem State.releaseReq_hk (s : State) (i : Nat) :
    (State.releaseReq s i).hk = s.hk := by simp [State.releaseReq]
@[simp] theorem State.dropWork_hk (s : State) (i : Nat) :
    (State.dropWork s i).hk = s.hk := by simp [State.dropWork]
@[simp] theorem State.faultStep_hk (s : State) (i : Nat) (f : StepFault) :
    (State.faultStep s i f).hk = s.hk := by simp [State.faultStep]
@[simp] theorem State.faultAll_hk (s : State) (f : StepFault) (a1 : List Nat) :
    (State.faultAll s f a1).hk = s.hk := by fun_induction State.faultAll s f a1 <;> simp_all
@[simp] theorem State.histCount_hk (s : State) (kw : Nat) (cls : Nat) (kind : Nat) (v : Nat) :
    (State.histCount s kw cls kind v).hk = s.hk := by simp [State.histCount]
@[simp] theorem State.putSlot_hk (s : State) (n : Nat) (x : SlotS) :
    (State.putSlot s n x).hk = s.hk := by simp [State.putSlot]
@[simp] theorem State.mapTile_hk (s : State) (eng : Nat) (tier : Nat) (f : Tile → Tile) :
    (State.mapTile s eng tier f).hk = s.hk := by simp [State.mapTile]
@[simp] theorem State.mapVer_hk (s : State) (n : Nat) (w : Which) (f : Version → Version) :
    (State.mapVer s n w f).hk = s.hk := by simp [State.mapVer]
@[simp] theorem State.verifyTile_hk (s : State) (eng : Nat) (tier : Nat) (cells : List CellRead) :
    (State.verifyTile s eng tier cells).hk = s.hk := by unfold State.verifyTile; (repeat' split) <;> simp
@[simp] theorem State.funcTo_hk (s : State) (f : Func) (x : FState) :
    (State.funcTo s f x).hk = s.hk := by simp [State.funcTo]
@[simp] theorem State.funcKeep_hk (s : State) (f : Func) :
    (State.funcKeep s f).hk = s.hk := by simp [State.funcKeep]
@[simp] theorem State.funcFail_hk (s : State) (f : Func) (cause : Nat) :
    (State.funcFail s f cause).hk = s.hk := by simp [State.funcFail]
@[simp] theorem State.funcForce_hk (s : State) (f : Func) :
    (State.funcForce s f).hk = s.hk := by simp [State.funcForce]
@[simp] theorem State.memTake_hk (s : State) (kw : Nat) (bytes : Nat) :
    (State.memTake s kw bytes).hk = s.hk := by simp [State.memTake]
@[simp] theorem State.memGive_hk (s : State) (kw : Nat) (bytes : Nat) :
    (State.memGive s kw bytes).hk = s.hk := by simp [State.memGive]
@[simp] theorem State.devTake_hk (s : State) (d : DevMem) (bytes : Nat) :
    (State.devTake s d bytes).hk = s.hk := by simp [State.devTake]
@[simp] theorem State.devGive_hk (s : State) (d : DevMem) (bytes : Nat) :
    (State.devGive s d bytes).hk = s.hk := by simp [State.devGive]
@[simp] theorem State.putKway_hk (s : State) (n : Nat) (x : KeywayS) :
    (State.putKway s n x).hk = s.hk := by simp [State.putKway]
@[simp] theorem State.putPort_hk (s : State) (p : Nat) (x : PortS) :
    (State.putPort s p x).hk = s.hk := by simp [State.putPort]
@[simp] theorem State.scanCandidates_hk (s : State) (flow : Nat) (a1 : List Nat) :
    (State.scanCandidates s flow a1).1.hk = s.hk := by fun_induction State.scanCandidates s flow a1 <;> simp_all
@[simp] theorem State.route_hk (s : State) (dst : Nat) (flow : Nat) :
    (State.route s dst flow).1.hk = s.hk := by simp only [State.route]; (repeat' split) <;> simp
@[simp] theorem State.countVia_hk (s : State) (via : Option Nat) :
    (State.countVia s via).hk = s.hk := by simp [State.countVia]
@[simp] theorem State.putKeySlot_hk (s : State) (n : Nat) (k : KeySlot) :
    (State.putKeySlot s n k).hk = s.hk := by simp [State.putKeySlot]
@[simp] theorem State.sendOn_hk (s : State) (p : Nat) (f : HFrame) :
    (State.sendOn s p f).hk = s.hk := by simp [State.sendOn]
@[simp] theorem State.sendAll_hk (s : State) (p : Nat) (a1 : List HFrame) :
    (State.sendAll s p a1).hk = s.hk := by fun_induction State.sendAll s p a1 <;> simp_all
@[simp] theorem State.floodOn_hk (s : State) (except : Option Nat) (f : HFrame) :
    (State.floodOn s except f).hk = s.hk := by simp [State.floodOn]
@[simp] theorem State.dropFlow_hk (s : State) (num : Nat) :
    (State.dropFlow s num).hk = s.hk := by simp [State.dropFlow]
@[simp] theorem State.mapFlow_hk (s : State) (num : Nat) (g : Flow → Flow) :
    (State.mapFlow s num g).hk = s.hk := by simp [State.mapFlow]
@[simp] theorem State.pump_hk (s : State) (num : Nat) :
    (State.pump s num).hk = s.hk := by unfold State.pump; (repeat' split) <;> simp
@[simp] theorem State.startFlow_hk (s : State) (kind : FlowKind) (dst : Nat) (kw : Nat) (l : List FlowItem) :
    (State.startFlow s kind dst kw l).1.hk = s.hk := by simp only [State.startFlow]; (repeat' split) <;> simp
theorem State.startFlow_hk' {s : State} {kind : FlowKind} {dst : Nat} {kw : Nat} {l : List FlowItem} {t_ : State} {y_} (h : State.startFlow s kind dst kw l = (t_, y_)) : t_.hk = s.hk := by
  have k := State.startFlow_hk s kind dst kw l; rw [h] at k; exact k
@[simp] theorem State.answer_hk (s : State) (f : HFrame) (l : List FlowItem) :
    (State.answer s f l).hk = s.hk := by simp only [State.answer]; (repeat' split) <;> simp
@[simp] theorem State.sendRecords_hk (s : State) (kw : Nat) (recs : List StandbyRec) (a3 : List Nat) :
    (State.sendRecords s kw recs a3).hk = s.hk := by
  induction a3 generalizing s with
  | nil => rfl
  | cons a_ r_ ih =>
    unfold State.sendRecords
    dsimp only
    rw [ih]
    split <;> simp
@[simp] theorem State.flush_hk (s : State) :
    (State.flush s).hk = s.hk := by simp [State.flush]
@[simp] theorem State.replyTo_hk (s : State) (f : HFrame) (type : Nat) (status : Nat) (pay : Bytes) :
    (State.replyTo s f type status pay).hk = s.hk := by simp [State.replyTo]
@[simp] theorem State.changeTier_hk (s : State) (eng : Nat) (tier : Nat) (x : TierS) :
    (State.changeTier s eng tier x).hk = s.hk := by simp [State.changeTier]
@[simp] theorem State.abandonRuns_hk (s : State) (p : Nat → Bool) :
    (State.abandonRuns s p).hk = s.hk := by simp [State.abandonRuns]
@[simp] theorem State.discardUnit_hk (s : State) (u : UnitId) :
    (State.discardUnit s u).hk = s.hk := by simp [State.discardUnit]
@[simp] theorem State.isolateFault_hk (s : State) (u : UnitId) :
    (State.isolateFault s u).hk = s.hk := by simp [State.isolateFault]
@[simp] theorem State.flagColumn_hk (s : State) (eng : Nat) (tier : Nat) (col : Nat) :
    (State.flagColumn s eng tier col).hk = s.hk := by simp [State.flagColumn]
@[simp] theorem State.flagColumns_hk (s : State) (eng : Nat) (tier : Nat) (a1 : List Nat) :
    (State.flagColumns s eng tier a1).hk = s.hk := by fun_induction State.flagColumns s eng tier a1 <;> simp_all
@[simp] theorem State.unflagColumn_hk (s : State) (eng : Nat) (tier : Nat) (col : Nat) :
    (State.unflagColumn s eng tier col).hk = s.hk := by simp [State.unflagColumn]
@[simp] theorem State.retireEngine_hk (s : State) (eng : Nat) (c : RetireCause) :
    (State.retireEngine s eng c).hk = s.hk := by simp [State.retireEngine]
@[simp] theorem State.retireTier_hk (s : State) (eng : Nat) (tier : Nat) :
    (State.retireTier s eng tier).hk = s.hk := by simp [State.retireTier]
@[simp] theorem State.sparesLow_hk (s : State) (eng : Nat) (tier : Nat) (before : Nat) :
    (State.sparesLow s eng tier before).hk = s.hk := by simp [State.sparesLow]
@[simp] theorem State.sparesLowAll_hk (s : State) (eng : Nat) (before : List Nat) :
    (State.sparesLowAll s eng before).hk = s.hk := by simp [State.sparesLowAll]
@[simp] theorem State.markRaised_hk (s : State) (old : Nat) :
    (State.markRaised s old).hk = s.hk := by simp [State.markRaised]
@[simp] theorem State.cellRemap_hk (s : State) (eng : Nat) (tier : Nat) (col : Nat) :
    (State.cellRemap s eng tier col).hk = s.hk := by simp only [State.cellRemap]; (repeat' split) <;> simp
@[simp] theorem State.pathRemap_hk (s : State) (eng : Nat) (tier : Nat) (col : Nat) :
    (State.pathRemap s eng tier col).hk = s.hk := by simp only [State.pathRemap]; (repeat' split) <;> simp
@[simp] theorem State.chargePasses_hk (s : State) (eng : Nat) (n : Nat) (sA : Nat) (selected : Bool) :
    (State.chargePasses s eng n sA selected).hk = s.hk := by simp [State.chargePasses]
@[simp] theorem State.chargeSelect_hk (s : State) :
    (State.chargeSelect s).hk = s.hk := by simp [State.chargeSelect]
@[simp] theorem State.readBack_hk (s : State) (eng : Nat) (tier : Nat) :
    (State.readBack s eng tier).hk = s.hk := by simp [State.readBack]
@[simp] theorem State.refuseOrder_hk (s : State) (o : PassOrder) :
    (State.refuseOrder s o).hk = s.hk := by simp [State.refuseOrder]
@[simp] theorem State.takeOrder_hk (s : State) (o : PassOrder) :
    (State.takeOrder s o).hk = s.hk := by simp [State.takeOrder]
@[simp] theorem State.takeOrders_hk (s : State) (a1 : List PassOrder) :
    (State.takeOrders s a1).hk = s.hk := by fun_induction State.takeOrders s a1 <;> simp_all
@[simp] theorem State.sweepQueue_hk (s : State) (core : Nat) :
    (State.sweepQueue s core).hk = s.hk := by simp [State.sweepQueue]
@[simp] theorem State.startPass_hk (s : State) (o : PassOrder) :
    (State.startPass s o).hk = s.hk := by simp [State.startPass]
@[simp] theorem State.startPasses_hk (s : State) (a1 : List PassOrder) :
    (State.startPasses s a1).hk = s.hk := by fun_induction State.startPasses s a1 <;> simp_all
@[simp] theorem State.inStepCfg_hk (s : State) (beat : Nat) (f : State → State) (h_f : ∀ x0, (f x0).hk = x0.hk) :
    (State.inStepCfg s beat f).hk = s.hk := by simp only [State.inStepCfg]; (repeat' split) <;> simp [h_f]
@[simp] theorem State.keepStepCfg_hk (s : State) :
    (State.keepStepCfg s).hk = s.hk := by simp [State.keepStepCfg]
@[simp] theorem coreSlot_hk (core : Nat) (l : List PassOrder) (s : State) :
    (coreSlot core l s).hk = s.hk := by simp [coreSlot]
@[simp] theorem State.rangeFail_hk (s : State) (p : Pass) (col : Nat) :
    (State.rangeFail s p col).hk = s.hk := by simp [State.rangeFail]
@[simp] theorem State.rangeFailAll_hk (s : State) (p : Pass) (a1 : List Nat) :
    (State.rangeFailAll s p a1).hk = s.hk := by fun_induction State.rangeFailAll s p a1 <;> simp_all
@[simp] theorem State.leavePass_hk (s : State) (p : Pass) :
    (State.leavePass s p).hk = s.hk := by simp [State.leavePass]
@[simp] theorem State.endPass_hk (s : State) (d : PassDone) :
    (State.endPass s d).hk = s.hk := by simp [State.endPass]
@[simp] theorem State.rePass_hk (s : State) (p : Pass) :
    (State.rePass s p).hk = s.hk := by simp [State.rePass]
@[simp] theorem State.capture_hk (s : State) (p : Pass) (ws : List Nat) (outs : List OutNum) :
    (State.capture s p ws outs).hk = s.hk := by simp [State.capture]
@[simp] theorem State.settle_hk (s : State) (p : Pass) (ws : List Nat) :
    (State.settle s p ws).hk = s.hk := by simp [State.settle]
@[simp] theorem countWords_hk (r : PassResult) (s : State) :
    (countWords r s).hk = s.hk := by unfold countWords; (repeat' split) <;> simp
@[simp] theorem State.repairFailed_hk (s : State) (p : Pass) (j : Nat) :
    (State.repairFailed s p j).hk = s.hk := by simp [State.repairFailed]
@[simp] theorem State.repairFailedAll_hk (s : State) (p : Pass) (a1 : List Nat) :
    (State.repairFailedAll s p a1).hk = s.hk := by fun_induction State.repairFailedAll s p a1 <;> simp_all
@[simp] theorem State.subRange_hk (s : State) (p : Pass) (a1 : List (List Nat)) :
    (State.subRange s p a1).hk = s.hk := by fun_induction State.subRange s p a1 <;> simp_all
@[simp] theorem splitDone_hk (r : SplitResult) (s : State) :
    (splitDone r s).hk = s.hk := by unfold splitDone; (repeat' split) <;> simp
@[simp] theorem State.diagEnd_hk (s : State) (eng : Nat) (d : Diag) (read : List Nat) :
    (State.diagEnd s eng d read).hk = s.hk := by unfold State.diagEnd; (repeat' split) <;> simp
@[simp] theorem State.deEscalate_hk (s : State) (eng : Nat) :
    (State.deEscalate s eng).hk = s.hk := by simp [State.deEscalate]
@[simp] theorem State.startDiag_hk (s : State) (eng : Nat) :
    (State.startDiag s eng).hk = s.hk := by simp only [State.startDiag]; (repeat' split) <;> simp
@[simp] theorem State.shadowRemap_hk (s : State) (eng : Nat) (j : SpareJob) :
    (State.shadowRemap s eng j).hk = s.hk := by simp [State.shadowRemap]
@[simp] theorem State.swapRemap_hk (s : State) (eng : Nat) (tier : Nat) :
    (State.swapRemap s eng tier).hk = s.hk := by simp [State.swapRemap]
@[simp] theorem State.applyRetire_hk (s : State) (eng : Nat) :
    (State.applyRetire s eng).hk = s.hk := by simp only [State.applyRetire]; (repeat' split) <;> simp 
@[simp] theorem State.draftsLost_hk (s : State) (n : Nat) :
    (State.draftsLost s n).hk = s.hk := by simp [State.draftsLost]
@[simp] theorem State.slotTo_hk (s : State) (n : Nat) (st : SlotState) :
    (State.slotTo s n st).hk = s.hk := by simp [State.slotTo]
@[simp] theorem State.writeRecord_hk (s : State) (n : Nat) :
    (State.writeRecord s n).hk = s.hk := by simp [State.writeRecord]
@[simp] theorem State.freeVersion_hk (s : State) (n : Nat) (v : Version) (staged : Bool) :
    (State.freeVersion s n v staged).hk = s.hk := by simp [State.freeVersion]
@[simp] theorem State.putRing_hk (s : State) (fn : Nat) (r : RingS) :
    (State.putRing s fn r).hk = s.hk := by simp [State.putRing]
@[simp] theorem State.mapReq_hk (s : State) (n : Nat) (version : Nat) (index : Nat) (f : ShardReq → ShardReq) :
    (State.mapReq s n version index f).hk = s.hk := by simp [State.mapReq]
@[simp] theorem State.imageTiles_hk (s : State) (n : Nat) (w : Which) (h : ShardHdr) (pay : Bytes) :
    (State.imageTiles s n w h pay).hk = s.hk := by unfold State.imageTiles; (repeat' split) <;> simp
@[simp] theorem State.storeShard_hk (s : State) (n : Nat) (v : Version) (index : Nat) (bytes : Bytes) :
    (State.storeShard s n v index bytes).hk = s.hk := by simp [State.storeShard]
@[simp] theorem State.readyTiles_hk (s : State) (n : Nat) :
    (State.readyTiles s n).hk = s.hk := by simp [State.readyTiles]
@[simp] theorem State.readySlot_hk (s : State) (n : Nat) :
    (State.readySlot s n).hk = s.hk := by simp only [State.readySlot]; (repeat' split) <;> simp
@[simp] theorem State.slotsReady_hk (s : State) :
    (State.slotsReady s).hk = s.hk := by simp [State.slotsReady]
@[simp] theorem State.sealedFail_hk (s : State) (kw : Nat) :
    (State.sealedFail s kw).hk = s.hk := by simp [State.sealedFail]
@[simp] theorem State.putTotal_hk (s : State) (z : Total) :
    (State.putTotal s z).hk = s.hk := by simp [State.putTotal]
@[simp] theorem State.addTerm_hk (s : State) (k : TotalKey) (place : Nat) (t : Term) :
    (State.addTerm s k place t).hk = s.hk := by simp only [State.addTerm]; (repeat' split) <;> simp
@[simp] theorem State.dropTerms_hk (s : State) (k : TotalKey) (places : List Nat) :
    (State.dropTerms s k places).hk = s.hk := by simp only [State.dropTerms]; (repeat' split) <;> simp 
@[simp] theorem State.mapOut_hk (s : State) (engs : List Nat) (tier : Nat) (k : TotalKey) (j : Nat) (f : OutNum → OutNum) :
    (State.mapOut s engs tier k j f).hk = s.hk := by simp [State.mapOut]
@[simp] theorem State.chunkOverflow_hk (s : State) (core : Nat) (k : TotalKey) (tier : Nat) (engs : List Nat) (j : Nat) :
    (State.chunkOverflow s core k tier engs j).hk = s.hk := by simp [State.chunkOverflow]
@[simp] theorem State.promoteChunk_hk (s : State) (core : Nat) (k : TotalKey) (tier : Nat) (engs : List Nat) (half : PassHalf) :
    (State.promoteChunk s core k tier engs half).hk = s.hk := by simp only [State.promoteChunk]; (repeat' split) <;> simp
@[simp] theorem State.repairOut_hk (s : State) (core : Nat) (k : TotalKey) (tier : Nat) (engs : List Nat) (eng : Nat) (blocks : List DBlock) :
    (State.repairOut s core k tier engs eng blocks).hk = s.hk := by simp only [State.repairOut]; (repeat' split) <;> simp 
@[simp] theorem State.addSplit_hk (s : State) (core : Nat) (k : TotalKey) (tier : Nat) (engs : List Nat) (eng : Nat) (half : PassHalf) :
    (State.addSplit s core k tier engs eng half).hk = s.hk := by unfold State.addSplit; (repeat' split) <;> simp
@[simp] theorem State.outlierDone_hk (s : State) (core : Nat) (req : Nat) :
    (State.outlierDone s core req).hk = s.hk := by simp [State.outlierDone]
@[simp] theorem State.addOutlier_hk (s : State) (core : Nat) (k : TotalKey) (tier : Nat) (engs : List Nat) (eng : Nat) (row : Nat) (value : Nat) :
    (State.addOutlier s core k tier engs eng row value).hk = s.hk := by unfold State.addOutlier; (repeat' split) <;> simp
@[simp] theorem State.countNarrow_hk (s : State) (kw : Nat) (n : Narrowed) :
    (State.countNarrow s kw n).hk = s.hk := by simp [State.countNarrow]
@[simp] theorem State.nonfinite_hk (s : State) (kw : Nat) :
    (State.nonfinite s kw).hk = s.hk := by simp [State.nonfinite]
@[simp] theorem State.narrowFor_hk (s : State) (req : Nat) (fmt : Nat) (edge : Bool) (octaves : Bool) (x : List F32) (digital : List Bool) :
    (State.narrowFor s req fmt edge octaves x digital).1.hk = s.hk := by simp only [State.narrowFor]; (repeat' split) <;> simp
theorem State.narrowFor_hk' {s : State} {req : Nat} {fmt : Nat} {edge : Bool} {octaves : Bool} {x : List F32} {digital : List Bool} {t_ : State} {y_} (h : State.narrowFor s req fmt edge octaves x digital = (t_, y_)) : t_.hk = s.hk := by
  have k := State.narrowFor_hk s req fmt edge octaves x digital; rw [h] at k; exact k
@[simp] theorem State.addBlock_hk (s : State) (b : NarrowBlk) :
    (State.addBlock s b).hk = s.hk := by simp [State.addBlock]
@[simp] theorem State.narrowInto_hk (s : State) (core : Nat) (req : Nat) (fmt : Nat) (edge : Bool) (octaves : Bool) (x : List F32) (digital : List Bool) :
    (State.narrowInto s core req fmt edge octaves x digital).hk = s.hk := by
  unfold State.narrowInto
  (repeat' split) <;> first | (simp ; done) | (rename_i hx; have kx := congrArg (fun z => z.1.hk) hx; simp  at kx; simp [kx]; done) | (rename_i hx; have kx := congrArg (fun z => z.1.hk) hx; simp  at kx; simp ; exact kx)
@[simp] theorem State.narrowWork_hk (s : State) (core : Nat) (req : Nat) (place : NarrowPlace) (x : List F32) :
    (State.narrowWork s core req place x).hk = s.hk := by
  unfold State.narrowWork
  (try dsimp only)
  (repeat' split) <;> (first | with_reducible rfl | (simp; done) | exact (State.narrowFor_hk' ‹_›) | (simp; exact (State.narrowFor_hk' ‹_›)) | (rename_i hh; have kk := congrArg (fun z => z.1.hk) hh; simp at kk; exact kk) | (rename_i hh; have kk := congrArg (fun z => z.1.hk) hh; simp at kk; simp; exact kk) | (rename_i hh; have kk := congrArg (fun z => z.1.hk) hh; simp at kk; refine kk.trans ?_; exact (State.narrowFor_hk' ‹_›)) | (rename_i hh; have kk := congrArg (fun z => z.1.hk) hh; simp at kk; simp; refine kk.trans ?_; exact (State.narrowFor_hk' ‹_›)))
@[simp] theorem State.badBlock_hk (s : State) (kw : Nat) :
    (State.badBlock s kw).hk = s.hk := by simp [State.badBlock]
@[simp] theorem State.readBlockWork_hk (s : State) (req : Nat) (fmt : Nat) (used : Nat) (data : Bytes) (scale : Nat) :
    (State.readBlockWork s req fmt used data scale).hk = s.hk := by unfold State.readBlockWork; (repeat' split) <;> simp
@[simp] theorem State.narrowVec_hk (s : State) (req : Nat) (octaves : Bool) (a3 : List (List F32)) :
    (State.narrowVec s req octaves a3).1.hk = s.hk := by
  fun_induction State.narrowVec s req octaves a3 with
  | case1 => rfl
  | case2 s x r t h => exact State.narrowFor_hk' h
  | case3 s x r t n h u hu ih => rw [hu] at ih; exact ih.trans (State.narrowFor_hk' h)
  | case4 s x r t n h u l hu ih => rw [hu] at ih; exact ih.trans (State.narrowFor_hk' h)
theorem State.narrowVec_hk' {s : State} {req : Nat} {octaves : Bool} {a3 : List (List F32)} {t_ : State} {y_} (h : State.narrowVec s req octaves a3 = (t_, y_)) : t_.hk = s.hk := by
  have k := State.narrowVec_hk s req octaves a3; rw [h] at k; exact k
@[simp] theorem State.adapterWork_hk (s : State) (k : TotalKey) (x : List F32) :
    (State.adapterWork s k x).hk = s.hk := by
  unfold State.adapterWork
  (try dsimp only)
  (repeat' split) <;> (first | with_reducible rfl | (simp; done) | exact (State.narrowVec_hk' ‹_›) | (simp; exact (State.narrowVec_hk' ‹_›)) | exact ((State.narrowVec_hk' ‹_›).trans (State.narrowVec_hk' ‹_›)) | (simp; exact ((State.narrowVec_hk' ‹_›).trans (State.narrowVec_hk' ‹_›))) | (rename_i hh; have kk := congrArg (fun z => z.1.hk) hh; simp at kk; exact kk) | (rename_i hh; have kk := congrArg (fun z => z.1.hk) hh; simp at kk; simp; exact kk) | (rename_i hh; have kk := congrArg (fun z => z.1.hk) hh; simp at kk; refine kk.trans ?_; exact (State.narrowVec_hk' ‹_›)) | (rename_i hh; have kk := congrArg (fun z => z.1.hk) hh; simp at kk; simp; refine kk.trans ?_; exact (State.narrowVec_hk' ‹_›)) | (rename_i hh; have kk := congrArg (fun z => z.1.hk) hh; simp at kk; refine kk.trans ?_; exact ((State.narrowVec_hk' ‹_›).trans (State.narrowVec_hk' ‹_›))) | (rename_i hh; have kk := congrArg (fun z => z.1.hk) hh; simp at kk; simp; refine kk.trans ?_; exact ((State.narrowVec_hk' ‹_›).trans (State.narrowVec_hk' ‹_›))))
@[simp] theorem State.exactTierWork_hk (s : State) (core : Nat) (k : TotalKey) (shard : Nat) (blocks : List DBlock) :
    (State.exactTierWork s core k shard blocks).hk = s.hk := by simp only [State.exactTierWork]; (repeat' split) <;> simp
@[simp] theorem State.finishTotal_hk (s : State) (k : TotalKey) :
    (State.finishTotal s k).hk = s.hk := by unfold State.finishTotal; (repeat' split) <;> simp
@[simp] theorem State.reduceWork_hk (s : State) (req : Nat) (x : List F32) :
    (State.reduceWork s req x).hk = s.hk := by simp [State.reduceWork]
@[simp] theorem State.corrected_hk (s : State) (unit : UnitId) (row : Nat) :
    (State.corrected s unit row).hk = s.hk := by simp [State.corrected]
@[simp] theorem State.uncorrectable_hk (s : State) (req : Nat) (unit : UnitId) (addr : Nat) :
    (State.uncorrectable s req unit addr).hk = s.hk := by simp [State.uncorrectable]
@[simp] theorem State.transfer_hk (s : State) (req : Nat) (unit : UnitId) (addr : Nat) (e : EccResult) :
    (State.transfer s req unit addr e).hk = s.hk := by simp only [State.transfer]; (repeat' split) <;> simp 
end Sys2Proof.Machine
end

