-- ==== Sys2Proof/Laws/Cells2.lean ====
section
/-! SUPPORT. Laws/Cells2.lean: operations that leave it as it was (part 2 of 4, each operation after those it calls). -/
namespace Sys2Proof.Machine
open Sys2Proof
@[simp] theorem State.sramRead_hk (s : State) (req : Nat) (unit : UnitId) (row : Nat) (addr : Nat) (e : EccResult) :
    (State.sramRead s req unit row addr e).hk = s.hk := by unfold State.sramRead; (repeat' split) <;> simp
@[simp] theorem State.sramWrite_hk (s : State) (unit : UnitId) (addr : Nat) :
    (State.sramWrite s unit addr).hk = s.hk := by simp [State.sramWrite]
@[simp] theorem State.quarantine_hk (s : State) (unit : UnitId) (mismatch : Bool) :
    (State.quarantine s unit mismatch).hk = s.hk := by simp [State.quarantine]
@[simp] theorem State.residueMismatch_hk (s : State) (unit : UnitId) :
    (State.residueMismatch s unit).hk = s.hk := by simp [State.residueMismatch]
@[simp] theorem keeperWork_hk (core : Nat) (w : KeeperWork) (s : State) :
    (keeperWork core w s).hk = s.hk := by unfold keeperWork; (repeat' split) <;> simp
@[simp] theorem State.nameAffected_hk (s : State) (kw : Nat) (idx : Nat) (slot : Nat) (tag : Nat) (first : Nat) (last : Nat) :
    (State.nameAffected s kw idx slot tag first last).hk = s.hk := by simp [State.nameAffected]
@[simp] theorem State.nameAll_hk (s : State) (slot : Nat) (first : Nat) (last : Nat) (a1 : List (Nat × Nat × Nat)) :
    (State.nameAll s slot first last a1).hk = s.hk := by fun_induction State.nameAll s slot first last a1 <;> simp_all
@[simp] theorem State.nameAffectedAll_hk (s : State) (eng : Nat) (tier : Nat) (last : Nat) :
    (State.nameAffectedAll s eng tier last).hk = s.hk := by simp only [State.nameAffectedAll]; (repeat' split) <;> simp
@[simp] theorem State.coreEscalate_hk (s : State) (core : Nat) :
    (State.coreEscalate s core).hk = s.hk := by simp [State.coreEscalate]
@[simp] theorem State.auditFail_hk (s : State) (c : Capture) (j : Nat) :
    (State.auditFail s c j).hk = s.hk := by simp [State.auditFail]
@[simp] theorem State.auditFails_hk (s : State) (c : Capture) (a1 : List Nat) :
    (State.auditFails s c a1).hk = s.hk := by fun_induction State.auditFails s c a1 <;> simp_all
@[simp] theorem tileAudit_hk (core : Nat) (s : State) :
    (tileAudit core s).hk = s.hk := by unfold tileAudit; (repeat' split) <;> simp
@[simp] theorem State.placeDue_hk (s : State) (eng : Nat) :
    (State.placeDue s eng).hk = s.hk := by simp [State.placeDue]
@[simp] theorem State.backlog_hk (s : State) (eng : Nat) :
    (State.backlog s eng).hk = s.hk := by simp [State.backlog]
@[simp] theorem State.placeDueAll_hk (s : State) (a1 : List Nat) :
    (State.placeDueAll s a1).hk = s.hk := by fun_induction State.placeDueAll s a1 <;> simp_all
@[simp] theorem State.beginStage_hk (s : State) (eng : Nat) :
    (State.beginStage s eng).hk = s.hk := by simp only [State.beginStage]; (repeat' split) <;> simp
@[simp] theorem calStageStart_hk (eng : Nat) (s : State) :
    (calStageStart eng s).hk = s.hk := by simp [calStageStart]
@[simp] theorem State.discardRun_hk (s : State) (eng : Nat) :
    (State.discardRun s eng).hk = s.hk := by simp [State.discardRun]
@[simp] theorem State.chargeStage_hk (s : State) (eng : Nat) (st : Nat) (n : Nat) :
    (State.chargeStage s eng st n).hk = s.hk := by simp [State.chargeStage]
@[simp] theorem State.commitEngine_hk (s : State) (eng : Nat) (r : CalRun) :
    (State.commitEngine s eng r).hk = s.hk := by simp [State.commitEngine]
@[simp] theorem State.endStage_hk (s : State) (eng : Nat) (r : CalRun) :
    (State.endStage s eng r).hk = s.hk := by simp [State.endStage]
@[simp] theorem State.rampEvents_hk (s : State) (eng : Nat) (a1 : Nat) :
    (State.rampEvents s eng a1).hk = s.hk := by fun_induction State.rampEvents s eng a1 <;> simp_all
@[simp] theorem calRampDone_hk (eng : Nat) (x : List (List RampSum)) (s : State) :
    (calRampDone eng x s).hk = s.hk := by unfold calRampDone; (repeat' split) <;> simp
@[simp] theorem State.rejectColumn_hk (s : State) (eng : Nat) (tier : Nat) (col : Nat) :
    (State.rejectColumn s eng tier col).hk = s.hk := by simp [State.rejectColumn]
@[simp] theorem State.rejectColumns_hk (s : State) (eng : Nat) (tier : Nat) (a1 : List Nat) :
    (State.rejectColumns s eng tier a1).hk = s.hk := by fun_induction State.rejectColumns s eng tier a1 <;> simp_all
@[simp] theorem calCoarseDone_hk (eng : Nat) (tier : Nat) (cs : List ColSum) (s : State) :
    (calCoarseDone eng tier cs s).hk = s.hk := by unfold calCoarseDone; (repeat' split) <;> simp
@[simp] theorem calFineDone_hk (eng : Nat) (tier : Nat) (cs : List ColSum) (s : State) :
    (calFineDone eng tier cs s).hk = s.hk := by unfold calFineDone; (repeat' split) <;> simp
@[simp] theorem standoffEnd_hk (eng : Nat) (s : State) :
    (standoffEnd eng s).hk = s.hk := by simp [standoffEnd]
@[simp] theorem State.writeTrims_hk (s : State) (eng : Nat) :
    (State.writeTrims s eng).hk = s.hk := by simp [State.writeTrims]
@[simp] theorem trimStoreWrite_hk (eng : Nat) (s : State) :
    (trimStoreWrite eng s).hk = s.hk := by simp [trimStoreWrite]
@[simp] theorem State.dropReady_hk (s : State) (die : Nat) :
    (State.dropReady s die).hk = s.hk := by simp [State.dropReady]
@[simp] theorem vrefCompare_hk (die : Nat) (dev : Int) (s : State) :
    (vrefCompare die dev s).hk = s.hk := by simp [vrefCompare]
@[simp] theorem selfcalStart_hk (conv : Nat) (s : State) :
    (selfcalStart conv s).hk = s.hk := by simp [selfcalStart]
@[simp] theorem selfcalDone_hk (conv : Nat) (offset : Int) (gain : Int) (s : State) :
    (selfcalDone conv offset gain s).hk = s.hk := by simp [selfcalDone]
@[simp] theorem State.calOverrun_hk (s : State) (a1 : List Nat) :
    (State.calOverrun s a1).hk = s.hk := by fun_induction State.calOverrun s a1 <;> simp_all
@[simp] theorem State.commitAll_hk (s : State) (a1 : List Nat) :
    (State.commitAll s a1).hk = s.hk := by fun_induction State.commitAll s a1 <;> simp_all
@[simp] theorem State.deferSwaps_hk (s : State) (a1 : List Nat) :
    (State.deferSwaps s a1).hk = s.hk := by fun_induction State.deferSwaps s a1 <;> simp_all
@[simp] theorem State.calCommit_hk (s : State) (die : Nat) :
    (State.calCommit s die).hk = s.hk := by simp [State.calCommit]
@[simp] theorem State.lateSwap_hk (s : State) (eng : Nat) :
    (State.lateSwap s eng).hk = s.hk := by simp only [State.lateSwap]; (repeat' split) <;> simp 
@[simp] theorem State.diagRead_hk (s : State) (eng : Nat) (tier : Nat) (cells : List CellRead) :
    (State.diagRead s eng tier cells).hk = s.hk := by simp only [State.diagRead]; (repeat' split) <;> simp 
@[simp] theorem diagReadback_hk (eng : Nat) (tier : Nat) (cells : List CellRead) (s : State) :
    (diagReadback eng tier cells s).hk = s.hk := by simp only [diagReadback]; (repeat' split) <;> simp
@[simp] theorem State.calSkipped_hk (s : State) :
    (State.calSkipped s).hk = s.hk := by simp [State.calSkipped]
@[simp] theorem State.standoffTick_hk (s : State) :
    (State.standoffTick s).hk = s.hk := by simp [State.standoffTick]
@[simp] theorem State.calRequest_hk (s : State) (eng : Nat) :
    (State.calRequest s eng).hk = s.hk := by simp only [State.calRequest]; (repeat' split) <;> simp
@[simp] theorem shardPut_hk (fn : Nat) (lo : Nat) (hi : Nat) (len : Nat) (ctrl : Nat) (s : State) :
    (shardPut fn lo hi len ctrl s).hk = s.hk := by simp [shardPut]
@[simp] theorem putStatusRead_hk (fn : Nat) (s : State) :
    (putStatusRead fn s).hk = s.hk := by simp [putStatusRead]
@[simp] theorem State.replaceOn_hk (s : State) (core : Nat → Bool) (n : Nat) (w : Which) (v : Version) (chunk : Nat) :
    (State.replaceOn s core n w v chunk).hk = s.hk := by simp only [State.replaceOn]; (repeat' split) <;> simp
@[simp] theorem State.replaceChunk_hk (s : State) (n : Nat) (w : Which) (v : Version) (chunk : Nat) :
    (State.replaceChunk s n w v chunk).hk = s.hk := by simp [State.replaceChunk]
@[simp] theorem replaceRetry_hk (slot : Nat) (chunk : Nat) (s : State) :
    (replaceRetry slot chunk s).hk = s.hk := by simp only [replaceRetry]; (repeat' split) <;> simp 
@[simp] theorem State.eraseTier_hk (s : State) (eng : Nat) (tier : Nat) :
    (State.eraseTier s eng tier).hk = s.hk := by simp [State.eraseTier]
@[simp] theorem State.progRemap_hk (s : State) (eng : Nat) (tier : Nat) (col : Nat) (badSpares : List Nat) :
    (State.progRemap s eng tier col badSpares).hk = s.hk := by simp only [State.progRemap]; (repeat' split) <;> simp
@[simp] theorem State.progRemaps_hk (s : State) (eng : Nat) (tier : Nat) (badSpares : List Nat) (a1 : List Nat) :
    (State.progRemaps s eng tier badSpares a1).hk = s.hk := by fun_induction State.progRemaps s eng tier badSpares a1 <;> simp_all
@[simp] theorem State.programRead_hk (s : State) (eng : Nat) (tier : Nat) :
    (State.programRead s eng tier).hk = s.hk := by simp [State.programRead]
@[simp] theorem State.spareTried_hk (s : State) (eng : Nat) (tier : Nat) (j : SpareJob) (ok : Bool) :
    (State.spareTried s eng tier j ok).hk = s.hk := by simp [State.spareTried]
@[simp] theorem spareVerified_hk (eng : Nat) (tier : Nat) (spare : Nat) (ok : Bool) (energy : Nat) (s : State) :
    (spareVerified eng tier spare ok energy s).hk = s.hk := by simp only [spareVerified]; (repeat' split) <;> simp
@[simp] theorem scrubOverdue_hk (eng : Nat) (tier : Nat) (s : State) :
    (scrubOverdue eng tier s).hk = s.hk := by unfold scrubOverdue; (repeat' split) <;> simp
@[simp] theorem imageCheck_hk (eng : Nat) (tier : Nat) (flips : List (Nat × Byte)) (s : State) :
    (imageCheck eng tier flips s).hk = s.hk := by unfold imageCheck; (repeat' split) <;> simp
@[simp] theorem State.endSoon_hk (s : State) (cause : Nat) (p : ReqS → Bool) :
    (State.endSoon s cause p).hk = s.hk := by simp [State.endSoon]
@[simp] theorem State.cmdResult_hk (s : State) (n : Nat) (r : Nat) :
    (State.cmdResult s n r).hk = s.hk := by simp [State.cmdResult]
@[simp] theorem State.wipeSlot_hk (s : State) (n : Nat) :
    (State.wipeSlot s n).hk = s.hk := by simp only [State.wipeSlot]; (repeat' split) <;> simp
@[simp] theorem State.slotEmpty_hk (s : State) (n : Nat) :
    (State.slotEmpty s n).hk = s.hk := by simp [State.slotEmpty]
@[simp] theorem State.freeOld_hk (s : State) (n : Nat) :
    (State.freeOld s n).hk = s.hk := by simp only [State.freeOld]; (repeat' split) <;> simp
@[simp] theorem State.cutover_hk (s : State) (n : Nat) :
    (State.cutover s n).hk = s.hk := by simp only [State.cutover]; (repeat' split) <;> simp
@[simp] theorem State.swapChunks_hk (s : State) (n : Nat) (w : Which) :
    (State.swapChunks s n w).hk = s.hk := by unfold State.swapChunks; (repeat' split) <;> simp
@[simp] theorem State.serveCheck_hk (s : State) (n : Nat) :
    (State.serveCheck s n).hk = s.hk := by simp [State.serveCheck]
@[simp] theorem State.badImages_hk (s : State) (n : Nat) :
    (State.badImages s n).hk = s.hk := by simp [State.badImages]
@[simp] theorem State.seekBeats_hk (s : State) :
    (State.seekBeats s).hk = s.hk := by simp [State.seekBeats]
@[simp] theorem State.countNotches_hk (s : State) (m : BeatMode) :
    (State.countNotches s m).hk = s.hk := by simp [State.countNotches]
@[simp] theorem State.beatTo_hk (s : State) (m : BeatMode) :
    (State.beatTo s m).hk = s.hk := by unfold State.beatTo; (repeat' split) <;> simp
@[simp] theorem State.switchEvent_hk (s : State) (src : BeatSrc) (auto : Nat) :
    (State.switchEvent s src auto).hk = s.hk := by simp [State.switchEvent]
@[simp] theorem State.phaseError_hk (s : State) (err : Int) :
    (State.phaseError s err).hk = s.hk := by simp [State.phaseError]
@[simp] theorem State.acceptEdge_hk (s : State) (e : Nat) (num : Option Nat) (own : Bool) (err : Int) (period : Nat) :
    (State.acceptEdge s e num own err period).hk = s.hk := by simp only [State.acceptEdge]; (repeat' split) <;> simp
@[simp] theorem State.glitch_hk (s : State) (src : BeatSrc) (e : Nat) :
    (State.glitch s src e).hk = s.hk := by simp [State.glitch]
@[simp] theorem State.edgeInTransition_hk (s : State) (src : BeatSrc) (e : Nat) (num : Option Nat) (tr : Transition) :
    (State.edgeInTransition s src e num tr).hk = s.hk := by simp [State.edgeInTransition]
@[simp] theorem State.edgeInSeeking_hk (s : State) (src : BeatSrc) (e : Nat) (num : Option Nat) (lock : Option (List Nat)) :
    (State.edgeInSeeking s src e num lock).hk = s.hk := by unfold State.edgeInSeeking; (repeat' split) <;> simp
@[simp] theorem State.edgeInSelf_hk (s : State) (src : BeatSrc) (lock : Option (List Nat)) :
    (State.edgeInSelf s src lock).hk = s.hk := by simp [State.edgeInSelf]
@[simp] theorem State.edgeInBeat_hk (s : State) (src : BeatSrc) (e : Nat) (num : Option Nat) (lock : Option (List Nat)) :
    (State.edgeInBeat s src e num lock).hk = s.hk := by unfold State.edgeInBeat; (repeat' split) <;> simp
@[simp] theorem State.edgeSeen_hk (s : State) (src : BeatSrc) (e : Nat) (num : Option Nat) :
    (State.edgeSeen s src e num).hk = s.hk := by unfold State.edgeSeen; (repeat' split) <;> simp
@[simp] theorem State.beatEdge_hk (s : State) (src : BeatSrc) (e : Nat) (num : Option Nat) :
    (State.beatEdge s src e num).hk = s.hk := by simp only [State.beatEdge]; (repeat' split) <;> simp
@[simp] theorem State.echo_hk (s : State) (p : Nat) :
    (State.echo s p).hk = s.hk := by simp [State.echo]
@[simp] theorem beatMarker_hk (p : Nat) (number : Nat) (s : State) :
    (beatMarker p number s).hk = s.hk := by simp [beatMarker]
@[simp] theorem State.autoToLink_hk (s : State) :
    (State.autoToLink s).hk = s.hk := by simp [State.autoToLink]
@[simp] theorem missedBeat_hk (s : State) :
    (missedBeat s).hk = s.hk := by simp [missedBeat]
@[simp] theorem beatSelfTimed_hk (s : State) :
    (beatSelfTimed s).hk = s.hk := by simp [beatSelfTimed]
@[simp] theorem seekingTimeout_hk (s : State) :
    (seekingTimeout s).hk = s.hk := by simp [seekingTimeout]
@[simp] theorem transitionTimeout_hk (s : State) :
    (transitionTimeout s).hk = s.hk := by unfold transitionTimeout; (repeat' split) <;> simp
@[simp] theorem State.takeSource_hk (s : State) (src : BeatSrc) :
    (State.takeSource s src).hk = s.hk := by simp only [State.takeSource]; (repeat' split) <;> simp 
@[simp] theorem State.beginBeat_hk (s : State) :
    (State.beginBeat s).hk = s.hk := by simp only [State.beginBeat]; (repeat' split) <;> simp
@[simp] theorem State.selfResize_hk (s : State) :
    (State.selfResize s).hk = s.hk := by simp [State.selfResize]
@[simp] theorem State.sourceCheck_hk (s : State) (oldMode : Nat) (oldPort : Nat) :
    (State.sourceCheck s oldMode oldPort).hk = s.hk := by simp only [State.sourceCheck]; (repeat' split) <;> simp
@[simp] theorem State.sendMarkers_hk (s : State) :
    (State.sendMarkers s).hk = s.hk := by simp [State.sendMarkers]
@[simp] theorem State.overruns_hk (s : State) (a1 : List (Nat × Nat)) :
    (State.overruns s a1).hk = s.hk := by
  induction a1 generalizing s with
  | nil => rfl
  | cons a r ih => unfold State.overruns; rw [ih, State.raise_hk, State.inc_hk]
@[simp] theorem runPhaseStart_hk (s : State) :
    (runPhaseStart s).hk = s.hk := by simp [runPhaseStart]
@[simp] theorem State.startDiags_hk (s : State) (a1 : List Nat) :
    (State.startDiags s a1).hk = s.hk := by fun_induction State.startDiags s a1 <;> simp_all
@[simp] theorem State.quietDiags_hk (s : State) :
    (State.quietDiags s).hk = s.hk := by simp [State.quietDiags]
@[simp] theorem quietStart_hk (s : State) :
    (quietStart s).hk = s.hk := by simp [quietStart]
@[simp] theorem stepWorkEnd_hk (core : Nat) (s : State) :
    (stepWorkEnd core s).hk = s.hk := by simp [stepWorkEnd]
@[simp] theorem heartbeat_hk (u : UnitId) (s : State) :
    (heartbeat u s).hk = s.hk := by simp [heartbeat]
@[simp] theorem State.mapReqs_hk (s : State) (p : Nat → ReqS → Bool) (f : State → Nat → State) (h_f : ∀ x0 x1, (f x0 x1).hk = x0.hk) :
    (State.mapReqs s p f).hk = s.hk := by simp [State.mapReqs, h_f]
@[simp] theorem State.resetWork_hk (s : State) (u : UnitId) :
    (State.resetWork s u).hk = s.hk := by unfold State.resetWork; (repeat' split) <;> simp
@[simp] theorem State.ctrlRestart_hk (s : State) (u : UnitId) (failed : List Nat) :
    (State.ctrlRestart s u failed).hk = s.hk := by simp [State.ctrlRestart]
@[simp] theorem ctrlRestartDone_hk (u : UnitId) (s : State) :
    (ctrlRestartDone u s).hk = s.hk := by unfold ctrlRestartDone; (repeat' split) <;> simp
@[simp] theorem haspHoldExpiry_hk (hc : Nat) (s : State) :
    (haspHoldExpiry hc s).hk = s.hk := by simp [haspHoldExpiry]
@[simp] theorem State.isolateNow_hk (s : State) (u : UnitId) :
    (State.isolateNow s u).hk = s.hk := by simp [State.isolateNow]
@[simp] theorem isolateManagement_hk (u : UnitId) (s : State) :
    (isolateManagement u s).hk = s.hk := by simp [isolateManagement]
@[simp] theorem stepOrder_hk (u : UnitId) (s : State) :
    (stepOrder u s).hk = s.hk := by simp [stepOrder]
@[simp] theorem quadOpenDone_hk (q : Nat) (s : State) :
    (quadOpenDone q s).hk = s.hk := by unfold quadOpenDone; (repeat' split) <;> simp
@[simp] theorem State.gateNow_hk (s : State) (q : Nat) :
    (State.gateNow s q).hk = s.hk := by simp [State.gateNow]
@[simp] theorem State.gateRefuse_hk (s : State) (q : Nat) :
    (State.gateRefuse s q).hk = s.hk := by simp [State.gateRefuse]
@[simp] theorem State.gateQuad_hk (s : State) (q : Nat) :
    (State.gateQuad s q).hk = s.hk := by simp [State.gateQuad]
@[simp] theorem State.openQuad_hk (s : State) (q : Nat) :
    (State.openQuad s q).hk = s.hk := by simp [State.openQuad]
@[simp] theorem State.reissue_hk (s : State) (r : Nat) :
    (State.reissue s r).hk = s.hk := by simp [State.reissue]
@[simp] theorem State.takeover_hk (s : State) :
    (State.takeover s).hk = s.hk := by
  unfold State.takeover
  apply hk_foldl; intro x a
  (try dsimp only)
  (repeat' split) <;> simp
@[simp] theorem State.rowsRetire_hk (s : State) :
    (State.rowsRetire s).hk = s.hk := by simp [State.rowsRetire]
@[simp] theorem State.hierBoundary_hk (s : State) :
    (State.hierBoundary s).hk = s.hk := by simp [State.hierBoundary]
@[simp] theorem State.gateBoundary_hk (s : State) :
    (State.gateBoundary s).hk = s.hk := by simp [State.gateBoundary]
@[simp] theorem State.putMap_hk (s : State) (n : Nat) (b : Bytes) :
    (State.putMap s n b).hk = s.hk := by simp [State.putMap]
@[simp] theorem State.dropMaps_hk (s : State) :
    (State.dropMaps s).hk = s.hk := by simp [State.dropMaps]
@[simp] theorem State.putSeq_hk (s : State) (i : Nat) (q : SeqS) :
    (State.putSeq s i q).hk = s.hk := by simp [State.putSeq]
@[simp] theorem State.putPage_hk (s : State) (h : Nat) (p : PageS) :
    (State.putPage s h p).hk = s.hk := by simp [State.putPage]
@[simp] theorem State.retire_hk (s : State) (kw : Nat) (bytes : Nat) (it : Retired) :
    (State.retire s kw bytes it).hk = s.hk := by simp [State.retire]
@[simp] theorem State.decRef_hk (s : State) (h : Nat) (holder : Nat) :
    (State.decRef s h holder).hk = s.hk := by simp [State.decRef]
@[simp] theorem State.decRefs_hk (s : State) (holder : Nat) (l : List Nat) :
    (State.decRefs s holder l).hk = s.hk := by simp [State.decRefs]
@[simp] theorem State.incRef_hk (s : State) (h : Nat) :
    (State.incRef s h).hk = s.hk := by simp [State.incRef]
@[simp] theorem State.makePage_hk (s : State) (q : SeqS) (idx : Nat) (l : Lane) (p : Nat) (a1 : Source) :
    (State.makePage s q idx l p a1).1.hk = s.hk := by unfold State.makePage; (repeat' split) <;> simp
@[simp] theorem State.makePages_hk (s : State) (q : SeqS) (idx : Nat) (a3 : List Plan) :
    (State.makePages s q idx a3).1.hk = s.hk := by
  induction a3 generalizing s with
  | nil => rfl
  | cons a_ r_ ih => unfold State.makePages; exact (ih _).trans (State.makePage_hk _ _ _ _ _ _)
@[simp] theorem State.treeWalk_hk (s : State) (kw : Nat) (idx : Nat) (a1 : List Nat) (a2 : List Nat) (a3 : Nat) (a4 : Nat) :
    (State.treeWalk s kw idx a1 a2 a3 a4).1.hk = s.hk := by fun_induction State.treeWalk s kw idx a1 a2 a3 a4 <;> simp_all
@[simp] theorem State.touch_hk (s : State) (l : List TreeNode) :
    (State.touch s l).hk = s.hk := by simp [State.touch]
@[simp] theorem State.evictNode_hk (s : State) (n : TreeNode) :
    (State.evictNode s n).hk = s.hk := by simp [State.evictNode]
@[simp] theorem State.evictWhile_hk (s : State) (kw : Nat) (more : State → Bool) (a3 : Nat) :
    (State.evictWhile s kw more a3).hk = s.hk := by fun_induction State.evictWhile s kw more a3 <;> simp_all
@[simp] theorem State.evictOver_hk (s : State) (kw : Nat) :
    (State.evictOver s kw).hk = s.hk := by simp [State.evictOver]
@[simp] theorem State.evictFor_hk (s : State) (q : SeqS) (bytes : Nat) :
    (State.evictFor s q bytes).hk = s.hk := by simp [State.evictFor]
@[simp] theorem State.evictGone_hk (s : State) :
    (State.evictGone s).hk = s.hk := by
  unfold State.evictGone; apply hk_foldl; intro x a; simp
@[simp] theorem State.evictAll_hk (s : State) (kw : Nat) :
    (State.evictAll s kw).hk = s.hk := by
  unfold State.evictAll; apply hk_foldl; intro x a; simp
@[simp] theorem State.freeWaste_hk (s : State) (w : Waste) :
    (State.freeWaste s w).hk = s.hk := by simp [State.freeWaste]
@[simp] theorem State.freeRetired_hk (s : State) (frees : Option Nat) :
    (State.freeRetired s frees).hk = s.hk := by simp [State.freeRetired]
@[simp] theorem State.dropSeq_hk (s : State) (i : Nat) :
    (State.dropSeq s i).hk = s.hk := by simp [State.dropSeq]
@[simp] theorem State.swapRoot_hk (s : State) (i : Nat) :
    (State.swapRoot s i).hk = s.hk := by simp [State.swapRoot]
@[simp] theorem State.rootSwaps_hk (s : State) :
    (State.rootSwaps s).hk = s.hk := by simp [State.rootSwaps]
@[simp] theorem State.firstRoot_hk (s : State) (i : Nat) (q : SeqS) (upto : Nat) (l : List Plan) :
    ∀ t, State.firstRoot s i q upto l = some t → t.hk = s.hk := by intro t h; simp only [State.firstRoot] at h; (repeat' split at h) <;> simp_all <;> (first | (subst h; simp) | (rw [← h]; simp))
@[simp] theorem State.buildRoot_hk (s : State) (i : Nat) :
    (State.buildRoot s i).hk = s.hk := by
  unfold State.buildRoot
  dsimp only
  (repeat' split) <;> first
    | with_reducible rfl
    | (simp; done)
    | (rw [State.putSeq_hk]; refine (hk_foldl _ (fun x a => ?_) _ _).trans ?_ <;> first | (split <;> simp; done) | (simp; done))
@[simp] theorem State.addNodes_hk (s : State) (q : SeqS) (pages : List Nat) (a3 : Nat) (a4 : Nat) (a5 : Nat) (a6 : List Nat) :
    (State.addNodes s q pages a3 a4 a5 a6).hk = s.hk := by
  induction a3 generalizing s a4 a5 a6 with
  | zero => rfl
  | succ n_ ih =>
    unfold State.addNodes
    (try dsimp only)
    (repeat' split) <;> (first | rfl | (simp [ih]; done) | (rw [ih]; simp) | (rw [ih, hk_foldl _ (fun x a => by simp)]; simp))
@[simp] theorem State.sealPage_hk (s : State) (i : Nat) (p : Nat) :
    (State.sealPage s i p).hk = s.hk := by simp only [State.sealPage]; (repeat' split) <;> simp
@[simp] theorem State.sealPages_hk (s : State) (i : Nat) :
    (State.sealPages s i).hk = s.hk := by simp [State.sealPages]
end Sys2Proof.Machine
end

