-- ==== Sys2Proof/Laws/Cells3.lean ====
section
/-! SUPPORT. Laws/Cells3.lean: operations that leave it as it was (part 3 of 4, each operation after those it calls). -/
namespace Sys2Proof.Machine
open Sys2Proof
@[simp] theorem State.faultSeq_hk (s : State) (i : Nat) (cluster : Nat) (f : KvFault) :
    (State.faultSeq s i cluster f).hk = s.hk := by unfold State.faultSeq; (repeat' split) <;> simp
@[simp] theorem State.kvBlocks_hk (s : State) (kw : Nat) (fmt : Nat) (a3 : List (List F32)) :
    (State.kvBlocks s kw fmt a3).1.hk = s.hk := by
  induction a3 generalizing s with
  | nil => rfl
  | cons x r ih =>
    unfold State.kvBlocks
    have i1 := ih s
    have i2 := fun n => ih (s.countNarrow kw n)
    simp only [State.countNarrow_hk] at i2
    try dsimp only
    (repeat' split) <;> first | (simp; done) | (have h := ‹State.kvBlocks _ _ _ _ = _›; rw [h] at i1; exact i1) | (have h := ‹State.kvBlocks _ _ _ _ = _›; have j := i2 ‹_›; rw [h] at j; exact j)
theorem State.kvBlocks_hk' {s : State} {kw : Nat} {fmt : Nat} {a3 : List (List F32)} {t_ : State} {y_} (h : State.kvBlocks s kw fmt a3 = (t_, y_)) : t_.hk = s.hk := by
  have k := State.kvBlocks_hk s kw fmt a3; rw [h] at k; exact k
@[simp] theorem State.kvHeads_hk (s : State) (kw : Nat) (fmt : Nat) (dims : Nat) (a4 : List (List F32)) :
    (State.kvHeads s kw fmt dims a4).1.hk = s.hk := by
  induction a4 generalizing s with
  | nil => rfl
  | cons x r ih =>
    unfold State.kvHeads
    try dsimp only
    split
    · exact State.kvBlocks_hk' ‹_›
    · have k := State.kvBlocks_hk' ‹_›
      have i1 := ih ‹State›
      split <;> (have h := ‹State.kvHeads _ _ _ _ _ = _›; rw [h] at i1; exact i1.trans k)
theorem State.kvHeads_hk' {s : State} {kw : Nat} {fmt : Nat} {dims : Nat} {a4 : List (List F32)} {t_ : State} {y_} (h : State.kvHeads s kw fmt dims a4 = (t_, y_)) : t_.hk = s.hk := by
  have k := State.kvHeads_hk s kw fmt dims a4; rw [h] at k; exact k
@[simp] theorem State.writePos_hk (s : State) (i : Nat) (n : Nat) (cluster : Nat) (q : SeqS) (pos : Nat) (ks : List (List F32)) (vs : List (List F32)) :
    (State.writePos s i n cluster q pos ks vs).1.hk = s.hk := by
  unfold State.writePos
  (try dsimp only)
  (repeat' split) <;> first | (simp; done) | (simp; exact State.kvHeads_hk' ‹_›) | (simp; exact (State.kvHeads_hk' ‹_›).trans (State.kvHeads_hk' ‹_›)) | skip
theorem State.writePos_hk' {s : State} {i : Nat} {n : Nat} {cluster : Nat} {q : SeqS} {pos : Nat} {ks : List (List F32)} {vs : List (List F32)} {t_ : State} {y_} (h : State.writePos s i n cluster q pos ks vs = (t_, y_)) : t_.hk = s.hk := by
  have k := State.writePos_hk s i n cluster q pos ks vs; rw [h] at k; exact k
@[simp] theorem State.writeAll_hk (s : State) (i : Nat) (n : Nat) (cluster : Nat) (q : SeqS) (a4 : Nat) (a5 : List (List (List F32) × List (List F32))) :
    (State.writeAll s i n cluster q a4 a5).1.hk = s.hk := by
  induction a5 generalizing s a4 with
  | nil => unfold State.writeAll; rfl
  | cons a_ r_ ih =>
    unfold State.writeAll
    split
    · exact State.writePos_hk' ‹_›
    · exact (ih _ _).trans (State.writePos_hk' ‹_›)
theorem State.writeAll_hk' {s : State} {i : Nat} {n : Nat} {cluster : Nat} {q : SeqS} {a4 : Nat} {a5 : List (List (List F32) × List (List F32))} {t_ : State} {y_} (h : State.writeAll s i n cluster q a4 a5 = (t_, y_)) : t_.hk = s.hk := by
  have k := State.writeAll_hk s i n cluster q a4 a5; rw [h] at k; exact k
@[simp] theorem State.rows_hk (s : State) (i : Nat) (n : Nat) (cluster : Nat) (q : SeqS) (a4 : Nat) (a5 : List QRow) :
    (State.rows s i n cluster q a4 a5).hk = s.hk := by
  induction a5 generalizing s a4 with
  | nil => unfold State.rows; rfl
  | cons a_ r_ ih =>
    unfold State.rows
    (try dsimp only)
    (repeat' split) <;> (first | (simp; done) | (rw [ih]; simp; done) | rw [ih]; rfl)
@[simp] theorem laneTask_hk (w : LaneWork) (s : State) :
    (laneTask w s).hk = s.hk := by
  have ha : ∀ (x y : State) b, State.writeAll x w.seq w.lane w.cluster (s.stepSeq w.seq) w.first (w.keys.zip w.vals) = (y, b) → x.hk = s.hk →
      y.hk = s.hk := fun x y b h hx => (State.writeAll_hk' h).trans hx
  unfold laneTask
  dsimp only
  split
  · simp
  split
  · rfl
  split
  · rename_i hh; exact ha _ _ _ hh rfl
  · rename_i hh; exact (State.rows_hk _ _ _ _ _ _ _).trans (ha _ _ _ hh rfl)
@[simp] theorem laneDone_hk (seq : Nat) (lane : Nat) (s : State) :
    (laneDone seq lane s).hk = s.hk := by simp [laneDone]
@[simp] theorem serveStatusRead_hk (fn : Nat) (s : State) :
    (serveStatusRead fn s).hk = s.hk := by simp [serveStatusRead]
@[simp] theorem State.cancelReq_hk (s : State) (kw : Nat) (i : Nat) (via : Nat) :
    (State.cancelReq s kw i via).hk = s.hk := by simp [State.cancelReq]
@[simp] theorem State.rearmReq_hk (s : State) (kw : Nat) (i : Nat) :
    (State.rearmReq s kw i).hk = s.hk := by simp [State.rearmReq]
@[simp] theorem specRearm_hk (i : Nat) (s : State) :
    (specRearm i s).hk = s.hk := by simp [specRearm]
@[simp] theorem tokenGapEnd_hk (fn : Nat) (s : State) :
    (tokenGapEnd fn s).hk = s.hk := by simp [tokenGapEnd]
@[simp] theorem State.draftStep_hk (s : State) (i : Nat) (l : Nat) (a : Nat) :
    (State.draftStep s i l a).hk = s.hk := by simp [State.draftStep]
@[simp] theorem State.commitSeq_hk (s : State) (i : Nat) (n : Nat) (toks : List Nat) :
    (State.commitSeq s i n toks).hk = s.hk := by simp [State.commitSeq]
@[simp] theorem State.leaveStep_hk (s : State) (i : Nat) :
    (State.leaveStep s i).hk = s.hk := by simp only [State.leaveStep]; (repeat' split) <;> simp
@[simp] theorem State.leaveSteps_hk (s : State) :
    (State.leaveSteps s).hk = s.hk := by simp [State.leaveSteps]
@[simp] theorem State.freeEntry_hk (s : State) (i : Nat) :
    (State.freeEntry s i).hk = s.hk := by simp [State.freeEntry]
@[simp] theorem State.stepRecord_hk (s : State) (i : Nat) :
    (State.stepRecord s i).hk = s.hk := by simp [State.stepRecord]
@[simp] theorem State.readPrompt_hk (s : State) (r : ReqS) :
    (State.readPrompt s r).1.hk = s.hk := by simp only [State.readPrompt]; (repeat' split) <;> simp 
@[simp] theorem State.readCons_hk (s : State) (i : Nat) :
    (State.readCons s i).hk = s.hk := by simp [State.readCons]
@[simp] theorem State.estOf_hk (s : State) (slot : Nat) (version : Nat) :
    (State.estOf s slot version).1.hk = s.hk := by unfold State.estOf; (repeat' split) <;> simp
@[simp] theorem State.plan_hk (s : State) (slot : Nat) (version : Nat) (c : Nat × Nat) :
    (State.plan s slot version c).hk = s.hk := by simp [State.plan]
@[simp] theorem State.scaleEsts_hk (s : State) (costs : List StepCost) :
    (State.scaleEsts s costs).hk = s.hk := by simp [State.scaleEsts]
@[simp] theorem State.enter_hk (s : State) (i : Nat) (b : BatchItem) :
    (State.enter s i b).hk = s.hk := by simp [State.enter]
@[simp] theorem State.stall_hk (s : State) (i : Nat) :
    (State.stall s i).hk = s.hk := by simp [State.stall]
@[simp] theorem State.lackPage_hk (s : State) (i : Nat) (upto : Nat) :
    (State.lackPage s i upto).hk = s.hk := by simp [State.lackPage]
@[simp] theorem State.placeDecode_hk (s : State) (m : Room) (i : Nat) :
    (State.placeDecode s m i).1.hk = s.hk := by simp only [State.placeDecode]; (repeat' split) <;> simp
@[simp] theorem State.placePrefill_hk (s : State) (m : Room) (i : Nat) :
    (State.placePrefill s m i).1.hk = s.hk := by simp only [State.placePrefill]; (repeat' split) <;> simp
@[simp] theorem State.placeDecodes_hk (s : State) (m : Room) (a2 : List Nat) :
    (State.placeDecodes s m a2).1.hk = s.hk := by
  induction a2 generalizing s m with
  | nil => rfl
  | cons a_ r_ ih => unfold State.placeDecodes; exact (ih _ _).trans (State.placeDecode_hk _ _ _)
@[simp] theorem State.placePrefills_hk (s : State) (m : Room) (a2 : List Nat) :
    (State.placePrefills s m a2).1.hk = s.hk := by
  induction a2 generalizing s m with
  | nil => rfl
  | cons a_ r_ ih => unfold State.placePrefills; exact (ih _ _).trans (State.placePrefill_hk _ _ _)
@[simp] theorem State.beforeBuild_hk (s : State) (i : Nat) :
    (State.beforeBuild s i).hk = s.hk := by simp [State.beforeBuild]
@[simp] theorem State.buildPart_hk (s : State) (haspIn : List Nat) (m : Room) :
    (State.buildPart s haspIn m).hk = s.hk := by simp [State.buildPart]
@[simp] theorem State.items5_hk (s : State) (costs : List StepCost) :
    (State.items5 s costs).hk = s.hk := by simp [State.items5]
@[simp] theorem State.histClear_hk (s : State) (kw : Nat) :
    (State.histClear s kw).hk = s.hk := by simp [State.histClear]
@[simp] theorem State.putLregs_hk (s : State) (fn : Nat) (r : LatchRegs) :
    (State.putLregs s fn r).hk = s.hk := by simp [State.putLregs]
@[simp] theorem State.queueCpl_hk (s : State) (fn : Nat) (num : Nat) (tag : Nat) (count : Nat) (st : LStat) :
    (State.queueCpl s fn num tag count st).hk = s.hk := by simp [State.queueCpl]
@[simp] theorem State.latchReply_hk (s : State) (f : HFrame) (count : Nat) (st : LStat) :
    (State.latchReply s f count st).hk = s.hk := by simp [State.latchReply]
@[simp] theorem State.waitDone_hk (s : State) (by_ : WaiterBy) (num : Nat) (count : Nat) (st : LStat) :
    (State.waitDone s by_ num count st).hk = s.hk := by unfold State.waitDone; (repeat' split) <;> simp
@[simp] theorem State.waitsDone_hk (s : State) (count : Waiter → Nat) (st : LStat) (a1 : List Waiter) :
    (State.waitsDone s count st a1).hk = s.hk := by fun_induction State.waitsDone s count st a1 <;> simp_all
@[simp] theorem State.dropWaiters_hk (s : State) (p : Waiter → Bool) :
    (State.dropWaiters s p).hk = s.hk := by simp [State.dropWaiters]
@[simp] theorem State.completeWaiters_hk (s : State) (p : Waiter → Bool) (st : LStat) :
    (State.completeWaiters s p st).hk = s.hk := by simp [State.completeWaiters]
@[simp] theorem State.latchTo_hk (s : State) (p : Nat) (v : Nat) :
    (State.latchTo s p v).hk = s.hk := by simp [State.latchTo]
@[simp] theorem State.latchUsed_hk (s : State) (kw : Nat) (p : Nat) :
    (State.latchUsed s kw p).hk = s.hk := by simp [State.latchUsed]
@[simp] theorem State.latchRefused_hk (s : State) (kw : Nat) (st : LStat) :
    (State.latchRefused s kw st).1.hk = s.hk := by simp [State.latchRefused]
@[simp] theorem State.latchNow_hk (s : State) (kw : Nat) (num : Nat) (op : Nat) (v : Nat) :
    (State.latchNow s kw num op v).1.hk = s.hk := by simp only [State.latchNow]; (repeat' split) <;> simp
@[simp] theorem State.latchWait_hk (s : State) (by_ : WaiterBy) (num : Nat) (target : Nat) (timeout : Nat) :
    (State.latchWait s by_ num target timeout).hk = s.hk := by simp only [State.latchWait]; (repeat' split) <;> simp
@[simp] theorem State.hostReply_hk (s : State) (fn : Nat) (count : Nat) (st : LStat) :
    (State.hostReply s fn count st).hk = s.hk := by simp [State.hostReply]
@[simp] theorem State.remoteEnd_hk (s : State) (who : LatchUser) (num : Nat) (op : Nat) (count : Nat) (st : LStat) :
    (State.remoteEnd s who num op count st).hk = s.hk := by unfold State.remoteEnd; (repeat' split) <;> simp
@[simp] theorem State.remoteLost_hk (s : State) (who : LatchUser) (num : Nat) (op : Nat) :
    (State.remoteLost s who num op).hk = s.hk := by simp [State.remoteLost]
@[simp] theorem State.latchRemote_hk (s : State) (who : LatchUser) (kw : Nat) (owner : Nat) (num : Nat) (op : Nat) (v : Nat) (timeout : Nat) (tag : Nat) :
    (State.latchRemote s who kw owner num op v timeout tag).hk = s.hk := by simp [State.latchRemote]
@[simp] theorem latchCommand_hk (w : LatchUser) (num : Nat) (op : Nat) (v : Nat) (timeout : Nat) (s : State) :
    (latchCommand w num op v timeout s).hk = s.hk := by simp only [latchCommand]; (repeat' split) <;> simp
@[simp] theorem State.countTimeouts_hk (s : State) (a1 : List Waiter) :
    (State.countTimeouts s a1).hk = s.hk := by fun_induction State.countTimeouts s a1 <;> simp_all
@[simp] theorem latchTimeout_hk (p : Nat) (s : State) :
    (latchTimeout p s).hk = s.hk := by simp [latchTimeout]
@[simp] theorem latchCplCons_hk (fn : Nat) (v : Nat) (s : State) :
    (latchCplCons fn v s).hk = s.hk := by simp [latchCplCons]
@[simp] theorem latchStatusRead_hk (fn : Nat) (s : State) :
    (latchStatusRead fn s).hk = s.hk := by simp [latchStatusRead]
@[simp] theorem State.clearLatches_hk (s : State) (r : Nat × Nat) :
    (State.clearLatches s r).hk = s.hk := by simp [State.clearLatches]
@[simp] theorem State.unwrapFail_hk (s : State) (kw : Nat) :
    (State.unwrapFail s kw).1.hk = s.hk := by simp [State.unwrapFail]
@[simp] theorem State.keyInstall_hk (s : State) (own : Option Nat) (b : Bytes) :
    (State.keyInstall s own b).1.hk = s.hk := by simp only [State.keyInstall]; (repeat' split) <;> simp
@[simp] theorem State.closeKey_hk (s : State) (n : Nat) :
    (State.closeKey s n).hk = s.hk := by simp [State.closeKey]
@[simp] theorem State.zeroKey_hk (s : State) (n : Nat) :
    (State.zeroKey s n).hk = s.hk := by simp [State.zeroKey]
@[simp] theorem State.keyBoundary_hk (s : State) (n : Nat) :
    (State.keyBoundary s n).hk = s.hk := by simp only [State.keyBoundary]; (repeat' split) <;> simp
@[simp] theorem State.keysBoundary_hk (s : State) :
    (State.keysBoundary s).hk = s.hk := by simp [State.keysBoundary]
@[simp] theorem keyDestroy_hk (n : Nat) (s : State) :
    (keyDestroy n s).hk = s.hk := by simp only [keyDestroy]; (repeat' split) <;> simp
@[simp] theorem State.mgmtInstall_hk (s : State) (claim : Bool) (b : Bytes) :
    (State.mgmtInstall s claim b).1.hk = s.hk := by simp only [State.mgmtInstall]; (repeat' split) <;> simp 
@[simp] theorem State.newNonce_hk (s : State) :
    (State.newNonce s).hk = s.hk := by simp [State.newNonce]
@[simp] theorem State.lcRefuse_hk (s : State) :
    (State.lcRefuse s).1.hk = s.hk := by simp [State.lcRefuse]
@[simp] theorem State.lcRequest_hk (s : State) (keyed : Bool) (b : Bytes) :
    (State.lcRequest s keyed b).1.hk = s.hk := by simp only [State.lcRequest]; (repeat' split) <;> simp 
@[simp] theorem State.debugUnlock_hk (s : State) (b : Bytes) :
    (State.debugUnlock s b).1.hk = s.hk := by
  have n := State.newNonce_hk s
  simp only [State.hk] at n
  unfold State.debugUnlock
  (repeat' split) <;> first | rfl | (simp; done) | (simp; exact n)
@[simp] theorem State.putStage_hk (s : State) (c : SpdmConn) (n : Nat) :
    (State.putStage s c n).hk = s.hk := by simp [State.putStage]
@[simp] theorem State.spdmAt_hk (s : State) (c : SpdmConn) (stage : Nat) (f : State → State × SpdmMsg) (h_f : ∀ x0, (f x0).1.hk = x0.hk) :
    (State.spdmAt s c stage f).hk = s.hk := by
  unfold State.spdmAt
  split
  · rfl
  split
  · simp
  · exact (State.emit_hk _ _).trans (h_f s)
@[simp] theorem ideKm_hk (kw : Nat) (stream : Nat) (k : Nat) (s : State) :
    (ideKm kw stream k s).hk = s.hk := by simp [ideKm]
@[simp] theorem configRequest_hk (fn : Nat) (write : Bool) (reg : Nat) (v : Nat) (s : State) :
    (configRequest fn write reg v s).hk = s.hk := by simp [configRequest]
@[simp] theorem State.takeWindow_hk (s : State) (n : Nat) :
    (State.takeWindow s n).hk = s.hk := by simp [State.takeWindow]
@[simp] theorem State.clearCounters_hk (s : State) (n : Nat) :
    (State.clearCounters s n).hk = s.hk := by simp [State.clearCounters]
@[simp] theorem State.clearView_hk (s : State) (n : Nat) :
    (State.clearView s n).hk = s.hk := by simp [State.clearView]
@[simp] theorem State.kwOpen_hk (s : State) (n : Nat) :
    (State.kwOpen s n).hk = s.hk := by simp [State.kwOpen]
@[simp] theorem State.kwOpenFailed_hk (s : State) (n : Nat) :
    (State.kwOpenFailed s n).hk = s.hk := by simp [State.kwOpenFailed]
@[simp] theorem State.resetFunction_hk (s : State) (n : Nat) :
    (State.resetFunction s n).hk = s.hk := by simp [State.resetFunction]
@[simp] theorem State.removalBegin_hk (s : State) (n : Nat) (st : Removal) (reset : Bool) :
    (State.removalBegin s n st reset).hk = s.hk := by simp [State.removalBegin]
@[simp] theorem State.kwClose_hk (s : State) (n : Nat) :
    (State.kwClose s n).hk = s.hk := by simp [State.kwClose]
@[simp] theorem State.kwReset_hk (s : State) (n : Nat) :
    (State.kwReset s n).hk = s.hk := by simp only [State.kwReset]; (repeat' split) <;> simp
@[simp] theorem State.removalStep2_hk (s : State) (n : Nat) :
    (State.removalStep2 s n).hk = s.hk := by simp [State.removalStep2]
@[simp] theorem State.flowGone_hk (s : State) (f : Flow) :
    (State.flowGone s f).hk = s.hk := by unfold State.flowGone; (repeat' split) <;> simp
@[simp] theorem State.dropTrain_hk (s : State) (x : RxTrain) :
    (State.dropTrain s x).hk = s.hk := by simp [State.dropTrain]
@[simp] theorem State.dropTransfers_hk (s : State) (n : Nat) :
    (State.dropTransfers s n).hk = s.hk := by simp [State.dropTransfers]
@[simp] theorem keyDrain_hk (n : Nat) (s : State) :
    (keyDrain n s).hk = s.hk := by simp [keyDrain]
@[simp] theorem State.freeSlot_hk (s : State) (n : Nat) :
    (State.freeSlot s n).hk = s.hk := by simp [State.freeSlot]
@[simp] theorem State.removalStep5_hk (s : State) (n : Nat) :
    (State.removalStep5 s n).hk = s.hk := by simp [State.removalStep5]
@[simp] theorem State.removalEnd_hk (s : State) (n : Nat) :
    (State.removalEnd s n).hk = s.hk := by simp [State.removalEnd]
@[simp] theorem State.removalPre_hk (s : State) (n : Nat) :
    (State.removalPre s n).hk = s.hk := by simp only [State.removalPre]; (repeat' split) <;> simp
@[simp] theorem State.noteAdapters_hk (s : State) (kw : Nat) (ds : List Bytes) :
    (State.noteAdapters s kw ds).hk = s.hk := by simp [State.noteAdapters]
@[simp] theorem State.memMove_hk (s : State) (kw : Nat) (bytes : Nat) :
    (State.memMove s kw bytes).hk = s.hk := by simp [State.memMove]
@[simp] theorem linkTrained_hk (p : Nat) (lanes : Nat) (s : State) :
    (linkTrained p lanes s).hk = s.hk := by simp [linkTrained]
@[simp] theorem State.relive_hk (s : State) (a : Nat) :
    (State.relive s a).hk = s.hk := by simp [State.relive]
@[simp] theorem laneDegraded_hk (p : Nat) (lanes : Nat) (s : State) :
    (laneDegraded p lanes s).hk = s.hk := by simp [laneDegraded]
@[simp] theorem State.portOpen_hk (s : State) (p : Nat) :
    (State.portOpen s p).hk = s.hk := by simp [State.portOpen]
@[simp] theorem State.echoTick_hk (s : State) (p : Nat) :
    (State.echoTick s p).hk = s.hk := by simp [State.echoTick]
@[simp] theorem State.echoTicks_hk (s : State) :
    (State.echoTicks s).hk = s.hk := by simp [State.echoTicks]
@[simp] theorem State.stageMap_hk (s : State) (b : Bytes) :
    (State.stageMap s b).hk = s.hk := by simp [State.stageMap]
@[simp] theorem State.applyMap_hk (s : State) :
    (State.applyMap s).hk = s.hk := by unfold State.applyMap; (repeat' split) <;> simp
@[simp] theorem reachSend_hk (occ : List Nat) (s : State) :
    (reachSend occ s).hk = s.hk := by simp [reachSend]
@[simp] theorem State.noteFlood_hk (s : State) (src : Nat) (flow : Nat) :
    (State.noteFlood s src flow).hk = s.hk := by simp [State.noteFlood]
@[simp] theorem State.flood_hk (s : State) (type : Nat) (pay : Bytes) :
    (State.flood s type pay).hk = s.hk := by simp [State.flood]
@[simp] theorem State.floodIn_hk (s : State) (p : Nat) (ty : Nat) (f : HFrame) (k : State → State) (h_k : ∀ x0, (k x0).hk = x0.hk) :
    (State.floodIn s p ty f k).hk = s.hk := by simp [State.floodIn, h_k]
@[simp] theorem State.forward_hk (s : State) (f : HFrame) :
    (State.forward s f).hk = s.hk := by simp only [State.forward]; (repeat' split) <;> simp
@[simp] theorem State.openHere_hk (s : State) (p : Nat) (f : HFrame) :
    (State.openHere s p f).1.hk = s.hk := by unfold State.openHere; (repeat' split) <;> simp
theorem State.openHere_hk' {s : State} {p : Nat} {f : HFrame} {t_ : State} {y_} (h : State.openHere s p f = (t_, y_)) : t_.hk = s.hk := by
  have k := State.openHere_hk s p f; rw [h] at k; exact k
@[simp] theorem State.rxStep_hk (s : State) (f : HFrame) :
    (State.rxStep s f).hk = s.hk := by simp [State.rxStep]
@[simp] theorem State.received_hk (s : State) (p : Nat) (ty : Nat) (f : HFrame) (k : State → HFrame → State) (h_k : ∀ x0 x1, (k x0 x1).hk = x0.hk) :
    (State.received s p ty f k).hk = s.hk := by
  unfold State.received
  (try dsimp only)
  (repeat' split) <;> (first | with_reducible rfl | (simp [h_k]; done) | exact ((State.openHere_hk' ‹_›).trans (by simp)) | (simp [h_k]; exact ((State.openHere_hk' ‹_›).trans (by simp))) | exact ((h_k _ _).trans ((State.openHere_hk' ‹_›).trans (by simp))) | (simp [h_k]; exact ((h_k _ _).trans ((State.openHere_hk' ‹_›).trans (by simp)))) | (rename_i hh; have kk := congrArg (fun z => z.1.hk) hh; simp [h_k] at kk; exact kk) | (rename_i hh; have kk := congrArg (fun z => z.1.hk) hh; simp [h_k] at kk; simp [h_k]; exact kk) | (rename_i hh; have kk := congrArg (fun z => z.1.hk) hh; simp [h_k] at kk; refine kk.trans ?_; exact ((State.openHere_hk' ‹_›).trans (by simp))) | (rename_i hh; have kk := congrArg (fun z => z.1.hk) hh; simp [h_k] at kk; simp [h_k]; refine kk.trans ?_; exact ((State.openHere_hk' ‹_›).trans (by simp))) | (rename_i hh; have kk := congrArg (fun z => z.1.hk) hh; simp [h_k] at kk; refine kk.trans ?_; exact ((h_k _ _).trans ((State.openHere_hk' ‹_›).trans (by simp)))) | (rename_i hh; have kk := congrArg (fun z => z.1.hk) hh; simp [h_k] at kk; simp [h_k]; refine kk.trans ?_; exact ((h_k _ _).trans ((State.openHere_hk' ‹_›).trans (by simp)))))
@[simp] theorem State.inOrder_hk (s : State) (f : HFrame) (k : State → State) (h_k : ∀ x0, (k x0).hk = x0.hk) :
    (State.inOrder s f k).hk = s.hk := by simp [State.inOrder, h_k]
@[simp] theorem State.takePort_hk (s : State) (p : Nat) :
    (State.takePort s p).hk = s.hk := by simp only [State.takePort]; (repeat' split) <;> simp
@[simp] theorem State.openFunc_hk (s : State) (f : Func) :
    (State.openFunc s f).hk = s.hk := by unfold State.openFunc; (repeat' split) <;> simp
@[simp] theorem State.closeFunc_hk (s : State) (f : Func) :
    (State.closeFunc s f).hk = s.hk := by unfold State.closeFunc; (repeat' split) <;> simp
@[simp] theorem State.funcMove_hk (s : State) (f : Func) :
    (State.funcMove s f).hk = s.hk := by simp only [State.funcMove]; (repeat' split) <;> simp
@[simp] theorem State.funcBoundary_hk (s : State) (f : Func) :
    (State.funcBoundary s f).hk = s.hk := by unfold State.funcBoundary; (repeat' split) <;> simp
@[simp] theorem State.funcsBoundary_hk (s : State) :
    (State.funcsBoundary s).hk = s.hk := by simp [State.funcsBoundary]
@[simp] theorem State.funcsSeek_hk (s : State) :
    (State.funcsSeek s).hk = s.hk := by simp [State.funcsSeek]
@[simp] theorem State.funcWrite_hk (s : State) (f : Func) (v : Bool) :
    (State.funcWrite s f v).1.hk = s.hk := by simp only [State.funcWrite]; (repeat' split) <;> simp
@[simp] theorem openComplete_hk (f : Func) (s : State) :
    (openComplete f s).hk = s.hk := by simp [openComplete]
@[simp] theorem State.drainedSlot_hk (s : State) (n : Nat) :
    (State.drainedSlot s n).hk = s.hk := by simp [State.drainedSlot]
@[simp] theorem powerupStart_hk (f : Func) (s : State) :
    (powerupStart f s).hk = s.hk := by simp [powerupStart]
@[simp] theorem trainingFailed_hk (p : Nat) (s : State) :
    (trainingFailed p s).hk = s.hk := by simp [trainingFailed]
@[simp] theorem State.scanRing_hk (s : State) :
    (State.scanRing s).hk = s.hk := by simp [State.scanRing]
@[simp] theorem State.evtIrq_hk (s : State) (fn : Nat) :
    (State.evtIrq s fn).hk = s.hk := by simp [State.evtIrq]
@[simp] theorem State.reportRecord_hk (s : State) (r : EvRecord) :
    (State.reportRecord s r).hk = s.hk := by simp [State.reportRecord]
@[simp] theorem State.takeSeq_hk (s : State) :
    (State.takeSeq s).1.hk = s.hk := by simp [State.takeSeq]
@[simp] theorem State.putRecord_hk (s : State) (e : Event) (flags : Nat) (payload : Bytes) :
    (State.putRecord s e flags payload).1.hk = s.hk := by simp [State.putRecord]
@[simp] theorem State.putCont_hk (s : State) (e : Event) (a1 : Nat) (a2 : Bytes) :
    (State.putCont s e a1 a2).hk = s.hk := by fun_induction State.putCont s e a1 a2 <;> simp_all
@[simp] theorem evtIrqGap_hk (fn : Nat) (s : State) :
    (evtIrqGap fn s).hk = s.hk := by simp [evtIrqGap]
@[simp] theorem rateToken_hk (code : Nat) (kw : Nat) (s : State) :
    (rateToken code kw s).hk = s.hk := by unfold rateToken; (repeat' split) <;> simp
@[simp] theorem evtHeartbeat_hk (s : State) :
    (evtHeartbeat s).hk = s.hk := by simp [evtHeartbeat]
@[simp] theorem State.evtAck_hk (s : State) (v : Nat) :
    (State.evtAck s v).hk = s.hk := by simp [State.evtAck]
@[simp] theorem State.saveOp_hk (s : State) :
    (State.saveOp s).hk = s.hk := by simp [State.saveOp]
@[simp] theorem opHour_hk (s : State) :
    (opHour s).hk = s.hk := by simp [opHour]
@[simp] theorem quarantineEnd_hk (u : UnitId) (s : State) :
    (quarantineEnd u s).hk = s.hk := by simp [quarantineEnd]
@[simp] theorem katDone_hk (u : UnitId) (pass : Bool) (s : State) :
    (katDone u pass s).hk = s.hk := by simp [katDone]
@[simp] theorem State.katBoundary_hk (s : State) :
    (State.katBoundary s).hk = s.hk := by simp [State.katBoundary]
@[simp] theorem State.bistFail_hk (s : State) (f : BistFail) :
    (State.bistFail s f).hk = s.hk := by unfold State.bistFail; (repeat' split) <;> simp
@[simp] theorem State.bistAuth_hk (s : State) (b : Bytes) :
    (State.bistAuth s b).1.hk = s.hk := by unfold State.bistAuth; (repeat' split) <;> simp
end Sys2Proof.Machine
end

