-- ==== Sys2Proof/Laws/Cells4.lean ====
section
/-! SUPPORT. Laws/Cells4.lean: operations that leave it as it was (part 4 of 4, each operation after those it calls). -/
namespace Sys2Proof.Machine
open Sys2Proof
@[simp] theorem State.lbistRun_hk (s : State) (v : Nat) :
    (State.lbistRun s v).hk = s.hk := by unfold State.lbistRun; (repeat' split) <;> simp
@[simp] theorem State.repairEngine_hk (s : State) (eng : Nat) :
    (State.repairEngine s eng).hk = s.hk := by simp [State.repairEngine]
@[simp] theorem State.repairHasp_hk (s : State) (h : Nat) :
    (State.repairHasp s h).hk = s.hk := by simp [State.repairHasp]
@[simp] theorem State.repairs_hk (s : State) :
    (State.repairs s).hk = s.hk := by simp [State.repairs]
@[simp] theorem lbistDone_hk (first : Option Nat) (misr : Nat) (s : State) :
    (lbistDone first misr s).hk = s.hk := by unfold lbistDone; (repeat' split) <;> simp
@[simp] theorem State.arrayTier_hk (s : State) (eng : Nat) (tier : Nat) :
    (State.arrayTier s eng tier).hk = s.hk := by simp [State.arrayTier]
@[simp] theorem State.arrayRun_hk (s : State) (v : Nat) :
    (State.arrayRun s v).hk = s.hk := by unfold State.arrayRun; (repeat' split) <;> simp
@[simp] theorem arrayDone_hk (bad : List (Nat × Nat × Nat)) (pass : Bool) (s : State) :
    (arrayDone bad pass s).hk = s.hk := by unfold arrayDone; (repeat' split) <;> simp
@[simp] theorem State.emergencyAt_hk (s : State) (c : Nat) (cause : Nat) (reading : Int) :
    (State.emergencyAt s c cause reading).hk = s.hk := by simp [State.emergencyAt]
@[simp] theorem State.emergencyCheck_hk (s : State) :
    (State.emergencyCheck s).hk = s.hk := by simp [State.emergencyCheck]
@[simp] theorem State.setNext_hk (s : State) (conv : Nat) (last : Nat) :
    (State.setNext s conv last).hk = s.hk := by simp [State.setNext]
@[simp] theorem senseReading_hk (c : Nat) (conv : Nat) (raw : Nat) (s : State) :
    (senseReading c conv raw s).hk = s.hk := by simp [senseReading]
@[simp] theorem memTemp_hk (stack : Nat) (temp : Int) (s : State) :
    (memTemp stack temp s).hk = s.hk := by simp [memTemp]
@[simp] theorem State.enterSense_hk (s : State) (m : Nat) :
    (State.enterSense s m).hk = s.hk := by unfold State.enterSense; (repeat' split) <;> simp
@[simp] theorem xchk_hk (a : Int) (b : Int) (s : State) :
    (xchk a b s).hk = s.hk := by simp [xchk]
@[simp] theorem State.putCal_hk (s : State) (c : SysCal) :
    (State.putCal s c).hk = s.hk := by simp [State.putCal]
@[simp] theorem State.syscalStop_hk (s : State) (status : Nat) :
    (State.syscalStop s status).hk = s.hk := by simp [State.syscalStop]
@[simp] theorem State.syscalCmd_hk (s : State) (cmd : Nat) :
    (State.syscalCmd s cmd).hk = s.hk := by unfold State.syscalCmd; (repeat' split) <;> simp
@[simp] theorem syscalCapture_hk (v : Int) (s : State) :
    (syscalCapture v s).hk = s.hk := by simp only [syscalCapture]; (repeat' split) <;> simp
@[simp] theorem syscalTimeout_hk (s : State) :
    (syscalTimeout s).hk = s.hk := by unfold syscalTimeout; (repeat' split) <;> simp
@[simp] theorem State.syscalFast_hk (s : State) :
    (State.syscalFast s).hk = s.hk := by simp [State.syscalFast]
@[simp] theorem phaseAdd_hk (k : Nat) (s : State) :
    (phaseAdd k s).hk = s.hk := by simp [phaseAdd]
@[simp] theorem phaseDrop_hk (k : Nat) (s : State) :
    (phaseDrop k s).hk = s.hk := by unfold phaseDrop; (repeat' split) <;> simp
@[simp] theorem avsReport_hk (die : Nat) (mon : Nat) (slack : Int) (s : State) :
    (avsReport die mon slack s).hk = s.hk := by simp [avsReport]
@[simp] theorem State.avsBoundary_hk (s : State) :
    (State.avsBoundary s).hk = s.hk := by simp [State.avsBoundary]
@[simp] theorem State.takeSample_hk (s : State) (mv : List Nat) (imon : List Int) :
    (State.takeSample s mv imon).hk = s.hk := by simp [State.takeSample]
@[simp] theorem State.countStall_hk (s : State) :
    (State.countStall s).hk = s.hk := by simp [State.countStall]
@[simp] theorem State.guard_hk (s : State) :
    (State.guard s).hk = s.hk := by simp [State.guard]
@[simp] theorem State.pace_hk (s : State) (code : Nat) (target : Nat) (inForce : Nat) (cause : Nat) (source : Nat) (enforce : Nat) :
    (State.pace s code target inForce cause source enforce).hk = s.hk := by simp [State.pace]
@[simp] theorem State.limitCheck_hk (s : State) :
    (State.limitCheck s).hk = s.hk := by simp [State.limitCheck]
@[simp] theorem State.paceEmergency_hk (s : State) :
    (State.paceEmergency s).hk = s.hk := by unfold State.paceEmergency; (repeat' split) <;> simp
@[simp] theorem State.paceEnforce_hk (s : State) :
    (State.paceEnforce s).hk = s.hk := by unfold State.paceEnforce; (repeat' split) <;> simp
@[simp] theorem State.paceAnnounce_hk (s : State) :
    (State.paceAnnounce s).hk = s.hk := by simp [State.paceAnnounce]
@[simp] theorem State.paceRelease_hk (s : State) :
    (State.paceRelease s).hk = s.hk := by simp [State.paceRelease]
@[simp] theorem State.throttle_hk (s : State) :
    (State.throttle s).hk = s.hk := by simp [State.throttle]
@[simp] theorem State.energyBudget_hk (s : State) (accounted : Nat) (quiet : Nat) :
    (State.energyBudget s accounted quiet).hk = s.hk := by simp [State.energyBudget]
@[simp] theorem State.powerBoundary_hk (s : State) (accounted : Nat) (quiet : Nat) :
    (State.powerBoundary s accounted quiet).hk = s.hk := by simp [State.powerBoundary]
@[simp] theorem State.setBoot_hk (s : State) (f : BootS → BootS) :
    (State.setBoot s f).hk = s.hk := by simp [State.setBoot]
@[simp] theorem State.fallbacks_hk (s : State) :
    (State.fallbacks s).hk = s.hk := by simp [State.fallbacks]
@[simp] theorem State.romStart_hk (s : State) :
    (State.romStart s).hk = s.hk := by simp [State.romStart]
@[simp] theorem State.funcsDark_hk (s : State) :
    (State.funcsDark s).hk = s.hk := by simp [State.funcsDark]
@[simp] theorem State.hubOff_hk (s : State) :
    (State.hubOff s).hk = s.hk := by simp [State.hubOff]
@[simp] theorem State.railsOff_hk (s : State) (l : List Nat) :
    (State.railsOff s l).hk = s.hk := by simp [State.railsOff]
@[simp] theorem State.downStep_hk (s : State) (step : Nat) :
    (State.downStep s step).hk = s.hk := by simp [State.downStep]
@[simp] theorem State.hostReady_hk (s : State) :
    (State.hostReady s).hk = s.hk := by simp [State.hostReady]
@[simp] theorem porRise_hk (s : State) :
    (porRise s).hk = s.hk := by simp [porRise]
@[simp] theorem State.clampRecord_hk (s : State) (k : OKey) (session : Nat) (transport : Nat) (kw : Nat) (c : Clamp) :
    (State.clampRecord s k session transport kw c).hk = s.hk := by simp [State.clampRecord]
@[simp] theorem State.loadSetting_hk (s : State) (x : OKey × OVal) :
    (State.loadSetting s x).hk = s.hk := by simp [State.loadSetting]
@[simp] theorem State.loadSettings_hk (s : State) :
    (State.loadSettings s).hk = s.hk := by simp [State.loadSettings]
@[simp] theorem State.wardMeasure_hk (s : State) :
    (State.wardMeasure s).hk = s.hk := by simp [State.wardMeasure]
@[simp] theorem State.wardRuns_hk (s : State) :
    (State.wardRuns s).hk = s.hk := by simp [State.wardRuns]
@[simp] theorem State.wardBoot_hk (s : State) :
    (State.wardBoot s).hk = s.hk := by simp [State.wardBoot]
@[simp] theorem State.wardAgain_hk (s : State) :
    (State.wardAgain s).hk = s.hk := by simp [State.wardAgain]
@[simp] theorem wardStart_hk (s : State) :
    (wardStart s).hk = s.hk := by simp [wardStart]
@[simp] theorem State.railsUp_hk (s : State) (step : Nat) :
    (State.railsUp s step).hk = s.hk := by simp [State.railsUp]
@[simp] theorem State.loadTrims_hk (s : State) (eng : Nat) :
    (State.loadTrims s eng).hk = s.hk := by simp only [State.loadTrims]; (repeat' split) <;> simp
@[simp] theorem State.loadAllTrims_hk (s : State) :
    (State.loadAllTrims s).hk = s.hk := by simp [State.loadAllTrims]
@[simp] theorem State.measureImage_hk (s : State) (kind : Nat) :
    (State.measureImage s kind).hk = s.hk := by unfold State.measureImage; (repeat' split) <;> simp
@[simp] theorem State.closeSessions_hk (s : State) (p : Nat → Session → Bool) :
    (State.closeSessions s p).hk = s.hk := by simp [State.closeSessions]
@[simp] theorem State.writeDeferred_hk (s : State) :
    (State.writeDeferred s).hk = s.hk := by simp [State.writeDeferred]
@[simp] theorem perstLow_hk (s : State) :
    (perstLow s).hk = s.hk := by simp [perstLow]
@[simp] theorem perstHigh_hk (s : State) :
    (perstHigh s).hk = s.hk := by simp [perstHigh]
@[simp] theorem wdtRestart_hk (s : State) :
    (wdtRestart s).hk = s.hk := by simp [wdtRestart]
@[simp] theorem State.stageSeg_hk (s : State) (b : Bytes) :
    (State.stageSeg s b).hk = s.hk := by simp [State.stageSeg]
@[simp] theorem State.commitStart_hk (s : State) (len : Nat) :
    (State.commitStart s len).hk = s.hk := by simp [State.commitStart]
@[simp] theorem State.fwReject_hk (s : State) (result : Nat) :
    (State.fwReject s result).hk = s.hk := by simp [State.fwReject]
@[simp] theorem commitDone_hk (s : State) :
    (commitDone s).hk = s.hk := by unfold commitDone; (repeat' split) <;> simp
@[simp] theorem State.bankSelect_hk (s : State) (kind : Nat) :
    (State.bankSelect s kind).hk = s.hk := by simp [State.bankSelect]
@[simp] theorem State.bootBoundary_hk (s : State) :
    (State.bootBoundary s).hk = s.hk := by simp [State.bootBoundary]
@[simp] theorem State.select_hk (s : State) (c : Ctx) (k : OKey) (v : Nat) :
    (State.select s c k v).hk = s.hk := by simp [State.select]
@[simp] theorem State.afterRead_hk (s : State) (c : Ctx) (k : OKey) :
    (State.afterRead s c k).hk = s.hk := by unfold State.afterRead; (repeat' split) <;> simp
@[simp] theorem State.startTrain_hk (s : State) (kind : FlowKind) (dst : Nat) (kw : Nat) (items : List FlowItem) :
    (State.startTrain s kind dst kw items).1.hk = s.hk := by unfold State.startTrain; (repeat' split) <;> (try (rename_i hh; have kk := congrArg (fun z => z.1.hk) hh; simp at kk)) <;> simp_all
theorem State.startTrain_hk' {s : State} {kind : FlowKind} {dst : Nat} {kw : Nat} {items : List FlowItem} {t_ : State} {y_} (h : State.startTrain s kind dst kw items = (t_, y_)) : t_.hk = s.hk := by
  have k := State.startTrain_hk s kind dst kw items; rw [h] at k; exact k
@[simp] theorem State.ackTrain_hk (s : State) (f : HFrame) (status : Nat) :
    (State.ackTrain s f status).hk = s.hk := by simp [State.ackTrain]
@[simp] theorem State.dropRx_hk (s : State) (src : Nat) (flow : Nat) :
    (State.dropRx s src flow).hk = s.hk := by simp [State.dropRx]
@[simp] theorem State.freeTrain_hk (s : State) (x : RxTrain) :
    (State.freeTrain s x).hk = s.hk := by simp [State.freeTrain]
@[simp] theorem trainHeadIn_hk (f : HFrame) (s : State) :
    (trainHeadIn f s).hk = s.hk := by simp [trainHeadIn]
@[simp] theorem trainPageIn_hk (f : HFrame) (s : State) :
    (trainPageIn f s).hk = s.hk := by
  unfold trainPageIn
  apply State.inOrder_hk; intro x
  (repeat' split) <;> simp
@[simp] theorem State.headerBad_hk (s : State) (kw : Nat) (i : Nat) (c : Nat) :
    (State.headerBad s kw i c).hk = s.hk := by simp [State.headerBad]
@[simp] theorem State.fillPages_hk (s : State) (i : Nat) (slot : Nat) (a3 : List (Nat × Nat × Bytes)) :
    (State.fillPages s i slot a3).hk = s.hk := by
  induction a3 generalizing s with
  | nil => rfl
  | cons a_ r_ ih => unfold State.fillPages; rw [ih]; split <;> simp
@[simp] theorem State.handTrain_hk (s : State) (x : RxTrain) :
    (State.handTrain s x).1.hk = s.hk := by
  unfold State.handTrain
  (try dsimp only)
  (repeat' split) <;> (first | with_reducible rfl | (simp; done) | exact ((State.firstRoot_hk _ _ _ _ _ _ ‹_›).trans (by simp)) | (simp; exact ((State.firstRoot_hk _ _ _ _ _ _ ‹_›).trans (by simp))) | (rename_i hh; have kk := congrArg (fun z => z.1.hk) hh; simp at kk; exact kk) | (rename_i hh; have kk := congrArg (fun z => z.1.hk) hh; simp at kk; simp; exact kk) | (rename_i hh; have kk := congrArg (fun z => z.1.hk) hh; simp at kk; refine kk.trans ?_; exact ((State.firstRoot_hk _ _ _ _ _ _ ‹_›).trans (by simp))) | (rename_i hh; have kk := congrArg (fun z => z.1.hk) hh; simp at kk; simp; refine kk.trans ?_; exact ((State.firstRoot_hk _ _ _ _ _ _ ‹_›).trans (by simp))))
@[simp] theorem State.putRound_hk (s : State) (x : RingRound) :
    (State.putRound s x).hk = s.hk := by simp [State.putRound]
@[simp] theorem State.setTrain_hk (s : State) (x : RxTrain) :
    (State.setTrain s x).1.hk = s.hk := by simp only [State.setTrain]; (repeat' split) <;> simp
@[simp] theorem trainEndIn_hk (f : HFrame) (s : State) :
    (trainEndIn f s).hk = s.hk := by
  unfold trainEndIn
  apply State.inOrder_hk; intro x
  (try dsimp only)
  (repeat' split) <;> simp
@[simp] theorem shardReqIn_hk (f : HFrame) (s : State) :
    (shardReqIn f s).hk = s.hk := by
  unfold shardReqIn
  apply State.inOrder_hk; intro x
  (repeat' split) <;> simp
@[simp] theorem State.dropShard_hk (s : State) (f : HFrame) :
    (State.dropShard s f).hk = s.hk := by simp [State.dropShard]
@[simp] theorem State.putPartial_hk (s : State) (x : Partial) :
    (State.putPartial s x).hk = s.hk := by simp [State.putPartial]
@[simp] theorem State.freeSets_hk (s : State) (kw : Nat) (l : List RingSet) :
    (State.freeSets s kw l).hk = s.hk := by simp [State.freeSets]
@[simp] theorem State.dropRound_hk (s : State) (y : RingRound) :
    (State.dropRound s y).hk = s.hk := by simp [State.dropRound]
@[simp] theorem State.finishRing_hk (s : State) (y : RingRound) :
    (State.finishRing s y).hk = s.hk := by simp [State.finishRing]
@[simp] theorem State.sendSet_hk (s : State) (q : SeqS) (i : Nat) (lane : Nat) (origin : Nat) (round : Nat) (hi : Nat) (pages : List PageS) :
    (State.sendSet s q i lane origin round hi pages).hk = s.hk := by
  unfold State.sendSet
  (try dsimp only)
  (repeat' split) <;> (first | with_reducible rfl | (simp; done) | exact (State.startTrain_hk' ‹_›) | (simp; exact (State.startTrain_hk' ‹_›)) | (rename_i hh; have kk := congrArg (fun z => z.1.hk) hh; simp at kk; exact kk) | (rename_i hh; have kk := congrArg (fun z => z.1.hk) hh; simp at kk; simp; exact kk) | (rename_i hh; have kk := congrArg (fun z => z.1.hk) hh; simp at kk; refine kk.trans ?_; exact (State.startTrain_hk' ‹_›)) | (rename_i hh; have kk := congrArg (fun z => z.1.hk) hh; simp at kk; simp; refine kk.trans ?_; exact (State.startTrain_hk' ‹_›)))
@[simp] theorem State.beginPrefill_hk (s : State) (w : LaneWork) (q : SeqS) :
    (State.beginPrefill s w q).hk = s.hk := by simp [State.beginPrefill]
@[simp] theorem State.setRows_hk (s : State) (y : RingRound) (x : RingSet) (a1 : Nat) (a2 : List QRow) :
    (State.setRows s y x a1 a2).hk = s.hk := by fun_induction State.setRows s y x a1 a2 <;> simp_all
@[simp] theorem State.nextRound_hk (s : State) (y : RingRound) :
    (State.nextRound s y).hk = s.hk := by simp only [State.nextRound]; (repeat' split) <;> simp
@[simp] theorem ringRoundStep_hk (seq : Nat) (s : State) :
    (ringRoundStep seq s).hk = s.hk := by simp [ringRoundStep]
@[simp] theorem State.sendQuery_hk (s : State) (q : SeqS) (w : LaneWork) (l : List Nat) :
    (State.sendQuery s q w l).hk = s.hk := by
  induction l generalizing s with
  | nil => rfl
  | cons m r ih => unfold State.sendQuery; dsimp only; rw [ih]; split <;> simp
@[simp] theorem State.beginDecode_hk (s : State) (w : LaneWork) (q : SeqS) :
    (State.beginDecode s w q).hk = s.hk := by unfold State.beginDecode; (repeat' split) <;> simp
@[simp] theorem ringTask_hk (w : LaneWork) (s : State) :
    (ringTask w s).hk = s.hk := by simp only [ringTask]; (repeat' split) <;> simp
@[simp] theorem ringQueryIn_hk (f : HFrame) (s : State) :
    (ringQueryIn f s).hk = s.hk := by
  unfold ringQueryIn
  apply State.inOrder_hk; intro x
  (try dsimp only)
  (repeat' split) <;> simp
@[simp] theorem State.keepRows_hk (s : State) (seq : Nat) (lane : Nat) (origin : Nat) (a1 : Nat) (a2 : List (F32 × F32 × List F32)) :
    (State.keepRows s seq lane origin a1 a2).hk = s.hk := by fun_induction State.keepRows s seq lane origin a1 a2 <;> simp_all
@[simp] theorem ringPartialIn_hk (f : HFrame) (s : State) :
    (ringPartialIn f s).hk = s.hk := by simp only [ringPartialIn]; (repeat' split) <;> simp
@[simp] theorem State.dropRing_hk (s : State) (seq : Nat) :
    (State.dropRing s seq).hk = s.hk := by simp [State.dropRing]
@[simp] theorem ringTimeout_hk (seq : Nat) (s : State) :
    (ringTimeout seq s).hk = s.hk := by simp only [ringTimeout]; (repeat' split) <;> simp
@[simp] theorem replyTimeout_hk (num : Nat) (s : State) :
    (replyTimeout num s).hk = s.hk := by unfold replyTimeout; (repeat' split) <;> simp
@[simp] theorem latchOpIn_hk (f : HFrame) (s : State) :
    (latchOpIn f s).hk = s.hk := by simp [latchOpIn]
@[simp] theorem latchReplyIn_hk (f : HFrame) (s : State) :
    (latchReplyIn f s).hk = s.hk := by unfold latchReplyIn; (repeat' split) <;> simp
@[simp] theorem State.confirmTick_hk (s : State) :
    (State.confirmTick s).hk = s.hk := by simp [State.confirmTick]
@[simp] theorem State.ringHold_hk (s : State) (a : Nat) (i : Nat) :
    (State.ringHold s a i).hk = s.hk := by simp [State.ringHold]
@[simp] theorem State.releaseRings_hk (s : State) :
    (State.releaseRings s).hk = s.hk := by simp [State.releaseRings]
@[simp] theorem State.deadRounds_hk (s : State) :
    (State.deadRounds s).hk = s.hk := by simp [State.deadRounds]
@[simp] theorem State.dropStandby_hk (s : State) (a : Nat) :
    (State.dropStandby s a).hk = s.hk := by simp [State.dropStandby]
@[simp] theorem State.adoptNamed_hk (s : State) (a : Nat) (phys : Nat) (beat : Nat) :
    (State.adoptNamed s a phys beat).hk = s.hk := by simp [State.adoptNamed]
@[simp] theorem State.spareAdopt_hk (s : State) (a : Nat) :
    (State.spareAdopt s a).hk = s.hk := by simp [State.spareAdopt]
@[simp] theorem State.takeRec_hk (s : State) (a : Nat) (x : StandbyRec) :
    (State.takeRec s a x).hk = s.hk := by simp [State.takeRec]
@[simp] theorem standbyIn_hk (f : HFrame) (s : State) :
    (standbyIn f s).hk = s.hk := by unfold standbyIn; (repeat' split) <;> simp
@[simp] theorem State.identAll_hk (s : State) :
    (State.identAll s).hk = s.hk := by simp [State.identAll]
@[simp] theorem State.openSlots_hk (s : State) :
    (State.openSlots s).hk = s.hk := by simp [State.openSlots]
@[simp] theorem State.prefillAgain_hk (s : State) (i : Nat) :
    (State.prefillAgain s i).hk = s.hk := by simp [State.prefillAgain]
@[simp] theorem State.ringReturn_hk (s : State) :
    (State.ringReturn s).hk = s.hk := by simp [State.ringReturn]
@[simp] theorem State.retireUnit_hk (s : State) (v : Nat) :
    (State.retireUnit s v).hk = s.hk := by simp [State.retireUnit]
@[simp] theorem State.queueWrite_hk (s : State) (k : OKey) (v : OVal) :
    (State.queueWrite s k v).hk = s.hk := by simp [State.queueWrite]
@[simp] theorem State.noteEnable_hk (s : State) (k : OKey) (v : OVal) :
    (State.noteEnable s k v).1.hk = s.hk := by unfold State.noteEnable; (repeat' split) <;> simp
@[simp] theorem State.dropCaptures_hk (s : State) :
    (State.dropCaptures s).hk = s.hk := by simp [State.dropCaptures]
@[simp] theorem State.remapDue_hk (s : State) (e : Nat) :
    (State.remapDue s e).hk = s.hk := by simp [State.remapDue]
@[simp] theorem State.itemOne_hk (s : State) (ran : Bool) :
    (State.itemOne s ran).hk = s.hk := by simp [State.itemOne]
@[simp] theorem State.itemFive_hk (s : State) (costs : List StepCost) (quiet : Nat) (work : Nat) :
    (State.itemFive s costs quiet work).hk = s.hk := by simp [State.itemFive]
@[simp] theorem State.putSession_hk (s : State) (n : Nat) (x : Session) :
    (State.putSession s n x).hk = s.hk := by simp [State.putSession]
@[simp] theorem State.openSession_hk (s : State) (q : GReq) :
    (State.openSession s q).1.hk = s.hk := by simp only [State.openSession]; (repeat' split) <;> simp
@[simp] theorem State.proofFailed_hk (s : State) (q : GReq) :
    (State.proofFailed s q).hk = s.hk := by simp [State.proofFailed]
@[simp] theorem State.proveSession_hk (s : State) (q : GReq) (x : Session) :
    (State.proveSession s q x).1.hk = s.hk := by unfold State.proveSession; (repeat' split) <;> simp
@[simp] theorem State.doRead_hk (s : State) (q : GReq) (c : Ctx) :
    (State.doRead s q c).1.hk = s.hk := by unfold State.doRead; (repeat' split) <;> simp
@[simp] theorem State.doReadBlock_hk (s : State) (q : GReq) (c : Ctx) :
    (State.doReadBlock s q c).1.hk = s.hk := by unfold State.doReadBlock; (repeat' split) <;> simp
@[simp] theorem State.doDescribe_hk (s : State) (q : GReq) (c : Ctx) :
    (State.doDescribe s q c).1.hk = s.hk := by unfold State.doDescribe; (repeat' split) <;> simp
@[simp] theorem State.doStore_hk (s : State) (q : GReq) (c : Ctx) :
    (State.doStore s q c).1.hk = s.hk := by
  unfold State.doStore; apply hk_foldl; intro x a; simp
@[simp] theorem State.logResponse_hk (s : State) (q : GReq) (a : Answer) :
    (State.logResponse s q a).hk = s.hk := by simp [State.logResponse]
@[simp] theorem State.keepReply_hk (s : State) (q : GReq) (f : Bytes) :
    (State.keepReply s q f).hk = s.hk := by unfold State.keepReply; (repeat' split) <;> simp
@[simp] theorem State.putBox_hk (s : State) (fn : Nat) (x : Mailbox) :
    (State.putBox s fn x).hk = s.hk := by simp [State.putBox]
@[simp] theorem State.badFrame_hk (s : State) (p : GdpPath) (cause : Nat) :
    (State.badFrame s p cause).hk = s.hk := by unfold State.badFrame; (repeat' split) <;> simp
@[simp] theorem mbxStatusRead_hk (fn : Nat) (s : State) :
    (mbxStatusRead fn s).hk = s.hk := by simp [mbxStatusRead]
@[simp] theorem sessionIdle_hk (sid : Nat) (s : State) :
    (sessionIdle sid s).hk = s.hk := by simp [sessionIdle]
@[simp] theorem halfOpen_hk (sid : Nat) (s : State) :
    (halfOpen sid s).hk = s.hk := by simp [halfOpen]
@[simp] theorem muteEnd_hk (p : GdpPath) (s : State) :
    (muteEnd p s).hk = s.hk := by simp [muteEnd]
@[simp] theorem blockTimeout_hk (sid : Nat) (s : State) :
    (blockTimeout sid s).hk = s.hk := by simp [blockTimeout]
@[simp] theorem State.withFetchWord_hk (s : State) (nbits : Nat) (w : Nat) :
    (State.withFetchWord s nbits w).hk = s.hk := by simp only [State.withFetchWord]; (repeat' split) <;> simp 
end Sys2Proof.Machine
end

