-- ==== Sys2Proof/Laws/Fabric.lean ====
section
/-! SUPPORT. Laws/Fabric.lean: a routed frame for this device is handed to its row (spec/11 R459–R464). -/
namespace Sys2Proof.Machine
open Sys2Proof

/-- A frame that has come to this device is handed on. -/
theorem received_here (t port ty : Nat) (f : HFrame) (s u : State) (g : HFrame) (k : State → HFrame → State) (h : FrameHere t port ty f s u g) :
    (s.at t).received port ty f k = k u g := by
  obtain ⟨_, h2, h3, h4, h5, h6, h7, h8⟩ := h
  unfold State.received
  have e4 : ((s.at t).port port).live = true := h4
  have e5 : ((s.at t).incI .RX_BYTES port (hfSize f)).fabricOn = true := by
    simpa [State.fabricOn, State.physAddr, State.set0, State.setting] using h5
  have e6 : ((s.at t).incI .RX_BYTES port (hfSize f)).logAddr = s.logAddr := by
    simp [State.logAddr, State.physAddr, State.set0, State.setting]
  rw [if_neg (by rw [e4]; simp), if_neg (by simp [h2]), if_neg (by simp [h3])]
  dsimp only
  rw [e5, e6, if_neg (by simp), if_neg (by simp [h6]), h7]
  dsimp only
  rw [← h8]

/-- … and, next in its flow, taken. -/
theorem received_next (t port ty : Nat) (f : HFrame) (s v : State) (g : HFrame) (k : HFrame → State → State) (h : FrameNext t port ty f s v g) :
    (s.at t).received port ty f (fun s f => s.inOrder f (k f)) = k g v := by
  obtain ⟨u, h1, h2, rfl⟩ := h
  rw [received_here t port ty f s u g _ h1]
  unfold State.inOrder
  rw [if_pos (by simp [h2])]

end Sys2Proof.Machine
end

