-- ==== Sys2Proof/Laws/Gdp.lean ====
section
/-! SUPPORT. Laws/Gdp.lean: a frame that the model builds reads back as it was built, and passes its own checks (spec/03 R90, R91). -/
namespace Sys2Proof.Machine
open Sys2Proof

@[simp] theorem length_leBytes (n v : Nat) : (leBytes n v).length = n := by
  induction n generalizing v with
  | zero => rfl
  | succ n ih => simp [leBytes, ih]

@[simp] theorem leNat_leBytes (n v : Nat) : leNat (leBytes n v) = v % 256 ^ n := by
  induction n generalizing v with
  | zero => simp [leBytes, leNat, Nat.mod_one]
  | succ n ih =>
    simp only [leBytes, leNat, ih, BitVec.toNat_ofNat]
    rw [show (256 : Nat) ^ (n + 1) = 256 * 256 ^ n from Nat.pow_succ', Nat.mod_mul]

/-- A CRC-32C has 32 bits. -/
theorem crcStep_lt (c : Nat) (h : c < 2 ^ 32) : crcStep c < 2 ^ 32 := by
  unfold crcStep; split
  · exact Nat.xor_lt_two_pow (by omega) (by decide)
  · omega
theorem crcByte_lt (c : Nat) (b : Byte) (h : c < 2 ^ 32) : crcByte c b < 2 ^ 32 := by
  unfold crcByte
  repeat apply crcStep_lt
  exact Nat.xor_lt_two_pow h (Nat.lt_trans b.isLt (by decide))
theorem crc32c_lt (b : Bytes) : crc32c b < 2 ^ 32 := by
  unfold crc32c
  refine Nat.xor_lt_two_pow ?_ (by decide)
  suffices ∀ c, c < 2 ^ 32 → b.foldl crcByte c < 2 ^ 32 from this _ (by decide)
  induction b with
  | nil => intro c h; exact h
  | cons a r ih => intro c h; exact ih _ (crcByte_lt c a h)

/-- The fields of a built frame: each is the value it was built from, cut to its width. -/
theorem reqOf_gdpFrame (p : GdpPath) (op session seq index sub status detail target : Nat) (payload : Bytes) (h : payload.length < 65536) :
    reqOf p (gdpFrame op session seq index sub status detail target payload) =
      { path := p, ver := 1, op := op % 256, sid := session % 65536, seq := seq % 65536, index := index % 65536, sub := sub % 256
        detail := detail % 256, target := target % 256, payload := payload } := by
  have e2 : ∀ v : Nat, v % 256 + 256 * (v / 256 % 256) = v % 65536 := by intro v; omega
  simp [reqOf, gdpFrame, leBytes, leAt, leNat, e2, Nat.mod_eq_of_lt h]

/-- A built frame is good. -/
theorem frameCause_gdpFrame (op session seq index sub status detail target : Nat) (payload : Bytes) (h : payload.length ≤ 1024) :
    frameCause (gdpFrame op session seq index sub status detail target payload) = 0 := by
  have el : payload.length % 256 + 256 * (payload.length / 256 % 256) = payload.length := by omega
  unfold gdpFrame
  extract_lets b
  have hb : b.length = 16 + payload.length := by simp [b]; omega
  have h0 : leAt (b ++ leBytes 4 (crc32c b)) 0 2 = 0x4744 := by simp [b, leBytes, leAt, leNat]
  have h1 : leAt (b ++ leBytes 4 (crc32c b)) 14 2 = payload.length := by simp [b, leBytes, leAt, leNat, el]
  have h2 : leAt (b ++ leBytes 4 (crc32c b)) (16 + payload.length) 4 = crc32c b := by
    unfold leAt
    rw [List.drop_append_of_le_length (by omega), ← hb]
    simp only [List.drop_length, List.nil_append]
    rw [List.take_of_length_le (by simp), leNat_leBytes]
    exact Nat.mod_eq_of_lt (crc32c_lt b)
  have h3 : (b ++ leBytes 4 (crc32c b)).take (16 + payload.length) = b := by
    rw [← hb]; simp
  unfold frameCause
  simp only [h0, h1, h2, h3]
  simp [hb]
  omega

end Sys2Proof.Machine
end

