-- ==== Sys2Proof/Laws/Key.lean ====
section
/-! SUPPORT. Laws/Key.lean: what no operation of a command changes (the queue, the clock, the build and the life-cycle registers), as one
tuple, and how a record update, a choice and a fold carry it. -/
namespace Sys2Proof.Machine
open Sys2Proof
/-- What no operation of a command changes. -/
def State.key (s : State) : List Instr × Nat × Part × Nat × Option Nat × Option Nat :=
  (s.pending, s.now, s.part, s.ward.lc, s.ward.lcNext, s.ward.erasing)
@[simp] theorem key_eta (s : State) : (s.pending, s.now, s.part, s.ward.lc, s.ward.lcNext, s.ward.erasing) = s.key := id rfl
@[simp] theorem key_mk (pending_ : List Instr) (now_ : Nat) (out_ : List Output) (free_ : Nat) (part_ : Part) (cfg_ : List (OKey × OVal)) (waiting_ : List (OKey × OVal)) (cnt_ : List (OKey × Nat)) (store_ : List (OKey × OVal)) (beat_ : BeatS) (hier_ : HierS) (gdp_ : GdpS) (funcs_ : List (Func × FuncS)) (evt_ : EvtS) (bist_ : BistS) (eng_ : Map EngS) (kpr_ : KprS) (cal_ : CalS) (slots_ : SlotsS) (hostMem_ : List Host.Cell) (kwMem_ : Map (List Host.Cell)) (srv_ : SrvS) (kv_ : KvS) (sense_ : SenseS) (pwr_ : PwrS) (fab_ : FabS) (latch_ : LatchS) (ward_ : WardS) (mem_ : MemS) (boot_ : BootS) :
    (State.mk pending_ now_ out_ free_ part_ cfg_ waiting_ cnt_ store_ beat_ hier_ gdp_ funcs_ evt_ bist_ eng_ kpr_ cal_ slots_ hostMem_ kwMem_ srv_ kv_ sense_ pwr_ fab_ latch_ ward_ mem_ boot_).key = (pending_, now_, part_, ward_.lc, ward_.lcNext, ward_.erasing) := id rfl
@[simp] theorem key_ite (c : Prop) [Decidable c] (a b : State) : (if c then a else b).key = if c then a.key else b.key := by split <;> rfl
@[simp] theorem key_foldl {α : Type} (f : State → α → State) (h : ∀ x a, (f x a).key = x.key) (l : List α) (s : State) : (l.foldl f s).key = s.key := by
  induction l generalizing s with
  | nil => rfl
  | cons a r ih => simp [ih, h]
@[simp] theorem extend_lc (w : WardS) (i : Nat) (r : Bytes) : (w.extend i r).lc = w.lc := id rfl
@[simp] theorem extend_lcNext (w : WardS) (i : Nat) (r : Bytes) : (w.extend i r).lcNext = w.lcNext := id rfl
@[simp] theorem extend_erasing (w : WardS) (i : Nat) (r : Bytes) : (w.extend i r).erasing = w.erasing := id rfl
@[simp] theorem putKway_lc (s : State) (n : Nat) (x : KeywayS) : (s.putKway n x).ward.lc = s.ward.lc := id rfl
@[simp] theorem putKway_lcNext (s : State) (n : Nat) (x : KeywayS) : (s.putKway n x).ward.lcNext = s.ward.lcNext := id rfl
@[simp] theorem putKway_erasing (s : State) (n : Nat) (x : KeywayS) : (s.putKway n x).ward.erasing = s.ward.erasing := id rfl
@[simp] theorem putKeySlot_lc (s : State) (n : Nat) (x : KeySlot) : (s.putKeySlot n x).ward.lc = s.ward.lc := id rfl
@[simp] theorem putKeySlot_lcNext (s : State) (n : Nat) (x : KeySlot) : (s.putKeySlot n x).ward.lcNext = s.ward.lcNext := id rfl
@[simp] theorem putKeySlot_erasing (s : State) (n : Nat) (x : KeySlot) : (s.putKeySlot n x).ward.erasing = s.ward.erasing := id rfl
/-- What a command's instant changes: the clock alone, and it never runs back (log 1). -/
@[simp] theorem State.at_key (s : State) (n : Nat) :
    (s.at n).key = (s.pending, max s.now n, s.part, s.ward.lc, s.ward.lcNext, s.ward.erasing) := id rfl
end Sys2Proof.Machine
end

