-- ==== Sys2Proof/Laws/Key1.lean ====
section
/-! SUPPORT. Laws/Key1.lean: operations that leave it as it was (part 1 of 4, each operation after those it calls). -/
namespace Sys2Proof.Machine
open Sys2Proof
@[simp] theorem State.emit_key (s : State) (o : Output) :
    (State.emit s o).key = s.key := by simp [State.emit]
@[simp] theorem State.drawn_key (s : State) :
    (State.drawn s).key = s.key := by simp [State.drawn]
@[simp] theorem State.random_key (s : State) (n : Nat) :
    (State.random s n).1.key = s.key := by simp [State.random]
@[simp] theorem State.putSetting_key (s : State) (k : OKey) (v : OVal) :
    (State.putSetting s k v).key = s.key := by simp [State.putSetting]
@[simp] theorem State.putCount_key (s : State) (k : OKey) (v : Nat) :
    (State.putCount s k v).key = s.key := by simp [State.putCount]
@[simp] theorem State.addCount_key (s : State) (k : OKey) (n : Nat) :
    (State.addCount s k n).key = s.key := by simp [State.addCount]
@[simp] theorem State.inc_key (s : State) (o : Obj) (n : Nat) :
    (State.inc s o n).key = s.key := by simp [State.inc]
@[simp] theorem State.incK_key (s : State) (o : Obj) (kw : Nat) (n : Nat) :
    (State.incK s o kw n).key = s.key := by simp [State.incK]
@[simp] theorem State.incI_key (s : State) (o : Obj) (inst : Nat) (n : Nat) :
    (State.incI s o inst n).key = s.key := by simp [State.incI]
@[simp] theorem State.dmaRead_key (s : State) (fn : Nat) (a : Nat) (n : Nat) :
    (State.dmaRead s fn a n).1.key = s.key := by simp [State.dmaRead]
@[simp] theorem State.dmaWrite_key (s : State) (fn : Nat) (a : Nat) (b : Bytes) :
    (State.dmaWrite s fn a b).key = s.key := by simp [State.dmaWrite]
@[simp] theorem State.hostWrote_key (s : State) (h : List HostCell) :
    (State.hostWrote s h).key = s.key := by simp [State.hostWrote]
@[simp] theorem State.milestone_key (s : State) (row : Nat) (ps : Nat) :
    (State.milestone s row ps).key = s.key := by simp [State.milestone]
@[simp] theorem State.raiseEv_key (s : State) (e : Event) :
    (State.raiseEv s e).key = s.key := by simp [State.raiseEv]
@[simp] theorem State.raise_key (s : State) (code : Nat) (kw : Nat) (unit : UnitId) (p0 : Nat) (p1 : Nat) (p2 : Nat) :
    (State.raise s code kw unit p0 p1 p2).key = s.key := by simp [State.raise]
@[simp] theorem State.raiseMany_key (s : State) (code : Nat) (kw : Nat) (a1 : Nat) :
    (State.raiseMany s code kw a1).key = s.key := by fun_induction State.raiseMany s code kw a1 <;> simp_all
@[simp] theorem State.setOwn_key (s : State) (u : UnitId) (x : UState) :
    (State.setOwn s u x).key = s.key := by simp [State.setOwn]
@[simp] theorem State.putEngine_key (s : State) (n : Nat) (e : EngS) :
    (State.putEngine s n e).key = s.key := by simp [State.putEngine]
@[simp] theorem State.putTier_key (s : State) (n : Nat) (t : Nat) (x : TierS) :
    (State.putTier s n t x).key = s.key := by simp [State.putTier]
@[simp] theorem State.putFunc_key (s : State) (f : Func) (x : FuncS) :
    (State.putFunc s f x).key = s.key := by simp [State.putFunc]
@[simp] theorem State.putReq_key (s : State) (i : Nat) (r : ReqS) :
    (State.putReq s i r).key = s.key := by simp [State.putReq]
@[simp] theorem State.putSub_key (s : State) (fn : Nat) (x : SubS) :
    (State.putSub s fn x).key = s.key := by simp [State.putSub]
@[simp] theorem State.tokenIrq_key (s : State) (kw : Nat) :
    (State.tokenIrq s kw).key = s.key := by simp [State.tokenIrq]
@[simp] theorem State.ringWrite_key (s : State) (i : Nat) (tok : Nat) (flags : Nat) (logprob : Nat) (beat : Nat) (pos : Nat) :
    (State.ringWrite s i tok flags logprob beat pos).key = s.key := by simp [State.ringWrite]
@[simp] theorem State.logEnd_key (s : State) (i : Nat) :
    (State.logEnd s i).key = s.key := by simp [State.logEnd]
@[simp] theorem State.note_key (s : State) (kw : Nat) (r : StandbyRec) :
    (State.note s kw r).key = s.key := by simp [State.note]
@[simp] theorem State.closeReq_key (s : State) (i : Nat) (cause : Nat) :
    (State.closeReq s i cause).key = s.key := by simp [State.closeReq]
@[simp] theorem State.endReq_key (s : State) (i : Nat) (cause : Nat) :
    (State.endReq s i cause).key = s.key := by simp [State.endReq]
@[simp] theorem State.holdReq_key (s : State) (i : Nat) (h : Hold) :
    (State.holdReq s i h).key = s.key := by simp [State.holdReq]
@[simp] theorem State.releaseReq_key (s : State) (i : Nat) :
    (State.releaseReq s i).key = s.key := by simp [State.releaseReq]
@[simp] theorem State.dropWork_key (s : State) (i : Nat) :
    (State.dropWork s i).key = s.key := by simp [State.dropWork]
@[simp] theorem State.faultStep_key (s : State) (i : Nat) (f : StepFault) :
    (State.faultStep s i f).key = s.key := by simp [State.faultStep]
@[simp] theorem State.faultAll_key (s : State) (f : StepFault) (a1 : List Nat) :
    (State.faultAll s f a1).key = s.key := by fun_induction State.faultAll s f a1 <;> simp_all
@[simp] theorem State.histCount_key (s : State) (kw : Nat) (cls : Nat) (kind : Nat) (v : Nat) :
    (State.histCount s kw cls kind v).key = s.key := by simp [State.histCount]
@[simp] theorem State.putSlot_key (s : State) (n : Nat) (x : SlotS) :
    (State.putSlot s n x).key = s.key := by simp [State.putSlot]
@[simp] theorem State.mapTile_key (s : State) (eng : Nat) (tier : Nat) (f : Tile → Tile) :
    (State.mapTile s eng tier f).key = s.key := by simp [State.mapTile]
@[simp] theorem State.mapVer_key (s : State) (n : Nat) (w : Which) (f : Version → Version) :
    (State.mapVer s n w f).key = s.key := by simp [State.mapVer]
@[simp] theorem State.verifyTile_key (s : State) (eng : Nat) (tier : Nat) (cells : List CellRead) :
    (State.verifyTile s eng tier cells).key = s.key := by unfold State.verifyTile; (repeat' split) <;> simp
@[simp] theorem State.funcTo_key (s : State) (f : Func) (x : FState) :
    (State.funcTo s f x).key = s.key := by simp [State.funcTo]
@[simp] theorem State.funcKeep_key (s : State) (f : Func) :
    (State.funcKeep s f).key = s.key := by simp [State.funcKeep]
@[simp] theorem State.funcFail_key (s : State) (f : Func) (cause : Nat) :
    (State.funcFail s f cause).key = s.key := by simp [State.funcFail]
@[simp] theorem State.funcForce_key (s : State) (f : Func) :
    (State.funcForce s f).key = s.key := by simp [State.funcForce]
@[simp] theorem State.memTake_key (s : State) (kw : Nat) (bytes : Nat) :
    (State.memTake s kw bytes).key = s.key := by simp [State.memTake]
@[simp] theorem State.memGive_key (s : State) (kw : Nat) (bytes : Nat) :
    (State.memGive s kw bytes).key = s.key := by simp [State.memGive]
@[simp] theorem State.devTake_key (s : State) (d : DevMem) (bytes : Nat) :
    (State.devTake s d bytes).key = s.key := by simp [State.devTake]
@[simp] theorem State.devGive_key (s : State) (d : DevMem) (bytes : Nat) :
    (State.devGive s d bytes).key = s.key := by simp [State.devGive]
@[simp] theorem State.putKway_key (s : State) (n : Nat) (x : KeywayS) :
    (State.putKway s n x).key = s.key := by simp [State.putKway]
@[simp] theorem State.putPort_key (s : State) (p : Nat) (x : PortS) :
    (State.putPort s p x).key = s.key := by simp [State.putPort]
@[simp] theorem State.scanCandidates_key (s : State) (flow : Nat) (a1 : List Nat) :
    (State.scanCandidates s flow a1).1.key = s.key := by fun_induction State.scanCandidates s flow a1 <;> simp_all
@[simp] theorem State.route_key (s : State) (dst : Nat) (flow : Nat) :
    (State.route s dst flow).1.key = s.key := by simp only [State.route]; (repeat' split) <;> simp
@[simp] theorem State.countVia_key (s : State) (via : Option Nat) :
    (State.countVia s via).key = s.key := by simp [State.countVia]
@[simp] theorem State.putKeySlot_key (s : State) (n : Nat) (k : KeySlot) :
    (State.putKeySlot s n k).key = s.key := by simp [State.putKeySlot]
@[simp] theorem State.sendOn_key (s : State) (p : Nat) (f : HFrame) :
    (State.sendOn s p f).key = s.key := by simp [State.sendOn]
@[simp] theorem State.sendAll_key (s : State) (p : Nat) (a1 : List HFrame) :
    (State.sendAll s p a1).key = s.key := by fun_induction State.sendAll s p a1 <;> simp_all
@[simp] theorem State.floodOn_key (s : State) (except : Option Nat) (f : HFrame) :
    (State.floodOn s except f).key = s.key := by simp [State.floodOn]
@[simp] theorem State.dropFlow_key (s : State) (num : Nat) :
    (State.dropFlow s num).key = s.key := by simp [State.dropFlow]
@[simp] theorem State.mapFlow_key (s : State) (num : Nat) (g : Flow → Flow) :
    (State.mapFlow s num g).key = s.key := by simp [State.mapFlow]
@[simp] theorem State.pump_key (s : State) (num : Nat) :
    (State.pump s num).key = s.key := by unfold State.pump; (repeat' split) <;> simp
@[simp] theorem State.startFlow_key (s : State) (kind : FlowKind) (dst : Nat) (kw : Nat) (l : List FlowItem) :
    (State.startFlow s kind dst kw l).1.key = s.key := by simp only [State.startFlow]; (repeat' split) <;> simp
theorem State.startFlow_key' {s : State} {kind : FlowKind} {dst : Nat} {kw : Nat} {l : List FlowItem} {t_ : State} {y_} (h : State.startFlow s kind dst kw l = (t_, y_)) : t_.key = s.key := by
  have k := State.startFlow_key s kind dst kw l; rw [h] at k; exact k
@[simp] theorem State.answer_key (s : State) (f : HFrame) (l : List FlowItem) :
    (State.answer s f l).key = s.key := by simp only [State.answer]; (repeat' split) <;> simp
@[simp] theorem State.sendRecords_key (s : State) (kw : Nat) (recs : List StandbyRec) (a3 : List Nat) :
    (State.sendRecords s kw recs a3).key = s.key := by
  induction a3 generalizing s with
  | nil => rfl
  | cons a_ r_ ih =>
    unfold State.sendRecords
    dsimp only
    rw [ih]
    split <;> simp
@[simp] theorem State.flush_key (s : State) :
    (State.flush s).key = s.key := by simp [State.flush]
@[simp] theorem State.replyTo_key (s : State) (f : HFrame) (type : Nat) (status : Nat) (pay : Bytes) :
    (State.replyTo s f type status pay).key = s.key := by simp [State.replyTo]
@[simp] theorem State.changeTier_key (s : State) (eng : Nat) (tier : Nat) (x : TierS) :
    (State.changeTier s eng tier x).key = s.key := by simp [State.changeTier]
@[simp] theorem State.abandonRuns_key (s : State) (p : Nat → Bool) :
    (State.abandonRuns s p).key = s.key := by simp [State.abandonRuns]
@[simp] theorem State.discardUnit_key (s : State) (u : UnitId) :
    (State.discardUnit s u).key = s.key := by simp [State.discardUnit]
@[simp] theorem State.isolateFault_key (s : State) (u : UnitId) :
    (State.isolateFault s u).key = s.key := by simp [State.isolateFault]
@[simp] theorem State.flagColumn_key (s : State) (eng : Nat) (tier : Nat) (col : Nat) :
    (State.flagColumn s eng tier col).key = s.key := by simp [State.flagColumn]
@[simp] theorem State.flagColumns_key (s : State) (eng : Nat) (tier : Nat) (a1 : List Nat) :
    (State.flagColumns s eng tier a1).key = s.key := by fun_induction State.flagColumns s eng tier a1 <;> simp_all
@[simp] theorem State.unflagColumn_key (s : State) (eng : Nat) (tier : Nat) (col : Nat) :
    (State.unflagColumn s eng tier col).key = s.key := by simp [State.unflagColumn]
@[simp] theorem State.retireEngine_key (s : State) (eng : Nat) (c : RetireCause) :
    (State.retireEngine s eng c).key = s.key := by simp [State.retireEngine]
@[simp] theorem State.retireTier_key (s : State) (eng : Nat) (tier : Nat) :
    (State.retireTier s eng tier).key = s.key := by simp [State.retireTier]
@[simp] theorem State.sparesLow_key (s : State) (eng : Nat) (tier : Nat) (before : Nat) :
    (State.sparesLow s eng tier before).key = s.key := by simp [State.sparesLow]
@[simp] theorem State.sparesLowAll_key (s : State) (eng : Nat) (before : List Nat) :
    (State.sparesLowAll s eng before).key = s.key := by simp [State.sparesLowAll]
@[simp] theorem State.markRaised_key (s : State) (old : Nat) :
    (State.markRaised s old).key = s.key := by simp [State.markRaised]
@[simp] theorem State.cellRemap_key (s : State) (eng : Nat) (tier : Nat) (col : Nat) :
    (State.cellRemap s eng tier col).key = s.key := by simp only [State.cellRemap]; (repeat' split) <;> simp
@[simp] theorem State.pathRemap_key (s : State) (eng : Nat) (tier : Nat) (col : Nat) :
    (State.pathRemap s eng tier col).key = s.key := by simp only [State.pathRemap]; (repeat' split) <;> simp
@[simp] theorem State.chargePasses_key (s : State) (eng : Nat) (n : Nat) (sA : Nat) (selected : Bool) :
    (State.chargePasses s eng n sA selected).key = s.key := by simp [State.chargePasses]
@[simp] theorem State.chargeSelect_key (s : State) :
    (State.chargeSelect s).key = s.key := by simp [State.chargeSelect]
@[simp] theorem State.readBack_key (s : State) (eng : Nat) (tier : Nat) :
    (State.readBack s eng tier).key = s.key := by simp [State.readBack]
@[simp] theorem State.refuseOrder_key (s : State) (o : PassOrder) :
    (State.refuseOrder s o).key = s.key := by simp [State.refuseOrder]
@[simp] theorem State.takeOrder_key (s : State) (o : PassOrder) :
    (State.takeOrder s o).key = s.key := by simp [State.takeOrder]
@[simp] theorem State.takeOrders_key (s : State) (a1 : List PassOrder) :
    (State.takeOrders s a1).key = s.key := by fun_induction State.takeOrders s a1 <;> simp_all
@[simp] theorem State.sweepQueue_key (s : State) (core : Nat) :
    (State.sweepQueue s core).key = s.key := by simp [State.sweepQueue]
@[simp] theorem State.startPass_key (s : State) (o : PassOrder) :
    (State.startPass s o).key = s.key := by simp [State.startPass]
@[simp] theorem State.startPasses_key (s : State) (a1 : List PassOrder) :
    (State.startPasses s a1).key = s.key := by fun_induction State.startPasses s a1 <;> simp_all
@[simp] theorem State.inStepCfg_key (s : State) (beat : Nat) (f : State → State) (h_f : ∀ x0, (f x0).key = x0.key) :
    (State.inStepCfg s beat f).key = s.key := by simp only [State.inStepCfg]; (repeat' split) <;> simp [h_f]
@[simp] theorem State.keepStepCfg_key (s : State) :
    (State.keepStepCfg s).key = s.key := by simp [State.keepStepCfg]
@[simp] theorem coreSlot_key (core : Nat) (l : List PassOrder) (s : State) :
    (coreSlot core l s).key = s.key := by simp [coreSlot]
@[simp] theorem State.rangeFail_key (s : State) (p : Pass) (col : Nat) :
    (State.rangeFail s p col).key = s.key := by simp [State.rangeFail]
@[simp] theorem State.rangeFailAll_key (s : State) (p : Pass) (a1 : List Nat) :
    (State.rangeFailAll s p a1).key = s.key := by fun_induction State.rangeFailAll s p a1 <;> simp_all
@[simp] theorem State.leavePass_key (s : State) (p : Pass) :
    (State.leavePass s p).key = s.key := by simp [State.leavePass]
@[simp] theorem State.endPass_key (s : State) (d : PassDone) :
    (State.endPass s d).key = s.key := by simp [State.endPass]
@[simp] theorem State.rePass_key (s : State) (p : Pass) :
    (State.rePass s p).key = s.key := by simp [State.rePass]
@[simp] theorem State.capture_key (s : State) (p : Pass) (ws : List Nat) (outs : List OutNum) :
    (State.capture s p ws outs).key = s.key := by simp [State.capture]
@[simp] theorem State.settle_key (s : State) (p : Pass) (ws : List Nat) :
    (State.settle s p ws).key = s.key := by simp [State.settle]
@[simp] theorem countWords_key (r : PassResult) (s : State) :
    (countWords r s).key = s.key := by unfold countWords; (repeat' split) <;> simp
@[simp] theorem State.repairFailed_key (s : State) (p : Pass) (j : Nat) :
    (State.repairFailed s p j).key = s.key := by simp [State.repairFailed]
@[simp] theorem State.repairFailedAll_key (s : State) (p : Pass) (a1 : List Nat) :
    (State.repairFailedAll s p a1).key = s.key := by fun_induction State.repairFailedAll s p a1 <;> simp_all
@[simp] theorem State.subRange_key (s : State) (p : Pass) (a1 : List (List Nat)) :
    (State.subRange s p a1).key = s.key := by fun_induction State.subRange s p a1 <;> simp_all
@[simp] theorem splitDone_key (r : SplitResult) (s : State) :
    (splitDone r s).key = s.key := by unfold splitDone; (repeat' split) <;> simp
@[simp] theorem State.diagEnd_key (s : State) (eng : Nat) (d : Diag) (read : List Nat) :
    (State.diagEnd s eng d read).key = s.key := by unfold State.diagEnd; (repeat' split) <;> simp
@[simp] theorem State.deEscalate_key (s : State) (eng : Nat) :
    (State.deEscalate s eng).key = s.key := by simp [State.deEscalate]
@[simp] theorem State.startDiag_key (s : State) (eng : Nat) :
    (State.startDiag s eng).key = s.key := by simp only [State.startDiag]; (repeat' split) <;> simp
@[simp] theorem State.shadowRemap_key (s : State) (eng : Nat) (j : SpareJob) :
    (State.shadowRemap s eng j).key = s.key := by simp [State.shadowRemap]
@[simp] theorem State.swapRemap_key (s : State) (eng : Nat) (tier : Nat) :
    (State.swapRemap s eng tier).key = s.key := by simp [State.swapRemap]
@[simp] theorem State.applyRetire_key (s : State) (eng : Nat) :
    (State.applyRetire s eng).key = s.key := by simp only [State.applyRetire]; (repeat' split) <;> simp 
@[simp] theorem State.draftsLost_key (s : State) (n : Nat) :
    (State.draftsLost s n).key = s.key := by simp [State.draftsLost]
@[simp] theorem State.slotTo_key (s : State) (n : Nat) (st : SlotState) :
    (State.slotTo s n st).key = s.key := by simp [State.slotTo]
@[simp] theorem State.writeRecord_key (s : State) (n : Nat) :
    (State.writeRecord s n).key = s.key := by simp [State.writeRecord]
@[simp] theorem State.freeVersion_key (s : State) (n : Nat) (v : Version) (staged : Bool) :
    (State.freeVersion s n v staged).key = s.key := by simp [State.freeVersion]
@[simp] theorem State.putRing_key (s : State) (fn : Nat) (r : RingS) :
    (State.putRing s fn r).key = s.key := by simp [State.putRing]
@[simp] theorem State.mapReq_key (s : State) (n : Nat) (version : Nat) (index : Nat) (f : ShardReq → ShardReq) :
    (State.mapReq s n version index f).key = s.key := by simp [State.mapReq]
@[simp] theorem State.drainRing_key (s : State) (fn : Nat) (a2 : Nat) :
    (State.drainRing s fn a2).key = s.key := by
  induction a2 generalizing s with
  | zero => rfl
  | succ a_ ih =>
    unfold State.drainRing
    (try dsimp only)
    (repeat' split) <;> (first | with_reducible rfl | (rw [ih]; simp; done) | (simp [ih]; done))
@[simp] theorem State.ringPush_key (s : State) (slot : Nat) (reason : Nat) (index : Nat) (version : Nat) (attempt : Nat) :
    (State.ringPush s slot reason index version attempt).key = s.key := by simp [State.ringPush]
@[simp] theorem State.issueReq_key (s : State) (n : Nat) (v : Version) (q : ShardReq) :
    (State.issueReq s n v q).key = s.key := by simp [State.issueReq]
@[simp] theorem State.issueVer_key (s : State) (n : Nat) (v : Version) :
    (State.issueVer s n v).key = s.key := by simp [State.issueVer]
@[simp] theorem State.issueSlot_key (s : State) (n : Nat) :
    (State.issueSlot s n).key = s.key := by simp [State.issueSlot]
@[simp] theorem State.loadFail_key (s : State) (n : Nat) (code : Nat) (report : Bool) :
    (State.loadFail s n code report).key = s.key := by simp only [State.loadFail]; (repeat' split) <;> simp
@[simp] theorem State.retryReq_key (s : State) (n : Nat) (v : Version) (q : ShardReq) (reason : Nat) :
    (State.retryReq s n v q reason).key = s.key := by simp [State.retryReq]
@[simp] theorem State.imageTiles_key (s : State) (n : Nat) (w : Which) (h : ShardHdr) (pay : Bytes) :
    (State.imageTiles s n w h pay).key = s.key := by unfold State.imageTiles; (repeat' split) <;> simp
@[simp] theorem State.storeShard_key (s : State) (n : Nat) (v : Version) (index : Nat) (bytes : Bytes) :
    (State.storeShard s n v index bytes).key = s.key := by simp [State.storeShard]
@[simp] theorem State.allAccepted_key (s : State) (n : Nat) (w : Which) :
    (State.allAccepted s n w).key = s.key := by simp only [State.allAccepted]; (repeat' split) <;> simp
@[simp] theorem State.readyTiles_key (s : State) (n : Nat) :
    (State.readyTiles s n).key = s.key := by simp [State.readyTiles]
@[simp] theorem State.readySlot_key (s : State) (n : Nat) :
    (State.readySlot s n).key = s.key := by simp only [State.readySlot]; (repeat' split) <;> simp
@[simp] theorem State.slotsReady_key (s : State) :
    (State.slotsReady s).key = s.key := by simp [State.slotsReady]
@[simp] theorem State.acceptShard_key (s : State) (n : Nat) (w : Which) (v : Version) (h : ShardHdr) (pay : Bytes) :
    (State.acceptShard s n w v h pay).key = s.key := by simp [State.acceptShard]
@[simp] theorem State.sealedFail_key (s : State) (kw : Nat) :
    (State.sealedFail s kw).key = s.key := by simp [State.sealedFail]
@[simp] theorem State.shardArrived_key (s : State) (n : Nat) (w : Which) (v : Version) (q : ShardReq) (h : ShardHdr) (buf : Option Bytes) (len : Nat) :
    (State.shardArrived s n w v q h buf len).key = s.key := by unfold State.shardArrived; (repeat' split) <;> simp
@[simp] theorem State.putTotal_key (s : State) (z : Total) :
    (State.putTotal s z).key = s.key := by simp [State.putTotal]
@[simp] theorem State.addTerm_key (s : State) (k : TotalKey) (place : Nat) (t : Term) :
    (State.addTerm s k place t).key = s.key := by simp only [State.addTerm]; (repeat' split) <;> simp
@[simp] theorem State.dropTerms_key (s : State) (k : TotalKey) (places : List Nat) :
    (State.dropTerms s k places).key = s.key := by simp only [State.dropTerms]; (repeat' split) <;> simp 
@[simp] theorem State.mapOut_key (s : State) (engs : List Nat) (tier : Nat) (k : TotalKey) (j : Nat) (f : OutNum → OutNum) :
    (State.mapOut s engs tier k j f).key = s.key := by simp [State.mapOut]
@[simp] theorem State.chunkOverflow_key (s : State) (core : Nat) (k : TotalKey) (tier : Nat) (engs : List Nat) (j : Nat) :
    (State.chunkOverflow s core k tier engs j).key = s.key := by simp [State.chunkOverflow]
@[simp] theorem State.promoteChunk_key (s : State) (core : Nat) (k : TotalKey) (tier : Nat) (engs : List Nat) (half : PassHalf) :
    (State.promoteChunk s core k tier engs half).key = s.key := by simp only [State.promoteChunk]; (repeat' split) <;> simp
@[simp] theorem State.repairOut_key (s : State) (core : Nat) (k : TotalKey) (tier : Nat) (engs : List Nat) (eng : Nat) (blocks : List DBlock) :
    (State.repairOut s core k tier engs eng blocks).key = s.key := by simp only [State.repairOut]; (repeat' split) <;> simp 
@[simp] theorem State.addSplit_key (s : State) (core : Nat) (k : TotalKey) (tier : Nat) (engs : List Nat) (eng : Nat) (half : PassHalf) :
    (State.addSplit s core k tier engs eng half).key = s.key := by unfold State.addSplit; (repeat' split) <;> simp
@[simp] theorem State.outlierDone_key (s : State) (core : Nat) (req : Nat) :
    (State.outlierDone s core req).key = s.key := by simp [State.outlierDone]
@[simp] theorem State.addOutlier_key (s : State) (core : Nat) (k : TotalKey) (tier : Nat) (engs : List Nat) (eng : Nat) (row : Nat) (value : Nat) :
    (State.addOutlier s core k tier engs eng row value).key = s.key := by unfold State.addOutlier; (repeat' split) <;> simp
@[simp] theorem State.countNarrow_key (s : State) (kw : Nat) (n : Narrowed) :
    (State.countNarrow s kw n).key = s.key := by simp [State.countNarrow]
@[simp] theorem State.nonfinite_key (s : State) (kw : Nat) :
    (State.nonfinite s kw).key = s.key := by simp [State.nonfinite]
@[simp] theorem State.narrowFor_key (s : State) (req : Nat) (fmt : Nat) (edge : Bool) (octaves : Bool) (x : List F32) (digital : List Bool) :
    (State.narrowFor s req fmt edge octaves x digital).1.key = s.key := by simp only [State.narrowFor]; (repeat' split) <;> simp
theorem State.narrowFor_key' {s : State} {req : Nat} {fmt : Nat} {edge : Bool} {octaves : Bool} {x : List F32} {digital : List Bool} {t_ : State} {y_} (h : State.narrowFor s req fmt edge octaves x digital = (t_, y_)) : t_.key = s.key := by
  have k := State.narrowFor_key s req fmt edge octaves x digital; rw [h] at k; exact k
@[simp] theorem State.addBlock_key (s : State) (b : NarrowBlk) :
    (State.addBlock s b).key = s.key := by simp [State.addBlock]
@[simp] theorem State.narrowInto_key (s : State) (core : Nat) (req : Nat) (fmt : Nat) (edge : Bool) (octaves : Bool) (x : List F32) (digital : List Bool) :
    (State.narrowInto s core req fmt edge octaves x digital).key = s.key := by
  unfold State.narrowInto
  (repeat' split) <;> first | (simp ; done) | (rename_i hx; have kx := congrArg (fun z => z.1.key) hx; simp  at kx; simp [kx]; done) | (rename_i hx; have kx := congrArg (fun z => z.1.key) hx; simp  at kx; simp ; exact kx)
@[simp] theorem State.narrowWork_key (s : State) (core : Nat) (req : Nat) (place : NarrowPlace) (x : List F32) :
    (State.narrowWork s core req place x).key = s.key := by
  unfold State.narrowWork
  (try dsimp only)
  (repeat' split) <;> (first | with_reducible rfl | (simp; done) | exact (State.narrowFor_key' ‹_›) | (simp; exact (State.narrowFor_key' ‹_›)) | (rename_i hh; have kk := congrArg (fun z => z.1.key) hh; simp at kk; exact kk) | (rename_i hh; have kk := congrArg (fun z => z.1.key) hh; simp at kk; simp; exact kk) | (rename_i hh; have kk := congrArg (fun z => z.1.key) hh; simp at kk; refine kk.trans ?_; exact (State.narrowFor_key' ‹_›)) | (rename_i hh; have kk := congrArg (fun z => z.1.key) hh; simp at kk; simp; refine kk.trans ?_; exact (State.narrowFor_key' ‹_›)))
@[simp] theorem State.badBlock_key (s : State) (kw : Nat) :
    (State.badBlock s kw).key = s.key := by simp [State.badBlock]
@[simp] theorem State.readBlockWork_key (s : State) (req : Nat) (fmt : Nat) (used : Nat) (data : Bytes) (scale : Nat) :
    (State.readBlockWork s req fmt used data scale).key = s.key := by unfold State.readBlockWork; (repeat' split) <;> simp
@[simp] theorem State.narrowVec_key (s : State) (req : Nat) (octaves : Bool) (a3 : List (List F32)) :
    (State.narrowVec s req octaves a3).1.key = s.key := by
  fun_induction State.narrowVec s req octaves a3 with
  | case1 => rfl
  | case2 s x r t h => exact State.narrowFor_key' h
  | case3 s x r t n h u hu ih => rw [hu] at ih; exact ih.trans (State.narrowFor_key' h)
  | case4 s x r t n h u l hu ih => rw [hu] at ih; exact ih.trans (State.narrowFor_key' h)
theorem State.narrowVec_key' {s : State} {req : Nat} {octaves : Bool} {a3 : List (List F32)} {t_ : State} {y_} (h : State.narrowVec s req octaves a3 = (t_, y_)) : t_.key = s.key := by
  have k := State.narrowVec_key s req octaves a3; rw [h] at k; exact k
@[simp] theorem State.adapterWork_key (s : State) (k : TotalKey) (x : List F32) :
    (State.adapterWork s k x).key = s.key := by
  unfold State.adapterWork
  (try dsimp only)
  (repeat' split) <;> (first | with_reducible rfl | (simp; done) | exact (State.narrowVec_key' ‹_›) | (simp; exact (State.narrowVec_key' ‹_›)) | exact ((State.narrowVec_key' ‹_›).trans (State.narrowVec_key' ‹_›)) | (simp; exact ((State.narrowVec_key' ‹_›).trans (State.narrowVec_key' ‹_›))) | (rename_i hh; have kk := congrArg (fun z => z.1.key) hh; simp at kk; exact kk) | (rename_i hh; have kk := congrArg (fun z => z.1.key) hh; simp at kk; simp; exact kk) | (rename_i hh; have kk := congrArg (fun z => z.1.key) hh; simp at kk; refine kk.trans ?_; exact (State.narrowVec_key' ‹_›)) | (rename_i hh; have kk := congrArg (fun z => z.1.key) hh; simp at kk; simp; refine kk.trans ?_; exact (State.narrowVec_key' ‹_›)) | (rename_i hh; have kk := congrArg (fun z => z.1.key) hh; simp at kk; refine kk.trans ?_; exact ((State.narrowVec_key' ‹_›).trans (State.narrowVec_key' ‹_›))) | (rename_i hh; have kk := congrArg (fun z => z.1.key) hh; simp at kk; simp; refine kk.trans ?_; exact ((State.narrowVec_key' ‹_›).trans (State.narrowVec_key' ‹_›))))
@[simp] theorem State.exactTierWork_key (s : State) (core : Nat) (k : TotalKey) (shard : Nat) (blocks : List DBlock) :
    (State.exactTierWork s core k shard blocks).key = s.key := by simp only [State.exactTierWork]; (repeat' split) <;> simp
@[simp] theorem State.finishTotal_key (s : State) (k : TotalKey) :
    (State.finishTotal s k).key = s.key := by unfold State.finishTotal; (repeat' split) <;> simp
@[simp] theorem State.reduceWork_key (s : State) (req : Nat) (x : List F32) :
    (State.reduceWork s req x).key = s.key := by simp [State.reduceWork]
@[simp] theorem State.corrected_key (s : State) (unit : UnitId) (row : Nat) :
    (State.corrected s unit row).key = s.key := by simp [State.corrected]
@[simp] theorem State.uncorrectable_key (s : State) (req : Nat) (unit : UnitId) (addr : Nat) :
    (State.uncorrectable s req unit addr).key = s.key := by simp [State.uncorrectable]
@[simp] theorem State.transfer_key (s : State) (req : Nat) (unit : UnitId) (addr : Nat) (e : EccResult) :
    (State.transfer s req unit addr e).key = s.key := by simp only [State.transfer]; (repeat' split) <;> simp 
@[simp] theorem State.sramRead_key (s : State) (req : Nat) (unit : UnitId) (row : Nat) (addr : Nat) (e : EccResult) :
    (State.sramRead s req unit row addr e).key = s.key := by unfold State.sramRead; (repeat' split) <;> simp
@[simp] theorem State.sramWrite_key (s : State) (unit : UnitId) (addr : Nat) :
    (State.sramWrite s unit addr).key = s.key := by simp [State.sramWrite]
@[simp] theorem State.quarantine_key (s : State) (unit : UnitId) (mismatch : Bool) :
    (State.quarantine s unit mismatch).key = s.key := by simp [State.quarantine]
@[simp] theorem State.residueMismatch_key (s : State) (unit : UnitId) :
    (State.residueMismatch s unit).key = s.key := by simp [State.residueMismatch]
@[simp] theorem keeperWork_key (core : Nat) (w : KeeperWork) (s : State) :
    (keeperWork core w s).key = s.key := by unfold keeperWork; (repeat' split) <;> simp
@[simp] theorem State.nameAffected_key (s : State) (kw : Nat) (idx : Nat) (slot : Nat) (tag : Nat) (first : Nat) (last : Nat) :
    (State.nameAffected s kw idx slot tag first last).key = s.key := by simp [State.nameAffected]
@[simp] theorem State.nameAll_key (s : State) (slot : Nat) (first : Nat) (last : Nat) (a1 : List (Nat × Nat × Nat)) :
    (State.nameAll s slot first last a1).key = s.key := by fun_induction State.nameAll s slot first last a1 <;> simp_all
@[simp] theorem State.nameAffectedAll_key (s : State) (eng : Nat) (tier : Nat) (last : Nat) :
    (State.nameAffectedAll s eng tier last).key = s.key := by simp only [State.nameAffectedAll]; (repeat' split) <;> simp
@[simp] theorem State.coreEscalate_key (s : State) (core : Nat) :
    (State.coreEscalate s core).key = s.key := by simp [State.coreEscalate]
@[simp] theorem State.auditFail_key (s : State) (c : Capture) (j : Nat) :
    (State.auditFail s c j).key = s.key := by simp [State.auditFail]
@[simp] theorem State.auditFails_key (s : State) (c : Capture) (a1 : List Nat) :
    (State.auditFails s c a1).key = s.key := by fun_induction State.auditFails s c a1 <;> simp_all
@[simp] theorem tileAudit_key (core : Nat) (s : State) :
    (tileAudit core s).key = s.key := by unfold tileAudit; (repeat' split) <;> simp
@[simp] theorem State.placeDue_key (s : State) (eng : Nat) :
    (State.placeDue s eng).key = s.key := by simp [State.placeDue]
@[simp] theorem State.backlog_key (s : State) (eng : Nat) :
    (State.backlog s eng).key = s.key := by simp [State.backlog]
@[simp] theorem State.placeDueAll_key (s : State) (a1 : List Nat) :
    (State.placeDueAll s a1).key = s.key := by fun_induction State.placeDueAll s a1 <;> simp_all
@[simp] theorem State.beginStage_key (s : State) (eng : Nat) :
    (State.beginStage s eng).key = s.key := by simp only [State.beginStage]; (repeat' split) <;> simp
end Sys2Proof.Machine
end

