-- ==== Sys2Proof/Laws/Key2.lean ====
section
/-! SUPPORT. Laws/Key2.lean: operations that leave it as it was (part 2 of 4, each operation after those it calls). -/
namespace Sys2Proof.Machine
open Sys2Proof
@[simp] theorem calStageStart_key (eng : Nat) (s : State) :
    (calStageStart eng s).key = s.key := by simp [calStageStart]
@[simp] theorem State.discardRun_key (s : State) (eng : Nat) :
    (State.discardRun s eng).key = s.key := by simp [State.discardRun]
@[simp] theorem State.chargeStage_key (s : State) (eng : Nat) (st : Nat) (n : Nat) :
    (State.chargeStage s eng st n).key = s.key := by simp [State.chargeStage]
@[simp] theorem State.commitEngine_key (s : State) (eng : Nat) (r : CalRun) :
    (State.commitEngine s eng r).key = s.key := by simp [State.commitEngine]
@[simp] theorem State.endStage_key (s : State) (eng : Nat) (r : CalRun) :
    (State.endStage s eng r).key = s.key := by simp [State.endStage]
@[simp] theorem State.rampEvents_key (s : State) (eng : Nat) (a1 : Nat) :
    (State.rampEvents s eng a1).key = s.key := by fun_induction State.rampEvents s eng a1 <;> simp_all
@[simp] theorem calRampDone_key (eng : Nat) (x : List (List RampSum)) (s : State) :
    (calRampDone eng x s).key = s.key := by unfold calRampDone; (repeat' split) <;> simp
@[simp] theorem State.rejectColumn_key (s : State) (eng : Nat) (tier : Nat) (col : Nat) :
    (State.rejectColumn s eng tier col).key = s.key := by simp [State.rejectColumn]
@[simp] theorem State.rejectColumns_key (s : State) (eng : Nat) (tier : Nat) (a1 : List Nat) :
    (State.rejectColumns s eng tier a1).key = s.key := by fun_induction State.rejectColumns s eng tier a1 <;> simp_all
@[simp] theorem calCoarseDone_key (eng : Nat) (tier : Nat) (cs : List ColSum) (s : State) :
    (calCoarseDone eng tier cs s).key = s.key := by unfold calCoarseDone; (repeat' split) <;> simp
@[simp] theorem calFineDone_key (eng : Nat) (tier : Nat) (cs : List ColSum) (s : State) :
    (calFineDone eng tier cs s).key = s.key := by unfold calFineDone; (repeat' split) <;> simp
@[simp] theorem standoffEnd_key (eng : Nat) (s : State) :
    (standoffEnd eng s).key = s.key := by simp [standoffEnd]
@[simp] theorem State.writeTrims_key (s : State) (eng : Nat) :
    (State.writeTrims s eng).key = s.key := by simp [State.writeTrims]
@[simp] theorem trimStoreWrite_key (eng : Nat) (s : State) :
    (trimStoreWrite eng s).key = s.key := by simp [trimStoreWrite]
@[simp] theorem State.dropReady_key (s : State) (die : Nat) :
    (State.dropReady s die).key = s.key := by simp [State.dropReady]
@[simp] theorem vrefCompare_key (die : Nat) (dev : Int) (s : State) :
    (vrefCompare die dev s).key = s.key := by simp [vrefCompare]
@[simp] theorem selfcalStart_key (conv : Nat) (s : State) :
    (selfcalStart conv s).key = s.key := by simp [selfcalStart]
@[simp] theorem selfcalDone_key (conv : Nat) (offset : Int) (gain : Int) (s : State) :
    (selfcalDone conv offset gain s).key = s.key := by simp [selfcalDone]
@[simp] theorem State.calOverrun_key (s : State) (a1 : List Nat) :
    (State.calOverrun s a1).key = s.key := by fun_induction State.calOverrun s a1 <;> simp_all
@[simp] theorem State.commitAll_key (s : State) (a1 : List Nat) :
    (State.commitAll s a1).key = s.key := by fun_induction State.commitAll s a1 <;> simp_all
@[simp] theorem State.deferSwaps_key (s : State) (a1 : List Nat) :
    (State.deferSwaps s a1).key = s.key := by fun_induction State.deferSwaps s a1 <;> simp_all
@[simp] theorem State.calCommit_key (s : State) (die : Nat) :
    (State.calCommit s die).key = s.key := by simp [State.calCommit]
@[simp] theorem State.lateSwap_key (s : State) (eng : Nat) :
    (State.lateSwap s eng).key = s.key := by simp only [State.lateSwap]; (repeat' split) <;> simp 
@[simp] theorem State.diagRead_key (s : State) (eng : Nat) (tier : Nat) (cells : List CellRead) :
    (State.diagRead s eng tier cells).key = s.key := by simp only [State.diagRead]; (repeat' split) <;> simp 
@[simp] theorem diagReadback_key (eng : Nat) (tier : Nat) (cells : List CellRead) (s : State) :
    (diagReadback eng tier cells s).key = s.key := by simp only [diagReadback]; (repeat' split) <;> simp
@[simp] theorem State.calSkipped_key (s : State) :
    (State.calSkipped s).key = s.key := by simp [State.calSkipped]
@[simp] theorem State.standoffTick_key (s : State) :
    (State.standoffTick s).key = s.key := by simp [State.standoffTick]
@[simp] theorem State.calRequest_key (s : State) (eng : Nat) :
    (State.calRequest s eng).key = s.key := by simp only [State.calRequest]; (repeat' split) <;> simp
@[simp] theorem shardPut_key (fn : Nat) (lo : Nat) (hi : Nat) (len : Nat) (ctrl : Nat) (s : State) :
    (shardPut fn lo hi len ctrl s).key = s.key := by simp [shardPut]
@[simp] theorem putStatusRead_key (fn : Nat) (s : State) :
    (putStatusRead fn s).key = s.key := by simp [putStatusRead]
@[simp] theorem ringCons_key (fn : Nat) (v : Nat) (s : State) :
    (ringCons fn v s).key = s.key := by simp [ringCons]
@[simp] theorem shardArrival_key (fn : Nat) (buf : Option Bytes) (s : State) :
    (shardArrival fn buf s).key = s.key := by simp only [shardArrival]; (repeat' split) <;> simp
@[simp] theorem shardTimeout_key (slot : Nat) (index : Nat) (s : State) :
    (shardTimeout slot index s).key = s.key := by unfold shardTimeout; (repeat' split) <;> simp
@[simp] theorem State.movechunk_key (s : State) (n : Nat) (w : Which) (v : Version) (chunk : Nat) :
    (State.movechunk s n w v chunk).key = s.key := by simp only [State.movechunk]; (repeat' split) <;> simp
@[simp] theorem State.replaceOn_key (s : State) (core : Nat → Bool) (n : Nat) (w : Which) (v : Version) (chunk : Nat) :
    (State.replaceOn s core n w v chunk).key = s.key := by simp only [State.replaceOn]; (repeat' split) <;> simp
@[simp] theorem State.replaceChunk_key (s : State) (n : Nat) (w : Which) (v : Version) (chunk : Nat) :
    (State.replaceChunk s n w v chunk).key = s.key := by simp [State.replaceChunk]
@[simp] theorem State.tileAgain_key (s : State) (eng : Nat) (tier : Nat) :
    (State.tileAgain s eng tier).key = s.key := by simp only [State.tileAgain]; (repeat' split) <;> simp
@[simp] theorem replaceRetry_key (slot : Nat) (chunk : Nat) (s : State) :
    (replaceRetry slot chunk s).key = s.key := by simp only [replaceRetry]; (repeat' split) <;> simp 
@[simp] theorem State.eraseTier_key (s : State) (eng : Nat) (tier : Nat) :
    (State.eraseTier s eng tier).key = s.key := by simp [State.eraseTier]
@[simp] theorem tierProgramStart_key (eng : Nat) (tier : Nat) (s : State) :
    (tierProgramStart eng tier s).key = s.key := by simp [tierProgramStart]
@[simp] theorem State.progRemap_key (s : State) (eng : Nat) (tier : Nat) (col : Nat) (badSpares : List Nat) :
    (State.progRemap s eng tier col badSpares).key = s.key := by simp only [State.progRemap]; (repeat' split) <;> simp
@[simp] theorem State.progRemaps_key (s : State) (eng : Nat) (tier : Nat) (badSpares : List Nat) (a1 : List Nat) :
    (State.progRemaps s eng tier badSpares a1).key = s.key := by fun_induction State.progRemaps s eng tier badSpares a1 <;> simp_all
@[simp] theorem State.programRead_key (s : State) (eng : Nat) (tier : Nat) :
    (State.programRead s eng tier).key = s.key := by simp [State.programRead]
@[simp] theorem tierProgramDone_key (eng : Nat) (tier : Nat) (bad : List Nat) (badSpares : List Nat) (cells : List CellRead) (energy : Nat) (s : State) :
    (tierProgramDone eng tier bad badSpares cells energy s).key = s.key := by simp only [tierProgramDone]; (repeat' split) <;> simp
@[simp] theorem State.spareTried_key (s : State) (eng : Nat) (tier : Nat) (j : SpareJob) (ok : Bool) :
    (State.spareTried s eng tier j ok).key = s.key := by simp [State.spareTried]
@[simp] theorem spareVerified_key (eng : Nat) (tier : Nat) (spare : Nat) (ok : Bool) (energy : Nat) (s : State) :
    (spareVerified eng tier spare ok energy s).key = s.key := by simp only [spareVerified]; (repeat' split) <;> simp
@[simp] theorem State.twoWay_key (s : State) (eng : Nat) (tier : Nat) (n : Nat) (w : Which) (t : Tile) (cells : List CellRead) :
    (State.twoWay s eng tier n w t cells).key = s.key := by simp [State.twoWay]
@[simp] theorem scrubReadback_key (eng : Nat) (tier : Nat) (cells : List CellRead) (s : State) :
    (scrubReadback eng tier cells s).key = s.key := by unfold scrubReadback; (repeat' split) <;> simp
@[simp] theorem scrubOverdue_key (eng : Nat) (tier : Nat) (s : State) :
    (scrubOverdue eng tier s).key = s.key := by unfold scrubOverdue; (repeat' split) <;> simp
@[simp] theorem imageCheck_key (eng : Nat) (tier : Nat) (flips : List (Nat × Byte)) (s : State) :
    (imageCheck eng tier flips s).key = s.key := by unfold imageCheck; (repeat' split) <;> simp
@[simp] theorem digitalCheck_key (n : Nat) (index : Nat) (flips : List (Nat × Byte)) (s : State) :
    (digitalCheck n index flips s).key = s.key := by unfold digitalCheck; (repeat' split) <;> simp
@[simp] theorem State.endSoon_key (s : State) (cause : Nat) (p : ReqS → Bool) :
    (State.endSoon s cause p).key = s.key := by simp [State.endSoon]
@[simp] theorem State.cmdResult_key (s : State) (n : Nat) (r : Nat) :
    (State.cmdResult s n r).key = s.key := by simp [State.cmdResult]
@[simp] theorem State.refuseLoad_key (s : State) (n : Nat) (code : Nat) :
    (State.refuseLoad s n code).key = s.key := by simp [State.refuseLoad]
@[simp] theorem State.slotLoad_key (s : State) (n : Nat) :
    (State.slotLoad s n).key = s.key := by simp only [State.slotLoad]; (repeat' split) <;> simp
@[simp] theorem State.slotAbort_key (s : State) (n : Nat) :
    (State.slotAbort s n).key = s.key := by simp [State.slotAbort]
@[simp] theorem State.wipeSlot_key (s : State) (n : Nat) :
    (State.wipeSlot s n).key = s.key := by simp only [State.wipeSlot]; (repeat' split) <;> simp
@[simp] theorem State.slotEmpty_key (s : State) (n : Nat) :
    (State.slotEmpty s n).key = s.key := by simp [State.slotEmpty]
@[simp] theorem State.slotCmd_key (s : State) (n : Nat) (cmd : Nat) :
    (State.slotCmd s n cmd).key = s.key := by unfold State.slotCmd; (repeat' split) <;> simp
@[simp] theorem State.freeOld_key (s : State) (n : Nat) :
    (State.freeOld s n).key = s.key := by simp only [State.freeOld]; (repeat' split) <;> simp
@[simp] theorem State.cutover_key (s : State) (n : Nat) :
    (State.cutover s n).key = s.key := by simp only [State.cutover]; (repeat' split) <;> simp
@[simp] theorem State.drainStep_key (s : State) (n : Nat) :
    (State.drainStep s n).key = s.key := by
  unfold State.drainStep
  dsimp only
  (repeat' split) <;> first | rfl | (simp; done) | (refine (key_foldl _ (fun x a => ?_) _ _).trans ?_ <;> (repeat' split) <;> simp)
@[simp] theorem State.swapChunks_key (s : State) (n : Nat) (w : Which) :
    (State.swapChunks s n w).key = s.key := by unfold State.swapChunks; (repeat' split) <;> simp
@[simp] theorem State.serveCheck_key (s : State) (n : Nat) :
    (State.serveCheck s n).key = s.key := by simp [State.serveCheck]
@[simp] theorem State.badImages_key (s : State) (n : Nat) :
    (State.badImages s n).key = s.key := by simp [State.badImages]
@[simp] theorem State.slotPre_key (s : State) (n : Nat) :
    (State.slotPre s n).key = s.key := by simp [State.slotPre]
@[simp] theorem State.replaceRetired_key (s : State) (n : Nat) (w : Which) :
    (State.replaceRetired s n w).key = s.key := by
  unfold State.replaceRetired
  (try dsimp only)
  (repeat' split) <;> first | rfl | (apply key_foldl; intro x a; split <;> simp)
@[simp] theorem State.slotPost_key (s : State) (n : Nat) :
    (State.slotPost s n).key = s.key := by simp [State.slotPost]
@[simp] theorem State.slotsPre_key (s : State) :
    (State.slotsPre s).key = s.key := by simp [State.slotsPre]
@[simp] theorem State.slotsPost_key (s : State) :
    (State.slotsPost s).key = s.key := by simp [State.slotsPost]
@[simp] theorem State.seekBeats_key (s : State) :
    (State.seekBeats s).key = s.key := by simp [State.seekBeats]
@[simp] theorem State.countNotches_key (s : State) (m : BeatMode) :
    (State.countNotches s m).key = s.key := by simp [State.countNotches]
@[simp] theorem State.beatTo_key (s : State) (m : BeatMode) :
    (State.beatTo s m).key = s.key := by unfold State.beatTo; (repeat' split) <;> simp
@[simp] theorem State.switchEvent_key (s : State) (src : BeatSrc) (auto : Nat) :
    (State.switchEvent s src auto).key = s.key := by simp [State.switchEvent]
@[simp] theorem State.phaseError_key (s : State) (err : Int) :
    (State.phaseError s err).key = s.key := by simp [State.phaseError]
@[simp] theorem State.acceptEdge_key (s : State) (e : Nat) (num : Option Nat) (own : Bool) (err : Int) (period : Nat) :
    (State.acceptEdge s e num own err period).key = s.key := by simp only [State.acceptEdge]; (repeat' split) <;> simp
@[simp] theorem State.glitch_key (s : State) (src : BeatSrc) (e : Nat) :
    (State.glitch s src e).key = s.key := by simp [State.glitch]
@[simp] theorem State.edgeInTransition_key (s : State) (src : BeatSrc) (e : Nat) (num : Option Nat) (tr : Transition) :
    (State.edgeInTransition s src e num tr).key = s.key := by simp [State.edgeInTransition]
@[simp] theorem State.edgeInSeeking_key (s : State) (src : BeatSrc) (e : Nat) (num : Option Nat) (lock : Option (List Nat)) :
    (State.edgeInSeeking s src e num lock).key = s.key := by unfold State.edgeInSeeking; (repeat' split) <;> simp
@[simp] theorem State.edgeInSelf_key (s : State) (src : BeatSrc) (lock : Option (List Nat)) :
    (State.edgeInSelf s src lock).key = s.key := by simp [State.edgeInSelf]
@[simp] theorem State.edgeInBeat_key (s : State) (src : BeatSrc) (e : Nat) (num : Option Nat) (lock : Option (List Nat)) :
    (State.edgeInBeat s src e num lock).key = s.key := by unfold State.edgeInBeat; (repeat' split) <;> simp
@[simp] theorem State.edgeSeen_key (s : State) (src : BeatSrc) (e : Nat) (num : Option Nat) :
    (State.edgeSeen s src e num).key = s.key := by unfold State.edgeSeen; (repeat' split) <;> simp
@[simp] theorem State.beatEdge_key (s : State) (src : BeatSrc) (e : Nat) (num : Option Nat) :
    (State.beatEdge s src e num).key = s.key := by simp only [State.beatEdge]; (repeat' split) <;> simp
@[simp] theorem State.echo_key (s : State) (p : Nat) :
    (State.echo s p).key = s.key := by simp [State.echo]
@[simp] theorem beatMarker_key (p : Nat) (number : Nat) (s : State) :
    (beatMarker p number s).key = s.key := by simp [beatMarker]
@[simp] theorem State.autoToLink_key (s : State) :
    (State.autoToLink s).key = s.key := by simp [State.autoToLink]
@[simp] theorem missedBeat_key (s : State) :
    (missedBeat s).key = s.key := by simp [missedBeat]
@[simp] theorem beatSelfTimed_key (s : State) :
    (beatSelfTimed s).key = s.key := by simp [beatSelfTimed]
@[simp] theorem seekingTimeout_key (s : State) :
    (seekingTimeout s).key = s.key := by simp [seekingTimeout]
@[simp] theorem transitionTimeout_key (s : State) :
    (transitionTimeout s).key = s.key := by unfold transitionTimeout; (repeat' split) <;> simp
@[simp] theorem State.takeSource_key (s : State) (src : BeatSrc) :
    (State.takeSource s src).key = s.key := by simp only [State.takeSource]; (repeat' split) <;> simp 
@[simp] theorem State.beginBeat_key (s : State) :
    (State.beginBeat s).key = s.key := by simp only [State.beginBeat]; (repeat' split) <;> simp
@[simp] theorem State.selfResize_key (s : State) :
    (State.selfResize s).key = s.key := by simp [State.selfResize]
@[simp] theorem State.sourceCheck_key (s : State) (oldMode : Nat) (oldPort : Nat) :
    (State.sourceCheck s oldMode oldPort).key = s.key := by simp only [State.sourceCheck]; (repeat' split) <;> simp
@[simp] theorem State.sendMarkers_key (s : State) :
    (State.sendMarkers s).key = s.key := by simp [State.sendMarkers]
@[simp] theorem State.overruns_key (s : State) (a1 : List (Nat × Nat)) :
    (State.overruns s a1).key = s.key := by
  induction a1 generalizing s with
  | nil => rfl
  | cons a r ih => unfold State.overruns; rw [ih, State.raise_key, State.inc_key]
@[simp] theorem runPhaseStart_key (s : State) :
    (runPhaseStart s).key = s.key := by simp [runPhaseStart]
@[simp] theorem State.startDiags_key (s : State) (a1 : List Nat) :
    (State.startDiags s a1).key = s.key := by fun_induction State.startDiags s a1 <;> simp_all
@[simp] theorem State.quietDiags_key (s : State) :
    (State.quietDiags s).key = s.key := by simp [State.quietDiags]
@[simp] theorem quietStart_key (s : State) :
    (quietStart s).key = s.key := by simp [quietStart]
@[simp] theorem stepWorkEnd_key (core : Nat) (s : State) :
    (stepWorkEnd core s).key = s.key := by simp [stepWorkEnd]
@[simp] theorem heartbeat_key (u : UnitId) (s : State) :
    (heartbeat u s).key = s.key := by simp [heartbeat]
@[simp] theorem State.mapReqs_key (s : State) (p : Nat → ReqS → Bool) (f : State → Nat → State) (h_f : ∀ x0 x1, (f x0 x1).key = x0.key) :
    (State.mapReqs s p f).key = s.key := by simp [State.mapReqs, h_f]
@[simp] theorem State.resetWork_key (s : State) (u : UnitId) :
    (State.resetWork s u).key = s.key := by unfold State.resetWork; (repeat' split) <;> simp
@[simp] theorem State.ctrlFaulted_key (s : State) (u : UnitId) :
    (State.ctrlFaulted s u).key = s.key := by simp only [State.ctrlFaulted]; (repeat' split) <;> simp 
@[simp] theorem State.ctrlRestart_key (s : State) (u : UnitId) (failed : List Nat) :
    (State.ctrlRestart s u failed).key = s.key := by simp [State.ctrlRestart]
@[simp] theorem ctrlReset_key (u : UnitId) (ward : Bool) (s : State) :
    (ctrlReset u ward s).key = s.key := by simp [ctrlReset]
@[simp] theorem ctrlRestartDone_key (u : UnitId) (s : State) :
    (ctrlRestartDone u s).key = s.key := by unfold ctrlRestartDone; (repeat' split) <;> simp
@[simp] theorem haspHoldExpiry_key (hc : Nat) (s : State) :
    (haspHoldExpiry hc s).key = s.key := by simp [haspHoldExpiry]
@[simp] theorem State.isolateNow_key (s : State) (u : UnitId) :
    (State.isolateNow s u).key = s.key := by simp [State.isolateNow]
@[simp] theorem isolateManagement_key (u : UnitId) (s : State) :
    (isolateManagement u s).key = s.key := by simp [isolateManagement]
@[simp] theorem stepOrder_key (u : UnitId) (s : State) :
    (stepOrder u s).key = s.key := by simp [stepOrder]
@[simp] theorem quadOpenDone_key (q : Nat) (s : State) :
    (quadOpenDone q s).key = s.key := by unfold quadOpenDone; (repeat' split) <;> simp
@[simp] theorem State.gateNow_key (s : State) (q : Nat) :
    (State.gateNow s q).key = s.key := by simp [State.gateNow]
@[simp] theorem State.gateRefuse_key (s : State) (q : Nat) :
    (State.gateRefuse s q).key = s.key := by simp [State.gateRefuse]
@[simp] theorem State.gateQuad_key (s : State) (q : Nat) :
    (State.gateQuad s q).key = s.key := by simp [State.gateQuad]
@[simp] theorem State.openQuad_key (s : State) (q : Nat) :
    (State.openQuad s q).key = s.key := by simp [State.openQuad]
@[simp] theorem State.reissue_key (s : State) (r : Nat) :
    (State.reissue s r).key = s.key := by simp [State.reissue]
@[simp] theorem State.takeover_key (s : State) :
    (State.takeover s).key = s.key := by
  unfold State.takeover
  apply key_foldl; intro x a
  (try dsimp only)
  (repeat' split) <;> simp
@[simp] theorem State.rowsRetire_key (s : State) :
    (State.rowsRetire s).key = s.key := by simp [State.rowsRetire]
@[simp] theorem State.hierBoundary_key (s : State) :
    (State.hierBoundary s).key = s.key := by simp [State.hierBoundary]
@[simp] theorem State.gateBoundary_key (s : State) :
    (State.gateBoundary s).key = s.key := by simp [State.gateBoundary]
@[simp] theorem State.putMap_key (s : State) (n : Nat) (b : Bytes) :
    (State.putMap s n b).key = s.key := by simp [State.putMap]
@[simp] theorem State.dropMaps_key (s : State) :
    (State.dropMaps s).key = s.key := by simp [State.dropMaps]
@[simp] theorem State.putSeq_key (s : State) (i : Nat) (q : SeqS) :
    (State.putSeq s i q).key = s.key := by simp [State.putSeq]
@[simp] theorem State.putPage_key (s : State) (h : Nat) (p : PageS) :
    (State.putPage s h p).key = s.key := by simp [State.putPage]
@[simp] theorem State.retire_key (s : State) (kw : Nat) (bytes : Nat) (it : Retired) :
    (State.retire s kw bytes it).key = s.key := by simp [State.retire]
@[simp] theorem State.decRef_key (s : State) (h : Nat) (holder : Nat) :
    (State.decRef s h holder).key = s.key := by simp [State.decRef]
@[simp] theorem State.decRefs_key (s : State) (holder : Nat) (l : List Nat) :
    (State.decRefs s holder l).key = s.key := by simp [State.decRefs]
@[simp] theorem State.incRef_key (s : State) (h : Nat) :
    (State.incRef s h).key = s.key := by simp [State.incRef]
@[simp] theorem State.makePage_key (s : State) (q : SeqS) (idx : Nat) (l : Lane) (p : Nat) (a1 : Source) :
    (State.makePage s q idx l p a1).1.key = s.key := by unfold State.makePage; (repeat' split) <;> simp
@[simp] theorem State.makePages_key (s : State) (q : SeqS) (idx : Nat) (a3 : List Plan) :
    (State.makePages s q idx a3).1.key = s.key := by
  induction a3 generalizing s with
  | nil => rfl
  | cons a_ r_ ih => unfold State.makePages; exact (ih _).trans (State.makePage_key _ _ _ _ _ _)
@[simp] theorem State.treeWalk_key (s : State) (kw : Nat) (idx : Nat) (a1 : List Nat) (a2 : List Nat) (a3 : Nat) (a4 : Nat) :
    (State.treeWalk s kw idx a1 a2 a3 a4).1.key = s.key := by fun_induction State.treeWalk s kw idx a1 a2 a3 a4 <;> simp_all
@[simp] theorem State.touch_key (s : State) (l : List TreeNode) :
    (State.touch s l).key = s.key := by simp [State.touch]
@[simp] theorem State.evictNode_key (s : State) (n : TreeNode) :
    (State.evictNode s n).key = s.key := by simp [State.evictNode]
@[simp] theorem State.evictWhile_key (s : State) (kw : Nat) (more : State → Bool) (a3 : Nat) :
    (State.evictWhile s kw more a3).key = s.key := by fun_induction State.evictWhile s kw more a3 <;> simp_all
@[simp] theorem State.evictOver_key (s : State) (kw : Nat) :
    (State.evictOver s kw).key = s.key := by simp [State.evictOver]
@[simp] theorem State.evictFor_key (s : State) (q : SeqS) (bytes : Nat) :
    (State.evictFor s q bytes).key = s.key := by simp [State.evictFor]
@[simp] theorem State.evictGone_key (s : State) :
    (State.evictGone s).key = s.key := by
  unfold State.evictGone; apply key_foldl; intro x a; simp
@[simp] theorem State.evictAll_key (s : State) (kw : Nat) :
    (State.evictAll s kw).key = s.key := by
  unfold State.evictAll; apply key_foldl; intro x a; simp
@[simp] theorem State.freeWaste_key (s : State) (w : Waste) :
    (State.freeWaste s w).key = s.key := by simp [State.freeWaste]
@[simp] theorem State.freeRetired_key (s : State) (frees : Option Nat) :
    (State.freeRetired s frees).key = s.key := by simp [State.freeRetired]
@[simp] theorem State.dropSeq_key (s : State) (i : Nat) :
    (State.dropSeq s i).key = s.key := by simp [State.dropSeq]
@[simp] theorem State.swapRoot_key (s : State) (i : Nat) :
    (State.swapRoot s i).key = s.key := by simp [State.swapRoot]
@[simp] theorem State.rootSwaps_key (s : State) :
    (State.rootSwaps s).key = s.key := by simp [State.rootSwaps]
@[simp] theorem State.firstRoot_key (s : State) (i : Nat) (q : SeqS) (upto : Nat) (l : List Plan) :
    ∀ t, State.firstRoot s i q upto l = some t → t.key = s.key := by intro t h; simp only [State.firstRoot] at h; (repeat' split at h) <;> simp_all <;> (first | (subst h; simp) | (rw [← h]; simp))
@[simp] theorem State.buildRoot_key (s : State) (i : Nat) :
    (State.buildRoot s i).key = s.key := by
  unfold State.buildRoot
  dsimp only
  (repeat' split) <;> first
    | with_reducible rfl
    | (simp; done)
    | (rw [State.putSeq_key]; refine (key_foldl _ (fun x a => ?_) _ _).trans ?_ <;> first | (split <;> simp; done) | (simp; done))
@[simp] theorem State.addNodes_key (s : State) (q : SeqS) (pages : List Nat) (a3 : Nat) (a4 : Nat) (a5 : Nat) (a6 : List Nat) :
    (State.addNodes s q pages a3 a4 a5 a6).key = s.key := by
  induction a3 generalizing s a4 a5 a6 with
  | zero => rfl
  | succ n_ ih =>
    unfold State.addNodes
    (try dsimp only)
    (repeat' split) <;> (first | rfl | (simp [ih]; done) | (rw [ih]; simp) | (rw [ih, key_foldl _ (fun x a => by simp)]; simp))
@[simp] theorem State.sealPage_key (s : State) (i : Nat) (p : Nat) :
    (State.sealPage s i p).key = s.key := by simp only [State.sealPage]; (repeat' split) <;> simp
@[simp] theorem State.sealPages_key (s : State) (i : Nat) :
    (State.sealPages s i).key = s.key := by simp [State.sealPages]
@[simp] theorem State.faultSeq_key (s : State) (i : Nat) (cluster : Nat) (f : KvFault) :
    (State.faultSeq s i cluster f).key = s.key := by unfold State.faultSeq; (repeat' split) <;> simp
@[simp] theorem State.kvBlocks_key (s : State) (kw : Nat) (fmt : Nat) (a3 : List (List F32)) :
    (State.kvBlocks s kw fmt a3).1.key = s.key := by
  induction a3 generalizing s with
  | nil => rfl
  | cons x r ih =>
    unfold State.kvBlocks
    have i1 := ih s
    have i2 := fun n => ih (s.countNarrow kw n)
    simp only [State.countNarrow_key] at i2
    try dsimp only
    (repeat' split) <;> first | (simp; done) | (have h := ‹State.kvBlocks _ _ _ _ = _›; rw [h] at i1; exact i1) | (have h := ‹State.kvBlocks _ _ _ _ = _›; have j := i2 ‹_›; rw [h] at j; exact j)
theorem State.kvBlocks_key' {s : State} {kw : Nat} {fmt : Nat} {a3 : List (List F32)} {t_ : State} {y_} (h : State.kvBlocks s kw fmt a3 = (t_, y_)) : t_.key = s.key := by
  have k := State.kvBlocks_key s kw fmt a3; rw [h] at k; exact k
@[simp] theorem State.kvHeads_key (s : State) (kw : Nat) (fmt : Nat) (dims : Nat) (a4 : List (List F32)) :
    (State.kvHeads s kw fmt dims a4).1.key = s.key := by
  induction a4 generalizing s with
  | nil => rfl
  | cons x r ih =>
    unfold State.kvHeads
    try dsimp only
    split
    · exact State.kvBlocks_key' ‹_›
    · have k := State.kvBlocks_key' ‹_›
      have i1 := ih ‹State›
      split <;> (have h := ‹State.kvHeads _ _ _ _ _ = _›; rw [h] at i1; exact i1.trans k)
theorem State.kvHeads_key' {s : State} {kw : Nat} {fmt : Nat} {dims : Nat} {a4 : List (List F32)} {t_ : State} {y_} (h : State.kvHeads s kw fmt dims a4 = (t_, y_)) : t_.key = s.key := by
  have k := State.kvHeads_key s kw fmt dims a4; rw [h] at k; exact k
@[simp] theorem State.writePos_key (s : State) (i : Nat) (n : Nat) (cluster : Nat) (q : SeqS) (pos : Nat) (ks : List (List F32)) (vs : List (List F32)) :
    (State.writePos s i n cluster q pos ks vs).1.key = s.key := by
  unfold State.writePos
  (try dsimp only)
  (repeat' split) <;> first | (simp; done) | (simp; exact State.kvHeads_key' ‹_›) | (simp; exact (State.kvHeads_key' ‹_›).trans (State.kvHeads_key' ‹_›)) | skip
theorem State.writePos_key' {s : State} {i : Nat} {n : Nat} {cluster : Nat} {q : SeqS} {pos : Nat} {ks : List (List F32)} {vs : List (List F32)} {t_ : State} {y_} (h : State.writePos s i n cluster q pos ks vs = (t_, y_)) : t_.key = s.key := by
  have k := State.writePos_key s i n cluster q pos ks vs; rw [h] at k; exact k
@[simp] theorem State.writeAll_key (s : State) (i : Nat) (n : Nat) (cluster : Nat) (q : SeqS) (a4 : Nat) (a5 : List (List (List F32) × List (List F32))) :
    (State.writeAll s i n cluster q a4 a5).1.key = s.key := by
  induction a5 generalizing s a4 with
  | nil => unfold State.writeAll; rfl
  | cons a_ r_ ih =>
    unfold State.writeAll
    split
    · exact State.writePos_key' ‹_›
    · exact (ih _ _).trans (State.writePos_key' ‹_›)
theorem State.writeAll_key' {s : State} {i : Nat} {n : Nat} {cluster : Nat} {q : SeqS} {a4 : Nat} {a5 : List (List (List F32) × List (List F32))} {t_ : State} {y_} (h : State.writeAll s i n cluster q a4 a5 = (t_, y_)) : t_.key = s.key := by
  have k := State.writeAll_key s i n cluster q a4 a5; rw [h] at k; exact k
@[simp] theorem State.rows_key (s : State) (i : Nat) (n : Nat) (cluster : Nat) (q : SeqS) (a4 : Nat) (a5 : List QRow) :
    (State.rows s i n cluster q a4 a5).key = s.key := by
  induction a5 generalizing s a4 with
  | nil => unfold State.rows; rfl
  | cons a_ r_ ih =>
    unfold State.rows
    (try dsimp only)
    (repeat' split) <;> (first | (simp; done) | (rw [ih]; simp; done) | rw [ih]; rfl)
@[simp] theorem laneTask_key (w : LaneWork) (s : State) :
    (laneTask w s).key = s.key := by
  have ha : ∀ (x y : State) b, State.writeAll x w.seq w.lane w.cluster (s.stepSeq w.seq) w.first (w.keys.zip w.vals) = (y, b) → x.key = s.key →
      y.key = s.key := fun x y b h hx => (State.writeAll_key' h).trans hx
  unfold laneTask
  dsimp only
  split
  · simp
  split
  · rfl
  split
  · rename_i hh; exact ha _ _ _ hh rfl
  · rename_i hh; exact (State.rows_key _ _ _ _ _ _ _).trans (ha _ _ _ hh rfl)
@[simp] theorem laneDone_key (seq : Nat) (lane : Nat) (s : State) :
    (laneDone seq lane s).key = s.key := by simp [laneDone]
@[simp] theorem submitTail_key (fn : Nat) (tail : Nat) (host : List HostCell) (s : State) :
    (submitTail fn tail host s).key = s.key := by simp [submitTail]
@[simp] theorem serveStatusRead_key (fn : Nat) (s : State) :
    (serveStatusRead fn s).key = s.key := by simp [serveStatusRead]
@[simp] theorem State.cancelReq_key (s : State) (kw : Nat) (i : Nat) (via : Nat) :
    (State.cancelReq s kw i via).key = s.key := by simp [State.cancelReq]
@[simp] theorem State.rearmReq_key (s : State) (kw : Nat) (i : Nat) :
    (State.rearmReq s kw i).key = s.key := by simp [State.rearmReq]
@[simp] theorem specRearm_key (i : Nat) (s : State) :
    (specRearm i s).key = s.key := by simp [specRearm]
@[simp] theorem tokenGapEnd_key (fn : Nat) (s : State) :
    (tokenGapEnd fn s).key = s.key := by simp [tokenGapEnd]
@[simp] theorem State.endIf_key (s : State) (i : Nat) (cause : Nat) (p : Bool) :
    (State.endIf s i cause p).key = s.key := by simp [State.endIf]
@[simp] theorem State.deliver_key (s : State) (i : Nat) (late : Bool) (a3 : Nat) (a4 : List OutTok) :
    (State.deliver s i late a3 a4).key = s.key := by
  induction a4 generalizing s a3 with
  | nil => rfl
  | cons a_ r_ ih => unfold State.deliver; rw [ih]; simp
@[simp] theorem State.draftStep_key (s : State) (i : Nat) (l : Nat) (a : Nat) :
    (State.draftStep s i l a).key = s.key := by simp [State.draftStep]
@[simp] theorem State.commitSeq_key (s : State) (i : Nat) (n : Nat) (toks : List Nat) :
    (State.commitSeq s i n toks).key = s.key := by simp [State.commitSeq]
@[simp] theorem State.stepTokens_key (s : State) (i : Nat) (n : Nat) (l : Nat) (toks : List (Nat × Nat × Bool)) :
    (State.stepTokens s i n l toks).key = s.key := by simp only [State.stepTokens]; (repeat' split) <;> simp
@[simp] theorem State.handSample_key (s : State) (i : Nat) (n : Nat) (tok : Nat × Nat) :
    (State.handSample s i n tok).key = s.key := by simp [State.handSample]
end Sys2Proof.Machine
end

