-- ==== Sys2Proof/Laws/Key3.lean ====
section
/-! SUPPORT. Laws/Key3.lean: operations that leave it as it was (part 3 of 4, each operation after those it calls). -/
namespace Sys2Proof.Machine
open Sys2Proof
@[simp] theorem tokenSample_key (i : Nat) (logits : List (List F32)) (drafts : List (Nat × List F32)) (s : State) :
    (tokenSample i logits drafts s).key = s.key := by simp only [tokenSample]; (repeat' split) <;> simp
@[simp] theorem State.leaveStep_key (s : State) (i : Nat) :
    (State.leaveStep s i).key = s.key := by simp only [State.leaveStep]; (repeat' split) <;> simp
@[simp] theorem State.leaveSteps_key (s : State) :
    (State.leaveSteps s).key = s.key := by simp [State.leaveSteps]
@[simp] theorem State.freeEntry_key (s : State) (i : Nat) :
    (State.freeEntry s i).key = s.key := by simp [State.freeEntry]
@[simp] theorem State.stepRecord_key (s : State) (i : Nat) :
    (State.stepRecord s i).key = s.key := by simp [State.stepRecord]
@[simp] theorem State.item3_key (s : State) (i : Nat) :
    (State.item3 s i).key = s.key := by simp only [State.item3]; (repeat' split) <;> simp
@[simp] theorem State.items3_key (s : State) (frees : Option Nat) :
    (State.items3 s frees).key = s.key := by simp [State.items3]
@[simp] theorem State.refuse_key (s : State) (kw : Nat) (d : Bytes) (head : Nat) (why : Nat) :
    (State.refuse s kw d head why).key = s.key := by simp [State.refuse]
@[simp] theorem State.takeOne_key (s : State) (fn : Nat) (i : Nat) :
    (State.takeOne s fn i).key = s.key := by simp [State.takeOne]
@[simp] theorem State.takeRing_key (s : State) (fn : Nat) (a2 : Nat) :
    (State.takeRing s fn a2).key = s.key := by
  induction a2 generalizing s with
  | zero => rw [State.takeRing]
  | succ n ih =>
    rw [State.takeRing]
    split
    · rfl
    · cases s.freeIndex with
      | none => rfl
      | some i => exact (ih _).trans (State.takeOne_key _ _ _)
@[simp] theorem State.takeAll_key (s : State) :
    (State.takeAll s).key = s.key := by simp [State.takeAll]
@[simp] theorem State.readPrompt_key (s : State) (r : ReqS) :
    (State.readPrompt s r).1.key = s.key := by simp only [State.readPrompt]; (repeat' split) <;> simp 
@[simp] theorem State.announce_key (s : State) (i : Nat) :
    (State.announce s i).key = s.key := by simp [State.announce]
@[simp] theorem State.admitToks_key (s : State) (i : Nat) (v : Version) (map : Bytes) (draft : Option (Version × Bytes)) (toks : List Nat) :
    (State.admitToks s i v map draft toks).1.key = s.key := by
  unfold State.admitToks
  dsimp only
  have tw : ∀ (b : Prop) [Decidable b] (x : State) (c d e f g h), (if b then x.treeWalk c d e f g h else (x, [])).1.key = x.key := by
    intro b _ x c d e f g h; split <;> simp
  split
  · simp [tw]
  · have h := State.firstRoot_key _ _ _ _ _ _ ‹_›
    simp [tw] at h
    simp [h]
theorem State.admitToks_key' {s : State} {i : Nat} {v : Version} {map : Bytes} {draft : Option (Version × Bytes)} {toks : List Nat} {t_ : State} {y_} (h : State.admitToks s i v map draft toks = (t_, y_)) : t_.key = s.key := by
  have k := State.admitToks_key s i v map draft toks; rw [h] at k; exact k
@[simp] theorem State.admitNew_key (s : State) (i : Nat) (v : Version) (map : Bytes) (draft : Option (Version × Bytes)) :
    (State.admitNew s i v map draft).1.key = s.key := by
  unfold State.admitNew
  dsimp only
  have h := State.readPrompt_key s (s.req i)
  split
  · rename_i hh; rw [hh] at h; simpa using h
  · rename_i hh; rw [hh] at h
    split
    · rw [State.note_key]; exact (State.admitToks_key' ‹_›).trans h
    · exact (State.admitToks_key _ _ _ _ _ _).trans h
@[simp] theorem State.admitTrain_key (s : State) (i : Nat) (h : HandIn) :
    (State.admitTrain s i h).key = s.key := by simp [State.admitTrain]
@[simp] theorem State.admitOne_key (s : State) (i : Nat) :
    (State.admitOne s i).1.key = s.key := by simp only [State.admitOne]; (repeat' split) <;> simp
theorem State.admitOne_key' {s : State} {i : Nat} {t_ : State} {y_} (h : State.admitOne s i = (t_, y_)) : t_.key = s.key := by
  have k := State.admitOne_key s i; rw [h] at k; exact k
@[simp] theorem State.admitList_key (s : State) (a1 : List Nat) (a2 : Nat) :
    (State.admitList s a1 a2).key = s.key := by
  induction a1 generalizing s a2 with
  | nil => unfold State.admitList; simp
  | cons a r ih =>
    cases a2 with
    | zero => unfold State.admitList; simp
    | succ n =>
      unfold State.admitList
      split <;> exact (ih _ _).trans (State.admitOne_key' ‹_›)
@[simp] theorem State.admit_key (s : State) (haspIn : List Nat) (n : Nat) :
    (State.admitUpTo s haspIn n).key = s.key := by simp [State.admitUpTo]
@[simp] theorem State.items4_key (s : State) (admits : Option Nat) :
    (State.items4 s admits).key = s.key := by simp [State.items4]
@[simp] theorem State.readCons_key (s : State) (i : Nat) :
    (State.readCons s i).key = s.key := by simp [State.readCons]
@[simp] theorem State.estOf_key (s : State) (slot : Nat) (version : Nat) :
    (State.estOf s slot version).1.key = s.key := by unfold State.estOf; (repeat' split) <;> simp
@[simp] theorem State.plan_key (s : State) (slot : Nat) (version : Nat) (c : Nat × Nat) :
    (State.plan s slot version c).key = s.key := by simp [State.plan]
@[simp] theorem State.scaleEsts_key (s : State) (costs : List StepCost) :
    (State.scaleEsts s costs).key = s.key := by simp [State.scaleEsts]
@[simp] theorem State.enter_key (s : State) (i : Nat) (b : BatchItem) :
    (State.enter s i b).key = s.key := by simp [State.enter]
@[simp] theorem State.stall_key (s : State) (i : Nat) :
    (State.stall s i).key = s.key := by simp [State.stall]
@[simp] theorem State.lackPage_key (s : State) (i : Nat) (upto : Nat) :
    (State.lackPage s i upto).key = s.key := by simp [State.lackPage]
@[simp] theorem State.placeDecode_key (s : State) (m : Room) (i : Nat) :
    (State.placeDecode s m i).1.key = s.key := by simp only [State.placeDecode]; (repeat' split) <;> simp
@[simp] theorem State.placePrefill_key (s : State) (m : Room) (i : Nat) :
    (State.placePrefill s m i).1.key = s.key := by simp only [State.placePrefill]; (repeat' split) <;> simp
@[simp] theorem State.placeDecodes_key (s : State) (m : Room) (a2 : List Nat) :
    (State.placeDecodes s m a2).1.key = s.key := by
  induction a2 generalizing s m with
  | nil => rfl
  | cons a_ r_ ih => unfold State.placeDecodes; exact (ih _ _).trans (State.placeDecode_key _ _ _)
@[simp] theorem State.placePrefills_key (s : State) (m : Room) (a2 : List Nat) :
    (State.placePrefills s m a2).1.key = s.key := by
  induction a2 generalizing s m with
  | nil => rfl
  | cons a_ r_ ih => unfold State.placePrefills; exact (ih _ _).trans (State.placePrefill_key _ _ _)
@[simp] theorem State.beforeBuild_key (s : State) (i : Nat) :
    (State.beforeBuild s i).key = s.key := by simp [State.beforeBuild]
@[simp] theorem State.buildPart_key (s : State) (haspIn : List Nat) (m : Room) :
    (State.buildPart s haspIn m).key = s.key := by simp [State.buildPart]
@[simp] theorem State.items5_key (s : State) (costs : List StepCost) :
    (State.items5 s costs).key = s.key := by simp [State.items5]
@[simp] theorem haspWork_key (hc : Nat) (s : State) :
    (haspWork hc s).key = s.key := by simp [haspWork]
@[simp] theorem State.histClear_key (s : State) (kw : Nat) :
    (State.histClear s kw).key = s.key := by simp [State.histClear]
@[simp] theorem State.putLregs_key (s : State) (fn : Nat) (r : LatchRegs) :
    (State.putLregs s fn r).key = s.key := by simp [State.putLregs]
@[simp] theorem State.queueCpl_key (s : State) (fn : Nat) (num : Nat) (tag : Nat) (count : Nat) (st : LStat) :
    (State.queueCpl s fn num tag count st).key = s.key := by simp [State.queueCpl]
@[simp] theorem State.latchReply_key (s : State) (f : HFrame) (count : Nat) (st : LStat) :
    (State.latchReply s f count st).key = s.key := by simp [State.latchReply]
@[simp] theorem State.waitDone_key (s : State) (by_ : WaiterBy) (num : Nat) (count : Nat) (st : LStat) :
    (State.waitDone s by_ num count st).key = s.key := by unfold State.waitDone; (repeat' split) <;> simp
@[simp] theorem State.waitsDone_key (s : State) (count : Waiter → Nat) (st : LStat) (a1 : List Waiter) :
    (State.waitsDone s count st a1).key = s.key := by fun_induction State.waitsDone s count st a1 <;> simp_all
@[simp] theorem State.dropWaiters_key (s : State) (p : Waiter → Bool) :
    (State.dropWaiters s p).key = s.key := by simp [State.dropWaiters]
@[simp] theorem State.completeWaiters_key (s : State) (p : Waiter → Bool) (st : LStat) :
    (State.completeWaiters s p st).key = s.key := by simp [State.completeWaiters]
@[simp] theorem State.latchTo_key (s : State) (p : Nat) (v : Nat) :
    (State.latchTo s p v).key = s.key := by simp [State.latchTo]
@[simp] theorem State.latchUsed_key (s : State) (kw : Nat) (p : Nat) :
    (State.latchUsed s kw p).key = s.key := by simp [State.latchUsed]
@[simp] theorem State.latchRefused_key (s : State) (kw : Nat) (st : LStat) :
    (State.latchRefused s kw st).1.key = s.key := by simp [State.latchRefused]
@[simp] theorem State.latchNow_key (s : State) (kw : Nat) (num : Nat) (op : Nat) (v : Nat) :
    (State.latchNow s kw num op v).1.key = s.key := by simp only [State.latchNow]; (repeat' split) <;> simp
@[simp] theorem State.latchWait_key (s : State) (by_ : WaiterBy) (num : Nat) (target : Nat) (timeout : Nat) :
    (State.latchWait s by_ num target timeout).key = s.key := by simp only [State.latchWait]; (repeat' split) <;> simp
@[simp] theorem State.hostReply_key (s : State) (fn : Nat) (count : Nat) (st : LStat) :
    (State.hostReply s fn count st).key = s.key := by simp [State.hostReply]
@[simp] theorem State.remoteEnd_key (s : State) (who : LatchUser) (num : Nat) (op : Nat) (count : Nat) (st : LStat) :
    (State.remoteEnd s who num op count st).key = s.key := by unfold State.remoteEnd; (repeat' split) <;> simp
@[simp] theorem State.remoteLost_key (s : State) (who : LatchUser) (num : Nat) (op : Nat) :
    (State.remoteLost s who num op).key = s.key := by simp [State.remoteLost]
@[simp] theorem State.latchRemote_key (s : State) (who : LatchUser) (kw : Nat) (owner : Nat) (num : Nat) (op : Nat) (v : Nat) (timeout : Nat) (tag : Nat) :
    (State.latchRemote s who kw owner num op v timeout tag).key = s.key := by simp [State.latchRemote]
@[simp] theorem latchCommand_key (w : LatchUser) (num : Nat) (op : Nat) (v : Nat) (timeout : Nat) (s : State) :
    (latchCommand w num op v timeout s).key = s.key := by simp only [latchCommand]; (repeat' split) <;> simp
@[simp] theorem State.countTimeouts_key (s : State) (a1 : List Waiter) :
    (State.countTimeouts s a1).key = s.key := by fun_induction State.countTimeouts s a1 <;> simp_all
@[simp] theorem latchTimeout_key (p : Nat) (s : State) :
    (latchTimeout p s).key = s.key := by simp [latchTimeout]
@[simp] theorem cplWrite_key (fn : Nat) (s : State) :
    (cplWrite fn s).key = s.key := by simp only [cplWrite]; (repeat' split) <;> simp
@[simp] theorem latchCplCons_key (fn : Nat) (v : Nat) (s : State) :
    (latchCplCons fn v s).key = s.key := by simp [latchCplCons]
@[simp] theorem latchStatusRead_key (fn : Nat) (s : State) :
    (latchStatusRead fn s).key = s.key := by simp [latchStatusRead]
@[simp] theorem State.clearLatches_key (s : State) (r : Nat × Nat) :
    (State.clearLatches s r).key = s.key := by simp [State.clearLatches]
@[simp] theorem State.unwrapFail_key (s : State) (kw : Nat) :
    (State.unwrapFail s kw).1.key = s.key := by simp [State.unwrapFail]
@[simp] theorem State.keyInstall_key (s : State) (own : Option Nat) (b : Bytes) :
    (State.keyInstall s own b).1.key = s.key := by simp only [State.keyInstall]; (repeat' split) <;> simp
@[simp] theorem State.closeKey_key (s : State) (n : Nat) :
    (State.closeKey s n).key = s.key := by simp [State.closeKey]
@[simp] theorem State.zeroKey_key (s : State) (n : Nat) :
    (State.zeroKey s n).key = s.key := by simp [State.zeroKey]
@[simp] theorem State.keyBoundary_key (s : State) (n : Nat) :
    (State.keyBoundary s n).key = s.key := by simp only [State.keyBoundary]; (repeat' split) <;> simp
@[simp] theorem State.keysBoundary_key (s : State) :
    (State.keysBoundary s).key = s.key := by simp [State.keysBoundary]
@[simp] theorem keyDestroy_key (n : Nat) (s : State) :
    (keyDestroy n s).key = s.key := by simp only [keyDestroy]; (repeat' split) <;> simp
@[simp] theorem State.newNonce_key (s : State) :
    (State.newNonce s).key = s.key := by simp [State.newNonce]
@[simp] theorem State.lcRefuse_key (s : State) :
    (State.lcRefuse s).1.key = s.key := by simp [State.lcRefuse]
@[simp] theorem State.debugUnlock_key (s : State) (b : Bytes) :
    (State.debugUnlock s b).1.key = s.key := by
  have n := State.newNonce_key s
  simp only [State.key] at n
  unfold State.debugUnlock
  (repeat' split) <;> first | rfl | (simp; done) | (simp; exact n)
@[simp] theorem State.putStage_key (s : State) (c : SpdmConn) (n : Nat) :
    (State.putStage s c n).key = s.key := by simp [State.putStage]
@[simp] theorem State.spdmAt_key (s : State) (c : SpdmConn) (stage : Nat) (f : State → State × SpdmMsg) (h_f : ∀ x0, (f x0).1.key = x0.key) :
    (State.spdmAt s c stage f).key = s.key := by
  unfold State.spdmAt
  split
  · rfl
  split
  · simp
  · exact (State.emit_key _ _).trans (h_f s)
@[simp] theorem ideKm_key (kw : Nat) (stream : Nat) (k : Nat) (s : State) :
    (ideKm kw stream k s).key = s.key := by simp [ideKm]
@[simp] theorem configRequest_key (fn : Nat) (write : Bool) (reg : Nat) (v : Nat) (s : State) :
    (configRequest fn write reg v s).key = s.key := by simp [configRequest]
@[simp] theorem State.takeWindow_key (s : State) (n : Nat) :
    (State.takeWindow s n).key = s.key := by simp [State.takeWindow]
@[simp] theorem State.clearCounters_key (s : State) (n : Nat) :
    (State.clearCounters s n).key = s.key := by simp [State.clearCounters]
@[simp] theorem State.clearView_key (s : State) (n : Nat) :
    (State.clearView s n).key = s.key := by simp [State.clearView]
@[simp] theorem State.kwOpen_key (s : State) (n : Nat) :
    (State.kwOpen s n).key = s.key := by simp [State.kwOpen]
@[simp] theorem State.kwOpenFailed_key (s : State) (n : Nat) :
    (State.kwOpenFailed s n).key = s.key := by simp [State.kwOpenFailed]
@[simp] theorem State.resetFunction_key (s : State) (n : Nat) :
    (State.resetFunction s n).key = s.key := by simp [State.resetFunction]
@[simp] theorem State.removalBegin_key (s : State) (n : Nat) (st : Removal) (reset : Bool) :
    (State.removalBegin s n st reset).key = s.key := by simp [State.removalBegin]
@[simp] theorem State.kwClose_key (s : State) (n : Nat) :
    (State.kwClose s n).key = s.key := by simp [State.kwClose]
@[simp] theorem State.kwReset_key (s : State) (n : Nat) :
    (State.kwReset s n).key = s.key := by simp only [State.kwReset]; (repeat' split) <;> simp
@[simp] theorem State.removalStep2_key (s : State) (n : Nat) :
    (State.removalStep2 s n).key = s.key := by simp [State.removalStep2]
@[simp] theorem State.flowGone_key (s : State) (f : Flow) :
    (State.flowGone s f).key = s.key := by unfold State.flowGone; (repeat' split) <;> simp
@[simp] theorem State.dropTrain_key (s : State) (x : RxTrain) :
    (State.dropTrain s x).key = s.key := by simp [State.dropTrain]
@[simp] theorem State.dropTransfers_key (s : State) (n : Nat) :
    (State.dropTransfers s n).key = s.key := by simp [State.dropTransfers]
@[simp] theorem keyDrain_key (n : Nat) (s : State) :
    (keyDrain n s).key = s.key := by simp [keyDrain]
@[simp] theorem State.freeSlot_key (s : State) (n : Nat) :
    (State.freeSlot s n).key = s.key := by simp [State.freeSlot]
@[simp] theorem State.removalStep4_key (s : State) (n : Nat) :
    (State.removalStep4 s n).key = s.key := by simp [State.removalStep4]
@[simp] theorem State.removalStep5_key (s : State) (n : Nat) :
    (State.removalStep5 s n).key = s.key := by simp [State.removalStep5]
@[simp] theorem State.removalEnd_key (s : State) (n : Nat) :
    (State.removalEnd s n).key = s.key := by simp [State.removalEnd]
@[simp] theorem State.removalPre_key (s : State) (n : Nat) :
    (State.removalPre s n).key = s.key := by simp only [State.removalPre]; (repeat' split) <;> simp
@[simp] theorem State.removalItem3_key (s : State) (n : Nat) :
    (State.removalItem3 s n).key = s.key := by unfold State.removalItem3; (repeat' split) <;> simp
@[simp] theorem State.endNow_key (s : State) (i : Nat) :
    (State.endNow s i).key = s.key := by simp [State.endNow]
@[simp] theorem State.removeAtOnce_key (s : State) (n : Nat) :
    (State.removeAtOnce s n).key = s.key := by simp [State.removeAtOnce]
@[simp] theorem State.kwForce_key (s : State) (n : Nat) :
    (State.kwForce s n).key = s.key := by simp [State.kwForce]
@[simp] theorem State.removalSeek_key (s : State) (n : Nat) :
    (State.removalSeek s n).key = s.key := by unfold State.removalSeek; (repeat' split) <;> simp
@[simp] theorem State.fillKw_key (s : State) (kw : Nat) (addr : Nat) (b : Bytes) :
    ∀ t, State.fillKw s kw addr b = some t → t.key = s.key := by intro t h; simp only [State.fillKw] at h; (repeat' split at h) <;> simp_all <;> (first | (subst h; simp) | (rw [← h]; simp))
@[simp] theorem State.noteAdapters_key (s : State) (kw : Nat) (ds : List Bytes) :
    (State.noteAdapters s kw ds).key = s.key := by simp [State.noteAdapters]
@[simp] theorem State.adapterLoad_key (s : State) (kw : Nat) (req : Bytes) (buf : Option Bytes) :
    (State.adapterLoad s kw req buf).1.key = s.key := by
  unfold State.adapterLoad
  dsimp only
  (repeat' split) <;> first | rfl | (simp; done) | exact ((State.noteAdapters_key _ _ _).trans (State.fillKw_key _ _ _ _ _ ‹_›)).trans (State.emit_key _ _)
@[simp] theorem State.memMove_key (s : State) (kw : Nat) (bytes : Nat) :
    (State.memMove s kw bytes).key = s.key := by simp [State.memMove]
@[simp] theorem State.handFail_key (s : State) (i : Nat) (status : Nat) :
    (State.handFail s i status).key = s.key := by simp [State.handFail]
@[simp] theorem State.trainFail_key (s : State) (f : Flow) (status : Nat) :
    (State.trainFail s f status).key = s.key := by unfold State.trainFail; (repeat' split) <;> simp
@[simp] theorem State.shardMissing_key (s : State) (slot : Nat) (index : Nat) :
    (State.shardMissing s slot index).key = s.key := by unfold State.shardMissing; (repeat' split) <;> simp
@[simp] theorem State.flowLost_key (s : State) (f : Flow) :
    (State.flowLost s f).key = s.key := by unfold State.flowLost; (repeat' split) <;> simp
@[simp] theorem State.reroute_key (s : State) (f : Flow) :
    (State.reroute s f).key = s.key := by simp only [State.reroute]; (repeat' split) <;> simp
@[simp] theorem State.rerouteDead_key (s : State) :
    (State.rerouteDead s).key = s.key := by simp [State.rerouteDead]
@[simp] theorem linkTrained_key (p : Nat) (lanes : Nat) (s : State) :
    (linkTrained p lanes s).key = s.key := by simp [linkTrained]
@[simp] theorem State.relive_key (s : State) (a : Nat) :
    (State.relive s a).key = s.key := by simp [State.relive]
@[simp] theorem identArrived_key (p : Nat) (f : HFrame) (trip : Nat) (s : State) :
    (identArrived p f trip s).key = s.key := by unfold identArrived; (repeat' split) <;> simp
@[simp] theorem linkDown_key (p : Nat) (s : State) :
    (linkDown p s).key = s.key := by simp [linkDown]
@[simp] theorem frameReplay_key (p : Nat) (again : Bool) (s : State) :
    (frameReplay p again s).key = s.key := by simp [frameReplay]
@[simp] theorem laneDegraded_key (p : Nat) (lanes : Nat) (s : State) :
    (laneDegraded p lanes s).key = s.key := by simp [laneDegraded]
@[simp] theorem State.portOpen_key (s : State) (p : Nat) :
    (State.portOpen s p).key = s.key := by simp [State.portOpen]
@[simp] theorem State.portOff_key (s : State) (p : Nat) :
    (State.portOff s p).key = s.key := by simp [State.portOff]
@[simp] theorem State.echoTick_key (s : State) (p : Nat) :
    (State.echoTick s p).key = s.key := by simp [State.echoTick]
@[simp] theorem State.echoTicks_key (s : State) :
    (State.echoTicks s).key = s.key := by simp [State.echoTicks]
@[simp] theorem echoMissing_key (p : Nat) (s : State) :
    (echoMissing p s).key = s.key := by simp [echoMissing]
@[simp] theorem State.stageMap_key (s : State) (b : Bytes) :
    (State.stageMap s b).key = s.key := by simp [State.stageMap]
@[simp] theorem State.applyMap_key (s : State) :
    (State.applyMap s).key = s.key := by unfold State.applyMap; (repeat' split) <;> simp
@[simp] theorem reachSend_key (occ : List Nat) (s : State) :
    (reachSend occ s).key = s.key := by simp [reachSend]
@[simp] theorem reachArrived_key (p : Nat) (f : HFrame) (s : State) :
    (reachArrived p f s).key = s.key := by unfold reachArrived; (repeat' split) <;> simp
@[simp] theorem State.noteFlood_key (s : State) (src : Nat) (flow : Nat) :
    (State.noteFlood s src flow).key = s.key := by simp [State.noteFlood]
@[simp] theorem State.flood_key (s : State) (type : Nat) (pay : Bytes) :
    (State.flood s type pay).key = s.key := by simp [State.flood]
@[simp] theorem State.floodIn_key (s : State) (p : Nat) (ty : Nat) (f : HFrame) (k : State → State) (h_k : ∀ x0, (k x0).key = x0.key) :
    (State.floodIn s p ty f k).key = s.key := by simp [State.floodIn, h_k]
@[simp] theorem State.forward_key (s : State) (f : HFrame) :
    (State.forward s f).key = s.key := by simp only [State.forward]; (repeat' split) <;> simp
@[simp] theorem State.openHere_key (s : State) (p : Nat) (f : HFrame) :
    (State.openHere s p f).1.key = s.key := by unfold State.openHere; (repeat' split) <;> simp
theorem State.openHere_key' {s : State} {p : Nat} {f : HFrame} {t_ : State} {y_} (h : State.openHere s p f = (t_, y_)) : t_.key = s.key := by
  have k := State.openHere_key s p f; rw [h] at k; exact k
@[simp] theorem State.rxStep_key (s : State) (f : HFrame) :
    (State.rxStep s f).key = s.key := by simp [State.rxStep]
@[simp] theorem State.received_key (s : State) (p : Nat) (ty : Nat) (f : HFrame) (k : State → HFrame → State) (h_k : ∀ x0 x1, (k x0 x1).key = x0.key) :
    (State.received s p ty f k).key = s.key := by
  unfold State.received
  (try dsimp only)
  (repeat' split) <;> (first | with_reducible rfl | (simp [h_k]; done) | exact ((State.openHere_key' ‹_›).trans (by simp)) | (simp [h_k]; exact ((State.openHere_key' ‹_›).trans (by simp))) | exact ((h_k _ _).trans ((State.openHere_key' ‹_›).trans (by simp))) | (simp [h_k]; exact ((h_k _ _).trans ((State.openHere_key' ‹_›).trans (by simp)))) | (rename_i hh; have kk := congrArg (fun z => z.1.key) hh; simp [h_k] at kk; exact kk) | (rename_i hh; have kk := congrArg (fun z => z.1.key) hh; simp [h_k] at kk; simp [h_k]; exact kk) | (rename_i hh; have kk := congrArg (fun z => z.1.key) hh; simp [h_k] at kk; refine kk.trans ?_; exact ((State.openHere_key' ‹_›).trans (by simp))) | (rename_i hh; have kk := congrArg (fun z => z.1.key) hh; simp [h_k] at kk; simp [h_k]; refine kk.trans ?_; exact ((State.openHere_key' ‹_›).trans (by simp))) | (rename_i hh; have kk := congrArg (fun z => z.1.key) hh; simp [h_k] at kk; refine kk.trans ?_; exact ((h_k _ _).trans ((State.openHere_key' ‹_›).trans (by simp)))) | (rename_i hh; have kk := congrArg (fun z => z.1.key) hh; simp [h_k] at kk; simp [h_k]; refine kk.trans ?_; exact ((h_k _ _).trans ((State.openHere_key' ‹_›).trans (by simp)))))
@[simp] theorem State.inOrder_key (s : State) (f : HFrame) (k : State → State) (h_k : ∀ x0, (k x0).key = x0.key) :
    (State.inOrder s f k).key = s.key := by simp [State.inOrder, h_k]
@[simp] theorem State.takePort_key (s : State) (p : Nat) :
    (State.takePort s p).key = s.key := by simp only [State.takePort]; (repeat' split) <;> simp
@[simp] theorem State.openFunc_key (s : State) (f : Func) :
    (State.openFunc s f).key = s.key := by unfold State.openFunc; (repeat' split) <;> simp
@[simp] theorem State.closeFunc_key (s : State) (f : Func) :
    (State.closeFunc s f).key = s.key := by unfold State.closeFunc; (repeat' split) <;> simp
@[simp] theorem State.funcMove_key (s : State) (f : Func) :
    (State.funcMove s f).key = s.key := by simp only [State.funcMove]; (repeat' split) <;> simp
@[simp] theorem State.funcBoundary_key (s : State) (f : Func) :
    (State.funcBoundary s f).key = s.key := by unfold State.funcBoundary; (repeat' split) <;> simp
@[simp] theorem State.funcsBoundary_key (s : State) :
    (State.funcsBoundary s).key = s.key := by simp [State.funcsBoundary]
@[simp] theorem State.funcsSeek_key (s : State) :
    (State.funcsSeek s).key = s.key := by simp [State.funcsSeek]
@[simp] theorem State.funcWrite_key (s : State) (f : Func) (v : Bool) :
    (State.funcWrite s f v).1.key = s.key := by simp only [State.funcWrite]; (repeat' split) <;> simp
@[simp] theorem openComplete_key (f : Func) (s : State) :
    (openComplete f s).key = s.key := by simp [openComplete]
@[simp] theorem openLimitPassed_key (f : Func) (s : State) :
    (openLimitPassed f s).key = s.key := by simp only [openLimitPassed]; (repeat' split) <;> simp 
@[simp] theorem State.drainedSlot_key (s : State) (n : Nat) :
    (State.drainedSlot s n).key = s.key := by simp [State.drainedSlot]
@[simp] theorem closeComplete_key (f : Func) (s : State) :
    (closeComplete f s).key = s.key := by simp only [closeComplete]; (repeat' split) <;> simp 
@[simp] theorem closeLimitPassed_key (f : Func) (s : State) :
    (closeLimitPassed f s).key = s.key := by simp only [closeLimitPassed]; (repeat' split) <;> simp 
@[simp] theorem powerupStart_key (f : Func) (s : State) :
    (powerupStart f s).key = s.key := by simp [powerupStart]
@[simp] theorem trainingFailed_key (p : Nat) (s : State) :
    (trainingFailed p s).key = s.key := by simp [trainingFailed]
@[simp] theorem State.scanRing_key (s : State) :
    (State.scanRing s).key = s.key := by simp [State.scanRing]
@[simp] theorem State.evtIrq_key (s : State) (fn : Nat) :
    (State.evtIrq s fn).key = s.key := by simp [State.evtIrq]
@[simp] theorem State.reportRecord_key (s : State) (r : EvRecord) :
    (State.reportRecord s r).key = s.key := by simp [State.reportRecord]
@[simp] theorem State.takeSeq_key (s : State) :
    (State.takeSeq s).1.key = s.key := by simp [State.takeSeq]
@[simp] theorem State.putRecord_key (s : State) (e : Event) (flags : Nat) (payload : Bytes) :
    (State.putRecord s e flags payload).1.key = s.key := by simp [State.putRecord]
@[simp] theorem State.exportCper_key (s : State) (r : EvRecord) :
    (State.exportCper s r).key = s.key := by simp [State.exportCper]
@[simp] theorem State.putCont_key (s : State) (e : Event) (a1 : Nat) (a2 : Bytes) :
    (State.putCont s e a1 a2).key = s.key := by fun_induction State.putCont s e a1 a2 <;> simp_all
@[simp] theorem State.writeEvent_key (s : State) (e : Event) :
    (State.writeEvent s e).key = s.key := by simp [State.writeEvent]
@[simp] theorem recordWrite_key (s : State) :
    (recordWrite s).key = s.key := by unfold recordWrite; (repeat' split) <;> simp
@[simp] theorem State.writeQueue_key (s : State) (a1 : Nat) :
    (State.writeQueue s a1).key = s.key := by fun_induction State.writeQueue s a1 <;> simp_all
@[simp] theorem evtIrqGap_key (fn : Nat) (s : State) :
    (evtIrqGap fn s).key = s.key := by simp [evtIrqGap]
@[simp] theorem rateToken_key (code : Nat) (kw : Nat) (s : State) :
    (rateToken code kw s).key = s.key := by unfold rateToken; (repeat' split) <;> simp
@[simp] theorem evtHeartbeat_key (s : State) :
    (evtHeartbeat s).key = s.key := by simp [evtHeartbeat]
@[simp] theorem State.evtAck_key (s : State) (v : Nat) :
    (State.evtAck s v).key = s.key := by simp [State.evtAck]
@[simp] theorem State.saveOp_key (s : State) :
    (State.saveOp s).key = s.key := by simp [State.saveOp]
@[simp] theorem opHour_key (s : State) :
    (opHour s).key = s.key := by simp [opHour]
@[simp] theorem quarantineEnd_key (u : UnitId) (s : State) :
    (quarantineEnd u s).key = s.key := by simp [quarantineEnd]
@[simp] theorem katDone_key (u : UnitId) (pass : Bool) (s : State) :
    (katDone u pass s).key = s.key := by simp [katDone]
@[simp] theorem State.katBoundary_key (s : State) :
    (State.katBoundary s).key = s.key := by simp [State.katBoundary]
@[simp] theorem State.bistFail_key (s : State) (f : BistFail) :
    (State.bistFail s f).key = s.key := by unfold State.bistFail; (repeat' split) <;> simp
@[simp] theorem State.memoryBist_key (s : State) (l : List BistFail) (ms : Nat) :
    (State.memoryBist s l ms).key = s.key := by simp [State.memoryBist]
@[simp] theorem State.bistAuth_key (s : State) (b : Bytes) :
    (State.bistAuth s b).1.key = s.key := by unfold State.bistAuth; (repeat' split) <;> simp
@[simp] theorem State.lbistRun_key (s : State) (v : Nat) :
    (State.lbistRun s v).key = s.key := by unfold State.lbistRun; (repeat' split) <;> simp
@[simp] theorem State.repairEngine_key (s : State) (eng : Nat) :
    (State.repairEngine s eng).key = s.key := by simp [State.repairEngine]
@[simp] theorem State.repairHasp_key (s : State) (h : Nat) :
    (State.repairHasp s h).key = s.key := by simp [State.repairHasp]
@[simp] theorem State.repairs_key (s : State) :
    (State.repairs s).key = s.key := by simp [State.repairs]
end Sys2Proof.Machine
end

