-- ==== Sys2Proof/Laws/Key4.lean ====
section
/-! SUPPORT. Laws/Key4.lean: operations that leave it as it was (part 4 of 4, each operation after those it calls). -/
namespace Sys2Proof.Machine
open Sys2Proof
@[simp] theorem lbistDone_key (first : Option Nat) (misr : Nat) (s : State) :
    (lbistDone first misr s).key = s.key := by unfold lbistDone; (repeat' split) <;> simp
@[simp] theorem State.arrayTier_key (s : State) (eng : Nat) (tier : Nat) :
    (State.arrayTier s eng tier).key = s.key := by simp [State.arrayTier]
@[simp] theorem State.arrayRun_key (s : State) (v : Nat) :
    (State.arrayRun s v).key = s.key := by unfold State.arrayRun; (repeat' split) <;> simp
@[simp] theorem arrayDone_key (bad : List (Nat × Nat × Nat)) (pass : Bool) (s : State) :
    (arrayDone bad pass s).key = s.key := by unfold arrayDone; (repeat' split) <;> simp
@[simp] theorem State.emergencyAt_key (s : State) (c : Nat) (cause : Nat) (reading : Int) :
    (State.emergencyAt s c cause reading).key = s.key := by simp [State.emergencyAt]
@[simp] theorem State.emergencyCheck_key (s : State) :
    (State.emergencyCheck s).key = s.key := by simp [State.emergencyCheck]
@[simp] theorem State.setNext_key (s : State) (conv : Nat) (last : Nat) :
    (State.setNext s conv last).key = s.key := by simp [State.setNext]
@[simp] theorem senseReading_key (c : Nat) (conv : Nat) (raw : Nat) (s : State) :
    (senseReading c conv raw s).key = s.key := by simp [senseReading]
@[simp] theorem memTemp_key (stack : Nat) (temp : Int) (s : State) :
    (memTemp stack temp s).key = s.key := by simp [memTemp]
@[simp] theorem State.enterSense_key (s : State) (m : Nat) :
    (State.enterSense s m).key = s.key := by unfold State.enterSense; (repeat' split) <;> simp
@[simp] theorem xchk_key (a : Int) (b : Int) (s : State) :
    (xchk a b s).key = s.key := by simp [xchk]
@[simp] theorem State.putCal_key (s : State) (c : SysCal) :
    (State.putCal s c).key = s.key := by simp [State.putCal]
@[simp] theorem State.syscalStop_key (s : State) (status : Nat) :
    (State.syscalStop s status).key = s.key := by simp [State.syscalStop]
@[simp] theorem State.syscalCmd_key (s : State) (cmd : Nat) :
    (State.syscalCmd s cmd).key = s.key := by unfold State.syscalCmd; (repeat' split) <;> simp
@[simp] theorem syscalCapture_key (v : Int) (s : State) :
    (syscalCapture v s).key = s.key := by simp only [syscalCapture]; (repeat' split) <;> simp
@[simp] theorem syscalTimeout_key (s : State) :
    (syscalTimeout s).key = s.key := by unfold syscalTimeout; (repeat' split) <;> simp
@[simp] theorem State.syscalFast_key (s : State) :
    (State.syscalFast s).key = s.key := by simp [State.syscalFast]
@[simp] theorem phaseAdd_key (k : Nat) (s : State) :
    (phaseAdd k s).key = s.key := by simp [phaseAdd]
@[simp] theorem phaseDrop_key (k : Nat) (s : State) :
    (phaseDrop k s).key = s.key := by unfold phaseDrop; (repeat' split) <;> simp
@[simp] theorem avsReport_key (die : Nat) (mon : Nat) (slack : Int) (s : State) :
    (avsReport die mon slack s).key = s.key := by simp [avsReport]
@[simp] theorem State.avsBoundary_key (s : State) :
    (State.avsBoundary s).key = s.key := by simp [State.avsBoundary]
@[simp] theorem State.takeSample_key (s : State) (mv : List Nat) (imon : List Int) :
    (State.takeSample s mv imon).key = s.key := by simp [State.takeSample]
@[simp] theorem State.countStall_key (s : State) :
    (State.countStall s).key = s.key := by simp [State.countStall]
@[simp] theorem State.guard_key (s : State) :
    (State.guard s).key = s.key := by simp [State.guard]
@[simp] theorem State.pace_key (s : State) (code : Nat) (target : Nat) (inForce : Nat) (cause : Nat) (source : Nat) (enforce : Nat) :
    (State.pace s code target inForce cause source enforce).key = s.key := by simp [State.pace]
@[simp] theorem State.limitCheck_key (s : State) :
    (State.limitCheck s).key = s.key := by simp [State.limitCheck]
@[simp] theorem State.paceEmergency_key (s : State) :
    (State.paceEmergency s).key = s.key := by unfold State.paceEmergency; (repeat' split) <;> simp
@[simp] theorem State.paceEnforce_key (s : State) :
    (State.paceEnforce s).key = s.key := by unfold State.paceEnforce; (repeat' split) <;> simp
@[simp] theorem State.paceAnnounce_key (s : State) :
    (State.paceAnnounce s).key = s.key := by simp [State.paceAnnounce]
@[simp] theorem State.paceRelease_key (s : State) :
    (State.paceRelease s).key = s.key := by simp [State.paceRelease]
@[simp] theorem State.throttle_key (s : State) :
    (State.throttle s).key = s.key := by simp [State.throttle]
@[simp] theorem State.energyBudget_key (s : State) (accounted : Nat) (quiet : Nat) :
    (State.energyBudget s accounted quiet).key = s.key := by simp [State.energyBudget]
@[simp] theorem State.powerBoundary_key (s : State) (accounted : Nat) (quiet : Nat) :
    (State.powerBoundary s accounted quiet).key = s.key := by simp [State.powerBoundary]
@[simp] theorem State.setBoot_key (s : State) (f : BootS → BootS) :
    (State.setBoot s f).key = s.key := by simp [State.setBoot]
@[simp] theorem State.fallbacks_key (s : State) :
    (State.fallbacks s).key = s.key := by simp [State.fallbacks]
@[simp] theorem State.romStart_key (s : State) :
    (State.romStart s).key = s.key := by simp [State.romStart]
@[simp] theorem State.funcsDark_key (s : State) :
    (State.funcsDark s).key = s.key := by simp [State.funcsDark]
@[simp] theorem State.dark_key (s : State) :
    (State.dark s).key = s.key := by simp [State.dark]
@[simp] theorem State.hubOff_key (s : State) :
    (State.hubOff s).key = s.key := by simp [State.hubOff]
@[simp] theorem State.railsOff_key (s : State) (l : List Nat) :
    (State.railsOff s l).key = s.key := by simp [State.railsOff]
@[simp] theorem State.downStep_key (s : State) (step : Nat) :
    (State.downStep s step).key = s.key := by simp [State.downStep]
@[simp] theorem State.hostReady_key (s : State) :
    (State.hostReady s).key = s.key := by simp [State.hostReady]
@[simp] theorem State.tripNow_key (s : State) :
    (State.tripNow s).key = s.key := by simp [State.tripNow]
@[simp] theorem thermTrip_key (src : Nat) (s : State) :
    (thermTrip src s).key = s.key := by simp [thermTrip]
@[simp] theorem porRise_key (s : State) :
    (porRise s).key = s.key := by simp [porRise]
@[simp] theorem State.clampRecord_key (s : State) (k : OKey) (session : Nat) (transport : Nat) (kw : Nat) (c : Clamp) :
    (State.clampRecord s k session transport kw c).key = s.key := by simp [State.clampRecord]
@[simp] theorem State.loadSetting_key (s : State) (x : OKey × OVal) :
    (State.loadSetting s x).key = s.key := by simp [State.loadSetting]
@[simp] theorem State.loadSettings_key (s : State) :
    (State.loadSettings s).key = s.key := by simp [State.loadSettings]
@[simp] theorem State.wardMeasure_key (s : State) :
    (State.wardMeasure s).key = s.key := by simp [State.wardMeasure]
@[simp] theorem State.wardRuns_key (s : State) :
    (State.wardRuns s).key = s.key := by simp [State.wardRuns]
@[simp] theorem State.wardBoot_key (s : State) :
    (State.wardBoot s).key = s.key := by simp [State.wardBoot]
@[simp] theorem State.wardAgain_key (s : State) :
    (State.wardAgain s).key = s.key := by simp [State.wardAgain]
@[simp] theorem wardStart_key (s : State) :
    (wardStart s).key = s.key := by simp [wardStart]
@[simp] theorem State.railsUp_key (s : State) (step : Nat) :
    (State.railsUp s step).key = s.key := by simp [State.railsUp]
@[simp] theorem State.loadTrims_key (s : State) (eng : Nat) :
    (State.loadTrims s eng).key = s.key := by simp only [State.loadTrims]; (repeat' split) <;> simp
@[simp] theorem State.loadAllTrims_key (s : State) :
    (State.loadAllTrims s).key = s.key := by simp [State.loadAllTrims]
@[simp] theorem State.loadSlot_key (s : State) (n : Nat) :
    (State.loadSlot s n).key = s.key := by simp only [State.loadSlot]; (repeat' split) <;> simp
@[simp] theorem State.firmwareRuns_key (s : State) :
    (State.firmwareRuns s).key = s.key := by simp [State.firmwareRuns]
@[simp] theorem State.measureImage_key (s : State) (kind : Nat) :
    (State.measureImage s kind).key = s.key := by unfold State.measureImage; (repeat' split) <;> simp
@[simp] theorem State.closeSessions_key (s : State) (p : Nat → Session → Bool) :
    (State.closeSessions s p).key = s.key := by simp [State.closeSessions]
@[simp] theorem State.stopAll_key (s : State) (cause : Nat) :
    (State.stopAll s cause).key = s.key := by simp [State.stopAll]
@[simp] theorem State.writeDeferred_key (s : State) :
    (State.writeDeferred s).key = s.key := by simp [State.writeDeferred]
@[simp] theorem State.saveAll_key (s : State) :
    (State.saveAll s).key = s.key := by simp [State.saveAll]
@[simp] theorem State.eraseAll_key (s : State) :
    (State.eraseAll s).key = s.key := by simp [State.eraseAll]
@[simp] theorem perstLow_key (s : State) :
    (perstLow s).key = s.key := by simp [perstLow]
@[simp] theorem perstHigh_key (s : State) :
    (perstHigh s).key = s.key := by simp [perstHigh]
@[simp] theorem wdtRestart_key (s : State) :
    (wdtRestart s).key = s.key := by simp [wdtRestart]
@[simp] theorem State.stageSeg_key (s : State) (b : Bytes) :
    (State.stageSeg s b).key = s.key := by simp [State.stageSeg]
@[simp] theorem State.commitStart_key (s : State) (len : Nat) :
    (State.commitStart s len).key = s.key := by simp [State.commitStart]
@[simp] theorem State.fwReject_key (s : State) (result : Nat) :
    (State.fwReject s result).key = s.key := by simp [State.fwReject]
@[simp] theorem commitDone_key (s : State) :
    (commitDone s).key = s.key := by unfold commitDone; (repeat' split) <;> simp
@[simp] theorem State.bankSelect_key (s : State) (kind : Nat) :
    (State.bankSelect s kind).key = s.key := by simp [State.bankSelect]
@[simp] theorem State.bootBoundary_key (s : State) :
    (State.bootBoundary s).key = s.key := by simp [State.bootBoundary]
@[simp] theorem State.select_key (s : State) (c : Ctx) (k : OKey) (v : Nat) :
    (State.select s c k v).key = s.key := by simp [State.select]
@[simp] theorem State.afterRead_key (s : State) (c : Ctx) (k : OKey) :
    (State.afterRead s c k).key = s.key := by unfold State.afterRead; (repeat' split) <;> simp
@[simp] theorem State.startTrain_key (s : State) (kind : FlowKind) (dst : Nat) (kw : Nat) (items : List FlowItem) :
    (State.startTrain s kind dst kw items).1.key = s.key := by unfold State.startTrain; (repeat' split) <;> (try (rename_i hh; have kk := congrArg (fun z => z.1.key) hh; simp at kk)) <;> simp_all
theorem State.startTrain_key' {s : State} {kind : FlowKind} {dst : Nat} {kw : Nat} {items : List FlowItem} {t_ : State} {y_} (h : State.startTrain s kind dst kw items = (t_, y_)) : t_.key = s.key := by
  have k := State.startTrain_key s kind dst kw items; rw [h] at k; exact k
@[simp] theorem State.handSend_key (s : State) (i : Nat) :
    (State.handSend s i).key = s.key := by
  unfold State.handSend
  (try dsimp only)
  (repeat' split) <;> (first | with_reducible rfl | (simp; done) | exact (State.startTrain_key' ‹_›) | (simp; exact (State.startTrain_key' ‹_›)) | (rename_i hh; have kk := congrArg (fun z => z.1.key) hh; simp at kk; exact kk) | (rename_i hh; have kk := congrArg (fun z => z.1.key) hh; simp at kk; simp; exact kk) | (rename_i hh; have kk := congrArg (fun z => z.1.key) hh; simp at kk; refine kk.trans ?_; exact (State.startTrain_key' ‹_›)) | (rename_i hh; have kk := congrArg (fun z => z.1.key) hh; simp at kk; simp; refine kk.trans ?_; exact (State.startTrain_key' ‹_›)))
@[simp] theorem State.handSends_key (s : State) :
    (State.handSends s).key = s.key := by simp [State.handSends]
@[simp] theorem State.handDone_key (s : State) (i : Nat) :
    (State.handDone s i).key = s.key := by simp only [State.handDone]; (repeat' split) <;> simp
@[simp] theorem State.trainDone_key (s : State) (f : Flow) :
    (State.trainDone s f).key = s.key := by unfold State.trainDone; (repeat' split) <;> simp
@[simp] theorem State.trainAgain_key (s : State) (f : Flow) :
    (State.trainAgain s f).key = s.key := by
  unfold State.trainAgain
  (try dsimp only)
  (repeat' split) <;> (first | with_reducible rfl | (simp; done) | exact (State.startTrain_key' ‹_›) | (simp; exact (State.startTrain_key' ‹_›)) | (rename_i hh; have kk := congrArg (fun z => z.1.key) hh; simp at kk; exact kk) | (rename_i hh; have kk := congrArg (fun z => z.1.key) hh; simp at kk; simp; exact kk) | (rename_i hh; have kk := congrArg (fun z => z.1.key) hh; simp at kk; refine kk.trans ?_; exact (State.startTrain_key' ‹_›)) | (rename_i hh; have kk := congrArg (fun z => z.1.key) hh; simp at kk; simp; refine kk.trans ?_; exact (State.startTrain_key' ‹_›)))
@[simp] theorem trainAck_key (f : HFrame) (s : State) :
    (trainAck f s).key = s.key := by unfold trainAck; (repeat' split) <;> simp
@[simp] theorem State.ackTrain_key (s : State) (f : HFrame) (status : Nat) :
    (State.ackTrain s f status).key = s.key := by simp [State.ackTrain]
@[simp] theorem State.dropRx_key (s : State) (src : Nat) (flow : Nat) :
    (State.dropRx s src flow).key = s.key := by simp [State.dropRx]
@[simp] theorem State.freeTrain_key (s : State) (x : RxTrain) :
    (State.freeTrain s x).key = s.key := by simp [State.freeTrain]
@[simp] theorem trainHeadIn_key (f : HFrame) (s : State) :
    (trainHeadIn f s).key = s.key := by simp [trainHeadIn]
@[simp] theorem trainPageIn_key (f : HFrame) (s : State) :
    (trainPageIn f s).key = s.key := by
  unfold trainPageIn
  apply State.inOrder_key; intro x
  (repeat' split) <;> simp
@[simp] theorem State.headerBad_key (s : State) (kw : Nat) (i : Nat) (c : Nat) :
    (State.headerBad s kw i c).key = s.key := by simp [State.headerBad]
@[simp] theorem State.fillPages_key (s : State) (i : Nat) (slot : Nat) (a3 : List (Nat × Nat × Bytes)) :
    (State.fillPages s i slot a3).key = s.key := by
  induction a3 generalizing s with
  | nil => rfl
  | cons a_ r_ ih => unfold State.fillPages; rw [ih]; split <;> simp
@[simp] theorem State.handTrain_key (s : State) (x : RxTrain) :
    (State.handTrain s x).1.key = s.key := by
  unfold State.handTrain
  (try dsimp only)
  (repeat' split) <;> (first | with_reducible rfl | (simp; done) | exact ((State.firstRoot_key _ _ _ _ _ _ ‹_›).trans (by simp)) | (simp; exact ((State.firstRoot_key _ _ _ _ _ _ ‹_›).trans (by simp))) | (rename_i hh; have kk := congrArg (fun z => z.1.key) hh; simp at kk; exact kk) | (rename_i hh; have kk := congrArg (fun z => z.1.key) hh; simp at kk; simp; exact kk) | (rename_i hh; have kk := congrArg (fun z => z.1.key) hh; simp at kk; refine kk.trans ?_; exact ((State.firstRoot_key _ _ _ _ _ _ ‹_›).trans (by simp))) | (rename_i hh; have kk := congrArg (fun z => z.1.key) hh; simp at kk; simp; refine kk.trans ?_; exact ((State.firstRoot_key _ _ _ _ _ _ ‹_›).trans (by simp))))
@[simp] theorem State.putRound_key (s : State) (x : RingRound) :
    (State.putRound s x).key = s.key := by simp [State.putRound]
@[simp] theorem State.setTrain_key (s : State) (x : RxTrain) :
    (State.setTrain s x).1.key = s.key := by simp only [State.setTrain]; (repeat' split) <;> simp
@[simp] theorem trainEndIn_key (f : HFrame) (s : State) :
    (trainEndIn f s).key = s.key := by
  unfold trainEndIn
  apply State.inOrder_key; intro x
  (try dsimp only)
  (repeat' split) <;> simp
@[simp] theorem trainTimeout_key (num : Nat) (s : State) :
    (trainTimeout num s).key = s.key := by unfold trainTimeout; (repeat' split) <;> simp
@[simp] theorem shardReqIn_key (f : HFrame) (s : State) :
    (shardReqIn f s).key = s.key := by
  unfold shardReqIn
  apply State.inOrder_key; intro x
  (repeat' split) <;> simp
@[simp] theorem State.dropShard_key (s : State) (f : HFrame) :
    (State.dropShard s f).key = s.key := by simp [State.dropShard]
@[simp] theorem shardDataIn_key (f : HFrame) (s : State) :
    (shardDataIn f s).key = s.key := by simp only [shardDataIn]; (repeat' split) <;> simp
@[simp] theorem State.putPartial_key (s : State) (x : Partial) :
    (State.putPartial s x).key = s.key := by simp [State.putPartial]
@[simp] theorem State.freeSets_key (s : State) (kw : Nat) (l : List RingSet) :
    (State.freeSets s kw l).key = s.key := by simp [State.freeSets]
@[simp] theorem State.dropRound_key (s : State) (y : RingRound) :
    (State.dropRound s y).key = s.key := by simp [State.dropRound]
@[simp] theorem State.finishRing_key (s : State) (y : RingRound) :
    (State.finishRing s y).key = s.key := by simp [State.finishRing]
@[simp] theorem State.sendSet_key (s : State) (q : SeqS) (i : Nat) (lane : Nat) (origin : Nat) (round : Nat) (hi : Nat) (pages : List PageS) :
    (State.sendSet s q i lane origin round hi pages).key = s.key := by
  unfold State.sendSet
  (try dsimp only)
  (repeat' split) <;> (first | with_reducible rfl | (simp; done) | exact (State.startTrain_key' ‹_›) | (simp; exact (State.startTrain_key' ‹_›)) | (rename_i hh; have kk := congrArg (fun z => z.1.key) hh; simp at kk; exact kk) | (rename_i hh; have kk := congrArg (fun z => z.1.key) hh; simp at kk; simp; exact kk) | (rename_i hh; have kk := congrArg (fun z => z.1.key) hh; simp at kk; refine kk.trans ?_; exact (State.startTrain_key' ‹_›)) | (rename_i hh; have kk := congrArg (fun z => z.1.key) hh; simp at kk; simp; refine kk.trans ?_; exact (State.startTrain_key' ‹_›)))
@[simp] theorem State.beginPrefill_key (s : State) (w : LaneWork) (q : SeqS) :
    (State.beginPrefill s w q).key = s.key := by simp [State.beginPrefill]
@[simp] theorem State.setRows_key (s : State) (y : RingRound) (x : RingSet) (a1 : Nat) (a2 : List QRow) :
    (State.setRows s y x a1 a2).key = s.key := by fun_induction State.setRows s y x a1 a2 <;> simp_all
@[simp] theorem State.nextRound_key (s : State) (y : RingRound) :
    (State.nextRound s y).key = s.key := by simp only [State.nextRound]; (repeat' split) <;> simp
@[simp] theorem ringRoundStep_key (seq : Nat) (s : State) :
    (ringRoundStep seq s).key = s.key := by simp [ringRoundStep]
@[simp] theorem State.sendQuery_key (s : State) (q : SeqS) (w : LaneWork) (l : List Nat) :
    (State.sendQuery s q w l).key = s.key := by
  induction l generalizing s with
  | nil => rfl
  | cons m r ih => unfold State.sendQuery; dsimp only; rw [ih]; split <;> simp
@[simp] theorem State.beginDecode_key (s : State) (w : LaneWork) (q : SeqS) :
    (State.beginDecode s w q).key = s.key := by unfold State.beginDecode; (repeat' split) <;> simp
@[simp] theorem ringTask_key (w : LaneWork) (s : State) :
    (ringTask w s).key = s.key := by simp only [ringTask]; (repeat' split) <;> simp
@[simp] theorem ringQueryIn_key (f : HFrame) (s : State) :
    (ringQueryIn f s).key = s.key := by
  unfold ringQueryIn
  apply State.inOrder_key; intro x
  (try dsimp only)
  (repeat' split) <;> simp
@[simp] theorem State.keepRows_key (s : State) (seq : Nat) (lane : Nat) (origin : Nat) (a1 : Nat) (a2 : List (F32 × F32 × List F32)) :
    (State.keepRows s seq lane origin a1 a2).key = s.key := by fun_induction State.keepRows s seq lane origin a1 a2 <;> simp_all
@[simp] theorem ringPartialIn_key (f : HFrame) (s : State) :
    (ringPartialIn f s).key = s.key := by simp only [ringPartialIn]; (repeat' split) <;> simp
@[simp] theorem State.dropRing_key (s : State) (seq : Nat) :
    (State.dropRing s seq).key = s.key := by simp [State.dropRing]
@[simp] theorem ringTimeout_key (seq : Nat) (s : State) :
    (ringTimeout seq s).key = s.key := by simp only [ringTimeout]; (repeat' split) <;> simp
@[simp] theorem replyTimeout_key (num : Nat) (s : State) :
    (replyTimeout num s).key = s.key := by unfold replyTimeout; (repeat' split) <;> simp
@[simp] theorem latchOpIn_key (f : HFrame) (s : State) :
    (latchOpIn f s).key = s.key := by simp [latchOpIn]
@[simp] theorem latchReplyIn_key (f : HFrame) (s : State) :
    (latchReplyIn f s).key = s.key := by unfold latchReplyIn; (repeat' split) <;> simp
@[simp] theorem State.confirmTick_key (s : State) :
    (State.confirmTick s).key = s.key := by simp [State.confirmTick]
@[simp] theorem State.ringHold_key (s : State) (a : Nat) (i : Nat) :
    (State.ringHold s a i).key = s.key := by simp [State.ringHold]
@[simp] theorem State.partnerLost_key (s : State) (a : Nat) :
    (State.partnerLost s a).key = s.key := by simp [State.partnerLost]
@[simp] theorem State.releaseRings_key (s : State) :
    (State.releaseRings s).key = s.key := by simp [State.releaseRings]
@[simp] theorem State.deadRounds_key (s : State) :
    (State.deadRounds s).key = s.key := by simp [State.deadRounds]
@[simp] theorem State.dropStandby_key (s : State) (a : Nat) :
    (State.dropStandby s a).key = s.key := by simp [State.dropStandby]
@[simp] theorem State.adoptNamed_key (s : State) (a : Nat) (phys : Nat) (beat : Nat) :
    (State.adoptNamed s a phys beat).key = s.key := by simp [State.adoptNamed]
@[simp] theorem lossDecision_key (m : Nat) (s : State) :
    (lossDecision m s).key = s.key := by simp only [lossDecision]; (repeat' split) <;> simp
@[simp] theorem State.spareAdopt_key (s : State) (a : Nat) :
    (State.spareAdopt s a).key = s.key := by simp [State.spareAdopt]
@[simp] theorem State.takeRec_key (s : State) (a : Nat) (x : StandbyRec) :
    (State.takeRec s a x).key = s.key := by simp [State.takeRec]
@[simp] theorem standbyIn_key (f : HFrame) (s : State) :
    (standbyIn f s).key = s.key := by unfold standbyIn; (repeat' split) <;> simp
@[simp] theorem State.slotFrom_key (s : State) (a1 : StandbyRec) :
    (State.slotFrom s a1).key = s.key := by unfold State.slotFrom; (repeat' split) <;> simp
@[simp] theorem State.recInstall_key (s : State) (a1 : StandbyRec) :
    (State.recInstall s a1).key = s.key := by
  unfold State.recInstall
  split
  · simp
  · dsimp only
    rw [State.note_key]
    refine (key_foldl _ (fun x a => ?_) _ _).trans (by simp)
    cases h : x.fillKw _ a.1 a.2 with
    | none => rfl
    | some t => exact State.fillKw_key _ _ _ _ _ h
  · rfl
@[simp] theorem State.identAll_key (s : State) :
    (State.identAll s).key = s.key := by simp [State.identAll]
@[simp] theorem State.adoptBoundary_key (s : State) :
    (State.adoptBoundary s).key = s.key := by unfold State.adoptBoundary; (repeat' split) <;> simp
@[simp] theorem State.openSlots_key (s : State) :
    (State.openSlots s).key = s.key := by simp [State.openSlots]
@[simp] theorem State.replayEnd_key (s : State) (x : Replay) (n : Nat) :
    (State.replayEnd s x n).key = s.key := by simp [State.replayEnd]
@[simp] theorem State.replayOne_key (s : State) (x : Replay) :
    (State.replayOne s x).1.key = s.key := by
  have hg : ∀ (u : State) (_ : u.key = s.key) i r v map d toks, (match (u.putReq i r).admitToks i v map d toks with
      | (s', true) => ((s'.inc .REPLAYS_DONE).note x.kw (.request i x.kw x.desc x.prompt x.version x.deadline), true)
      | (_, false) => (u, false)).1.key = s.key := by
    intro u hu i r v map d toks
    split
    · rw [State.note_key, State.inc_key]; exact ((State.admitToks_key' ‹_›).trans (State.putReq_key _ _ _)).trans hu
    · exact hu
  have he : ∀ (b : Prop) [Decidable b] (y : State) (i : Nat) (r : ReqS), (if b then y else y.putReq i r).key = y.key := by
    intro b _ y i r; split <;> simp
  have hd : (s.dmaRead x.kw (leAt x.desc 24 8) (16 * 2 ^ leAt x.desc 32 1)).1.key = s.key := State.dmaRead_key _ _ _ _
  unfold State.replayOne
  dsimp only
  split
  · rfl
  split
  · exact hd
  split
  · exact (State.replayEnd_key _ _ _).trans hd
  split
  · split
    · rw [he]
      have h := hg _ hd
      rename_i hh
      exact (congrArg (fun z => z.1.key) hh).symm.trans (h _ _ _ _ _ _)
    · exact hg _ hd _ _ _ _ _ _
  · exact hd
theorem State.replayOne_key' {s : State} {x : Replay} {t_ : State} {y_} (h : State.replayOne s x = (t_, y_)) : t_.key = s.key := by
  have k := State.replayOne_key s x; rw [h] at k; exact k
@[simp] theorem State.replayList_key (s : State) (a1 : List Replay) (a2 : Nat) :
    (State.replayList s a1 a2).1.key = s.key := by
  fun_induction State.replayList s a1 a2 with
  | case1 => rfl
  | case2 => rfl
  | case3 s x r n t h ih => exact ih.trans (State.replayOne_key' h)
  | case4 s x r n t h u l hl ih => rw [hl] at ih; exact ih.trans (State.replayOne_key' h)
@[simp] theorem State.replayBoundary_key (s : State) :
    (State.replayBoundary s).key = s.key := by simp [State.replayBoundary]
@[simp] theorem State.prefillAgain_key (s : State) (i : Nat) :
    (State.prefillAgain s i).key = s.key := by simp [State.prefillAgain]
@[simp] theorem State.ringReturn_key (s : State) :
    (State.ringReturn s).key = s.key := by simp [State.ringReturn]
@[simp] theorem State.retireUnit_key (s : State) (v : Nat) :
    (State.retireUnit s v).key = s.key := by simp [State.retireUnit]
@[simp] theorem State.queueWrite_key (s : State) (k : OKey) (v : OVal) :
    (State.queueWrite s k v).key = s.key := by simp [State.queueWrite]
@[simp] theorem State.noteEnable_key (s : State) (k : OKey) (v : OVal) :
    (State.noteEnable s k v).1.key = s.key := by unfold State.noteEnable; (repeat' split) <;> simp
@[simp] theorem State.applyEffect_key (s : State) (k : OKey) (v : OVal) :
    (State.applyEffect s k v).key = s.key := by unfold State.applyEffect; (repeat' split) <;> simp
@[simp] theorem State.applyWrite_key (s : State) (x : OKey × OVal) :
    (State.applyWrite s x).key = s.key := by simp [State.applyWrite]
@[simp] theorem State.applyWaiting_key (s : State) :
    (State.applyWaiting s).key = s.key := by simp [State.applyWaiting]
@[simp] theorem State.applyNumber_key (s : State) :
    (State.applyNumber s).key = s.key := by unfold State.applyNumber; (repeat' split) <;> simp
@[simp] theorem State.dropCaptures_key (s : State) :
    (State.dropCaptures s).key = s.key := by simp [State.dropCaptures]
@[simp] theorem State.endBeat_key (s : State) : (State.endBeat s).key = s.key := by
  unfold State.endBeat; simp
@[simp] theorem State.notchZero_key (s : State) :
    (State.notchZero s).key = s.key := by simp [State.notchZero]
@[simp] theorem State.remapDue_key (s : State) (e : Nat) :
    (State.remapDue s e).key = s.key := by simp [State.remapDue]
@[simp] theorem State.itemOne_key (s : State) (ran : Bool) :
    (State.itemOne s ran).key = s.key := by simp [State.itemOne]
@[simp] theorem State.itemThree_key (s : State) (frees : Option Nat) :
    (State.itemThree s frees).key = s.key := by simp [State.itemThree]
@[simp] theorem State.itemFour_key (s : State) (admits : Option Nat) :
    (State.itemFour s admits).key = s.key := by simp [State.itemFour]
@[simp] theorem State.itemFive_key (s : State) (costs : List StepCost) (quiet : Nat) (work : Nat) :
    (State.itemFive s costs quiet work).key = s.key := by simp [State.itemFive]
@[simp] theorem State.putSession_key (s : State) (n : Nat) (x : Session) :
    (State.putSession s n x).key = s.key := by simp [State.putSession]
@[simp] theorem State.openSession_key (s : State) (q : GReq) :
    (State.openSession s q).1.key = s.key := by simp only [State.openSession]; (repeat' split) <;> simp
@[simp] theorem State.proofFailed_key (s : State) (q : GReq) :
    (State.proofFailed s q).key = s.key := by simp [State.proofFailed]
@[simp] theorem State.proveSession_key (s : State) (q : GReq) (x : Session) :
    (State.proveSession s q x).1.key = s.key := by unfold State.proveSession; (repeat' split) <;> simp
@[simp] theorem State.doRead_key (s : State) (q : GReq) (c : Ctx) :
    (State.doRead s q c).1.key = s.key := by unfold State.doRead; (repeat' split) <;> simp
@[simp] theorem State.doReadBlock_key (s : State) (q : GReq) (c : Ctx) :
    (State.doReadBlock s q c).1.key = s.key := by unfold State.doReadBlock; (repeat' split) <;> simp
@[simp] theorem State.doDescribe_key (s : State) (q : GReq) (c : Ctx) :
    (State.doDescribe s q c).1.key = s.key := by unfold State.doDescribe; (repeat' split) <;> simp
@[simp] theorem State.doStore_key (s : State) (q : GReq) (c : Ctx) :
    (State.doStore s q c).1.key = s.key := by
  unfold State.doStore; apply key_foldl; intro x a; simp
@[simp] theorem State.logResponse_key (s : State) (q : GReq) (a : Answer) :
    (State.logResponse s q a).key = s.key := by simp [State.logResponse]
@[simp] theorem State.keepReply_key (s : State) (q : GReq) (f : Bytes) :
    (State.keepReply s q f).key = s.key := by unfold State.keepReply; (repeat' split) <;> simp
@[simp] theorem State.putBox_key (s : State) (fn : Nat) (x : Mailbox) :
    (State.putBox s fn x).key = s.key := by simp [State.putBox]
@[simp] theorem State.badFrame_key (s : State) (p : GdpPath) (cause : Nat) :
    (State.badFrame s p cause).key = s.key := by unfold State.badFrame; (repeat' split) <;> simp
@[simp] theorem mbxStatusRead_key (fn : Nat) (s : State) :
    (mbxStatusRead fn s).key = s.key := by simp [mbxStatusRead]
@[simp] theorem sessionIdle_key (sid : Nat) (s : State) :
    (sessionIdle sid s).key = s.key := by simp [sessionIdle]
@[simp] theorem halfOpen_key (sid : Nat) (s : State) :
    (halfOpen sid s).key = s.key := by simp [halfOpen]
@[simp] theorem muteEnd_key (p : GdpPath) (s : State) :
    (muteEnd p s).key = s.key := by simp [muteEnd]
@[simp] theorem blockTimeout_key (sid : Nat) (s : State) :
    (blockTimeout sid s).key = s.key := by simp [blockTimeout]
end Sys2Proof.Machine
end

