-- ==== Sys2Proof/Laws/LifeCycle.lean ====
section
/-! SUPPORT. Laws/LifeCycle.lean: the operations that may move the life-cycle registers other than LC_STATE itself: each leaves the queue, the
clock, the build and LC_STATE as they were and keeps `State.lcOk`. -/
namespace Sys2Proof.Machine
open Sys2Proof
/-- The tuple of `State.key`. -/
abbrev Key := List Instr × Nat × Part × Nat × Option Nat × Option Nat
/-- The part of a key that no operation but the end of a transition's erasures changes. -/
def keyA (k : Key) : List Instr × Nat × Part × Nat := (k.1, k.2.1, k.2.2.1, k.2.2.2.1)
/-- `State.lcOk` read off a key. -/
def lcGood (k : Key) : Bool := decide (k.2.2.2.1 ≤ 5) && k.2.2.2.2.1.all (lcStep k.2.2.2.1) && k.2.2.2.2.2.all (lcStep k.2.2.2.1)
theorem lcOk_iff (s : State) : s.lcOk = lcGood s.key := rfl
@[simp] theorem keyA_ite (c : Prop) [Decidable c] (a b : Key) : keyA (if c then a else b) = if c then keyA a else keyA b := by split <;> rfl
@[simp] theorem lcGood_ite (c : Prop) [Decidable c] (a b : Key) : lcGood (if c then a else b) = if c then lcGood a else lcGood b := by split <;> rfl
@[simp] theorem keyA_mk (a b c d e f) : keyA (a, b, c, d, e, f) = (a, b, c, d) := id rfl
@[simp] theorem keyA_eta (s : State) : (s.pending, s.now, s.part, s.ward.lc) = keyA s.key := id rfl
@[simp] theorem keyA_foldl {α : Type} (f : State → α → State) (h : ∀ x a, keyA (f x a).key = keyA x.key) (l : List α) (s : State) : keyA (l.foldl f s).key = keyA s.key := by
  induction l generalizing s with
  | nil => rfl
  | cons a r ih => simp [ih, h]
@[simp] theorem lcGood_foldl {α : Type} (f : State → α → State) (h : ∀ x a, lcGood x.key = true → lcGood (f x a).key = true) (l : List α) (s : State) (hs : lcGood s.key = true) : lcGood (l.foldl f s).key = true := by
  induction l generalizing s with
  | nil => exact hs
  | cons a r ih => exact ih _ (h _ _ hs)
@[simp] theorem State.lcRequest_keyA (s : State) (keyed : Bool) (b : Bytes) :
    keyA (State.lcRequest s keyed b).1.key = keyA s.key := by
  unfold State.lcRequest; (try dsimp only)
  (repeat' split) <;> (first | with_reducible rfl | (simp; done) | (simp; (repeat' split) <;> simp))
@[simp] theorem State.lcRequest_lc (s : State) (keyed : Bool) (b : Bytes) (hg : lcGood s.key = true) :
    lcGood (State.lcRequest s keyed b).1.key = true := by
  unfold State.lcRequest; dsimp only
  split
  · rename_i ha
    rw [State.newNonce_key, key_mk]
    simp only [State.key, lcGood, Bool.and_eq_true, decide_eq_true_eq, Option.all_some] at hg ⊢
    have h5 : s.ward.lc ≤ 5 := of_decide_eq_true hg.1.1
    refine ⟨⟨h5, ?_⟩, hg.2⟩
    simp only [State.lcAllowed] at ha
    split at ha <;> simp_all [lcStep] <;> omega
  · simp [State.lcRefuse, hg]
@[simp] theorem State.mgmtInstall_keyA (s : State) (claim : Bool) (b : Bytes) :
    keyA (State.mgmtInstall s claim b).1.key = keyA s.key := by
  unfold State.mgmtInstall; (try dsimp only)
  (repeat' split) <;> (first | with_reducible rfl | (simp; done) | (simp; (repeat' split) <;> simp))
@[simp] theorem State.mgmtInstall_lc (s : State) (claim : Bool) (b : Bytes) (hc : claim = true → s.ward.lc = 2) (hg : lcGood s.key = true) :
    lcGood (State.mgmtInstall s claim b).1.key = true := by
  unfold State.mgmtInstall; dsimp only
  split
  · simp [hg]
  · simp only [State.raise_key, key_mk]
    split
    · have h2 := hc ‹_›
      simp only [State.key, lcGood, Bool.and_eq_true] at hg ⊢
      exact ⟨⟨hg.1.1, by simp [lcStep, h2]⟩, hg.2⟩
    · exact hg
@[simp] theorem State.acceptNow_keyA (s : State) (c : Ctx) (k : OKey) (v : OVal) (buf : Option Bytes) :
    keyA (State.acceptNow s c k v buf).1.key = keyA s.key := by
  unfold State.acceptNow; (try dsimp only)
  (repeat' split) <;> (first | with_reducible rfl | (simp; done) | (simp; (repeat' split) <;> simp))
@[simp] theorem State.acceptNow_lc (s : State) (c : Ctx) (k : OKey) (v : OVal) (buf : Option Bytes) (hg : lcGood s.key = true) :
    lcGood (State.acceptNow s c k v buf).1.key = true := by
  unfold State.acceptNow; dsimp only
  split
  all_goals first
    | (simp [hg]; done)
    | (split <;> simp [hg]; done)
    | (split <;> first | (apply State.mgmtInstall_lc _ _ _ _ hg; simp) | exact hg)
@[simp] theorem State.acceptAs_keyA (s : State) (c : Ctx) (k0 : OKey) (r : OVal × List Clamp) (buf : Option Bytes) :
    keyA (State.acceptAs s c k0 r buf).1.key = keyA s.key := by
  unfold State.acceptAs; (try dsimp only)
  (repeat' split) <;> (first | with_reducible rfl | (simp; done) | (simp; (repeat' split) <;> simp))
@[simp] theorem State.acceptAs_lc (s : State) (c : Ctx) (k0 : OKey) (r : OVal × List Clamp) (buf : Option Bytes) (hg : lcGood s.key = true) :
    lcGood (State.acceptAs s c k0 r buf).1.key = true := by
  unfold State.acceptAs; (try dsimp only)
  (repeat' split) <;> (first | exact hg | (simp [hg]; done) | (simp [hg]; (repeat' split) <;> simp [hg]))
@[simp] theorem State.accept_keyA (s : State) (c : Ctx) (k : OKey) (v : OVal) (buf : Option Bytes) :
    keyA (State.accept s c k v buf).1.key = keyA s.key := by
  unfold State.accept; (try dsimp only)
  (repeat' split) <;> (first | with_reducible rfl | (simp; done) | (simp; (repeat' split) <;> simp))
@[simp] theorem State.accept_lc (s : State) (c : Ctx) (k : OKey) (v : OVal) (buf : Option Bytes) (hg : lcGood s.key = true) :
    lcGood (State.accept s c k v buf).1.key = true := by
  unfold State.accept; (try dsimp only)
  (repeat' split) <;> (first | exact hg | (simp [hg]; done) | (simp [hg]; (repeat' split) <;> simp [hg]))
@[simp] theorem State.doWrite_keyA (s : State) (q : GReq) (c : Ctx) :
    keyA (State.doWrite s q c).1.key = keyA s.key := by
  unfold State.doWrite; (try dsimp only)
  (repeat' split) <;> (first | with_reducible rfl | (simp; done) | (simp; (repeat' split) <;> simp))
@[simp] theorem State.doWrite_lc (s : State) (q : GReq) (c : Ctx) (hg : lcGood s.key = true) :
    lcGood (State.doWrite s q c).1.key = true := by
  unfold State.doWrite; (try dsimp only)
  (repeat' split) <;> (first | exact hg | (simp [hg]; done) | (simp [hg]; (repeat' split) <;> simp [hg]))
@[simp] theorem State.doWriteBlock_keyA (s : State) (q : GReq) (c : Ctx) :
    keyA (State.doWriteBlock s q c).1.key = keyA s.key := by
  unfold State.doWriteBlock; (try dsimp only)
  (repeat' split) <;> (first | with_reducible rfl | (simp; done) | (simp; (repeat' split) <;> simp))
@[simp] theorem State.doWriteBlock_lc (s : State) (q : GReq) (c : Ctx) (hg : lcGood s.key = true) :
    lcGood (State.doWriteBlock s q c).1.key = true := by
  unfold State.doWriteBlock; (try dsimp only)
  (repeat' split) <;> (first | exact hg | (simp [hg]; done) | (simp [hg]; (repeat' split) <;> simp [hg]))
@[simp] theorem State.restoreOne_keyA (s : State) (c : Ctx) (k : OKey) :
    keyA (State.restoreOne s c k).1.key = keyA s.key := by
  unfold State.restoreOne; (try dsimp only)
  (repeat' split) <;> (first | with_reducible rfl | (simp; done) | (simp; (repeat' split) <;> simp))
@[simp] theorem State.restoreOne_lc (s : State) (c : Ctx) (k : OKey) (hg : lcGood s.key = true) :
    lcGood (State.restoreOne s c k).1.key = true := by
  unfold State.restoreOne; (try dsimp only)
  (repeat' split) <;> (first | exact hg | (simp [hg]; done) | (simp [hg]; (repeat' split) <;> simp [hg]))
@[simp] theorem State.doRestore_keyA (s : State) (q : GReq) (c : Ctx) :
    keyA (State.doRestore s q c).1.key = keyA s.key := by
  unfold State.doRestore
  split
  · simp
  · exact keyA_foldl _ (fun x a => by simp) _ _
@[simp] theorem State.doRestore_lc (s : State) (q : GReq) (c : Ctx) (hg : lcGood s.key = true) :
    lcGood (State.doRestore s q c).1.key = true := by
  unfold State.doRestore
  split
  · simp [hg]
  · exact lcGood_foldl _ (fun x a hx => by simp [hx]) _ _ hg
@[simp] theorem State.operate_keyA (s : State) (q : GReq) (c : Ctx) :
    keyA (State.operate s q c).1.key = keyA s.key := by
  unfold State.operate; (try dsimp only)
  (repeat' split) <;> (first | with_reducible rfl | (simp; done) | (simp; (repeat' split) <;> simp))
@[simp] theorem State.operate_lc (s : State) (q : GReq) (c : Ctx) (hg : lcGood s.key = true) :
    lcGood (State.operate s q c).1.key = true := by
  unfold State.operate; (try dsimp only)
  (repeat' split) <;> (first | exact hg | (simp [hg]; done) | (simp [hg]; (repeat' split) <;> simp [hg]))
@[simp] theorem State.inSession_keyA (s : State) (q : GReq) (x : Session) :
    keyA (State.inSession s q x).1.key = keyA s.key := by
  unfold State.inSession; (try dsimp only)
  (repeat' split) <;> (first | with_reducible rfl | (simp; done) | (simp; (repeat' split) <;> simp))
@[simp] theorem State.inSession_lc (s : State) (q : GReq) (x : Session) (hg : lcGood s.key = true) :
    lcGood (State.inSession s q x).1.key = true := by
  unfold State.inSession; (try dsimp only)
  (repeat' split) <;> (first | exact hg | (simp [hg]; done) | (simp [hg]; (repeat' split) <;> simp [hg]))
@[simp] theorem State.afterLoss_keyA (s : State) (warm : Bool) (cause : Nat) :
    keyA (State.afterLoss s warm cause).key = keyA s.key := by
  unfold State.afterLoss; (try dsimp only)
  (repeat' split) <;> (first | with_reducible rfl | (simp; done) | (simp; (repeat' split) <;> simp))
@[simp] theorem State.afterLoss_lc (s : State) (warm : Bool) (cause : Nat) (hg : lcGood s.key = true) :
    lcGood (State.afterLoss s warm cause).key = true := by
  unfold State.afterLoss; dsimp only
  rw [key_mk]
  simp only [State.key, lcGood, Bool.and_eq_true] at hg ⊢
  exact ⟨⟨hg.1.1, rfl⟩, rfl⟩
@[simp] theorem porFall_keyA (s : State) :
    keyA (porFall s).key = keyA s.key := by
  unfold porFall; (try dsimp only)
  (repeat' split) <;> (first | with_reducible rfl | (simp; done) | (simp; (repeat' split) <;> simp))
@[simp] theorem porFall_lc (s : State) (hg : lcGood s.key = true) :
    lcGood (porFall s).key = true := by
  unfold porFall; (try dsimp only)
  (repeat' split) <;> (first | exact hg | (simp [hg]; done) | (simp [hg]; (repeat' split) <;> simp [hg]))
@[simp] theorem State.warmRestart_keyA (s : State) (cause : Nat) :
    keyA (State.warmRestart s cause).key = keyA s.key := by
  unfold State.warmRestart; (try dsimp only)
  (repeat' split) <;> (first | with_reducible rfl | (simp; done) | (simp; (repeat' split) <;> simp))
@[simp] theorem State.warmRestart_lc (s : State) (cause : Nat) (hg : lcGood s.key = true) :
    lcGood (State.warmRestart s cause).key = true := by
  unfold State.warmRestart; (try dsimp only)
  (repeat' split) <;> (first | exact hg | (simp [hg]; done) | (simp [hg]; (repeat' split) <;> simp [hg]))
@[simp] theorem State.downEnd_keyA (s : State) :
    keyA (State.downEnd s).key = keyA s.key := by
  unfold State.downEnd; (try dsimp only)
  (repeat' split) <;> (first | with_reducible rfl | (simp; done) | (simp; (repeat' split) <;> simp))
@[simp] theorem State.downEnd_lc (s : State) (hg : lcGood s.key = true) :
    lcGood (State.downEnd s).key = true := by
  unfold State.downEnd; (try dsimp only)
  (repeat' split) <;> (first | exact hg | (simp [hg]; done) | (simp [hg]; (repeat' split) <;> simp [hg]))
@[simp] theorem State.downOn_keyA (s : State) (steps : List Nat) :
    keyA (State.downOn s steps).key = keyA s.key := by
  unfold State.downOn; (try dsimp only)
  (repeat' split) <;> (first | with_reducible rfl | (simp; done) | (simp; (repeat' split) <;> simp))
@[simp] theorem State.downOn_lc (s : State) (steps : List Nat) (hg : lcGood s.key = true) :
    lcGood (State.downOn s steps).key = true := by
  unfold State.downOn; (try dsimp only)
  (repeat' split) <;> (first | exact hg | (simp [hg]; done) | (simp [hg]; (repeat' split) <;> simp [hg]))
@[simp] theorem State.powerDown_keyA (s : State) (steps : List Nat) (stopping : Nat) :
    keyA (State.powerDown s steps stopping).key = keyA s.key := by
  unfold State.powerDown; (try dsimp only)
  (repeat' split) <;> (first | with_reducible rfl | (simp; done) | (simp; (repeat' split) <;> simp))
@[simp] theorem State.powerDown_lc (s : State) (steps : List Nat) (stopping : Nat) (hg : lcGood s.key = true) :
    lcGood (State.powerDown s steps stopping).key = true := by
  unfold State.powerDown; (try dsimp only)
  (repeat' split) <;> (first | exact hg | (simp [hg]; done) | (simp [hg]; (repeat' split) <;> simp [hg]))
@[simp] theorem State.enterLimited_keyA (s : State) (bit : Nat) :
    keyA (State.enterLimited s bit).key = keyA s.key := by
  unfold State.enterLimited; (try dsimp only)
  (repeat' split) <;> (first | with_reducible rfl | (simp; done) | (simp; (repeat' split) <;> simp))
@[simp] theorem State.enterLimited_lc (s : State) (bit : Nat) (hg : lcGood s.key = true) :
    lcGood (State.enterLimited s bit).key = true := by
  unfold State.enterLimited; (try dsimp only)
  (repeat' split) <;> (first | exact hg | (simp [hg]; done) | (simp [hg]; (repeat' split) <;> simp [hg]))
@[simp] theorem State.railLoss_keyA (s : State) (k : Nat) :
    keyA (State.railLoss s k).key = keyA s.key := by
  unfold State.railLoss; (try dsimp only)
  (repeat' split) <;> (first | with_reducible rfl | (simp; done) | (simp; (repeat' split) <;> simp))
@[simp] theorem State.railLoss_lc (s : State) (k : Nat) (hg : lcGood s.key = true) :
    lcGood (State.railLoss s k).key = true := by
  unfold State.railLoss; (try dsimp only)
  (repeat' split) <;> (first | exact hg | (simp [hg]; done) | (simp [hg]; (repeat' split) <;> simp [hg]))
@[simp] theorem State.railFault_keyA (s : State) (k : Nat) (kind : Nat) :
    keyA (State.railFault s k kind).key = keyA s.key := by
  unfold State.railFault; (try dsimp only)
  (repeat' split) <;> (first | with_reducible rfl | (simp; done) | (simp; (repeat' split) <;> simp))
@[simp] theorem State.railFault_lc (s : State) (k : Nat) (kind : Nat) (hg : lcGood s.key = true) :
    lcGood (State.railFault s k kind).key = true := by
  unfold State.railFault; (try dsimp only)
  (repeat' split) <;> (first | exact hg | (simp [hg]; done) | (simp [hg]; (repeat' split) <;> simp [hg]))
@[simp] theorem startTimeout_keyA (k : Nat) (s : State) :
    keyA (startTimeout k s).key = keyA s.key := by
  unfold startTimeout; (try dsimp only)
  (repeat' split) <;> (first | with_reducible rfl | (simp; done) | (simp; (repeat' split) <;> simp))
@[simp] theorem startTimeout_lc (k : Nat) (s : State) (hg : lcGood s.key = true) :
    lcGood (startTimeout k s).key = true := by
  unfold startTimeout; (try dsimp only)
  (repeat' split) <;> (first | exact hg | (simp [hg]; done) | (simp [hg]; (repeat' split) <;> simp [hg]))
@[simp] theorem State.request_keyA (s : State) (q : GReq) :
    keyA (State.request s q).1.key = keyA s.key := by
  unfold State.request; (try dsimp only)
  (repeat' split) <;> (first | with_reducible rfl | (simp; done) | (simp; (repeat' split) <;> simp))
@[simp] theorem State.request_lc (s : State) (q : GReq) (hg : lcGood s.key = true) :
    lcGood (State.request s q).1.key = true := by
  unfold State.request; (try dsimp only)
  (repeat' split) <;> (first | exact hg | (simp [hg]; done) | (simp [hg]; (repeat' split) <;> simp [hg]))
@[simp] theorem State.serveRemote_keyA (s : State) (p : GdpPath) (cause : Nat) (q : GReq) :
    keyA (State.serveRemote s p cause q).key = keyA s.key := by
  unfold State.serveRemote; (try dsimp only)
  (repeat' split) <;> (first | with_reducible rfl | (simp; done) | (simp; (repeat' split) <;> simp))
@[simp] theorem State.serveRemote_lc (s : State) (p : GdpPath) (cause : Nat) (q : GReq) (hg : lcGood s.key = true) :
    lcGood (State.serveRemote s p cause q).key = true := by
  unfold State.serveRemote; (try dsimp only)
  (repeat' split) <;> (first | exact hg | (simp [hg]; done) | (simp [hg]; (repeat' split) <;> simp [hg]))
@[simp] theorem State.answerBox_keyA (s : State) (fn : Nat) (b : Bytes) (cause : Nat) (q : GReq) :
    keyA (State.answerBox s fn b cause q).key = keyA s.key := by
  unfold State.answerBox; (try dsimp only)
  (repeat' split) <;> (first | with_reducible rfl | (simp; done) | (simp; (repeat' split) <;> simp))
@[simp] theorem State.answerBox_lc (s : State) (fn : Nat) (b : Bytes) (cause : Nat) (q : GReq) (hg : lcGood s.key = true) :
    lcGood (State.answerBox s fn b cause q).key = true := by
  unfold State.answerBox; (try dsimp only)
  (repeat' split) <;> (first | exact hg | (simp [hg]; done) | (simp [hg]; (repeat' split) <;> simp [hg]))
@[simp] theorem State.serveBox_keyA (s : State) (fn : Nat) (irq : Option Nat) (b : Bytes) (cause : Nat) (q : GReq) :
    keyA (State.serveBox s fn irq b cause q).key = keyA s.key := by
  unfold State.serveBox
  cases irq <;> dsimp only <;> (repeat' split) <;> simp
@[simp] theorem State.serveBox_lc (s : State) (fn : Nat) (irq : Option Nat) (b : Bytes) (cause : Nat) (q : GReq) (hg : lcGood s.key = true) :
    lcGood (State.serveBox s fn irq b cause q).key = true := by
  unfold State.serveBox
  cases irq <;> dsimp only <;> (repeat' split) <;> simp [hg]
@[simp] theorem State.serveHeld_keyA (s : State) (fn : Nat) :
    keyA (State.serveHeld s fn).key = keyA s.key := by
  unfold State.serveHeld; (try dsimp only)
  split
  · rfl
  · exact State.answerBox_keyA _ _ _ _ _
@[simp] theorem State.serveHeld_lc (s : State) (fn : Nat) (hg : lcGood s.key = true) :
    lcGood (State.serveHeld s fn).key = true := by
  unfold State.serveHeld; (try dsimp only)
  split
  · exact hg
  · exact State.answerBox_lc _ _ _ _ _ hg
@[simp] theorem writeIn_keyA (o : Obj) (inst : Nat) (p : GdpPath) (h : ReqHead) (payload : Bytes) (buf : Option Bytes) (s : State) :
    keyA (writeIn o inst p h payload buf s).key = keyA s.key := by
  unfold writeIn; dsimp only
  split
  · exact State.serveBox_keyA _ _ _ _ _ _
  · exact State.serveRemote_keyA _ _ _ _
@[simp] theorem writeIn_lc (o : Obj) (inst : Nat) (p : GdpPath) (h : ReqHead) (payload : Bytes) (buf : Option Bytes) (s : State) (hg : lcGood s.key = true) :
    lcGood (writeIn o inst p h payload buf s).key = true := by
  unfold writeIn; dsimp only
  split
  · exact State.serveBox_lc _ _ _ _ _ _ hg
  · exact State.serveRemote_lc _ _ _ _ hg
@[simp] theorem State.devPower_keyA (s : State) :
    keyA (State.devPower s).key = keyA s.key := by
  unfold State.devPower; dsimp only
  split
  · rfl
  · rw [State.powerDown_keyA, State.saveAll_key]; split <;> simp
@[simp] theorem State.devPower_lc (s : State) (hg : lcGood s.key = true) :
    lcGood (State.devPower s).key = true := by
  unfold State.devPower; dsimp only
  split
  · exact hg
  · apply State.powerDown_lc; rw [State.saveAll_key]; split <;> simp [hg]
@[simp] theorem gdpIn_keyA (op : Nat) (p : GdpPath) (frame : Bytes) (s : State) :
    keyA (gdpIn op p frame s).key = keyA s.key := by
  unfold gdpIn; (try dsimp only)
  (repeat' split) <;> (first | with_reducible rfl | (simp; done) | (simp; (repeat' split) <;> simp))
@[simp] theorem gdpIn_lc (op : Nat) (p : GdpPath) (frame : Bytes) (s : State) (hg : lcGood s.key = true) :
    lcGood (gdpIn op p frame s).key = true := by
  unfold gdpIn; (try dsimp only)
  (repeat' split) <;> (first | exact hg | (simp [hg]; done) | (simp [hg]; (repeat' split) <;> simp [hg]))
@[simp] theorem railFaultOn_keyA (k : Nat) (kind : Nat) (s : State) :
    keyA (railFaultOn k kind s).key = keyA s.key := by
  unfold railFaultOn; (try dsimp only)
  (repeat' split) <;> (first | with_reducible rfl | (simp; done) | (simp; (repeat' split) <;> simp))
@[simp] theorem railFaultOn_lc (k : Nat) (kind : Nat) (s : State) (hg : lcGood s.key = true) :
    lcGood (railFaultOn k kind s).key = true := by
  unfold railFaultOn; (try dsimp only)
  (repeat' split) <;> (first | exact hg | (simp [hg]; done) | (simp [hg]; (repeat' split) <;> simp [hg]))
@[simp] theorem firmwareStart_keyA (s : State) :
    keyA (firmwareStart s).key = keyA s.key := by
  unfold firmwareStart; dsimp only
  rw [key_ite, key_ite, State.firmwareRuns_key]
  split
  · rfl
  · rw [keyA_ite, State.enterLimited_keyA]
    simp only [State.measureImage_key, State.fallbacks_key, State.setBoot_key, ite_self]
@[simp] theorem firmwareStart_lc (s : State) (hg : lcGood s.key = true) :
    lcGood (firmwareStart s).key = true := by
  unfold firmwareStart; dsimp only
  rw [key_ite, key_ite, State.firmwareRuns_key]
  split
  · exact hg
  · rw [lcGood_ite, State.enterLimited_lc]
    all_goals simp only [State.measureImage_key, State.fallbacks_key, State.setBoot_key, ite_self, hg]
@[simp] theorem State.wdtStopNow_keyA (s : State) :
    keyA (State.wdtStopNow s).key = keyA s.key := by
  unfold State.wdtStopNow; (try dsimp only)
  (repeat' split) <;> (first | with_reducible rfl | (simp; done) | (simp; (repeat' split) <;> simp))
@[simp] theorem State.wdtStopNow_lc (s : State) (hg : lcGood s.key = true) :
    lcGood (State.wdtStopNow s).key = true := by
  unfold State.wdtStopNow; (try dsimp only)
  (repeat' split) <;> (first | exact hg | (simp [hg]; done) | (simp [hg]; (repeat' split) <;> simp [hg]))
@[simp] theorem wdtExpiry_keyA (s : State) :
    keyA (wdtExpiry s).key = keyA s.key := by
  unfold wdtExpiry; (try dsimp only)
  (repeat' split) <;> (first | with_reducible rfl | (simp; done) | (simp; (repeat' split) <;> simp))
@[simp] theorem wdtExpiry_lc (s : State) (hg : lcGood s.key = true) :
    lcGood (wdtExpiry s).key = true := by
  unfold wdtExpiry; (try dsimp only)
  (repeat' split) <;> (first | exact hg | (simp [hg]; done) | (simp [hg]; (repeat' split) <;> simp [hg]))
@[simp] theorem State.selfTest_keyA (s : State) (trips : List Nat) :
    keyA (State.selfTest s trips).key = keyA s.key := by
  unfold State.selfTest; (try dsimp only)
  (repeat' split) <;> (first | with_reducible rfl | (simp; done) | (simp; (repeat' split) <;> simp))
@[simp] theorem State.selfTest_lc (s : State) (trips : List Nat) (hg : lcGood s.key = true) :
    lcGood (State.selfTest s trips).key = true := by
  unfold State.selfTest; (try dsimp only)
  (repeat' split) <;> (first | exact hg | (simp [hg]; done) | (simp [hg]; (repeat' split) <;> simp [hg]))
@[simp] theorem railStep_keyA (trips : List Nat) (fails : List BistFail) (ms : Nat) (s : State) :
    keyA (railStep trips fails ms s).key = keyA s.key := by
  unfold railStep; (try dsimp only)
  (repeat' split) <;> (first | with_reducible rfl | (simp; done) | (simp; (repeat' split) <;> simp))
@[simp] theorem railStep_lc (trips : List Nat) (fails : List BistFail) (ms : Nat) (s : State) (hg : lcGood s.key = true) :
    lcGood (railStep trips fails ms s).key = true := by
  unfold railStep; (try dsimp only)
  (repeat' split) <;> (first | exact hg | (simp [hg]; done) | (simp [hg]; (repeat' split) <;> simp [hg]))
@[simp] theorem State.lcBoundary_keyA (s : State) :
    keyA (State.lcBoundary s).key = keyA s.key := by
  unfold State.lcBoundary
  split
  · dsimp only
    split
    · rw [State.closeSessions_key, key_mk]; rfl
    · split
      · rw [State.eraseAll_key, key_mk]; rfl
      · rw [key_mk]; rfl
  · split
    · rw [State.closeSessions_key, key_mk]; rfl
    · rfl
@[simp] theorem State.lcBoundary_lc (s : State) (hg : lcGood s.key = true) :
    lcGood (State.lcBoundary s).key = true := by
  unfold State.lcBoundary
  simp only [State.key, lcGood, Bool.and_eq_true] at hg
  split
  · rename_i n hn
    have e := hg.1.2
    rw [hn] at e
    dsimp only
    split
    · rw [State.closeSessions_key, key_mk]; simp only [lcGood, Bool.and_eq_true]; exact ⟨⟨hg.1.1, rfl⟩, e⟩
    · split
      · rw [State.eraseAll_key, key_mk]; simp only [lcGood, Bool.and_eq_true]; exact ⟨⟨hg.1.1, rfl⟩, e⟩
      · rw [key_mk]; simp only [lcGood, Bool.and_eq_true]; exact ⟨⟨hg.1.1, rfl⟩, e⟩
  · split
    · rw [State.closeSessions_key, key_mk]; simp only [lcGood, Bool.and_eq_true]; exact hg
    · simp only [State.key, lcGood, Bool.and_eq_true]; exact hg
@[simp] theorem State.boundaryEnd_keyA (s : State) :
    keyA (State.boundaryEnd s).key = keyA s.key := by
  unfold State.boundaryEnd
  rw [State.flush_key, State.wdtStopNow_keyA, State.devPower_keyA, State.lcBoundary_keyA]
  simp only [State.sendMarkers_key, State.deadRounds_key, State.handSends_key, State.slotsPost_key]
@[simp] theorem State.boundaryEnd_lc (s : State) (hg : lcGood s.key = true) :
    lcGood (State.boundaryEnd s).key = true := by
  unfold State.boundaryEnd
  rw [State.flush_key]
  apply State.wdtStopNow_lc; apply State.devPower_lc; apply State.lcBoundary_lc
  simp only [State.sendMarkers_key, State.deadRounds_key, State.handSends_key, State.slotsPost_key]; exact hg
@[simp] theorem beatBoundary_keyA (host : List HostCell) (costs : List StepCost) (quiet : Nat) (work : Nat) (frees admits : Option Nat) (s : State) :
    keyA (beatBoundary host costs quiet work frees admits s).key = keyA s.key := by
  unfold beatBoundary
  split
  · rfl
  · dsimp only
    rw [State.boundaryEnd_keyA]
    simp only [State.itemFive_key, State.itemFour_key, State.itemThree_key, State.rootSwaps_key, State.itemOne_key, State.notchZero_key, State.endBeat_key, State.hostWrote_key]
@[simp] theorem beatBoundary_lc (host : List HostCell) (costs : List StepCost) (quiet : Nat) (work : Nat) (frees admits : Option Nat) (s : State) (hg : lcGood s.key = true) :
    lcGood (beatBoundary host costs quiet work frees admits s).key = true := by
  unfold beatBoundary
  split
  · exact hg
  · dsimp only
    apply State.boundaryEnd_lc
    simp only [State.itemFive_key, State.itemFour_key, State.itemThree_key, State.rootSwaps_key, State.itemOne_key, State.notchZero_key, State.endBeat_key, State.hostWrote_key]; exact hg
@[simp] theorem downNext_keyA (s : State) :
    keyA (downNext s).key = keyA s.key := by
  unfold downNext; (try dsimp only)
  (repeat' split) <;> (first | with_reducible rfl | (simp; done) | (simp; (repeat' split) <;> simp))
@[simp] theorem downNext_lc (s : State) (hg : lcGood s.key = true) :
    lcGood (downNext s).key = true := by
  unfold downNext; (try dsimp only)
  (repeat' split) <;> (first | exact hg | (simp [hg]; done) | (simp [hg]; (repeat' split) <;> simp [hg]))
@[simp] theorem seekingApply_keyA (s : State) :
    keyA (seekingApply s).key = keyA s.key := by
  unfold seekingApply
  split
  · rfl
  · dsimp only
    rw [State.flush_key, State.wdtStopNow_keyA, State.devPower_keyA, State.lcBoundary_keyA, State.applyMap_key, State.keysBoundary_key,
      State.gateBoundary_key, key_foldl _ (fun x a => by simp)]
    simp
@[simp] theorem seekingApply_lc (s : State) (hg : lcGood s.key = true) :
    lcGood (seekingApply s).key = true := by
  unfold seekingApply
  split
  · exact hg
  · dsimp only
    rw [State.flush_key]
    apply State.wdtStopNow_lc; apply State.devPower_lc; apply State.lcBoundary_lc
    rw [State.applyMap_key, State.keysBoundary_key, State.gateBoundary_key, key_foldl _ (fun x a => by simp)]
    simpa using hg
@[simp] theorem monitorFault_keyA (k : Nat) (s : State) :
    keyA (monitorFault k s).key = keyA s.key := by
  unfold monitorFault; (try dsimp only)
  (repeat' split) <;> (first | with_reducible rfl | (simp; done) | (simp; (repeat' split) <;> simp))
@[simp] theorem monitorFault_lc (k : Nat) (s : State) (hg : lcGood s.key = true) :
    lcGood (monitorFault k s).key = true := by
  unfold monitorFault; (try dsimp only)
  (repeat' split) <;> (first | exact hg | (simp [hg]; done) | (simp [hg]; (repeat' split) <;> simp [hg]))
@[simp] theorem blockIn_keyA (o : Obj) (inst : Nat) (p : GdpPath) (h : ReqHead) (value : Bytes) (s : State) :
    keyA (blockIn o inst p h value s).key = keyA s.key := by
  unfold blockIn; dsimp only
  split
  · exact State.serveBox_keyA _ _ _ _ _ _
  · exact State.serveRemote_keyA _ _ _ _
@[simp] theorem blockIn_lc (o : Obj) (inst : Nat) (p : GdpPath) (h : ReqHead) (value : Bytes) (s : State) (hg : lcGood s.key = true) :
    lcGood (blockIn o inst p h value s).key = true := by
  unfold blockIn; dsimp only
  split
  · exact State.serveBox_lc _ _ _ _ _ _ hg
  · exact State.serveRemote_lc _ _ _ _ hg
@[simp] theorem standbyLoss_keyA (s : State) :
    keyA (standbyLoss s).key = keyA s.key := by
  unfold standbyLoss; (try dsimp only)
  (repeat' split) <;> (first | with_reducible rfl | (simp; done) | (simp; (repeat' split) <;> simp))
@[simp] theorem standbyLoss_lc (s : State) (hg : lcGood s.key = true) :
    lcGood (standbyLoss s).key = true := by
  unfold standbyLoss; (try dsimp only)
  (repeat' split) <;> (first | exact hg | (simp [hg]; done) | (simp [hg]; (repeat' split) <;> simp [hg]))
end Sys2Proof.Machine
end

