-- ==== Sys2Proof/Laws/Memory.lean ====
section
/-! SUPPORT. Laws/Memory.lean: a memory held as cells: every operation keeps its canonical form, a read after a write gives what was written, and a
write leaves every other byte alone. -/
namespace Sys2Proof.Machine
open Sys2Proof

/-- Every listed address lies above a bound. -/
def memAbove (a : Nat) (m : List Host.Cell) : Prop := ∀ c ∈ m, a < c.1

theorem memWf_cons (a : Nat) (b : Byte) (r : List Host.Cell) : memWf ((a, b) :: r) = true ↔ b ≠ 0 ∧ memAbove a r ∧ memWf r = true := by
  induction r generalizing a b with
  | nil => simp [memWf, memAbove]
  | cons c r ih =>
    obtain ⟨x, v⟩ := c
    have h := ih x v
    constructor
    · intro hw
      simp only [memWf, Bool.and_eq_true, bne_iff_ne, decide_eq_true_eq] at hw
      obtain ⟨⟨h1, h2⟩, h3⟩ := hw
      refine ⟨h1, ?_, h3⟩
      intro d hd
      rcases List.mem_cons.1 hd with rfl | hd
      · exact h2
      · exact Nat.lt_trans h2 ((h.1 h3).2.1 d hd)
    · rintro ⟨h1, h2, h3⟩
      simp only [memWf, Bool.and_eq_true, bne_iff_ne, decide_eq_true_eq]
      exact ⟨⟨h1, h2 (x, v) (List.mem_cons_self ..)⟩, h3⟩

theorem memPut_above (m : List Host.Cell) (a x : Nat) (v : Byte) (h : memAbove a m) (hx : a < x) : memAbove a (memPut m x v) := by
  induction m with
  | nil => unfold memPut; split <;> intro c hc <;> simp at hc; subst hc; exact hx
  | cons c r ih =>
    obtain ⟨y, w⟩ := c
    have hy : a < y := h (y, w) (List.mem_cons_self ..)
    have hr : memAbove a r := fun d hd => h d (List.mem_cons_of_mem _ hd)
    unfold memPut
    split
    · split
      · exact h
      · intro d hd; rcases List.mem_cons.1 hd with rfl | hd
        · exact hx
        · exact h d hd
    · split
      · split
        · exact hr
        · intro d hd; rcases List.mem_cons.1 hd with rfl | hd
          · exact hx
          · exact hr d hd
      · intro d hd; rcases List.mem_cons.1 hd with rfl | hd
        · exact hy
        · exact ih hr d hd

/-- A byte's write keeps the canonical form. -/
theorem memPut_wf (m : List Host.Cell) (x : Nat) (v : Byte) (h : memWf m = true) : memWf (memPut m x v) = true := by
  induction m with
  | nil => unfold memPut; split <;> simp_all [memWf]
  | cons c r ih =>
    obtain ⟨y, w⟩ := c
    obtain ⟨h1, h2, h3⟩ := (memWf_cons y w r).1 h
    unfold memPut
    split
    · rename_i hxy
      split
      · exact h
      · rename_i hv
        refine (memWf_cons _ _ _).2 ⟨by simpa using hv, ?_, h⟩
        intro d hd
        rcases List.mem_cons.1 hd with rfl | hd
        · exact hxy
        · exact Nat.lt_trans hxy (h2 d hd)
    · rename_i hxy
      split
      · rename_i he
        have he : y = x := by simpa using he
        split
        · exact h3
        · rename_i hv
          exact (memWf_cons _ _ _).2 ⟨by simpa using hv, he ▸ h2, h3⟩
      · rename_i he
        have he : y ≠ x := by simpa using he
        exact (memWf_cons _ _ _).2 ⟨h1, memPut_above r y x v h2 (by omega), ih h3⟩

/-- A run of bytes written keeps the canonical form. -/
theorem memWrite_wf (m : List Host.Cell) (a : Nat) (b : Bytes) (h : memWf m = true) : memWf (memWrite m a b) = true := by
  induction b generalizing m a with
  | nil => exact h
  | cons x r ih => exact ih _ _ (memPut_wf m a x h)

/-- The host's writes keep the canonical form. -/
theorem memLoad_wf (m : List Host.Cell) (l : List HostCell) (h : memWf m = true) : memWf (memLoad m l) = true := by
  induction l generalizing m with
  | nil => exact h
  | cons x r ih => exact ih _ (memPut_wf m x.1 x.2 h)

theorem memByte_above (m : List Host.Cell) (x : Nat) (h : memAbove x m) : memByte m x = 0 := by
  cases m with
  | nil => rfl
  | cons c r =>
    obtain ⟨y, w⟩ := c
    have : x < y := h (y, w) (List.mem_cons_self ..)
    unfold memByte
    rw [if_neg (by simp; omega), if_pos this]

/-- A byte reads as it was written, and every other byte as before. -/
theorem memByte_memPut (m : List Host.Cell) (x y : Nat) (v : Byte) (h : memWf m = true) :
    memByte (memPut m x v) y = if y = x then v else memByte m y := by
  induction m with
  | nil =>
    unfold memPut
    split <;> rename_i hv
    · have hv : v = 0 := by simpa using hv
      simp [memByte, hv]
    · by_cases hxy : y = x
      · simp [memByte, hxy]
      · simp [memByte, hxy, Ne.symm hxy]
  | cons c r ih =>
    obtain ⟨z, w⟩ := c
    obtain ⟨h1, h2, h3⟩ := (memWf_cons z w r).1 h
    have ih := ih h3
    have lo : y < z → memByte ((z, w) :: r) y = 0 := fun hy => memByte_above _ _ (fun d hd => by
      rcases List.mem_cons.1 hd with rfl | hd
      · exact hy
      · exact Nat.lt_trans hy (h2 d hd))
    unfold memPut
    split
    · rename_i hxz
      split <;> rename_i hv
      · have hv : v = 0 := by simpa using hv
        by_cases hy : y = x
        · rw [if_pos hy, hv]; exact lo (by omega)
        · rw [if_neg hy]
      · by_cases hy : y = x
        · rw [if_pos hy, hy]; simp [memByte]
        · rw [if_neg hy]
          by_cases hyx : y < x
          · rw [lo (by omega)]; simp [memByte, Ne.symm hy, hyx]
          · rw [memByte, if_neg (by simp; omega), if_neg hyx]
    · rename_i hxz
      split <;> rename_i he
      · have he : z = x := by simpa using he
        split <;> rename_i hv
        · have hv : v = 0 := by simpa using hv
          by_cases hy : y = x
          · rw [if_pos hy, hv, hy, ← he]; exact memByte_above _ _ h2
          · rw [if_neg hy]
            by_cases hyx : y < z
            · rw [lo hyx]; exact memByte_above _ _ (fun d hd => Nat.lt_trans hyx (h2 d hd))
            · rw [memByte, if_neg (by simp; omega), if_neg hyx]
        · by_cases hy : y = x
          · rw [if_pos hy, hy]; simp [memByte]
          · subst he
            have hn : (z == y) = false := beq_eq_false_iff_ne.2 (Ne.symm hy)
            rw [if_neg hy]
            simp only [memByte, hn]
            rfl
      · have he : z ≠ x := by simpa using he
        by_cases hy : y = z
        · rw [if_neg (by omega), hy]; simp [memByte]
        · rw [memByte, if_neg (by simp; omega)]
          by_cases hyz : y < z
          · rw [if_pos hyz, if_neg (by omega), lo hyz]
          · rw [if_neg hyz, ih]
            simp only [memByte]
            rw [if_neg (show ¬((z == y) = true) by simpa using Ne.symm hy), if_neg hyz]

/-- Bytes outside a run that is written read as before. -/
theorem memByte_memWrite_of_lt (m : List Host.Cell) (a y : Nat) (b : Bytes) (h : memWf m = true) (hy : y < a) :
    memByte (memWrite m a b) y = memByte m y := by
  induction b generalizing m a with
  | nil => rfl
  | cons x r ih => rw [memWrite, ih _ _ (memPut_wf m a x h) (by omega), memByte_memPut m a y x h, if_neg (by omega)]

/-- A run of bytes reads as it was written, and every byte outside it as before. -/
theorem memByte_memWrite (m : List Host.Cell) (a y : Nat) (b : Bytes) (h : memWf m = true) :
    memByte (memWrite m a b) y = if a ≤ y ∧ y < a + b.length then b.getD (y - a) 0 else memByte m y := by
  induction b generalizing m a with
  | nil => exact (if_neg (fun h => absurd h.2 (Nat.not_lt.2 h.1))).symm
  | cons x r ih =>
    rw [memWrite]
    by_cases hy : y = a
    · rw [memByte_memWrite_of_lt _ _ _ _ (memPut_wf m a x h) (by omega), memByte_memPut m a y x h, if_pos hy, if_pos (by simp; omega), hy]
      simp
    · rw [ih _ _ (memPut_wf m a x h), memByte_memPut m a y x h, if_neg hy]
      by_cases h1 : a + 1 ≤ y ∧ y < a + 1 + r.length
      · rw [if_pos h1, if_pos (by simp; omega)]
        obtain ⟨k, hk⟩ : ∃ k, y - a = k + 1 := ⟨y - a - 1, by omega⟩
        rw [hk, show y - (a + 1) = k by omega]; simp
      · rw [if_neg h1, if_neg (by simp; omega)]

end Sys2Proof.Machine
end

