-- ==== Sys2Proof/Laws/Phase.lean ====
section
/-! SUPPORT. Laws/Phase.lean: the number, the begin and the phase of the present beat as one tuple, and how a record update, a choice and a fold carry it. -/
namespace Sys2Proof.Machine
open Sys2Proof
/-- The number, the begin and the phase of the present beat. -/
def State.bk (s : State) : Nat × Nat × BeatPhase := (s.beat.number, s.beat.last, s.beat.phase)
@[simp] theorem bk_eta (s : State) : (s.beat.number, s.beat.last, s.beat.phase) = s.bk := id rfl
@[simp] theorem bk_mk (pending_ : List Instr) (now_ : Nat) (out_ : List Output) (free_ : Nat) (part_ : Part) (cfg_ : List (OKey × OVal)) (waiting_ : List (OKey × OVal)) (cnt_ : List (OKey × Nat)) (store_ : List (OKey × OVal)) (beat_ : BeatS) (hier_ : HierS) (gdp_ : GdpS) (funcs_ : List (Func × FuncS)) (evt_ : EvtS) (bist_ : BistS) (eng_ : Map EngS) (kpr_ : KprS) (cal_ : CalS) (slots_ : SlotsS) (hostMem_ : List Host.Cell) (kwMem_ : Map (List Host.Cell)) (srv_ : SrvS) (kv_ : KvS) (sense_ : SenseS) (pwr_ : PwrS) (fab_ : FabS) (latch_ : LatchS) (ward_ : WardS) (mem_ : MemS) (boot_ : BootS) :
    (State.mk pending_ now_ out_ free_ part_ cfg_ waiting_ cnt_ store_ beat_ hier_ gdp_ funcs_ evt_ bist_ eng_ kpr_ cal_ slots_ hostMem_ kwMem_ srv_ kv_ sense_ pwr_ fab_ latch_ ward_ mem_ boot_).bk = (beat_.number, beat_.last, beat_.phase) := id rfl
@[simp] theorem bk_ite (c : Prop) [Decidable c] (a b : State) : (if c then a else b).bk = if c then a.bk else b.bk := by split <;> rfl
@[simp] theorem bk_foldl {α : Type} (f : State → α → State) (h : ∀ x a, (f x a).bk = x.bk) (l : List α) (s : State) : (l.foldl f s).bk = s.bk := by
  induction l generalizing s with
  | nil => rfl
  | cons a r ih => simp [ih, h]
@[simp] theorem State.at_bk (s : State) (n : Nat) : (s.at n).bk = s.bk := id rfl
end Sys2Proof.Machine
end

