-- ==== Sys2Proof/Laws/Phase1.lean ====
section
/-! SUPPORT. Laws/Phase1.lean: operations that leave it as it was (part 1 of 4, each operation after those it calls). -/
namespace Sys2Proof.Machine
open Sys2Proof
@[simp] theorem State.emit_bk (s : State) (o : Output) :
    (State.emit s o).bk = s.bk := by simp [State.emit]
@[simp] theorem State.drawn_bk (s : State) :
    (State.drawn s).bk = s.bk := by simp [State.drawn]
@[simp] theorem State.random_bk (s : State) (n : Nat) :
    (State.random s n).1.bk = s.bk := by simp [State.random]
@[simp] theorem State.putSetting_bk (s : State) (k : OKey) (v : OVal) :
    (State.putSetting s k v).bk = s.bk := by simp [State.putSetting]
@[simp] theorem State.putCount_bk (s : State) (k : OKey) (v : Nat) :
    (State.putCount s k v).bk = s.bk := by simp [State.putCount]
@[simp] theorem State.addCount_bk (s : State) (k : OKey) (n : Nat) :
    (State.addCount s k n).bk = s.bk := by simp [State.addCount]
@[simp] theorem State.inc_bk (s : State) (o : Obj) (n : Nat) :
    (State.inc s o n).bk = s.bk := by simp [State.inc]
@[simp] theorem State.incK_bk (s : State) (o : Obj) (kw : Nat) (n : Nat) :
    (State.incK s o kw n).bk = s.bk := by simp [State.incK]
@[simp] theorem State.incI_bk (s : State) (o : Obj) (inst : Nat) (n : Nat) :
    (State.incI s o inst n).bk = s.bk := by simp [State.incI]
@[simp] theorem State.dmaRead_bk (s : State) (fn : Nat) (a : Nat) (n : Nat) :
    (State.dmaRead s fn a n).1.bk = s.bk := by simp [State.dmaRead]
@[simp] theorem State.dmaWrite_bk (s : State) (fn : Nat) (a : Nat) (b : Bytes) :
    (State.dmaWrite s fn a b).bk = s.bk := by simp [State.dmaWrite]
@[simp] theorem State.hostWrote_bk (s : State) (h : List HostCell) :
    (State.hostWrote s h).bk = s.bk := by simp [State.hostWrote]
@[simp] theorem State.milestone_bk (s : State) (row : Nat) (ps : Nat) :
    (State.milestone s row ps).bk = s.bk := by simp [State.milestone]
@[simp] theorem State.raiseEv_bk (s : State) (e : Event) :
    (State.raiseEv s e).bk = s.bk := by simp [State.raiseEv]
@[simp] theorem State.raise_bk (s : State) (code : Nat) (kw : Nat) (unit : UnitId) (p0 : Nat) (p1 : Nat) (p2 : Nat) :
    (State.raise s code kw unit p0 p1 p2).bk = s.bk := by simp [State.raise]
@[simp] theorem State.raiseMany_bk (s : State) (code : Nat) (kw : Nat) (a1 : Nat) :
    (State.raiseMany s code kw a1).bk = s.bk := by fun_induction State.raiseMany s code kw a1 <;> simp_all
@[simp] theorem State.setOwn_bk (s : State) (u : UnitId) (x : UState) :
    (State.setOwn s u x).bk = s.bk := by simp [State.setOwn]
@[simp] theorem State.putEngine_bk (s : State) (n : Nat) (e : EngS) :
    (State.putEngine s n e).bk = s.bk := by simp [State.putEngine]
@[simp] theorem State.putTier_bk (s : State) (n : Nat) (t : Nat) (x : TierS) :
    (State.putTier s n t x).bk = s.bk := by simp [State.putTier]
@[simp] theorem State.putFunc_bk (s : State) (f : Func) (x : FuncS) :
    (State.putFunc s f x).bk = s.bk := by simp [State.putFunc]
@[simp] theorem State.putReq_bk (s : State) (i : Nat) (r : ReqS) :
    (State.putReq s i r).bk = s.bk := by simp [State.putReq]
@[simp] theorem State.putSub_bk (s : State) (fn : Nat) (x : SubS) :
    (State.putSub s fn x).bk = s.bk := by simp [State.putSub]
@[simp] theorem State.tokenIrq_bk (s : State) (kw : Nat) :
    (State.tokenIrq s kw).bk = s.bk := by simp [State.tokenIrq]
@[simp] theorem State.ringWrite_bk (s : State) (i : Nat) (tok : Nat) (flags : Nat) (logprob : Nat) (beat : Nat) (pos : Nat) :
    (State.ringWrite s i tok flags logprob beat pos).bk = s.bk := by simp [State.ringWrite]
@[simp] theorem State.logEnd_bk (s : State) (i : Nat) :
    (State.logEnd s i).bk = s.bk := by simp [State.logEnd]
@[simp] theorem State.note_bk (s : State) (kw : Nat) (r : StandbyRec) :
    (State.note s kw r).bk = s.bk := by simp [State.note]
@[simp] theorem State.closeReq_bk (s : State) (i : Nat) (cause : Nat) :
    (State.closeReq s i cause).bk = s.bk := by simp [State.closeReq]
@[simp] theorem State.endReq_bk (s : State) (i : Nat) (cause : Nat) :
    (State.endReq s i cause).bk = s.bk := by simp [State.endReq]
@[simp] theorem State.holdReq_bk (s : State) (i : Nat) (h : Hold) :
    (State.holdReq s i h).bk = s.bk := by simp [State.holdReq]
@[simp] theorem State.releaseReq_bk (s : State) (i : Nat) :
    (State.releaseReq s i).bk = s.bk := by simp [State.releaseReq]
@[simp] theorem State.dropWork_bk (s : State) (i : Nat) :
    (State.dropWork s i).bk = s.bk := by simp [State.dropWork]
@[simp] theorem State.faultStep_bk (s : State) (i : Nat) (f : StepFault) :
    (State.faultStep s i f).bk = s.bk := by simp [State.faultStep]
@[simp] theorem State.faultAll_bk (s : State) (f : StepFault) (a1 : List Nat) :
    (State.faultAll s f a1).bk = s.bk := by fun_induction State.faultAll s f a1 <;> simp_all
@[simp] theorem State.histCount_bk (s : State) (kw : Nat) (cls : Nat) (kind : Nat) (v : Nat) :
    (State.histCount s kw cls kind v).bk = s.bk := by simp [State.histCount]
@[simp] theorem State.putSlot_bk (s : State) (n : Nat) (x : SlotS) :
    (State.putSlot s n x).bk = s.bk := by simp [State.putSlot]
@[simp] theorem State.mapTile_bk (s : State) (eng : Nat) (tier : Nat) (f : Tile → Tile) :
    (State.mapTile s eng tier f).bk = s.bk := by simp [State.mapTile]
@[simp] theorem State.mapVer_bk (s : State) (n : Nat) (w : Which) (f : Version → Version) :
    (State.mapVer s n w f).bk = s.bk := by simp [State.mapVer]
@[simp] theorem State.verifyTile_bk (s : State) (eng : Nat) (tier : Nat) (cells : List CellRead) :
    (State.verifyTile s eng tier cells).bk = s.bk := by unfold State.verifyTile; (repeat' split) <;> simp
@[simp] theorem State.funcTo_bk (s : State) (f : Func) (x : FState) :
    (State.funcTo s f x).bk = s.bk := by simp [State.funcTo]
@[simp] theorem State.funcKeep_bk (s : State) (f : Func) :
    (State.funcKeep s f).bk = s.bk := by simp [State.funcKeep]
@[simp] theorem State.funcFail_bk (s : State) (f : Func) (cause : Nat) :
    (State.funcFail s f cause).bk = s.bk := by simp [State.funcFail]
@[simp] theorem State.funcForce_bk (s : State) (f : Func) :
    (State.funcForce s f).bk = s.bk := by simp [State.funcForce]
@[simp] theorem State.memTake_bk (s : State) (kw : Nat) (bytes : Nat) :
    (State.memTake s kw bytes).bk = s.bk := by simp [State.memTake]
@[simp] theorem State.memGive_bk (s : State) (kw : Nat) (bytes : Nat) :
    (State.memGive s kw bytes).bk = s.bk := by simp [State.memGive]
@[simp] theorem State.devTake_bk (s : State) (d : DevMem) (bytes : Nat) :
    (State.devTake s d bytes).bk = s.bk := by simp [State.devTake]
@[simp] theorem State.devGive_bk (s : State) (d : DevMem) (bytes : Nat) :
    (State.devGive s d bytes).bk = s.bk := by simp [State.devGive]
@[simp] theorem State.putKway_bk (s : State) (n : Nat) (x : KeywayS) :
    (State.putKway s n x).bk = s.bk := by simp [State.putKway]
@[simp] theorem State.putPort_bk (s : State) (p : Nat) (x : PortS) :
    (State.putPort s p x).bk = s.bk := by simp [State.putPort]
@[simp] theorem State.scanCandidates_bk (s : State) (flow : Nat) (a1 : List Nat) :
    (State.scanCandidates s flow a1).1.bk = s.bk := by fun_induction State.scanCandidates s flow a1 <;> simp_all
@[simp] theorem State.route_bk (s : State) (dst : Nat) (flow : Nat) :
    (State.route s dst flow).1.bk = s.bk := by simp only [State.route]; (repeat' split) <;> simp
@[simp] theorem State.countVia_bk (s : State) (via : Option Nat) :
    (State.countVia s via).bk = s.bk := by simp [State.countVia]
@[simp] theorem State.putKeySlot_bk (s : State) (n : Nat) (k : KeySlot) :
    (State.putKeySlot s n k).bk = s.bk := by simp [State.putKeySlot]
@[simp] theorem State.sendOn_bk (s : State) (p : Nat) (f : HFrame) :
    (State.sendOn s p f).bk = s.bk := by simp [State.sendOn]
@[simp] theorem State.sendAll_bk (s : State) (p : Nat) (a1 : List HFrame) :
    (State.sendAll s p a1).bk = s.bk := by fun_induction State.sendAll s p a1 <;> simp_all
@[simp] theorem State.floodOn_bk (s : State) (except : Option Nat) (f : HFrame) :
    (State.floodOn s except f).bk = s.bk := by simp [State.floodOn]
@[simp] theorem State.dropFlow_bk (s : State) (num : Nat) :
    (State.dropFlow s num).bk = s.bk := by simp [State.dropFlow]
@[simp] theorem State.mapFlow_bk (s : State) (num : Nat) (g : Flow → Flow) :
    (State.mapFlow s num g).bk = s.bk := by simp [State.mapFlow]
@[simp] theorem State.pump_bk (s : State) (num : Nat) :
    (State.pump s num).bk = s.bk := by unfold State.pump; (repeat' split) <;> simp
@[simp] theorem State.startFlow_bk (s : State) (kind : FlowKind) (dst : Nat) (kw : Nat) (l : List FlowItem) :
    (State.startFlow s kind dst kw l).1.bk = s.bk := by simp only [State.startFlow]; (repeat' split) <;> simp
theorem State.startFlow_bk' {s : State} {kind : FlowKind} {dst : Nat} {kw : Nat} {l : List FlowItem} {t_ : State} {y_} (h : State.startFlow s kind dst kw l = (t_, y_)) : t_.bk = s.bk := by
  have k := State.startFlow_bk s kind dst kw l; rw [h] at k; exact k
@[simp] theorem State.answer_bk (s : State) (f : HFrame) (l : List FlowItem) :
    (State.answer s f l).bk = s.bk := by simp only [State.answer]; (repeat' split) <;> simp
@[simp] theorem State.sendRecords_bk (s : State) (kw : Nat) (recs : List StandbyRec) (a3 : List Nat) :
    (State.sendRecords s kw recs a3).bk = s.bk := by
  induction a3 generalizing s with
  | nil => rfl
  | cons a_ r_ ih =>
    unfold State.sendRecords
    dsimp only
    rw [ih]
    split <;> simp
@[simp] theorem State.flush_bk (s : State) :
    (State.flush s).bk = s.bk := by simp [State.flush]
@[simp] theorem State.replyTo_bk (s : State) (f : HFrame) (type : Nat) (status : Nat) (pay : Bytes) :
    (State.replyTo s f type status pay).bk = s.bk := by simp [State.replyTo]
@[simp] theorem State.changeTier_bk (s : State) (eng : Nat) (tier : Nat) (x : TierS) :
    (State.changeTier s eng tier x).bk = s.bk := by simp [State.changeTier]
@[simp] theorem State.abandonRuns_bk (s : State) (p : Nat → Bool) :
    (State.abandonRuns s p).bk = s.bk := by simp [State.abandonRuns]
@[simp] theorem State.discardUnit_bk (s : State) (u : UnitId) :
    (State.discardUnit s u).bk = s.bk := by simp [State.discardUnit]
@[simp] theorem State.isolateFault_bk (s : State) (u : UnitId) :
    (State.isolateFault s u).bk = s.bk := by simp [State.isolateFault]
@[simp] theorem State.flagColumn_bk (s : State) (eng : Nat) (tier : Nat) (col : Nat) :
    (State.flagColumn s eng tier col).bk = s.bk := by simp [State.flagColumn]
@[simp] theorem State.flagColumns_bk (s : State) (eng : Nat) (tier : Nat) (a1 : List Nat) :
    (State.flagColumns s eng tier a1).bk = s.bk := by fun_induction State.flagColumns s eng tier a1 <;> simp_all
@[simp] theorem State.unflagColumn_bk (s : State) (eng : Nat) (tier : Nat) (col : Nat) :
    (State.unflagColumn s eng tier col).bk = s.bk := by simp [State.unflagColumn]
@[simp] theorem State.retireEngine_bk (s : State) (eng : Nat) (c : RetireCause) :
    (State.retireEngine s eng c).bk = s.bk := by simp [State.retireEngine]
@[simp] theorem State.retireTier_bk (s : State) (eng : Nat) (tier : Nat) :
    (State.retireTier s eng tier).bk = s.bk := by simp [State.retireTier]
@[simp] theorem State.sparesLow_bk (s : State) (eng : Nat) (tier : Nat) (before : Nat) :
    (State.sparesLow s eng tier before).bk = s.bk := by simp [State.sparesLow]
@[simp] theorem State.sparesLowAll_bk (s : State) (eng : Nat) (before : List Nat) :
    (State.sparesLowAll s eng before).bk = s.bk := by simp [State.sparesLowAll]
@[simp] theorem State.markRaised_bk (s : State) (old : Nat) :
    (State.markRaised s old).bk = s.bk := by simp [State.markRaised]
@[simp] theorem State.cellRemap_bk (s : State) (eng : Nat) (tier : Nat) (col : Nat) :
    (State.cellRemap s eng tier col).bk = s.bk := by simp only [State.cellRemap]; (repeat' split) <;> simp
@[simp] theorem State.pathRemap_bk (s : State) (eng : Nat) (tier : Nat) (col : Nat) :
    (State.pathRemap s eng tier col).bk = s.bk := by simp only [State.pathRemap]; (repeat' split) <;> simp
@[simp] theorem State.chargePasses_bk (s : State) (eng : Nat) (n : Nat) (sA : Nat) (selected : Bool) :
    (State.chargePasses s eng n sA selected).bk = s.bk := by simp [State.chargePasses]
@[simp] theorem State.chargeSelect_bk (s : State) :
    (State.chargeSelect s).bk = s.bk := by simp [State.chargeSelect]
@[simp] theorem State.readBack_bk (s : State) (eng : Nat) (tier : Nat) :
    (State.readBack s eng tier).bk = s.bk := by simp [State.readBack]
@[simp] theorem State.refuseOrder_bk (s : State) (o : PassOrder) :
    (State.refuseOrder s o).bk = s.bk := by simp [State.refuseOrder]
@[simp] theorem State.takeOrder_bk (s : State) (o : PassOrder) :
    (State.takeOrder s o).bk = s.bk := by simp [State.takeOrder]
@[simp] theorem State.takeOrders_bk (s : State) (a1 : List PassOrder) :
    (State.takeOrders s a1).bk = s.bk := by fun_induction State.takeOrders s a1 <;> simp_all
@[simp] theorem State.sweepQueue_bk (s : State) (core : Nat) :
    (State.sweepQueue s core).bk = s.bk := by simp [State.sweepQueue]
@[simp] theorem State.startPass_bk (s : State) (o : PassOrder) :
    (State.startPass s o).bk = s.bk := by simp [State.startPass]
@[simp] theorem State.startPasses_bk (s : State) (a1 : List PassOrder) :
    (State.startPasses s a1).bk = s.bk := by fun_induction State.startPasses s a1 <;> simp_all
@[simp] theorem State.inStepCfg_bk (s : State) (beat : Nat) (f : State → State) (h_f : ∀ x0, (f x0).bk = x0.bk) :
    (State.inStepCfg s beat f).bk = s.bk := by simp only [State.inStepCfg]; (repeat' split) <;> simp [h_f]
@[simp] theorem State.keepStepCfg_bk (s : State) :
    (State.keepStepCfg s).bk = s.bk := by simp [State.keepStepCfg]
@[simp] theorem coreSlot_bk (core : Nat) (l : List PassOrder) (s : State) :
    (coreSlot core l s).bk = s.bk := by simp [coreSlot]
@[simp] theorem State.rangeFail_bk (s : State) (p : Pass) (col : Nat) :
    (State.rangeFail s p col).bk = s.bk := by simp [State.rangeFail]
@[simp] theorem State.rangeFailAll_bk (s : State) (p : Pass) (a1 : List Nat) :
    (State.rangeFailAll s p a1).bk = s.bk := by fun_induction State.rangeFailAll s p a1 <;> simp_all
@[simp] theorem State.leavePass_bk (s : State) (p : Pass) :
    (State.leavePass s p).bk = s.bk := by simp [State.leavePass]
@[simp] theorem State.endPass_bk (s : State) (d : PassDone) :
    (State.endPass s d).bk = s.bk := by simp [State.endPass]
@[simp] theorem State.rePass_bk (s : State) (p : Pass) :
    (State.rePass s p).bk = s.bk := by simp [State.rePass]
@[simp] theorem State.capture_bk (s : State) (p : Pass) (ws : List Nat) (outs : List OutNum) :
    (State.capture s p ws outs).bk = s.bk := by simp [State.capture]
@[simp] theorem State.settle_bk (s : State) (p : Pass) (ws : List Nat) :
    (State.settle s p ws).bk = s.bk := by simp [State.settle]
@[simp] theorem countWords_bk (r : PassResult) (s : State) :
    (countWords r s).bk = s.bk := by unfold countWords; (repeat' split) <;> simp
@[simp] theorem State.repairFailed_bk (s : State) (p : Pass) (j : Nat) :
    (State.repairFailed s p j).bk = s.bk := by simp [State.repairFailed]
@[simp] theorem State.repairFailedAll_bk (s : State) (p : Pass) (a1 : List Nat) :
    (State.repairFailedAll s p a1).bk = s.bk := by fun_induction State.repairFailedAll s p a1 <;> simp_all
@[simp] theorem State.subRange_bk (s : State) (p : Pass) (a1 : List (List Nat)) :
    (State.subRange s p a1).bk = s.bk := by fun_induction State.subRange s p a1 <;> simp_all
@[simp] theorem splitDone_bk (r : SplitResult) (s : State) :
    (splitDone r s).bk = s.bk := by unfold splitDone; (repeat' split) <;> simp
@[simp] theorem State.diagEnd_bk (s : State) (eng : Nat) (d : Diag) (read : List Nat) :
    (State.diagEnd s eng d read).bk = s.bk := by unfold State.diagEnd; (repeat' split) <;> simp
@[simp] theorem State.deEscalate_bk (s : State) (eng : Nat) :
    (State.deEscalate s eng).bk = s.bk := by simp [State.deEscalate]
@[simp] theorem State.startDiag_bk (s : State) (eng : Nat) :
    (State.startDiag s eng).bk = s.bk := by simp only [State.startDiag]; (repeat' split) <;> simp
@[simp] theorem State.shadowRemap_bk (s : State) (eng : Nat) (j : SpareJob) :
    (State.shadowRemap s eng j).bk = s.bk := by simp [State.shadowRemap]
@[simp] theorem State.swapRemap_bk (s : State) (eng : Nat) (tier : Nat) :
    (State.swapRemap s eng tier).bk = s.bk := by simp [State.swapRemap]
@[simp] theorem State.applyRetire_bk (s : State) (eng : Nat) :
    (State.applyRetire s eng).bk = s.bk := by simp only [State.applyRetire]; (repeat' split) <;> simp 
@[simp] theorem State.draftsLost_bk (s : State) (n : Nat) :
    (State.draftsLost s n).bk = s.bk := by simp [State.draftsLost]
@[simp] theorem State.slotTo_bk (s : State) (n : Nat) (st : SlotState) :
    (State.slotTo s n st).bk = s.bk := by simp [State.slotTo]
@[simp] theorem State.writeRecord_bk (s : State) (n : Nat) :
    (State.writeRecord s n).bk = s.bk := by simp [State.writeRecord]
@[simp] theorem State.freeVersion_bk (s : State) (n : Nat) (v : Version) (staged : Bool) :
    (State.freeVersion s n v staged).bk = s.bk := by simp [State.freeVersion]
@[simp] theorem State.putRing_bk (s : State) (fn : Nat) (r : RingS) :
    (State.putRing s fn r).bk = s.bk := by simp [State.putRing]
@[simp] theorem State.mapReq_bk (s : State) (n : Nat) (version : Nat) (index : Nat) (f : ShardReq → ShardReq) :
    (State.mapReq s n version index f).bk = s.bk := by simp [State.mapReq]
@[simp] theorem State.drainRing_bk (s : State) (fn : Nat) (a2 : Nat) :
    (State.drainRing s fn a2).bk = s.bk := by
  induction a2 generalizing s with
  | zero => rfl
  | succ a_ ih =>
    unfold State.drainRing
    (try dsimp only)
    (repeat' split) <;> (first | with_reducible rfl | (rw [ih]; simp; done) | (simp [ih]; done))
@[simp] theorem State.ringPush_bk (s : State) (slot : Nat) (reason : Nat) (index : Nat) (version : Nat) (attempt : Nat) :
    (State.ringPush s slot reason index version attempt).bk = s.bk := by simp [State.ringPush]
@[simp] theorem State.issueReq_bk (s : State) (n : Nat) (v : Version) (q : ShardReq) :
    (State.issueReq s n v q).bk = s.bk := by simp [State.issueReq]
@[simp] theorem State.issueVer_bk (s : State) (n : Nat) (v : Version) :
    (State.issueVer s n v).bk = s.bk := by simp [State.issueVer]
@[simp] theorem State.issueSlot_bk (s : State) (n : Nat) :
    (State.issueSlot s n).bk = s.bk := by simp [State.issueSlot]
@[simp] theorem State.loadFail_bk (s : State) (n : Nat) (code : Nat) (report : Bool) :
    (State.loadFail s n code report).bk = s.bk := by simp only [State.loadFail]; (repeat' split) <;> simp
@[simp] theorem State.retryReq_bk (s : State) (n : Nat) (v : Version) (q : ShardReq) (reason : Nat) :
    (State.retryReq s n v q reason).bk = s.bk := by simp [State.retryReq]
@[simp] theorem State.imageTiles_bk (s : State) (n : Nat) (w : Which) (h : ShardHdr) (pay : Bytes) :
    (State.imageTiles s n w h pay).bk = s.bk := by unfold State.imageTiles; (repeat' split) <;> simp
@[simp] theorem State.storeShard_bk (s : State) (n : Nat) (v : Version) (index : Nat) (bytes : Bytes) :
    (State.storeShard s n v index bytes).bk = s.bk := by simp [State.storeShard]
@[simp] theorem State.allAccepted_bk (s : State) (n : Nat) (w : Which) :
    (State.allAccepted s n w).bk = s.bk := by simp only [State.allAccepted]; (repeat' split) <;> simp
@[simp] theorem State.readyTiles_bk (s : State) (n : Nat) :
    (State.readyTiles s n).bk = s.bk := by simp [State.readyTiles]
@[simp] theorem State.readySlot_bk (s : State) (n : Nat) :
    (State.readySlot s n).bk = s.bk := by simp only [State.readySlot]; (repeat' split) <;> simp
@[simp] theorem State.slotsReady_bk (s : State) :
    (State.slotsReady s).bk = s.bk := by simp [State.slotsReady]
@[simp] theorem State.acceptShard_bk (s : State) (n : Nat) (w : Which) (v : Version) (h : ShardHdr) (pay : Bytes) :
    (State.acceptShard s n w v h pay).bk = s.bk := by simp [State.acceptShard]
@[simp] theorem State.sealedFail_bk (s : State) (kw : Nat) :
    (State.sealedFail s kw).bk = s.bk := by simp [State.sealedFail]
@[simp] theorem State.shardArrived_bk (s : State) (n : Nat) (w : Which) (v : Version) (q : ShardReq) (h : ShardHdr) (buf : Option Bytes) (len : Nat) :
    (State.shardArrived s n w v q h buf len).bk = s.bk := by unfold State.shardArrived; (repeat' split) <;> simp
@[simp] theorem State.putTotal_bk (s : State) (z : Total) :
    (State.putTotal s z).bk = s.bk := by simp [State.putTotal]
@[simp] theorem State.addTerm_bk (s : State) (k : TotalKey) (place : Nat) (t : Term) :
    (State.addTerm s k place t).bk = s.bk := by simp only [State.addTerm]; (repeat' split) <;> simp
@[simp] theorem State.dropTerms_bk (s : State) (k : TotalKey) (places : List Nat) :
    (State.dropTerms s k places).bk = s.bk := by simp only [State.dropTerms]; (repeat' split) <;> simp 
@[simp] theorem State.mapOut_bk (s : State) (engs : List Nat) (tier : Nat) (k : TotalKey) (j : Nat) (f : OutNum → OutNum) :
    (State.mapOut s engs tier k j f).bk = s.bk := by simp [State.mapOut]
@[simp] theorem State.chunkOverflow_bk (s : State) (core : Nat) (k : TotalKey) (tier : Nat) (engs : List Nat) (j : Nat) :
    (State.chunkOverflow s core k tier engs j).bk = s.bk := by simp [State.chunkOverflow]
@[simp] theorem State.promoteChunk_bk (s : State) (core : Nat) (k : TotalKey) (tier : Nat) (engs : List Nat) (half : PassHalf) :
    (State.promoteChunk s core k tier engs half).bk = s.bk := by simp only [State.promoteChunk]; (repeat' split) <;> simp
@[simp] theorem State.repairOut_bk (s : State) (core : Nat) (k : TotalKey) (tier : Nat) (engs : List Nat) (eng : Nat) (blocks : List DBlock) :
    (State.repairOut s core k tier engs eng blocks).bk = s.bk := by simp only [State.repairOut]; (repeat' split) <;> simp 
@[simp] theorem State.addSplit_bk (s : State) (core : Nat) (k : TotalKey) (tier : Nat) (engs : List Nat) (eng : Nat) (half : PassHalf) :
    (State.addSplit s core k tier engs eng half).bk = s.bk := by unfold State.addSplit; (repeat' split) <;> simp
@[simp] theorem State.outlierDone_bk (s : State) (core : Nat) (req : Nat) :
    (State.outlierDone s core req).bk = s.bk := by simp [State.outlierDone]
@[simp] theorem State.addOutlier_bk (s : State) (core : Nat) (k : TotalKey) (tier : Nat) (engs : List Nat) (eng : Nat) (row : Nat) (value : Nat) :
    (State.addOutlier s core k tier engs eng row value).bk = s.bk := by unfold State.addOutlier; (repeat' split) <;> simp
@[simp] theorem State.countNarrow_bk (s : State) (kw : Nat) (n : Narrowed) :
    (State.countNarrow s kw n).bk = s.bk := by simp [State.countNarrow]
@[simp] theorem State.nonfinite_bk (s : State) (kw : Nat) :
    (State.nonfinite s kw).bk = s.bk := by simp [State.nonfinite]
@[simp] theorem State.narrowFor_bk (s : State) (req : Nat) (fmt : Nat) (edge : Bool) (octaves : Bool) (x : List F32) (digital : List Bool) :
    (State.narrowFor s req fmt edge octaves x digital).1.bk = s.bk := by simp only [State.narrowFor]; (repeat' split) <;> simp
theorem State.narrowFor_bk' {s : State} {req : Nat} {fmt : Nat} {edge : Bool} {octaves : Bool} {x : List F32} {digital : List Bool} {t_ : State} {y_} (h : State.narrowFor s req fmt edge octaves x digital = (t_, y_)) : t_.bk = s.bk := by
  have k := State.narrowFor_bk s req fmt edge octaves x digital; rw [h] at k; exact k
@[simp] theorem State.addBlock_bk (s : State) (b : NarrowBlk) :
    (State.addBlock s b).bk = s.bk := by simp [State.addBlock]
@[simp] theorem State.narrowInto_bk (s : State) (core : Nat) (req : Nat) (fmt : Nat) (edge : Bool) (octaves : Bool) (x : List F32) (digital : List Bool) :
    (State.narrowInto s core req fmt edge octaves x digital).bk = s.bk := by
  unfold State.narrowInto
  (repeat' split) <;> first | (simp ; done) | (rename_i hx; have kx := congrArg (fun z => z.1.bk) hx; simp  at kx; simp [kx]; done) | (rename_i hx; have kx := congrArg (fun z => z.1.bk) hx; simp  at kx; simp ; exact kx)
@[simp] theorem State.narrowWork_bk (s : State) (core : Nat) (req : Nat) (place : NarrowPlace) (x : List F32) :
    (State.narrowWork s core req place x).bk = s.bk := by
  unfold State.narrowWork
  (try dsimp only)
  (repeat' split) <;> (first | with_reducible rfl | (simp; done) | exact (State.narrowFor_bk' ‹_›) | (simp; exact (State.narrowFor_bk' ‹_›)) | (rename_i hh; have kk := congrArg (fun z => z.1.bk) hh; simp at kk; exact kk) | (rename_i hh; have kk := congrArg (fun z => z.1.bk) hh; simp at kk; simp; exact kk) | (rename_i hh; have kk := congrArg (fun z => z.1.bk) hh; simp at kk; refine kk.trans ?_; exact (State.narrowFor_bk' ‹_›)) | (rename_i hh; have kk := congrArg (fun z => z.1.bk) hh; simp at kk; simp; refine kk.trans ?_; exact (State.narrowFor_bk' ‹_›)))
@[simp] theorem State.badBlock_bk (s : State) (kw : Nat) :
    (State.badBlock s kw).bk = s.bk := by simp [State.badBlock]
@[simp] theorem State.readBlockWork_bk (s : State) (req : Nat) (fmt : Nat) (used : Nat) (data : Bytes) (scale : Nat) :
    (State.readBlockWork s req fmt used data scale).bk = s.bk := by unfold State.readBlockWork; (repeat' split) <;> simp
@[simp] theorem State.narrowVec_bk (s : State) (req : Nat) (octaves : Bool) (a3 : List (List F32)) :
    (State.narrowVec s req octaves a3).1.bk = s.bk := by
  fun_induction State.narrowVec s req octaves a3 with
  | case1 => rfl
  | case2 s x r t h => exact State.narrowFor_bk' h
  | case3 s x r t n h u hu ih => rw [hu] at ih; exact ih.trans (State.narrowFor_bk' h)
  | case4 s x r t n h u l hu ih => rw [hu] at ih; exact ih.trans (State.narrowFor_bk' h)
theorem State.narrowVec_bk' {s : State} {req : Nat} {octaves : Bool} {a3 : List (List F32)} {t_ : State} {y_} (h : State.narrowVec s req octaves a3 = (t_, y_)) : t_.bk = s.bk := by
  have k := State.narrowVec_bk s req octaves a3; rw [h] at k; exact k
@[simp] theorem State.adapterWork_bk (s : State) (k : TotalKey) (x : List F32) :
    (State.adapterWork s k x).bk = s.bk := by
  unfold State.adapterWork
  (try dsimp only)
  (repeat' split) <;> (first | with_reducible rfl | (simp; done) | exact (State.narrowVec_bk' ‹_›) | (simp; exact (State.narrowVec_bk' ‹_›)) | exact ((State.narrowVec_bk' ‹_›).trans (State.narrowVec_bk' ‹_›)) | (simp; exact ((State.narrowVec_bk' ‹_›).trans (State.narrowVec_bk' ‹_›))) | (rename_i hh; have kk := congrArg (fun z => z.1.bk) hh; simp at kk; exact kk) | (rename_i hh; have kk := congrArg (fun z => z.1.bk) hh; simp at kk; simp; exact kk) | (rename_i hh; have kk := congrArg (fun z => z.1.bk) hh; simp at kk; refine kk.trans ?_; exact (State.narrowVec_bk' ‹_›)) | (rename_i hh; have kk := congrArg (fun z => z.1.bk) hh; simp at kk; simp; refine kk.trans ?_; exact (State.narrowVec_bk' ‹_›)) | (rename_i hh; have kk := congrArg (fun z => z.1.bk) hh; simp at kk; refine kk.trans ?_; exact ((State.narrowVec_bk' ‹_›).trans (State.narrowVec_bk' ‹_›))) | (rename_i hh; have kk := congrArg (fun z => z.1.bk) hh; simp at kk; simp; refine kk.trans ?_; exact ((State.narrowVec_bk' ‹_›).trans (State.narrowVec_bk' ‹_›))))
@[simp] theorem State.exactTierWork_bk (s : State) (core : Nat) (k : TotalKey) (shard : Nat) (blocks : List DBlock) :
    (State.exactTierWork s core k shard blocks).bk = s.bk := by simp only [State.exactTierWork]; (repeat' split) <;> simp
@[simp] theorem State.finishTotal_bk (s : State) (k : TotalKey) :
    (State.finishTotal s k).bk = s.bk := by unfold State.finishTotal; (repeat' split) <;> simp
@[simp] theorem State.reduceWork_bk (s : State) (req : Nat) (x : List F32) :
    (State.reduceWork s req x).bk = s.bk := by simp [State.reduceWork]
@[simp] theorem State.corrected_bk (s : State) (unit : UnitId) (row : Nat) :
    (State.corrected s unit row).bk = s.bk := by simp [State.corrected]
@[simp] theorem State.uncorrectable_bk (s : State) (req : Nat) (unit : UnitId) (addr : Nat) :
    (State.uncorrectable s req unit addr).bk = s.bk := by simp [State.uncorrectable]
@[simp] theorem State.transfer_bk (s : State) (req : Nat) (unit : UnitId) (addr : Nat) (e : EccResult) :
    (State.transfer s req unit addr e).bk = s.bk := by simp only [State.transfer]; (repeat' split) <;> simp 
@[simp] theorem State.sramRead_bk (s : State) (req : Nat) (unit : UnitId) (row : Nat) (addr : Nat) (e : EccResult) :
    (State.sramRead s req unit row addr e).bk = s.bk := by unfold State.sramRead; (repeat' split) <;> simp
@[simp] theorem State.sramWrite_bk (s : State) (unit : UnitId) (addr : Nat) :
    (State.sramWrite s unit addr).bk = s.bk := by simp [State.sramWrite]
@[simp] theorem State.quarantine_bk (s : State) (unit : UnitId) (mismatch : Bool) :
    (State.quarantine s unit mismatch).bk = s.bk := by simp [State.quarantine]
@[simp] theorem State.residueMismatch_bk (s : State) (unit : UnitId) :
    (State.residueMismatch s unit).bk = s.bk := by simp [State.residueMismatch]
@[simp] theorem keeperWork_bk (core : Nat) (w : KeeperWork) (s : State) :
    (keeperWork core w s).bk = s.bk := by unfold keeperWork; (repeat' split) <;> simp
@[simp] theorem State.nameAffected_bk (s : State) (kw : Nat) (idx : Nat) (slot : Nat) (tag : Nat) (first : Nat) (last : Nat) :
    (State.nameAffected s kw idx slot tag first last).bk = s.bk := by simp [State.nameAffected]
@[simp] theorem State.nameAll_bk (s : State) (slot : Nat) (first : Nat) (last : Nat) (a1 : List (Nat × Nat × Nat)) :
    (State.nameAll s slot first last a1).bk = s.bk := by fun_induction State.nameAll s slot first last a1 <;> simp_all
@[simp] theorem State.nameAffectedAll_bk (s : State) (eng : Nat) (tier : Nat) (last : Nat) :
    (State.nameAffectedAll s eng tier last).bk = s.bk := by simp only [State.nameAffectedAll]; (repeat' split) <;> simp
@[simp] theorem State.coreEscalate_bk (s : State) (core : Nat) :
    (State.coreEscalate s core).bk = s.bk := by simp [State.coreEscalate]
@[simp] theorem State.auditFail_bk (s : State) (c : Capture) (j : Nat) :
    (State.auditFail s c j).bk = s.bk := by simp [State.auditFail]
@[simp] theorem State.auditFails_bk (s : State) (c : Capture) (a1 : List Nat) :
    (State.auditFails s c a1).bk = s.bk := by fun_induction State.auditFails s c a1 <;> simp_all
@[simp] theorem tileAudit_bk (core : Nat) (s : State) :
    (tileAudit core s).bk = s.bk := by unfold tileAudit; (repeat' split) <;> simp
@[simp] theorem State.placeDue_bk (s : State) (eng : Nat) :
    (State.placeDue s eng).bk = s.bk := by simp [State.placeDue]
@[simp] theorem State.backlog_bk (s : State) (eng : Nat) :
    (State.backlog s eng).bk = s.bk := by simp [State.backlog]
@[simp] theorem State.placeDueAll_bk (s : State) (a1 : List Nat) :
    (State.placeDueAll s a1).bk = s.bk := by fun_induction State.placeDueAll s a1 <;> simp_all
@[simp] theorem State.beginStage_bk (s : State) (eng : Nat) :
    (State.beginStage s eng).bk = s.bk := by simp only [State.beginStage]; (repeat' split) <;> simp
@[simp] theorem calStageStart_bk (eng : Nat) (s : State) :
    (calStageStart eng s).bk = s.bk := by simp [calStageStart]
@[simp] theorem State.discardRun_bk (s : State) (eng : Nat) :
    (State.discardRun s eng).bk = s.bk := by simp [State.discardRun]
end Sys2Proof.Machine
end

