-- ==== Sys2Proof/Laws/Phase2.lean ====
section
/-! SUPPORT. Laws/Phase2.lean: operations that leave it as it was (part 2 of 4, each operation after those it calls). -/
namespace Sys2Proof.Machine
open Sys2Proof
@[simp] theorem State.chargeStage_bk (s : State) (eng : Nat) (st : Nat) (n : Nat) :
    (State.chargeStage s eng st n).bk = s.bk := by simp [State.chargeStage]
@[simp] theorem State.commitEngine_bk (s : State) (eng : Nat) (r : CalRun) :
    (State.commitEngine s eng r).bk = s.bk := by simp [State.commitEngine]
@[simp] theorem State.endStage_bk (s : State) (eng : Nat) (r : CalRun) :
    (State.endStage s eng r).bk = s.bk := by simp [State.endStage]
@[simp] theorem State.rampEvents_bk (s : State) (eng : Nat) (a1 : Nat) :
    (State.rampEvents s eng a1).bk = s.bk := by fun_induction State.rampEvents s eng a1 <;> simp_all
@[simp] theorem calRampDone_bk (eng : Nat) (x : List (List RampSum)) (s : State) :
    (calRampDone eng x s).bk = s.bk := by unfold calRampDone; (repeat' split) <;> simp
@[simp] theorem State.rejectColumn_bk (s : State) (eng : Nat) (tier : Nat) (col : Nat) :
    (State.rejectColumn s eng tier col).bk = s.bk := by simp [State.rejectColumn]
@[simp] theorem State.rejectColumns_bk (s : State) (eng : Nat) (tier : Nat) (a1 : List Nat) :
    (State.rejectColumns s eng tier a1).bk = s.bk := by fun_induction State.rejectColumns s eng tier a1 <;> simp_all
@[simp] theorem calCoarseDone_bk (eng : Nat) (tier : Nat) (cs : List ColSum) (s : State) :
    (calCoarseDone eng tier cs s).bk = s.bk := by unfold calCoarseDone; (repeat' split) <;> simp
@[simp] theorem calFineDone_bk (eng : Nat) (tier : Nat) (cs : List ColSum) (s : State) :
    (calFineDone eng tier cs s).bk = s.bk := by unfold calFineDone; (repeat' split) <;> simp
@[simp] theorem standoffEnd_bk (eng : Nat) (s : State) :
    (standoffEnd eng s).bk = s.bk := by simp [standoffEnd]
@[simp] theorem State.writeTrims_bk (s : State) (eng : Nat) :
    (State.writeTrims s eng).bk = s.bk := by simp [State.writeTrims]
@[simp] theorem trimStoreWrite_bk (eng : Nat) (s : State) :
    (trimStoreWrite eng s).bk = s.bk := by simp [trimStoreWrite]
@[simp] theorem State.dropReady_bk (s : State) (die : Nat) :
    (State.dropReady s die).bk = s.bk := by simp [State.dropReady]
@[simp] theorem vrefCompare_bk (die : Nat) (dev : Int) (s : State) :
    (vrefCompare die dev s).bk = s.bk := by simp [vrefCompare]
@[simp] theorem selfcalStart_bk (conv : Nat) (s : State) :
    (selfcalStart conv s).bk = s.bk := by simp [selfcalStart]
@[simp] theorem selfcalDone_bk (conv : Nat) (offset : Int) (gain : Int) (s : State) :
    (selfcalDone conv offset gain s).bk = s.bk := by simp [selfcalDone]
@[simp] theorem State.calOverrun_bk (s : State) (a1 : List Nat) :
    (State.calOverrun s a1).bk = s.bk := by fun_induction State.calOverrun s a1 <;> simp_all
@[simp] theorem State.commitAll_bk (s : State) (a1 : List Nat) :
    (State.commitAll s a1).bk = s.bk := by fun_induction State.commitAll s a1 <;> simp_all
@[simp] theorem State.deferSwaps_bk (s : State) (a1 : List Nat) :
    (State.deferSwaps s a1).bk = s.bk := by fun_induction State.deferSwaps s a1 <;> simp_all
@[simp] theorem State.calCommit_bk (s : State) (die : Nat) :
    (State.calCommit s die).bk = s.bk := by simp [State.calCommit]
@[simp] theorem State.lateSwap_bk (s : State) (eng : Nat) :
    (State.lateSwap s eng).bk = s.bk := by simp only [State.lateSwap]; (repeat' split) <;> simp 
@[simp] theorem State.diagRead_bk (s : State) (eng : Nat) (tier : Nat) (cells : List CellRead) :
    (State.diagRead s eng tier cells).bk = s.bk := by simp only [State.diagRead]; (repeat' split) <;> simp 
@[simp] theorem diagReadback_bk (eng : Nat) (tier : Nat) (cells : List CellRead) (s : State) :
    (diagReadback eng tier cells s).bk = s.bk := by simp only [diagReadback]; (repeat' split) <;> simp
@[simp] theorem State.calSkipped_bk (s : State) :
    (State.calSkipped s).bk = s.bk := by simp [State.calSkipped]
@[simp] theorem State.standoffTick_bk (s : State) :
    (State.standoffTick s).bk = s.bk := by simp [State.standoffTick]
@[simp] theorem State.calRequest_bk (s : State) (eng : Nat) :
    (State.calRequest s eng).bk = s.bk := by simp only [State.calRequest]; (repeat' split) <;> simp
@[simp] theorem shardPut_bk (fn : Nat) (lo : Nat) (hi : Nat) (len : Nat) (ctrl : Nat) (s : State) :
    (shardPut fn lo hi len ctrl s).bk = s.bk := by simp [shardPut]
@[simp] theorem putStatusRead_bk (fn : Nat) (s : State) :
    (putStatusRead fn s).bk = s.bk := by simp [putStatusRead]
@[simp] theorem ringCons_bk (fn : Nat) (v : Nat) (s : State) :
    (ringCons fn v s).bk = s.bk := by simp [ringCons]
@[simp] theorem shardArrival_bk (fn : Nat) (buf : Option Bytes) (s : State) :
    (shardArrival fn buf s).bk = s.bk := by simp only [shardArrival]; (repeat' split) <;> simp
@[simp] theorem shardTimeout_bk (slot : Nat) (index : Nat) (s : State) :
    (shardTimeout slot index s).bk = s.bk := by unfold shardTimeout; (repeat' split) <;> simp
@[simp] theorem State.movechunk_bk (s : State) (n : Nat) (w : Which) (v : Version) (chunk : Nat) :
    (State.movechunk s n w v chunk).bk = s.bk := by simp only [State.movechunk]; (repeat' split) <;> simp
@[simp] theorem State.replaceOn_bk (s : State) (core : Nat → Bool) (n : Nat) (w : Which) (v : Version) (chunk : Nat) :
    (State.replaceOn s core n w v chunk).bk = s.bk := by simp only [State.replaceOn]; (repeat' split) <;> simp
@[simp] theorem State.replaceChunk_bk (s : State) (n : Nat) (w : Which) (v : Version) (chunk : Nat) :
    (State.replaceChunk s n w v chunk).bk = s.bk := by simp [State.replaceChunk]
@[simp] theorem State.tileAgain_bk (s : State) (eng : Nat) (tier : Nat) :
    (State.tileAgain s eng tier).bk = s.bk := by simp only [State.tileAgain]; (repeat' split) <;> simp
@[simp] theorem replaceRetry_bk (slot : Nat) (chunk : Nat) (s : State) :
    (replaceRetry slot chunk s).bk = s.bk := by simp only [replaceRetry]; (repeat' split) <;> simp 
@[simp] theorem State.eraseTier_bk (s : State) (eng : Nat) (tier : Nat) :
    (State.eraseTier s eng tier).bk = s.bk := by simp [State.eraseTier]
@[simp] theorem tierProgramStart_bk (eng : Nat) (tier : Nat) (s : State) :
    (tierProgramStart eng tier s).bk = s.bk := by simp [tierProgramStart]
@[simp] theorem State.progRemap_bk (s : State) (eng : Nat) (tier : Nat) (col : Nat) (badSpares : List Nat) :
    (State.progRemap s eng tier col badSpares).bk = s.bk := by simp only [State.progRemap]; (repeat' split) <;> simp
@[simp] theorem State.progRemaps_bk (s : State) (eng : Nat) (tier : Nat) (badSpares : List Nat) (a1 : List Nat) :
    (State.progRemaps s eng tier badSpares a1).bk = s.bk := by fun_induction State.progRemaps s eng tier badSpares a1 <;> simp_all
@[simp] theorem State.programRead_bk (s : State) (eng : Nat) (tier : Nat) :
    (State.programRead s eng tier).bk = s.bk := by simp [State.programRead]
@[simp] theorem tierProgramDone_bk (eng : Nat) (tier : Nat) (bad : List Nat) (badSpares : List Nat) (cells : List CellRead) (energy : Nat) (s : State) :
    (tierProgramDone eng tier bad badSpares cells energy s).bk = s.bk := by simp only [tierProgramDone]; (repeat' split) <;> simp
@[simp] theorem State.spareTried_bk (s : State) (eng : Nat) (tier : Nat) (j : SpareJob) (ok : Bool) :
    (State.spareTried s eng tier j ok).bk = s.bk := by simp [State.spareTried]
@[simp] theorem spareVerified_bk (eng : Nat) (tier : Nat) (spare : Nat) (ok : Bool) (energy : Nat) (s : State) :
    (spareVerified eng tier spare ok energy s).bk = s.bk := by simp only [spareVerified]; (repeat' split) <;> simp
@[simp] theorem State.twoWay_bk (s : State) (eng : Nat) (tier : Nat) (n : Nat) (w : Which) (t : Tile) (cells : List CellRead) :
    (State.twoWay s eng tier n w t cells).bk = s.bk := by simp [State.twoWay]
@[simp] theorem scrubReadback_bk (eng : Nat) (tier : Nat) (cells : List CellRead) (s : State) :
    (scrubReadback eng tier cells s).bk = s.bk := by unfold scrubReadback; (repeat' split) <;> simp
@[simp] theorem scrubOverdue_bk (eng : Nat) (tier : Nat) (s : State) :
    (scrubOverdue eng tier s).bk = s.bk := by unfold scrubOverdue; (repeat' split) <;> simp
@[simp] theorem imageCheck_bk (eng : Nat) (tier : Nat) (flips : List (Nat × Byte)) (s : State) :
    (imageCheck eng tier flips s).bk = s.bk := by unfold imageCheck; (repeat' split) <;> simp
@[simp] theorem digitalCheck_bk (n : Nat) (index : Nat) (flips : List (Nat × Byte)) (s : State) :
    (digitalCheck n index flips s).bk = s.bk := by unfold digitalCheck; (repeat' split) <;> simp
@[simp] theorem State.endSoon_bk (s : State) (cause : Nat) (p : ReqS → Bool) :
    (State.endSoon s cause p).bk = s.bk := by simp [State.endSoon]
@[simp] theorem State.cmdResult_bk (s : State) (n : Nat) (r : Nat) :
    (State.cmdResult s n r).bk = s.bk := by simp [State.cmdResult]
@[simp] theorem State.refuseLoad_bk (s : State) (n : Nat) (code : Nat) :
    (State.refuseLoad s n code).bk = s.bk := by simp [State.refuseLoad]
@[simp] theorem State.slotLoad_bk (s : State) (n : Nat) :
    (State.slotLoad s n).bk = s.bk := by simp only [State.slotLoad]; (repeat' split) <;> simp
@[simp] theorem State.slotAbort_bk (s : State) (n : Nat) :
    (State.slotAbort s n).bk = s.bk := by simp [State.slotAbort]
@[simp] theorem State.wipeSlot_bk (s : State) (n : Nat) :
    (State.wipeSlot s n).bk = s.bk := by simp only [State.wipeSlot]; (repeat' split) <;> simp
@[simp] theorem State.slotEmpty_bk (s : State) (n : Nat) :
    (State.slotEmpty s n).bk = s.bk := by simp [State.slotEmpty]
@[simp] theorem State.slotCmd_bk (s : State) (n : Nat) (cmd : Nat) :
    (State.slotCmd s n cmd).bk = s.bk := by unfold State.slotCmd; (repeat' split) <;> simp
@[simp] theorem State.freeOld_bk (s : State) (n : Nat) :
    (State.freeOld s n).bk = s.bk := by simp only [State.freeOld]; (repeat' split) <;> simp
@[simp] theorem State.cutover_bk (s : State) (n : Nat) :
    (State.cutover s n).bk = s.bk := by simp only [State.cutover]; (repeat' split) <;> simp
@[simp] theorem State.drainStep_bk (s : State) (n : Nat) :
    (State.drainStep s n).bk = s.bk := by
  unfold State.drainStep
  dsimp only
  (repeat' split) <;> first | rfl | (simp; done) | (refine (bk_foldl _ (fun x a => ?_) _ _).trans ?_ <;> (repeat' split) <;> simp)
@[simp] theorem State.swapChunks_bk (s : State) (n : Nat) (w : Which) :
    (State.swapChunks s n w).bk = s.bk := by unfold State.swapChunks; (repeat' split) <;> simp
@[simp] theorem State.serveCheck_bk (s : State) (n : Nat) :
    (State.serveCheck s n).bk = s.bk := by simp [State.serveCheck]
@[simp] theorem State.badImages_bk (s : State) (n : Nat) :
    (State.badImages s n).bk = s.bk := by simp [State.badImages]
@[simp] theorem State.slotPre_bk (s : State) (n : Nat) :
    (State.slotPre s n).bk = s.bk := by simp [State.slotPre]
@[simp] theorem State.replaceRetired_bk (s : State) (n : Nat) (w : Which) :
    (State.replaceRetired s n w).bk = s.bk := by
  unfold State.replaceRetired
  (try dsimp only)
  (repeat' split) <;> first | rfl | (apply bk_foldl; intro x a; split <;> simp)
@[simp] theorem State.slotPost_bk (s : State) (n : Nat) :
    (State.slotPost s n).bk = s.bk := by simp [State.slotPost]
@[simp] theorem State.slotsPre_bk (s : State) :
    (State.slotsPre s).bk = s.bk := by simp [State.slotsPre]
@[simp] theorem State.slotsPost_bk (s : State) :
    (State.slotsPost s).bk = s.bk := by simp [State.slotsPost]
@[simp] theorem State.seekBeats_bk (s : State) :
    (State.seekBeats s).bk = s.bk := by simp [State.seekBeats]
@[simp] theorem State.countNotches_bk (s : State) (m : BeatMode) :
    (State.countNotches s m).bk = s.bk := by simp [State.countNotches]
@[simp] theorem State.beatTo_bk (s : State) (m : BeatMode) :
    (State.beatTo s m).bk = s.bk := by unfold State.beatTo; (repeat' split) <;> simp
@[simp] theorem State.switchEvent_bk (s : State) (src : BeatSrc) (auto : Nat) :
    (State.switchEvent s src auto).bk = s.bk := by simp [State.switchEvent]
@[simp] theorem State.phaseError_bk (s : State) (err : Int) :
    (State.phaseError s err).bk = s.bk := by simp [State.phaseError]
@[simp] theorem State.glitch_bk (s : State) (src : BeatSrc) (e : Nat) :
    (State.glitch s src e).bk = s.bk := by simp [State.glitch]
@[simp] theorem State.edgeInTransition_bk (s : State) (src : BeatSrc) (e : Nat) (num : Option Nat) (tr : Transition) :
    (State.edgeInTransition s src e num tr).bk = s.bk := by simp [State.edgeInTransition]
@[simp] theorem State.edgeInSeeking_bk (s : State) (src : BeatSrc) (e : Nat) (num : Option Nat) (lock : Option (List Nat)) :
    (State.edgeInSeeking s src e num lock).bk = s.bk := by unfold State.edgeInSeeking; (repeat' split) <;> simp
@[simp] theorem State.edgeInSelf_bk (s : State) (src : BeatSrc) (lock : Option (List Nat)) :
    (State.edgeInSelf s src lock).bk = s.bk := by simp [State.edgeInSelf]
@[simp] theorem State.echo_bk (s : State) (p : Nat) :
    (State.echo s p).bk = s.bk := by simp [State.echo]
@[simp] theorem State.autoToLink_bk (s : State) :
    (State.autoToLink s).bk = s.bk := by simp [State.autoToLink]
@[simp] theorem missedBeat_bk (s : State) :
    (missedBeat s).bk = s.bk := by simp [missedBeat]
@[simp] theorem beatSelfTimed_bk (s : State) :
    (beatSelfTimed s).bk = s.bk := by simp [beatSelfTimed]
@[simp] theorem seekingTimeout_bk (s : State) :
    (seekingTimeout s).bk = s.bk := by simp [seekingTimeout]
@[simp] theorem transitionTimeout_bk (s : State) :
    (transitionTimeout s).bk = s.bk := by unfold transitionTimeout; (repeat' split) <;> simp
@[simp] theorem State.takeSource_bk (s : State) (src : BeatSrc) :
    (State.takeSource s src).bk = s.bk := by
  unfold State.takeSource
  dsimp only
  (repeat' split) <;> first | rfl | (simp ; done) | (refine (bk_foldl _ (fun x a => ?_) _ _).trans ?_ <;> (repeat' split) <;> simp )
@[simp] theorem State.selfResize_bk (s : State) :
    (State.selfResize s).bk = s.bk := by simp [State.selfResize]
@[simp] theorem State.sourceCheck_bk (s : State) (oldMode : Nat) (oldPort : Nat) :
    (State.sourceCheck s oldMode oldPort).bk = s.bk := by simp [State.sourceCheck]
@[simp] theorem State.sendMarkers_bk (s : State) :
    (State.sendMarkers s).bk = s.bk := by simp [State.sendMarkers]
@[simp] theorem State.overruns_bk (s : State) (a1 : List (Nat × Nat)) :
    (State.overruns s a1).bk = s.bk := by
  induction a1 generalizing s with
  | nil => rfl
  | cons a r ih => unfold State.overruns; rw [ih, State.raise_bk, State.inc_bk]
@[simp] theorem State.startDiags_bk (s : State) (a1 : List Nat) :
    (State.startDiags s a1).bk = s.bk := by fun_induction State.startDiags s a1 <;> simp_all
@[simp] theorem State.quietDiags_bk (s : State) :
    (State.quietDiags s).bk = s.bk := by simp [State.quietDiags]
@[simp] theorem stepWorkEnd_bk (core : Nat) (s : State) :
    (stepWorkEnd core s).bk = s.bk := by simp [stepWorkEnd]
@[simp] theorem heartbeat_bk (u : UnitId) (s : State) :
    (heartbeat u s).bk = s.bk := by simp [heartbeat]
@[simp] theorem State.mapReqs_bk (s : State) (p : Nat → ReqS → Bool) (f : State → Nat → State) (h_f : ∀ x0 x1, (f x0 x1).bk = x0.bk) :
    (State.mapReqs s p f).bk = s.bk := by simp [State.mapReqs, h_f]
@[simp] theorem State.resetWork_bk (s : State) (u : UnitId) :
    (State.resetWork s u).bk = s.bk := by unfold State.resetWork; (repeat' split) <;> simp
@[simp] theorem State.ctrlFaulted_bk (s : State) (u : UnitId) :
    (State.ctrlFaulted s u).bk = s.bk := by simp only [State.ctrlFaulted]; (repeat' split) <;> simp 
@[simp] theorem State.ctrlRestart_bk (s : State) (u : UnitId) (failed : List Nat) :
    (State.ctrlRestart s u failed).bk = s.bk := by simp [State.ctrlRestart]
@[simp] theorem ctrlReset_bk (u : UnitId) (ward : Bool) (s : State) :
    (ctrlReset u ward s).bk = s.bk := by simp [ctrlReset]
@[simp] theorem ctrlRestartDone_bk (u : UnitId) (s : State) :
    (ctrlRestartDone u s).bk = s.bk := by unfold ctrlRestartDone; (repeat' split) <;> simp
@[simp] theorem haspHoldExpiry_bk (hc : Nat) (s : State) :
    (haspHoldExpiry hc s).bk = s.bk := by simp [haspHoldExpiry]
@[simp] theorem State.isolateNow_bk (s : State) (u : UnitId) :
    (State.isolateNow s u).bk = s.bk := by simp [State.isolateNow]
@[simp] theorem isolateManagement_bk (u : UnitId) (s : State) :
    (isolateManagement u s).bk = s.bk := by simp [isolateManagement]
@[simp] theorem stepOrder_bk (u : UnitId) (s : State) :
    (stepOrder u s).bk = s.bk := by simp [stepOrder]
@[simp] theorem quadOpenDone_bk (q : Nat) (s : State) :
    (quadOpenDone q s).bk = s.bk := by unfold quadOpenDone; (repeat' split) <;> simp
@[simp] theorem State.gateNow_bk (s : State) (q : Nat) :
    (State.gateNow s q).bk = s.bk := by simp [State.gateNow]
@[simp] theorem State.gateRefuse_bk (s : State) (q : Nat) :
    (State.gateRefuse s q).bk = s.bk := by simp [State.gateRefuse]
@[simp] theorem State.gateQuad_bk (s : State) (q : Nat) :
    (State.gateQuad s q).bk = s.bk := by simp [State.gateQuad]
@[simp] theorem State.openQuad_bk (s : State) (q : Nat) :
    (State.openQuad s q).bk = s.bk := by simp [State.openQuad]
@[simp] theorem State.reissue_bk (s : State) (r : Nat) :
    (State.reissue s r).bk = s.bk := by simp [State.reissue]
@[simp] theorem State.takeover_bk (s : State) :
    (State.takeover s).bk = s.bk := by
  unfold State.takeover
  apply bk_foldl; intro x a
  (try dsimp only)
  (repeat' split) <;> simp
@[simp] theorem State.rowsRetire_bk (s : State) :
    (State.rowsRetire s).bk = s.bk := by simp [State.rowsRetire]
@[simp] theorem State.hierBoundary_bk (s : State) :
    (State.hierBoundary s).bk = s.bk := by simp [State.hierBoundary]
@[simp] theorem State.gateBoundary_bk (s : State) :
    (State.gateBoundary s).bk = s.bk := by simp [State.gateBoundary]
@[simp] theorem State.putMap_bk (s : State) (n : Nat) (b : Bytes) :
    (State.putMap s n b).bk = s.bk := by simp [State.putMap]
@[simp] theorem State.dropMaps_bk (s : State) :
    (State.dropMaps s).bk = s.bk := by simp [State.dropMaps]
@[simp] theorem State.putSeq_bk (s : State) (i : Nat) (q : SeqS) :
    (State.putSeq s i q).bk = s.bk := by simp [State.putSeq]
@[simp] theorem State.putPage_bk (s : State) (h : Nat) (p : PageS) :
    (State.putPage s h p).bk = s.bk := by simp [State.putPage]
@[simp] theorem State.retire_bk (s : State) (kw : Nat) (bytes : Nat) (it : Retired) :
    (State.retire s kw bytes it).bk = s.bk := by simp [State.retire]
@[simp] theorem State.decRef_bk (s : State) (h : Nat) (holder : Nat) :
    (State.decRef s h holder).bk = s.bk := by simp [State.decRef]
@[simp] theorem State.decRefs_bk (s : State) (holder : Nat) (l : List Nat) :
    (State.decRefs s holder l).bk = s.bk := by simp [State.decRefs]
@[simp] theorem State.incRef_bk (s : State) (h : Nat) :
    (State.incRef s h).bk = s.bk := by simp [State.incRef]
@[simp] theorem State.makePage_bk (s : State) (q : SeqS) (idx : Nat) (l : Lane) (p : Nat) (a1 : Source) :
    (State.makePage s q idx l p a1).1.bk = s.bk := by unfold State.makePage; (repeat' split) <;> simp
@[simp] theorem State.makePages_bk (s : State) (q : SeqS) (idx : Nat) (a3 : List Plan) :
    (State.makePages s q idx a3).1.bk = s.bk := by
  induction a3 generalizing s with
  | nil => rfl
  | cons a_ r_ ih => unfold State.makePages; exact (ih _).trans (State.makePage_bk _ _ _ _ _ _)
@[simp] theorem State.treeWalk_bk (s : State) (kw : Nat) (idx : Nat) (a1 : List Nat) (a2 : List Nat) (a3 : Nat) (a4 : Nat) :
    (State.treeWalk s kw idx a1 a2 a3 a4).1.bk = s.bk := by fun_induction State.treeWalk s kw idx a1 a2 a3 a4 <;> simp_all
@[simp] theorem State.touch_bk (s : State) (l : List TreeNode) :
    (State.touch s l).bk = s.bk := by simp [State.touch]
@[simp] theorem State.evictNode_bk (s : State) (n : TreeNode) :
    (State.evictNode s n).bk = s.bk := by simp [State.evictNode]
@[simp] theorem State.evictWhile_bk (s : State) (kw : Nat) (more : State → Bool) (a3 : Nat) :
    (State.evictWhile s kw more a3).bk = s.bk := by fun_induction State.evictWhile s kw more a3 <;> simp_all
@[simp] theorem State.evictOver_bk (s : State) (kw : Nat) :
    (State.evictOver s kw).bk = s.bk := by simp [State.evictOver]
@[simp] theorem State.evictFor_bk (s : State) (q : SeqS) (bytes : Nat) :
    (State.evictFor s q bytes).bk = s.bk := by simp [State.evictFor]
@[simp] theorem State.evictGone_bk (s : State) :
    (State.evictGone s).bk = s.bk := by
  unfold State.evictGone; apply bk_foldl; intro x a; simp
@[simp] theorem State.evictAll_bk (s : State) (kw : Nat) :
    (State.evictAll s kw).bk = s.bk := by
  unfold State.evictAll; apply bk_foldl; intro x a; simp
@[simp] theorem State.freeWaste_bk (s : State) (w : Waste) :
    (State.freeWaste s w).bk = s.bk := by simp [State.freeWaste]
@[simp] theorem State.freeRetired_bk (s : State) (frees : Option Nat) :
    (State.freeRetired s frees).bk = s.bk := by simp [State.freeRetired]
@[simp] theorem State.dropSeq_bk (s : State) (i : Nat) :
    (State.dropSeq s i).bk = s.bk := by simp [State.dropSeq]
@[simp] theorem State.swapRoot_bk (s : State) (i : Nat) :
    (State.swapRoot s i).bk = s.bk := by simp [State.swapRoot]
@[simp] theorem State.rootSwaps_bk (s : State) :
    (State.rootSwaps s).bk = s.bk := by simp [State.rootSwaps]
@[simp] theorem State.firstRoot_bk (s : State) (i : Nat) (q : SeqS) (upto : Nat) (l : List Plan) :
    ∀ t, State.firstRoot s i q upto l = some t → t.bk = s.bk := by intro t h; simp only [State.firstRoot] at h; (repeat' split at h) <;> simp_all <;> (first | (subst h; simp) | (rw [← h]; simp))
@[simp] theorem State.buildRoot_bk (s : State) (i : Nat) :
    (State.buildRoot s i).bk = s.bk := by
  unfold State.buildRoot
  dsimp only
  (repeat' split) <;> first
    | with_reducible rfl
    | (simp; done)
    | (rw [State.putSeq_bk]; refine (bk_foldl _ (fun x a => ?_) _ _).trans ?_ <;> first | (split <;> simp; done) | (simp; done))
@[simp] theorem State.addNodes_bk (s : State) (q : SeqS) (pages : List Nat) (a3 : Nat) (a4 : Nat) (a5 : Nat) (a6 : List Nat) :
    (State.addNodes s q pages a3 a4 a5 a6).bk = s.bk := by
  induction a3 generalizing s a4 a5 a6 with
  | zero => rfl
  | succ n_ ih =>
    unfold State.addNodes
    (try dsimp only)
    (repeat' split) <;> (first | rfl | (simp [ih]; done) | (rw [ih]; simp) | (rw [ih, bk_foldl _ (fun x a => by simp)]; simp))
@[simp] theorem State.sealPage_bk (s : State) (i : Nat) (p : Nat) :
    (State.sealPage s i p).bk = s.bk := by simp only [State.sealPage]; (repeat' split) <;> simp
@[simp] theorem State.sealPages_bk (s : State) (i : Nat) :
    (State.sealPages s i).bk = s.bk := by simp [State.sealPages]
@[simp] theorem State.faultSeq_bk (s : State) (i : Nat) (cluster : Nat) (f : KvFault) :
    (State.faultSeq s i cluster f).bk = s.bk := by unfold State.faultSeq; (repeat' split) <;> simp
@[simp] theorem State.kvBlocks_bk (s : State) (kw : Nat) (fmt : Nat) (a3 : List (List F32)) :
    (State.kvBlocks s kw fmt a3).1.bk = s.bk := by
  induction a3 generalizing s with
  | nil => rfl
  | cons x r ih =>
    unfold State.kvBlocks
    have i1 := ih s
    have i2 := fun n => ih (s.countNarrow kw n)
    simp only [State.countNarrow_bk] at i2
    try dsimp only
    (repeat' split) <;> first | (simp; done) | (have h := ‹State.kvBlocks _ _ _ _ = _›; rw [h] at i1; exact i1) | (have h := ‹State.kvBlocks _ _ _ _ = _›; have j := i2 ‹_›; rw [h] at j; exact j)
theorem State.kvBlocks_bk' {s : State} {kw : Nat} {fmt : Nat} {a3 : List (List F32)} {t_ : State} {y_} (h : State.kvBlocks s kw fmt a3 = (t_, y_)) : t_.bk = s.bk := by
  have k := State.kvBlocks_bk s kw fmt a3; rw [h] at k; exact k
@[simp] theorem State.kvHeads_bk (s : State) (kw : Nat) (fmt : Nat) (dims : Nat) (a4 : List (List F32)) :
    (State.kvHeads s kw fmt dims a4).1.bk = s.bk := by
  induction a4 generalizing s with
  | nil => rfl
  | cons x r ih =>
    unfold State.kvHeads
    try dsimp only
    split
    · exact State.kvBlocks_bk' ‹_›
    · have k := State.kvBlocks_bk' ‹_›
      have i1 := ih ‹State›
      split <;> (have h := ‹State.kvHeads _ _ _ _ _ = _›; rw [h] at i1; exact i1.trans k)
theorem State.kvHeads_bk' {s : State} {kw : Nat} {fmt : Nat} {dims : Nat} {a4 : List (List F32)} {t_ : State} {y_} (h : State.kvHeads s kw fmt dims a4 = (t_, y_)) : t_.bk = s.bk := by
  have k := State.kvHeads_bk s kw fmt dims a4; rw [h] at k; exact k
@[simp] theorem State.writePos_bk (s : State) (i : Nat) (n : Nat) (cluster : Nat) (q : SeqS) (pos : Nat) (ks : List (List F32)) (vs : List (List F32)) :
    (State.writePos s i n cluster q pos ks vs).1.bk = s.bk := by
  unfold State.writePos
  (try dsimp only)
  (repeat' split) <;> first | (simp; done) | (simp; exact State.kvHeads_bk' ‹_›) | (simp; exact (State.kvHeads_bk' ‹_›).trans (State.kvHeads_bk' ‹_›)) | skip
theorem State.writePos_bk' {s : State} {i : Nat} {n : Nat} {cluster : Nat} {q : SeqS} {pos : Nat} {ks : List (List F32)} {vs : List (List F32)} {t_ : State} {y_} (h : State.writePos s i n cluster q pos ks vs = (t_, y_)) : t_.bk = s.bk := by
  have k := State.writePos_bk s i n cluster q pos ks vs; rw [h] at k; exact k
@[simp] theorem State.writeAll_bk (s : State) (i : Nat) (n : Nat) (cluster : Nat) (q : SeqS) (a4 : Nat) (a5 : List (List (List F32) × List (List F32))) :
    (State.writeAll s i n cluster q a4 a5).1.bk = s.bk := by
  induction a5 generalizing s a4 with
  | nil => unfold State.writeAll; rfl
  | cons a_ r_ ih =>
    unfold State.writeAll
    split
    · exact State.writePos_bk' ‹_›
    · exact (ih _ _).trans (State.writePos_bk' ‹_›)
theorem State.writeAll_bk' {s : State} {i : Nat} {n : Nat} {cluster : Nat} {q : SeqS} {a4 : Nat} {a5 : List (List (List F32) × List (List F32))} {t_ : State} {y_} (h : State.writeAll s i n cluster q a4 a5 = (t_, y_)) : t_.bk = s.bk := by
  have k := State.writeAll_bk s i n cluster q a4 a5; rw [h] at k; exact k
@[simp] theorem State.rows_bk (s : State) (i : Nat) (n : Nat) (cluster : Nat) (q : SeqS) (a4 : Nat) (a5 : List QRow) :
    (State.rows s i n cluster q a4 a5).bk = s.bk := by
  induction a5 generalizing s a4 with
  | nil => unfold State.rows; rfl
  | cons a_ r_ ih =>
    unfold State.rows
    (try dsimp only)
    (repeat' split) <;> (first | (simp; done) | (rw [ih]; simp; done) | rw [ih]; rfl)
@[simp] theorem laneTask_bk (w : LaneWork) (s : State) :
    (laneTask w s).bk = s.bk := by
  have ha : ∀ (x y : State) b, State.writeAll x w.seq w.lane w.cluster (s.stepSeq w.seq) w.first (w.keys.zip w.vals) = (y, b) → x.bk = s.bk →
      y.bk = s.bk := fun x y b h hx => (State.writeAll_bk' h).trans hx
  unfold laneTask
  dsimp only
  split
  · simp
  split
  · rfl
  split
  · rename_i hh; exact ha _ _ _ hh rfl
  · rename_i hh; exact (State.rows_bk _ _ _ _ _ _ _).trans (ha _ _ _ hh rfl)
@[simp] theorem laneDone_bk (seq : Nat) (lane : Nat) (s : State) :
    (laneDone seq lane s).bk = s.bk := by simp [laneDone]
@[simp] theorem submitTail_bk (fn : Nat) (tail : Nat) (host : List HostCell) (s : State) :
    (submitTail fn tail host s).bk = s.bk := by simp [submitTail]
@[simp] theorem serveStatusRead_bk (fn : Nat) (s : State) :
    (serveStatusRead fn s).bk = s.bk := by simp [serveStatusRead]
@[simp] theorem State.cancelReq_bk (s : State) (kw : Nat) (i : Nat) (via : Nat) :
    (State.cancelReq s kw i via).bk = s.bk := by simp [State.cancelReq]
@[simp] theorem State.rearmReq_bk (s : State) (kw : Nat) (i : Nat) :
    (State.rearmReq s kw i).bk = s.bk := by simp [State.rearmReq]
@[simp] theorem specRearm_bk (i : Nat) (s : State) :
    (specRearm i s).bk = s.bk := by simp [specRearm]
@[simp] theorem tokenGapEnd_bk (fn : Nat) (s : State) :
    (tokenGapEnd fn s).bk = s.bk := by simp [tokenGapEnd]
@[simp] theorem State.endIf_bk (s : State) (i : Nat) (cause : Nat) (p : Bool) :
    (State.endIf s i cause p).bk = s.bk := by simp [State.endIf]
@[simp] theorem State.deliver_bk (s : State) (i : Nat) (late : Bool) (a3 : Nat) (a4 : List OutTok) :
    (State.deliver s i late a3 a4).bk = s.bk := by
  induction a4 generalizing s a3 with
  | nil => rfl
  | cons a_ r_ ih => unfold State.deliver; rw [ih]; simp
@[simp] theorem State.draftStep_bk (s : State) (i : Nat) (l : Nat) (a : Nat) :
    (State.draftStep s i l a).bk = s.bk := by simp [State.draftStep]
@[simp] theorem State.commitSeq_bk (s : State) (i : Nat) (n : Nat) (toks : List Nat) :
    (State.commitSeq s i n toks).bk = s.bk := by simp [State.commitSeq]
@[simp] theorem State.stepTokens_bk (s : State) (i : Nat) (n : Nat) (l : Nat) (toks : List (Nat × Nat × Bool)) :
    (State.stepTokens s i n l toks).bk = s.bk := by simp only [State.stepTokens]; (repeat' split) <;> simp
@[simp] theorem State.handSample_bk (s : State) (i : Nat) (n : Nat) (tok : Nat × Nat) :
    (State.handSample s i n tok).bk = s.bk := by simp [State.handSample]
@[simp] theorem tokenSample_bk (i : Nat) (logits : List (List F32)) (drafts : List (Nat × List F32)) (s : State) :
    (tokenSample i logits drafts s).bk = s.bk := by simp only [tokenSample]; (repeat' split) <;> simp
@[simp] theorem State.leaveStep_bk (s : State) (i : Nat) :
    (State.leaveStep s i).bk = s.bk := by simp only [State.leaveStep]; (repeat' split) <;> simp
@[simp] theorem State.leaveSteps_bk (s : State) :
    (State.leaveSteps s).bk = s.bk := by simp [State.leaveSteps]
@[simp] theorem State.freeEntry_bk (s : State) (i : Nat) :
    (State.freeEntry s i).bk = s.bk := by simp [State.freeEntry]
@[simp] theorem State.stepRecord_bk (s : State) (i : Nat) :
    (State.stepRecord s i).bk = s.bk := by simp [State.stepRecord]
@[simp] theorem State.item3_bk (s : State) (i : Nat) :
    (State.item3 s i).bk = s.bk := by simp only [State.item3]; (repeat' split) <;> simp
@[simp] theorem State.items3_bk (s : State) (frees : Option Nat) :
    (State.items3 s frees).bk = s.bk := by simp [State.items3]
@[simp] theorem State.refuse_bk (s : State) (kw : Nat) (d : Bytes) (head : Nat) (why : Nat) :
    (State.refuse s kw d head why).bk = s.bk := by simp [State.refuse]
@[simp] theorem State.takeOne_bk (s : State) (fn : Nat) (i : Nat) :
    (State.takeOne s fn i).bk = s.bk := by simp [State.takeOne]
@[simp] theorem State.takeRing_bk (s : State) (fn : Nat) (a2 : Nat) :
    (State.takeRing s fn a2).bk = s.bk := by
  induction a2 generalizing s with
  | zero => rw [State.takeRing]
  | succ n ih =>
    rw [State.takeRing]
    split
    · rfl
    · cases s.freeIndex with
      | none => rfl
      | some i => exact (ih _).trans (State.takeOne_bk _ _ _)
@[simp] theorem State.takeAll_bk (s : State) :
    (State.takeAll s).bk = s.bk := by simp [State.takeAll]
@[simp] theorem State.readPrompt_bk (s : State) (r : ReqS) :
    (State.readPrompt s r).1.bk = s.bk := by simp only [State.readPrompt]; (repeat' split) <;> simp 
end Sys2Proof.Machine
end

