-- ==== Sys2Proof/Laws/Phase3.lean ====
section
/-! SUPPORT. Laws/Phase3.lean: operations that leave it as it was (part 3 of 4, each operation after those it calls). -/
namespace Sys2Proof.Machine
open Sys2Proof
@[simp] theorem State.announce_bk (s : State) (i : Nat) :
    (State.announce s i).bk = s.bk := by simp [State.announce]
@[simp] theorem State.admitToks_bk (s : State) (i : Nat) (v : Version) (map : Bytes) (draft : Option (Version × Bytes)) (toks : List Nat) :
    (State.admitToks s i v map draft toks).1.bk = s.bk := by
  unfold State.admitToks
  dsimp only
  have tw : ∀ (b : Prop) [Decidable b] (x : State) (c d e f g h), (if b then x.treeWalk c d e f g h else (x, [])).1.bk = x.bk := by
    intro b _ x c d e f g h; split <;> simp
  split
  · simp [tw]
  · have h := State.firstRoot_bk _ _ _ _ _ _ ‹_›
    simp [tw] at h
    simp [h]
theorem State.admitToks_bk' {s : State} {i : Nat} {v : Version} {map : Bytes} {draft : Option (Version × Bytes)} {toks : List Nat} {t_ : State} {y_} (h : State.admitToks s i v map draft toks = (t_, y_)) : t_.bk = s.bk := by
  have k := State.admitToks_bk s i v map draft toks; rw [h] at k; exact k
@[simp] theorem State.admitNew_bk (s : State) (i : Nat) (v : Version) (map : Bytes) (draft : Option (Version × Bytes)) :
    (State.admitNew s i v map draft).1.bk = s.bk := by
  unfold State.admitNew
  dsimp only
  have h := State.readPrompt_bk s (s.req i)
  split
  · rename_i hh; rw [hh] at h; simpa using h
  · rename_i hh; rw [hh] at h
    split
    · rw [State.note_bk]; exact (State.admitToks_bk' ‹_›).trans h
    · exact (State.admitToks_bk _ _ _ _ _ _).trans h
@[simp] theorem State.admitTrain_bk (s : State) (i : Nat) (h : HandIn) :
    (State.admitTrain s i h).bk = s.bk := by simp [State.admitTrain]
@[simp] theorem State.admitOne_bk (s : State) (i : Nat) :
    (State.admitOne s i).1.bk = s.bk := by simp only [State.admitOne]; (repeat' split) <;> simp
theorem State.admitOne_bk' {s : State} {i : Nat} {t_ : State} {y_} (h : State.admitOne s i = (t_, y_)) : t_.bk = s.bk := by
  have k := State.admitOne_bk s i; rw [h] at k; exact k
@[simp] theorem State.admitList_bk (s : State) (a1 : List Nat) (a2 : Nat) :
    (State.admitList s a1 a2).bk = s.bk := by
  induction a1 generalizing s a2 with
  | nil => unfold State.admitList; simp
  | cons a r ih =>
    cases a2 with
    | zero => unfold State.admitList; simp
    | succ n =>
      unfold State.admitList
      split <;> exact (ih _ _).trans (State.admitOne_bk' ‹_›)
@[simp] theorem State.admit_bk (s : State) (haspIn : List Nat) (n : Nat) :
    (State.admitUpTo s haspIn n).bk = s.bk := by simp [State.admitUpTo]
@[simp] theorem State.items4_bk (s : State) (admits : Option Nat) :
    (State.items4 s admits).bk = s.bk := by simp [State.items4]
@[simp] theorem State.readCons_bk (s : State) (i : Nat) :
    (State.readCons s i).bk = s.bk := by simp [State.readCons]
@[simp] theorem State.estOf_bk (s : State) (slot : Nat) (version : Nat) :
    (State.estOf s slot version).1.bk = s.bk := by unfold State.estOf; (repeat' split) <;> simp
@[simp] theorem State.plan_bk (s : State) (slot : Nat) (version : Nat) (c : Nat × Nat) :
    (State.plan s slot version c).bk = s.bk := by simp [State.plan]
@[simp] theorem State.scaleEsts_bk (s : State) (costs : List StepCost) :
    (State.scaleEsts s costs).bk = s.bk := by simp [State.scaleEsts]
@[simp] theorem State.enter_bk (s : State) (i : Nat) (b : BatchItem) :
    (State.enter s i b).bk = s.bk := by simp [State.enter]
@[simp] theorem State.stall_bk (s : State) (i : Nat) :
    (State.stall s i).bk = s.bk := by simp [State.stall]
@[simp] theorem State.lackPage_bk (s : State) (i : Nat) (upto : Nat) :
    (State.lackPage s i upto).bk = s.bk := by simp [State.lackPage]
@[simp] theorem State.placeDecode_bk (s : State) (m : Room) (i : Nat) :
    (State.placeDecode s m i).1.bk = s.bk := by simp only [State.placeDecode]; (repeat' split) <;> simp
@[simp] theorem State.placePrefill_bk (s : State) (m : Room) (i : Nat) :
    (State.placePrefill s m i).1.bk = s.bk := by simp only [State.placePrefill]; (repeat' split) <;> simp
@[simp] theorem State.placeDecodes_bk (s : State) (m : Room) (a2 : List Nat) :
    (State.placeDecodes s m a2).1.bk = s.bk := by
  induction a2 generalizing s m with
  | nil => rfl
  | cons a_ r_ ih => unfold State.placeDecodes; exact (ih _ _).trans (State.placeDecode_bk _ _ _)
@[simp] theorem State.placePrefills_bk (s : State) (m : Room) (a2 : List Nat) :
    (State.placePrefills s m a2).1.bk = s.bk := by
  induction a2 generalizing s m with
  | nil => rfl
  | cons a_ r_ ih => unfold State.placePrefills; exact (ih _ _).trans (State.placePrefill_bk _ _ _)
@[simp] theorem State.beforeBuild_bk (s : State) (i : Nat) :
    (State.beforeBuild s i).bk = s.bk := by simp [State.beforeBuild]
@[simp] theorem State.buildPart_bk (s : State) (haspIn : List Nat) (m : Room) :
    (State.buildPart s haspIn m).bk = s.bk := by simp [State.buildPart]
@[simp] theorem State.items5_bk (s : State) (costs : List StepCost) :
    (State.items5 s costs).bk = s.bk := by simp [State.items5]
@[simp] theorem haspWork_bk (hc : Nat) (s : State) :
    (haspWork hc s).bk = s.bk := by simp [haspWork]
@[simp] theorem State.histClear_bk (s : State) (kw : Nat) :
    (State.histClear s kw).bk = s.bk := by simp [State.histClear]
@[simp] theorem State.putLregs_bk (s : State) (fn : Nat) (r : LatchRegs) :
    (State.putLregs s fn r).bk = s.bk := by simp [State.putLregs]
@[simp] theorem State.queueCpl_bk (s : State) (fn : Nat) (num : Nat) (tag : Nat) (count : Nat) (st : LStat) :
    (State.queueCpl s fn num tag count st).bk = s.bk := by simp [State.queueCpl]
@[simp] theorem State.latchReply_bk (s : State) (f : HFrame) (count : Nat) (st : LStat) :
    (State.latchReply s f count st).bk = s.bk := by simp [State.latchReply]
@[simp] theorem State.waitDone_bk (s : State) (by_ : WaiterBy) (num : Nat) (count : Nat) (st : LStat) :
    (State.waitDone s by_ num count st).bk = s.bk := by unfold State.waitDone; (repeat' split) <;> simp
@[simp] theorem State.waitsDone_bk (s : State) (count : Waiter → Nat) (st : LStat) (a1 : List Waiter) :
    (State.waitsDone s count st a1).bk = s.bk := by fun_induction State.waitsDone s count st a1 <;> simp_all
@[simp] theorem State.dropWaiters_bk (s : State) (p : Waiter → Bool) :
    (State.dropWaiters s p).bk = s.bk := by simp [State.dropWaiters]
@[simp] theorem State.completeWaiters_bk (s : State) (p : Waiter → Bool) (st : LStat) :
    (State.completeWaiters s p st).bk = s.bk := by simp [State.completeWaiters]
@[simp] theorem State.latchTo_bk (s : State) (p : Nat) (v : Nat) :
    (State.latchTo s p v).bk = s.bk := by simp [State.latchTo]
@[simp] theorem State.latchUsed_bk (s : State) (kw : Nat) (p : Nat) :
    (State.latchUsed s kw p).bk = s.bk := by simp [State.latchUsed]
@[simp] theorem State.latchRefused_bk (s : State) (kw : Nat) (st : LStat) :
    (State.latchRefused s kw st).1.bk = s.bk := by simp [State.latchRefused]
@[simp] theorem State.latchNow_bk (s : State) (kw : Nat) (num : Nat) (op : Nat) (v : Nat) :
    (State.latchNow s kw num op v).1.bk = s.bk := by simp only [State.latchNow]; (repeat' split) <;> simp
@[simp] theorem State.latchWait_bk (s : State) (by_ : WaiterBy) (num : Nat) (target : Nat) (timeout : Nat) :
    (State.latchWait s by_ num target timeout).bk = s.bk := by simp only [State.latchWait]; (repeat' split) <;> simp
@[simp] theorem State.hostReply_bk (s : State) (fn : Nat) (count : Nat) (st : LStat) :
    (State.hostReply s fn count st).bk = s.bk := by simp [State.hostReply]
@[simp] theorem State.remoteEnd_bk (s : State) (who : LatchUser) (num : Nat) (op : Nat) (count : Nat) (st : LStat) :
    (State.remoteEnd s who num op count st).bk = s.bk := by unfold State.remoteEnd; (repeat' split) <;> simp
@[simp] theorem State.remoteLost_bk (s : State) (who : LatchUser) (num : Nat) (op : Nat) :
    (State.remoteLost s who num op).bk = s.bk := by simp [State.remoteLost]
@[simp] theorem State.latchRemote_bk (s : State) (who : LatchUser) (kw : Nat) (owner : Nat) (num : Nat) (op : Nat) (v : Nat) (timeout : Nat) (tag : Nat) :
    (State.latchRemote s who kw owner num op v timeout tag).bk = s.bk := by simp [State.latchRemote]
@[simp] theorem latchCommand_bk (w : LatchUser) (num : Nat) (op : Nat) (v : Nat) (timeout : Nat) (s : State) :
    (latchCommand w num op v timeout s).bk = s.bk := by simp only [latchCommand]; (repeat' split) <;> simp
@[simp] theorem State.countTimeouts_bk (s : State) (a1 : List Waiter) :
    (State.countTimeouts s a1).bk = s.bk := by fun_induction State.countTimeouts s a1 <;> simp_all
@[simp] theorem latchTimeout_bk (p : Nat) (s : State) :
    (latchTimeout p s).bk = s.bk := by simp [latchTimeout]
@[simp] theorem cplWrite_bk (fn : Nat) (s : State) :
    (cplWrite fn s).bk = s.bk := by simp only [cplWrite]; (repeat' split) <;> simp
@[simp] theorem latchCplCons_bk (fn : Nat) (v : Nat) (s : State) :
    (latchCplCons fn v s).bk = s.bk := by simp [latchCplCons]
@[simp] theorem latchStatusRead_bk (fn : Nat) (s : State) :
    (latchStatusRead fn s).bk = s.bk := by simp [latchStatusRead]
@[simp] theorem State.clearLatches_bk (s : State) (r : Nat × Nat) :
    (State.clearLatches s r).bk = s.bk := by simp [State.clearLatches]
@[simp] theorem State.unwrapFail_bk (s : State) (kw : Nat) :
    (State.unwrapFail s kw).1.bk = s.bk := by simp [State.unwrapFail]
@[simp] theorem State.keyInstall_bk (s : State) (own : Option Nat) (b : Bytes) :
    (State.keyInstall s own b).1.bk = s.bk := by simp only [State.keyInstall]; (repeat' split) <;> simp
@[simp] theorem State.closeKey_bk (s : State) (n : Nat) :
    (State.closeKey s n).bk = s.bk := by simp [State.closeKey]
@[simp] theorem State.zeroKey_bk (s : State) (n : Nat) :
    (State.zeroKey s n).bk = s.bk := by simp [State.zeroKey]
@[simp] theorem State.keyBoundary_bk (s : State) (n : Nat) :
    (State.keyBoundary s n).bk = s.bk := by simp only [State.keyBoundary]; (repeat' split) <;> simp
@[simp] theorem State.keysBoundary_bk (s : State) :
    (State.keysBoundary s).bk = s.bk := by simp [State.keysBoundary]
@[simp] theorem keyDestroy_bk (n : Nat) (s : State) :
    (keyDestroy n s).bk = s.bk := by simp only [keyDestroy]; (repeat' split) <;> simp
@[simp] theorem State.mgmtInstall_bk (s : State) (claim : Bool) (b : Bytes) :
    (State.mgmtInstall s claim b).1.bk = s.bk := by simp only [State.mgmtInstall]; (repeat' split) <;> simp 
@[simp] theorem State.newNonce_bk (s : State) :
    (State.newNonce s).bk = s.bk := by simp [State.newNonce]
@[simp] theorem State.lcRefuse_bk (s : State) :
    (State.lcRefuse s).1.bk = s.bk := by simp [State.lcRefuse]
@[simp] theorem State.lcRequest_bk (s : State) (keyed : Bool) (b : Bytes) :
    (State.lcRequest s keyed b).1.bk = s.bk := by simp only [State.lcRequest]; (repeat' split) <;> simp 
@[simp] theorem State.debugUnlock_bk (s : State) (b : Bytes) :
    (State.debugUnlock s b).1.bk = s.bk := by
  have n := State.newNonce_bk s
  simp only [State.bk] at n
  unfold State.debugUnlock
  (repeat' split) <;> first | rfl | (simp; done) | (simp; exact n)
@[simp] theorem State.putStage_bk (s : State) (c : SpdmConn) (n : Nat) :
    (State.putStage s c n).bk = s.bk := by simp [State.putStage]
@[simp] theorem State.spdmAt_bk (s : State) (c : SpdmConn) (stage : Nat) (f : State → State × SpdmMsg) (h_f : ∀ x0, (f x0).1.bk = x0.bk) :
    (State.spdmAt s c stage f).bk = s.bk := by
  unfold State.spdmAt
  split
  · rfl
  split
  · simp
  · exact (State.emit_bk _ _).trans (h_f s)
@[simp] theorem ideKm_bk (kw : Nat) (stream : Nat) (k : Nat) (s : State) :
    (ideKm kw stream k s).bk = s.bk := by simp [ideKm]
@[simp] theorem configRequest_bk (fn : Nat) (write : Bool) (reg : Nat) (v : Nat) (s : State) :
    (configRequest fn write reg v s).bk = s.bk := by simp [configRequest]
@[simp] theorem State.takeWindow_bk (s : State) (n : Nat) :
    (State.takeWindow s n).bk = s.bk := by simp [State.takeWindow]
@[simp] theorem State.clearCounters_bk (s : State) (n : Nat) :
    (State.clearCounters s n).bk = s.bk := by simp [State.clearCounters]
@[simp] theorem State.clearView_bk (s : State) (n : Nat) :
    (State.clearView s n).bk = s.bk := by simp [State.clearView]
@[simp] theorem State.kwOpen_bk (s : State) (n : Nat) :
    (State.kwOpen s n).bk = s.bk := by simp [State.kwOpen]
@[simp] theorem State.kwOpenFailed_bk (s : State) (n : Nat) :
    (State.kwOpenFailed s n).bk = s.bk := by simp [State.kwOpenFailed]
@[simp] theorem State.resetFunction_bk (s : State) (n : Nat) :
    (State.resetFunction s n).bk = s.bk := by simp [State.resetFunction]
@[simp] theorem State.removalBegin_bk (s : State) (n : Nat) (st : Removal) (reset : Bool) :
    (State.removalBegin s n st reset).bk = s.bk := by simp [State.removalBegin]
@[simp] theorem State.kwClose_bk (s : State) (n : Nat) :
    (State.kwClose s n).bk = s.bk := by simp [State.kwClose]
@[simp] theorem State.kwReset_bk (s : State) (n : Nat) :
    (State.kwReset s n).bk = s.bk := by simp only [State.kwReset]; (repeat' split) <;> simp
@[simp] theorem State.removalStep2_bk (s : State) (n : Nat) :
    (State.removalStep2 s n).bk = s.bk := by simp [State.removalStep2]
@[simp] theorem State.flowGone_bk (s : State) (f : Flow) :
    (State.flowGone s f).bk = s.bk := by unfold State.flowGone; (repeat' split) <;> simp
@[simp] theorem State.dropTrain_bk (s : State) (x : RxTrain) :
    (State.dropTrain s x).bk = s.bk := by simp [State.dropTrain]
@[simp] theorem State.dropTransfers_bk (s : State) (n : Nat) :
    (State.dropTransfers s n).bk = s.bk := by simp [State.dropTransfers]
@[simp] theorem keyDrain_bk (n : Nat) (s : State) :
    (keyDrain n s).bk = s.bk := by simp [keyDrain]
@[simp] theorem State.freeSlot_bk (s : State) (n : Nat) :
    (State.freeSlot s n).bk = s.bk := by simp [State.freeSlot]
@[simp] theorem State.removalStep4_bk (s : State) (n : Nat) :
    (State.removalStep4 s n).bk = s.bk := by simp [State.removalStep4]
@[simp] theorem State.removalStep5_bk (s : State) (n : Nat) :
    (State.removalStep5 s n).bk = s.bk := by simp [State.removalStep5]
@[simp] theorem State.removalEnd_bk (s : State) (n : Nat) :
    (State.removalEnd s n).bk = s.bk := by simp [State.removalEnd]
@[simp] theorem State.removalPre_bk (s : State) (n : Nat) :
    (State.removalPre s n).bk = s.bk := by simp only [State.removalPre]; (repeat' split) <;> simp
@[simp] theorem State.removalItem3_bk (s : State) (n : Nat) :
    (State.removalItem3 s n).bk = s.bk := by unfold State.removalItem3; (repeat' split) <;> simp
@[simp] theorem State.endNow_bk (s : State) (i : Nat) :
    (State.endNow s i).bk = s.bk := by simp [State.endNow]
@[simp] theorem State.removeAtOnce_bk (s : State) (n : Nat) :
    (State.removeAtOnce s n).bk = s.bk := by simp [State.removeAtOnce]
@[simp] theorem State.kwForce_bk (s : State) (n : Nat) :
    (State.kwForce s n).bk = s.bk := by simp [State.kwForce]
@[simp] theorem State.removalSeek_bk (s : State) (n : Nat) :
    (State.removalSeek s n).bk = s.bk := by unfold State.removalSeek; (repeat' split) <;> simp
@[simp] theorem State.fillKw_bk (s : State) (kw : Nat) (addr : Nat) (b : Bytes) :
    ∀ t, State.fillKw s kw addr b = some t → t.bk = s.bk := by intro t h; simp only [State.fillKw] at h; (repeat' split at h) <;> simp_all <;> (first | (subst h; simp) | (rw [← h]; simp))
@[simp] theorem State.noteAdapters_bk (s : State) (kw : Nat) (ds : List Bytes) :
    (State.noteAdapters s kw ds).bk = s.bk := by simp [State.noteAdapters]
@[simp] theorem State.adapterLoad_bk (s : State) (kw : Nat) (req : Bytes) (buf : Option Bytes) :
    (State.adapterLoad s kw req buf).1.bk = s.bk := by
  unfold State.adapterLoad
  dsimp only
  (repeat' split) <;> first | rfl | (simp; done) | exact ((State.noteAdapters_bk _ _ _).trans (State.fillKw_bk _ _ _ _ _ ‹_›)).trans (State.emit_bk _ _)
@[simp] theorem State.memMove_bk (s : State) (kw : Nat) (bytes : Nat) :
    (State.memMove s kw bytes).bk = s.bk := by simp [State.memMove]
@[simp] theorem State.handFail_bk (s : State) (i : Nat) (status : Nat) :
    (State.handFail s i status).bk = s.bk := by simp [State.handFail]
@[simp] theorem State.trainFail_bk (s : State) (f : Flow) (status : Nat) :
    (State.trainFail s f status).bk = s.bk := by unfold State.trainFail; (repeat' split) <;> simp
@[simp] theorem State.shardMissing_bk (s : State) (slot : Nat) (index : Nat) :
    (State.shardMissing s slot index).bk = s.bk := by unfold State.shardMissing; (repeat' split) <;> simp
@[simp] theorem State.flowLost_bk (s : State) (f : Flow) :
    (State.flowLost s f).bk = s.bk := by unfold State.flowLost; (repeat' split) <;> simp
@[simp] theorem State.reroute_bk (s : State) (f : Flow) :
    (State.reroute s f).bk = s.bk := by simp only [State.reroute]; (repeat' split) <;> simp
@[simp] theorem State.rerouteDead_bk (s : State) :
    (State.rerouteDead s).bk = s.bk := by simp [State.rerouteDead]
@[simp] theorem linkTrained_bk (p : Nat) (lanes : Nat) (s : State) :
    (linkTrained p lanes s).bk = s.bk := by simp [linkTrained]
@[simp] theorem State.relive_bk (s : State) (a : Nat) :
    (State.relive s a).bk = s.bk := by simp [State.relive]
@[simp] theorem identArrived_bk (p : Nat) (f : HFrame) (trip : Nat) (s : State) :
    (identArrived p f trip s).bk = s.bk := by unfold identArrived; (repeat' split) <;> simp
@[simp] theorem linkDown_bk (p : Nat) (s : State) :
    (linkDown p s).bk = s.bk := by simp [linkDown]
@[simp] theorem frameReplay_bk (p : Nat) (again : Bool) (s : State) :
    (frameReplay p again s).bk = s.bk := by simp [frameReplay]
@[simp] theorem laneDegraded_bk (p : Nat) (lanes : Nat) (s : State) :
    (laneDegraded p lanes s).bk = s.bk := by simp [laneDegraded]
@[simp] theorem State.portOpen_bk (s : State) (p : Nat) :
    (State.portOpen s p).bk = s.bk := by simp [State.portOpen]
@[simp] theorem State.portOff_bk (s : State) (p : Nat) :
    (State.portOff s p).bk = s.bk := by simp [State.portOff]
@[simp] theorem State.echoTick_bk (s : State) (p : Nat) :
    (State.echoTick s p).bk = s.bk := by simp [State.echoTick]
@[simp] theorem State.echoTicks_bk (s : State) :
    (State.echoTicks s).bk = s.bk := by simp [State.echoTicks]
@[simp] theorem echoMissing_bk (p : Nat) (s : State) :
    (echoMissing p s).bk = s.bk := by simp [echoMissing]
@[simp] theorem State.stageMap_bk (s : State) (b : Bytes) :
    (State.stageMap s b).bk = s.bk := by simp [State.stageMap]
@[simp] theorem State.applyMap_bk (s : State) :
    (State.applyMap s).bk = s.bk := by unfold State.applyMap; (repeat' split) <;> simp
@[simp] theorem reachSend_bk (occ : List Nat) (s : State) :
    (reachSend occ s).bk = s.bk := by simp [reachSend]
@[simp] theorem reachArrived_bk (p : Nat) (f : HFrame) (s : State) :
    (reachArrived p f s).bk = s.bk := by unfold reachArrived; (repeat' split) <;> simp
@[simp] theorem State.noteFlood_bk (s : State) (src : Nat) (flow : Nat) :
    (State.noteFlood s src flow).bk = s.bk := by simp [State.noteFlood]
@[simp] theorem State.flood_bk (s : State) (type : Nat) (pay : Bytes) :
    (State.flood s type pay).bk = s.bk := by simp [State.flood]
@[simp] theorem State.floodIn_bk (s : State) (p : Nat) (ty : Nat) (f : HFrame) (k : State → State) (h_k : ∀ x0, (k x0).bk = x0.bk) :
    (State.floodIn s p ty f k).bk = s.bk := by simp [State.floodIn, h_k]
@[simp] theorem State.forward_bk (s : State) (f : HFrame) :
    (State.forward s f).bk = s.bk := by simp only [State.forward]; (repeat' split) <;> simp
@[simp] theorem State.openHere_bk (s : State) (p : Nat) (f : HFrame) :
    (State.openHere s p f).1.bk = s.bk := by unfold State.openHere; (repeat' split) <;> simp
theorem State.openHere_bk' {s : State} {p : Nat} {f : HFrame} {t_ : State} {y_} (h : State.openHere s p f = (t_, y_)) : t_.bk = s.bk := by
  have k := State.openHere_bk s p f; rw [h] at k; exact k
@[simp] theorem State.rxStep_bk (s : State) (f : HFrame) :
    (State.rxStep s f).bk = s.bk := by simp [State.rxStep]
@[simp] theorem State.received_bk (s : State) (p : Nat) (ty : Nat) (f : HFrame) (k : State → HFrame → State) (h_k : ∀ x0 x1, (k x0 x1).bk = x0.bk) :
    (State.received s p ty f k).bk = s.bk := by
  unfold State.received
  (try dsimp only)
  (repeat' split) <;> (first | with_reducible rfl | (simp [h_k]; done) | exact ((State.openHere_bk' ‹_›).trans (by simp)) | (simp [h_k]; exact ((State.openHere_bk' ‹_›).trans (by simp))) | exact ((h_k _ _).trans ((State.openHere_bk' ‹_›).trans (by simp))) | (simp [h_k]; exact ((h_k _ _).trans ((State.openHere_bk' ‹_›).trans (by simp)))) | (rename_i hh; have kk := congrArg (fun z => z.1.bk) hh; simp [h_k] at kk; exact kk) | (rename_i hh; have kk := congrArg (fun z => z.1.bk) hh; simp [h_k] at kk; simp [h_k]; exact kk) | (rename_i hh; have kk := congrArg (fun z => z.1.bk) hh; simp [h_k] at kk; refine kk.trans ?_; exact ((State.openHere_bk' ‹_›).trans (by simp))) | (rename_i hh; have kk := congrArg (fun z => z.1.bk) hh; simp [h_k] at kk; simp [h_k]; refine kk.trans ?_; exact ((State.openHere_bk' ‹_›).trans (by simp))) | (rename_i hh; have kk := congrArg (fun z => z.1.bk) hh; simp [h_k] at kk; refine kk.trans ?_; exact ((h_k _ _).trans ((State.openHere_bk' ‹_›).trans (by simp)))) | (rename_i hh; have kk := congrArg (fun z => z.1.bk) hh; simp [h_k] at kk; simp [h_k]; refine kk.trans ?_; exact ((h_k _ _).trans ((State.openHere_bk' ‹_›).trans (by simp)))))
@[simp] theorem State.inOrder_bk (s : State) (f : HFrame) (k : State → State) (h_k : ∀ x0, (k x0).bk = x0.bk) :
    (State.inOrder s f k).bk = s.bk := by simp [State.inOrder, h_k]
@[simp] theorem State.takePort_bk (s : State) (p : Nat) :
    (State.takePort s p).bk = s.bk := by simp only [State.takePort]; (repeat' split) <;> simp
@[simp] theorem State.openFunc_bk (s : State) (f : Func) :
    (State.openFunc s f).bk = s.bk := by unfold State.openFunc; (repeat' split) <;> simp
@[simp] theorem State.closeFunc_bk (s : State) (f : Func) :
    (State.closeFunc s f).bk = s.bk := by unfold State.closeFunc; (repeat' split) <;> simp
@[simp] theorem State.funcMove_bk (s : State) (f : Func) :
    (State.funcMove s f).bk = s.bk := by simp only [State.funcMove]; (repeat' split) <;> simp
@[simp] theorem State.funcBoundary_bk (s : State) (f : Func) :
    (State.funcBoundary s f).bk = s.bk := by unfold State.funcBoundary; (repeat' split) <;> simp
@[simp] theorem State.funcsBoundary_bk (s : State) :
    (State.funcsBoundary s).bk = s.bk := by simp [State.funcsBoundary]
@[simp] theorem State.funcsSeek_bk (s : State) :
    (State.funcsSeek s).bk = s.bk := by simp [State.funcsSeek]
@[simp] theorem State.funcWrite_bk (s : State) (f : Func) (v : Bool) :
    (State.funcWrite s f v).1.bk = s.bk := by simp only [State.funcWrite]; (repeat' split) <;> simp
@[simp] theorem openComplete_bk (f : Func) (s : State) :
    (openComplete f s).bk = s.bk := by simp [openComplete]
@[simp] theorem openLimitPassed_bk (f : Func) (s : State) :
    (openLimitPassed f s).bk = s.bk := by simp only [openLimitPassed]; (repeat' split) <;> simp 
@[simp] theorem State.drainedSlot_bk (s : State) (n : Nat) :
    (State.drainedSlot s n).bk = s.bk := by simp [State.drainedSlot]
@[simp] theorem closeComplete_bk (f : Func) (s : State) :
    (closeComplete f s).bk = s.bk := by simp only [closeComplete]; (repeat' split) <;> simp 
@[simp] theorem closeLimitPassed_bk (f : Func) (s : State) :
    (closeLimitPassed f s).bk = s.bk := by simp only [closeLimitPassed]; (repeat' split) <;> simp 
@[simp] theorem powerupStart_bk (f : Func) (s : State) :
    (powerupStart f s).bk = s.bk := by simp [powerupStart]
@[simp] theorem trainingFailed_bk (p : Nat) (s : State) :
    (trainingFailed p s).bk = s.bk := by simp [trainingFailed]
@[simp] theorem State.scanRing_bk (s : State) :
    (State.scanRing s).bk = s.bk := by simp [State.scanRing]
@[simp] theorem State.evtIrq_bk (s : State) (fn : Nat) :
    (State.evtIrq s fn).bk = s.bk := by simp [State.evtIrq]
@[simp] theorem State.reportRecord_bk (s : State) (r : EvRecord) :
    (State.reportRecord s r).bk = s.bk := by simp [State.reportRecord]
@[simp] theorem State.takeSeq_bk (s : State) :
    (State.takeSeq s).1.bk = s.bk := by simp [State.takeSeq]
@[simp] theorem State.putRecord_bk (s : State) (e : Event) (flags : Nat) (payload : Bytes) :
    (State.putRecord s e flags payload).1.bk = s.bk := by simp [State.putRecord]
@[simp] theorem State.exportCper_bk (s : State) (r : EvRecord) :
    (State.exportCper s r).bk = s.bk := by simp [State.exportCper]
@[simp] theorem State.putCont_bk (s : State) (e : Event) (a1 : Nat) (a2 : Bytes) :
    (State.putCont s e a1 a2).bk = s.bk := by fun_induction State.putCont s e a1 a2 <;> simp_all
@[simp] theorem State.writeEvent_bk (s : State) (e : Event) :
    (State.writeEvent s e).bk = s.bk := by simp [State.writeEvent]
@[simp] theorem recordWrite_bk (s : State) :
    (recordWrite s).bk = s.bk := by unfold recordWrite; (repeat' split) <;> simp
@[simp] theorem State.writeQueue_bk (s : State) (a1 : Nat) :
    (State.writeQueue s a1).bk = s.bk := by fun_induction State.writeQueue s a1 <;> simp_all
@[simp] theorem evtIrqGap_bk (fn : Nat) (s : State) :
    (evtIrqGap fn s).bk = s.bk := by simp [evtIrqGap]
@[simp] theorem rateToken_bk (code : Nat) (kw : Nat) (s : State) :
    (rateToken code kw s).bk = s.bk := by unfold rateToken; (repeat' split) <;> simp
@[simp] theorem evtHeartbeat_bk (s : State) :
    (evtHeartbeat s).bk = s.bk := by simp [evtHeartbeat]
@[simp] theorem State.evtAck_bk (s : State) (v : Nat) :
    (State.evtAck s v).bk = s.bk := by simp [State.evtAck]
@[simp] theorem State.saveOp_bk (s : State) :
    (State.saveOp s).bk = s.bk := by simp [State.saveOp]
@[simp] theorem opHour_bk (s : State) :
    (opHour s).bk = s.bk := by simp [opHour]
@[simp] theorem quarantineEnd_bk (u : UnitId) (s : State) :
    (quarantineEnd u s).bk = s.bk := by simp [quarantineEnd]
@[simp] theorem katDone_bk (u : UnitId) (pass : Bool) (s : State) :
    (katDone u pass s).bk = s.bk := by simp [katDone]
@[simp] theorem State.katBoundary_bk (s : State) :
    (State.katBoundary s).bk = s.bk := by simp [State.katBoundary]
@[simp] theorem State.bistFail_bk (s : State) (f : BistFail) :
    (State.bistFail s f).bk = s.bk := by unfold State.bistFail; (repeat' split) <;> simp
@[simp] theorem State.memoryBist_bk (s : State) (l : List BistFail) (ms : Nat) :
    (State.memoryBist s l ms).bk = s.bk := by simp [State.memoryBist]
@[simp] theorem State.bistAuth_bk (s : State) (b : Bytes) :
    (State.bistAuth s b).1.bk = s.bk := by unfold State.bistAuth; (repeat' split) <;> simp
@[simp] theorem State.lbistRun_bk (s : State) (v : Nat) :
    (State.lbistRun s v).bk = s.bk := by unfold State.lbistRun; (repeat' split) <;> simp
@[simp] theorem State.repairEngine_bk (s : State) (eng : Nat) :
    (State.repairEngine s eng).bk = s.bk := by simp [State.repairEngine]
@[simp] theorem State.repairHasp_bk (s : State) (h : Nat) :
    (State.repairHasp s h).bk = s.bk := by simp [State.repairHasp]
@[simp] theorem State.repairs_bk (s : State) :
    (State.repairs s).bk = s.bk := by simp [State.repairs]
@[simp] theorem lbistDone_bk (first : Option Nat) (misr : Nat) (s : State) :
    (lbistDone first misr s).bk = s.bk := by unfold lbistDone; (repeat' split) <;> simp
@[simp] theorem State.arrayTier_bk (s : State) (eng : Nat) (tier : Nat) :
    (State.arrayTier s eng tier).bk = s.bk := by simp [State.arrayTier]
@[simp] theorem State.arrayRun_bk (s : State) (v : Nat) :
    (State.arrayRun s v).bk = s.bk := by unfold State.arrayRun; (repeat' split) <;> simp
@[simp] theorem arrayDone_bk (bad : List (Nat × Nat × Nat)) (pass : Bool) (s : State) :
    (arrayDone bad pass s).bk = s.bk := by unfold arrayDone; (repeat' split) <;> simp
@[simp] theorem State.emergencyAt_bk (s : State) (c : Nat) (cause : Nat) (reading : Int) :
    (State.emergencyAt s c cause reading).bk = s.bk := by simp [State.emergencyAt]
@[simp] theorem State.emergencyCheck_bk (s : State) :
    (State.emergencyCheck s).bk = s.bk := by simp [State.emergencyCheck]
@[simp] theorem State.setNext_bk (s : State) (conv : Nat) (last : Nat) :
    (State.setNext s conv last).bk = s.bk := by simp [State.setNext]
@[simp] theorem senseReading_bk (c : Nat) (conv : Nat) (raw : Nat) (s : State) :
    (senseReading c conv raw s).bk = s.bk := by simp [senseReading]
@[simp] theorem memTemp_bk (stack : Nat) (temp : Int) (s : State) :
    (memTemp stack temp s).bk = s.bk := by simp [memTemp]
@[simp] theorem State.enterSense_bk (s : State) (m : Nat) :
    (State.enterSense s m).bk = s.bk := by unfold State.enterSense; (repeat' split) <;> simp
@[simp] theorem xchk_bk (a : Int) (b : Int) (s : State) :
    (xchk a b s).bk = s.bk := by simp [xchk]
@[simp] theorem State.putCal_bk (s : State) (c : SysCal) :
    (State.putCal s c).bk = s.bk := by simp [State.putCal]
end Sys2Proof.Machine
end

