-- ==== Sys2Proof/Laws/Phase4.lean ====
section
/-! SUPPORT. Laws/Phase4.lean: operations that leave it as it was (part 4 of 4, each operation after those it calls). -/
namespace Sys2Proof.Machine
open Sys2Proof
@[simp] theorem State.syscalStop_bk (s : State) (status : Nat) :
    (State.syscalStop s status).bk = s.bk := by simp [State.syscalStop]
@[simp] theorem State.syscalCmd_bk (s : State) (cmd : Nat) :
    (State.syscalCmd s cmd).bk = s.bk := by unfold State.syscalCmd; (repeat' split) <;> simp
@[simp] theorem syscalCapture_bk (v : Int) (s : State) :
    (syscalCapture v s).bk = s.bk := by simp only [syscalCapture]; (repeat' split) <;> simp
@[simp] theorem syscalTimeout_bk (s : State) :
    (syscalTimeout s).bk = s.bk := by unfold syscalTimeout; (repeat' split) <;> simp
@[simp] theorem State.syscalFast_bk (s : State) :
    (State.syscalFast s).bk = s.bk := by simp [State.syscalFast]
@[simp] theorem phaseAdd_bk (k : Nat) (s : State) :
    (phaseAdd k s).bk = s.bk := by simp [phaseAdd]
@[simp] theorem phaseDrop_bk (k : Nat) (s : State) :
    (phaseDrop k s).bk = s.bk := by unfold phaseDrop; (repeat' split) <;> simp
@[simp] theorem avsReport_bk (die : Nat) (mon : Nat) (slack : Int) (s : State) :
    (avsReport die mon slack s).bk = s.bk := by simp [avsReport]
@[simp] theorem State.avsBoundary_bk (s : State) :
    (State.avsBoundary s).bk = s.bk := by simp [State.avsBoundary]
@[simp] theorem State.takeSample_bk (s : State) (mv : List Nat) (imon : List Int) :
    (State.takeSample s mv imon).bk = s.bk := by simp [State.takeSample]
@[simp] theorem State.countStall_bk (s : State) :
    (State.countStall s).bk = s.bk := by simp [State.countStall]
@[simp] theorem State.guard_bk (s : State) :
    (State.guard s).bk = s.bk := by simp [State.guard]
@[simp] theorem State.pace_bk (s : State) (code : Nat) (target : Nat) (inForce : Nat) (cause : Nat) (source : Nat) (enforce : Nat) :
    (State.pace s code target inForce cause source enforce).bk = s.bk := by simp [State.pace]
@[simp] theorem State.limitCheck_bk (s : State) :
    (State.limitCheck s).bk = s.bk := by simp [State.limitCheck]
@[simp] theorem State.paceEmergency_bk (s : State) :
    (State.paceEmergency s).bk = s.bk := by unfold State.paceEmergency; (repeat' split) <;> simp
@[simp] theorem State.paceEnforce_bk (s : State) :
    (State.paceEnforce s).bk = s.bk := by unfold State.paceEnforce; (repeat' split) <;> simp
@[simp] theorem State.paceAnnounce_bk (s : State) :
    (State.paceAnnounce s).bk = s.bk := by simp [State.paceAnnounce]
@[simp] theorem State.paceRelease_bk (s : State) :
    (State.paceRelease s).bk = s.bk := by simp [State.paceRelease]
@[simp] theorem State.throttle_bk (s : State) :
    (State.throttle s).bk = s.bk := by simp [State.throttle]
@[simp] theorem State.energyBudget_bk (s : State) (accounted : Nat) (quiet : Nat) :
    (State.energyBudget s accounted quiet).bk = s.bk := by simp [State.energyBudget]
@[simp] theorem State.powerBoundary_bk (s : State) (accounted : Nat) (quiet : Nat) :
    (State.powerBoundary s accounted quiet).bk = s.bk := by simp [State.powerBoundary]
@[simp] theorem State.setBoot_bk (s : State) (f : BootS → BootS) :
    (State.setBoot s f).bk = s.bk := by simp [State.setBoot]
@[simp] theorem State.fallbacks_bk (s : State) :
    (State.fallbacks s).bk = s.bk := by simp [State.fallbacks]
@[simp] theorem State.romStart_bk (s : State) :
    (State.romStart s).bk = s.bk := by simp [State.romStart]
@[simp] theorem State.funcsDark_bk (s : State) :
    (State.funcsDark s).bk = s.bk := by simp [State.funcsDark]
@[simp] theorem State.hubOff_bk (s : State) :
    (State.hubOff s).bk = s.bk := by simp [State.hubOff]
@[simp] theorem State.railsOff_bk (s : State) (l : List Nat) :
    (State.railsOff s l).bk = s.bk := by simp [State.railsOff]
@[simp] theorem State.downStep_bk (s : State) (step : Nat) :
    (State.downStep s step).bk = s.bk := by simp [State.downStep]
@[simp] theorem State.hostReady_bk (s : State) :
    (State.hostReady s).bk = s.bk := by simp [State.hostReady]
@[simp] theorem porRise_bk (s : State) :
    (porRise s).bk = s.bk := by simp [porRise]
@[simp] theorem State.clampRecord_bk (s : State) (k : OKey) (session : Nat) (transport : Nat) (kw : Nat) (c : Clamp) :
    (State.clampRecord s k session transport kw c).bk = s.bk := by simp [State.clampRecord]
@[simp] theorem State.loadSetting_bk (s : State) (x : OKey × OVal) :
    (State.loadSetting s x).bk = s.bk := by simp [State.loadSetting]
@[simp] theorem State.loadSettings_bk (s : State) :
    (State.loadSettings s).bk = s.bk := by simp [State.loadSettings]
@[simp] theorem State.wardMeasure_bk (s : State) :
    (State.wardMeasure s).bk = s.bk := by simp [State.wardMeasure]
@[simp] theorem State.wardRuns_bk (s : State) :
    (State.wardRuns s).bk = s.bk := by simp [State.wardRuns]
@[simp] theorem State.wardBoot_bk (s : State) :
    (State.wardBoot s).bk = s.bk := by simp [State.wardBoot]
@[simp] theorem State.wardAgain_bk (s : State) :
    (State.wardAgain s).bk = s.bk := by simp [State.wardAgain]
@[simp] theorem wardStart_bk (s : State) :
    (wardStart s).bk = s.bk := by simp [wardStart]
@[simp] theorem State.railsUp_bk (s : State) (step : Nat) :
    (State.railsUp s step).bk = s.bk := by simp [State.railsUp]
@[simp] theorem State.loadTrims_bk (s : State) (eng : Nat) :
    (State.loadTrims s eng).bk = s.bk := by simp only [State.loadTrims]; (repeat' split) <;> simp
@[simp] theorem State.loadAllTrims_bk (s : State) :
    (State.loadAllTrims s).bk = s.bk := by simp [State.loadAllTrims]
@[simp] theorem State.loadSlot_bk (s : State) (n : Nat) :
    (State.loadSlot s n).bk = s.bk := by simp only [State.loadSlot]; (repeat' split) <;> simp
@[simp] theorem State.firmwareRuns_bk (s : State) :
    (State.firmwareRuns s).bk = s.bk := by simp [State.firmwareRuns]
@[simp] theorem State.measureImage_bk (s : State) (kind : Nat) :
    (State.measureImage s kind).bk = s.bk := by unfold State.measureImage; (repeat' split) <;> simp
@[simp] theorem State.closeSessions_bk (s : State) (p : Nat → Session → Bool) :
    (State.closeSessions s p).bk = s.bk := by simp [State.closeSessions]
@[simp] theorem State.stopAll_bk (s : State) (cause : Nat) :
    (State.stopAll s cause).bk = s.bk := by simp [State.stopAll]
@[simp] theorem State.writeDeferred_bk (s : State) :
    (State.writeDeferred s).bk = s.bk := by simp [State.writeDeferred]
@[simp] theorem State.saveAll_bk (s : State) :
    (State.saveAll s).bk = s.bk := by simp [State.saveAll]
@[simp] theorem State.eraseAll_bk (s : State) :
    (State.eraseAll s).bk = s.bk := by simp [State.eraseAll]
@[simp] theorem State.lcBoundary_bk (s : State) :
    (State.lcBoundary s).bk = s.bk := by simp only [State.lcBoundary]; (repeat' split) <;> simp 
@[simp] theorem perstLow_bk (s : State) :
    (perstLow s).bk = s.bk := by simp [perstLow]
@[simp] theorem perstHigh_bk (s : State) :
    (perstHigh s).bk = s.bk := by simp [perstHigh]
@[simp] theorem wdtRestart_bk (s : State) :
    (wdtRestart s).bk = s.bk := by simp [wdtRestart]
@[simp] theorem State.stageSeg_bk (s : State) (b : Bytes) :
    (State.stageSeg s b).bk = s.bk := by simp [State.stageSeg]
@[simp] theorem State.commitStart_bk (s : State) (len : Nat) :
    (State.commitStart s len).bk = s.bk := by simp [State.commitStart]
@[simp] theorem State.fwReject_bk (s : State) (result : Nat) :
    (State.fwReject s result).bk = s.bk := by simp [State.fwReject]
@[simp] theorem commitDone_bk (s : State) :
    (commitDone s).bk = s.bk := by unfold commitDone; (repeat' split) <;> simp
@[simp] theorem State.bankSelect_bk (s : State) (kind : Nat) :
    (State.bankSelect s kind).bk = s.bk := by simp [State.bankSelect]
@[simp] theorem State.bootBoundary_bk (s : State) :
    (State.bootBoundary s).bk = s.bk := by simp [State.bootBoundary]
@[simp] theorem State.select_bk (s : State) (c : Ctx) (k : OKey) (v : Nat) :
    (State.select s c k v).bk = s.bk := by simp [State.select]
@[simp] theorem State.afterRead_bk (s : State) (c : Ctx) (k : OKey) :
    (State.afterRead s c k).bk = s.bk := by unfold State.afterRead; (repeat' split) <;> simp
@[simp] theorem State.startTrain_bk (s : State) (kind : FlowKind) (dst : Nat) (kw : Nat) (items : List FlowItem) :
    (State.startTrain s kind dst kw items).1.bk = s.bk := by unfold State.startTrain; (repeat' split) <;> (try (rename_i hh; have kk := congrArg (fun z => z.1.bk) hh; simp at kk)) <;> simp_all
theorem State.startTrain_bk' {s : State} {kind : FlowKind} {dst : Nat} {kw : Nat} {items : List FlowItem} {t_ : State} {y_} (h : State.startTrain s kind dst kw items = (t_, y_)) : t_.bk = s.bk := by
  have k := State.startTrain_bk s kind dst kw items; rw [h] at k; exact k
@[simp] theorem State.handSend_bk (s : State) (i : Nat) :
    (State.handSend s i).bk = s.bk := by
  unfold State.handSend
  (try dsimp only)
  (repeat' split) <;> (first | with_reducible rfl | (simp; done) | exact (State.startTrain_bk' ‹_›) | (simp; exact (State.startTrain_bk' ‹_›)) | (rename_i hh; have kk := congrArg (fun z => z.1.bk) hh; simp at kk; exact kk) | (rename_i hh; have kk := congrArg (fun z => z.1.bk) hh; simp at kk; simp; exact kk) | (rename_i hh; have kk := congrArg (fun z => z.1.bk) hh; simp at kk; refine kk.trans ?_; exact (State.startTrain_bk' ‹_›)) | (rename_i hh; have kk := congrArg (fun z => z.1.bk) hh; simp at kk; simp; refine kk.trans ?_; exact (State.startTrain_bk' ‹_›)))
@[simp] theorem State.handSends_bk (s : State) :
    (State.handSends s).bk = s.bk := by simp [State.handSends]
@[simp] theorem State.handDone_bk (s : State) (i : Nat) :
    (State.handDone s i).bk = s.bk := by simp only [State.handDone]; (repeat' split) <;> simp
@[simp] theorem State.trainDone_bk (s : State) (f : Flow) :
    (State.trainDone s f).bk = s.bk := by unfold State.trainDone; (repeat' split) <;> simp
@[simp] theorem State.trainAgain_bk (s : State) (f : Flow) :
    (State.trainAgain s f).bk = s.bk := by
  unfold State.trainAgain
  (try dsimp only)
  (repeat' split) <;> (first | with_reducible rfl | (simp; done) | exact (State.startTrain_bk' ‹_›) | (simp; exact (State.startTrain_bk' ‹_›)) | (rename_i hh; have kk := congrArg (fun z => z.1.bk) hh; simp at kk; exact kk) | (rename_i hh; have kk := congrArg (fun z => z.1.bk) hh; simp at kk; simp; exact kk) | (rename_i hh; have kk := congrArg (fun z => z.1.bk) hh; simp at kk; refine kk.trans ?_; exact (State.startTrain_bk' ‹_›)) | (rename_i hh; have kk := congrArg (fun z => z.1.bk) hh; simp at kk; simp; refine kk.trans ?_; exact (State.startTrain_bk' ‹_›)))
@[simp] theorem trainAck_bk (f : HFrame) (s : State) :
    (trainAck f s).bk = s.bk := by unfold trainAck; (repeat' split) <;> simp
@[simp] theorem State.ackTrain_bk (s : State) (f : HFrame) (status : Nat) :
    (State.ackTrain s f status).bk = s.bk := by simp [State.ackTrain]
@[simp] theorem State.dropRx_bk (s : State) (src : Nat) (flow : Nat) :
    (State.dropRx s src flow).bk = s.bk := by simp [State.dropRx]
@[simp] theorem State.freeTrain_bk (s : State) (x : RxTrain) :
    (State.freeTrain s x).bk = s.bk := by simp [State.freeTrain]
@[simp] theorem trainHeadIn_bk (f : HFrame) (s : State) :
    (trainHeadIn f s).bk = s.bk := by simp [trainHeadIn]
@[simp] theorem trainPageIn_bk (f : HFrame) (s : State) :
    (trainPageIn f s).bk = s.bk := by
  unfold trainPageIn
  apply State.inOrder_bk; intro x
  (repeat' split) <;> simp
@[simp] theorem State.headerBad_bk (s : State) (kw : Nat) (i : Nat) (c : Nat) :
    (State.headerBad s kw i c).bk = s.bk := by simp [State.headerBad]
@[simp] theorem State.fillPages_bk (s : State) (i : Nat) (slot : Nat) (a3 : List (Nat × Nat × Bytes)) :
    (State.fillPages s i slot a3).bk = s.bk := by
  induction a3 generalizing s with
  | nil => rfl
  | cons a_ r_ ih => unfold State.fillPages; rw [ih]; split <;> simp
@[simp] theorem State.handTrain_bk (s : State) (x : RxTrain) :
    (State.handTrain s x).1.bk = s.bk := by
  unfold State.handTrain
  (try dsimp only)
  (repeat' split) <;> (first | with_reducible rfl | (simp; done) | exact ((State.firstRoot_bk _ _ _ _ _ _ ‹_›).trans (by simp)) | (simp; exact ((State.firstRoot_bk _ _ _ _ _ _ ‹_›).trans (by simp))) | (rename_i hh; have kk := congrArg (fun z => z.1.bk) hh; simp at kk; exact kk) | (rename_i hh; have kk := congrArg (fun z => z.1.bk) hh; simp at kk; simp; exact kk) | (rename_i hh; have kk := congrArg (fun z => z.1.bk) hh; simp at kk; refine kk.trans ?_; exact ((State.firstRoot_bk _ _ _ _ _ _ ‹_›).trans (by simp))) | (rename_i hh; have kk := congrArg (fun z => z.1.bk) hh; simp at kk; simp; refine kk.trans ?_; exact ((State.firstRoot_bk _ _ _ _ _ _ ‹_›).trans (by simp))))
@[simp] theorem State.putRound_bk (s : State) (x : RingRound) :
    (State.putRound s x).bk = s.bk := by simp [State.putRound]
@[simp] theorem State.setTrain_bk (s : State) (x : RxTrain) :
    (State.setTrain s x).1.bk = s.bk := by simp only [State.setTrain]; (repeat' split) <;> simp
@[simp] theorem trainEndIn_bk (f : HFrame) (s : State) :
    (trainEndIn f s).bk = s.bk := by
  unfold trainEndIn
  apply State.inOrder_bk; intro x
  (try dsimp only)
  (repeat' split) <;> simp
@[simp] theorem trainTimeout_bk (num : Nat) (s : State) :
    (trainTimeout num s).bk = s.bk := by unfold trainTimeout; (repeat' split) <;> simp
@[simp] theorem shardReqIn_bk (f : HFrame) (s : State) :
    (shardReqIn f s).bk = s.bk := by
  unfold shardReqIn
  apply State.inOrder_bk; intro x
  (repeat' split) <;> simp
@[simp] theorem State.dropShard_bk (s : State) (f : HFrame) :
    (State.dropShard s f).bk = s.bk := by simp [State.dropShard]
@[simp] theorem shardDataIn_bk (f : HFrame) (s : State) :
    (shardDataIn f s).bk = s.bk := by simp only [shardDataIn]; (repeat' split) <;> simp
@[simp] theorem State.putPartial_bk (s : State) (x : Partial) :
    (State.putPartial s x).bk = s.bk := by simp [State.putPartial]
@[simp] theorem State.freeSets_bk (s : State) (kw : Nat) (l : List RingSet) :
    (State.freeSets s kw l).bk = s.bk := by simp [State.freeSets]
@[simp] theorem State.dropRound_bk (s : State) (y : RingRound) :
    (State.dropRound s y).bk = s.bk := by simp [State.dropRound]
@[simp] theorem State.finishRing_bk (s : State) (y : RingRound) :
    (State.finishRing s y).bk = s.bk := by simp [State.finishRing]
@[simp] theorem State.sendSet_bk (s : State) (q : SeqS) (i : Nat) (lane : Nat) (origin : Nat) (round : Nat) (hi : Nat) (pages : List PageS) :
    (State.sendSet s q i lane origin round hi pages).bk = s.bk := by
  unfold State.sendSet
  (try dsimp only)
  (repeat' split) <;> (first | with_reducible rfl | (simp; done) | exact (State.startTrain_bk' ‹_›) | (simp; exact (State.startTrain_bk' ‹_›)) | (rename_i hh; have kk := congrArg (fun z => z.1.bk) hh; simp at kk; exact kk) | (rename_i hh; have kk := congrArg (fun z => z.1.bk) hh; simp at kk; simp; exact kk) | (rename_i hh; have kk := congrArg (fun z => z.1.bk) hh; simp at kk; refine kk.trans ?_; exact (State.startTrain_bk' ‹_›)) | (rename_i hh; have kk := congrArg (fun z => z.1.bk) hh; simp at kk; simp; refine kk.trans ?_; exact (State.startTrain_bk' ‹_›)))
@[simp] theorem State.beginPrefill_bk (s : State) (w : LaneWork) (q : SeqS) :
    (State.beginPrefill s w q).bk = s.bk := by simp [State.beginPrefill]
@[simp] theorem State.setRows_bk (s : State) (y : RingRound) (x : RingSet) (a1 : Nat) (a2 : List QRow) :
    (State.setRows s y x a1 a2).bk = s.bk := by fun_induction State.setRows s y x a1 a2 <;> simp_all
@[simp] theorem State.nextRound_bk (s : State) (y : RingRound) :
    (State.nextRound s y).bk = s.bk := by simp only [State.nextRound]; (repeat' split) <;> simp
@[simp] theorem ringRoundStep_bk (seq : Nat) (s : State) :
    (ringRoundStep seq s).bk = s.bk := by simp [ringRoundStep]
@[simp] theorem State.sendQuery_bk (s : State) (q : SeqS) (w : LaneWork) (l : List Nat) :
    (State.sendQuery s q w l).bk = s.bk := by
  induction l generalizing s with
  | nil => rfl
  | cons m r ih => unfold State.sendQuery; dsimp only; rw [ih]; split <;> simp
@[simp] theorem State.beginDecode_bk (s : State) (w : LaneWork) (q : SeqS) :
    (State.beginDecode s w q).bk = s.bk := by unfold State.beginDecode; (repeat' split) <;> simp
@[simp] theorem ringTask_bk (w : LaneWork) (s : State) :
    (ringTask w s).bk = s.bk := by simp only [ringTask]; (repeat' split) <;> simp
@[simp] theorem ringQueryIn_bk (f : HFrame) (s : State) :
    (ringQueryIn f s).bk = s.bk := by
  unfold ringQueryIn
  apply State.inOrder_bk; intro x
  (try dsimp only)
  (repeat' split) <;> simp
@[simp] theorem State.keepRows_bk (s : State) (seq : Nat) (lane : Nat) (origin : Nat) (a1 : Nat) (a2 : List (F32 × F32 × List F32)) :
    (State.keepRows s seq lane origin a1 a2).bk = s.bk := by fun_induction State.keepRows s seq lane origin a1 a2 <;> simp_all
@[simp] theorem ringPartialIn_bk (f : HFrame) (s : State) :
    (ringPartialIn f s).bk = s.bk := by simp only [ringPartialIn]; (repeat' split) <;> simp
@[simp] theorem State.dropRing_bk (s : State) (seq : Nat) :
    (State.dropRing s seq).bk = s.bk := by simp [State.dropRing]
@[simp] theorem ringTimeout_bk (seq : Nat) (s : State) :
    (ringTimeout seq s).bk = s.bk := by simp only [ringTimeout]; (repeat' split) <;> simp
@[simp] theorem replyTimeout_bk (num : Nat) (s : State) :
    (replyTimeout num s).bk = s.bk := by unfold replyTimeout; (repeat' split) <;> simp
@[simp] theorem latchOpIn_bk (f : HFrame) (s : State) :
    (latchOpIn f s).bk = s.bk := by simp [latchOpIn]
@[simp] theorem latchReplyIn_bk (f : HFrame) (s : State) :
    (latchReplyIn f s).bk = s.bk := by unfold latchReplyIn; (repeat' split) <;> simp
@[simp] theorem State.confirmTick_bk (s : State) :
    (State.confirmTick s).bk = s.bk := by simp [State.confirmTick]
@[simp] theorem State.ringHold_bk (s : State) (a : Nat) (i : Nat) :
    (State.ringHold s a i).bk = s.bk := by simp [State.ringHold]
@[simp] theorem State.partnerLost_bk (s : State) (a : Nat) :
    (State.partnerLost s a).bk = s.bk := by simp [State.partnerLost]
@[simp] theorem State.releaseRings_bk (s : State) :
    (State.releaseRings s).bk = s.bk := by simp [State.releaseRings]
@[simp] theorem State.deadRounds_bk (s : State) :
    (State.deadRounds s).bk = s.bk := by simp [State.deadRounds]
@[simp] theorem State.dropStandby_bk (s : State) (a : Nat) :
    (State.dropStandby s a).bk = s.bk := by simp [State.dropStandby]
@[simp] theorem State.adoptNamed_bk (s : State) (a : Nat) (phys : Nat) (beat : Nat) :
    (State.adoptNamed s a phys beat).bk = s.bk := by simp [State.adoptNamed]
@[simp] theorem lossDecision_bk (m : Nat) (s : State) :
    (lossDecision m s).bk = s.bk := by simp only [lossDecision]; (repeat' split) <;> simp
@[simp] theorem State.spareAdopt_bk (s : State) (a : Nat) :
    (State.spareAdopt s a).bk = s.bk := by simp [State.spareAdopt]
@[simp] theorem State.takeRec_bk (s : State) (a : Nat) (x : StandbyRec) :
    (State.takeRec s a x).bk = s.bk := by simp [State.takeRec]
@[simp] theorem standbyIn_bk (f : HFrame) (s : State) :
    (standbyIn f s).bk = s.bk := by unfold standbyIn; (repeat' split) <;> simp
@[simp] theorem State.slotFrom_bk (s : State) (a1 : StandbyRec) :
    (State.slotFrom s a1).bk = s.bk := by unfold State.slotFrom; (repeat' split) <;> simp
@[simp] theorem State.recInstall_bk (s : State) (a1 : StandbyRec) :
    (State.recInstall s a1).bk = s.bk := by
  unfold State.recInstall
  split
  · simp
  · dsimp only
    rw [State.note_bk]
    refine (bk_foldl _ (fun x a => ?_) _ _).trans (by simp)
    cases h : x.fillKw _ a.1 a.2 with
    | none => rfl
    | some t => exact State.fillKw_bk _ _ _ _ _ h
  · rfl
@[simp] theorem State.identAll_bk (s : State) :
    (State.identAll s).bk = s.bk := by simp [State.identAll]
@[simp] theorem State.adoptBoundary_bk (s : State) :
    (State.adoptBoundary s).bk = s.bk := by unfold State.adoptBoundary; (repeat' split) <;> simp
@[simp] theorem State.openSlots_bk (s : State) :
    (State.openSlots s).bk = s.bk := by simp [State.openSlots]
@[simp] theorem State.replayEnd_bk (s : State) (x : Replay) (n : Nat) :
    (State.replayEnd s x n).bk = s.bk := by simp [State.replayEnd]
@[simp] theorem State.replayOne_bk (s : State) (x : Replay) :
    (State.replayOne s x).1.bk = s.bk := by
  have hg : ∀ (u : State) (_ : u.bk = s.bk) i r v map d toks, (match (u.putReq i r).admitToks i v map d toks with
      | (s', true) => ((s'.inc .REPLAYS_DONE).note x.kw (.request i x.kw x.desc x.prompt x.version x.deadline), true)
      | (_, false) => (u, false)).1.bk = s.bk := by
    intro u hu i r v map d toks
    split
    · rw [State.note_bk, State.inc_bk]; exact ((State.admitToks_bk' ‹_›).trans (State.putReq_bk _ _ _)).trans hu
    · exact hu
  have he : ∀ (b : Prop) [Decidable b] (y : State) (i : Nat) (r : ReqS), (if b then y else y.putReq i r).bk = y.bk := by
    intro b _ y i r; split <;> simp
  have hd : (s.dmaRead x.kw (leAt x.desc 24 8) (16 * 2 ^ leAt x.desc 32 1)).1.bk = s.bk := State.dmaRead_bk _ _ _ _
  unfold State.replayOne
  dsimp only
  split
  · rfl
  split
  · exact hd
  split
  · exact (State.replayEnd_bk _ _ _).trans hd
  split
  · split
    · rw [he]
      have h := hg _ hd
      rename_i hh
      exact (congrArg (fun z => z.1.bk) hh).symm.trans (h _ _ _ _ _ _)
    · exact hg _ hd _ _ _ _ _ _
  · exact hd
theorem State.replayOne_bk' {s : State} {x : Replay} {t_ : State} {y_} (h : State.replayOne s x = (t_, y_)) : t_.bk = s.bk := by
  have k := State.replayOne_bk s x; rw [h] at k; exact k
@[simp] theorem State.replayList_bk (s : State) (a1 : List Replay) (a2 : Nat) :
    (State.replayList s a1 a2).1.bk = s.bk := by
  fun_induction State.replayList s a1 a2 with
  | case1 => rfl
  | case2 => rfl
  | case3 s x r n t h ih => exact ih.trans (State.replayOne_bk' h)
  | case4 s x r n t h u l hl ih => rw [hl] at ih; exact ih.trans (State.replayOne_bk' h)
@[simp] theorem State.replayBoundary_bk (s : State) :
    (State.replayBoundary s).bk = s.bk := by simp [State.replayBoundary]
@[simp] theorem State.prefillAgain_bk (s : State) (i : Nat) :
    (State.prefillAgain s i).bk = s.bk := by simp [State.prefillAgain]
@[simp] theorem State.ringReturn_bk (s : State) :
    (State.ringReturn s).bk = s.bk := by simp [State.ringReturn]
@[simp] theorem State.retireUnit_bk (s : State) (v : Nat) :
    (State.retireUnit s v).bk = s.bk := by simp [State.retireUnit]
@[simp] theorem State.acceptNow_bk (s : State) (c : Ctx) (k : OKey) (v : OVal) (buf : Option Bytes) :
    (State.acceptNow s c k v buf).1.bk = s.bk := by simp only [State.acceptNow]; (repeat' split) <;> simp 
@[simp] theorem State.queueWrite_bk (s : State) (k : OKey) (v : OVal) :
    (State.queueWrite s k v).bk = s.bk := by simp [State.queueWrite]
@[simp] theorem State.noteEnable_bk (s : State) (k : OKey) (v : OVal) :
    (State.noteEnable s k v).1.bk = s.bk := by unfold State.noteEnable; (repeat' split) <;> simp
@[simp] theorem State.acceptAs_bk (s : State) (c : Ctx) (k0 : OKey) (r : OVal × List Clamp) (buf : Option Bytes) :
    (State.acceptAs s c k0 r buf).1.bk = s.bk := by simp only [State.acceptAs]; (repeat' split) <;> simp 
@[simp] theorem State.accept_bk (s : State) (c : Ctx) (k : OKey) (v : OVal) (buf : Option Bytes) :
    (State.accept s c k v buf).1.bk = s.bk := by simp [State.accept]
@[simp] theorem State.applyEffect_bk (s : State) (k : OKey) (v : OVal) :
    (State.applyEffect s k v).bk = s.bk := by unfold State.applyEffect; (repeat' split) <;> simp
@[simp] theorem State.applyWrite_bk (s : State) (x : OKey × OVal) :
    (State.applyWrite s x).bk = s.bk := by simp [State.applyWrite]
@[simp] theorem State.applyWaiting_bk (s : State) :
    (State.applyWaiting s).bk = s.bk := by simp [State.applyWaiting]
@[simp] theorem State.applyNumber_bk (s : State) :
    (State.applyNumber s).bk = s.bk := by unfold State.applyNumber; (repeat' split) <;> simp
@[simp] theorem State.dropCaptures_bk (s : State) :
    (State.dropCaptures s).bk = s.bk := by simp [State.dropCaptures]
@[simp] theorem State.notchZero_bk (s : State) :
    (State.notchZero s).bk = s.bk := by simp [State.notchZero]
@[simp] theorem State.remapDue_bk (s : State) (e : Nat) :
    (State.remapDue s e).bk = s.bk := by simp [State.remapDue]
@[simp] theorem State.itemOne_bk (s : State) (ran : Bool) :
    (State.itemOne s ran).bk = s.bk := by simp [State.itemOne]
@[simp] theorem State.itemThree_bk (s : State) (frees : Option Nat) :
    (State.itemThree s frees).bk = s.bk := by simp [State.itemThree]
@[simp] theorem State.itemFour_bk (s : State) (admits : Option Nat) :
    (State.itemFour s admits).bk = s.bk := by simp [State.itemFour]
@[simp] theorem State.itemFive_bk (s : State) (costs : List StepCost) (quiet : Nat) (work : Nat) :
    (State.itemFive s costs quiet work).bk = s.bk := by simp [State.itemFive]
@[simp] theorem State.putSession_bk (s : State) (n : Nat) (x : Session) :
    (State.putSession s n x).bk = s.bk := by simp [State.putSession]
@[simp] theorem State.openSession_bk (s : State) (q : GReq) :
    (State.openSession s q).1.bk = s.bk := by simp only [State.openSession]; (repeat' split) <;> simp
@[simp] theorem State.proofFailed_bk (s : State) (q : GReq) :
    (State.proofFailed s q).bk = s.bk := by simp [State.proofFailed]
@[simp] theorem State.proveSession_bk (s : State) (q : GReq) (x : Session) :
    (State.proveSession s q x).1.bk = s.bk := by unfold State.proveSession; (repeat' split) <;> simp
@[simp] theorem State.doRead_bk (s : State) (q : GReq) (c : Ctx) :
    (State.doRead s q c).1.bk = s.bk := by unfold State.doRead; (repeat' split) <;> simp
@[simp] theorem State.doReadBlock_bk (s : State) (q : GReq) (c : Ctx) :
    (State.doReadBlock s q c).1.bk = s.bk := by unfold State.doReadBlock; (repeat' split) <;> simp
@[simp] theorem State.doWrite_bk (s : State) (q : GReq) (c : Ctx) :
    (State.doWrite s q c).1.bk = s.bk := by simp only [State.doWrite]; (repeat' split) <;> simp 
@[simp] theorem State.doWriteBlock_bk (s : State) (q : GReq) (c : Ctx) :
    (State.doWriteBlock s q c).1.bk = s.bk := by simp only [State.doWriteBlock]; (repeat' split) <;> simp 
@[simp] theorem State.doDescribe_bk (s : State) (q : GReq) (c : Ctx) :
    (State.doDescribe s q c).1.bk = s.bk := by unfold State.doDescribe; (repeat' split) <;> simp
@[simp] theorem State.restoreOne_bk (s : State) (c : Ctx) (k : OKey) :
    (State.restoreOne s c k).1.bk = s.bk := by simp only [State.restoreOne]; (repeat' split) <;> simp 
@[simp] theorem State.doRestore_bk (s : State) (q : GReq) (c : Ctx) :
    (State.doRestore s q c).1.bk = s.bk := by simp only [State.doRestore]; (repeat' split) <;> simp 
@[simp] theorem State.doStore_bk (s : State) (q : GReq) (c : Ctx) :
    (State.doStore s q c).1.bk = s.bk := by
  unfold State.doStore; apply bk_foldl; intro x a; simp
@[simp] theorem State.operate_bk (s : State) (q : GReq) (c : Ctx) :
    (State.operate s q c).1.bk = s.bk := by simp only [State.operate]; (repeat' split) <;> simp 
@[simp] theorem State.logResponse_bk (s : State) (q : GReq) (a : Answer) :
    (State.logResponse s q a).bk = s.bk := by simp [State.logResponse]
@[simp] theorem State.inSession_bk (s : State) (q : GReq) (x : Session) :
    (State.inSession s q x).1.bk = s.bk := by simp only [State.inSession]; (repeat' split) <;> simp 
@[simp] theorem State.keepReply_bk (s : State) (q : GReq) (f : Bytes) :
    (State.keepReply s q f).bk = s.bk := by unfold State.keepReply; (repeat' split) <;> simp
@[simp] theorem State.request_bk (s : State) (q : GReq) :
    (State.request s q).1.bk = s.bk := by simp only [State.request]; (repeat' split) <;> simp 
@[simp] theorem State.putBox_bk (s : State) (fn : Nat) (x : Mailbox) :
    (State.putBox s fn x).bk = s.bk := by simp [State.putBox]
@[simp] theorem State.badFrame_bk (s : State) (p : GdpPath) (cause : Nat) :
    (State.badFrame s p cause).bk = s.bk := by unfold State.badFrame; (repeat' split) <;> simp
@[simp] theorem State.serveRemote_bk (s : State) (p : GdpPath) (cause : Nat) (q : GReq) :
    (State.serveRemote s p cause q).bk = s.bk := by simp only [State.serveRemote]; (repeat' split) <;> simp 
@[simp] theorem State.answerBox_bk (s : State) (fn : Nat) (b : Bytes) (cause : Nat) (q : GReq) :
    (State.answerBox s fn b cause q).bk = s.bk := by simp only [State.answerBox]; (repeat' split) <;> simp 
@[simp] theorem State.serveBox_bk (s : State) (fn : Nat) (irq : Option Nat) (b : Bytes) (cause : Nat) (q : GReq) :
    (State.serveBox s fn irq b cause q).bk = s.bk := by simp only [State.serveBox]; (repeat' split) <;> simp 
@[simp] theorem State.serveHeld_bk (s : State) (fn : Nat) :
    (State.serveHeld s fn).bk = s.bk := by simp [State.serveHeld]
@[simp] theorem gdpIn_bk (op : Nat) (p : GdpPath) (frame : Bytes) (s : State) :
    (gdpIn op p frame s).bk = s.bk := by simp only [gdpIn]; (repeat' split) <;> simp 
@[simp] theorem mbxStatusRead_bk (fn : Nat) (s : State) :
    (mbxStatusRead fn s).bk = s.bk := by simp [mbxStatusRead]
@[simp] theorem sessionIdle_bk (sid : Nat) (s : State) :
    (sessionIdle sid s).bk = s.bk := by simp [sessionIdle]
@[simp] theorem halfOpen_bk (sid : Nat) (s : State) :
    (halfOpen sid s).bk = s.bk := by simp [halfOpen]
@[simp] theorem muteEnd_bk (p : GdpPath) (s : State) :
    (muteEnd p s).bk = s.bk := by simp [muteEnd]
@[simp] theorem blockTimeout_bk (sid : Nat) (s : State) :
    (blockTimeout sid s).bk = s.bk := by simp [blockTimeout]
@[simp] theorem writeIn_bk (o : Obj) (inst : Nat) (p : GdpPath) (h : ReqHead) (payload : Bytes) (buf : Option Bytes) (s : State) :
    (writeIn o inst p h payload buf s).bk = s.bk := by simp only [writeIn]; (repeat' split) <;> simp 
@[simp] theorem blockIn_bk (o : Obj) (inst : Nat) (p : GdpPath) (h : ReqHead) (value : Bytes) (s : State) :
    (blockIn o inst p h value s).bk = s.bk := by simp only [blockIn]; (repeat' split) <;> simp 
@[simp] theorem State.withFetchWord_bk (s : State) (nbits : Nat) (w : Nat) :
    (State.withFetchWord s nbits w).bk = s.bk := by simp only [State.withFetchWord]; (repeat' split) <;> simp 
end Sys2Proof.Machine
end

