-- ==== Sys2Proof/Laws/Request.lean ====
section
/-! SUPPORT. Laws/Request.lean: a request that stands is carried out and answered, on every path (spec/03 R93–R94, R631). -/
namespace Sys2Proof.Machine
open Sys2Proof

/-- What a standing request does: its operation, then the answer kept with the session. -/
theorem request_stands (u : State) (q : GReq) (x : Session) (h : u.stands q x = true) :
    u.request q = (((u.operate q (u.ctxOf q x)).1.logResponse q (u.operate q (u.ctxOf q x)).2).keepReply q
      (replyFrame q q.sid (u.operate q (u.ctxOf q x)).2), some (replyFrame q q.sid (u.operate q (u.ctxOf q x)).2)) := by
  simp only [State.stands, State.asks, Bool.and_eq_true, Bool.not_eq_true', decide_eq_true_eq, beq_iff_eq, bne_iff_ne, Bool.or_eq_true,
    Option.isNone_iff_eq_none] at h
  obtain ⟨⟨⟨⟨⟨⟨⟨⟨h1, h2⟩, h3⟩, h4⟩, h5⟩, h6⟩, h7⟩, h8⟩, h9⟩ := h
  have n10 : (q.op == 16) = false := beq_false_of_ne (by omega)
  have n11 : (q.op == 17) = false := beq_false_of_ne (by omega)
  have n12 : (q.op == 18) = false := beq_false_of_ne (by omega)
  have h3' : (u.boot.recovery && !u.recoveryAnswers q) = false := by rcases h3 with h | h <;> simp [h]
  simp only [State.request, h1, h2, h3', h6, n10, Bool.false_eq_true, if_false, bne_self_eq_false, Bool.and_false, beq_false_of_ne h7]
  simp only [State.inSession, n11, n12, Bool.or_self, Bool.and_false, h8, h9, Bool.not_true, Bool.false_eq_true, if_false]

/-- A standing request on the management port or on I3C. -/
theorem serveRemote_stands (u : State) (p : GdpPath) (q : GReq) (x : Session) (hm : pathCode p ≠ 2) (hp : u.answersOn p = true)
    (h : u.stands q x = true) : u.serveRemote p 0 q = (u.operate q (u.ctxOf q x)).1.replied p q (u.operate q (u.ctxOf q x)).2 := by
  have hq : (u.pathUp p && pathTakes p) = true := by cases p <;> simp_all [State.answersOn, pathCode]
  unfold State.serveRemote
  rw [if_neg (by simp [hq]), if_neg (by simp), request_stands u q x h]
  cases p with
  | mailbox fn irq => exact absurd rfl hm
  | mgmt a b c => rfl
  | i3c a b c => rfl

/-- A mailbox's doorbell that finds the Ward running and no frame waiting: its frame is answered. -/
theorem serveBox_answers (s : State) (fn : Nat) (irq : Option Nat) (b : Bytes) (cause : Nat) (q : GReq) (ha : s.answersOn (.mailbox fn irq) = true) :
    s.serveBox fn irq b cause q = State.answerBox (match irq with
      | some v => s.putBox fn { s.box fn with irq := mbxIrq v }
      | none => s) fn b cause q := by
  simp only [State.answersOn, Bool.and_eq_true, Bool.not_eq_true'] at ha
  obtain ⟨⟨⟨a1, a2⟩, a3⟩, a4⟩ := ha
  unfold State.serveBox
  rw [if_neg (by simp [a1, a2])]
  cases irq <;> simp [a3, a4]

/-- A standing request of a mailbox. -/
theorem serveBox_stands (s : State) (fn : Nat) (irq : Option Nat) (frame : Bytes) (q : GReq) (x : Session) (ha : s.answersOn (.mailbox fn irq) = true)
    (h : (s.taking (.mailbox fn irq) frame).stands q x = true) :
    s.serveBox fn irq (s.boxReq fn frame) 0 q =
      ((s.taking (.mailbox fn irq) frame).operate q ((s.taking (.mailbox fn irq) frame).ctxOf q x)).1.replied (.mailbox fn irq) q
        ((s.taking (.mailbox fn irq) frame).operate q ((s.taking (.mailbox fn irq) frame).ctxOf q x)).2 := by
  rw [serveBox_answers _ _ _ _ _ _ ha]
  have hr := request_stands _ q x h
  unfold State.answerBox
  cases irq with
  | none =>
    dsimp only [State.taking] at hr ⊢
    rw [if_neg (by simp), hr]
    rfl
  | some v =>
    dsimp only [State.taking] at hr ⊢
    rw [if_neg (by simp), hr]
    rfl

/-- A good frame of an operation is carried out. -/
theorem gdpFrameIn_good (t : Nat) (p : GdpPath) (frame : Bytes) (op : Nat) (s u : State) (q : GReq) (x : Session)
    (h : GoodFrame t p frame op s u q x) :
    gdpFrameIn t op p frame s = .next ((u.operate q (u.ctxOf q x)).1.replied p q (u.operate q (u.ctxOf q x)).2) := by
  obtain ⟨h1, h2, h3, h4, h5, h6, h7⟩ := h
  subst h5
  simp only [gdpFrameIn, h1, if_true]
  congr 1
  unfold gdpIn
  cases p <;> dsimp only [State.frameOn] at h2 h3 ⊢ <;> rw [if_neg (by rw [← h4, h3]; simp), h2, ← h3]
  · exact serveRemote_stands _ _ q x (by simp [pathCode]) h6 h7
  · exact serveRemote_stands _ _ q x (by simp [pathCode]) h6 h7
  · exact serveBox_stands _ _ _ frame q x h6 h7

/-- A good frame of the management port or of I3C is answered by what its request answers. -/
theorem session_frame (t : Nat) (p : GdpPath) (frame : Bytes) (op : Nat) (s z : State) (q : GReq) (f : Bytes) (h1 : pathCode p ≠ 2)
    (h2 : frameCause frame = 0) (h3 : q = { reqOf p frame with buf := (s.at t).loadBuf (reqOf p frame) }) (h4 : q.op = op)
    (h5 : (s.at t).answersOn p = true) (hr : (s.at t).request q = (z, some f)) :
    gdpFrameIn t op p frame s = .next (z.emit (.gdpReply p f)).flush := by
  have hp : pathOk p = true := by cases p <;> simp_all [pathOk, pathCode]
  have hq : ((s.at t).pathUp p && pathTakes p) = true := by cases p <;> simp_all [State.answersOn, pathCode]
  unfold gdpFrameIn
  rw [if_pos hp]
  congr 1
  unfold gdpIn
  cases p with
  | mailbox fn irq => exact absurd rfl h1
  | mgmt a b c =>
    dsimp only
    rw [if_neg (by rw [← h4, h3]; simp), h2, ← h3]
    unfold State.serveRemote
    rw [if_neg (by rw [hq]; decide), if_neg (by simp), hr]
  | i3c a b c =>
    dsimp only
    rw [if_neg (by rw [← h4, h3]; simp), h2, ← h3]
    unfold State.serveRemote
    rw [if_neg (by rw [hq]; decide), if_neg (by simp), hr]
/-- A request of SESSION_PROVE or SESSION_CLOSE that is no repetition. -/
theorem request_session (u y : State) (q : GReq) (x : Session) (a : Answer) (h1 : u.gdp.muted.any (fun m => m.1 == pathSource q.path) = false) (h2 : q.ver = 1)
    (h3 : u.boot.recovery = false) (h4 : q.op = 17 ∨ q.op = 18) (h5 : u.sessionOf q = some x) (h6 : x.lastSeq ≠ some q.seq)
    (hi : u.inSession q x = (y, a)) :
    u.request q = ((y.logResponse q a).keepReply q (replyFrame q q.sid a), some (replyFrame q q.sid a)) := by
  have n10 : (q.op == 16) = false := beq_false_of_ne (by omega)
  simp only [State.request, h1, h2, h3, h5, n10, Bool.false_eq_true, if_false, bne_self_eq_false, Bool.and_false, Bool.false_and, beq_false_of_ne h6, hi]
/-- A write of one object that is served does what WRITE does. -/
theorem writeIn_served (w : RowWrite) (s u : State) (x : Session) (k : OKey) (h : Served w s u x k) :
    writeIn w.obj w.inst w.path w.head w.payload w.buf (s.at w.t) =
      (u.operate w.req (u.ctxOf w.req x)).1.replied w.path w.req (u.operate w.req (u.ctxOf w.req x)).2 := by
  obtain ⟨t, o, i, path, hd, pl, bf⟩ := w
  obtain ⟨h1, h2, h3, h4, h5, h6, h7⟩ := h
  have hc : frameCause (writeFrame o i hd pl) = 0 := frameCause_gdpFrame _ _ _ _ _ _ _ _ _ h2
  dsimp only at h3 h4 h5 ⊢
  rw [h3] at h5 ⊢
  unfold writeIn
  dsimp only
  rw [hc]
  cases path
  · exact serveRemote_stands _ _ _ x (by simp [pathCode]) h4 h5
  · exact serveRemote_stands _ _ _ x (by simp [pathCode]) h4 h5
  · exact serveBox_stands _ _ _ _ _ x h4 h5

/-- A setting key names its object. -/
theorem settingKey_obj (k : OKey) : (settingKey k).obj = k.obj := by unfold settingKey; split <;> rfl
/-- Only FUNC_ENABLE moves a function. -/
theorem noEnable (s : State) (k : OKey) (v : OVal) (h : k.obj ≠ .FUNC_ENABLE) : s.noteEnable k v = (s, false) := by
  unfold State.noteEnable; split
  · rename_i h2 _; exact absurd h2 h
  · rfl
/-- A write of one object that is served accepts its value, range-checked. -/
theorem write_acc (w : RowWrite) (s u : State) (x : Session) (k : OKey) (h : Served w s u x k)
   (o : Host.Outcome State Fault Refusal) (ho : o = if pathOk w.path then .next (writeIn w.obj w.inst w.path w.head w.payload w.buf (s.at w.t)) else .fault .noSuchUnit) :
   o = .next ((u.acceptAs (u.ctxOf w.req x) k (u.checked k w.payload) w.buf).1.replied w.path w.req (u.acceptAs (u.ctxOf w.req x) k (u.checked k w.payload) w.buf).2) := by
  have hw := writeIn_served w s u x k h
  rw [ho, if_pos h.1, hw]
  obtain ⟨h1, h2, h3, h4, h5, h6, h7⟩ := h
  have hr : w.req = { reqOf w.path (gdpFrame 2 w.head.session w.head.seq (keyIndex ⟨w.obj, w.inst, 0⟩) (keySub ⟨w.obj, w.inst, 0⟩) 0 w.head.detail w.head.target w.payload) with buf := w.buf } := rfl
  rw [reqOf_gdpFrame _ _ _ _ _ _ _ _ _ _ (by omega)] at hr
  have hop : w.req.op = 2 := by rw [hr]
  have hpl : w.req.payload = w.payload := by rw [hr]
  have hb : w.req.buf = w.buf := by rw [hr]
  have hq : u.operate w.req (u.ctxOf w.req x) = u.acceptAs (u.ctxOf w.req x) k (u.checked k w.payload) w.buf := by
    unfold State.operate; rw [hop]
    show u.doWrite w.req _ = _
    unfold State.doWrite State.accept State.checked; rw [h6, hpl, hb]
  rw [hq]
/-- … of an object that acts at once. -/
theorem write_now (w : RowWrite) (s u : State) (x : Session) (k : OKey) (h : Served w s u x k) (he : w.obj.spec.effect = .now)
   (o : Host.Outcome State Fault Refusal) (ho : o = if pathOk w.path then .next (writeIn w.obj w.inst w.path w.head w.payload w.buf (s.at w.t)) else .fault .noSuchUnit)
   (hbar : u.acceptBar (settingKey k) (u.checked k w.payload).1 = none)
   (y : State) (ha : u.acceptNow (u.ctxOf w.req x) k (u.checked k w.payload).1 w.buf = (y, none)) (hf : w.obj ≠ .FUNC_ENABLE) :
   o = .next ((y.clamped (u.ctxOf w.req x) k (u.checked k w.payload).2).replied w.path w.req (acceptedAnswer w.obj true (u.checked k w.payload))) := by
  rw [write_acc w s u x k h o ho]
  have h7 := h.2.2.2.2.2.2
  have ho' : (settingKey k).obj = w.obj := by rw [settingKey_obj, h7]
  have : u.acceptAs (u.ctxOf w.req x) k (u.checked k w.payload) w.buf = (y.clamped (u.ctxOf w.req x) k (u.checked k w.payload).2, acceptedAnswer w.obj true (u.checked k w.payload)) := by
    unfold State.acceptAs
    simp only [hbar, ho', he, ha, BEq.rfl, if_true]
    have hz : (y).noteEnable (settingKey k) (u.checked k w.payload).1 = (y, false) := noEnable _ _ _ (by rw [ho']; exact hf)
    rw [hz]
    unfold acceptedAnswer State.clamped
    cases (u.checked k w.payload).2 <;> simp
  rw [this]
/-- … of an object that acts at once and turns the value down. -/
theorem write_refused (w : RowWrite) (s u : State) (x : Session) (k : OKey) (h : Served w s u x k) (he : w.obj.spec.effect = .now)
   (o : Host.Outcome State Fault Refusal) (ho : o = if pathOk w.path then .next (writeIn w.obj w.inst w.path w.head w.payload w.buf (s.at w.t)) else .fault .noSuchUnit)
   (hbar : u.acceptBar (settingKey k) (u.checked k w.payload).1 = none)
   (y : State) (b : Nat × Nat) (ha : u.acceptNow (u.ctxOf w.req x) k (u.checked k w.payload).1 w.buf = (y, some b)) :
   o = .next (y.replied w.path w.req { status := b.1, detail := b.2 }) := by
  rw [write_acc w s u x k h o ho]
  have h7 := h.2.2.2.2.2.2
  have ho' : (settingKey k).obj = w.obj := by rw [settingKey_obj, h7]
  have : u.acceptAs (u.ctxOf w.req x) k (u.checked k w.payload) w.buf = (y, { status := b.1, detail := b.2 }) := by
    unfold State.acceptAs
    simp only [hbar, ho', he, ha, BEq.rfl, if_true]
  rw [this]
/-- … of an object that waits. -/
theorem write_wait (w : RowWrite) (s u : State) (x : Session) (k : OKey) (h : Served w s u x k) (he : w.obj.spec.effect ≠ .now)
   (o : Host.Outcome State Fault Refusal) (ho : o = if pathOk w.path then .next (writeIn w.obj w.inst w.path w.head w.payload w.buf (s.at w.t)) else .fault .noSuchUnit)
   (hbar : u.acceptBar (settingKey k) (u.checked k w.payload).1 = none) (hf : w.obj ≠ .FUNC_ENABLE) :
   o = .next (((u.queueWrite (settingKey k) (u.checked k w.payload).1).clamped (u.ctxOf w.req x) k (u.checked k w.payload).2).replied w.path w.req (acceptedAnswer w.obj false (u.checked k w.payload))) := by
  rw [write_acc w s u x k h o ho]
  have h7 := h.2.2.2.2.2.2
  have ho' : (settingKey k).obj = w.obj := by rw [settingKey_obj, h7]
  have he' : (w.obj.spec.effect == Effect.now) = false := by simpa using he
  have : u.acceptAs (u.ctxOf w.req x) k (u.checked k w.payload) w.buf = ((u.queueWrite (settingKey k) (u.checked k w.payload).1).clamped (u.ctxOf w.req x) k (u.checked k w.payload).2, acceptedAnswer w.obj false (u.checked k w.payload)) := by
    unfold State.acceptAs
    simp only [hbar, ho', he', Bool.false_eq_true, if_false]
    have hz : (u.queueWrite (settingKey k) (u.checked k w.payload).1).noteEnable (settingKey k) (u.checked k w.payload).1 = (u.queueWrite (settingKey k) (u.checked k w.payload).1, false) := noEnable _ _ _ (by rw [ho']; exact hf)
    rw [hz]
    unfold acceptedAnswer State.clamped
    cases (u.checked k w.payload).2 <;> simp
  rw [this]
/-- A value that waits for its time, accepted. -/
theorem wait_value (u : State) (c : Ctx) (k : OKey) (r : OVal × List Clamp) (b : Option Bytes) (he : k.obj.spec.effect ≠ .now)
    (hbar : u.acceptBar (settingKey k) r.1 = none) (hf : k.obj ≠ .FUNC_ENABLE) :
    u.acceptAs c k r b = ((u.queueWrite (settingKey k) r.1).clamped c k r.2, acceptedAnswer k.obj false r) := by
  have he' : (k.obj.spec.effect == Effect.now) = false := by simpa using he
  unfold State.acceptAs
  simp only [hbar, settingKey_obj, he', Bool.false_eq_true, if_false]
  have hz : (u.queueWrite (settingKey k) r.1).noteEnable (settingKey k) r.1 = (u.queueWrite (settingKey k) r.1, false) :=
    noEnable _ _ _ (by rw [settingKey_obj]; exact hf)
  rw [hz]
  unfold acceptedAnswer State.clamped
  cases r.2 <;> simp
/-- An accepted value is answered with OK or CLAMPED. -/
theorem acceptedAnswer_status (o : Obj) (now : Bool) (r : OVal × List Clamp) : (acceptedAnswer o now r).status < 16 := by
  unfold acceptedAnswer; split <;> simp
/-- A closed block sequence is accepted as one value (R106). -/
theorem block_closed (u : State) (q : GReq) (c : Ctx) (k : OKey) (y : State) (a : Answer) (h1 : u.lookup c q.index q.sub = some k) (h2 : q.closes = true)
    (h3 : ({ u with gdp := { u.gdp with blocks := u.gdp.blocks.filter (fun b => !q.mine (settingKey k) b) } } : State).accept c k
      (if k.obj.spec.ty == .blob then .blob (joinSegs k.obj (u.segments q (settingKey k))) else .num (leNat (joinSegs k.obj (u.segments q (settingKey k))))) q.buf = (y, a))
    (h4 : a.status < 16) : u.doWriteBlock q c = (y, { a with payload := [] }) := by
  unfold State.doWriteBlock
  rw [h1]
  dsimp only
  rw [if_pos h2, settingKey_obj, h3, if_neg (by simpa using h4)]
/-- Most objects have no refusal at acceptance. -/
theorem noBar (u : State) (k : OKey) (v : OVal) (h : k.obj ≠ .SYSCAL_CMD) (h2 : k.obj ≠ .LBIST_RUN) (h3 : k.obj ≠ .ARRAY_TEST_RUN) (h4 : k.obj ≠ .FW_COMMIT) : u.acceptBar (settingKey k) v = none := by
  unfold State.acceptBar; rw [settingKey_obj]; split <;> simp_all

end Sys2Proof.Machine
end

