-- ==== Sys2Proof/WellFormed.lean ====
section
/-! DEFINITION. WellFormed.lean: which commands are well formed: every operand within the width, and every list of the length, that the spec gives
it. A meaning does not ask it: an operand that names nothing of the device ends in the fault of Machine/State.lean. -/
namespace Sys2Proof

/-- A number fits n bits, n at least 1. -/
def fits (n v : Nat) : Bool := decide (Nat.log2 v < n)

/-- A path of spec/03 Table 3.1: an IP address, UDP ports, an MCTP endpoint, one of 64 functions' mailboxes. -/
def GdpPath.wf : GdpPath → Bool
  | .mgmt src port dst => fits 128 src && fits 16 port && fits 16 dst
  | .i3c src kind vendor => fits 8 src && fits 8 kind && fits 16 vendor
  | .mailbox fn irq => decide (fn < 64) && irq.all (fits 32)

/-- The header fields of spec/03 Table 3.3. -/
def ReqHead.wf (h : ReqHead) : Bool := fits 16 h.session && fits 16 h.seq && fits 8 h.detail && fits 8 h.target

/-- A function of spec/03 R123: 16 slots, 23 ports, 64 keyways. -/
def Func.wf : Func → Bool
  | .slot n => decide (n < 16)
  | .port n => decide (n < 23)
  | .keyway n => decide (n < 64)

/-- An SPDM connection: the mailbox of one of 64 functions, or an I3C endpoint. -/
def SpdmConn.wf : SpdmConn → Bool
  | .doe fn => decide (fn < 64)
  | .i3c src => fits 8 src

/-- Who sends a latch operation (spec/11 Table 11.16): LATCH_ADDR's address has 11 bits, TAG 15. -/
def LatchUser.wf : LatchUser → Bool
  | .host fn remote tag => decide (fn < 64) && remote.all (fits 11) && fits 15 tag
  | .unit kw u => decide (kw < 64) && fits 32 u

/-- The header of spec/11 Table 11.5. -/
def HFrame.wf (f : HFrame) : Bool :=
  fits 8 f.type && fits 8 f.flags && fits 16 f.dst && fits 16 f.src && fits 16 f.via && fits 32 f.flow && fits 32 f.seq && fits 8 f.keyway &&
    fits 8 f.keySlot && fits 8 f.hops && fits 8 f.status && decide (f.payload.length ≤ 4096)

/-- Every operand of a command within its width. -/
def Instr.wf : Instr → Bool
  | .beatPinEdge _ => true
  | .beatMarker _ port number state => decide (port < 23) && fits 48 number && fits 8 state
  | .missedBeat _ => true
  | .beatSelfTimed _ => true
  | .seekingLockTimeout _ => true
  | .transitionBeatTimeout _ => true
  | .beatBoundary _ host costs _ _ => host.all (fun c => fits 64 c.1) && costs.all (fun c => decide (c.slot < 16))
  | .runPhaseStart _ => true
  | .quietWindowStart _ => true
  | .stepWorkEnd _ core => decide (core < 1536)
  | .controllerHeartbeat _ ctrl => fits 32 ctrl
  | .ctrlReset _ ctrl => fits 32 ctrl.unit
  | .ctrlRestartDone _ ctrl => fits 32 ctrl
  | .haspHoldExpiry _ hc => decide (hc < 8)
  | .haspWorkDelivery _ hc => decide (hc < 8)
  | .isolateManagement _ unit => fits 32 unit
  | .isolateFault _ unit => fits 32 unit
  | .stepOrder _ unit => fits 32 unit
  | .quadGateReq _ p h v => p.wf && h.wf && fits 16 v
  | .quadOpenDone _ quad => decide (quad < 16)
  | .unitQuery _ p h v => p.wf && h.wf && fits 32 v
  | .gdpRead _ p _ => p.wf
  | .gdpWrite _ p _ => p.wf
  | .gdpReadBlock _ p _ => p.wf
  | .gdpWriteBlock _ p _ => p.wf
  | .gdpDescribe _ p _ => p.wf
  | .gdpRestore _ p _ => p.wf
  | .gdpStore _ p _ => p.wf
  | .sessionOpen _ p _ => p.wf
  | .sessionProve _ p _ => p.wf
  | .sessionClose _ p _ => p.wf
  | .mbxStatusRead _ fn => decide (fn < 64)
  | .sessionIdleTimeout _ sid => fits 16 sid
  | .halfOpenTimeout _ sid => fits 16 sid
  | .sourceMuteEnd _ p => p.wf
  | .blockSequenceTimeout _ sid => fits 16 sid
  | .seekingWriteApply _ => true
  | .funcEnable _ p h f v => p.wf && h.wf && f.wf && fits 1 v
  | .funcOpenComplete _ f => f.wf
  | .funcOpenLimit _ f => f.wf
  | .funcCloseComplete _ f => f.wf
  | .funcCloseLimit _ f => f.wf
  | .funcPowerupStart _ f => f.wf
  | .coreSlot _ core passes => decide (core < 1536) && passes.all (fun p => decide (p.eng < 24576) && decide (p.tier < 4))
  | .countWordsReady _ r => decide (r.eng < 24576) && r.ticks.length == 544
  | .diagReadbackDone _ eng tier cells => decide (eng < 24576) && decide (tier < 4) && cells.all (fun c => decide (c.row < 520) && decide (c.col < 512))
  | .spareVerified _ eng tier spare _ _ => decide (eng < 24576) && decide (tier < 4) && decide (spare < 32)
  | .engRetireReq _ p h v => p.wf && h.wf && fits 32 v
  | .engQuery _ p h v => p.wf && h.wf && fits 32 v
  | .keeperWorkItem _ core _ => decide (core < 1536)
  | .splitRecomputeDone _ r => decide (r.eng < 24576) && r.ticks.length == 8
  | .tileAudit _ core => decide (core < 1536)
  | .maskAnd _ len masks => decide (len ≤ 65536) && decide (2 ≤ masks.length) && decide (masks.length ≤ 8) && masks.all (fits 65536)
  | .maskOr _ len masks => decide (len ≤ 65536) && decide (2 ≤ masks.length) && decide (masks.length ≤ 8) && masks.all (fits 65536)
  | .maskXor _ len masks => decide (len ≤ 65536) && decide (2 ≤ masks.length) && decide (masks.length ≤ 8) && masks.all (fits 65536)
  | .maskAndnot _ len a b => decide (len ≤ 65536) && fits 65536 a && fits 65536 b
  | .maskPopcnt _ len a => decide (len ≤ 65536) && fits 65536 a
  | .maskAny _ len a => decide (len ≤ 65536) && fits 65536 a
  | .maskAll _ len a => decide (len ≤ 65536) && fits 65536 a
  | .maskFirst _ len a => decide (len ≤ 65536) && fits 65536 a
  | .vrefCompare _ die _ => decide (die < 4)
  | .calStageStart _ eng => decide (eng < 24576)
  | .calRampStageDone _ eng _ => decide (eng < 24576)
  | .calCoarseStageDone _ eng tier r => decide (eng < 24576) && decide (tier < 4) && r.all (fun c => decide (c.col < 544) && c.p.length == 6)
  | .calFineStageDone _ eng tier r => decide (eng < 24576) && decide (tier < 4) && r.all (fun c => decide (c.col < 544) && c.p.length == 6)
  | .calDiscardStandoffEnd _ eng => decide (eng < 24576)
  | .trimStoreWrite _ eng => decide (eng < 24576)
  | .calRunReq _ p h v => p.wf && h.wf && fits 32 v
  | .senseSelfcalStart _ conv => decide (conv < 2)
  | .senseSelfcalDone _ conv _ _ => decide (conv < 2)
  | .slotLoad _ p h n => p.wf && h.wf && decide (n < 16)
  | .slotAbort _ p h n => p.wf && h.wf && decide (n < 16)
  | .slotEmpty _ p h n => p.wf && h.wf && decide (n < 16)
  | .shardPut _ fn addrLo addrHi len ctrl => decide (fn < 64) && fits 32 addrLo && fits 32 addrHi && fits 32 len && fits 32 ctrl
  | .putStatusRead _ fn => decide (fn < 64)
  | .ringCons _ fn v => decide (fn < 64) && fits 32 v
  | .shardArrival _ fn _ => decide (fn < 64)
  | .shardTimeout _ slot index => decide (slot < 16) && fits 32 index
  | .adapterLoad _ p h _ _ => p.wf && h.wf
  | .tierProgramStart _ eng tier => decide (eng < 24576) && decide (tier < 4)
  | .tierProgramDone _ eng tier bad badSpares badRefs cells _ =>
      decide (eng < 24576) && decide (tier < 4) && (bad ++ badRefs).all (fun c => decide (c < 512)) &&
      badSpares.all (fun c => decide (c < 32)) && cells.all (fun c => decide (c.row < 520) && decide (c.col < 512))
  | .replaceRetry _ slot _ => decide (slot < 16)
  | .scrubReadback _ eng tier cells => decide (eng < 24576) && decide (tier < 4) && cells.all (fun c => decide (c.row < 520) && decide (c.col < 512))
  | .scrubOverdue _ eng tier => decide (eng < 24576) && decide (tier < 4)
  | .imageDigestCheck _ eng tier flips => decide (eng < 24576) && decide (tier < 4) && flips.all (fun c => fits 32 c.1)
  | .digitalDigestCheck _ slot index flips => decide (slot < 16) && fits 32 index && flips.all (fun c => fits 32 c.1)
  | .placeQuery _ p h n v => p.wf && h.wf && decide (n < 16) && fits 32 v
  | .laneTask _ w => decide (w.seq < 32768) && decide (w.cluster < 64)
  | .laneTaskDone _ seq _ => decide (seq < 32768)
  | .pageSeal _ seq => decide (seq < 32768)
  | .nextRootBuild _ seq => decide (seq < 32768)
  | .ringRound _ seq => decide (seq < 32768)
  | .ringRoundTimeout _ seq => decide (seq < 32768)
  | .attnMap _ p h n _ => p.wf && h.wf && decide (n < 16)
  | .seqQuery _ p h v => p.wf && h.wf && fits 16 v
  | .submitTail _ fn tail host => decide (fn < 64) && fits 16 tail && host.all (fun c => fits 64 c.1)
  | .admitTimeout _ idx => decide (idx < 32768)
  | .tokenSample _ idx _ _ => decide (idx < 32768)
  | .tokenIrqGapEnd _ fn => decide (fn < 64)
  | .cancel _ fn v => decide (fn < 64) && fits 32 v
  | .reqCancel _ p h v => p.wf && h.wf && fits 16 v
  | .rearm _ fn v => decide (fn < 64) && fits 32 v
  | .reqRearm _ p h v => p.wf && h.wf && fits 16 v
  | .specRearmTimeout _ idx => decide (idx < 32768)
  | .serveStatusRead _ fn => decide (fn < 64)
  | .ringStallLimitExpiry _ idx => decide (idx < 32768)
  | .kvWaitLimitExpiry _ idx => decide (idx < 32768)
  | .handoffTimeout _ idx => decide (idx < 32768)
  | .histQuery _ p h v => p.wf && h.wf && fits 16 v
  | .histClear _ p h v => p.wf && h.wf && fits 1 v
  | .reqQuery _ p h v => p.wf && h.wf && fits 16 v
  | .linkTrained _ port lanes => decide (port < 23) && [15, 3, 12].contains lanes
  | .ident _ port f _ => decide (port < 23) && f.wf
  | .linkDown _ port => decide (port < 23)
  | .frameReplay _ port => decide (port.port < 23)
  | .fabLaneDegraded _ port lanes => decide (port < 23) && [3, 12].contains lanes
  | .fabricMap _ p h _ => p.wf && h.wf
  | .reachSend _ _ => true
  | .reach _ port f => decide (port < 23) && f.wf
  | .lossNotice _ port f => decide (port < 23) && f.wf
  | .adopt _ port f => decide (port < 23) && f.wf
  | .trainHead _ port f => decide (port < 23) && f.wf
  | .trainPage _ port f => decide (port < 23) && f.wf
  | .trainEnd _ port f => decide (port < 23) && f.wf
  | .trainAck _ port f => decide (port < 23) && f.wf
  | .trainTimeout _ flow => fits 32 flow
  | .shardReq _ port f => decide (port < 23) && f.wf
  | .shardData _ port f => decide (port < 23) && f.wf
  | .ringQuery _ port f => decide (port < 23) && f.wf
  | .ringPartial _ port f => decide (port < 23) && f.wf
  | .flowReplyTimeout _ flow => fits 32 flow
  | .fabEchoMissing _ port => decide (port < 23)
  | .lossDecision _ member => decide (member < 16)
  | .spareAdopt _ p h v => p.wf && h.wf && fits 16 v
  | .standby _ port f => decide (port < 23) && f.wf
  | .latchOp _ port f => decide (port < 23) && f.wf
  | .latchReply _ port f => decide (port < 23) && f.wf
  | .latchSignal _ w num v => w.wf && fits 14 num && fits 32 v
  | .latchSet _ w num v => w.wf && fits 14 num && fits 32 v
  | .latchRead _ w num => w.wf && fits 14 num
  | .latchWait _ w num target timeout => w.wf && fits 14 num && fits 32 target && fits 32 timeout
  | .latchWaitTimeout _ num => fits 14 num
  | .latchCplCons _ fn v => decide (fn < 64) && fits 16 v
  | .latchCompletionWrite _ fn => decide (fn < 64)
  | .latchStatusRead _ fn => decide (fn < 64)
  | .latchQuery _ p h v => p.wf && h.wf && fits 16 v
  | .flr _ fn => decide (fn < 64)
  | .keyDrainExpiry _ kw => decide (kw < 64)
  | .zeroingDone _ kw => (decide (kw < 64) || kw == 255)
  | .keyInstall _ p h _ => p.wf && h.wf
  | .keyClose _ p h v => p.wf && h.wf && fits 8 v
  | .keyGenerationDestroy _ slot => decide (slot < 128)
  | .mgmtKeyInstall _ p h _ => p.wf && h.wf
  | .lcRequest _ p h _ => p.wf && h.wf
  | .debugUnlock _ p h _ => p.wf && h.wf
  | .spdmGetVersion _ c => c.wf
  | .spdmGetCapabilities _ c => c.wf
  | .spdmNegotiateAlgorithms _ c => c.wf
  | .spdmGetDigests _ c => c.wf
  | .spdmGetCertificate _ c slot off len => c.wf && decide (slot < 16) && fits 16 off && fits 16 len
  | .spdmChallenge _ c nonce => c.wf && nonce.length == 32
  | .spdmGetMeasurements _ c which nonce => c.wf && fits 8 which && nonce.length == 32
  | .ideKm _ kw stream k => decide (kw < 64) && fits 8 stream && decide (k < 4)
  | .configRequest _ fn _ reg v => decide (fn < 64) && fits 12 reg && fits 32 v
  | .phaseAdd _ k => decide (k < 24)
  | .phaseDrop _ k => decide (k < 24)
  | .avsSlackReport _ die _ _ => decide (die < 4)
  | .railOvervoltage _ k => decide (k < 24)
  | .railUndervoltage _ k => decide (k < 24)
  | .railOvercurrent _ k => decide (k < 24)
  | .imonMonitorFault _ k => decide (k < 24)
  | .packagePowerSample _ mv imon => mv.length == 24 && imon.length == 24
  | .senseReading _ chan conv raw => decide (chan < 40) && decide (conv < 2) && fits 24 raw
  | .memTempReading _ stack _ => decide (stack < 8)
  | .xchk _ _ _ => true
  | .syscalZero _ p h => p.wf && h.wf
  | .syscalFullScale _ p h => p.wf && h.wf
  | .syscalApply _ p h => p.wf && h.wf
  | .syscalDiscard _ p h => p.wf && h.wf
  | .syscalCaptureDone _ _ => true
  | .syscalTimeout _ => true
  | .syscalChan _ p h v => p.wf && h.wf && fits 8 v
  | .thermTrip _ src => fits 8 src
  | .residueQuarantineEnd _ unit => fits 32 unit
  | .katDone _ unit _ => fits 32 unit
  | .eventRecordWrite _ => true
  | .evtIrqGapEnd _ fn => decide (fn < 64)
  | .rateTokenSummary _ code kw => fits 16 code && fits 8 kw
  | .evtHeartbeat _ => true
  | .evtAck _ p h v => p.wf && h.wf && fits 32 v
  | .evtQuery _ p h v => p.wf && h.wf && fits 32 v
  | .opHourPersist _ => true
  | .wardWdtRestart _ => true
  | .wardWdtExpiry _ => true
  | .mbistQuery _ p h v => p.wf && h.wf && fits 16 v
  | .bistAuth _ p h _ => p.wf && h.wf
  | .lbistRun _ p h v => p.wf && h.wf && fits 32 v
  | .lbistDone _ _ misr => fits 64 misr
  | .arrayTestRun _ p h v => p.wf && h.wf && fits 32 v
  | .arrayTestDone _ bad _ => bad.all (fun c => decide (c.1 < 4) && decide (c.2.1 < 512) && decide (c.2.2 < 512))
  | .porNRise _ => true
  | .porNFall _ => true
  | .railStepDone _ trips fails _ => trips.all (fun x => decide (1 ≤ x) && decide (x ≤ 17)) &&
      fails.all (fun f => fits 32 f.unit && decide (f.kind ≤ 4) && decide (f.action ≤ 3))
  | .railStartTimeout _ k => decide (k < 24)
  | .wardImageStart _ => true
  | .firmwareStart _ => true
  | .powerDownStep _ => true
  | .warmReset _ p h => p.wf && h.wf
  | .orderlyPowerDown _ p h => p.wf && h.wf
  | .perstAssert _ => true
  | .perstDeassert _ => true
  | .fwCommit _ p h v => p.wf && h.wf && fits 32 v
  | .fwCommitDone _ => true
  | .fwBankSelect _ p h v => p.wf && h.wf && fits 8 v
  | .linkTrainingFailed _ port => decide (port < 23)
  | .v3p3SbLoss _ => true
  | .lcErasuresDone _ => true

end Sys2Proof
end

