-- ==== Sys2Proof/Tests/Slice0.lean ====
section
/-! SUPPORT. Tests/Slice0.lean: the model's own tests. -/
namespace Sys2Proof.Tests
open Sys2Proof Sys2Proof.Machine

/-- WellFormed smoke: an ill-formed term for each kind of check, which the check refuses. -/
theorem test_wf_masks : (Instr.maskAny 0 65537 0).wf = false ∧ (Instr.maskAnd 0 8 [1]).wf = false ∧ (Instr.maskOr 0 8 (List.replicate 9 1)).wf = false := by
  decide
theorem test_wf_numbers : (Instr.haspWorkDelivery 0 8).wf = false ∧ (Instr.stepWorkEnd 0 1536).wf = false ∧ (Instr.calStageStart 0 24576).wf = false ∧
    (Instr.tierProgramStart 0 0 4).wf = false ∧ (Instr.quadOpenDone 0 16).wf = false ∧ (Instr.stepOrder 0 (2 ^ 32)).wf = false ∧
    (Instr.linkDown 0 23).wf = false ∧ (Instr.flr 0 64).wf = false ∧ (Instr.zeroingDone 0 64).wf = false ∧ (Instr.keyGenerationDestroy 0 128).wf = false ∧
    (Instr.pageSeal 0 32768).wf = false ∧ (Instr.phaseAdd 0 24).wf = false ∧ (Instr.lossDecision 0 16).wf = false ∧ (Instr.senseSelfcalStart 0 2).wf = false := by
  decide
theorem test_wf_widths : (Instr.latchWaitTimeout 0 16384).wf = false ∧ (Instr.trainTimeout 0 (2 ^ 32)).wf = false ∧ (Instr.cancel 0 0 (2 ^ 32)).wf = false ∧
    (Instr.shardPut 0 0 0 0 (2 ^ 32) 0).wf = false ∧ (Instr.senseReading 0 40 0 0).wf = false ∧ (Instr.senseReading 0 0 0 (2 ^ 24)).wf = false ∧
    (Instr.memTempReading 0 8 0).wf = false ∧ (Instr.configRequest 0 0 false 4096 0).wf = false ∧ (Instr.lbistDone 0 none (2 ^ 64)).wf = false ∧
    (Instr.spareVerified 0 0 0 32 true 0).wf = false ∧ (Instr.ideKm 0 0 0 4).wf = false ∧ (Instr.beatMarker 0 0 (2 ^ 48) 0).wf = false ∧
    (Instr.linkTrained 0 0 5).wf = false := by
  decide
theorem test_wf_operands : (Instr.unitQuery 0 (.mailbox 64) ⟨0, 0, 0, 0⟩ 0).wf = false ∧ (Instr.unitQuery 0 (.i3c 256 0x7E 0) ⟨0, 0, 0, 0⟩ 0).wf = false ∧
    (Instr.unitQuery 0 (.mgmt 1 50000 47900) ⟨65536, 0, 0, 0⟩ 0).wf = false ∧ (Instr.funcOpenComplete 0 (.slot 16)).wf = false ∧
    (Instr.funcOpenComplete 0 (.port 23)).wf = false ∧ (Instr.funcOpenComplete 0 (.keyway 64)).wf = false ∧
    (Instr.spdmGetVersion 0 (.doe 64)).wf = false ∧ (Instr.latchRead 0 (.host 0 (some 2048) 0) 0).wf = false ∧
    (Instr.latchRead 0 (.unit 64 0) 0).wf = false ∧ (Instr.reach 0 0 { type := 256 }).wf = false := by decide
theorem test_wf_lists : (Instr.packagePowerSample 0 [] []).wf = false ∧ (Instr.countWordsReady 0 ⟨0, []⟩).wf = false ∧
    (Instr.splitRecomputeDone 0 ⟨0, []⟩).wf = false ∧ (Instr.spdmChallenge 0 (.i3c 1) []).wf = false ∧ (Instr.scrubReadback 0 0 0 [⟨520, 0, 0⟩]).wf = false ∧
    (Instr.tierProgramDone 0 0 0 [] [] [512] [] 0).wf = false ∧ (Instr.tierProgramDone 0 0 0 [511] [32] [] [] 0).wf = false ∧
    (Instr.tierProgramDone 0 0 0 [] [] [] [⟨520, 0, 0⟩] 0).wf = false ∧ (Instr.arrayTestDone 0 [(4, 0, 0)] true).wf = false ∧
    (Instr.railStepDone 0 [18] [] 0).wf = false ∧ (Instr.railStepDone 0 [] [⟨0, 5, 0, 0, 0⟩] 0).wf = false ∧ (Instr.calFineStageDone 0 0 0 [⟨0, [], false⟩]).wf = false ∧
    (Instr.coreSlot 0 0 [⟨24576, 0, .single, 0, 0, [], [], 0⟩]).wf = false ∧ (Instr.laneTask 0 ⟨0, 0, 64, 0, [], [], []⟩).wf = false ∧
    (Instr.beatBoundary 0 [] [⟨16, 0, 0, 0⟩] 0 ⟨0, none, none⟩).wf = false ∧ (Instr.submitTail 0 0 0 [(2 ^ 64, 0)]).wf = false ∧
    (Instr.imageDigestCheck 0 0 0 [(2 ^ 32, 0)]).wf = false := by decide
theorem test_wf_holds : (Instr.maskAny 0 65536 5).wf = true ∧ (Instr.unitQuery 0 (.mailbox 63) ⟨1, 2, 0, 0⟩ 7).wf = true ∧
    (Instr.reach 0 22 { type := 0x05 }).wf = true := by decide

/-! Witnesses: for the hypotheses of each statement of Certificates/Slice0/Obligations.lean, a concrete state and operands that meet them.
The theorems here are elaborated one after another, so that the file needs few threads. -/
set_option Elab.async false

/-! ### Witnesses: for each statement, a state and operands that meet the hypotheses of its clauses -/

/-- A device whose Ward runs, in a LC_STATE, with a proved Expert session 5 under the management key. -/
def dev (lc : Nat) : State :=
  { State.reset with
    boot := { State.reset.boot with por := true, ward := true, state := 6, link := true, ready := true }
    ward := { State.reset.ward with lc := lc, mgmtKey := some (zeros 32) }
    gdp := { State.reset.gdp with sessions := [(5, { path := .mgmt 1 50000 47900, expert := true, proved := true })] } }
/-- The management path and a request head of session 5. -/
def man : GdpPath := .mgmt 1 50000 47900
def hd : ReqHead := { session := 5, seq := 7 }
/-- Session 5, and the state in which a write of row shape is served. -/
def ses : Session := { path := .mgmt 1 50000 47900, expert := true, proved := true }
def srvd (w : RowWrite) (s : State) : State := (s.at w.t).taking w.path w.frame
/-- The write is served. -/
def ok (w : RowWrite) (s : State) : Bool := decide (Served w s (srvd w s) ses ⟨w.obj, w.inst, 0⟩)
theorem served_of_ok (w : RowWrite) (s : State) (h : ok w s = true) : Served w s (srvd w s) ses ⟨w.obj, w.inst, 0⟩ := of_decide_eq_true h

def locked : State := { dev 3 with beat := { mode := .locked, last := 20000000000, next := 40000000000, length := 20000000000, decided := false,
                                             lastAccepted := some 0, periods := [20000000000, 20000000000], phase := .run, count := 9, number := 9 } }
theorem witness_PinEdge : ∃ w : Nat, w = locked.jitter locked.periodEst ∧ 0 < w ∧
    locked.beat.trans = none ∧ locked.beat.source = .pin ∧ locked.beat.mode = .locked ∧ locked.beat.decided = false ∧ locked.beat.lastAccepted = some 0 ∧
    (∀ e ∈ [20000000000 + w / 1000 * 1000, 20000000000 - w / 1000 * 1000, 30000000000], e = max locked.now e / 1000 * 1000 ∧
      periodOk ((e - 0) / max 1 ((2 * (e - 0) + locked.periodEst) / (2 * max 1 locked.periodEst))) = true) ∧
    locked.count ⟨.GLITCH_COUNT, 0, 0⟩ + 1 < 2 ^ 32 ∧ 20000000000 + w < 30000000000 ∧ 30000000000 + w < locked.beat.next :=
  ⟨_, rfl, by decide +kernel⟩
theorem witness_Served : ok (.num 1 .UNIT_QUERY 0 man hd 0) (dev 3) := by decide +kernel

def missing : State := { locked with beat := { locked.beat with mode := .freerun, missed := 16 } }
/-- A transition beat whose first edge is predicted at 50 ms. -/
def changing : Transition := ⟨.link, [20000000000], 40000000000, 50000000000⟩
def missingT : State := { missing with beat := { missing.beat with trans := some changing } }
theorem witness_BeatTimers : (locked.beat.mode = .locked ∧ locked.beat.decided = false ∧ locked.beat.trans = none ∧
      locked.beat.last + locked.jitter locked.periodEst ≤ max locked.now 20500000000) ∧
    (missing.beat.mode = .freerun ∧ missing.beat.trans = none ∧ missing.count ⟨.BEAT_FREERUN_LIMIT, 0, 0⟩ ≤ missing.beat.missed ∧
      missing.beat.next ≤ max missing.now 40000000000) ∧
    ((dev 3).beat.mode = .seeking ∧ (dev 3).beat.since + 2000000000000 ≤ max (dev 3).now 2000000000000) ∧
    (missingT.beat.trans = some changing ∧ missingT.beat.mode ≠ .seeking ∧
      changing.predict + missingT.jitter (meanPeriod changing.periods) ≤ max missingT.now 60000000000) := by decide +kernel
/-- Port 0 is UP with partner 0x0001; port 22 as well. -/
def linked (s : State) : State := { s with fab := { s.fab with ports := [(0, { link := 2, partner := 1, logical := 1, ident := true }),
                                                                         (22, { link := 2, partner := 1, logical := 1, ident := true })] } }
theorem witness_Marker : ((linked (dev 3)).port 22).link = 2 ∧ (linked (dev 3)).count ⟨.RX_BYTES, 22, 0⟩ + 39 < 2 ^ 64 ∧
    22 ≠ (linked (dev 3)).set0 .BEAT_LINK_PORT ∧ ((linked (dev 3)).port 0).link = 2 ∧ 0 = (linked (dev 3)).set0 .BEAT_LINK_PORT := by decide +kernel
def opening : State := { locked with beat := { locked.beat with phase := .open_, busy := [(1535, 9), (1534, 8)] } }
theorem witness_Phases : (opening.beat.phase = .open_ ∧ opening.set0 .OPEN_END ≤ (opening.at (20000000000 + 312500000)).notchNow) ∧
    (opening.beat.phase = .open_ ∧ locked.beat.phase = .run ∧ opening.set0 .QUIET_START ≤ (opening.at (20000000000 + 3968 * 4882813)).notchNow ∧
      locked.set0 .QUIET_START ≤ (locked.at (20000000000 + 3968 * 4882813)).notchNow) ∧
    (1535 < opening.numCores ∧ ∀ y ∈ opening.beat.busy, y.1 = 1535 → y.2 = opening.beat.number) ∧
    (1534 < opening.numCores ∧ (1534, 8) ∈ opening.beat.busy ∧ 8 ≠ opening.beat.number) := by decide +kernel
theorem witness_Boundary : opening.beat.mode ≠ .seeking ∧ opening.beat.trans = none ∧ opening.beat.next ≤ max opening.now 40000000000 := by decide +kernel
/-- The parents watch; Hasp core 7 and die steward 0 as given, and the beats of Hasp core 7's failed resets. -/
def watched (a b : UState) (l : List Nat) : State := { locked with hier := { locked.hier with
  watchFrom := some 0, own := [(uidHasp 7, a), (uidDie 0, b)], resets := [(uidHasp 7, l), (uidDie 0, l)], resetAt := [(uidHasp 7, 7)] } }
/-- The step of the boundary is being built. -/
def building : State := { opening with boot := { opening.boot with stepped := true } }
theorem witness_Controllers :
    ((dev 3).canonUnit (uidHasp 7) = some (uidHasp 7) ∧ isCtrl (uidHasp 7) = true) ∧
    ((dev 3).haspLive 7 = true ∧ (dev 3).boot.stepped = false ∧ (dev 3).hier.delivered.contains 7 = false) ∧
    (building.haspLive 7 = true ∧ building.boot.stepped = true ∧ building.beat.phase = .open_ ∧
      (building.at 20000000000).notchNow + 8 ≤ building.set0 .OPEN_END ∧ building.hier.merged.contains 7 = false ∧
      building.set0 .OPEN_END < (building.at (20000000000 + 300000000)).notchNow + 8) ∧
    ((∀ u ∈ [uidHasp 7, uidDie 0], ((watched .online .online [8, 7]).at 30000000000).silent u = true ∧ (watched .online .online [8, 7]).watched u = true) ∧
      ((mapGet (watched .online .online [8, 7]).hier.resets (uidHasp 7) []).filter (fun b => 9 < b + 1000)).length < 3 ∧
      3 ≤ ((mapGet (watched .online .online [9, 8, 7]).hier.resets (uidHasp 7) []).filter (fun b => 9 < b + 1000)).length ∧
      haspOf (uidDie 0) = none ∧ haspOf (uidHasp 7) = some 7 ∧ ((watched .online .online []).at 1999999999).silent (uidHasp 7) = false ∧
      (watched .online .faulted []).watched (uidCluster 0) = false) ∧
    ((watched .resetting .resetting [7]).ownState (uidHasp 7) = .resetting ∧ (watched .resetting .resetting [7]).ownState (uidDie 0) = .resetting ∧
      (watched .resetting .resetting [7]).canonUnit (uidDie 0) = some (uidDie 0) ∧ isCtrl (uidDie 0) = true ∧
      (watched .resetting .resetting [7]).beat.count ≤ mapGet (watched .resetting .resetting [7]).hier.resetAt (uidHasp 7) 0 + 2) ∧
    ((watched .resetting .online [7]).haspLive 7 = false ∧
      mapGet (watched .resetting .online [7]).hier.resetAt (uidHasp 7) 0 + 2 ≤ (watched .resetting .online [7]).beat.count) := by decide +kernel
/-- Core 5 ISOLATED; quadrant 15 gated, its opening begun at 7. -/
def isolated5 : State := { locked with hier := { locked.hier with own := [(locked.uidCore 5, .isolated)] } }
def opening15 : State := { locked with hier := { locked.hier with opening := [(15, 7)], own := [(uidQuad 15, .gated)] } }
theorem witness_Isolation : locked.canonUnit (locked.uidCore 5) = some (locked.uidCore 5) ∧ locked.beat.mode ≠ .seeking ∧
    locked.hier.isolate.contains (locked.uidCore 5) = false ∧ (dev 3).beat.mode = .seeking ∧ locked.unitState (locked.uidCore 5) ≠ .isolated ∧
    isolated5.unitState (locked.uidCore 5) = .isolated ∧ mapFind opening15.hier.opening 15 = some 7 ∧
    opening15.ownState (uidQuad 15) = .gated := by decide +kernel

/-- A write that waits for the boundary is served, and nothing bars its acceptance. -/
def okWait (w : RowWrite) (s : State) : Bool :=
  ok w s && decide ((srvd w s).acceptBar (settingKey ⟨w.obj, w.inst, 0⟩) (w.taken (srvd w s) ⟨w.obj, w.inst, 0⟩) = none)
theorem witness_Selectors : ok (.num 1 .UNIT_QUERY 0 man hd 0) (dev 3) ∧ ok (.num 1 .ENG_QUERY 0 man hd ((dev 3).uidEngine 24575)) (dev 3) ∧
    ok (.num 1 .PLACE_QUERY 15 man hd 5) (dev 3) ∧ ok (.num 1 .SEQ_QUERY 0 man hd 32767) (dev 3) ∧ ok (.num 1 .HIST_QUERY 0 man hd 5) (dev 3) ∧
    ok (.num 1 .REQ_QUERY 0 man hd 32767) (dev 3) ∧ ok (.num 1 .LATCH_QUERY 0 man hd 16383) (dev 3) ∧ ok (.num 1 .EVT_QUERY 0 man hd 5) (dev 3) ∧
    ok (.num 1 .MBIST_QUERY 0 man hd 1023) (dev 3) := by decide +kernel
/-- With the tests authorised in MANUFACTURE, and with a system calibration under way. -/
def testing : State := { dev 1 with bist := { (dev 1).bist with auth := true } }
def calib (st : Nat) : State := { dev 3 with sense := { (dev 3).sense with cal := { (dev 3).sense.cal with status := st, started := some 0 } } }
theorem witness_WritesWait : okWait (.num 1 .QUAD_GATE_REQ 0 man hd 1) (dev 3) ∧ okWait (.num 1 .SLOT_CMD 15 man hd 1) (dev 3) ∧
    okWait (.num 1 .SLOT_CMD 0 man hd 2) (dev 3) ∧ okWait (.num 1 .SLOT_CMD 7 man hd 3) (dev 3) ∧ okWait (.num 1 .HIST_CLEAR 0 man hd 1) (dev 3) ∧
    okWait (.record 1 .FABRIC_MAP man hd (zeros 520)) (dev 3) ∧ okWait (.num 1 .KEY_CLOSE 0 man hd 127) (dev 3) ∧
    okWait (.num 1 .SYSCAL_CMD 0 man hd 1) (dev 3) ∧ okWait (.num 1 .SYSCAL_CMD 0 man hd 2) (calib 1) ∧ okWait (.num 1 .SYSCAL_CMD 0 man hd 3) (calib 2) ∧
    okWait (.num 1 .SYSCAL_CMD 0 man hd 4) (calib 1) ∧ okWait (.num 1 .SYSCAL_CHAN 0 man hd 39) (dev 3) ∧ okWait (.num 1 .EVT_ACK 0 man hd 1) (dev 3) ∧
    okWait (.num 1 .ENG_RETIRE_REQ 0 man hd ((dev 3).uidEngine 24575)) (dev 3) ∧ okWait (.num 1 .CAL_RUN_REQ 0 man hd ((dev 3).uidEngine 24575)) (dev 3) ∧
    okWait (.num 1 .LBIST_RUN 0 man hd (testing.uidCore 1535)) testing ∧ okWait (.num 1 .ARRAY_TEST_RUN 0 man hd (testing.uidEngine 24575)) testing ∧
    okWait (.num 1 .FW_COMMIT 0 man hd 192) (dev 3) ∧ okWait (.num 1 .FW_BANK_SELECT 0 man hd 3) (dev 3) ∧
    okWait (.num 1 .DEV_POWER_CMD 0 man hd 1) (dev 3) ∧ okWait (.num 1 .DEV_POWER_CMD 0 man hd 2) (dev 3) := by decide +kernel
/-- A frame of session 5 on the management path, and the request it is. -/
def frm (op detail : Nat) (o : Obj) (payload : Bytes) : Bytes := gdpFrame op 5 7 (keyIndex ⟨o, 0, 0⟩) (keySub ⟨o, 0, 0⟩) 0 detail 0 payload
def rq (f : Bytes) : GReq := { reqOf man f with buf := (dev 3).loadBuf (reqOf man f) }
/-- The frame is good and its request names its object. -/
def good (op detail : Nat) (o : Obj) (payload : Bytes) : Bool :=
  decide (GoodFrame 1 man (frm op detail o payload) op (dev 3) ((dev 3).at 1) (rq (frm op detail o payload)) ses) &&
    decide (((dev 3).at 1).lookup (((dev 3).at 1).ctxOf (rq (frm op detail o payload)) ses) (rq (frm op detail o payload)).index
      (rq (frm op detail o payload)).sub = some ⟨o, 0, 0⟩)
theorem witness_Operations : good 1 0 .BEAT_NUMBER [] ∧ good 3 0 .IMAGE_INFO (leBytes 4 0) ∧ good 2 0 .OPEN_END (leBytes 2 256) ∧
    good 4 0 .FABRIC_MAP (leBytes 4 0 ++ zeros 8) ∧ good 4 1 .FABRIC_MAP (leBytes 4 0 ++ zeros 8) ∧ good 5 0 .BEAT_NUMBER [] ∧
    good 6 0 .OPEN_END [] ∧ good 7 0 .PWR_LIMIT [] ∧
    (rq (frm 4 0 .FABRIC_MAP (leBytes 4 0 ++ zeros 8))).closes = false ∧ (rq (frm 4 1 .FABRIC_MAP (leBytes 4 0 ++ zeros 8))).closes = true ∧
    Obj.OPEN_END.spec.effect = .boundary ∧ isSelector .OPEN_END = false ∧ Obj.OPEN_END.spec.acc = .rw ∧
    ((dev 3).at 1).acceptBar ⟨.OPEN_END, 0, 0⟩ (((dev 3).at 1).checked ⟨.OPEN_END, 0, 0⟩ (leBytes 2 256)).1 = none ∧
    ((dev 3).at 1).acceptBar ⟨.OPEN_END, 0, 0⟩ (((dev 3).at 1).dfltValue ⟨.OPEN_END, 0, 0⟩) = none := by decide +kernel
/-- Subindex 0 of the beat's index (log 5): the frame is good and its request names no cell. -/
def goodTop (op : Nat) (o : Obj) (payload : Bytes) : Bool :=
  let f := gdpFrame op 5 7 (keyIndex ⟨o, 0, 0⟩) 0 0 0 0 payload
  decide (GoodFrame 1 man f op (dev 3) ((dev 3).at 1) (rq f) ses) && decide (((dev 3).at 1).lookup (((dev 3).at 1).ctxOf (rq f) ses) (rq f).index (rq f).sub = none)
theorem witness_TopSub : goodTop 1 .OPEN_END [] ∧ goodTop 3 .OPEN_END (leBytes 4 0) ∧ goodTop 5 .OPEN_END [] ∧ goodTop 6 .OPEN_END [] := by decide +kernel
/-- A half-open session 6 beside session 5. -/
def half : Session := { path := man, nonce := zeros 32, challenge := zeros 48 }
def two : State := { dev 3 with gdp := { (dev 3).gdp with sessions := [(5, ses), (6, half)] } }
def proof : Bytes := hmac384 (zeros 32) (half.nonce ++ half.challenge ++ [0, 0] ++ leBytes 2 6)
/-- A device to be claimed, and I3C with the device's own vendor identifier. -/
def unclaimed : State := { dev 2 with ward := { (dev 2).ward with mgmtKey := none }, gdp := {} }
def i3c : GdpPath := .i3c 8 0x7E Config.pciVendor
/-- SESSION_OPEN with a tier. -/
def opn (tier : Byte) : Bytes := gdpFrame 0x10 0 1 0 0 0 0 0 ([tier, 0, 0, 0] ++ zeros 32)
def prv : Bytes := gdpFrame 0x11 6 2 0 0 0 0 0 proof
def cls : Bytes := gdpFrame 0x12 5 3 0 0 0 0 0 []
theorem witness_Sessions :
    (∀ f ∈ [opn 1, prv, cls], frameCause f = 0 ∧ (reqOf man f).ver = 1) ∧ pathCode man ≠ 2 ∧ (two.at 1).pathUp man = true ∧ pathTakes man = true ∧
    two.boot.recovery = false ∧ two.gdp.muted.any (fun m => m.1 == pathSource man) = false ∧ two.ward.lc ≠ 2 ∧ two.placesTaken man < placesOf man ∧
    (reqOf man (opn 1)).payload.length = 36 ∧ leAt (reqOf man (opn 1)).payload 0 1 ≤ 1 ∧
    two.sessionOf (reqOf man prv) = some half ∧ half.lastSeq ≠ some 2 ∧ half.proved = false ∧ two.proofOk 6 half (reqOf man prv).payload = true ∧
    two.sessionOf (reqOf man cls) = some ses ∧ ses.lastSeq ≠ some 3 ∧ ses.proved = true ∧ ses.claim = false := by
  decide +kernel
theorem witness_Claim : unclaimed.ward.lc = 2 ∧ unclaimed.ward.mgmtKey = none ∧ pathCode i3c = 1 ∧ pathCode i3c ≠ 2 ∧ unclaimed.pathUp i3c = true ∧
    leAt (reqOf i3c (opn 1)).payload 0 1 = 1 ∧ unclaimed.gdp.sessions.any (fun z => z.2.claim) = false ∧ unclaimed.placesTaken i3c < placesOf i3c ∧
    unclaimed.boot.recovery = false := by decide +kernel
theorem witness_Claim_takes : pathTakes i3c = true := by simp [i3c, pathTakes]
theorem witness_SessionTimers : mapFind two.gdp.sessions 6 = some half ∧ (∀ z, (6, z) ∈ two.gdp.sessions → z = half) ∧
    half.active + 60000000000000 ≤ max two.now 60000000000000 ∧ max two.now 59999999999999 < half.active + 60000000000000 ∧
    half.proved = false ∧ half.opened + 10000000000000 ≤ max two.now 10000000000000 ∧ two.boot.link = true ∧ two.fnHere 0 = true := by
  refine ⟨by decide +kernel, ?_, by decide +kernel⟩
  intro z hz
  simpa [two, ses, half] using hz
/-- Functions in their states. -/
def fun_ (s : State) (l : List (Func × FuncS)) : State := { s with funcs := l }

theorem witness_FuncEnable : ok (.num 1 .FUNC_ENABLE (funcIndex (.slot 15)) man hd 1) (dev 3) = true ∧
    funcEnableKey (.slot 15) = ⟨.FUNC_ENABLE, funcIndex (.slot 15), 0⟩ ∧ ((dev 3).func (.slot 15)).state ≠ .closing ∧
    ok (.num 1 .FUNC_ENABLE (funcIndex (.port 22)) man hd 0) (fun_ (dev 3) [(.port 22, { state := .closing })]) = true ∧
    ok (.num 1 .FUNC_ENABLE (funcIndex (.keyway 63)) man hd 1) (fun_ (dev 3) [(.keyway 63, { state := .closing })]) = true := by decide +kernel
def opens : State := { linked (fun_ (dev 3) [(.slot 15, { state := .opening, beats := 4 }), (.port 22, { state := .opening, beats := 16 }),
    (.keyway 63, { state := .opening, beats := 256 })]) with
  slots := { slots := [(15, { state := .ready, readyFor := 1 })] }, ward := { (dev 3).ward with kws := [(63, { passed := true })] } }
def closes : State := { fun_ (dev 3) [(.slot 15, { state := .closing, beats := 1024 }), (.port 22, { state := .closing, beats := 4 }),
    (.keyway 63, { state := .closing, beats := 16 })] with ward := { (dev 3).ward with kws := [(63, { removal := .zero })] } }
/-- Keyway 63 is enabled, with boundaries and in SEEKING; keyway 62 is not. -/
def powering : State := fun_ { locked with cfg := [(funcEnableKey (.keyway 63), .num 1)] } []
def seeking63 : State := fun_ { dev 3 with cfg := [(funcEnableKey (.keyway 63), .num 1)] } []
/-- Port 22 trains, and is to close. -/
def training22 : State := fun_ { dev 3 with fab := { (dev 3).fab with ports := [(22, { link := 1 })] } } [(.port 22, { want := some false })]
theorem witness_Functions :
    (∀ f ∈ [Func.slot 15, .port 22, .keyway 63], funcExists f = true ∧ (opens.func f).state = .opening ∧ openLimit f ≤ (opens.at 1).funcBeats f ∧
      (closes.func f).state = .closing ∧ closeLimit f ≤ (closes.at 1).funcBeats f) ∧
    (opens.at 1).slotOpened 15 = true ∧ opens.portReady 22 = true ∧ (opens.at 1).kwReady 63 = true ∧ opens.beat.mode = .seeking ∧
    closes.slotPinned 15 = false ∧ closes.portBusy 22 = false ∧ closes.beat.mode = .seeking ∧ (closes.kway 63).removal = .zero ∧ closes.zeroed 63 = true ∧
    (∀ s ∈ [powering, seeking63], s.ownerUp (.keyway 63) = true ∧ s.boot.ward = true ∧ s.boot.started.contains (.keyway 63) = false ∧
      (s.func (.keyway 63)).state = .off ∧ s.enabled (.keyway 63) = true ∧ s.enabled (.keyway 62) = false) ∧
    powering.beat.mode ≠ .seeking ∧ seeking63.beat.mode = .seeking ∧
    (training22.port 22).link = 1 ∧ (training22.func (.port 22)).want = some false := by decide +kernel
theorem witness_Seeking : (dev 3).beat.mode = .seeking ∧ Obj.OPEN_END.spec.effect = .boundary ∧ Obj.OPEN_END.spec.acc = .rw ∧
    Obj.OPEN_END ∉ [Obj.ATTN_MAP, .FABRIC_MAP, .ADAPTER_TABLE, .SYSCAL_CHAN, .FW_SEG, .PWR_LIMIT, .BEAT_NUMBER_SET, .AVS_ENABLE, .SPARES_LOW_MARK] ∧
    ({ dev 3 with waiting := [(⟨.OPEN_END, 0, 0⟩, .num 100)] } : State).waiting = [(⟨.OPEN_END, 0, 0⟩, .num 100)] := by decide +kernel
theorem witness_Commands : (({ dev 3 with ward := { (dev 3).ward with keys := [(127, { state := 1 })] } } : State).keySlot 127).state = 1 ∧
    locked.lbistUnit (locked.uidCore 1535) = some (locked.uidCore 1535) ∧ locked.bist.lbist = none ∧ locked.beat.mode ≠ .seeking ∧
    locked.hier.isolate.contains (locked.uidCore 1535) = false ∧ locked.canonUnit (locked.uidEngine 24575) = some (locked.uidEngine 24575) ∧
    uidType (locked.uidEngine 24575) = 4 ∧ locked.bist.array = none ∧ locked.engineOf (locked.uidEngine 24575) = 24575 ∧
    (locked.engine 24575).retiring = none ∧ (locked.engine 24575).retired = false ∧ (locked.engine 24575).due = none ∧
    uidType (locked.uidTier 24575 3) = 5 ∧ uidTierOf (locked.uidTier 24575 3) < (locked.engine 24575).tiers.length ∧
    ((locked.engine 24575).tier 3).health ≠ .retired ∧
    (({ dev 3 with boot := (dev 3).boot.putBank ((dev 3).boot.inactive 3) ⟨1, 1, [], [], true⟩ } : State).boot.bank ((dev 3).boot.inactive 3)).state = 1 := by
  decide +kernel

/-! Shards, versions and tiles that the witnesses share. -/

/-- A header of an array shard of layer 0: its drive format and gain; one of 128 outputs under plan 4. -/
def hdrE (act gain : Nat) : ShardHdr :=
  { kind := 1, fmt := 3, plan := 4, index := 0, layer := 0, flags := 0, rows := 512, cols := 128, rowOff := 0, colOff := 0
    gain := gain, act := act, frac := 255, rank := 0, dataLen := 0, scaleLen := 0, payLen := 0, bytes := [] }
/-- Its tile, on tier 3 of engine 24575. -/
def tileE : Tile := { eng := 24575, tier := 3, shard := 0, layer := 0, rowOff := 0, colOff := 0, rows := 512, cols := 128, plan := 4, chunk := 0, state := .ready }
/-- Version 7 of slot 15 holds it. -/
def verE (act : Nat) : Version := { number := 7, model := 1, manifest := [], shards := [hdrE act 0], tiles := [tileE] }
/-- Request 0 is in the step that core 1535 works on. -/
def serving (act : Nat) : State := { locked with
  beat := { locked.beat with busy := [(1535, 9)] }
  slots := { slots := [(15, { state := .serving, cur := some (verE act) })] }
  srv := { locked.srv with reqs := [(0, { state := .decode, slot := 15, version := 7, batch := some (.decode 0) })] } }
/-- Core 1535 is FAULTED. -/
def faulted (s : State) : State := { s with hier := { s.hier with own := [(s.uidCore 1535, .faulted)] } }

/-- A pass order of engine 24575, tier 3, with few outlier rows and with many. -/
def ord (rows : Nat) : PassOrder := { eng := 24575, tier := 3, half := .single, req := 0, blocks := [⟨0, List.replicate 32 7⟩], others := [], outRows := rows }
/-- The same under a load budget of 6,144. -/
def tight : State := { serving 1 with cfg := [(⟨.OUTLIER_LOAD_BUDGET, 0, 0⟩, .num 6144)] }
abbrev took (s : State) (rows : Nat) : State := ((s.at 1).sweepQueue 1535).takeOrders [ord rows]
abbrev picked (s : State) (rows : Nat) : List PassOrder := (List.range 16).filterMap (fun e => (took s rows).nextOrder (16 * 1535 + e))
theorem witness_CoreSlot : 1535 < (serving 1).numCores ∧ ([ord 1].all (fun o => o.eng / 16 == 1535 && o.tier < 4)) = true ∧
    (serving 1).pwr.stalled = false ∧ (serving 1).beat.busyCores.contains 1535 = true ∧ locked.beat.busyCores.contains 1535 = false ∧
    mapFind (serving 1).kpr.stepCfg ((serving 1).coreBeat 1535) = none ∧ picked (serving 1) 1 = [ord 1] ∧
    picked tight 512 = [ord 512] ∧
    (took (serving 1) 1).outlierLoad [ord 1] ≤ (took (serving 1) 1).set0 .OUTLIER_LOAD_BUDGET ∧
    (took tight 512).set0 .OUTLIER_LOAD_BUDGET < (took tight 512).outlierLoad [ord 512] ∧
    (serving 1).mayPass 24575 3 = true ∧ (serving 1).halfFits (ord 1) = true ∧ (faulted (serving 1)).mayPass 24575 3 = false ∧
    (serving 2).halfFits (ord 1) = false := by decide +kernel
def pass0 : Pass := { eng := 24575, tier := 3, plan := 4, half := .single, gain := 0, cols := 1, ca := 0, drive := List.replicate 512 7, blocks := [],
                      remap := [], resid := [], colmax := [(0, 1)], kw := 0, req := 0, layer := 0 }
def running (p : Pass) : State := { serving 1 with kpr := { (dev 3).kpr with passes := [p] }, cfg := [(⟨.AUDIT_ENABLE, 0, 0⟩, .num 0)] }
/-- Counts of engine 24575: that of column 0 as given; one that is not listed is 0. -/
def words (n : Int) : PassResult := ⟨24575, [n]⟩
abbrev charged (p : Pass) : State := ((running p).at 1).chargePasses p.eng 1 (driveSum p.drive) (p.selected && !p.retry)
abbrev wordsNow (p : Pass) (r : PassResult) : List Nat := (charged p).wordsOf p (driveSum p.drive) r.ticks
/-- The count words of a first pass without faults: column 0 saturated or 0, every other 0. -/
def wordList (sat : Bool) : List Nat := countWord sat false false 0 (if sat then 511 else 0) :: List.replicate 511 (countWord false false false 0 0)
theorem words_sat : wordsNow pass0 (words 511) = wordList true := by decide +kernel
theorem words_ok : wordsNow pass0 (words 0) = wordList false := by decide +kernel
theorem no_fails (b : Bool) : failedCols (wordList b) = [] := by
  have h : ∀ w ∈ wordList b, wordFail w = false := by
    intro w hw
    rcases List.mem_cons.1 hw with rfl | hw
    · cases b <;> decide +kernel
    · rw [List.eq_of_mem_replicate hw]; decide +kernel
  refine List.filter_eq_nil_iff.2 (fun c _ => ?_)
  rw [List.getD_eq_getElem?_getD]
  cases hc : (wordList b)[c]? with
  | none => decide
  | some w => simp [h w (List.mem_of_getElem? hc)]
theorem witness_CountWords : (words 0).eng < (running pass0).numEngines ∧
    (running pass0).kpr.passes.find? (fun p => p.eng == 24575 && !p.split) = some pass0 ∧
    mapFind (running pass0).kpr.stepCfg ((running pass0).coreBeat 1535) = none ∧ pass0.dropped = false ∧ pass0.retry = false ∧
    (outputs pass0 (wordList true)).any (fun o => o.state == .saturated) = true ∧
    ((charged pass0).rangeFailAll pass0 []).set0 .SAT_RETRY = 1 ∧ pass0.gain < 3 ∧ (charged pass0).mayPass 24575 3 = true ∧
    (outputs pass0 (wordList false)).any (fun o => o.state == .saturated || o.state == .failed) = false ∧
    ((charged pass0).rangeFailAll pass0 []).set0 .AUDIT_ENABLE = 0 ∧
    (running { pass0 with retry := true }).kpr.passes.find? (fun p => p.eng == 24575 && !p.split) = some { pass0 with retry := true } ∧
    (running { pass0 with dropped := true }).kpr.passes.find? (fun p => p.eng == 24575 && !p.split) = some { pass0 with dropped := true } := by decide +kernel
/-- The quiet window is open, and engine 24575 is as given. -/
def quietS (e : EngS) : State := { locked with beat := { locked.beat with phase := .quiet }, eng := [(24575, e)] }
def diag3 (l : List Nat) : Diag := { tier := 3, column := 511, toRead := l }
/-- Spare 31 is to replace column 511 in the tiers of a list. -/
def spare31 (all : Bool) (l : List Nat) : SpareJob := ⟨3, 511, 31, all, l⟩
theorem witness_Diagnosis :
    (∀ l ∈ [[3, 0], [3]], ((quietS { diag := some (diag3 l) }).at 20000000000).mayDiagRead 24575 = true ∧
      ((quietS { diag := some (diag3 l) }).engine 24575).diag = some (diag3 l) ∧ (quietS { diag := some (diag3 l) }).tileAt 24575 3 = none) ∧
    (∀ j ∈ [spare31 true [3, 0], spare31 false [3]], ((quietS { spares := [j] }).at 20000000000).maySpare 24575 = true ∧
      ((quietS { spares := [j] }).engine 24575).spares.find? (fun j => j.spare == 31 && j.left.contains 3) = some j) ∧
    24575 < (quietS {}).numEngines := by decide +kernel
/-- A tile that power-up verifies. -/
theorem witness_Verify : ∃ v x, ({ serving 1 with slots := { slots := [(15, { state := .loading, cur := some { verE 1 with tiles := [{ tileE with state := .verify }] } })] } }
    : State).tileAt 24575 3 = some (15, .cur, v, x) ∧ x.state = .verify := ⟨_, _, rfl, rfl⟩
def key0 : TotalKey := ⟨0, 0, 0, 0, false⟩
/-- The counts of a pass of its tile, of which output 0 is `n`. -/
def done0 (n : Int) : PassDone := ⟨pass0, [], ⟨.ok, n, 0, 0⟩ :: List.replicate 127 ⟨.ok, 0, 0, 0⟩, [], []⟩
/-- A Keeper that holds them, and two totals. -/
def kept (n : Int) : State := { serving 1 with kpr := { (dev 3).kpr with
  done := [done0 n], totals := [{ key := key0, terms := [(0, ⟨F32.one, 1, 0⟩)] }, { key := ⟨0, 1, 0, 0, false⟩, exact := some 8, terms := [(0, ⟨F32.one, 5, 0⟩)] }] } }
/-- 32 elements of one, and of a NaN. -/
def ones : List F32 := List.replicate 32 F32.one
def nans : List F32 := List.replicate 32 F32.nan
theorem witness_Keeper : 1535 < (kept 9).numCores ∧ (kept 9).pwr.stalled = false ∧ mapFind (kept 9).kpr.stepCfg ((kept 9).coreBeat 1535) = none ∧
    (kept 9).coreState 1535 = .online ∧ (faulted (kept 9)).coreState 1535 ≠ .online ∧
    ({ kept 9 with kpr := { (kept 9).kpr with outWork := [(1535, 0, 1)] } } : State).macFree 1535 (.repair key0 3 [24575] 24575 []) = false ∧
    (∀ n ∈ [(8388607 : Int), 8388608], (kept n).chunkAt 1535 key0 3 [24575] = some (verE 1, [tileE], 0) ∧
      ([tileE].all (fun x => ((kept n).halvesOf (verE 1) x ((kept n).req 0).kw).contains .single && (kept n).partReady 1535 key0 3 [24575] .single 0 x)) = true ∧
      [tileE].filterMap (fun x => (kept n).doneOf x.eng 3 key0 .single) = [done0 n] ∧ chunkSum [done0 n] 0 = n) ∧
    (∀ k ∈ [key0, ⟨0, 1, 0, 0, false⟩], ((kept 9).total k).map (fun z => z.value) = some none) ∧
    fmtRow 1 = some ⟨4, 16, true⟩ ∧ (narrow ((kept 9).narrowCfg ((kept 9).req 0).kw 1 false false) ones (List.replicate 32 false)).isSome = true ∧
    narrow ((kept 9).narrowCfg ((kept 9).req 0).kw 1 false false) nans (List.replicate 32 false) = none ∧
    (kept 9).servedBy 0 false = some (verE 1) ∧ (verE 1).layerHdr 0 = some (hdrE 1 0) ∧ (hdrE 1 0).kind ≠ 3 ∧
    (narrow ((kept 9).narrowCfg ((kept 9).req 0).kw ((kept 9).driveFormat (some (hdrE 1 0)) ((kept 9).req 0).kw) true ((kept 9).exactOf (verE 1) 0).isSome) ones
      ((verE 1).digitalRows 0 0)).isSome = true ∧
    (kept 9).reaches 1535 ((kept 9).uidCore 1535) 131071 = true ∧ (kept 9).reaches 1535 ((kept 9).uidCore 1534) 0 = false ∧
    (kept 9).hier.poisoned.contains ⟨(kept 9).uidCore 1535, 131071⟩ = false ∧ ((kept 9).req 0).batch ≠ none ∧ ((kept 9).req 0).faulted = false := by decide +kernel
/-- A pass whose output 0 saturated and is split. -/
def split0 : Pass := { pass0 with split := true, words := wordList true }
theorem witness_Split : (running split0).kpr.passes.find? (fun p => p.eng == 24575 && p.split) = some split0 ∧ split0.dropped = false ∧
    outsIn (outputs split0 split0.words) OutState.bad = [0] ∧
    [0].filter (subBad split0 (((List.range 8).foldl (fun s m => s.chargePasses 24575 1 (driveSum (subDrive split0.drive m)) false)
      ((running split0).at 1)).subWords split0 (List.replicate 8 [0]))) = [] := by decide +kernel
/-- A capture of core 1535: output 127, whose exact value is 0. -/
def capture (e : Int) : Capture := { core := 1535, pass := pass0, first := 127, outs := [⟨.ok, e, 0, 0⟩], beat := 9 }
def audited (e : Int) : State := { quietS {} with kpr := { (dev 3).kpr with captures := [capture e] } }
theorem witness_Audit : (audited 0).quietFor 1535 = true ∧ (audited 0).pwr.stalled = false ∧ ((audited 0).at 20000000000).boundaryDue = false ∧
    (∀ e ∈ [(0 : Int), 99999], (audited e).kpr.captures.find? (fun c => c.core == 1535) = some (capture e)) ∧
    auditPass ((audited 0).set0 .AUDIT_TOL_TICKS) ((audited 0).set0 .AUDIT_TOL_GAIN) pass0 ⟨.ok, 0, 0, 0⟩ (auditExact ((audited 0).imageAt 24575 3) pass0 127) = true ∧
    auditPass ((audited 99999).set0 .AUDIT_TOL_TICKS) ((audited 99999).set0 .AUDIT_TOL_GAIN) pass0 ⟨.ok, 99999, 0, 0⟩
      (auditExact ((audited 99999).imageAt 24575 3) pass0 127) = false := by decide +kernel

/-- Engine 24575 is due, its quadrant has been read, and the quiet window is open. -/
def calS (e : EngS) : State := { quietS e with
  now := 20000000000, sense := { locked.sense with readings := (List.range 40).map (fun c => (c, { value := 400 })) } }
def run0 (st : Option Nat) : CalRun :=
  { cls := 0, stages := [8], running := st, firstBeat := 9, tqs := [400],
    settings := calObjs.map (fun o => (⟨o, 0, 0⟩, locked.setting ⟨o, 0, 0⟩)) }
abbrev inStage (st : Nat) : State := calS { due := some 0, run := some (run0 (some st)) }
abbrev due0 : State := calS { due := some 0 }
/-- Ramp sums of every group and source, and what they give. -/
def ramp (n : Int) (sat : Bool) : RampOut :=
  rampResult {} ((run0 none).set .CAL_RAMP_FAIL_PCT) (List.replicate 17 (List.replicate 4 ⟨n, 64, sat⟩))
theorem witness_Stages : (due0.at 0).stageAllowed 24575 = true ∧ due0.pwr.stalled = false ∧ (due0.engine 24575).run = none ∧
    (due0.engine 24575).leftStages { cls := 0, stages := (due0.engine 24575).stages, firstBeat := 9, settings := [] } = [0, 1, 2, 3, 4, 5, 6, 7, 8] ∧
    due0.boot.stepped = false ∧ (due0.at 0).fits ((due0.engine 24575).stagePs 0 64) = true ∧
    (∀ st ∈ [0, 7, 8], ((inStage st).engine 24575).stageNow st = some (run0 none)) ∧ (((inStage 0).at 1).chargeStage 24575 0 64).engine 24575 ≠ {} ∧
    (ramp 0 true).dead = true ∧ (ramp (256 * 64 * 2) false).dead = false ∧ 127 < (ramp (256 * 64 * 2) false).new ∧
    (ramp (256 * 64) false).dead = false ∧ (ramp (256 * 64) false).new = 0 ∧
    (coarseColumn (run0 none) 0 0 ⟨543, [0, 3136, -3136, 0, 0, 0], false⟩).isSome = true ∧
    coarseColumn (run0 none) 0 0 ⟨0, [99999, 0, 0, 0, 0, 0], false⟩ = none ∧ fineColumn (run0 none) ⟨0, [0, 0, 0, 0, 0, 0], true⟩ = none ∧
    due0.runFails (run0 none) = false := by decide +kernel
/-- Die 3 is halted after 15 good comparisons. -/
def halted3 : State := { dev 3 with cal := { (dev 3).cal with halted := [3], goodRow := [(3, 15)] } }
def storing : State := calS { nvDue := true, nvLast := some 0 }
theorem witness_References :
    (3 ∈ halted3.cal.halted ∧ (-(halted3.set0 .CAL_REF_TOL : Int)).natAbs ≤ halted3.set0 .CAL_REF_TOL ∧
      halted3.set0 .CAL_REF_TOL < ((halted3.set0 .CAL_REF_TOL : Int) + 1).natAbs ∧ 3 ∉ (dev 3).cal.halted) ∧
    ((calS { standoff := some 0 }).engine 24575).standoff = some 0 ∧
    ((storing.engine 24575).nvDue = true ∧ storing.quietFor 1535 = true ∧ (storing.engine 24575).nvLast = some 0 ∧
      0 + storing.set0 .CAL_NV_INTERVAL * 1000000000000 ≤ max 20000000000 99999999000000000000) ∧
    ((dev 3).sense.selfBusy = none ∧ ((dev 3).at 1).selfDue 1 = true ∧ (List.range 40).any (dev 3).fastNow = false) ∧
    ({ dev 3 with sense := { (dev 3).sense with selfBusy := some 1 } } : State).sense.selfBusy = some 1 := by decide +kernel

/-- Headers with a digest of their own: a shard without payload, and one of one INT8 column in exact join. -/
def sealHdr (b pay : Bytes) : Bytes := b.take 80 ++ sha384 (b.take 80 ++ pay)
def hdr0 : ShardHdr := { parseHdr (sealHdr (zeros 80) []) with kind := 2 }
def payX : Bytes := zeros 64 ++ [1]
def hdrX : ShardHdr :=
  { parseHdr (sealHdr (zeros 80) payX) with kind := 1, fmt := 2, flags := 1, rows := 32, cols := 1, dataLen := 32, scaleLen := 1, payLen := 65 }
theorem witness_ShardCheck : shardCheck false hdr0 (some hdr0.bytes) 128 = .ok [] ∧ shardCheck false hdr0 none 128 = .bad 3 ∧
    hdrX.kind ≤ 2 ∧ hdrX.exactJoin = true ∧ shardCheck true hdrX (some (hdrX.bytes ++ payX)) 193 = .code7 := by decide +kernel
def req1 : ShardReq := { index := 0, reason := 1, issued := true, beat := some {} }
/-- Slot 15 of function 0 loads version 7, whose shard 0 is asked for. -/
def verS : Version := { number := 7, model := 1, manifest := [], shards := [hdr0], reqs := [req1] }
def loadS (r : RingS) (v : Version) : State :=
  { locked with slots := { slots := [(15, { state := .loading, phase := .first, cur := some v })], rings := [(0, r)] } }
def ctrl15 : Nat := 2 ^ 31 + 15 * 2 ^ 16
def put15 : Put := { slot := 15, index := 0, addr := 0, len := 128 }
/-- Function 0's ring with an entry that waits. -/
def waiting1 : RingS := { waiting := [(15, 0x80, 0, 7, 1)] }
theorem witness_Puts : (dev 3).fnHere 0 = true ∧ (dev 3).fnHere 63 = false ∧ (loadS {} verS).kwClosing 0 = false ∧ (2 ^ 31 - 1).testBit 31 = false ∧
    ctrl15.testBit 31 = true ∧ ((loadS {} verS).slot (bits ctrl15 16 4)).owner = 0 ∧ (loadS {} verS).setI .SLOT_SOURCE (bits ctrl15 16 4) = 0xFFFF ∧
    (((loadS {} verS).slot (bits ctrl15 16 4)).outstanding (ctrl15 % 65536)).isSome = true ∧ ((loadS {} verS).ring 0).puts.length < 64 ∧
    (((dev 3).slot 15).outstanding 0).isSome = false ∧ 64 ≤ ((loadS { puts := List.replicate 64 put15 } verS).ring 0).puts.length ∧
    (loadS waiting1 verS).kwDma 0 = true ∧ waiting1.unconsumed ((loadS {} verS).setK .REQ_RING_LEN 0) < (loadS {} verS).setK .REQ_RING_LEN 0 ∧
    (loadS {} verS).namedSlot .DMA_KEY_SLOT 0 = none := by decide +kernel
/-- A put waits; Hasp core 7, which answers for slot 15, is as given. -/
def putS (hc : UState) (v : Version) : State := { loadS { puts := [put15] } v with hier := { locked.hier with own := [(uidHasp 7, hc)] } }
theorem witness_Shards : (∀ v ∈ [verS, { verS with reqs := [] }], ((putS .online v).ring 0).puts = [put15]) ∧ (putS .online verS).slotOwnerLive 15 = true ∧
    (putS .resetting verS).slotOwnerLive 15 = false ∧ (putS .online verS).kwClosing 0 = false ∧ (putS .online verS).kwDma 0 = true ∧ put15.gen = none ∧
    ((putS .online verS).slot 15).outstanding 0 = some (.cur, verS, req1, hdr0) ∧ ((putS .online verS).slot 15).phase ≠ .none ∧
    ((putS .online { verS with shards := [hdrX] }).slot 15).outstanding 0 = some (.cur, { verS with shards := [hdrX] }, req1, hdrX) ∧
    ((putS .online { verS with reqs := [] }).slot 15).outstanding 0 = none ∧
    ({ loadS {} verS with beat := { locked.beat with count := 999999 } } : State).shardLate req1 = true ∧
    ((loadS {} verS).ring ((loadS {} verS).slot 15).owner).puts = [] ∧ req1.attempt ≤ (loadS {} verS).set0 .SHARD_RETRY_MAX ∧
    (loadS {} verS).set0 .SHARD_RETRY_MAX < 99 := by decide +kernel

/-- An adapter shard of one column of rank 1 in FP32, and what ADAPTER_LOAD says of it: 256 bytes to address 0. -/
def adHdr : Bytes := sealHdr (leBytes 4 0x44524853 ++ [1, 4, 8] ++ zeros 21 ++ leBytes 4 0 ++ leBytes 4 1 ++ zeros 11 ++ [1] ++ leBytes 4 128 ++
  leBytes 4 0 ++ leBytes 4 128 ++ zeros 20) (zeros 128)
def adBuf : Bytes := adHdr ++ zeros 128
def adS : State := { dev 3 with cfg := [(⟨.QUOTA_MEM_PAGES, 0, 0⟩, .num 4)] }
def adW (buf : Option Bytes) : RowWrite := .record 1 .ADAPTER_LOAD man hd (zeros 16 ++ leBytes 4 256 ++ zeros 12) buf
abbrev adU : State := srvd (adW (some adBuf)) adS
abbrev adR : Bytes := ovBytes ((adW (some adBuf)).taken adU ⟨.ADAPTER_LOAD, 0, 0⟩)
theorem witness_Adapters : adapterShardOk adBuf = true ∧ ok (adW (some adBuf)) adS = true ∧ adU.kwClosing 0 = false ∧ adU.kwDma 0 = true ∧
    ((adW (some adBuf)).asker adU ses).kw = 0 ∧ adU.namedSlot .DMA_KEY_SLOT 0 = none ∧ adBuf.length = leAt adR 16 4 ∧
    ((adU.emit (.dma 0 false (leAt adR 8 8) (leAt adR 16 4))).fillKw 0 (leAt adR 24 8) (adBuf.drop 128)).isSome = true ∧
    memWf (adU.kwCells 0) = true ∧ ok (adW none) adS = true ∧ (zeros 256).length = leAt adR 16 4 ∧ adapterShardOk (zeros 256) = false := by decide +kernel
/-- Tier 3 of engine 24575 holds a tile of slot 15, whose image is one digit. -/
def tile3 (st : TileState) (tries : Nat) : Tile :=
  { tileE with state := st, image := [1], digest := sha384 [1], tries := tries }
def tileS (t : Tile) (x : TierS) (pr : List Program) : State :=
  { locked with slots := { slots := [(15, { state := .serving, cur := some { verS with tiles := [t] } })], programs := pr }
                eng := [(24575, { tiers := [{}, {}, {}, x] })] }
def prog3 : Program := ⟨24575, 3, 15, 7, false⟩
/-- The state in which its program has ended with its column 511 outside its window. -/
abbrev ended3 (x : TierS) : State := (tileS (tile3 .programming 0) x [prog3]).putTier 24575 3 (x.programmed [1] [])
def hours (s : State) (n : Nat) : State := { s with evt := { s.evt with opMs := 3600000 * n } }
theorem witness_TierPrograms :
    (∀ n ∈ [0, 9998, 9999], (tileS (tile3 .waiting 0) { programs := n } []).mayProgram 24575 3 = true ∧
      (tileS (tile3 .waiting 0) { programs := n } []).waitsElsewhere 24575 3 = false) ∧
    (tileS (tile3 .waiting 0) {} []).pwr.stalled = false ∧ (tileS (tile3 .waiting 0) { health := .worn } []).waitsElsewhere 24575 3 = true ∧
    ((tileS (tile3 .waiting 0) {} []).tileAt 24575 3).isSome = true ∧ (tileS (tile3 .waiting 0) {} []).count ⟨.PROG_TIERS_COUNT, 0, 0⟩ + 1 < 2 ^ 64 ∧
    (tileS (tile3 .programming 0) {} [prog3]).slots.programs = [prog3] ∧
    ((tileS (tile3 .programming 1) {} []).tileAt 24575 3).isSome = true ∧ readsTrue [1] [] = true ∧ readsTrue [1] [⟨511, 511, 49⟩] = false ∧
    (((ended3 { retiring := true }).engine 24575).tier 3).retiring = true ∧ (((ended3 {}).engine 24575).tier 3).retiring = false ∧
    (((ended3 { health := .retired }).engine 24575).tier 3).health = .retired ∧ (((ended3 {}).engine 24575).tier 3).health ≠ .retired ∧
    ((tileS (tile3 .ready 0) { overdue := true } []).engine 24575).tier 3 = { overdue := true } ∧
    (((hours (tileS (tile3 .ready 0) {} []) 9999).engine 24575).tier 3).overdue = false ∧
    (((hours (tileS (tile3 .ready 0) {} []) 9999).engine 24575).tier 3).scrubHour + (hours (tileS (tile3 .ready 0) {} []) 9999).set0 .SCRUB_INTERVAL ≤
      ((hours (tileS (tile3 .ready 0) {} []) 9999).at 0).opHours ∧
    ((tileS (tile3 .ready 0) {} []).at 0).opHours < (((tileS (tile3 .ready 0) {} []).engine 24575).tier 3).scrubHour +
      (tileS (tile3 .ready 0) {} []).set0 .SCRUB_INTERVAL := by decide +kernel
def digS (k : Nat) : Version := { verS with shards := [{ hdr0 with kind := k }], held := [(0, [])], retry := [(5, 0)] }
/-- Slot 15 with a version. -/
def digV (k : Nat) : State := { locked with beat := { locked.beat with count := 256 }, slots := { slots := [(15, { state := .serving, cur := some (digS k) })] } }
/-- In the quiet window, engine 24575's tier 3 holds the tile; its cells are the image's. -/
def scrubS (t : Tile) : State := { tileS t { weights := [1] } [] with beat := { locked.beat with phase := .quiet } }
theorem witness_Scrub : mapFind (digS 2).retry 5 = some 0 ∧ 0 + 256 ≤ (digV 2).beat.count ∧ (digV 2).slotOwnerLive 15 = true ∧
    (∀ t ∈ [tile3 .ready 0, { tile3 .ready 0 with imageBad := true }, { tile3 .ready 0 with badNext := true }],
      ((scrubS t).at 20000000000).scrubNext 24575 3 = true ∧ (scrubS t).tileAt 24575 3 = some (15, .cur, { verS with tiles := [t] }, t)) ∧
    (((((scrubS (tile3 .ready 0)).at 20000000000).readBack 24575 3).engine 24575).tier 3).mismatches [1] [] = [] ∧
    (((((scrubS (tile3 .ready 0)).at 20000000000).readBack 24575 3).engine 24575).tier 3).mismatches [1] [⟨511, 511, 49⟩] ≠ [] ∧
    sha384 (applyFlips [1] []) = (tile3 .ready 0).digest ∧ sha384 (applyFlips [1] [(0, 2)]) ≠ (tile3 .ready 0).digest ∧
    (∀ k ∈ [2, 3], ((digV k).slot 15).cur = some (digS k) ∧ (digS k).held.find? (fun p => p.1 == 0) = some (0, []) ∧
      (digS k).shards.find? (fun h => h.index == 0) = some { hdr0 with kind := k } ∧ (digS k).badHeld.contains 0 = false) ∧
    shardDigest hdr0.bytes (applyFlips [] []) = hdrDigest hdr0.bytes ∧ shardDigest hdr0.bytes (applyFlips [7] [(0, 1)]) ≠ hdrDigest hdr0.bytes := by decide +kernel

/-- One lane, and sequence 32767 in use with one page of four sealed-to-be positions. -/
def lane0 : Lane := { layer := 0, group := 0, heads := 1, qper := 1, dims := 1, qfmt := 3, ofmt := 8, scale := F32.one, fmt := 2, slot := 15, version := 7 }
def seq0 : SeqS := { state := 1, slot := 15, version := 7, length := 16, reserved := 16, log2 := 4, cur := 1, dirs := 1, lanes := [lane0], home := 3 }
def page0 : PageS := { fmt := 2, log2 := 4, heads := 1, dims := 1, die := 3 }
def kvS (q : SeqS) (rd : List RingRound) : State :=
  { locked with
    cfg := [(⟨.PREFIX_ENABLE, 0, 0⟩, .num 0)]
    kv := { seqs := [(32767, q)], pages := [(9, page0)], roots := [(1, [(0, 2)])], leaves := [(2, [(0, ⟨false, 4, 9⟩)])], nextAddr := 3, rounds := rd,
            epochs := [(9, .lane 32767 0)] } }
def row15 : QRow := ⟨15, 0, .int8 [⟨0, List.replicate 32 0⟩]⟩
def work0 (lane : Nat) : LaneWork := ⟨32767, lane, 63, 16, [], [], [row15]⟩
/-- Its request is in the step of beat 9. -/
def inStep (s : State) (b : BatchItem) : State := { s with srv := { s.srv with reqs := [(0, { state := .decode, batch := some b, stepBeat := 9 })] } }
def seqR (ring : Bool) : SeqS := { seq0 with ring := ring, req := 0 }
abbrev laneS (ring : Bool) (b : BatchItem) : State := inStep (kvS (seqR ring) []) b
/-- A step that runs on past its beat keeps its settings. -/
def lateStep : State := { laneS false (.decode 0) with kpr := { locked.kpr with stepCfg := [(9, [])] } }
theorem witness_LaneTasks : (kvS seq0 []).attnState 63 = .online ∧ (kvS seq0 []).pwr.stalled = false ∧
    ({ kvS seq0 [] with hier := { locked.hier with own := [(uidAttn 63, .faulted)] } } : State).attnState 63 ≠ .online ∧
    ((kvS {} []).seqAt 32767).state ≠ 1 ∧ (kvS seq0 []).laneFits (work0 1) = false ∧ (kvS seq0 []).laneFits { work0 0 with cluster := 0 } = false ∧
    (∀ s ∈ [kvS seq0 [], laneS false (.decode 0), laneS true (.decode 0), laneS true (.prefill 1), lateStep],
      (s.seqAt 32767).state = 1 ∧ s.laneFits (work0 0) = true ∧ (s.writeAll 32767 0 63 (s.stepSeq 32767) 16 []).2 = true) ∧
    mapFind (laneS true (.decode 0)).kpr.stepCfg 9 = none ∧ mapFind lateStep.kpr.stepCfg (lateStep.stepOf (lateStep.seqAt 32767)) = some [] ∧
    (∀ b ∈ [BatchItem.prefill 1, .decode 0], (((laneS true b).rows 32767 0 63 (seqR true) 0 [row15]).seqAt 32767) = seqR true ∧
      (((laneS true b).rows 32767 0 63 (seqR true) 0 [row15]).req 0).batch = some b) ∧
    (((kvS seq0 []).rows 32767 0 63 seq0 0 [row15]).seqAt 32767).ring = false ∧ (kvS seq0 []).kv.epochs = [(9, .lane 32767 0)] := by decide +kernel
theorem witness_RowPartial : ∃ a, rowPartial lane0 row15 ((kvS seq0 []).kv.look seq0 lane0 0) [15] (RowAcc.start 32) = .ok a := ⟨_, rfl⟩
/-- The plan of sequence 32767's next root, and what it takes. -/
abbrev plan0 (s : State) (q : SeqS) : List Plan := s.nextPlan q (q.localLen (q.length + 1)) (min maxLocal (q.localLen (q.length + 1) + 9))
abbrev planMem0 (s : State) (q : SeqS) : Nat := s.planMem q (s.kv.leavesOf q.cur) q.cur (plan0 s q)
abbrev rootS : State := laneS false (.decode 0)
def noMem (s : State) : State := { s with cfg := [(⟨.QUOTA_MEM_PAGES, 0, 0⟩, .num 0)] }
theorem witness_Pages : (kvS seq0 []).setK .PREFIX_ENABLE 0 = 0 ∧ 0 < seq0.lanes.length ∧ (kvS seq0 []).kv.pteAt seq0 seq0.cur 0 0 = some ⟨false, 4, 9⟩ ∧
    ((kvS seq0 []).page 9).sealed = false ∧ (∀ s ∈ [rootS, noMem rootS], s.freshLanes (s.seqAt 32767) = seqR false ∧ (s.req 0).active = true) ∧
    (seqR false).next = 0 ∧ plan0 rootS (seqR false) ≠ [] ∧ rootS.kvFits (seqR false) (planMem0 rootS (seqR false)) = true ∧
    (noMem rootS).kvFits (seqR false) (planMem0 (noMem rootS) (seqR false)) = false ∧
    (((noMem rootS).at 0).evictFor (seqR false) (planMem0 (noMem rootS) (seqR false))).kvFits (seqR false) (planMem0 (noMem rootS) (seqR false)) = false ∧
    (kvS { seq0 with length := 0, lanes := [] } []).nextPlan { seq0 with length := 0, lanes := [] } 0 9 = [] := by decide +kernel
def ring0 : SeqS := { seq0 with ring := true, ringId := 5, ringSize := 3, ringIdx := 0 }
def set2 : RingSet := ⟨2, 9, [], 0⟩
def round0 : RingRound := { seq := 32767, lane := 0, begun := true, sets := [set2] }
theorem witness_Ring : (kvS ring0 [round0]).seqAt 32767 = ring0 ∧ round0.sets.find? (fun x => x.origin == ring0.originOf (round0.round + 1)) = some set2 ∧
    round0.round + 2 < ring0.ringSize ∧ ({ ring0 with ringSize := 2, ringIdx := 1 } : SeqS).ringSize ≤ round0.round + 2 ∧
    ({ round0 with sets := [] } : RingRound).sets.find? (fun x => x.origin == ring0.originOf (round0.round + 1)) = none ∧
    (((kvS ring0 [round0]).setRows round0 set2 0 round0.rows).seqAt 32767).state = 1 ∧
    (kvS ring0 [round0]).kv.rounds.find? (fun y => y.seq == 32767 && y.begun && ((kvS ring0 [round0]).at 39000000000).notchesPast y.since
      ((kvS ring0 [round0]).setK .RING_ROUND_TIMEOUT ring0.kw)) = some round0 := by decide +kernel
/-- The closed block sequence of ATTN_MAP of slot 15. -/
def mapReq (b : Bytes) : GReq :=
  { reqOf man (gdpFrame 4 5 7 (keyIndex ⟨.ATTN_MAP, 15, 0⟩) (keySub ⟨.ATTN_MAP, 15, 0⟩) 0 1 0 []) with whole := some b }
theorem witness_AttnMap : ((dev 3).at 1).stands (mapReq (leBytes 4 7)) ses = true ∧ (dev 3).answersOn man = true ∧
    (((dev 3).at 1).lookup (((dev 3).at 1).ctxOf (mapReq (leBytes 4 7)) ses) (mapReq (leBytes 4 7)).index (mapReq (leBytes 4 7)).sub).map OKey.obj = some .ATTN_MAP ∧
    (kept 0).versions.map (fun z => (z.1, z.2.2.number)) = [(15, 7)] ∧ (dev 3).versions = [] := by decide +kernel

/-- A state in which many notches have passed. -/
def aged (s : State) : State := { s with beat := { s.beat with spent := 2 ^ 48 } }
def reqS (r : ReqS) (sub : SubS) : State := { locked with srv := { locked.srv with reqs := [(32767, r)], subs := [(0, sub)] } }
def decoding (sub : SubS) : State := reqS { state := .decode } sub
def disarmed : State := { reqS { state := .decode, disarmed := true, rearmNext := false } {} with cfg := [(⟨.SPEC_REARM_BEATS, 0, 0⟩, .num 8)] }
theorem witness_Serving : (reqS {} {}).fnHere 0 = true ∧ (reqS {} {}).kwClosing 0 = false ∧ (dev 3).fnHere 63 = false ∧ memWf (reqS {} {}).hostMem = true ∧
    ((decoding {}).req 32767).active = true ∧ ((decoding {}).req 32767).cancel = none ∧ ((decoding {}).req 32767).disarmed = false ∧
    ((reqS {} {}).req 32767).state = .free ∧ ((reqS { state := .ended } {}).req 32767).state = .ended ∧
    ((reqS { state := .decode, cancel := some 1 } {}).req 32767).cancel.isSome = true ∧ (disarmed.req 32767).disarmed = true ∧ (disarmed.req 32767).active = true ∧
    (2 ^ 31 - 1).testBit 31 = false ∧ disarmed.setK .SPEC_REARM_BEATS 0 ≠ 0 ∧
    (disarmed.req 32767).disarmBeat + disarmed.setK .SPEC_REARM_BEATS 0 ≤ disarmed.beat.count + 1 ∧
    ((reqS {} { irqHeld := true, irqLast := some 0 }).sub 0).irqHeld = true ∧
    ((aged (reqS {} { irqHeld := true, irqLast := some 0 })).at 0).notchesPast 0 ((reqS {} {}).setK .TOKEN_IRQ_GAP 0) = true ∧
    ok (.num 1 .REQ_CANCEL 0 man hd 32767) (decoding {}) = true ∧ ok (.num 1 .REQ_REARM 0 man hd 32767) (decoding {}) = true := by decide +kernel
def late (r : ReqS) : State := { reqS r {} with beat := { locked.beat with count := 99999999 }, cfg := [(⟨.RING_STALL_LIMIT, 0, 0⟩, .num 64)] }
/-- A boundary is due one beat before each limit. -/
theorem witness_Limits : ((late { state := .queued }).req 32767).state = .queued ∧
    0 + (late {}).setK .ADMIT_TIMEOUT 0 ≤ (late {}).beat.count ∧ 0 + (late {}).setK .HANDOFF_TIMEOUT 0 ≤ (late {}).beat.count ∧
    ((late { state := .held, hold := .ringFull, causeBeats := 63 }).req 32767).hold = .ringFull ∧ (late {}).setK .RING_STALL_LIMIT 0 ≠ 0 ∧
    ((late {}).at 40000000000).boundaryDue = true ∧ ((late {}).at 39999999999).boundaryDue = false ∧
    (late {}).setK .RING_STALL_LIMIT 0 ≤ 63 + 1 ∧ ((late { state := .held, hold := .noPage, causeBeats := 65535 }).req 32767).hold = .noPage ∧
    (late {}).setK .KV_WAIT_LIMIT 0 ≤ 65535 + 0 ∧ ((late { state := .waitKv }).req 32767).state = .waitKv ∧
    (mapGet (late {}).ward.kws 0 {}).noDma = false := by decide +kernel
def samp (b : BatchItem) : ReqS := { state := .decode, batch := some b, desc := zeros 4 ++ [2] ++ zeros 251 }
def hand : ReqS := { samp (.prefill 4) with state := .prefill, promptLen := 4, desc := zeros 4 ++ [4] ++ zeros 251 }
theorem witness_Tokens : (samp (.decode 1)).faulted = false ∧ (samp (.decode 1)).sampled = false ∧ (samp (.decode 1)).handOut = false ∧
    ((reqS (samp (.decode 1)) {}).req 32767).batch = some (.decode 1) ∧
    ([[F32.one, F32.zero], [F32.zero, F32.one]].all (fun z => z.all F32.finite)) = true ∧ ([[0x7F800000#32]].all (fun z => z.all F32.finite)) = false ∧
    ([(1, [F32.one])].all (fun d : Nat × List F32 => d.2.all F32.finite)) = true ∧ ([(1, [F32.nan])].all (fun d : Nat × List F32 => d.2.all F32.finite)) = false ∧
    hand.prefillDone + 4 = hand.total ∧ hand.handOut = true ∧ (samp (.decode 0)).sample.greedy = true := by decide +kernel

/-- A device of group 0 with members 2, 3 and 4, of which 3 is a spare; local port 0 is UP to member 3, and KW0 is ON. -/
def fabS (me : Nat) : State :=
  { locked with
    cfg := [(⟨.FABRIC_ADDR, 0, 0⟩, .num me)]
    funcs := [(.keyway 0, { state := .on }), (.port 22, { state := .on }), (.port 0, { state := .on })]
    fab := { locked.fab with map := zeros 8 ++ leBytes 2 28 ++ leBytes 2 8 ++ zeros 508
                             ports := [(0, { link := 2, partner := 3, logical := 3, ident := true, misses := 3, resent := 7 }), (22, { link := 1 })] } }
theorem witness_Links : ((fabS 2).port 22).link < 2 ∧ ((fabS 2).func (.port 22)).state ≠ .off ∧ 2 ≤ ((fabS 2).port 0).link ∧ ((fabS 2).port 0).link ≠ 5 ∧
    (fabS 2).fab.epoch = 0 ∧ ((fabS 2).port 0).half = false ∧ ((fabS 2).port 22).half = false ∧ ((fabS 2).func (.port 0)).state ≠ .off ∧
    ((fabS 2).port 0).live = true ∧ (fabS 2).set0 .ECHO_MISS_LIMIT ≤ ((fabS 2).port 0).misses ∧ ((fabS 2).port 0).resent + 1 = 8 := by decide +kernel
def loses (me n : Nat) : State := { fabS me with fab := { (fabS me).fab with confirm := [(n, 99)] } }
abbrev told : State := ((loses 2 4).at 0).flood 0x04 (noticePayload 4 (loses 2 4).beat.number)
def lost4 : State := { fabS 3 with fab := { (fabS 3).fab with lost := [4] } }
theorem witness_Reach : (dev 3).fabricOn = false ∧ (fabS 2).fabricOn = true ∧ ((fabS 2).port 0).live = true ∧ ((fabS 2).port 0).partner ≠ 0xFFFF ∧
    (fabS 2).fab.floods.contains (3, 9) = false ∧ ({ (fabS 2).fab with floods := [(3, 9)] } : FabS).floods.contains (3, 9) = true ∧
    (loses 2 4).memberLogical 4 = 4 ∧ (loses 2 4).isLead = true ∧ (loses 2 4).set0 .LOSS_CONFIRM_BEATS ≤ mapGet (loses 2 4).fab.confirm 4 0 ∧
    (loses 2 4).fab.lost.contains 4 = false ∧ ((loses 2 4).idleSpares.filter (· != 4)).head? = some 3 ∧ (loses 2 4).isSpare 4 = false ∧
    (told.partnerLost 4).set0 .SPARE_AUTO = 1 ∧ ((loses 2 3).idleSpares.filter (· != 3)).head? = none ∧ (loses 2 3).isSpare 3 = true ∧
    ok (.num 1 .SPARE_ADOPT 0 man hd 4) lost4 = true ∧ lost4.idleSpare = true ∧ lost4.fab.lost.contains 4 = true ∧ groupOf 4 = groupOf lost4.physAddr ∧
    ok (.num 1 .SPARE_ADOPT 0 man hd 4) (fabS 2) = true ∧ (fabS 2).idleSpare = false := by decide +kernel
/-- A frame of member 3's flow 9 for this device, and that it has come here. -/
def fr (ty seq : Nat) (b : Bytes) (body : FrameBody := .none) (last : Nat := 0) : HFrame :=
  { type := ty, flags := last, dst := 2, src := 3, flow := 9, seq := seq, keyway := 0, payload := b, body := body }
abbrev up (f : HFrame) (s : State) : State := (s.at 1).incI .RX_BYTES 0 (hfSize f)
def here (f : HFrame) (s : State) : Bool := decide (FrameHere 1 0 f.type f s (up f s) f)
def nextHere (f : HFrame) (s : State) : Bool := here f s && (up f s).rxNext f == f.seq
theorem frame_next (f : HFrame) (s : State) (h : nextHere f s = true) : FrameNext 1 0 f.type f s ((up f s).rxStep f) f := by
  simp only [nextHere, Bool.and_eq_true, beq_iff_eq] at h
  exact ⟨_, of_decide_eq_true h.1, h.2, rfl⟩
/-- Member 3's flow 9 awaits frame 1; its train 9 is under reception. -/
def rxS (n : Nat) (x : RxTrain) : State :=
  { fabS 2 with fab := { (fabS 2).fab with rx := [⟨3, 9, n, 0, false⟩], trains := [x] } }
def train9 : RxTrain := { src := 3, flow := 9, head := [1], order := [1, 2], kw := 0 }
def noKw (s : State) : State := { s with funcs := [] }
def endGood : HFrame := fr 0x12 1 (leBytes 4 (crc32c [1, 2]))
theorem witness_TrainsIn : here (fr 0x10 5 []) (fabS 2) = true ∧ (up (fr 0x10 5 []) (fabS 2)).rxNext (fr 0x10 5 []) ≠ 5 ∧
    here (fr 0x11 5 []) (fabS 2) = true ∧ here (fr 0x12 5 []) (fabS 2) = true ∧
    nextHere (fr 0x10 0 [1, 0]) (fabS 2) = true ∧ nextHere (fr 0x10 0 [3, 0]) (fabS 2) = true ∧
    (fabS 2).set0 .ROLE ≠ 1 ∧ (fabS 2).kwServes 0 = true ∧ (noKw (fabS 2)).kwServes 0 = false ∧
    (fabS 2).memFits 0 (up4k (leAt (padTo 64 [1, 0]) 8 8)) = true ∧
    (noMem (fabS 2)).memFits 0 (up4k (leAt (padTo 64 [1, 0, 0, 0, 0, 0, 0, 0, 1]) 8 8)) = false ∧
    nextHere (fr 0x11 1 (zeros 9)) (rxS 1 train9) = true ∧ nextHere (fr 0x11 63 (zeros 9)) (rxS 63 train9) = true ∧
    ((up (fr 0x11 1 (zeros 9)) (rxS 1 train9)).rxStep (fr 0x11 1 (zeros 9))).rxTrain (fr 0x11 1 (zeros 9)) = some train9 ∧
    nextHere endGood (rxS 1 train9) = true ∧ leAt endGood.payload 0 4 = crc32c train9.order ∧
    nextHere (fr 0x12 1 [0]) (rxS 1 train9) = true ∧ leAt [0] 0 4 ≠ crc32c train9.order ∧ (rxS 1 train9).kwServes 0 = true := by decide +kernel
/-- This device's flow 9 to member 3. -/
def flow9 (k : FlowKind) (n : Nat) : Flow := { num := 9, kind := k, dst := 3, kw := 0, port := 0, items := [], frames := [fr 0x10 0 [], fr 0x12 1 []], sent := 2, since := 0, resends := n }
def flowS (k : FlowKind) (n : Nat) : State := { fabS 2 with now := 20000000, fab := { (fabS 2).fab with flows := [flow9 k n] } }
def ack1 : HFrame := fr 0x13 0 (leBytes 4 1)
theorem witness_TrainsOut :
    here ack1 (flowS (.handoff 0) 0) = true ∧ (up ack1 (flowS (.handoff 0) 0)).replyFlow ack1 = some (flow9 (.handoff 0) 0) ∧ (flow9 (.handoff 0) 0).isTrain = true ∧
    (flow9 (.handoff 0) 0).frames.length ≤ min 2 (max 0 (leAt (leBytes 4 1) 0 4 + 1)) ∧ min 2 (max 0 (leAt (leBytes 4 0) 0 4 + 1)) < (flow9 (.handoff 0) 0).frames.length ∧
    (∀ n ∈ [4, 1], here { fr 0x13 0 [] with status := n } (flowS (.handoff 0) 0) = true) ∧
    (flowS (.handoff 0) 0).flow 9 = some (flow9 (.handoff 0) 0) ∧ ((aged (flowS (.handoff 0) 0)).at 0).trainLate 0 = true ∧ (fabS 2).flow 9 = none ∧
    (∀ k ∈ [FlowKind.shardReq 0 0, .latch (.unit 0 0) 0 4, .latch (.unit 0 0) 0 1], (flow9 k 3).isTrain = false ∧ (flowS k 3).flow 9 = some (flow9 k 3) ∧
      (flow9 k 3).since + 20000000 ≤ max (flowS k 3).now 1 ∧ (flowS k 3).fab.shards = [] ∧ (flow9 k 2).resends < 3) := by decide +kernel
def ringF (rd : List RingRound) (fl : List Flow) : State :=
  { fabS 2 with kv := (kvS { ring0 with ringSize := 2 } rd).kv, fab := { (fabS 2).fab with flows := fl } }
def stored : State := { fabS 2 with
  cfg := [(⟨.FABRIC_ADDR, 0, 0⟩, .num 2), (⟨.FAB_SHARD_STORE, 0, 0⟩, .num 1)]
  slots := { slots := [(15, { state := .loading, phase := .first, cur := some verS })] }
  fab := { (fabS 2).fab with held := [(15, 7, 0, [1, 2])], flows := [flow9 (.shardReq 15 0) 0] } }
def lastData : HFrame := fr 0x21 0 (zeros 4) .none 2
def query0 : HFrame := fr 0x30 0 (leBytes 2 5 ++ zeros 10) (.ringQuery false [])
def decRound : RingRound := { round0 with decode := true }
theorem witness_ShardsFab :
    nextHere (fr 0x20 0 (leBytes 8 1 ++ leBytes 4 7 ++ leBytes 2 0)) stored = true ∧ stored.kwServes 0 = true ∧
    stored.shardHeld 0 1 7 0 = some [1, 2] ∧ stored.shardHeld 0 1 7 1 = none ∧ (noKw stored).kwServes 0 = false ∧
    here lastData stored = true ∧ (up lastData stored).replyFlow lastData = some (flow9 (.shardReq 15 0) 0) ∧
    ((up lastData stored).rxShard lastData).next = 0 ∧ hfLast lastData = true ∧
    hfLast (fr 0x21 0 (zeros 4)) = false ∧ here (fr 0x21 5 (zeros 4)) stored = true ∧ here { fr 0x21 0 (zeros 4) with status := 1 } stored = true ∧
    stored.kwClosing (stored.slot 15).owner = false ∧ (stored.slot 15).outstanding 0 = some (.cur, verS, req1, hdr0) ∧
    nextHere query0 (ringF [] []) = true ∧ (ringF [] []).ringSeq 0 5 = some 32767 ∧
    here (fr 0x31 0 (zeros 4) (.ringPartial [])) (ringF [decRound] [flow9 (.ringQuery 32767 0) 0]) = true ∧
    (ringF [decRound] []).ringRound 32767 0 = some decRound ∧
    nextHere { fr 0x50 0 [] (.standby []) with dst := 3, src := 2 } (fabS 3) = true ∧ (fabS 3).idleSpare = true ∧ groupOf 2 = groupOf (fabS 3).physAddr ∧
    nextHere (fr 0x50 0 [] (.standby [])) (fabS 2) = true ∧ (fabS 2).idleSpare = false := by decide +kernel
theorem witness_Answers : (ringF [] []).answerRows ((ringF [] []).seqAt 32767) false 0 [] = .ok [] ∧
    (∃ e, (ringF [] []).answerRows ((ringF [] []).seqAt 32767) false 0 [⟨99, 0, .int8 []⟩] = .error (some e)) := ⟨rfl, ⟨_, rfl⟩⟩

def user0 : LatchUser := .unit 0 0
def latchS (l : LatchS) : State := { fabS 2 with latch := l }
theorem witness_Latches : (fabS 2).latchSeen 0 16383 = .ok 16383 ∧ (fabS 2).latchSeen 0 (32767 % 16384) = .ok 16383 := ⟨rfl, rfl⟩
theorem witness_LatchRegs : (fabS 2).fnHere 0 = true ∧ ((fabS 2).lregs 0).busy = false ∧ (fabS 2).logAddr = 2 ∧ 2050 % 2048 = (fabS 2).logAddr ∧
    (fabS 2).latch.isFull 16383 false = false ∧ 1 % 2 ^ 32 ≤ ({ counts := [(16383, 1)] } : LatchS).count 16383 ∧ (fabS 2).latch.count 16383 < 1 % 2 ^ 32 ∧
    ((latchS { regs := [(0, { busy := true })] }).lregs 0).busy = true ∧ (dev 3).fnHere 63 = false ∧
    ({ waiters := List.replicate 4096 ⟨16383, 16383, 1, none, .unit 0 0⟩ } : LatchS).isFull 16383 false = true := by decide +kernel
def cplS : State := latchS { regs := [(0, { queue := [⟨1, 2, 3, 4, 0⟩] })] }
theorem witness_LatchFrames : (∀ op ∈ [1, 2, 3, 4], nextHere (fr 0x40 0 (leBytes 2 16383 ++ [BitVec.ofNat 8 op] ++ zeros 13)) (fabS 2) = true) ∧
    here (fr 0x41 0 (zeros 4)) (flowS (.latch user0 5 1) 0) = true ∧
    (up (fr 0x41 0 (zeros 4)) (flowS (.latch user0 5 1) 0)).replyFlow (fr 0x41 0 (zeros 4)) = some (flow9 (.latch user0 5 1) 0) ∧
    cplS.fnHere 0 = true ∧ (cplS.lregs 0).busy = false ∧ 3 % 2048 ≠ cplS.logAddr ∧ (cplS.lregs 0).queue = [⟨1, 2, 3, 4, 0⟩] ∧
    (cplS.lregs 0).prod - (cplS.lregs 0).cons < 2 ^ cplS.setK .LATCH_CPL_LOG2 0 ∧ cplS.kwDma 0 = true := by decide +kernel

theorem some_off (n : Nat) : ∃ off, n ≤ off := ⟨n, Nat.le_refl n⟩
theorem measBlocks_mem (s : State) (c : SpdmConn) (n : Nat) (hn : n < 5) : (n + 1, s.measReg n) ∈ s.measBlocks c := by
  unfold State.measBlocks
  exact List.mem_append_left _ (List.mem_map.2 ⟨n, List.mem_range.2 hn, rfl⟩)
/-- The write of row shape gets past what comes before the checks of the device's state. -/
def perm (w : RowWrite) (s : State) : Bool := decide (Permitted w s (srvd w s) ses ⟨w.obj, w.inst, 0⟩)
def keyS (n : Nat) (k : KeySlot) : State := { dev 3 with ward := { (dev 3).ward with keys := [(n, k)] } }
def removing (r : Removal) : State := { locked with ward := { (dev 3).ward with vfs := 63, kws := [(63, { removal := r })] } }
def serving63 : State := fun_ (removing .none) [(.keyway 63, { state := .on })]
theorem witness_Removal : (dev 3).fnHere 63 = false ∧ (removing .none).fnHere 63 = true ∧ (removing .none).kwState 63 = .off ∧
    serving63.fnHere 63 = true ∧ serving63.kwState 63 ≠ .off ∧ serving63.kwState 63 ≠ .closing ∧
    ((removing .drain).kway 63).removal = .drain ∧ ((removing .drain).kway 63).drained = false ∧
    ((aged (removing .drain)).at 0).notchesPast ((removing .drain).kway 63).b0 ((removing .drain).set0 .KEY_DRAIN) = true := by decide +kernel
theorem witness_Zeroing : ∃ a b : List (Nat × Nat), ([(0, 5), (63, 7), (255, 9)] : List (Nat × Nat)) = a ++ (63, 7) :: b ∧ ∀ z, z ∈ a → z.1 ≠ 63 :=
  ⟨[(0, 5)], [(255, 9)], rfl, by simp⟩
/-- An install record of slot 127 for keyway 0: its size is that of KEY_INSTALL. Whether it unwraps is free (log 8), with the KEX_ID in force; with
another it does not. -/
def keyRec (id : Nat) : Bytes := [127, 0, 0, 0] ++ leBytes 4 id ++ zeros 140
def keyW (id : Nat) : RowWrite := .record 1 .KEY_INSTALL man hd (keyRec id)
def mgmtW (id : Nat) : RowWrite := .record 1 .MGMT_KEY_INSTALL man hd (keyRec id)
abbrev recOf (w : RowWrite) (s : State) : Bytes := ovBytes (w.taken (srvd w s) ⟨w.obj, w.inst, 0⟩)
def held1 : State := { keyS 127 { state := 1, gen := 2, prev := some ([1], 0) } with
  fab := { (dev 3).fab with flows := [{ flow9 .standby 0 with keySlot := 127, gen := 1 }] } }
theorem witness_Keys : perm (keyW 0) (dev 4) = true ∧ (dev 4).ward.lc ≠ 3 ∧ ok (keyW 0) (dev 4) = false ∧ ok (keyW 0) (dev 3) = true ∧
    leAt (recOf (keyW 0) (dev 3)) 0 1 = 127 ∧ ((dev 3).keySlot 127).state ≠ 2 ∧
    ok (keyW 0) (keyS 127 { state := 2 }) = true ∧ ((keyS 127 { state := 2 }).keySlot 127).state = 2 ∧ pathOwn man = none ∧
    (srvd (keyW 1) (dev 3)).unwrap (recOf (keyW 1) (dev 3)) = none ∧
    perm (mgmtW 1) (dev 4) = true ∧ (dev 4).ward.lc ≠ 2 ∧ ok (mgmtW 1) (dev 3) = true ∧ (srvd (mgmtW 1) (dev 3)).unwrap (recOf (mgmtW 1) (dev 3)) = none ∧
    (held1.keySlot 127).prev = some ([1], 0) ∧ held1.prevHeld 127 = true ∧
    (keyS 127 { state := 1, prev := some ([1], 0) }).prevHeld 127 = false ∧ (held1.at 0).notchesPast 0 (held1.set0 .KEY_DRAIN) = false ∧
    ((aged held1).at 0).notchesPast 0 (held1.set0 .KEY_DRAIN) = true := by decide +kernel
def lcRec (target : Nat) : RowWrite := .record 1 .LC_REQUEST man hd ([BitVec.ofNat 8 target] ++ zeros 131)
def dbg (cmd : Nat) : RowWrite := .record 1 .DEBUG_UNLOCK man hd ([BitVec.ofNat 8 cmd] ++ zeros 131)
def confS : State := { fun_ (dev 3) [(.keyway 63, { state := .on })] with ward := { (dev 3).ward with kws := [(63, { conf := true })] } }
def erasing2 : State := { dev 4 with ward := { (dev 4).ward with erasing := some 2 } }
theorem witness_LifeCycle : ok (lcRec 5) (dev 3) = true ∧ leAt (recOf (lcRec 5) (dev 3)) 0 1 = 5 ∧
    ((lcRec 5).asker (srvd (lcRec 5) (dev 3)) ses).keyed = true ∧ (dev 3).lcAllowed 5 true false = true ∧ (dev 3).lcAllowed 5 true true = true ∧
    ok (lcRec 1) (dev 3) = true ∧ (dev 3).lcAllowed 1 true false = false ∧ (dev 3).lcAllowed 1 true true = false ∧ (dev 3).ward.lc ≤ 5 ∧
    (∀ l ∈ [2, 3, 4], ok (dbg 0) (dev l) = true ∧ (dev l).confBits = 0) ∧ ok (dbg 1) (dev 3) = true ∧ leAt (recOf (dbg 1) (dev 3)) 0 1 ≠ 0 ∧
    perm (dbg 0) confS = true ∧ ok (dbg 0) confS = false ∧ (srvd (dbg 0) confS).confBits ≠ 0 ∧
    perm (dbg 0) (dev 1) = true ∧ (dev 1).ward.lc < 2 ∧ erasing2.ward.erasing = some 2 ∧ erasing2.boot.ward = true := by decide +kernel
def spdmS (n : Nat) : State := { dev 3 with ward := { (dev 3).ward with spdm := [(.doe 0, ⟨n⟩)] } }
theorem witness_Attestation : connOk (.doe 0) = true ∧ (∀ n ∈ [0, 1, 2, 3], (spdmS n).spdmUp (.doe 0) = true ∧ (spdmS n).spdmStage (.doe 0) = n) ∧
    (dev 3).boot.link = true ∧ (dev 3).boot.ready = true ∧
    ({ (dev 3).boot with ready := false } : BootS).ready = false ∧ (dev 3).fnHere 63 = false ∧ (dev 3).fnHere 0 = true := by decide +kernel
theorem witness_Chain : (∃ off, (spdmS 3).chain.length ≤ off) ∧ (5, (spdmS 3).measReg 4) ∈ (spdmS 3).measBlocks (.doe 0) :=
  ⟨some_off _, measBlocks_mem (spdmS 3) (.doe 0) 4 (by decide)⟩

/-- Every domain is on, with a current in µA. -/
def powered (ua : Nat) : State := { locked with pwr := { locked.pwr with rails := (List.range 24).map (fun k => (k, 0)), ua := (List.range 24).map (fun k => (k, ua))
                                                                         phases := [(22, 2)], spareAt := [(phaseKey 22 2, 0)] } }
theorem witness_Phases_pwr : (powered 200000000).sheds 22 = true ∧ (powered 200000000).phasesOn 22 < (powered 200000000).phasesNeeded 22 ∧
    mapFind (powered 0).pwr.spareAt (phaseKey 22 ((powered 0).phasesOn 22)) = some 0 ∧ (powered 0).phasesNeeded 22 < (powered 0).phasesOn 22 ∧
    0 + 100000000 ≤ max (powered 0).now 100000000 ∧ max (powered 0).now 99999999 < 0 + 100000000 := by decide +kernel
def avs (on mv : Nat) (rose : Map Nat) : State := { powered 0 with cfg := [(⟨.AVS_ENABLE, 0, 0⟩, .num on)], pwr := { (powered 0).pwr with vcore := [mv, mv, mv, mv], rose := rose } }
theorem witness_Slack : (∃ slack : Int, Config.avsLow 3 0 ≤ slack) ∧ ∃ slack : Int, slack < Config.avsLow 3 0 :=
  ⟨⟨_, Int.le_refl _⟩, Config.avsLow 3 0 - 1, by omega⟩
theorem witness_Setpoints : (avs 0 750 []).set0 .AVS_ENABLE = 0 ∧ (avs 1 750 []).set0 .AVS_ENABLE ≠ 0 ∧
    (avs 1 849 []).pwr.vcore.getD 3 750 < 850 ∧ 850 ≤ (avs 1 850 []).pwr.vcore.getD 3 750 ∧
    mapFind (avs 1 750 [(3, 0)]).pwr.rose 3 = some 0 ∧ 0 + 10000000 ≤ max (avs 1 750 [(3, 0)]).now 10000000 ∧
    max (avs 1 750 [(3, 0)]).now 9999999 < 0 + 10000000 := by decide +kernel
def starting1 : State := { dev 3 with boot := { (dev 3).boot with state := 1, steps := 1 } }
theorem witness_Rails : (dev 3).railOn 23 = false ∧ (∀ k ∈ [0, 15, 16, 19, 20, 22, 23], (powered 0).railOn k = true) ∧
    (powered 0).pwr.monFault.contains 23 = false ∧ starting1.starting = true ∧ (upRails (starting1.boot.steps + 1)).contains 22 = true ∧
    mapFind starting1.pwr.rails 22 = none ∧ tripSource 17 = true ∧ tripSource 0x47 = true ∧ (powered 0).boot.trip = false := by decide +kernel
theorem witness_Samples : (List.replicate 24 (750 : Nat)).length = 24 ∧ (List.replicate 24 (600 : Int)).length = 24 ∧ (powered 0).pwr.stalled = false ∧
    ({ (powered 0).pwr with stalled := true } : PwrS).stalled = true ∧ (dev 3).convBusy 1 = false ∧ (dev 3).syscalHolds 39 = false ∧
    (dev 3).converts 0 39 = true ∧ (dev 3).converts 1 39 = false ∧ mapFind (dev 3).sense.next 0 = none ∧
    ({ dev 3 with sense := { (dev 3).sense with selfBusy := some 1 } } : State).convBusy 1 = true := by decide +kernel
def chk (x : SenseS) : State := { dev 3 with sense := x }
theorem witness_Cross : (chk { selfBusy := some 0 }).sense.selfBusy.isSome = true ∧ (chk { xPasses := 15 }).sense.selfBusy = none ∧
    (((606000 : Int) - (606000 - ((dev 3).set0 .XCHK_TOL : Int))).natAbs ≤ (dev 3).set0 .XCHK_TOL) ∧ ((606000 : Int) - 600000).natAbs ≤ 6000 ∧
    ¬((606001 : Int) - 600000).natAbs ≤ 6000 ∧ (chk { xFails := 1 }).sense.xFails < 2 ∧ 2 ≤ (chk { xFails := 2 }).sense.xFails ∧
    (chk { xFails := 2 }).sense.mode ≠ xchkState 610000 600000 := by decide +kernel
/-- A capture of a system calibration, with a full scale of 1,000,000 µV. -/
def capS (n : Nat) (zero : Int) : State :=
  { dev 3 with cfg := [(⟨.SYSCAL_FS_VALUE, 0, 0⟩, .num 1000000)], sense := { cal := { started := some 0, capture := some n, zero := zero } } }
theorem witness_Syscal : (capS 1 0).sense.selfBusy ≠ some ((capS 1 0).convOf ((capS 1 0).set0 .SYSCAL_CHAN)) ∧ (capS 1 0).sense.cal.capture = some 1 ∧
    (capS 2 24000).sense.cal.capture = some 2 ∧ ((24000 : Int)).natAbs ≤ 24000 ∧ 95 * ((1024000 : Int) - 24000) ≤ 100 * ((capS 2 24000).set0 .SYSCAL_FS_VALUE : Int) ∧
    100 * ((capS 2 24000).set0 .SYSCAL_FS_VALUE : Int) ≤ 105 * ((1024000 : Int) - 24000) ∧ 24000 < ((24001 : Int)).natAbs ∧
    105 * ((900000 : Int) - 0) < 100 * ((capS 2 0).set0 .SYSCAL_FS_VALUE : Int) ∧ (dev 3).sense.cal.capture = none ∧ (capS 1 0).sense.cal.started = some 0 ∧
    0 + 60000000000000 ≤ max (capS 1 0).now 60000000000000 ∧ max (capS 1 0).now 59999999999999 < 0 + 60000000000000 := by decide +kernel

def ev (code : Nat) : Event := { code := code, kw := 0xFF }
def evS (e : EvtS) : State := { locked with evt := e }
/-- A pair with suppressed events, and what it has at an instant. -/
def bkt : Bucket := { code := 0x4104, kw := 0xFF, tokens := 0, first := 0, suppressed := 3 }
abbrev bktAt (t : Nat) : Bucket := bkt.refill t ((evS {}).set0 .EVT_RATE_PERIOD * 1000000000) ((evS {}).set0 .EVT_RATE_BURST)
def sinkS : State := { locked with cfg := [(⟨.EVT_SINK_ADDR, 0, 0⟩, .blob (1 :: zeros 17))] }
theorem witness_Events : (evS { queue := [ev 0x4104] }).evt.queue = [ev 0x4104] ∧ (evS {}).boot.ward = true ∧ State.reset.boot.ward = false ∧ (evS {}).evt.queue = [] ∧
    ({ queue := List.replicate 4096 (ev 0x4104), dropped := [(0xFF, 1)] } : EvtS).dropped.find? (fun p => p.1 == (ev 0).kw) = some (0xFF, 1) ∧
    4096 ≤ (List.replicate 4096 (ev 0x4104)).length ∧ (List.replicate 4095 (ev 0x4104)).length < 4096 ∧ evClass 0xCD01 = 0xC ∧ evClass 0x4104 ≠ 0xC ∧
    (zeros 24).length = 24 ∧ (evS { irqHeld := [63], irqLast := [(63, 0)] }).evt.irqHeld.contains 63 = true ∧ (evS {}).evt.irqHeld.contains 63 = false ∧
    ((aged (evS {})).at 0).notchesPast 0 16 = true ∧ (findBucket (evS { buckets := [bkt] }).evt.buckets 0x4104 0xFF) = some bkt ∧
    0 < (bktAt 999000000000).tokens ∧ (bktAt 0).tokens = 0 ∧ sinkS.boot.ward = true ∧ sinkS.sink = true ∧
    sinkS.evt.hbLast + sinkS.set0 .EVT_HEARTBEAT * 1000000000 ≤ max sinkS.now 10000000000000 := by decide +kernel
def wdt (l : List Nat) : State := { powered 0 with evt := { wdtTimes := l } }
/-- The expiries of the last 10 minutes, at 100 ms. -/
abbrev lately (l : List Nat) : List Nat :=
  (wdt l).evt.wdtTimes.filter (fun x => decide (max (wdt l).now 100000000000 < x + 600000000000000)) ++ [max (wdt l).now 100000000000]
theorem witness_Watchdog : ((evS { opMs := 3600000 }).evt.opSaved < ((evS { opMs := 3600000 }).at 0).opMsNow / 3600000 * 3600000) ∧
    ((evS {}).at 0).opMsNow / 3600000 * 3600000 ≤ (evS {}).evt.opSaved ∧ State.reset.boot.por = false ∧ max (wdt []).now 99999999999 < (wdt []).evt.wdtLast + 100000000000 ∧
    (wdt [1, 2]).boot.por = true ∧ (wdt [1, 2]).boot.v3p3 = true ∧ (wdt [1, 2]).railOn 23 = true ∧ (wdt [1, 2]).evt.wdtHeld = false ∧
    (wdt [1, 2]).evt.wdtLast + 100000000000 ≤ max (wdt [1, 2]).now 100000000000 ∧ (wdt [1, 2]).count ⟨.WARD_WDT_RESETS, 0, 0⟩ + 1 < 2 ^ 32 ∧
    (lately [1]).length < 3 ∧ 3 ≤ (lately [1, 2]).length ∧ (wdt [1, 2]).beat.mode ≠ .seeking := by decide +kernel
abbrev core5 : UnitId := locked.uidCore 1535
def quar (k : List UnitId) : State := { evS { quarantine := [(core5, {}, true)], mismatches := [(core5, 0)] } with
  beat := { locked.beat with count := 99999, phase := .quiet }, bist := { locked.bist with kat := k, lbist := some (core5, .online), array := some 24575 } }
def authW (cmd : Nat) : RowWrite := .record 1 .BIST_AUTH man hd ([BitVec.ofNat 8 cmd] ++ zeros 131)
theorem witness_Tests : (quar []).canonUnit core5 = some core5 ∧ ((quar []).at 0).quarantineOver core5 = true ∧ (quar []).bist.kat.contains core5 = false ∧
    (locked.at 0).quarantineOver core5 = false ∧ (quar [core5]).bist.kat.contains core5 = true ∧
    (quar [core5]).beat.phase = .quiet ∧ ((quar [core5]).at 0).boundaryDue = false ∧
    mapFind (quar [core5]).evt.quarantine core5 = some ({}, true) ∧ ((quar [core5]).at 0).earlierMismatch core5 true = false ∧
    ok (authW 0x20) (dev 1) = true ∧ leAt (recOf (authW 0x20) (dev 1)) 0 1 = 0x20 ∧ ok (authW 1) (dev 4) = true ∧
    leAt (recOf (authW 1) (dev 4)) 0 1 ≠ 0x20 ∧ perm (authW 0x20) (dev 3) = true ∧ (dev 3).ward.lc ≠ 1 ∧ (dev 3).ward.lc ≠ 4 ∧
    (quar []).bist.lbist = some (core5, .online) ∧ (quar []).bist.array = some 24575 ∧ locked.bist.lbist = none ∧ locked.bist.array = none := by decide +kernel

def bootS (b : BootS) : State := { dev 3 with boot := b, pwr := { rails := (List.range 24).map (fun k => (k, 0)) } }
/-- Keyway 63 was started and is enabled, and PERST# is low. -/
def perst63 : State := { bootS { perst := true, started := [.keyway 63] } with cfg := [(funcEnableKey (.keyway 63), .num 1)] }
theorem witness_Resets : (dev 3).boot.por = true ∧ State.reset.boot.por = false ∧ (dev 3).boot.down = [] ∧
    [3, 4].filter (fun i => (stepRails i).any (bootS { down := [6, 3, 4] }).railOn) = [3, 4] ∧ (bootS { down := [6, 3, 4] }).boot.down = 6 :: [3, 4] ∧
    [4].filter (fun i => (stepRails i).any (dev 3).railOn) = [] ∧
    (bootS { stopping := 1 }).boot.stopping = 1 ∧ (bootS { stopping := 2 }).boot.stopping = 2 ∧ (dev 3).boot.v3p3 = true ∧ (dev 3).boot.perst = false ∧
    (bootS { perst := true }).boot.perst = true ∧ perst63.boot.perst = true ∧ perst63.boot.started.contains (.keyway 63) = true ∧
    perst63.enabled (.keyway 63) = true ∧ (perst63.func (.keyway 63)).state = .off ∧ (dev 3).boot.started.contains (.keyway 63) = false := by decide +kernel
/-- An update of the HASP image, and its header. -/
def img (n : Nat) : BootS := { (dev 3).boot with commit := some n, commitKind := 2, staged := [(0, zeros 192)] }
def back6 : State := { bootS { por := true, state := 6 } with evt := { wdtBack := true } }
def rom : State := bootS { por := true }
def bare : State := bootS { por := true, ward := true, state := 3 }
/-- A frame without its MAGIC waits in the mailbox of function 0. -/
def boxS : State := { dev 3 with gdp := { (dev 3).gdp with boxes := [(0, { busy := true, req := zeros 24 })] } }
theorem witness_Boot : rom.boot.por = true ∧ rom.boot.v3p3 = true ∧ rom.boot.ward = false ∧ rom.boot.recovery = false ∧ rom.evt.wdtHeld = false ∧
    rom.railOn 23 = true ∧ rom.boot.state = 0 ∧ back6.boot.ward = false ∧ back6.boot.state ≠ 0 ∧ back6.evt.wdtBack = true ∧
    (boxS.box 0).busy = true ∧ boxS.boot.link = true ∧ boxS.fnHere 0 = true ∧ frameCause (boxFrame (boxS.box 0).req) ≠ 0 ∧ ((dev 3).box 0).busy = false ∧
    (∀ i, i ∈ [1, 17] → 1 ≤ i ∧ i ≤ 17) ∧ (dev 3).starting = false ∧
    (∀ n ∈ [0, 1, 2, 3], (bootS { por := true, ward := true, state := 2, steps := n }).starting = true ∧ (bootS { steps := n }).boot.limited = 0) ∧
    (bootS { steps := 1, limited := 8 }).boot.limited ≠ 0 ∧ 22 ∈ upRails 2 ∧ 22 ∉ upRails 1 ∧ mapFind (dev 3).pwr.rails 22 = none ∧
    bare.boot.ward = true ∧ bare.boot.state = 3 ∧ bare.boot.limited = 0 ∧ bare.boot.trip = false ∧ bare.boot.down = [] ∧
    (dev 3).boot.state ≠ 3 ∧ (bootS (img 200)).boot.commit = some 200 ∧ (bootS (img 200)).boot.image.length ≠ 200 ∧ (dev 3).boot.commit = none ∧
    (bootS (img 192)).boot.image.length = 192 ∧ 192 + leAt ((bootS (img 192)).boot.image.take 192) 32 4 = 192 ∧
    headerOk 2 ((bootS (img 192)).boot.image.take 192) = false := by decide +kernel
/-- A step that changes the state from one that meets both invariants. -/
theorem witness_Invariants : (dev 3).lcOk = true ∧ memWf (dev 3).hostMem = true ∧ (∀ m ∈ (dev 3).kwMem, memWf m.2 = true) ∧
    (dev 3).has (.maskFirst 5 8 64) = true ∧ (dev 3).has (.linkTrained 5 23 15) = false ∧ (dev 3).has (.stepWorkEnd 5 1536) = false ∧
    (dev 3).has (.gdpRead 5 man []) = true := by decide +kernel
theorem witness_Steps : ∃ x, step { dev 3 with pending := [.maskFirst 5 8 64] } = .next x ∧ x.out = [.mask 6] ∧ x.now = 5 ∧ x.pending = [] :=
  ⟨_, rfl, by decide +kernel⟩

end Sys2Proof.Tests
end

section
/-! Proofs: the parts of the state that the operations of the beat's timers write (spec/01 R28–R31, R41, R634). -/
namespace Sys2Proof.Machine
open Sys2Proof

/-! ### Frames add up -/

theorem SamePart.trans {s x y : State} {f : StatePart} (h : SamePart s x f) (k : SamePart x y f) : SamePart s y f := by
  cases f <;> exact Eq.trans k h

theorem Writes.refl (l : List StatePart) (s : State) : Writes l s s := by
  intro f _
  cases f <;> rfl

theorem Writes.trans {l : List StatePart} {s x y : State} (h : Writes l s x) (k : Writes l x y) : Writes l s y :=
  fun f hf => (h f hf).trans (k f hf)

theorem Writes.mono {l m : List StatePart} {s x : State} (h : Writes l s x) (hlm : l ⊆ m) : Writes m s x :=
  fun f hf => h f fun hl => hf (hlm hl)

theorem State.at_writes (s : State) (t : Nat) : Writes [.now, .out] s (s.at t) := by
  intro f hf
  cases f with
  | now | out => simp at hf
  | _ => rfl

theorem State.setBeat_writes (s : State) (b : BeatS) : Writes [.beat] s { s with beat := b } := by
  intro f hf
  cases f with
  | beat => simp at hf
  | _ => rfl

theorem State.switchEvent_writes (s : State) (src : BeatSrc) (auto : Nat) : Writes [.evt] s (s.switchEvent src auto) := by
  intro f hf
  cases f with
  | evt => simp at hf
  | _ => rfl

/-- A command that begins at an instant and then goes on by an update writes the clock, the outputs and what the update writes. -/
theorem Does.of_next {c : Instr} {s x : State} {t : Nat} {l : List StatePart} {p : State → Prop} (hx : exec c s = .next x)
    (hw : Writes l (s.at t) x) (hp : p x) : Does c s (.now :: .out :: l) p :=
  ⟨x, hx, ((s.at_writes t).mono (by simp)).trans (hw.mono (by simp)), hp⟩

/-! ### Entering a beat state -/

theorem State.seekBeats_idle {s : State} (h : s.beat.mode ≠ .seeking) : s.seekBeats = s := by
  simp [State.seekBeats, h]

@[simp] theorem State.seekBeats_notchClock (s : State) : s.seekBeats.notchClock = s.notchClock := by
  unfold State.seekBeats
  split <;> rfl

@[simp] theorem State.seekBeats_seekClock (s : State) : s.seekBeats.seekClock = s.seekClock := by
  unfold State.seekBeats
  split <;> rfl

theorem State.beatTo_funcs (s : State) (m : BeatMode) : (s.beatTo m).funcs = s.seekBeats.funcs := by
  cases m <;> simp [State.beatTo]

theorem State.beatTo_pwr (s : State) {m : BeatMode} (h : m ≠ .seeking) : (s.beatTo m).pwr = s.pwr := by
  cases m with
  | seeking => exact absurd rfl h
  | _ => simp [State.beatTo]

theorem State.beatTo_boot (s : State) {m : BeatMode} (h : m ≠ .locked) : (s.beatTo m).boot = s.boot := by
  cases m with
  | locked => exact absurd rfl h
  | _ => simp [State.beatTo]

/-- FREERUN and SELF are entered without a milestone of the boot (LOCKED) or a restart of the power means (SEEKING). -/
theorem State.beatTo_writes (s : State) (m : BeatMode) (hl : m ≠ .locked) (hs : m ≠ .seeking) :
    Writes [.beat, .evt, .funcs] s (s.beatTo m) := by
  intro f hf
  cases f with
  | beat | evt | funcs => simp at hf
  | pwr => exact s.beatTo_pwr hs
  | boot => exact s.beatTo_boot hl
  | _ => simp [SamePart]

/-- … and with no beats of SEEKING to settle, the functions stay as they were. -/
theorem State.beatTo_writes_idle (s : State) (m : BeatMode) (hl : m ≠ .locked) (hs : m ≠ .seeking) (h : s.beat.mode ≠ .seeking) :
    Writes [.beat, .evt] s (s.beatTo m) := by
  intro f hf
  by_cases hfuncs : f = .funcs
  · subst hfuncs
    exact (s.beatTo_funcs m).trans (congrArg State.funcs (State.seekBeats_idle h))
  · exact s.beatTo_writes m hl hs f (by simpa [hfuncs] using hf)

/-- Leaving SEEKING, the notches spent in it are put aside, and no beat's length counts on (R634). -/
theorem State.beatTo_beat_seeking {s : State} (m : BeatMode) (h : s.beat.mode = .seeking) :
    (s.beatTo m).beat = { s.beat with mode := m, since := s.now, spent := s.notchClock, seekSpent := s.seekClock, length := 0 } := by
  have hnotches : s.seekBeats.countNotches m = { s.seekBeats with
      beat := { s.seekBeats.beat with spent := s.seekBeats.notchClock, seekSpent := s.seekBeats.seekClock, length := 0 } } :=
    if_pos (by simp [h])
  rw [State.beatTo_beat, hnotches, State.seekBeats_notchClock, State.seekBeats_seekClock, State.seekBeats_beat]

/-! ### Leaving the pin for the link (R19) -/

theorem State.autoToLink_beat (s : State) : s.autoToLink.beat = { s.beat with newLock := s.autoToLink.beat.newLock } := by
  unfold State.autoToLink
  split <;> simp

theorem State.autoToLink_writes (s : State) : Writes [.beat, .evt] s s.autoToLink := by
  unfold State.autoToLink
  split
  · exact ((s.setBeat_writes _).mono (by simp)).trans ((State.switchEvent_writes _ _ _).mono (by simp))
  · exact Writes.refl _ s

section
variable (s : State) {b : BeatS} (h : b.mode ≠ .seeking)
include h

/-- FREERUN entered at a missed boundary, which may leave the pin for the link (R19, R28). -/
theorem State.missedToFreerun_beat :
    ∃ lock, (({ s with beat := b } : State).beatTo .freerun).autoToLink.beat = { b with mode := .freerun, since := s.now, newLock := lock } := by
  rw [State.autoToLink_beat, State.beatTo_beat_locked _ .freerun h nofun]
  exact ⟨_, rfl⟩

theorem State.missedToFreerun_writes : Writes [.beat, .evt] s (({ s with beat := b } : State).beatTo .freerun).autoToLink :=
  (((s.setBeat_writes b).mono (by simp)).trans (State.beatTo_writes_idle _ .freerun nofun nofun h)).trans (State.autoToLink_writes _)

end

/-! ### The four timers -/

/-- The beat whose boundary has been missed where it was predicted (R28). -/
def State.boundaryMissed (s : State) : BeatS :=
  { s.beat with
    decided := true, missed := s.beat.missed + 1
    firstMissed := if s.beat.missed = 0 then s.beat.number else s.beat.firstMissed }

section
variable {s : State} (hdec : s.beat.decided = false) (htr : s.beat.trans = none)
  (hclosed : s.beat.last + s.jitter s.periodEst ≤ s.now)
include hdec htr hclosed

/-- The first missed boundary takes LOCKED to FREERUN (R29). -/
theorem missedBeat_of_locked (hmode : s.beat.mode = .locked) :
    missedBeat s = (({ s with beat := s.boundaryMissed } : State).beatTo .freerun).autoToLink := by
  simp [missedBeat, State.boundaryMissed, hmode, hdec, htr, Nat.not_lt.mpr hclosed]

/-- A further one is counted in FREERUN. -/
theorem missedBeat_of_freerun (hmode : s.beat.mode = .freerun) :
    missedBeat s = ({ s with beat := s.boundaryMissed } : State).autoToLink := by
  simp [missedBeat, State.boundaryMissed, hmode, hdec, htr, Nat.not_lt.mpr hclosed]

theorem missedBeat_beat (hmode : s.beat.mode = .locked ∨ s.beat.mode = .freerun) :
    ∃ since lock, (missedBeat s).beat = { s.boundaryMissed with mode := .freerun, since := since, newLock := lock } := by
  obtain hlocked | hfree := hmode
  · rw [missedBeat_of_locked hdec htr hclosed hlocked]
    exact ⟨s.now, s.missedToFreerun_beat (by simp [State.boundaryMissed, hlocked])⟩
  · have hmode : s.boundaryMissed.mode = .freerun := hfree
    rw [missedBeat_of_freerun hdec htr hclosed hfree, State.autoToLink_beat, ← hmode]
    exact ⟨s.beat.since, _, rfl⟩

theorem missedBeat_writes (hmode : s.beat.mode = .locked ∨ s.beat.mode = .freerun) : Writes [.beat, .evt] s (missedBeat s) := by
  obtain hlocked | hfree := hmode
  · rw [missedBeat_of_locked hdec htr hclosed hlocked]
    exact s.missedToFreerun_writes (by simp [State.boundaryMissed, hlocked])
  · rw [missedBeat_of_freerun hdec htr hclosed hfree]
    exact ((s.setBeat_writes _).mono (by simp)).trans (State.autoToLink_writes _)

end

theorem beatSelfTimed_of_due {s : State} (hmode : s.beat.mode = .freerun) (htr : s.beat.trans = none)
    (hlimit : s.count ⟨.BEAT_FREERUN_LIMIT, 0, 0⟩ ≤ s.beat.missed) (hnext : s.beat.next ≤ s.now) :
    beatSelfTimed s = s.beatTo .self := by
  simp [beatSelfTimed, hmode, htr, hlimit, hnext]

theorem seekingTimeout_of_due {s : State} (hmode : s.beat.mode = .seeking) (hdue : s.beat.since + 2000000000000 ≤ s.now) :
    seekingTimeout s = ({ s with beat := { s.beat with next := s.now } } : State).beatTo .self := by
  simp [seekingTimeout, hmode, hdue]

/-- The beat that a transition's timeout enters FREERUN with (R30): the new source and its estimate, the boundary at the window's close missed. -/
def State.transitionMissed (s : State) (tr : Transition) : BeatS :=
  { s.beat with
    trans := none, source := tr.source, periods := tr.periods, next := tr.predict + s.jitter (meanPeriod tr.periods), decided := true
    missed := 1, firstMissed := s.beat.number + 1, early := some (wholeNotches (meanPeriod tr.periods))
    lastAccepted := (s.beat.edges tr.source).head? }

theorem transitionTimeout_of_due {s : State} {tr : Transition} (htr : s.beat.trans = some tr)
    (hclosed : tr.predict + s.jitter (meanPeriod tr.periods) ≤ s.now) :
    transitionTimeout s = (({ s with beat := s.transitionMissed tr } : State).beatTo .freerun).autoToLink := by
  simp [transitionTimeout, htr, Nat.not_lt.mpr hclosed, State.transitionMissed]

/-! ### What each timer's command answers -/

theorem exec_missedBeat (t : Nat) (s : State) : exec (.missedBeat t) s = .next (missedBeat (s.at t)) := rfl
theorem exec_beatSelfTimed (t : Nat) (s : State) : exec (.beatSelfTimed t) s = .next (beatSelfTimed (s.at t)) := rfl
theorem exec_seekingLockTimeout (t : Nat) (s : State) : exec (.seekingLockTimeout t) s = .next (seekingTimeout (s.at t)) := rfl
theorem exec_transitionBeatTimeout (t : Nat) (s : State) :
    exec (.transitionBeatTimeout t) s = .next (transitionTimeout (s.at t)) := rfl

/-! ### The obligation -/

/-- Settles O3: each timer's update from the begun command, its frame and what it writes of the beat. -/
theorem beatTimersChangeState : Obligations.BeatTimersChangeState := by
  refine ⟨?missed, ?selfTimed, ?seeking, ?transition⟩
  case missed =>
    intro t s hmode hdec htr hclosed
    obtain ⟨since, lock, hbeat⟩ := missedBeat_beat (s := s.at t) hdec htr hclosed hmode
    refine Does.of_next (exec_missedBeat t s) (missedBeat_writes hdec htr hclosed hmode) ?_
    rw [hbeat]
    exact ⟨rfl, rfl, rfl, rfl, rfl, rfl, rfl, rfl⟩
  case selfTimed =>
    intro t s hmode htr hlimit hnext
    have hrun : (s.at t).beat.mode ≠ .seeking := fun h => nomatch hmode.symm.trans h
    have hx := exec_beatSelfTimed t s
    rw [beatSelfTimed_of_due (s := s.at t) hmode htr hlimit hnext] at hx
    exact Does.of_next hx (State.beatTo_writes_idle _ .self nofun nofun hrun) (State.beatTo_beat_locked _ .self hrun nofun)
  case seeking =>
    intro t s hmode hdue
    have hx := exec_seekingLockTimeout t s
    rw [seekingTimeout_of_due (s := s.at t) hmode hdue] at hx
    refine Does.of_next (t := t) hx ?_ (State.beatTo_beat_seeking .self hmode)
    exact (((s.at t).setBeat_writes _).mono (by simp)).trans (State.beatTo_writes _ .self nofun nofun)
  case transition =>
    intro t s tr htr hmode hclosed
    have hx := exec_transitionBeatTimeout t s
    rw [transitionTimeout_of_due (s := s.at t) htr hclosed] at hx
    have hrun : ((s.at t).transitionMissed tr).mode ≠ .seeking := hmode
    obtain ⟨lock, hbeat⟩ := (s.at t).missedToFreerun_beat hrun
    refine Does.of_next hx ((s.at t).missedToFreerun_writes hrun) ?_
    rw [hbeat]
    exact ⟨rfl, rfl, rfl, rfl, rfl, rfl, rfl, rfl, rfl⟩

end Sys2Proof.Machine
end

section
/-! Proofs: how a tier program starts and ends, and when a tier's scrub is overdue (spec/05 R209; spec/08 R324–R328, R343). -/
namespace Sys2Proof.Machine
open Sys2Proof

/-! ### What an update writes, part by part -/

theorem Writes.append {l m : List StatePart} {s x y : State} (h : Writes l s x) (k : Writes m x y) : Writes (l ++ m) s y :=
  (h.mono (by simp)).trans (k.mono (by simp))

theorem State.putEngine_writes (s : State) (n : Nat) (e : EngS) : Writes [.eng] s (s.putEngine n e) := by
  intro f hf
  cases f with
  | eng => simp at hf
  | _ => rfl

theorem State.mapTile_writes (s : State) (eng tier : Nat) (f : Tile → Tile) : Writes [.slots] s (s.mapTile eng tier f) := by
  intro p hp
  cases p with
  | slots => simp at hp
  | _ => rfl

@[simp] theorem State.mapTile_engine (s : State) (eng tier : Nat) (f : Tile → Tile) (e : Nat) :
    (s.mapTile eng tier f).engine e = s.engine e := rfl

theorem State.setSlots_writes (s : State) (x : SlotsS) : Writes [.slots] s { s with slots := x } := by
  intro f hf
  cases f with
  | slots => simp at hf
  | _ => rfl

theorem State.putCount_writes (s : State) (k : OKey) (n : Nat) : Writes [.cnt] s (s.putCount k n) := by
  intro f hf
  cases f with
  | cnt => simp at hf
  | _ => rfl

theorem State.raise_writes (s : State) (code kw : Nat) (unit : UnitId) (p0 p1 p2 : Nat) :
    Writes [.evt] s (s.raise code kw unit p0 p1 p2) := by
  intro f hf
  cases f with
  | evt => simp at hf
  | _ => rfl

/-- A counter that stays within its width takes the sum, and no free value is drawn (log 10). -/
theorem State.inc_of_lt {s : State} {o : Obj} {n : Nat} (h : s.count ⟨o, 0, 0⟩ + n < 256 ^ tySize o.spec.ty) :
    s.inc o n = s.putCount ⟨o, 0, 0⟩ (s.count ⟨o, 0, 0⟩ + n) :=
  if_pos h

/-! ### The tile in a tier, once it has been changed -/

/-- Change the tiles of a version that stand in an engine tier. -/
def Version.mapTile (v : Version) (eng tier : Nat) (f : Tile → Tile) : Version :=
  { v with tiles := v.tiles.map (fun t => if t.eng == eng && t.tier == tier then f t else t) }

@[simp] theorem Version.mapTile_number (v : Version) (eng tier : Nat) (f : Tile → Tile) : (v.mapTile eng tier f).number = v.number := rfl

theorem State.versions_mapTile (s : State) (eng tier : Nat) (f : Tile → Tile) :
    (s.mapTile eng tier f).versions = s.versions.map (fun p => (p.1, p.2.1, p.2.2.mapTile eng tier f)) := by
  simp only [State.versions, State.mapTile, List.flatMap_map, List.map_flatMap]
  congr 1
  funext ⟨n, x⟩
  cases x.cur <;> cases x.pend <;> cases x.old <;> rfl

section
variable {eng tier : Nat} {f : Tile → Tile} (hf : ∀ t, (f t).eng = t.eng ∧ (f t).tier = t.tier)
include hf

/-- A change that leaves a tile its place is not seen by a test of the place. -/
theorem place_mapTile (t : Tile) :
    ((if t.eng == eng && t.tier == tier then f t else t).eng == eng && (if t.eng == eng && t.tier == tier then f t else t).tier == tier) =
      (t.eng == eng && t.tier == tier) := by
  split <;> simp [hf t]

theorem Version.any_mapTile (v : Version) :
    (v.mapTile eng tier f).tiles.any (fun t => t.eng == eng && t.tier == tier) = v.tiles.any (fun t => t.eng == eng && t.tier == tier) := by
  simp only [Version.mapTile, List.any_map, Function.comp_def, place_mapTile hf]

theorem Version.find_mapTile (v : Version) :
    (v.mapTile eng tier f).tiles.find? (fun t => t.eng == eng && t.tier == tier) =
      (v.tiles.find? (fun t => t.eng == eng && t.tier == tier)).map f := by
  simp only [Version.mapTile, List.find?_map, Function.comp_def, place_mapTile hf]
  cases h : v.tiles.find? (fun t => t.eng == eng && t.tier == tier) with
  | none => rfl
  | some z => exact congrArg some (if_pos (List.find?_some h))

theorem State.tileAt_mapTile {s : State} {n : Nat} {w : Which} {v : Version} {z : Tile} (h : s.tileAt eng tier = some (n, w, v, z)) :
    (s.mapTile eng tier f).tileAt eng tier = some (n, w, v.mapTile eng tier f, f z) := by
  simp only [State.tileAt, State.versions_mapTile, List.find?_map, Function.comp_def, Version.any_mapTile hf] at h ⊢
  cases hv : s.versions.find? (fun p => p.2.2.tiles.any (fun t => t.eng == eng && t.tier == tier)) with
  | none => simp [hv] at h
  | some p =>
    simp only [hv, Option.map_eq_some_iff, Prod.mk.injEq] at h
    obtain ⟨t, ht, rfl, rfl, rfl, rfl⟩ := h
    simp [Version.find_mapTile hf, ht]

end

/-! ### Erasing a tier (R209, R324) -/

/-- A tier whose erase has begun: its cells at level 0, one program more, its trim lost, WORN at 10,000. -/
def TierS.erased (t : TierS) : TierS :=
  { t with
    weights := [], refs := false, spareCols := [], programs := t.programs + 1, trimmed := false
    health := if 10000 ≤ t.programs + 1 ∧ t.health = .good then .worn else t.health }

theorem State.engine_changeTier (s : State) (eng tier : Nat) (x : TierS) (e : Nat) :
    (s.changeTier eng tier x).engine e =
      if eng = e then { (s.engine eng).putTier tier x with
        healthAt := if x.health = ((s.engine eng).tier tier).health then (s.engine eng).healthAt else s.notchTime }
      else s.engine e := by
  simp [State.changeTier, eq_comm]

theorem State.changeTier_writes (s : State) (eng tier : Nat) (x : TierS) : Writes [.eng] s (s.changeTier eng tier x) :=
  s.putEngine_writes eng _

section
variable (s : State) (eng tier : Nat)

/-- The erase up to the event that reports the 10,000th program. -/
def State.erasedTier : State := (s.changeTier eng tier ((s.engine eng).tier tier).erased).inc .PROG_TIERS_COUNT

theorem State.eraseTier_eq :
    s.eraseTier eng tier =
      if ((s.engine eng).tier tier).programs + 1 = 10000 then (s.erasedTier eng tier).raise 0x4504 0xFF ((s.erasedTier eng tier).uidTier eng tier)
      else s.erasedTier eng tier := by
  simp [State.eraseTier, State.erasedTier, TierS.erased]

/-- The event of the 10,000th program writes the event queue alone. -/
theorem State.eraseTier_writes_evt : Writes [.evt] (s.erasedTier eng tier) (s.eraseTier eng tier) := by
  rw [State.eraseTier_eq]
  split
  · exact State.raise_writes _ _ _ _ _ _ _
  · exact Writes.refl _ _

theorem State.eraseTier_engine (e : Nat) :
    (s.eraseTier eng tier).engine e = (s.changeTier eng tier ((s.engine eng).tier tier).erased).engine e := by
  have heng : (s.eraseTier eng tier).eng = (s.erasedTier eng tier).eng := s.eraseTier_writes_evt eng tier .eng (by decide)
  simp [State.engine, heng, State.erasedTier]

theorem State.eraseTier_slots : (s.eraseTier eng tier).slots = s.slots := by
  have hslots : (s.eraseTier eng tier).slots = (s.erasedTier eng tier).slots := s.eraseTier_writes_evt eng tier .slots (by decide)
  simp [hslots, State.erasedTier]

variable {s} (h : s.count ⟨.PROG_TIERS_COUNT, 0, 0⟩ + 1 < 2 ^ 64)
include h

theorem State.erasedTier_of_lt :
    s.erasedTier eng tier = (s.changeTier eng tier ((s.engine eng).tier tier).erased).putCount ⟨.PROG_TIERS_COUNT, 0, 0⟩
      (s.count ⟨.PROG_TIERS_COUNT, 0, 0⟩ + 1) :=
  State.inc_of_lt (s := s.changeTier eng tier ((s.engine eng).tier tier).erased) h

theorem State.eraseTier_count : (s.eraseTier eng tier).count ⟨.PROG_TIERS_COUNT, 0, 0⟩ = s.count ⟨.PROG_TIERS_COUNT, 0, 0⟩ + 1 := by
  have hcnt : (s.eraseTier eng tier).cnt = (s.erasedTier eng tier).cnt := s.eraseTier_writes_evt eng tier .cnt (by decide)
  have hpart : (s.eraseTier eng tier).part = (s.erasedTier eng tier).part := s.eraseTier_writes_evt eng tier .part (by decide)
  have hcount (k : OKey) : (s.eraseTier eng tier).count k = (s.erasedTier eng tier).count k := by
    rw [State.count, State.count, hcnt, hpart]
  rw [hcount, State.erasedTier_of_lt eng tier h, State.count_putCount, if_pos rfl]

theorem State.eraseTier_writes : Writes [.eng, .cnt, .evt] s (s.eraseTier eng tier) := by
  have herased : Writes [.eng, .cnt] s (s.erasedTier eng tier) := by
    rw [State.erasedTier_of_lt eng tier h]
    exact (s.changeTier_writes eng tier _).append (State.putCount_writes _ _ _)
  exact herased.append (s.eraseTier_writes_evt eng tier)

end

/-! ### A tier program starts (Table 7.7, R324, R327) -/

/-- A program is begun, up to the erase: the calibration run of its engine is abandoned, its tile is being programmed. -/
def State.programBegun (s : State) (eng tier : Nat) (p : Program) : State :=
  let x := (s.putEngine eng { s.engine eng with run := none, shadow := (s.engine eng).active }).mapTile eng tier
    (fun t => { t with state := .programming })
  { x with slots := { x.slots with programs := x.slots.programs ++ [p] } }

section
variable (s : State) (eng tier : Nat) (p : Program)

theorem State.programBegun_engine (e : Nat) :
    (s.programBegun eng tier p).engine e =
      if eng = e then { s.engine eng with run := none, shadow := (s.engine eng).active } else s.engine e :=
  s.engine_putEngine eng e _

theorem State.programBegun_writes : Writes [.eng, .slots] s (s.programBegun eng tier p) :=
  (s.putEngine_writes eng _).append (Writes.trans (State.mapTile_writes _ eng tier _) (State.setSlots_writes _ _))

@[simp] theorem State.programBegun_programs : (s.programBegun eng tier p).slots.programs = s.slots.programs ++ [p] := rfl
@[simp] theorem State.programBegun_count (k : OKey) : (s.programBegun eng tier p).count k = s.count k := rfl
@[simp] theorem State.programBegun_notchTime : (s.programBegun eng tier p).notchTime = s.notchTime := rfl

end

theorem tierProgramStart_of_waitsElsewhere {s : State} {eng tier : Nat} (h : s.waitsElsewhere eng tier = true) :
    tierProgramStart eng tier s = s.tileAgain eng tier :=
  if_pos h

/-- The program names the tile's slot and its version's number, which the change of the tile's state leaves. -/
theorem tierProgramStart_of_mayProgram {s : State} {eng tier n : Nat} {w : Which} {v : Version} {z : Tile}
    (hmay : s.mayProgram eng tier = true) (helse : s.waitsElsewhere eng tier = false) (hpwr : s.pwr.stalled = false)
    (htile : s.tileAt eng tier = some (n, w, v, z)) :
    tierProgramStart eng tier s = (s.programBegun eng tier ⟨eng, tier, n, v.number, false⟩).eraseTier eng tier := by
  have hbegun := State.tileAt_mapTile (f := fun t => { t with state := .programming }) (fun _ => ⟨rfl, rfl⟩)
    (s := s.putEngine eng { s.engine eng with run := none, shadow := (s.engine eng).active }) htile
  simp [tierProgramStart, State.programBegun, hmay, helse, hpwr, hbegun]

/-! ### A tier program ends (R325–R328) -/

/-- The program of a tier is over and its energy is charged to the beat (R327). -/
def State.programEnded (s : State) (eng tier charge : Nat) : State :=
  { s with slots := { s.slots with programs := s.slots.programs.filter (fun p => !(p.eng == eng && p.tier == tier)) }
           kpr := { s.kpr with energy := s.kpr.energy + charge } }

@[simp] theorem State.programEnded_engine (s : State) (eng tier charge e : Nat) : (s.programEnded eng tier charge).engine e = s.engine e := rfl

/-- The tier holds the image, and columns outside their window have gone to spares (R325). -/
def State.programFilled (u : State) (eng tier : Nat) (bad bs : List Nat) (img : Bytes) : State :=
  (u.putTier eng tier (((u.engine eng).tier tier).programmed img bs)).progRemaps eng tier bs (((u.engine eng).tier tier).badColumns bad bs)

/-- What becomes of the tile then, by the tier's retirement and its read-back (R325, R326). -/
def State.programJudged (y : State) (eng tier : Nat) (z : Tile) (cells : List CellRead) : State :=
  if ((y.engine eng).tier tier).retiring || ((y.engine eng).tier tier).health == .retired then y.tileAgain eng tier
  else
    let q := y.programRead eng tier
    if readsTrue z.image cells then
      let x := q.mapTile eng tier (fun t => { t with state := .awaitCal, tries := 0 })
      let e := x.engine eng
      x.putEngine eng { e with due := some 0, dueSince := if e.due = some 0 then e.dueSince else x.now, standoff := none }
    else if z.tries == 0 then q.mapTile eng tier (fun t => { t with state := .waiting, tries := 1 })
    else ((q.changeTier eng tier { (q.engine eng).tier tier with health := .suspect }).mapTile eng tier
      (fun t => { t with state := .waiting })).tileAgain eng tier

section
variable {s y q : State} {eng tier n energy : Nat} {bad bs : List Nat} {cells : List CellRead} {w : Which} {v : Version} {z : Tile}
  (hprog : ∃ p, p ∈ s.slots.programs ∧ p.eng = eng ∧ p.tier = tier)
  (htile : (s.programEnded eng tier (energy * 1000000 * 2 ^ 32)).tileAt eng tier = some (n, w, v, z))
  (hy : y = (s.programEnded eng tier (energy * 1000000 * 2 ^ 32)).programFilled eng tier bad bs z.image)
include hprog htile hy

/-- Past the columns that went to spares, the end of a program turns on the tier's retirement and on its read-back. -/
theorem tierProgramDone_eq : tierProgramDone eng tier bad bs cells energy s = y.programJudged eng tier z cells := by
  have hany : s.slots.programs.any (fun p => p.eng == eng && p.tier == tier) = true := by simpa using hprog
  unfold tierProgramDone
  rw [if_neg (by simp [hany])]
  extract_lets
  split
  next hnone => exact nomatch htile.symm.trans hnone
  next hsome =>
    cases htile.symm.trans hsome
    exact hy ▸ rfl

theorem tierProgramDone_of_retired
    (h : ((y.engine eng).tier tier).retiring = true ∨ ((y.engine eng).tier tier).health = .retired) :
    tierProgramDone eng tier bad bs cells energy s = y.tileAgain eng tier := by
  rw [tierProgramDone_eq hprog htile hy, State.programJudged, if_pos (by simpa using h)]

variable (hq : q = y.programRead eng tier) (hretiring : ((y.engine eng).tier tier).retiring = false)
  (hhealth : ((y.engine eng).tier tier).health ≠ .retired)
include hq hretiring hhealth

theorem tierProgramDone_of_readsTrue (hread : readsTrue z.image cells = true) :
    tierProgramDone eng tier bad bs cells energy s =
      (q.mapTile eng tier (fun t => { t with state := .awaitCal, tries := 0 })).putEngine eng { q.engine eng with
        due := some 0, dueSince := if (q.engine eng).due = some 0 then (q.engine eng).dueSince else q.now, standoff := none } := by
  rw [tierProgramDone_eq hprog htile hy]
  simp [State.programJudged, hretiring, hhealth, hread, hq]

theorem tierProgramDone_of_firstMisread (hread : readsTrue z.image cells = false) (htries : z.tries = 0) :
    tierProgramDone eng tier bad bs cells energy s = q.mapTile eng tier (fun t => { t with state := .waiting, tries := 1 }) := by
  rw [tierProgramDone_eq hprog htile hy]
  simp [State.programJudged, hretiring, hhealth, hread, htries, hq]

theorem tierProgramDone_of_misreadAgain (hread : readsTrue z.image cells = false) (htries : z.tries ≠ 0) :
    tierProgramDone eng tier bad bs cells energy s =
      ((q.changeTier eng tier { (q.engine eng).tier tier with health := .suspect }).mapTile eng tier
        (fun t => { t with state := .waiting })).tileAgain eng tier := by
  rw [tierProgramDone_eq hprog htile hy]
  simp [State.programJudged, hretiring, hhealth, hread, htries, hq]

end

/-! ### Scrub overdue (R343) -/

section
variable {s : State} {eng tier n : Nat} {w : Which} {v : Version} {z : Tile} (htile : s.tileAt eng tier = some (n, w, v, z))
include htile

theorem scrubOverdue_of_due (hnew : ((s.engine eng).tier tier).overdue = false)
    (hdue : ((s.engine eng).tier tier).scrubHour + s.set0 .SCRUB_INTERVAL ≤ s.opHours) :
    scrubOverdue eng tier s = ((s.putTier eng tier { (s.engine eng).tier tier with overdue := true }).inc .SCRUB_OVERDUE).raise 0x4804
      (s.slot n).owner (s.uidTier eng tier) (s.opHours - ((s.engine eng).tier tier).scrubHour) n := by
  simp [scrubOverdue, htile, hnew, Nat.not_lt.mpr hdue]

theorem scrubOverdue_of_not_due
    (h : ((s.engine eng).tier tier).overdue = true ∨ s.opHours < ((s.engine eng).tier tier).scrubHour + s.set0 .SCRUB_INTERVAL) :
    scrubOverdue eng tier s = s := by
  simpa [scrubOverdue, htile] using fun hnew hdue => absurd hdue (Nat.not_le.mpr (h.resolve_left (by simp [hnew])))

end

/-! ### What the commands answer -/

section
variable {eng tier : Nat} {s : State} (heng : eng < s.numEngines) (htier : tier < 4) (t : Nat)
include heng htier

theorem exec_tierProgramStart : exec (.tierProgramStart t eng tier) s = .next (tierProgramStart eng tier (s.at t)) :=
  if_pos ⟨heng, htier⟩

theorem exec_tierProgramDone (bad bs refs : List Nat) (cells : List CellRead) (energy : Nat) :
    exec (.tierProgramDone t eng tier bad bs refs cells energy) s = .next (tierProgramDone eng tier (bad ++ refs) bs cells energy (s.at t)) :=
  if_pos ⟨heng, htier⟩

theorem exec_scrubOverdue : exec (.scrubOverdue t eng tier) s = .next (scrubOverdue eng tier (s.at t)) :=
  if_pos ⟨heng, htier⟩

end

/-! ### The obligation -/

/-- Settles O28: the start by the program begun and its erase, the end by the case its read-back falls in, the overdue scrub by its hours. -/
theorem tierPrograms : Obligations.TierPrograms := by
  refine ⟨?start, ?elsewhere, ?done, ?overdue⟩
  case start =>
    intro t eng tier n w v z s heng htier hmay helse hpwr htile hcount r hr
    have hx := exec_tierProgramStart heng htier t
    rw [tierProgramStart_of_mayProgram (s := s.at t) hmay helse hpwr htile] at hx
    have hwrites := ((s.at t).programBegun_writes eng tier ⟨eng, tier, n, v.number, false⟩).append (State.eraseTier_writes eng tier hcount)
    refine Does.of_next hx (hwrites.mono (by simp)) ⟨?programs, ?engine, ?others, ?count⟩
    case programs => rw [State.eraseTier_slots]; rfl
    case engine =>
      rw [State.eraseTier_engine, State.engine_changeTier, if_pos rfl, State.programBegun_engine, if_pos rfl, hr]
      rfl
    case others =>
      intro e he
      rw [State.eraseTier_engine, State.engine_changeTier, if_neg he.symm, State.programBegun_engine, if_neg he.symm]
      rfl
    case count => exact State.eraseTier_count eng tier hcount
  case elsewhere =>
    intro t eng tier _ _ _ s heng htier helse
    rw [exec_tierProgramStart heng htier, tierProgramStart_of_waitsElsewhere (s := s.at t) helse]
  case done =>
    intro t eng tier n energy bad bs refs cells w v z s u y q heng htier hprog hu htile hy hq
    have hended : u = (s.at t).programEnded eng tier (energy * 1000000 * 2 ^ 32) := hu
    have hfilled : y = ((s.at t).programEnded eng tier (energy * 1000000 * 2 ^ 32)).programFilled eng tier (bad ++ refs) bs z.image := by
      rw [hy, hended, State.programFilled, State.programEnded_engine, State.at_engine]
    rw [hended] at htile
    rw [exec_tierProgramDone heng htier]
    refine ⟨fun hret => ?_, fun hretiring hhealth => ⟨fun hread => ?_, fun hread => ⟨fun htries => ?_, fun htries => ?_⟩⟩⟩
    · rw [tierProgramDone_of_retired (s := s.at t) hprog htile hfilled hret]
    · rw [tierProgramDone_of_readsTrue (s := s.at t) hprog htile hfilled hq hretiring hhealth hread]
    · rw [tierProgramDone_of_firstMisread (s := s.at t) hprog htile hfilled hq hretiring hhealth hread htries]
    · rw [tierProgramDone_of_misreadAgain (s := s.at t) hprog htile hfilled hq hretiring hhealth hread htries]
  case overdue =>
    intro t eng tier n w v z s heng htier htile
    rw [exec_scrubOverdue heng htier]
    refine ⟨fun hnew hdue => ?_, fun h => ?_⟩
    · rw [scrubOverdue_of_due (s := s.at t) htile hnew hdue]
      rfl
    · rw [scrubOverdue_of_not_due (s := s.at t) htile h]

end Sys2Proof.Machine
end

section
/-! Proofs: the cross-check of the two converters and the system calibration of a channel (spec/13 R547–R552). -/
namespace Sys2Proof.Machine
open Sys2Proof

theorem State.setSense_writes (s : State) (x : SenseS) : Writes [.sense] s { s with sense := x } := by
  intro f hf
  cases f with
  | sense => simp at hf
  | _ => rfl

/-! ### What the values of a check indicate (R547, Table 13.5) -/

/-- DISAGREE is indicated when both values lie in the window. -/
theorem xchkState_eq_one_iff (a b : Int) :
    xchkState a b = 1 ↔ (a - 600000).natAbs ≤ 6000 ∧ (b - 600000).natAbs ≤ 6000 := by
  by_cases ha : (a - 600000).natAbs ≤ 6000 <;> by_cases hb : (b - 600000).natAbs ≤ 6000 <;> simp [xchkState, ha, hb]

/-- The two values agree within the tolerance and both lie in the window (R547). -/
def State.checkPasses (s : State) (a b : Int) : Prop :=
  (a - b).natAbs ≤ s.set0 .XCHK_TOL ∧ (a - 600000).natAbs ≤ 6000 ∧ (b - 600000).natAbs ≤ 6000

/-- The model's test of a check, which goes by the state that the values indicate, is R547's. -/
theorem State.checkPasses_iff (s : State) (a b : Int) :
    s.checkPasses a b ↔ (xchkState a b == 1 && decide ((a - b).natAbs ≤ s.set0 .XCHK_TOL)) = true := by
  rw [Bool.and_eq_true, beq_iff_eq, decide_eq_true_iff, xchkState_eq_one_iff]
  exact And.comm

/-! ### A check is judged (R547–R549) -/

/-- After a check that passes: the row of failures ends, and the sixteenth pass in a row returns to NORMAL (R549). -/
def State.checkPassed (s : State) (a b : Int) : State :=
  { s with sense := { s.sense with
      xDiff := a - b, xFails := 0, xPasses := s.sense.xPasses + 1
      mode := if 16 ≤ s.sense.xPasses + 1 then 0 else s.sense.mode } }

/-- After a check that fails, before a state is entered for it: the row of passes ends. -/
def State.checkFailed (s : State) (a b : Int) : State :=
  { s with sense := { s.sense with xDiff := a - b, xFails := s.sense.xFails + 1, xPasses := 0 } }

theorem State.checkPassed_writes (s : State) (a b : Int) : Writes [.sense] s (s.checkPassed a b) :=
  s.setSense_writes _

@[simp] theorem State.emergencyAt_sense (s : State) (c cause : Nat) (reading : Int) :
    (s.emergencyAt c cause reading).sense = s.sense := by
  simp [State.emergencyAt]

/-- The state is put in place first; neither its event nor the emergency of REF_SUSPECT touches it (Table 13.5). -/
theorem State.enterSense_mode (s : State) (m : Nat) : (s.enterSense m).sense.mode = m := by
  unfold State.enterSense
  extract_lets
  split
  · rfl
  · exact congrArg SenseS.mode (State.emergencyAt_sense _ _ _ _)
  · rfl

theorem xchk_of_selfBusy {s : State} (a b : Int) (h : s.sense.selfBusy.isSome = true) : xchk a b s = s :=
  if_pos h

section
variable {s : State} {a b : Int} (hself : s.sense.selfBusy = none)
include hself

/-- In NORMAL a sixteenth pass changes no state, so the return may be stated of every state. -/
theorem xchk_of_passes (h : s.checkPasses a b) : xchk a b s = s.checkPassed a b := by
  have hpass := (s.checkPasses_iff a b).mp h
  by_cases hrow : 16 ≤ s.sense.xPasses + 1
  · by_cases hmode : s.sense.mode = 0 <;> simp [xchk, State.checkPassed, hself, hpass, hrow, hmode]
  · simp [xchk, State.checkPassed, hself, hpass, hrow]

/-- The third failure in a row, and each after it, enters the state it indicates unless that state stands. -/
theorem xchk_of_fails (h : ¬s.checkPasses a b) :
    xchk a b s =
      if 2 ≤ s.sense.xFails ∧ s.sense.mode ≠ xchkState a b then (s.checkFailed a b).enterSense (xchkState a b) else s.checkFailed a b := by
  rw [State.checkPasses_iff, Bool.not_eq_true] at h
  simp [xchk, State.checkFailed, hself, h]

end

/-! ### A capture ends (R550, R551) -/

/-- The zero lies within 24,000 µV and the gain, the full scale over the captured difference, within 0.95–1.05 (R551). -/
def State.calAccepted (s : State) (d : Int) : Prop :=
  s.sense.cal.zero.natAbs ≤ 24000 ∧ 0 < d ∧ 95 * d ≤ 100 * (s.set0 .SYSCAL_FS_VALUE : Int) ∧
    100 * (s.set0 .SYSCAL_FS_VALUE : Int) ≤ 105 * d

theorem syscalCapture_of_none {s : State} (v : Int) (h : s.sense.cal.capture = none) : syscalCapture v s = s := by
  simp [syscalCapture, h]

section
variable {s : State} (v : Int) (hself : s.sense.selfBusy ≠ some (s.convOf (s.set0 .SYSCAL_CHAN)))
include hself

theorem syscalCapture_of_zero (hcap : s.sense.cal.capture = some 1) :
    syscalCapture v s = s.putCal { s.sense.cal with capture := none, zero := v, status := 1 } := by
  simp [syscalCapture, hself, hcap]

theorem syscalCapture_of_accepted (hcap : s.sense.cal.capture = some 2) (h : s.calAccepted (v - s.sense.cal.zero)) :
    syscalCapture v s = s.putCal { s.sense.cal with
      capture := none, gain := ratioF32 (s.set0 .SYSCAL_FS_VALUE) (v - s.sense.cal.zero), status := 2 } := by
  obtain ⟨hzero, hpos, hlow, hhigh⟩ := h
  simp [syscalCapture, hself, hcap, hzero, Int.sub_pos.mp hpos, hlow, hhigh]

theorem syscalCapture_of_rejected (hcap : s.sense.cal.capture = some 2) (h : ¬s.calAccepted (v - s.sense.cal.zero)) :
    syscalCapture v s = (s.putCal { s.sense.cal with capture := none, status := 4 }).raise 0x4D06 0xFF (uidHub 0) := by
  simp only [State.calAccepted] at h
  simp only [syscalCapture, beq_iff_eq, hself, hcap, if_false, Bool.and_eq_true, decide_eq_true_iff, and_assoc, h]

end

/-! ### The procedure times out (R552) -/

section
variable {s : State} {b : Nat} (hstart : s.sense.cal.started = some b)
include hstart

theorem syscalTimeout_of_due (h : b + 60000000000000 ≤ s.now) :
    syscalTimeout s = s.putCal { s.sense.cal with status := 0, started := none, capture := none } := by
  simp [syscalTimeout, hstart, h, State.syscalStop]

theorem syscalTimeout_of_early (h : s.now < b + 60000000000000) : syscalTimeout s = s := by
  simp [syscalTimeout, hstart, Nat.not_le.mpr h]

end

/-! ### What the commands answer -/

theorem exec_xchk (t : Nat) (a b : Int) (s : State) : exec (.xchk t a b) s = .next (xchk a b (s.at t)) := rfl
theorem exec_syscalCaptureDone (t : Nat) (v : Int) (s : State) :
    exec (.syscalCaptureDone t v) s = .next (syscalCapture v (s.at t)) := rfl
theorem exec_syscalTimeout (t : Nat) (s : State) : exec (.syscalTimeout t) s = .next (syscalTimeout (s.at t)) := rfl

/-! ### The obligation -/

/-- Settles O51: a check by its verdict and the failures before it, a capture by its step and R551's limits, the timeout by its 60 s. -/
theorem crossCheckAndSystemCalibration : Obligations.CrossCheckAndSystemCalibration := by
  refine ⟨?check, ?capture, ?timeout⟩
  case check =>
    intro t a b s y pass hpass
    have hverdict : pass ↔ (s.at t).checkPasses a b := hpass
    rw [hverdict]
    refine ⟨fun hbusy => ?_, fun hself hok => ?_, fun hself hbad hy => ?_⟩
    · rw [exec_xchk, xchk_of_selfBusy (s := s.at t) a b hbusy]
    · have hx := exec_xchk t a b s
      rw [xchk_of_passes (s := s.at t) hself hok] at hx
      exact Does.of_next hx (State.checkPassed_writes _ a b) rfl
    · have hfailed : y = (s.at t).checkFailed a b := hy
      rw [exec_xchk, xchk_of_fails (s := s.at t) hself hbad, ← hfailed, State.at_sense]
      refine ⟨fun hstays => ?_, fun hthird hnew => ⟨?_, y.enterSense_mode _⟩⟩
      · rw [if_neg fun ⟨hthird, hnew⟩ => hstays.elim (Nat.not_lt.mpr hthird) hnew]
      · rw [if_pos ⟨hthird, hnew⟩]
  case capture =>
    intro t v s hself
    rw [exec_syscalCaptureDone]
    refine ⟨fun hcap => ?_, fun hcap d hd => ⟨fun hzero hpos hlow hhigh => ?_, fun hout => ?_⟩, fun hcap => ?_⟩
    · rw [syscalCapture_of_zero (s := s.at t) v hself hcap, State.at_sense]
    · subst hd
      rw [syscalCapture_of_accepted (s := s.at t) v hself hcap ⟨hzero, hpos, hlow, hhigh⟩, State.at_sense, State.at_set0]
    · subst hd
      have hlimits : ¬(s.at t).calAccepted (v - s.sense.cal.zero) := by
        rintro ⟨hzero, hpos, hlow, hhigh⟩
        simp only [State.at_sense, State.at_set0] at hzero hlow hhigh
        omega
      rw [syscalCapture_of_rejected (s := s.at t) v hself hcap hlimits, State.at_sense]
    · rw [syscalCapture_of_none (s := s.at t) v hcap]
  case timeout =>
    intro t b s hstart
    rw [exec_syscalTimeout]
    refine ⟨fun hdue => ?_, fun hearly => ?_⟩
    · rw [syscalTimeout_of_due (s := s.at t) hstart hdue, State.at_sense]
    · rw [syscalTimeout_of_early (s := s.at t) hstart hearly]

end Sys2Proof.Machine
end

section
/-! Proofs: every operation of a command keeps host memory and the keyways' memories canonical (log 11); each operation after those it calls. -/
namespace Sys2Proof.Machine
open Sys2Proof

/-- Host memory and every keyway's memory are canonical, read off the pair of the two. -/
def cellsOk (p : List Host.Cell × Map (List Host.Cell)) : Prop := memWf p.1 = true ∧ ∀ m, m ∈ p.2 → memWf m.2 = true
@[simp] theorem cellsOk_ite (c : Prop) [Decidable c] (a b : List Host.Cell × Map (List Host.Cell)) :
    cellsOk (if c then a else b) ↔ if c then cellsOk a else cellsOk b := by split <;> rfl
theorem cellsOk_foldl {α : Type} (f : State → α → State) (h : ∀ x a, cellsOk x.hk → cellsOk (f x a).hk) (l : List α) (s : State)
    (hm : cellsOk s.hk) : cellsOk (l.foldl f s).hk := by
  induction l generalizing s with
  | nil => exact hm
  | cons a r ih => exact ih _ (h _ _ hm)

theorem mem_mapSet {α : Type} {m : Map α} {k : Nat} {v : α} {p : Nat × α} (h : p ∈ mapSet m k v) : p = (k, v) ∨ p ∈ m := by
  induction m with
  | nil => simpa [mapSet] using h
  | cons x r ih =>
    obtain ⟨a, b⟩ := x
    unfold mapSet at h
    split at h
    · exact (List.mem_cons.1 h).imp_right (List.mem_cons_of_mem _)
    · split at h
      · exact List.mem_cons.1 h
      · rcases List.mem_cons.1 h with rfl | h
        · exact .inr List.mem_cons_self
        · exact (ih h).imp_right (List.mem_cons_of_mem _)

theorem mapFind_mem {α : Type} {m : Map α} {k : Nat} {v : α} (h : mapFind m k = some v) : (k, v) ∈ m := by
  induction m with
  | nil => simp [mapFind] at h
  | cons x r ih =>
    obtain ⟨a, b⟩ := x
    unfold mapFind at h
    split at h
    next ha => simp_all
    next => exact List.mem_cons_of_mem _ (ih h)

@[simp] theorem cellsOk_memWrite {m : List Host.Cell} {k : Map (List Host.Cell)} (a : Nat) (b : Bytes) (h : cellsOk (m, k)) :
    cellsOk (memWrite m a b, k) := ⟨memWrite_wf m a b h.1, h.2⟩
@[simp] theorem cellsOk_memLoad {m : List Host.Cell} {k : Map (List Host.Cell)} (l : List HostCell) (h : cellsOk (m, k)) :
    cellsOk (memLoad m l, k) := ⟨memLoad_wf m l h.1, h.2⟩
@[simp] theorem cellsOk_mapDel {m : List Host.Cell} {k : Map (List Host.Cell)} (n : Nat) (h : cellsOk (m, k)) :
    cellsOk (m, mapDel k n) := ⟨h.1, fun p hp => h.2 p ((List.mem_filter.mp hp).1)⟩
/-- Losing every keyway's memory leaves host memory canonical. -/
@[simp] theorem cellsOk_kwNil {s : State} (hm : cellsOk s.hk) : cellsOk (s.hostMem, []) := ⟨hm.1, by simp⟩
/-- The memory of a keyway that has none listed is empty. -/
theorem kwCells_wf {s : State} (hm : cellsOk s.hk) (kw : Nat) : memWf (s.kwCells kw) = true := by
  unfold State.kwCells mapGet
  cases h : mapFind s.kwMem kw with
  | none => rfl
  | some v => exact hm.2 _ (mapFind_mem h)

@[simp] theorem State.dmaWrite_cells (s :State) (fn : Nat) (a : Nat) (b : Bytes) (hm : cellsOk s.hk) :
    cellsOk (State.dmaWrite s fn a b).hk := by simp [State.dmaWrite, hm]
@[simp] theorem State.hostWrote_cells (s :State) (h : List HostCell) (hm : cellsOk s.hk) :
    cellsOk (State.hostWrote s h).hk := by simp [State.hostWrote, hm]
@[simp] theorem State.ringWrite_cells (s :State) (i : Nat) (tok : Nat) (flags : Nat) (logprob : Nat) (beat : Nat) (pos : Nat) (hm : cellsOk s.hk) :
    cellsOk (State.ringWrite s i tok flags logprob beat pos).hk := by simp [State.ringWrite, hm]
@[simp] theorem State.endReq_cells (s :State) (i : Nat) (cause : Nat) (hm : cellsOk s.hk) :
    cellsOk (State.endReq s i cause).hk := by simp [State.endReq, hm]
@[simp] theorem State.drainRing_cells (s :State) (fn : Nat) (a2 : Nat) (hm : cellsOk s.hk) :
    cellsOk (State.drainRing s fn a2).hk := by
  induction a2 generalizing s with
  | zero => exact hm
  | succ n ih =>
    unfold State.drainRing
    dsimp only
    (repeat' split) <;> first | exact hm | exact ih _ (by simp [hm])
@[simp] theorem State.ringPush_cells (s :State) (slot : Nat) (reason : Nat) (index : Nat) (version : Nat) (attempt : Nat) (hm : cellsOk s.hk) :
    cellsOk (State.ringPush s slot reason index version attempt).hk := by simp [State.ringPush, hm]
@[simp] theorem State.issueReq_cells (s :State) (n : Nat) (v : Version) (q : ShardReq) (hm : cellsOk s.hk) :
    cellsOk (State.issueReq s n v q).hk := by simp [State.issueReq, hm]
@[simp] theorem State.issueVer_cells (s :State) (n : Nat) (v : Version) (hm : cellsOk s.hk) :
    cellsOk (State.issueVer s n v).hk := by
  unfold State.issueVer
  exact cellsOk_foldl _ (fun x a hx => by simp [hx]) _ _ hm
@[simp] theorem State.issueSlot_cells (s :State) (n : Nat) (hm : cellsOk s.hk) :
    cellsOk (State.issueSlot s n).hk := by
  unfold State.issueSlot
  exact cellsOk_foldl _ (fun x a hx => by simp [hx]) _ _ hm
@[simp] theorem State.loadFail_cells (s :State) (n : Nat) (code : Nat) (report : Bool) (hm : cellsOk s.hk) :
    cellsOk (State.loadFail s n code report).hk := by
  unfold State.loadFail
  dsimp only
  (repeat' split) <;> simp [hm]
@[simp] theorem State.retryReq_cells (s :State) (n : Nat) (v : Version) (q : ShardReq) (reason : Nat) (hm : cellsOk s.hk) :
    cellsOk (State.retryReq s n v q reason).hk := by simp [State.retryReq, hm]
@[simp] theorem State.allAccepted_cells (s :State) (n : Nat) (w : Which) (hm : cellsOk s.hk) :
    cellsOk (State.allAccepted s n w).hk := by
  unfold State.allAccepted
  dsimp only
  (repeat' split) <;> simp [hm]
@[simp] theorem State.acceptShard_cells (s :State) (n : Nat) (w : Which) (v : Version) (h : ShardHdr) (pay : Bytes) (hm : cellsOk s.hk) :
    cellsOk (State.acceptShard s n w v h pay).hk := by
  unfold State.acceptShard
  exact State.issueSlot_cells _ _ (by simp [hm])
@[simp] theorem State.shardArrived_cells (s :State) (n : Nat) (w : Which) (v : Version) (q : ShardReq) (h : ShardHdr) (buf : Option Bytes) (len : Nat) (hm : cellsOk s.hk) :
    cellsOk (State.shardArrived s n w v q h buf len).hk := by
  unfold State.shardArrived
  (repeat' split) <;> simp [hm]
@[simp] theorem ringCons_cells (fn :Nat) (v : Nat) (s : State) (hm : cellsOk s.hk) :
    cellsOk (ringCons fn v s).hk := by simp [ringCons, hm]
@[simp] theorem shardArrival_cells (fn :Nat) (buf : Option Bytes) (s : State) (hm : cellsOk s.hk) :
    cellsOk (shardArrival fn buf s).hk := by
  unfold shardArrival
  dsimp only
  (repeat' split) <;> simp [hm]
@[simp] theorem shardTimeout_cells (slot :Nat) (index : Nat) (s : State) (hm : cellsOk s.hk) :
    cellsOk (shardTimeout slot index s).hk := by
  unfold shardTimeout
  (repeat' split) <;> simp [hm]
@[simp] theorem State.movechunk_cells (s :State) (n : Nat) (w : Which) (v : Version) (chunk : Nat) (hm : cellsOk s.hk) :
    cellsOk (State.movechunk s n w v chunk).hk := by
  unfold State.movechunk
  dsimp only
  (repeat' split) <;> simp [hm]
@[simp] theorem State.tileAgain_cells (s :State) (eng : Nat) (tier : Nat) (hm : cellsOk s.hk) :
    cellsOk (State.tileAgain s eng tier).hk := by
  unfold State.tileAgain
  dsimp only
  (repeat' split) <;> simp [hm]
@[simp] theorem tierProgramStart_cells (eng :Nat) (tier : Nat) (s : State) (hm : cellsOk s.hk) :
    cellsOk (tierProgramStart eng tier s).hk := by simp [tierProgramStart, hm]
@[simp] theorem tierProgramDone_cells (eng :Nat) (tier : Nat) (bad : List Nat) (badSpares : List Nat) (cells : List CellRead) (energy : Nat) (s : State) (hm : cellsOk s.hk) :
    cellsOk (tierProgramDone eng tier bad badSpares cells energy s).hk := by
  unfold tierProgramDone
  dsimp only
  (repeat' split) <;> simp [hm]
@[simp] theorem State.twoWay_cells (s :State) (eng : Nat) (tier : Nat) (n : Nat) (w : Which) (t : Tile) (cells : List CellRead) (hm : cellsOk s.hk) :
    cellsOk (State.twoWay s eng tier n w t cells).hk := by simp [State.twoWay, hm]
@[simp] theorem scrubReadback_cells (eng :Nat) (tier : Nat) (cells : List CellRead) (s : State) (hm : cellsOk s.hk) :
    cellsOk (scrubReadback eng tier cells s).hk := by
  unfold scrubReadback
  (repeat' split) <;> simp [hm]
@[simp] theorem digitalCheck_cells (n :Nat) (index : Nat) (flips : List (Nat × Byte)) (s : State) (hm : cellsOk s.hk) :
    cellsOk (digitalCheck n index flips s).hk := by
  unfold digitalCheck
  (repeat' split) <;> simp [hm]
@[simp] theorem State.refuseLoad_cells (s :State) (n : Nat) (code : Nat) (hm : cellsOk s.hk) :
    cellsOk (State.refuseLoad s n code).hk := by simp [State.refuseLoad, hm]
@[simp] theorem State.slotLoad_cells (s :State) (n : Nat) (hm : cellsOk s.hk) :
    cellsOk (State.slotLoad s n).hk := by
  unfold State.slotLoad
  dsimp only
  (repeat' split) <;> simp [hm]
@[simp] theorem State.slotAbort_cells (s :State) (n : Nat) (hm : cellsOk s.hk) :
    cellsOk (State.slotAbort s n).hk := by simp [State.slotAbort, hm]
@[simp] theorem State.slotCmd_cells (s :State) (n : Nat) (cmd : Nat) (hm : cellsOk s.hk) :
    cellsOk (State.slotCmd s n cmd).hk := by
  unfold State.slotCmd
  (repeat' split) <;> simp [hm]
@[simp] theorem State.drainStep_cells (s :State) (n : Nat) (hm : cellsOk s.hk) :
    cellsOk (State.drainStep s n).hk := by
  unfold State.drainStep
  dsimp only
  (repeat' split) <;> try simp [hm]
  rw [hk_foldl _ (fun x a => by split <;> simp)]
  simp [hm]
@[simp] theorem State.slotPre_cells (s :State) (n : Nat) (hm : cellsOk s.hk) :
    cellsOk (State.slotPre s n).hk := by simp [State.slotPre, hm]
@[simp] theorem State.replaceRetired_cells (s :State) (n : Nat) (w : Which) (hm : cellsOk s.hk) :
    cellsOk (State.replaceRetired s n w).hk := by
  unfold State.replaceRetired
  split
  · exact hm
  · refine cellsOk_foldl _ (fun x a hx => ?_) _ _ hm
    (repeat' split) <;> simp [hx]
@[simp] theorem State.slotPost_cells (s :State) (n : Nat) (hm : cellsOk s.hk) :
    cellsOk (State.slotPost s n).hk := by
  unfold State.slotPost
  split
  · simp [hm]
  · refine State.issueSlot_cells _ _ (State.replaceRetired_cells _ _ _ (State.replaceRetired_cells _ _ _ (State.replaceRetired_cells _ _ _ ?_)))
    simp [hm]
@[simp] theorem State.slotsPre_cells (s :State) (hm : cellsOk s.hk) :
    cellsOk (State.slotsPre s).hk := by
  unfold State.slotsPre
  exact cellsOk_foldl _ (fun x a hx => by simp [hx]) _ _ hm
@[simp] theorem State.slotsPost_cells (s :State) (hm : cellsOk s.hk) :
    cellsOk (State.slotsPost s).hk := by
  unfold State.slotsPost
  exact cellsOk_foldl _ (fun x a hx => by simp [hx]) _ _ hm
@[simp] theorem State.ctrlFaulted_cells (s :State) (u : UnitId) (hm : cellsOk s.hk) :
    cellsOk (State.ctrlFaulted s u).hk := by
  unfold State.ctrlFaulted
  dsimp only
  split
  · simp [hm]
  · exact cellsOk_foldl _ (fun x a hx => by simp [hx]) _ _ (by simp [hm])
@[simp] theorem ctrlReset_cells (u :UnitId) (ward : Bool) (s : State) (hm : cellsOk s.hk) :
    cellsOk (ctrlReset u ward s).hk := by simp [ctrlReset, hm]
@[simp] theorem submitTail_cells (fn :Nat) (tail : Nat) (host : List HostCell) (s : State) (hm : cellsOk s.hk) :
    cellsOk (submitTail fn tail host s).hk := by simp [submitTail, hm]
@[simp] theorem State.endIf_cells (s :State) (i : Nat) (cause : Nat) (p : Bool) (hm : cellsOk s.hk) :
    cellsOk (State.endIf s i cause p).hk := by simp [State.endIf, hm]
@[simp] theorem State.deliver_cells (s :State) (i : Nat) (late : Bool) (a3 : Nat) (a4 : List OutTok) (hm : cellsOk s.hk) :
    cellsOk (State.deliver s i late a3 a4).hk := by
  induction a4 generalizing s a3 with
  | nil => exact hm
  | cons x r ih =>
    unfold State.deliver
    exact ih _ _ (by simp [hm])
@[simp] theorem State.stepTokens_cells (s :State) (i : Nat) (n : Nat) (l : Nat) (toks : List (Nat × Nat × Bool)) (hm : cellsOk s.hk) :
    cellsOk (State.stepTokens s i n l toks).hk := by
  unfold State.stepTokens
  dsimp only
  (repeat' split) <;> simp [hm]
@[simp] theorem State.handSample_cells (s :State) (i : Nat) (n : Nat) (tok : Nat × Nat) (hm : cellsOk s.hk) :
    cellsOk (State.handSample s i n tok).hk := by simp [State.handSample, hm]
@[simp] theorem tokenSample_cells (i :Nat) (logits : List (List F32)) (drafts : List (Nat × List F32)) (s : State) (hm : cellsOk s.hk) :
    cellsOk (tokenSample i logits drafts s).hk := by
  unfold tokenSample
  dsimp only
  (repeat' split) <;> simp [hm]
@[simp] theorem State.item3_cells (s :State) (i : Nat) (hm : cellsOk s.hk) :
    cellsOk (State.item3 s i).hk := by
  unfold State.item3
  dsimp only
  (repeat' split) <;> simp [hm]
@[simp] theorem State.items3_cells (s :State) (frees : Option Nat) (hm : cellsOk s.hk) :
    cellsOk (State.items3 s frees).hk := by
  simp [State.items3, cellsOk_foldl State.item3 (fun x a hx => by simp [hx]) _ _ hm]
@[simp] theorem State.refuse_cells (s :State) (kw : Nat) (d : Bytes) (head : Nat) (why : Nat) (hm : cellsOk s.hk) :
    cellsOk (State.refuse s kw d head why).hk := by simp [State.refuse, hm]
@[simp] theorem State.takeOne_cells (s :State) (fn : Nat) (i : Nat) (hm : cellsOk s.hk) :
    cellsOk (State.takeOne s fn i).hk := by simp [State.takeOne, hm]
@[simp] theorem State.takeRing_cells (s :State) (fn : Nat) (a2 : Nat) (hm : cellsOk s.hk) :
    cellsOk (State.takeRing s fn a2).hk := by
  induction a2 generalizing s with
  | zero => exact hm
  | succ n ih =>
    rw [State.takeRing]
    split
    · exact hm
    · cases s.freeIndex with
      | none => exact hm
      | some i => exact ih _ (by simp [hm])
@[simp] theorem State.takeAll_cells (s :State) (hm : cellsOk s.hk) :
    cellsOk (State.takeAll s).hk := by
  unfold State.takeAll
  exact cellsOk_foldl _ (fun x a hx => by simp [hx]) _ _ hm
@[simp] theorem State.announce_cells (s :State) (i : Nat) (hm : cellsOk s.hk) :
    cellsOk (State.announce s i).hk := by simp [State.announce, hm]
@[simp] theorem State.admitToks_cells (s :State) (i : Nat) (v : Version) (map : Bytes) (draft : Option (Version × Bytes)) (toks : List Nat) (hm : cellsOk s.hk) :
    cellsOk (State.admitToks s i v map draft toks).1.hk := by
  have hwalk : ∀ (b : Prop) [Decidable b] (x : State) (c d e f g h), (if b then x.treeWalk c d e f g h else (x, [])).1.hk = x.hk := by
    intro b _ x c d e f g h
    split <;> simp
  unfold State.admitToks
  dsimp only
  split
  · simp [hwalk, hm]
  next hroot =>
    have ht := State.firstRoot_hk _ _ _ _ _ _ hroot
    simp only [hk_ite, State.evictFor_hk, hwalk, State.drawn_hk, ite_self] at ht
    simp [ht, hm]
@[simp] theorem State.admitNew_cells (s :State) (i : Nat) (v : Version) (map : Bytes) (draft : Option (Version × Bytes)) (hm : cellsOk s.hk) :
    cellsOk (State.admitNew s i v map draft).1.hk := by
  unfold State.admitNew
  have hread : cellsOk (s.readPrompt (s.req i)).1.hk := by simp [hm]
  dsimp only
  split
  next he => rw [he] at hread; simp [hread]
  next he =>
    rw [he] at hread
    have hadm := State.admitToks_cells _ i v map draft ‹_› hread
    split
    next ha => rw [ha] at hadm; simp [hadm]
    next => exact hadm
@[simp] theorem State.admitTrain_cells (s :State) (i : Nat) (h : HandIn) (hm : cellsOk s.hk) :
    cellsOk (State.admitTrain s i h).hk := by simp [State.admitTrain, hm]
@[simp] theorem State.admitOne_cells (s :State) (i : Nat) (hm : cellsOk s.hk) :
    cellsOk (State.admitOne s i).1.hk := by
  unfold State.admitOne
  dsimp only
  (repeat' split) <;> simp [hm]
@[simp] theorem State.admitList_cells (s :State) (a1 : List Nat) (a2 : Nat) (hm : cellsOk s.hk) :
    cellsOk (State.admitList s a1 a2).hk := by
  fun_induction State.admitList s a1 a2 with
  | case1 => exact hm
  | case2 => exact hm
  | case3 s i r n t h ih => exact ih (by have := State.admitOne_cells s i hm; rwa [h] at this)
  | case4 s i r n t h ih => exact ih (by have := State.admitOne_cells s i hm; rwa [h] at this)
@[simp] theorem State.admitUpTo_cells (s :State) (haspIn : List Nat) (n : Nat) (hm : cellsOk s.hk) :
    cellsOk (State.admitUpTo s haspIn n).hk := by simp [State.admitUpTo, hm]
@[simp] theorem State.items4_cells (s :State) (admits : Option Nat) (hm : cellsOk s.hk) :
    cellsOk (State.items4 s admits).hk := by simp [State.items4, hm]
@[simp] theorem haspWork_cells (hc :Nat) (s : State) (hm : cellsOk s.hk) :
    cellsOk (haspWork hc s).hk := by simp [haspWork, hm]
@[simp] theorem cplWrite_cells (fn :Nat) (s : State) (hm : cellsOk s.hk) :
    cellsOk (cplWrite fn s).hk := by
  unfold cplWrite
  dsimp only
  (repeat' split) <;> simp [hm]
@[simp] theorem State.removalStep4_cells (s :State) (n : Nat) (hm : cellsOk s.hk) :
    cellsOk (State.removalStep4 s n).hk := by simp [State.removalStep4, hm]
@[simp] theorem State.removalItem3_cells (s :State) (n : Nat) (hm : cellsOk s.hk) :
    cellsOk (State.removalItem3 s n).hk := by
  unfold State.removalItem3
  (repeat' split) <;> simp [hm]
@[simp] theorem State.endNow_cells (s :State) (i : Nat) (hm : cellsOk s.hk) :
    cellsOk (State.endNow s i).hk := by simp [State.endNow, hm]
@[simp] theorem State.removeAtOnce_cells (s :State) (n : Nat) (hm : cellsOk s.hk) :
    cellsOk (State.removeAtOnce s n).hk := by
  have hend : ∀ l : List Nat, cellsOk (l.foldl State.endNow s).hk := fun l => cellsOk_foldl _ (fun x a hx => by simp [hx]) _ _ hm
  simp [State.removeAtOnce, hm, hend]
@[simp] theorem State.kwForce_cells (s :State) (n : Nat) (hm : cellsOk s.hk) :
    cellsOk (State.kwForce s n).hk := by simp [State.kwForce, hm]
@[simp] theorem State.removalSeek_cells (s :State) (n : Nat) (hm : cellsOk s.hk) :
    cellsOk (State.removalSeek s n).hk := by
  unfold State.removalSeek
  (repeat' split) <;> simp [hm]
@[simp] theorem State.fillKw_cells (s : State) (kw : Nat) (addr : Nat) (b : Bytes) (hm : cellsOk s.hk) :
    ∀ t, State.fillKw s kw addr b = some t → cellsOk t.hk := by
  intro t ht
  unfold State.fillKw at ht
  extract_lets new u at ht
  split at ht
  · cases ht
  · cases ht
    have hu : cellsOk u.hk := by simpa [u] using hm
    refine ⟨hu.1, fun p hp => ?_⟩
    rcases mem_mapSet hp with rfl | hp
    · exact memWrite_wf _ _ _ (kwCells_wf hu kw)
    · exact hu.2 p hp
@[simp] theorem State.adapterLoad_cells (s :State) (kw : Nat) (req : Bytes) (buf : Option Bytes) (hm : cellsOk s.hk) :
    cellsOk (State.adapterLoad s kw req buf).1.hk := by
  have hput : ∀ (x : State) (b : Bytes), cellsOk x.hk → cellsOk (if (!adapterShardOk b) = true then (x, false) else
      match x.fillKw kw (leAt req 24 8) (b.drop 128) with
      | none => (x, false)
      | some x => (x.noteAdapters kw ((x.adapterEntries kw).filter (fun d => leAt d 0 2 == leAt req 0 2)), true)).1.hk := by
    intro x b hx
    (repeat' split) <;> first
      | exact hx
      | exact (State.noteAdapters_hk _ _ _).symm ▸ State.fillKw_cells _ _ _ _ hx _ ‹_›
  have hread : cellsOk (s.emit (.dma kw false (leAt req 8 8) (leAt req 16 4))).hk := by simp [hm]
  unfold State.adapterLoad
  dsimp only
  split
  · exact hm
  split
  · exact hread
  split
  · exact hread
  split
  · exact hput _ _ hread
  split
  · simp [hm]
  · exact hput _ _ hread
@[simp] theorem State.handFail_cells (s :State) (i : Nat) (status : Nat) (hm : cellsOk s.hk) :
    cellsOk (State.handFail s i status).hk := by simp [State.handFail, hm]
@[simp] theorem State.trainFail_cells (s :State) (f : Flow) (status : Nat) (hm : cellsOk s.hk) :
    cellsOk (State.trainFail s f status).hk := by
  unfold State.trainFail
  (repeat' split) <;> simp [hm]
@[simp] theorem State.shardMissing_cells (s :State) (slot : Nat) (index : Nat) (hm : cellsOk s.hk) :
    cellsOk (State.shardMissing s slot index).hk := by
  unfold State.shardMissing
  (repeat' split) <;> simp [hm]
@[simp] theorem State.flowLost_cells (s :State) (f : Flow) (hm : cellsOk s.hk) :
    cellsOk (State.flowLost s f).hk := by
  unfold State.flowLost
  (repeat' split) <;> simp [hm]
@[simp] theorem State.reroute_cells (s :State) (f : Flow) (hm : cellsOk s.hk) :
    cellsOk (State.reroute s f).hk := by
  unfold State.reroute
  dsimp only
  (repeat' split) <;> simp [hm]
@[simp] theorem State.rerouteDead_cells (s :State) (hm : cellsOk s.hk) :
    cellsOk (State.rerouteDead s).hk := by
  unfold State.rerouteDead
  exact cellsOk_foldl _ (fun x a hx => by simp [hx]) _ _ hm
@[simp] theorem identArrived_cells (p :Nat) (f : HFrame) (trip : Nat) (s : State) (hm : cellsOk s.hk) :
    cellsOk (identArrived p f trip s).hk := by
  unfold identArrived
  (repeat' split) <;> simp [hm]
@[simp] theorem linkDown_cells (p :Nat) (s : State) (hm : cellsOk s.hk) :
    cellsOk (linkDown p s).hk := by simp [linkDown, hm]
@[simp] theorem frameReplay_cells (p :Nat) (again : Bool) (s : State) (hm : cellsOk s.hk) :
    cellsOk (frameReplay p again s).hk := by simp [frameReplay, hm]
@[simp] theorem State.portOff_cells (s :State) (p : Nat) (hm : cellsOk s.hk) :
    cellsOk (State.portOff s p).hk := by simp [State.portOff, hm]
@[simp] theorem echoMissing_cells (p :Nat) (s : State) (hm : cellsOk s.hk) :
    cellsOk (echoMissing p s).hk := by simp [echoMissing, hm]
@[simp] theorem reachArrived_cells (p :Nat) (f : HFrame) (s : State) (hm : cellsOk s.hk) :
    cellsOk (reachArrived p f s).hk := by
  unfold reachArrived
  (repeat' split) <;> simp [hm]
@[simp] theorem openLimitPassed_cells (f :Func) (s : State) (hm : cellsOk s.hk) :
    cellsOk (openLimitPassed f s).hk := by
  unfold openLimitPassed
  (repeat' split) <;> simp [hm]
@[simp] theorem closeComplete_cells (f :Func) (s : State) (hm : cellsOk s.hk) :
    cellsOk (closeComplete f s).hk := by
  unfold closeComplete
  (repeat' split) <;> simp [hm]
@[simp] theorem closeLimitPassed_cells (f :Func) (s : State) (hm : cellsOk s.hk) :
    cellsOk (closeLimitPassed f s).hk := by
  unfold closeLimitPassed
  (repeat' split) <;> simp [hm]
@[simp] theorem State.exportCper_cells (s :State) (r : EvRecord) (hm : cellsOk s.hk) :
    cellsOk (State.exportCper s r).hk := by simp [State.exportCper, hm]
@[simp] theorem State.writeEvent_cells (s :State) (e : Event) (hm : cellsOk s.hk) :
    cellsOk (State.writeEvent s e).hk := by simp [State.writeEvent, hm]
@[simp] theorem recordWrite_cells (s :State) (hm : cellsOk s.hk) :
    cellsOk (recordWrite s).hk := by
  unfold recordWrite
  (repeat' split) <;> simp [hm]
@[simp] theorem State.writeQueue_cells (s :State) (a1 : Nat) (hm : cellsOk s.hk) :
    cellsOk (State.writeQueue s a1).hk := by
  induction a1 generalizing s with
  | zero => exact hm
  | succ n ih => exact ih _ (by simp [hm])
@[simp] theorem State.memoryBist_cells (s :State) (l : List BistFail) (ms : Nat) (hm : cellsOk s.hk) :
    cellsOk (State.memoryBist s l ms).hk := by simp [State.memoryBist, hm]
@[simp] theorem State.dark_cells (s :State) (hm : cellsOk s.hk) :
    cellsOk (State.dark s).hk := by simp [State.dark, hm]
@[simp] theorem State.tripNow_cells (s :State) (hm : cellsOk s.hk) :
    cellsOk (State.tripNow s).hk := by simp [State.tripNow, hm]
@[simp] theorem thermTrip_cells (src :Nat) (s : State) (hm : cellsOk s.hk) :
    cellsOk (thermTrip src s).hk := by simp [thermTrip, hm]
@[simp] theorem State.loadSlot_cells (s :State) (n : Nat) (hm : cellsOk s.hk) :
    cellsOk (State.loadSlot s n).hk := by
  unfold State.loadSlot
  dsimp only
  (repeat' split) <;> simp [hm]
@[simp] theorem State.firmwareRuns_cells (s :State) (hm : cellsOk s.hk) :
    cellsOk (State.firmwareRuns s).hk := by
  have hload : ∀ l : List Nat, cellsOk (l.foldl State.loadSlot s.loadAllTrims).hk := fun l =>
    cellsOk_foldl _ (fun x a hx => by simp [hx]) _ _ (by simp [hm])
  simp [State.firmwareRuns, hload]
@[simp] theorem State.stopAll_cells (s :State) (cause : Nat) (hm : cellsOk s.hk) :
    cellsOk (State.stopAll s cause).hk := by
  unfold State.stopAll
  exact cellsOk_foldl _ (fun x a hx => by simp [hx]) _ _ hm
@[simp] theorem State.saveAll_cells (s :State) (hm : cellsOk s.hk) :
    cellsOk (State.saveAll s).hk := by simp [State.saveAll, hm]
@[simp] theorem State.eraseAll_cells (s :State) (hm : cellsOk s.hk) :
    cellsOk (State.eraseAll s).hk := by
  unfold State.eraseAll
  dsimp only
  rw [hk_mk]
  refine cellsOk_kwNil ?_
  rw [hk_foldl _ (fun x a => by simp), hk_foldl _ (fun x a => by simp)]
  exact cellsOk_foldl _ (fun x a hx => by simp [hx]) _ _ hm
@[simp] theorem State.handSend_cells (s :State) (i : Nat) (hm : cellsOk s.hk) :
    cellsOk (State.handSend s i).hk := by
  unfold State.handSend
  dsimp only
  (repeat' split) <;> try simp [hm]
  next he => simp [State.startTrain_hk' he, hm]
  next he => simp [State.startTrain_hk' he, hm]
@[simp] theorem State.handSends_cells (s :State) (hm : cellsOk s.hk) :
    cellsOk (State.handSends s).hk := by
  unfold State.handSends
  exact cellsOk_foldl _ (fun x a hx => by simp [hx]) _ _ hm
@[simp] theorem State.handDone_cells (s :State) (i : Nat) (hm : cellsOk s.hk) :
    cellsOk (State.handDone s i).hk := by
  unfold State.handDone
  dsimp only
  (repeat' split) <;> simp [hm]
@[simp] theorem State.trainDone_cells (s :State) (f : Flow) (hm : cellsOk s.hk) :
    cellsOk (State.trainDone s f).hk := by
  unfold State.trainDone
  (repeat' split) <;> simp [hm]
@[simp] theorem State.trainAgain_cells (s :State) (f : Flow) (hm : cellsOk s.hk) :
    cellsOk (State.trainAgain s f).hk := by
  unfold State.trainAgain
  split
  · simp [hm]
  · split
    next he => simp [State.startTrain_hk' he, hm]
    next he =>
      dsimp only
      split <;> simp [State.startTrain_hk' he, hm]
@[simp] theorem trainAck_cells (f :HFrame) (s : State) (hm : cellsOk s.hk) :
    cellsOk (trainAck f s).hk := by
  unfold trainAck
  (repeat' split) <;> simp [hm]
@[simp] theorem trainTimeout_cells (num :Nat) (s : State) (hm : cellsOk s.hk) :
    cellsOk (trainTimeout num s).hk := by
  unfold trainTimeout
  (repeat' split) <;> simp [hm]
@[simp] theorem shardDataIn_cells (f :HFrame) (s : State) (hm : cellsOk s.hk) :
    cellsOk (shardDataIn f s).hk := by
  unfold shardDataIn
  dsimp only
  (repeat' split) <;> simp [hm]
@[simp] theorem State.partnerLost_cells (s :State) (a : Nat) (hm : cellsOk s.hk) :
    cellsOk (State.partnerLost s a).hk := by
  have hlost : ∀ (l : List Flow) (x : State), x.hk = s.hk → cellsOk (l.foldl State.flowLost x).hk := fun l x hx =>
    cellsOk_foldl _ (fun x a hx => by simp [hx]) _ _ (hx ▸ hm)
  unfold State.partnerLost
  refine State.rerouteDead_cells _ ?_
  simp [hlost]
@[simp] theorem lossDecision_cells (m :Nat) (s : State) (hm : cellsOk s.hk) :
    cellsOk (lossDecision m s).hk := by
  unfold lossDecision
  dsimp only
  (repeat' split) <;> simp [hm]
@[simp] theorem State.slotFrom_cells (s :State) (a1 : StandbyRec) (hm : cellsOk s.hk) :
    cellsOk (State.slotFrom s a1).hk := by
  unfold State.slotFrom
  (repeat' split) <;> simp [hm]
@[simp] theorem State.recInstall_cells (s :State) (a1 : StandbyRec) (hm : cellsOk s.hk) :
    cellsOk (State.recInstall s a1).hk := by
  unfold State.recInstall
  split
  · simp [hm]
  · dsimp only
    rw [State.note_hk]
    refine cellsOk_foldl _ (fun x a hx => ?_) _ _ (by simp [hm])
    cases h : x.fillKw _ a.1 a.2 with
    | none => exact hx
    | some t => exact State.fillKw_cells _ _ _ _ hx _ h
  · exact hm
@[simp] theorem State.adoptBoundary_cells (s :State) (hm : cellsOk s.hk) :
    cellsOk (State.adoptBoundary s).hk := by
  have hslot : ∀ (l : List StandbyRec) (x : State), cellsOk x.hk → cellsOk (l.foldl State.slotFrom x).hk := fun l x hx =>
    cellsOk_foldl _ (fun x a hx => by simp [hx]) _ _ hx
  have hrec : ∀ (l : List StandbyRec) (x : State), cellsOk x.hk → cellsOk (l.foldl State.recInstall x).hk := fun l x hx =>
    cellsOk_foldl _ (fun x a hx => by simp [hx]) _ _ hx
  unfold State.adoptBoundary
  dsimp only
  (repeat' split) <;> simp [hslot, hrec, hm]
@[simp] theorem State.replayEnd_cells (s :State) (x : Replay) (n : Nat) (hm : cellsOk s.hk) :
    cellsOk (State.replayEnd s x n).hk := by simp [State.replayEnd, hm]
@[simp] theorem State.replayOne_cells (s :State) (x : Replay) (hm : cellsOk s.hk) :
    cellsOk (State.replayOne s x).1.hk := by
  have hread : cellsOk (s.dmaRead x.kw (leAt x.desc 24 8) (16 * 2 ^ leAt x.desc 32 1)).1.hk := by simp [hm]
  have hgo : ∀ (u : State), cellsOk u.hk → ∀ i r v map d toks, cellsOk (match (u.putReq i r).admitToks i v map d toks with
      | (s', true) => ((s'.inc .REPLAYS_DONE).note x.kw (.request i x.kw x.desc x.prompt x.version x.deadline), true)
      | (_, false) => (u, false)).1.hk := by
    intro u hu i r v map d toks
    have hadm := State.admitToks_cells (u.putReq i r) i v map d toks (by simp [hu])
    split
    next he => rw [he] at hadm; simp [hadm]
    next => exact hu
  unfold State.replayOne
  dsimp only
  split
  · exact hm
  split
  · exact hread
  split
  · exact State.replayEnd_cells _ _ _ hread
  split
  · split
    next he =>
      have hnew := congrArg (fun p => cellsOk p.1.hk) he
      dsimp only at hnew
      have := hnew ▸ hgo _ hread _ _ _ _ _ _
      split <;> simp [this]
    next => exact hgo _ hread _ _ _ _ _ _
  · exact hread
@[simp] theorem State.replayList_cells (s :State) (a1 : List Replay) (a2 : Nat) (hm : cellsOk s.hk) :
    cellsOk (State.replayList s a1 a2).1.hk := by
  fun_induction State.replayList s a1 a2 with
  | case1 => exact hm
  | case2 => exact hm
  | case3 s x r n t h ih => exact ih (by have := State.replayOne_cells s x hm; rwa [h] at this)
  | case4 s x r n t h u l hl ih =>
    rw [hl] at ih
    exact ih (by have := State.replayOne_cells s x hm; rwa [h] at this)
@[simp] theorem State.replayBoundary_cells (s :State) (hm : cellsOk s.hk) :
    cellsOk (State.replayBoundary s).hk := by simp [State.replayBoundary, hm]
@[simp] theorem State.applyEffect_cells (s :State) (k : OKey) (v : OVal) (hm : cellsOk s.hk) :
    cellsOk (State.applyEffect s k v).hk := by
  unfold State.applyEffect
  (repeat' split) <;> simp [hm]
@[simp] theorem State.applyWrite_cells (s :State) (x : OKey × OVal) (hm : cellsOk s.hk) :
    cellsOk (State.applyWrite s x).hk := by simp [State.applyWrite, hm]
@[simp] theorem State.applyWaiting_cells (s :State) (hm : cellsOk s.hk) :
    cellsOk (State.applyWaiting s).hk := by
  simp [State.applyWaiting, cellsOk_foldl State.applyWrite (fun x a hx => by simp [hx]), hm]
@[simp] theorem State.applyNumber_cells (s :State) (hm : cellsOk s.hk) :
    cellsOk (State.applyNumber s).hk := by
  unfold State.applyNumber
  (repeat' split) <;> simp [hm]
@[simp] theorem State.endBeat_cells (s :State) (hm : cellsOk s.hk) :
    cellsOk (State.endBeat s).hk := by simp [State.endBeat, hm]
@[simp] theorem State.notchZero_cells (s :State) (hm : cellsOk s.hk) :
    cellsOk (State.notchZero s).hk := by
  have hpre : ∀ (l : List Nat) (x : State), cellsOk x.hk → cellsOk (l.foldl State.removalPre x).hk := fun l x hx =>
    cellsOk_foldl _ (fun x a hx => by simp [hx]) _ _ hx
  unfold State.notchZero
  refine State.slotsPre_cells _ ?_
  rw [State.openSlots_hk]
  refine State.adoptBoundary_cells _ ?_
  simp only [State.confirmTick_hk, State.echoTicks_hk, State.applyMap_hk, State.keysBoundary_hk]
  exact hpre _ _ (by simp [hm])
@[simp] theorem State.itemThree_cells (s :State) (frees : Option Nat) (hm : cellsOk s.hk) :
    cellsOk (State.itemThree s frees).hk := by
  simp [State.itemThree, cellsOk_foldl State.removalItem3 (fun x a hx => by simp [hx]), hm]
@[simp] theorem State.itemFour_cells (s :State) (admits : Option Nat) (hm : cellsOk s.hk) :
    cellsOk (State.itemFour s admits).hk := by simp [State.itemFour, hm]
@[simp] theorem State.acceptNow_cells (s :State) (c : Ctx) (k : OKey) (v : OVal) (buf : Option Bytes) (hm : cellsOk s.hk) :
    cellsOk (State.acceptNow s c k v buf).1.hk := by
  unfold State.acceptNow
  dsimp only
  (repeat' split) <;> simp [hm]
@[simp] theorem State.acceptAs_cells (s :State) (c : Ctx) (k0 : OKey) (r : OVal × List Clamp) (buf : Option Bytes) (hm : cellsOk s.hk) :
    cellsOk (State.acceptAs s c k0 r buf).1.hk := by
  unfold State.acceptAs
  dsimp only
  (repeat' split) <;> simp [hm]
@[simp] theorem State.accept_cells (s :State) (c : Ctx) (k : OKey) (v : OVal) (buf : Option Bytes) (hm : cellsOk s.hk) :
    cellsOk (State.accept s c k v buf).1.hk := by simp [State.accept, hm]
@[simp] theorem State.doWrite_cells (s :State) (q : GReq) (c : Ctx) (hm : cellsOk s.hk) :
    cellsOk (State.doWrite s q c).1.hk := by
  unfold State.doWrite
  (repeat' split) <;> simp [hm]
@[simp] theorem State.doWriteBlock_cells (s :State) (q : GReq) (c : Ctx) (hm : cellsOk s.hk) :
    cellsOk (State.doWriteBlock s q c).1.hk := by
  unfold State.doWriteBlock
  dsimp only
  (repeat' split) <;> simp [hm]
@[simp] theorem State.restoreOne_cells (s :State) (c : Ctx) (k : OKey) (hm : cellsOk s.hk) :
    cellsOk (State.restoreOne s c k).1.hk := by
  unfold State.restoreOne
  (repeat' split) <;> simp [hm]
@[simp] theorem State.doRestore_cells (s :State) (q : GReq) (c : Ctx) (hm : cellsOk s.hk) :
    cellsOk (State.doRestore s q c).1.hk := by
  unfold State.doRestore
  split
  · simp [hm]
  · exact cellsOk_foldl _ (fun x a hx => by simp [hx]) _ _ hm
@[simp] theorem State.operate_cells (s :State) (q : GReq) (c : Ctx) (hm : cellsOk s.hk) :
    cellsOk (State.operate s q c).1.hk := by
  unfold State.operate
  (repeat' split) <;> simp [hm]
@[simp] theorem State.inSession_cells (s :State) (q : GReq) (x : Session) (hm : cellsOk s.hk) :
    cellsOk (State.inSession s q x).1.hk := by
  unfold State.inSession
  dsimp only
  (repeat' split) <;> simp [hm]
@[simp] theorem State.afterLoss_cells (s :State) (warm : Bool) (cause : Nat) (hm : cellsOk s.hk) :
    cellsOk (State.afterLoss s warm cause).hk := by simp [State.afterLoss, hm]
@[simp] theorem porFall_cells (s :State) (hm : cellsOk s.hk) :
    cellsOk (porFall s).hk := by simp [porFall, hm]
@[simp] theorem State.warmRestart_cells (s :State) (cause : Nat) (hm : cellsOk s.hk) :
    cellsOk (State.warmRestart s cause).hk := by simp [State.warmRestart, hm]
@[simp] theorem State.downEnd_cells (s :State) (hm : cellsOk s.hk) :
    cellsOk (State.downEnd s).hk := by simp [State.downEnd, hm]
@[simp] theorem State.downOn_cells (s :State) (steps : List Nat) (hm : cellsOk s.hk) :
    cellsOk (State.downOn s steps).hk := by
  unfold State.downOn
  (repeat' split) <;> simp [hm]
@[simp] theorem State.powerDown_cells (s :State) (steps : List Nat) (stopping : Nat) (hm : cellsOk s.hk) :
    cellsOk (State.powerDown s steps stopping).hk := by simp [State.powerDown, hm]
@[simp] theorem State.enterLimited_cells (s :State) (bit : Nat) (hm : cellsOk s.hk) :
    cellsOk (State.enterLimited s bit).hk := by simp [State.enterLimited, hm]
@[simp] theorem State.railLoss_cells (s :State) (k : Nat) (hm : cellsOk s.hk) :
    cellsOk (State.railLoss s k).hk := by simp [State.railLoss, hm]
@[simp] theorem State.railFault_cells (s :State) (k : Nat) (kind : Nat) (hm : cellsOk s.hk) :
    cellsOk (State.railFault s k kind).hk := by simp [State.railFault, hm]
@[simp] theorem startTimeout_cells (k :Nat) (s : State) (hm : cellsOk s.hk) :
    cellsOk (startTimeout k s).hk := by simp [startTimeout, hm]
@[simp] theorem State.request_cells (s :State) (q : GReq) (hm : cellsOk s.hk) :
    cellsOk (State.request s q).1.hk := by
  unfold State.request
  (repeat' split) <;> simp [hm]
@[simp] theorem State.serveRemote_cells (s :State) (p : GdpPath) (cause : Nat) (q : GReq) (hm : cellsOk s.hk) :
    cellsOk (State.serveRemote s p cause q).hk := by
  unfold State.serveRemote
  dsimp only
  (repeat' split) <;> simp [hm]
@[simp] theorem State.answerBox_cells (s :State) (fn : Nat) (b : Bytes) (cause : Nat) (q : GReq) (hm : cellsOk s.hk) :
    cellsOk (State.answerBox s fn b cause q).hk := by
  unfold State.answerBox
  dsimp only
  (repeat' split) <;> simp [hm]
@[simp] theorem State.serveBox_cells (s :State) (fn : Nat) (irq : Option Nat) (b : Bytes) (cause : Nat) (q : GReq) (hm : cellsOk s.hk) :
    cellsOk (State.serveBox s fn irq b cause q).hk := by
  unfold State.serveBox
  (repeat' split) <;> simp [hm]
@[simp] theorem State.serveHeld_cells (s :State) (fn : Nat) (hm : cellsOk s.hk) :
    cellsOk (State.serveHeld s fn).hk := by simp [State.serveHeld, hm]
@[simp] theorem writeIn_cells (o :Obj) (inst : Nat) (p : GdpPath) (h : ReqHead) (payload : Bytes) (buf : Option Bytes) (s : State) (hm : cellsOk s.hk) :
    cellsOk (writeIn o inst p h payload buf s).hk := by
  unfold writeIn
  (repeat' split) <;> simp [hm]
@[simp] theorem State.devPower_cells (s :State) (hm : cellsOk s.hk) :
    cellsOk (State.devPower s).hk := by
  unfold State.devPower
  dsimp only
  split
  · exact hm
  · exact State.powerDown_cells _ _ _ (State.saveAll_cells _ (by split <;> simp [hm]))
@[simp] theorem gdpIn_cells (op :Nat) (p : GdpPath) (frame : Bytes) (s : State) (hm : cellsOk s.hk) :
    cellsOk (gdpIn op p frame s).hk := by
  unfold gdpIn
  (repeat' split) <;> simp [hm]
@[simp] theorem railFaultOn_cells (k :Nat) (kind : Nat) (s : State) (hm : cellsOk s.hk) :
    cellsOk (railFaultOn k kind s).hk := by simp [railFaultOn, hm]
@[simp] theorem firmwareStart_cells (s :State) (hm : cellsOk s.hk) :
    cellsOk (firmwareStart s).hk := by simp [firmwareStart, hm]
@[simp] theorem State.wdtStopNow_cells (s :State) (hm : cellsOk s.hk) :
    cellsOk (State.wdtStopNow s).hk := by simp [State.wdtStopNow, hm]
@[simp] theorem wdtExpiry_cells (s :State) (hm : cellsOk s.hk) :
    cellsOk (wdtExpiry s).hk := by simp [wdtExpiry, hm]
@[simp] theorem State.selfTest_cells (s :State) (trips : List Nat) (hm : cellsOk s.hk) :
    cellsOk (State.selfTest s trips).hk := by simp [State.selfTest, hm]
@[simp] theorem railStep_cells (trips :List Nat) (fails : List BistFail) (ms : Nat) (s : State) (hm : cellsOk s.hk) :
    cellsOk (railStep trips fails ms s).hk := by
  unfold railStep
  (repeat' split) <;> simp [hm]
@[simp] theorem State.lcBoundary_cells (s :State) (hm : cellsOk s.hk) :
    cellsOk (State.lcBoundary s).hk := by
  unfold State.lcBoundary
  (repeat' split) <;> simp [hm]
@[simp] theorem State.boundaryEnd_cells (s :State) (hm : cellsOk s.hk) :
    cellsOk (State.boundaryEnd s).hk := by
  unfold State.boundaryEnd
  rw [State.flush_hk]
  refine State.wdtStopNow_cells _ (State.devPower_cells _ (State.lcBoundary_cells _ ?_))
  simp [hm]
@[simp] theorem beatBoundary_cells (host :List HostCell) (costs : List StepCost) (quiet : Nat) (work : Nat) (frees admits : Option Nat) (s : State) (hm : cellsOk s.hk) :
    cellsOk (beatBoundary host costs quiet work frees admits s).hk := by
  unfold beatBoundary
  split
  · exact hm
  · refine State.boundaryEnd_cells _ ?_
    rw [State.itemFive_hk]
    refine State.itemFour_cells _ _ (State.itemThree_cells _ _ ?_)
    rw [State.rootSwaps_hk, State.itemOne_hk]
    exact State.notchZero_cells _ (State.endBeat_cells _ (State.hostWrote_cells _ _ hm))
@[simp] theorem downNext_cells (s :State) (hm : cellsOk s.hk) :
    cellsOk (downNext s).hk := by simp [downNext, hm]
@[simp] theorem seekingApply_cells (s :State) (hm : cellsOk s.hk) :
    cellsOk (seekingApply s).hk := by
  unfold seekingApply
  split
  · exact hm
  · dsimp only
    rw [State.flush_hk]
    refine State.wdtStopNow_cells _ (State.devPower_cells _ (State.lcBoundary_cells _ ?_))
    simp only [State.applyMap_hk, State.keysBoundary_hk, State.gateBoundary_hk]
    exact cellsOk_foldl _ (fun x a hx => by simp [hx]) _ _ (by simp [hm])
@[simp] theorem monitorFault_cells (k :Nat) (s : State) (hm : cellsOk s.hk) :
    cellsOk (monitorFault k s).hk := by simp [monitorFault, hm]
@[simp] theorem blockIn_cells (o :Obj) (inst : Nat) (p : GdpPath) (h : ReqHead) (value : Bytes) (s : State) (hm : cellsOk s.hk) :
    cellsOk (blockIn o inst p h value s).hk := by
  unfold blockIn
  (repeat' split) <;> simp [hm]
@[simp] theorem standbyLoss_cells (s :State) (hm : cellsOk s.hk) :
    cellsOk (standbyLoss s).hk := by simp [standbyLoss, hm]
end Sys2Proof.Machine
end

section
/-! Proofs: what every command keeps, and where it completes: the invariants of the block (logs 1, 11, 22, 52; spec/12 R522, R525). -/
namespace Sys2Proof.Machine
open Sys2Proof

/-- What every command keeps: the queue, the clock's direction, the build, a legal life-cycle and canonical memories. -/
structure Keeps (s x : State) : Prop where
  pending : x.pending = s.pending
  now : s.now ≤ x.now
  part : x.part = s.part
  lcOk : s.lcOk = true → x.lcOk = true
  cells : cellsOk s.hk → cellsOk x.hk

/-- A command completes and keeps what every command keeps where the device has what its operands name, and is a fault elsewhere. -/
def ExecTotal (c : Instr) (s : State) : Prop :=
  (s.has c = true → ∃ x, exec c s = .next x ∧ Keeps s x) ∧ (s.has c = false → exec c s = .fault .noSuchUnit)

/-! ### A frame handed on or a flood acted on keeps the memories where the act does -/

theorem State.received_cells (s : State) (p ty : Nat) (f : HFrame) (k : State → HFrame → State) (hm : cellsOk s.hk)
    (hk : ∀ x g, cellsOk x.hk → cellsOk (k x g).hk) : cellsOk (s.received p ty f k).hk := by
  unfold State.received
  dsimp only
  (repeat' split) <;> try simp [hm]
  next he => simp [State.openHere_hk' he, hm]
  next he => exact hk _ _ (by simp [State.openHere_hk' he, hm])

theorem State.floodIn_cells (s : State) (p ty : Nat) (f : HFrame) (k : State → State) (hm : cellsOk s.hk)
    (hk : ∀ x, cellsOk x.hk → cellsOk (k x).hk) : cellsOk (s.floodIn p ty f k).hk := by
  unfold State.floodIn
  dsimp only
  (repeat' split) <;> try simp [hm]
  exact hk _ (by simp [hm])

/-! ### The shapes in which a command's meaning is given -/

/-- The instant of a command moves no life-cycle register. -/
@[simp] theorem lcGood_at (s : State) (t : Nat) :
    lcGood (s.pending, max s.now t, s.part, s.ward.lc, s.ward.lcNext, s.ward.erasing) = lcGood s.key := rfl

section
variable {c : Instr} {s x : State} {t : Nat}

theorem Keeps.of_keyA (hA : keyA x.key = keyA (s.at t).key) (hlc : lcGood s.key = true → lcGood x.key = true)
    (hm : cellsOk s.hk → cellsOk x.hk) : Keeps s x := by
  simp only [keyA, State.key, State.at_pending, State.at_part, State.at_now, Prod.mk.injEq] at hA
  obtain ⟨hp, hn, hpart, -⟩ := hA
  exact ⟨hp, hn ▸ Nat.le_max_left _ _, hpart, hlc, hm⟩

theorem Keeps.of_key (hk : x.key = (s.at t).key) (hm : cellsOk s.hk → cellsOk x.hk) : Keeps s x :=
  .of_keyA (congrArg keyA hk) (fun h => hk ▸ h) hm

theorem Keeps.of_writeIn (o : Obj) (inst : Nat) (p : GdpPath) (h : ReqHead) (b : Bytes) (buf : Option Bytes) (s : State) (t : Nat) :
    Keeps s (writeIn o inst p h b buf (s.at t)) :=
  .of_keyA (t := t) (by simp) (fun hg => by simp [hg]) (fun hm => by simp [hm])

theorem ExecTotal.of_next (hx : exec c s = .next x) (hhas : s.has c = true) (hk : Keeps s x) : ExecTotal c s :=
  ⟨fun _ => ⟨x, hx, hk⟩, fun h => absurd hhas (by simp [h])⟩

theorem ExecTotal.of_fault (hx : exec c s = .fault .noSuchUnit) (hhas : s.has c = false) : ExecTotal c s :=
  ⟨fun h => absurd hhas (by simp [h]), fun _ => hx⟩

theorem ExecTotal.of_ite {p : Prop} [Decidable p] (hx : exec c s = if p then .next x else .fault .noSuchUnit) (hhas : s.has c = true ↔ p)
    (hk : Keeps s x) : ExecTotal c s :=
  ⟨fun h => ⟨x, hx.trans (if_pos (hhas.1 h)), hk⟩, fun h => hx.trans (if_neg (fun hp => by simp [hhas.2 hp] at h))⟩

theorem ExecTotal.of_ite_ite {p q : Prop} [Decidable p] [Decidable q]
    (hx : exec c s = if p then if q then .next x else .fault .noSuchUnit else .fault .noSuchUnit) (hhas : s.has c = true ↔ p ∧ q)
    (hk : Keeps s x) : ExecTotal c s :=
  .of_ite (p := p ∧ q) (hx.trans (by split <;> simp [*])) hhas hk

/-- A command that is a write of one object. -/
theorem ExecTotal.of_write {o : Obj} {inst : Nat} {p : GdpPath} {h : ReqHead} {b : Bytes} {buf : Option Bytes}
    (hx : exec c s = if pathOk p then .next (writeIn o inst p h b buf (s.at t)) else .fault .noSuchUnit) (hhas : s.has c = pathOk p) :
    ExecTotal c s :=
  .of_ite hx (by rw [hhas]) (.of_writeIn ..)

/-- A write of one object of a slot. -/
theorem ExecTotal.of_slotWrite {o : Obj} {n v : Nat} {p : GdpPath} {h : ReqHead} (hx : exec c s = writeSlot t n o p h v s)
    (hhas : s.has c = (decide (n < 16) && pathOk p)) : ExecTotal c s :=
  .of_ite_ite hx (by simp [hhas]) (.of_writeIn ..)

/-- A frame of the dictionary's protocol. -/
theorem ExecTotal.of_frame {op : Nat} {p : GdpPath} {f : Bytes} (hx : exec c s = gdpFrameIn t op p f s) (hhas : s.has c = pathOk p) :
    ExecTotal c s :=
  .of_ite hx (by rw [hhas]) (.of_keyA (t := t) (by simp) (fun hg => by simp [hg]) (fun hm => by simp [hm]))

/-- A command of a unit: one of the device, in its canonical form. -/
theorem ExecTotal.of_unit {v : Nat} {f : Nat → State} (hsome : ∀ u, s.canonUnit v = some u → exec c s = .next (f u))
    (hnone : s.canonUnit v = none → exec c s = .fault .noSuchUnit) (hhas : s.has c = (s.canonUnit v).isSome) (hk : ∀ u, Keeps s (f u)) :
    ExecTotal c s := by
  cases h : s.canonUnit v with
  | none => exact .of_fault (hnone h) (by simp [hhas, h])
  | some u => exact .of_next (hsome u h) (by simp [hhas, h]) (hk u)

/-- A command of a controller. -/
theorem ExecTotal.of_ctrl {v : Nat} {f : Nat → State}
    (hsome : ∀ u, s.canonUnit v = some u → exec c s = if isCtrl u then .next (f u) else .fault .noSuchUnit)
    (hnone : s.canonUnit v = none → exec c s = .fault .noSuchUnit) (hhas : s.has c = (s.canonUnit v).any isCtrl) (hk : ∀ u, Keeps s (f u)) :
    ExecTotal c s := by
  cases h : s.canonUnit v with
  | none => exact .of_fault (hnone h) (by simp [hhas, h])
  | some u => exact .of_ite (hsome u h) (by simp [hhas, h]) (hk u)
end

/-! ### The end of a transition's erasures, which alone moves LC_STATE (spec/12 R525) -/

/-- A warm restart keeps the queue, the clock, the build and LC_STATE, and drops what of the life-cycle was under way. -/
theorem State.warmRestart_key (s : State) (cause : Nat) :
    (s.warmRestart cause).key = ((keyA s.key).1, (keyA s.key).2.1, (keyA s.key).2.2.1, (keyA s.key).2.2.2, none, none) :=
  State.romStart_key _

theorem lcStep_le {a b : Nat} (h : lcStep a b = true) : b ≤ 5 := by
  simp only [lcStep, Bool.or_eq_true, Bool.and_eq_true, beq_iff_eq, decide_eq_true_eq] at h
  omega

theorem lcErased_keeps (s : State) (t : Nat) : Keeps s (lcErased (s.at t)) := by
  unfold lcErased
  split
  · exact .of_keyA (t := t) rfl id id
  next target he =>
    have he : s.ward.erasing = some target := he
    split
    · exact .of_keyA (t := t) rfl id id
    · extract_lets old w₀ w x
      have hkey : ((x.raise 0x1C03 0xFF 0 old target).saveAll.warmRestart 2).key = (s.pending, max s.now t, s.part, target, none, none) := by
        rw [State.warmRestart_key, State.saveAll_key, State.raise_key]
        rfl
      have hcells : cellsOk s.hk → cellsOk ((x.raise 0x1C03 0xFF 0 old target).saveAll.warmRestart 2).hk := fun hm =>
        State.warmRestart_cells _ _ (State.saveAll_cells _ (by simpa [x] using hm))
      simp only [State.key, Prod.mk.injEq] at hkey
      obtain ⟨hp, hn, hpart, hlc, hnext, hera⟩ := hkey
      refine ⟨hp, hn ▸ Nat.le_max_left _ _, hpart, fun hok => ?_, hcells⟩
      simp only [State.lcOk, he, Option.all_some, Bool.and_eq_true] at hok
      simp [State.lcOk, hlc, hnext, hera, lcStep_le hok.2]

/-- Every command, by the shape of its meaning. -/
theorem execTotal (c : Instr) (s : State) : ExecTotal c s := by
  cases c with
  | beatPinEdge t | missedBeat t | beatSelfTimed t | seekingLockTimeout t | transitionBeatTimeout t | runPhaseStart t | quietWindowStart t
  | sessionIdleTimeout t | halfOpenTimeout t | sourceMuteEnd t | blockSequenceTimeout t | maskAnd t | maskOr t | maskXor t | maskAndnot t
  | maskPopcnt t | maskAny t | maskAll t | maskFirst t | reachSend t | trainTimeout t | flowReplyTimeout t | xchk t | syscalCaptureDone t
  | syscalTimeout t | eventRecordWrite t | rateTokenSummary t | evtHeartbeat t | opHourPersist t | wardWdtRestart t | lbistDone t | arrayTestDone t
  | porNRise t | perstAssert t | perstDeassert t | fwCommitDone t =>
    exact .of_next rfl rfl (.of_key (t := t) (by simp) (fun h => by simp [h]))
  | beatBoundary t | seekingWriteApply t | wardWdtExpiry t | porNFall t | firmwareStart t | powerDownStep t | v3p3SbLoss t =>
    exact .of_next rfl rfl (.of_keyA (t := t) (by simp) (fun h => by simp [h]) (fun h => by simp [h]))
  | beatMarker t | stepWorkEnd t | haspHoldExpiry t | haspWorkDelivery t | quadOpenDone t | mbxStatusRead t | funcOpenComplete t | funcOpenLimit t
  | funcCloseComplete t | funcCloseLimit t | funcPowerupStart t | coreSlot t | countWordsReady t | diagReadbackDone t | keeperWorkItem t
  | splitRecomputeDone t | tileAudit t | vrefCompare t | calStageStart t | calRampStageDone t | calCoarseStageDone t | calFineStageDone t
  | calDiscardStandoffEnd t | trimStoreWrite t | senseSelfcalStart t | senseSelfcalDone t | shardPut t | putStatusRead t | ringCons t
  | shardArrival t | shardTimeout t | tierProgramStart t | tierProgramDone t | replaceRetry t | scrubReadback t | scrubOverdue t
  | imageDigestCheck t | digitalDigestCheck t | laneTask t | laneTaskDone t | pageSeal t | nextRootBuild t | ringRound t | ringRoundTimeout t
  | submitTail t | admitTimeout t | tokenSample t | tokenIrqGapEnd t | cancel t | rearm t | specRearmTimeout t | serveStatusRead t
  | ringStallLimitExpiry t | kvWaitLimitExpiry t | handoffTimeout t | linkTrained t | ident t | linkDown t | frameReplay t | fabLaneDegraded t
  | reach t | adopt t | trainHead t | trainPage t | trainEnd t | shardReq t | ringQuery t | ringPartial t | fabEchoMissing t | lossDecision t
  | standby t | latchOp t | latchReply t | latchSignal t | latchSet t | latchRead t | latchWait t | latchWaitTimeout t | latchCplCons t
  | latchCompletionWrite t | latchStatusRead t | flr t | keyDrainExpiry t | zeroingDone t | keyGenerationDestroy t | spdmGetVersion t
  | spdmGetCapabilities t | spdmNegotiateAlgorithms t | spdmGetDigests t | spdmGetCertificate t | spdmChallenge t | ideKm t | configRequest t
  | phaseAdd t | phaseDrop t | avsSlackReport t | packagePowerSample t | senseReading t | memTempReading t | thermTrip t | evtIrqGapEnd t
  | linkTrainingFailed t | spareVerified t =>
    exact .of_ite rfl (by simp [State.has, and_assoc]) (.of_key (t := t) (by simp) (fun h => by simp [h]))
  | attnMap t | railOvervoltage t | railUndervoltage t | railOvercurrent t | imonMonitorFault t | railStepDone t | railStartTimeout t =>
    exact .of_ite rfl (by simp [State.has]) (.of_keyA (t := t) (by simp) (fun h => by simp [h]) (fun h => by simp [h]))
  | quadGateReq t | unitQuery t | engRetireReq t | engQuery t | calRunReq t | adapterLoad t | seqQuery t | reqCancel t | reqRearm t | histQuery t
  | histClear t | reqQuery t | fabricMap t | spareAdopt t | latchQuery t | keyInstall t | keyClose t | mgmtKeyInstall t | lcRequest t
  | debugUnlock t | syscalZero t | syscalFullScale t | syscalApply t | syscalDiscard t | syscalChan t | evtAck t | evtQuery t | mbistQuery t
  | bistAuth t | lbistRun t | arrayTestRun t | warmReset t | orderlyPowerDown t | fwCommit t | fwBankSelect t => exact .of_write rfl rfl
  | gdpRead t | gdpWrite t | gdpReadBlock t | gdpWriteBlock t | gdpDescribe t | gdpRestore t | gdpStore t | sessionOpen t | sessionProve t
  | sessionClose t => exact .of_frame rfl rfl
  | slotLoad t p h n | slotAbort t p h n | slotEmpty t p h n | placeQuery t p h n => exact .of_slotWrite rfl rfl
  | funcEnable t p h f => exact .of_ite_ite rfl (by simp [State.has]) (.of_writeIn ..)
  | controllerHeartbeat t v =>
    exact .of_ctrl (v := v) (f := fun u => heartbeat u (s.at t)) (fun u h => by simp only [exec, execControllerHeartbeat, h])
      (fun h => by simp only [exec, execControllerHeartbeat, h]) rfl (fun u => (.of_key (t := t) (by simp) (fun h => by simp [h])))
  | ctrlRestartDone t v =>
    exact .of_ctrl (v := v) (f := fun u => ctrlRestartDone u (s.at t)) (fun u h => by simp only [exec, execCtrlRestartDone, h])
      (fun h => by simp only [exec, execCtrlRestartDone, h]) rfl (fun u => (.of_key (t := t) (by simp) (fun h => by simp [h])))
  | ctrlReset t v =>
    exact .of_ctrl (v := v.unit) (f := fun u => ctrlReset u v.ward (s.at t)) (fun u h => by simp only [exec, execCtrlReset, h])
      (fun h => by simp only [exec, execCtrlReset, h]) rfl (fun u => (.of_key (t := t) (by simp) (fun h => by simp [h])))
  | isolateManagement t v =>
    exact .of_unit (v := v) (f := fun u => isolateManagement u (s.at t)) (fun u h => by simp only [exec, execIsolateManagement, h])
      (fun h => by simp only [exec, execIsolateManagement, h]) rfl (fun u => (.of_key (t := t) (by simp) (fun h => by simp [h])))
  | isolateFault t v =>
    exact .of_unit (v := v) (f := fun u => (s.at t).isolateFault u) (fun u h => by simp only [exec, execIsolateFault, h])
      (fun h => by simp only [exec, execIsolateFault, h]) rfl (fun u => (.of_key (t := t) (by simp) (fun h => by simp [h])))
  | stepOrder t v =>
    exact .of_unit (v := v) (f := fun u => stepOrder u (s.at t)) (fun u h => by simp only [exec, execStepOrder, h])
      (fun h => by simp only [exec, execStepOrder, h]) rfl (fun u => (.of_key (t := t) (by simp) (fun h => by simp [h])))
  | residueQuarantineEnd t v =>
    exact .of_unit (v := v) (f := fun u => quarantineEnd u (s.at t)) (fun u h => by simp only [exec, execResidueQuarantineEnd, h])
      (fun h => by simp only [exec, execResidueQuarantineEnd, h]) rfl (fun u => (.of_key (t := t) (by simp) (fun h => by simp [h])))
  | katDone t v ok =>
    exact .of_unit (v := v) (f := fun u => katDone u ok (s.at t)) (fun u h => by simp only [exec, execKatDone, h])
      (fun h => by simp only [exec, execKatDone, h]) rfl (fun u => (.of_key (t := t) (by simp) (fun h => by simp [h])))
  | lossNotice t =>
    exact .of_ite rfl (by simp [State.has]) (.of_key (t := t) (by simp)
      (fun h => by simpa using State.floodIn_cells _ _ _ _ _ (by simpa using h) (fun x hx => by simp [hx])))
  | trainAck t | shardData t =>
    exact .of_ite rfl (by simp [State.has]) (.of_key (t := t) (by simp)
      (fun h => State.received_cells _ _ _ _ _ (by simpa using h) (fun x g hx => by simp [hx])))
  | spdmGetMeasurements t =>
    exact .of_ite rfl Iff.rfl (.of_key (t := t) (State.spdmAt_key _ _ _ _ (fun x => by simp [apply_ite Prod.fst, apply_ite State.key]))
      (fun h => by rw [State.spdmAt_hk _ _ _ _ (fun x => by simp [apply_ite Prod.fst, apply_ite State.hk])]; simpa using h))
  | wardImageStart t =>
    refine .of_next rfl rfl (.of_keyA (t := t) ?_ (fun h => ?_) (fun h => ?_))
    · simp
    · split
      · exact lcGood_foldl _ (fun x a hx => by simp [hx]) _ _ (by simpa using h)
      · simpa using h
    · split
      · exact cellsOk_foldl _ (fun x a hx => by simp [hx]) _ _ (by simpa using h)
      · simpa using h
  | lcErasuresDone t => exact .of_next rfl rfl (lcErased_keeps s t)

theorem exec_keeps {c : Instr} {s x : State} (h : exec c s = .next x) : Keeps s x := by
  obtain ⟨hnext, hfault⟩ := execTotal c s
  cases hhas : s.has c with
  | true =>
    obtain ⟨y, hy, hk⟩ := hnext hhas
    cases h.symm.trans hy
    exact hk
  | false => cases h.symm.trans (hfault hhas)

/-- A step keeps what every command keeps, but that it takes the command in front. -/
theorem step_keeps {s x : State} (h : step s = .next x) : Keeps { s with pending := s.pending.tail } x := by
  unfold step at h
  split at h
  next hnil =>
    cases h
    exact ⟨by simp [hnil], Nat.le_refl _, rfl, id, id⟩
  next c r hcons =>
    have hs : ({ s with pending := s.pending.tail } : State) = { s with pending := r } := by rw [hcons]; rfl
    exact hs ▸ exec_keeps h

/-! ### The obligations -/

/-- Settles O57: what a step keeps includes a legal life-cycle, and the queue is no part of it. -/
theorem lifeCycleStaysLegal : Obligations.LifeCycleStaysLegal :=
  fun _ _ hs h => (step_keeps h).lcOk hs

/-- Settles O58: what a step keeps includes canonical memories, and the queue is no part of them. -/
theorem memoriesStayCanonical : Obligations.MemoriesStayCanonical :=
  fun _ _ hs h => (step_keeps h).cells hs

/-- Settles O59: a step by what it keeps, a command by whether the device has what it names. -/
theorem stepsTakeOneCommand : Obligations.StepsTakeOneCommand := by
  refine ⟨fun s x h => ?step, fun c s => ⟨fun hhas => ?next, (execTotal c s).2⟩⟩
  case step =>
    have hk := step_keeps h
    exact ⟨hk.pending, hk.now, hk.part⟩
  case next =>
    obtain ⟨x, hx, hk⟩ := (execTotal c s).1 hhas
    exact ⟨x, hx, hk.pending, hk.now, hk.part⟩

/-- Settles O1: by what a step is, on a queue that is not empty. -/
theorem stepRunsFront : Obligations.StepRunsFront := fun _ _ _ => rfl

end Sys2Proof.Machine
end

section
/-! Proofs: mask operations bit by bit (spec/06 R257, Table 6.5), and the state after reset. -/
namespace Sys2Proof.Machine
open Sys2Proof

/-! ### Bits of masks -/

theorem testBit_maskOf (len m i : Nat) : (maskOf len m).testBit i = (decide (i < len) && m.testBit i) :=
  Nat.testBit_mod_two_pow m len i

theorem testBit_foldl_and (len i a : Nat) (l : List Nat) :
    ((l.map (maskOf len)).foldl (· &&& ·) a).testBit i = (a.testBit i && l.all (fun m => decide (i < len) && m.testBit i)) := by
  induction l generalizing a with
  | nil => simp
  | cons m r ih => simp [ih, testBit_maskOf, Bool.and_assoc]

theorem testBit_foldl_or (len i a : Nat) (l : List Nat) :
    ((l.map (maskOf len)).foldl (· ||| ·) a).testBit i = (a.testBit i || l.any (fun m => decide (i < len) && m.testBit i)) := by
  induction l generalizing a with
  | nil => simp
  | cons m r ih => simp [ih, testBit_maskOf, Bool.or_assoc]

/-- Each mask that has the bit turns it over once. -/
theorem testBit_foldl_xor (len i a : Nat) (l : List Nat) :
    ((l.map (maskOf len)).foldl (· ^^^ ·) a).testBit i =
      (a.testBit i ^^ (decide (i < len) && decide ((l.filter (fun m => m.testBit i)).length % 2 = 1))) := by
  induction l generalizing a with
  | nil => simp
  | cons m r ih =>
    rw [List.map_cons, List.foldl_cons, ih, Nat.testBit_xor, testBit_maskOf, List.filter_cons]
    have hodd : ∀ n : Nat, decide ((n + 1) % 2 = 1) = !decide (n % 2 = 1) := by
      intro n
      rcases Nat.mod_two_eq_zero_or_one n with h | h <;> simp [Nat.add_mod, h]
    cases m.testBit i <;> cases decide (i < len) <;> simp [hodd]

theorem popCount_eq (n m : Nat) : popCount n m = ((List.range n).filter (fun i => m.testBit i)).length := by
  induction n generalizing m with
  | zero => rfl
  | succ n ih =>
    rw [popCount, ih, List.range_succ_eq_map, List.filter_cons, List.filter_map, Nat.testBit_zero]
    rcases Nat.mod_two_eq_zero_or_one m with h | h <;> simp [h, Function.comp_def, Nat.testBit_succ, Nat.add_comm]

theorem firstSet_eq (n i m : Nat) : firstSet n i m = ((List.range n).find? (fun j => m.testBit j)).map (· + i) := by
  induction n generalizing i m with
  | zero => rfl
  | succ n ih =>
    rw [firstSet, ih, List.range_succ_eq_map, List.find?_cons, Nat.testBit_zero, List.find?_map]
    rcases Nat.mod_two_eq_zero_or_one m with h | h <;> simp [h, Function.comp_def, Nat.testBit_succ, Nat.add_comm, Nat.add_left_comm]

theorem maskOf_eq_zero_iff (len a : Nat) : maskOf len a = 0 ↔ ∀ i, i < len → a.testBit i = false := by
  constructor
  · intro h i hi
    simpa [hi, h] using (testBit_maskOf len a i).symm
  · intro h
    refine Nat.eq_of_testBit_eq fun i => ?_
    rw [testBit_maskOf, Nat.zero_testBit]
    by_cases hi : i < len <;> simp [hi, h]

theorem maskOf_eq_full_iff (len a : Nat) : maskOf len a = 2 ^ len - 1 ↔ ∀ i, i < len → a.testBit i = true := by
  constructor
  · intro h i hi
    simpa [hi, h] using (testBit_maskOf len a i).symm
  · intro h
    refine Nat.eq_of_testBit_eq fun i => ?_
    rw [testBit_maskOf, Nat.testBit_two_pow_sub_one]
    by_cases hi : i < len <;> simp [hi, h]

/-! ### The obligations -/

/-- Settles O22: each result by its bits, its count, or its first bit. -/
theorem maskOperations : Obligations.MaskOperations := by
  refine ⟨fun t len l s => ⟨_, rfl, fun i => ?and⟩, fun t len l s => ⟨_, rfl, fun i => ?or⟩, fun t len l s => ⟨_, rfl, fun i => ?xor⟩,
    fun t len a b s => ⟨_, rfl, fun i => ?andNot⟩, fun t len a s => ⟨?pop, ?any, ?all, ?first⟩⟩
  case and =>
    rw [maskAnd, testBit_foldl_and, Nat.testBit_two_pow_sub_one]
    by_cases hi : i < len <;> simp [hi]
  case or =>
    rw [maskOr, testBit_foldl_or]
    by_cases hi : i < len <;> simp [hi]
  case xor => rw [maskXor, testBit_foldl_xor, Nat.zero_testBit, Bool.false_xor]
  case andNot =>
    rw [maskAndNot, Nat.testBit_and, Nat.testBit_xor, testBit_maskOf, testBit_maskOf, Nat.testBit_two_pow_sub_one]
    by_cases hi : i < len <;> simp [hi]
  case pop => rw [← popCount_eq]; rfl
  case any =>
    have hany : maskAny len a = if (List.range len).any (fun i => a.testBit i) then 1 else 0 := by
      simp only [maskAny, maskOf_eq_zero_iff, List.any_eq_true, List.mem_range]
      by_cases h : ∃ i, i < len ∧ a.testBit i = true
      · rw [if_pos h, if_neg]
        simpa using h
      · rw [if_neg h, if_pos]
        simpa using h
    rw [← hany]
    rfl
  case all =>
    have hall : maskAll len a = if (List.range len).all (fun i => a.testBit i) then 1 else 0 := by
      simp only [maskAll, maskOf_eq_full_iff, List.all_eq_true, List.mem_range]
    rw [← hall]
    rfl
  case first =>
    have hfirst : maskFirst len a = ((List.range len).find? (fun i => a.testBit i)).getD 0xFFFFFFFF := by
      simp [maskFirst, firstSet_eq]
    rw [← hfirst]
    rfl

/-- Settles O60: every part of the state after reset is its default. -/
theorem resetIsLegal : Obligations.ResetIsLegal :=
  ⟨rfl, rfl, rfl, rfl, rfl, rfl, fun _ => rfl, rfl, fun _ => rfl, fun _ _ => rfl, rfl, rfl, rfl, rfl, nofun⟩

end Sys2Proof.Machine
end

section
/-! Proofs: an edge of the source in use, accepted or a glitch (spec/01 R20, R23–R26, R29), and the markers of the link source (R18, R19, R21). -/
namespace Sys2Proof.Machine
open Sys2Proof

theorem State.edgeSeen_of_beat {s : State} (src : BeatSrc) (e : Nat) (num : Option Nat) (htr : s.beat.trans = none)
    (hmode : s.beat.mode = .locked ∨ s.beat.mode = .freerun) :
    s.edgeSeen src e num = s.edgeInBeat src e num (s.lockOf (s.beat.edges src)) := by
  unfold State.edgeSeen
  rcases hmode with hmode | hmode <;> simp [htr, hmode]

section
variable {s : State} {a e : Nat} (hacc : s.beat.lastAccepted = some a)
include hacc

/-- Inside the window of its own undecided boundary and of a legal period, an edge is accepted for that boundary. -/
theorem State.accepts_own (hdec : s.beat.decided = false)
    (hper : periodOk ((e - a) / max 1 ((2 * (e - a) + s.periodEst) / (2 * max 1 s.periodEst))) = true)
    (hlo : s.beat.last ≤ e + s.jitter s.periodEst) (hhi : e ≤ s.beat.last + s.jitter s.periodEst) :
    s.accepts e = some (true, (e : Int) - s.beat.last, (e - a) / max 1 ((2 * (e - a) + s.periodEst) / (2 * max 1 s.periodEst))) := by
  simp [State.accepts, hacc, hper, hdec, hlo, hhi]

/-- Away from both predicted boundaries, or where the next is decided already, it is not. -/
theorem State.accepts_none (hlast : e + s.jitter s.periodEst < s.beat.last ∨ s.beat.last + s.jitter s.periodEst < e)
    (hnext : e + s.jitter s.periodEst < s.beat.next ∨ s.beat.next + s.jitter s.periodEst < e ∨ s.beat.early.isSome = true) :
    s.accepts e = none := by
  have hlast : ¬(s.beat.last ≤ e + s.jitter s.periodEst ∧ e ≤ s.beat.last + s.jitter s.periodEst) := by omega
  have hnext : ¬(s.beat.early = none ∧ s.beat.next ≤ e + s.jitter s.periodEst ∧ e ≤ s.beat.next + s.jitter s.periodEst) := by
    rintro ⟨hnone, hnext'⟩
    simp only [hnone, Option.isSome_none, Bool.false_eq_true, or_false] at hnext
    omega
  unfold State.accepts
  simp only [hacc]
  split
  · rfl
  · rw [if_neg (by simp; omega), if_neg (by simpa [and_assoc] using hnext)]

end


/-! ### An accepted edge (R25, R26, R29) -/

/-- The beat that an edge accepted for its own boundary begins, before its phase error is stored. -/
def State.ownBeat (s : State) (e : Nat) (err : Int) (period : Nat) : BeatS :=
  { s.beat with
    periods := (period :: s.beat.periods).take 8, lastAccepted := some e, missed := 0, decided := true
    length := edgeLength s.periodEst err, next := s.beat.last + edgeLength s.periodEst err, phaseErr := divRne err 1000 }

/-- … and the state in which that error is stored and the greatest error kept. -/
def State.ownEdge (s : State) (e : Nat) (err : Int) (period : Nat) : State :=
  ({ s with beat := s.ownBeat e err period } : State).putCount ⟨.BEAT_PHASE_ERR_MAX, 0, 0⟩
    (max (s.count ⟨.BEAT_PHASE_ERR_MAX, 0, 0⟩) (divRne err 1000).natAbs)

section
variable (s : State) (e period : Nat) (err : Int)

theorem State.ownEdge_beat : (s.ownEdge e err period).beat = s.ownBeat e err period := rfl

theorem State.ownEdge_writes : Writes [.beat, .cnt] s (s.ownEdge e err period) :=
  (s.setBeat_writes _).append (State.putCount_writes _ _ _)

/-- It leaves FREERUN for LOCKED. -/
theorem State.acceptEdge_own :
    s.acceptEdge e none true err period =
      if s.beat.mode = .freerun then (s.ownEdge e err period).beatTo .locked else s.ownEdge e err period := rfl

end

theorem State.beatTo_locked_writes {s : State} (h : s.beat.mode ≠ .seeking) : Writes [.beat, .evt, .boot] s (s.beatTo .locked) := by
  intro f hf
  cases f with
  | beat | evt | boot => simp at hf
  | pwr => exact s.beatTo_pwr nofun
  | funcs => exact (s.beatTo_funcs _).trans (congrArg State.funcs (State.seekBeats_idle h))
  | _ => simp [SamePart]

section
variable {s : State} {e period : Nat} {err : Int} (hmode : s.beat.mode = .locked ∨ s.beat.mode = .freerun)
include hmode

theorem State.ownEdge_running : (s.ownEdge e err period).beat.mode ≠ .seeking := by
  rw [State.ownEdge_beat]
  rcases hmode with h | h <;> simp [State.ownBeat, h]

theorem State.acceptEdge_own_beat :
    ∃ since, (s.acceptEdge e none true err period).beat = { s.ownBeat e err period with mode := .locked, since := since } := by
  rw [State.acceptEdge_own]
  split
  next => exact ⟨_, State.beatTo_beat_locked _ .locked (State.ownEdge_running hmode) nofun⟩
  next hfree => exact ⟨s.beat.since, by simp [State.ownEdge_beat, State.ownBeat, ← hmode.resolve_right hfree]⟩

theorem State.acceptEdge_own_writes : Writes [.beat, .cnt, .evt, .boot] s (s.acceptEdge e none true err period) := by
  rw [State.acceptEdge_own]
  split
  next => exact ((s.ownEdge_writes e period err).append (State.beatTo_locked_writes (State.ownEdge_running hmode))).mono (by simp)
  next => exact (s.ownEdge_writes e period err).mono (by simp)

omit hmode in
theorem State.acceptEdge_own_count (k : OKey) : (s.acceptEdge e none true err period).count k =
    if ⟨.BEAT_PHASE_ERR_MAX, 0, 0⟩ = k then max (s.count ⟨.BEAT_PHASE_ERR_MAX, 0, 0⟩) (divRne err 1000).natAbs else s.count k := by
  have hcnt : (s.acceptEdge e none true err period).cnt = (s.ownEdge e err period).cnt := by
    rw [State.acceptEdge_own]
    split
    next => exact State.beatTo_cnt _ _
    next => rfl
  have hpart : (s.acceptEdge e none true err period).part = (s.ownEdge e err period).part := by
    rw [State.acceptEdge_own]
    split
    next => exact State.beatTo_part _ _
    next => rfl
  calc (s.acceptEdge e none true err period).count k
    _ = (s.ownEdge e err period).count k := by simp only [State.count, hcnt, hpart]
    _ = _ := State.count_putCount _ _ _ _

end

/-! ### An edge on BEAT_P/N (R17, R23) -/

/-- What a pin edge sees first: it joins the edges of the pin. -/
def State.pinEdged (s : State) (t : Nat) : State :=
  { s.at t with beat := (s.at t).beat.addEdge .pin (max s.now t / 1000 * 1000) }

theorem exec_beatPinEdge {s : State} (t : Nat) (htr : s.beat.trans = none) (hmode : s.beat.mode = .locked ∨ s.beat.mode = .freerun) :
    exec (.beatPinEdge t) s = .next ((s.pinEdged t).edgeInBeat .pin (max s.now t / 1000 * 1000) none
      ((s.pinEdged t).lockOf ((s.pinEdged t).beat.edges .pin))) :=
  congrArg Host.Outcome.next (State.edgeSeen_of_beat (s := s.pinEdged t) .pin _ none htr hmode)

theorem State.pinEdged_writes (s : State) (t : Nat) : Writes [.beat] (s.at t) (s.pinEdged t) :=
  (s.at t).setBeat_writes _

/-- A glitch within the width of its counter is counted and reported. -/
theorem State.glitch_count {s : State} (src : BeatSrc) (e : Nat) (h : s.count ⟨.GLITCH_COUNT, 0, 0⟩ + 1 < 2 ^ 32) :
    (s.glitch src e).count ⟨.GLITCH_COUNT, 0, 0⟩ = s.count ⟨.GLITCH_COUNT, 0, 0⟩ + 1 := by
  have hinc : s.inc .GLITCH_COUNT = s.putCount ⟨.GLITCH_COUNT, 0, 0⟩ (s.count ⟨.GLITCH_COUNT, 0, 0⟩ + 1) := State.inc_of_lt h
  show (s.inc .GLITCH_COUNT).count _ = _
  rw [hinc]
  simp

theorem State.glitch_writes {s : State} (src : BeatSrc) (e : Nat) (h : s.count ⟨.GLITCH_COUNT, 0, 0⟩ + 1 < 2 ^ 32) :
    Writes [.cnt, .evt] s (s.glitch src e) := by
  have hinc : s.inc .GLITCH_COUNT = s.putCount ⟨.GLITCH_COUNT, 0, 0⟩ (s.count ⟨.GLITCH_COUNT, 0, 0⟩ + 1) := State.inc_of_lt h
  unfold State.glitch
  rw [hinc]
  exact (State.putCount_writes _ _ _).append (State.raise_writes _ _ _ _ _ _ _)

theorem State.edgeInBeat_accepts {s : State} {e period : Nat} {own : Bool} {err : Int} {num : Option Nat} {lock : Option (List Nat)}
    (hacc : s.accepts e = some (own, err, period)) : s.edgeInBeat s.beat.source e num lock = s.acceptEdge e num own err period := by
  simp only [State.edgeInBeat, if_pos, hacc]

/-- An edge of the source in use that nothing accepts is a glitch, and notes at most that its source has a lock. -/
theorem State.edgeInBeat_glitch {s : State} {e : Nat} {num : Option Nat} {lock : Option (List Nat)} (hacc : s.accepts e = none) :
    ∃ lock', s.edgeInBeat s.beat.source e num lock =
      { s.glitch s.beat.source e with beat := { s.beat with newLock := lock' } } := by
  simp only [State.edgeInBeat, if_pos, hacc]
  split
  next => exact ⟨some s.beat.source, by rw [State.glitch_beat]⟩
  next => exact ⟨s.beat.newLock, congrArg (fun b => ({ s.glitch s.beat.source e with beat := b } : State)) (s.glitch_beat s.beat.source e)⟩

/-- Settles O2: by what accepts the edge, its own boundary or nothing. -/
theorem pinEdgeAcceptedOrGlitch : Obligations.PinEdgeAcceptedOrGlitch := by
  intro t a e w s htr hsrc hmode hdec hacc he hw hper
  subst he hw
  have hx := exec_beatPinEdge t htr hmode
  have hu := s.pinEdged_writes t
  have hsrc : (s.pinEdged t).beat.source = .pin := hsrc
  refine ⟨fun hlo hhi => ?accepted, fun hlast hnext hcount => ?glitch⟩
  case accepted =>
    have hown := State.accepts_own (s := s.pinEdged t) hacc hdec hper hlo hhi
    have hend := State.edgeInBeat_accepts (num := none) (lock := (s.pinEdged t).lockOf ((s.pinEdged t).beat.edges .pin)) hown
    rw [hsrc] at hend
    rw [hend] at hx
    refine Does.of_next hx ((hu.append (State.acceptEdge_own_writes hmode)).mono (by simp)) ?_
    obtain ⟨since, hbeat⟩ := State.acceptEdge_own_beat (s := s.pinEdged t) hmode
    rw [hbeat, State.acceptEdge_own_count, State.acceptEdge_own_count]
    exact ⟨rfl, rfl, rfl, rfl, rfl, rfl, rfl, if_pos rfl, if_neg (by simp)⟩
  case glitch =>
    have hnone := State.accepts_none (s := s.pinEdged t) hacc hlast hnext
    obtain ⟨lock', hend⟩ := State.edgeInBeat_glitch (s := s.pinEdged t) (num := none)
      (lock := (s.pinEdged t).lockOf ((s.pinEdged t).beat.edges .pin)) hnone
    rw [hsrc] at hend
    rw [hend] at hx
    refine Does.of_next hx (((hu.append (State.glitch_writes (s := s.pinEdged t) .pin (max s.now t / 1000 * 1000) hcount)).append (State.setBeat_writes _ _)).mono (by simp)) ?_
    exact ⟨State.glitch_count (s := s.pinEdged t) .pin (max s.now t / 1000 * 1000) hcount, rfl, rfl, rfl, rfl, rfl, rfl, rfl, rfl⟩


/-! ### What an edge leaves of the edges seen (R19, R23) -/

/-- The edges seen of both sources, and the ports. -/
def State.edgesSeen (s : State) : List Nat × List Nat × List (Nat × PortS) := (s.beat.pinEdges, s.beat.linkEdges, s.fab.ports)

@[simp] theorem State.beatTo_edgesSeen (s : State) (m : BeatMode) : (s.beatTo m).edgesSeen = s.edgesSeen := by
  simp only [State.edgesSeen, State.beatTo_beat, State.beatTo_fab]
  unfold State.countNotches
  (repeat' split) <;> simp

theorem State.edgeInTransition_edgesSeen (s : State) (src : BeatSrc) (e : Nat) (num : Option Nat) (tr : Transition) :
    (s.edgeInTransition src e num tr).edgesSeen = s.edgesSeen := by
  unfold State.edgeInTransition
  dsimp only
  split
  · exact State.beatTo_edgesSeen _ _
  · split <;> simp [State.edgesSeen]

theorem State.edgeInSeeking_edgesSeen (s : State) (src : BeatSrc) (e : Nat) (num : Option Nat) (lock : Option (List Nat)) :
    (s.edgeInSeeking src e num lock).edgesSeen = s.edgesSeen := by
  unfold State.edgeInSeeking
  split
  next => split
          · rfl
          · rw [State.beatTo_edgesSeen]
            split <;> rfl
  next => rfl

theorem State.edgeInSelf_edgesSeen (s : State) (src : BeatSrc) (lock : Option (List Nat)) :
    (s.edgeInSelf src lock).edgesSeen = s.edgesSeen := by
  unfold State.edgeInSelf
  dsimp only
  (repeat' split) <;> rfl

theorem State.acceptEdge_edgesSeen (s : State) (e : Nat) (num : Option Nat) (own : Bool) (err : Int) (period : Nat) :
    (s.acceptEdge e num own err period).edgesSeen = s.edgesSeen := by
  unfold State.acceptEdge
  dsimp only
  rw [apply_ite State.edgesSeen, State.beatTo_edgesSeen, ite_self]
  cases own <;> rfl

theorem State.edgeInBeat_edgesSeen (s : State) (src : BeatSrc) (e : Nat) (num : Option Nat) (lock : Option (List Nat)) :
    (s.edgeInBeat src e num lock).edgesSeen = s.edgesSeen := by
  unfold State.edgeInBeat
  split
  next => split
          next => exact State.acceptEdge_edgesSeen _ _ _ _ _ _
          next => dsimp only
                  split <;> simp [State.edgesSeen]
  next => (repeat' split) <;> rfl

theorem State.edgeSeen_edgesSeen (s : State) (src : BeatSrc) (e : Nat) (num : Option Nat) :
    (s.edgeSeen src e num).edgesSeen = s.edgesSeen := by
  unfold State.edgeSeen
  split
  · exact State.edgeInTransition_edgesSeen _ _ _ _ _
  · exact State.edgeInSeeking_edgesSeen _ _ _ _ _
  · exact State.edgeInSelf_edgesSeen _ _ _
  · exact State.edgeInBeat_edgesSeen _ _ _ _ _

/-- An edge joins the edges of its own source, and nothing else does. -/
theorem State.beatEdge_edgesSeen (s : State) (src : BeatSrc) (e : Nat) (num : Option Nat) :
    (s.beatEdge src e num).beat.pinEdges = (s.beat.addEdge src e).pinEdges ∧
      (s.beatEdge src e num).beat.linkEdges = (s.beat.addEdge src e).linkEdges ∧ (s.beatEdge src e num).fab.ports = s.fab.ports := by
  have hseen : (s.beatEdge src e num).edgesSeen = _ := State.edgeSeen_edgesSeen { s with beat := s.beat.addEdge src e } src e num
  simpa only [State.edgesSeen, Prod.mk.injEq] using hseen

/-! ### A beat marker (R18, R19, R471) -/

/-- A counter of a unit that stays within its width takes the sum, and no free value is drawn (log 10). -/
theorem State.incI_of_lt {s : State} {o : Obj} {i n : Nat} (h : s.count ⟨o, i, 0⟩ + n < 256 ^ tySize o.spec.ty) :
    s.incI o i n = s.putCount ⟨o, i, 0⟩ (s.count ⟨o, i, 0⟩ + n) :=
  if_pos h

/-- A marker on a live port counts its bytes and stands as the port's echo. -/
def State.marked (s : State) (port : Nat) : State :=
  (s.putCount ⟨.RX_BYTES, port, 0⟩ (s.count ⟨.RX_BYTES, port, 0⟩ + 39)).putPort port
    { s.port port with marked := true, misses := 0, marks := (s.port port).marks + 1 }

theorem State.marked_writes (s : State) (port : Nat) : Writes [.cnt, .fab] s (s.marked port) := by
  intro f hf
  cases f with
  | cnt | fab => simp at hf
  | _ => rfl

theorem State.marked_port (s : State) (port : Nat) :
    (s.marked port).port port = { s.port port with marked := true, misses := 0, marks := (s.port port).marks + 1 } :=
  (State.port_putPort _ _ _ _).trans (if_pos rfl)

theorem beatMarker_of_live {s : State} {port number : Nat} (hlive : (s.port port).link = 2 ∨ (s.port port).link = 3)
    (hcount : s.count ⟨.RX_BYTES, port, 0⟩ + 39 < 2 ^ 64) :
    beatMarker port number s =
      if port = s.set0 .BEAT_LINK_PORT then
        (s.marked port).beatEdge .link ((s.now : Int) - (s.port port).delay * 1000 + signed 32 (s.set0 .LINK_BEAT_OFFSET) * 1000).toNat
          (some (number % 2 ^ 48))
      else s.marked port := by
  have hinc : s.incI .RX_BYTES port 39 = s.putCount ⟨.RX_BYTES, port, 0⟩ (s.count ⟨.RX_BYTES, port, 0⟩ + 39) := State.incI_of_lt hcount
  have hecho : (s.putCount ⟨.RX_BYTES, port, 0⟩ (s.count ⟨.RX_BYTES, port, 0⟩ + 39)).echo port = s.marked port := by
    have hport : (s.putCount ⟨.RX_BYTES, port, 0⟩ (s.count ⟨.RX_BYTES, port, 0⟩ + 39)).port port = s.port port := rfl
    unfold State.echo
    rcases hlive with h | h <;> exact if_neg (by simp [hport, h])
  unfold beatMarker
  rcases hlive with h | h <;> simp [h, hinc, hecho] <;> rfl

/-- Settles O4: the echo first, then on BEAT_LINK_PORT the edge, which joins the edges seen whatever it is taken for. -/
theorem markerIsEchoOrLinkEdge : Obligations.MarkerIsEchoOrLinkEdge := by
  intro t port number state s hport hlive hcount
  have hx : exec (.beatMarker t port number state) s = .next (beatMarker port number (s.at t)) := if_pos hport
  rw [beatMarker_of_live (s := s.at t) hlive hcount] at hx
  refine ⟨fun hother => ?other, fun hlink => ?link⟩
  case other =>
    rw [if_neg (by exact hother)] at hx
    refine Does.of_next hx (State.marked_writes _ _) ⟨State.marked_port _ _, fun q hq => ?_, ?_⟩
    · exact (State.port_putPort _ _ _ _).trans (if_neg (Ne.symm hq))
    · exact (State.count_putCount _ _ _ _).trans (if_pos rfl)
  case link =>
    rw [if_pos (by exact hlink)] at hx
    refine ⟨_, hx, ?_⟩
    obtain ⟨hpin, hlink, hports⟩ := (((s.at t).marked port).beatEdge_edgesSeen .link _ (some (number % 2 ^ 48)))
    refine ⟨hlink, hpin, ?_⟩
    rw [State.port, hports]
    exact State.marked_port (s.at t) port

end Sys2Proof.Machine
end

section
/-! Proofs: the phases of a beat (spec/01 R34–R39) and the timers of sessions (spec/03 R89, R96, R99, R106). -/
namespace Sys2Proof.Machine
open Sys2Proof

/-! ### What an update of one part writes -/

theorem State.setGdp_writes (s : State) (g : GdpS) : Writes [.gdp] s { s with gdp := g } := by
  intro f hf
  cases f with
  | gdp => simp at hf
  | _ => rfl

/-! ### Diagnoses begin in the quiet window (R38, R200) -/

theorem State.startDiag_writes (s : State) (e : Nat) : Writes [.eng] s (s.startDiag e) := by
  unfold State.startDiag
  dsimp only
  split
  · exact s.putEngine_writes e _
  · exact Writes.refl _ s

theorem State.startDiags_writes (s : State) (l : List Nat) : Writes [.eng] s (s.startDiags l) := by
  induction l generalizing s with
  | nil => exact Writes.refl _ s
  | cons e r ih => exact (s.startDiag_writes e).trans (ih (s.startDiag e))

/-- A change of the beat, after which diagnoses begin: the beat is the one set, and of the rest the engines alone may change. -/
theorem State.quietDiags_setBeat (s : State) (b : BeatS) :
    (State.quietDiags { s with beat := b }).beat = b ∧ Writes [.beat, .eng] s (State.quietDiags { s with beat := b }) :=
  ⟨State.startDiags_writes _ _ .beat (by simp), (s.setBeat_writes b).append (State.startDiags_writes _ _)⟩

/-! ### The phases -/

/-- The cores that are busy once the run phase has started. -/
def State.runBusy (s : State) : List (Nat × Nat) :=
  s.beat.busy ++ (s.stepCores.filter (fun c => !s.beat.busyCores.contains c)).map (fun c => (c, s.beat.number))

theorem State.mem_runBusy_cores {s : State} {c : Nat} :
    c ∈ s.runBusy.map Prod.fst ↔ c ∈ s.stepCores ∨ c ∈ s.beat.busyCores := by
  simp only [State.runBusy, List.map_append, List.map_map, Function.comp_def, List.map_id', List.mem_append, List.mem_filter,
    Bool.not_eq_true', List.contains_eq_mem, decide_eq_false_iff_not, BeatS.busyCores]
  by_cases hbusy : c ∈ s.beat.busy.map Prod.fst
  · simp only [hbusy, true_or, or_true]
  · simp only [hbusy, false_or, or_false, not_false_eq_true, and_true]

theorem runPhaseStart_of_due {s : State} (hphase : s.beat.phase = .open_) (hdue : s.set0 .OPEN_END ≤ s.notchNow) :
    runPhaseStart s = { s with beat := { s.beat with phase := .run, busy := s.runBusy } } :=
  if_pos (by simp [hphase, hdue])

theorem quietStart_of_due {s : State} (hphase : s.beat.phase = .run ∨ s.beat.phase = .open_) (hdue : s.set0 .QUIET_START ≤ s.notchNow) :
    quietStart s = State.quietDiags { s with beat := { s.beat with phase := .quiet } } :=
  if_pos (by rcases hphase with h | h <;> simp [h, hdue])

/-- A core whose work is all of the present step is idle as that work ends. -/
theorem stepWorkEnd_of_present {s : State} {core : Nat} (hpresent : ∀ b, (core, b) ∈ s.beat.busy → b = s.beat.number) :
    stepWorkEnd core s = State.quietDiags { s with beat := { s.beat with busy := s.beat.busy.filter (fun y => y.1 != core) } } := by
  have hlate : s.beat.busy.any (fun x => x.1 == core && x.2 != s.beat.number) = false := by
    rw [List.any_eq_false]
    rintro ⟨c, b⟩ hmem
    simp only [Bool.and_eq_true, beq_iff_eq, bne_iff_ne, ne_eq, not_and, Classical.not_not]
    rintro rfl
    exact hpresent b hmem
  unfold stepWorkEnd
  simp only [hlate, Bool.false_and, Bool.false_eq_true, if_false]

/-- One whose work of an earlier step ends joins the step that runs, where it holds tiles of it (R39). -/
theorem stepWorkEnd_of_late {s : State} {core b : Nat} (hmem : (core, b) ∈ s.beat.busy) (hlate : b ≠ s.beat.number) :
    stepWorkEnd core s = State.quietDiags { s with beat := { s.beat with
      busy := s.beat.busy.filter (fun y => y.1 != core) ++
        if (s.beat.phase = .run ∨ s.beat.phase = .quiet) ∧ core ∈ s.stepCores then [(core, s.beat.number)] else [] } } := by
  have hlate : s.beat.busy.any (fun x => x.1 == core && x.2 != s.beat.number) = true :=
    List.any_eq_true.mpr ⟨(core, b), hmem, by simp [hlate]⟩
  unfold stepWorkEnd
  simp only [hlate, Bool.true_and, Bool.and_eq_true, Bool.or_eq_true, decide_eq_true_eq, List.contains_iff_mem]
  split <;> simp

/-- Settles O5: each phase change by the one lemma of its operation, with the diagnoses that begin writing the engines alone. -/
theorem phasesOfABeat : Obligations.PhasesOfABeat := by
  refine ⟨fun t s hphase hdue => ?run, fun t s hphase hdue => ?quiet, fun t core s hcore hpresent => ?present,
    fun t core b s hcore hmem hlate => ?late⟩
  case run =>
    have hx : exec (.runPhaseStart t) s = .next _ := congrArg Host.Outcome.next (runPhaseStart_of_due (s := s.at t) hphase hdue)
    exact Does.of_next hx (State.setBeat_writes _ _) ⟨rfl, fun b hb => List.mem_append_left _ hb,
      fun c hc => (State.mem_runBusy_cores (s := s.at t)).mpr (.inl hc), fun c hc => (State.mem_runBusy_cores (s := s.at t)).mp hc⟩
  case quiet =>
    have hx : exec (.quietWindowStart t) s = .next _ := congrArg Host.Outcome.next (quietStart_of_due (s := s.at t) hphase hdue)
    obtain ⟨hbeat, hw⟩ := (s.at t).quietDiags_setBeat { s.beat with phase := .quiet }
    exact Does.of_next hx hw hbeat
  case present =>
    have hx : exec (.stepWorkEnd t core) s = .next _ :=
      (if_pos hcore).trans (congrArg Host.Outcome.next (stepWorkEnd_of_present (s := s.at t) hpresent))
    obtain ⟨hbeat, hw⟩ := (s.at t).quietDiags_setBeat { s.beat with busy := s.beat.busy.filter (fun y => y.1 != core) }
    exact Does.of_next hx hw hbeat
  case late =>
    have hx : exec (.stepWorkEnd t core) s = .next _ :=
      (if_pos hcore).trans (congrArg Host.Outcome.next (stepWorkEnd_of_late (s := s.at t) hmem hlate))
    obtain ⟨hbeat, hw⟩ := State.quietDiags_setBeat (s.at t) _
    exact Does.of_next hx hw hbeat

/-! ### Sessions that close by a timer (R96, R99) -/

theorem State.closeSessions_writes (s : State) (p : Nat → Session → Bool) : Writes [.gdp] s (s.closeSessions p) :=
  s.setGdp_writes _

/-- A map without its entries of one kind: a key of which none is of the kind finds what it found. -/
theorem mapFind_filter_of_keeps {α : Type} {p : Nat × α → Bool} {n : Nat} {m : Map α} (hkeep : ∀ x, (n, x) ∈ m → p (n, x) = true) :
    mapFind (m.filter p) n = mapFind m n := by
  induction m with
  | nil => rfl
  | cons y r ih =>
    obtain ⟨k, v⟩ := y
    have hrest := ih fun x hx => hkeep x (List.mem_cons_of_mem _ hx)
    by_cases hk : k = n
    · subst hk
      have : p (k, v) = true := hkeep v (List.mem_cons_self ..)
      simp [this, mapFind]
    · by_cases hp : p (k, v) = true <;> simp [hp, mapFind, hk, hrest]

/-- … and one of which all are finds nothing. -/
theorem mapFind_filter_of_drops {α : Type} {p : Nat × α → Bool} {n : Nat} {m : Map α} (hdrop : ∀ x, (n, x) ∈ m → p (n, x) = false) :
    mapFind (m.filter p) n = none := by
  rw [Option.eq_none_iff_forall_ne_some]
  intro x hx
  obtain ⟨hmem, hp⟩ := List.mem_filter.mp (mapFind_mem hx)
  simp [hdrop x hmem] at hp

theorem State.closeSessions_find_other {s : State} {p : Nat → Session → Bool} {n : Nat} (h : ∀ x, (n, x) ∈ s.gdp.sessions → p n x = false) :
    mapFind (s.closeSessions p).gdp.sessions n = mapFind s.gdp.sessions n :=
  mapFind_filter_of_keeps fun x hx => by simp [h x hx]

theorem State.closeSessions_find_closed {s : State} {p : Nat → Session → Bool} {n : Nat} (h : ∀ x, (n, x) ∈ s.gdp.sessions → p n x = true) :
    mapFind (s.closeSessions p).gdp.sessions n = none :=
  mapFind_filter_of_drops fun x hx => by simp [h x hx]

/-- Settles O13: a timer closes the sessions of its number that are over, and keeps every other. -/
theorem timersOfSessions : Obligations.TimersOfSessions := by
  refine ⟨fun t sid s x hx honly hsid => ⟨fun hidle => ?idle, fun hactive => ?active, fun hhalf hopen => ?half⟩, fun t p s => rfl,
    fun t sid s => rfl, fun t fn s hfn hlink hhere => ?mbx⟩
  case idle =>
    refine Does.of_next (x := sessionIdle sid (s.at t)) rfl (State.closeSessions_writes _ _) ⟨?_, fun n hn => ?_⟩
    · refine State.closeSessions_find_closed fun z hz => ?_
      have : z = x := honly z hz
      simp [this, hsid, State.at, minute, hidle]
    · exact State.closeSessions_find_other fun z hz => by simp [hn]
  case active =>
    refine Does.of_next (x := sessionIdle sid (s.at t)) rfl (State.closeSessions_writes _ _) ?_
    rw [sessionIdle, State.closeSessions_find_other fun z hz => ?_]
    · exact hx
    · have : z = x := honly z hz
      simpa [this, hsid, State.at, minute] using hactive
  case half =>
    refine Does.of_next (x := halfOpen sid (s.at t)) rfl (State.closeSessions_writes _ _) ⟨?_, fun n hn => ?_⟩
    · refine State.closeSessions_find_closed fun z hz => ?_
      have : z = x := honly z hz
      simp [this, hsid, State.at, tenSec, hhalf, hopen]
    · exact State.closeSessions_find_other fun z hz => by simp [hn]
  case mbx =>
    have hx : exec (.mbxStatusRead t fn) s = .next (mbxStatusRead fn (s.at t)) := if_pos hfn
    have hread : mbxStatusRead fn (s.at t) = _ := if_neg (by simp [hlink, hhere])
    rw [hx, hread]
    rfl

end Sys2Proof.Machine
end

section
/-! Proofs: writes of one object that select for a session (spec/03 R83) or wait for the boundary (R102–R104, R117). -/
namespace Sys2Proof.Machine
open Sys2Proof

/-- What a command that is a write of one object answers: somebody answers its path, or the device has no such path. -/
def RowWrite.outcome (w : RowWrite) (s : State) : Host.Outcome State Fault Refusal :=
  if pathOk w.path then .next (writeIn w.obj w.inst w.path w.head w.payload w.buf (s.at w.t)) else .fault .noSuchUnit

/-! ### Selectors -/

section
variable {o : Obj} (hsel : isSelector o = true)
include hsel

theorem isSelector_cases : o = .UNIT_QUERY ∨ o = .ENG_QUERY ∨ o = .PLACE_QUERY ∨ o = .SEQ_QUERY ∨ o = .REQ_QUERY ∨ o = .HIST_QUERY ∨
    o = .LATCH_QUERY ∨ o = .KEY_QUERY ∨ o = .EVT_QUERY ∨ o = .MBIST_QUERY := by
  simpa [isSelector] using hsel

theorem isSelector_effect : o.spec.effect = .now := by
  rcases isSelector_cases hsel with rfl | rfl | rfl | rfl | rfl | rfl | rfl | rfl | rfl | rfl <;> rfl

theorem isSelector_ne {o' : Obj} (hother : isSelector o' = false) : o ≠ o' := by
  rintro rfl
  simp [hsel] at hother

end

theorem State.acceptBar_selector {u : State} {k : OKey} (v : OVal) (hsel : isSelector k.obj = true) : u.acceptBar (settingKey k) v = none :=
  noBar u k v (isSelector_ne hsel rfl) (isSelector_ne hsel rfl) (isSelector_ne hsel rfl) (isSelector_ne hsel rfl)

theorem State.acceptNow_selector {u : State} {c : Ctx} {k : OKey} (v : OVal) (b : Option Bytes) (hsel : isSelector k.obj = true) :
    u.acceptNow c k v b = (u.select c k (ovNat v), none) := by
  have hcases := isSelector_cases hsel
  unfold State.acceptNow
  dsimp only
  split
  case h_10 => rw [if_pos hsel]
  all_goals simp_all

/-! ### What a list finds once entries are taken out -/

theorem find?_filter_of_kept {α : Type} {p q : α → Bool} {l : List α} (hkeep : ∀ x, p x = true → q x = true) :
    (l.filter q).find? p = l.find? p := by
  rw [List.find?_filter]
  congr 1
  funext x
  cases hp : p x with
  | true => simp [hkeep x hp]
  | false => simp

theorem find?_filter_of_dropped {α : Type} {p q : α → Bool} {l : List α} (hdrop : ∀ x, p x = true → q x = false) :
    (l.filter q).find? p = none := by
  rw [List.find?_eq_none]
  intro x hx hp
  simp [hdrop x hp] at hx

/-- What is selected stands for its session and its selector alone. -/
theorem State.selected_select (u : State) (c d : Ctx) (k j : OKey) (v : Nat) :
    (u.select c k v).selected d j = if d.sid = c.sid ∧ j = k then v else u.selected d j := by
  unfold State.selected State.select
  rw [List.find?_append]
  by_cases hmine : d.sid = c.sid ∧ j = k
  · obtain ⟨hsid, rfl⟩ := hmine
    rw [find?_filter_of_dropped fun x hx => by simpa [hsid] using hx]
    simp [hsid]
  · rw [find?_filter_of_kept fun x hx => by
      obtain ⟨hsid, hkey⟩ : x.session = d.sid ∧ x.key = j := by simpa using hx
      simpa [hsid, hkey] using Classical.not_and_iff_not_or_not.mp hmine]
    have hnew : [(⟨c.sid, k, v⟩ : Selector)].find? (fun x => x.session == d.sid && x.key == j) = none := by
      rw [List.find?_eq_none]
      intro x hx hp
      obtain rfl := List.mem_singleton.mp hx
      simp only [Bool.and_eq_true, beq_iff_eq] at hp
      exact hmine ⟨hp.1.symm, hp.2.symm⟩
    rw [if_neg hmine, hnew, Option.or_none]

/-! ### Writes that wait -/

theorem State.waitingFor_queueWrite (u : State) (k j : OKey) (v : OVal) :
    (u.queueWrite k v).waitingFor j = if j = k then some v else u.waitingFor j := by
  unfold State.waitingFor State.queueWrite
  simp only [List.reverse_append, List.reverse_singleton, List.singleton_append, List.find?_cons]
  by_cases hj : j = k
  · subst hj
    simp
  · rw [beq_false_of_ne (Ne.symm hj), if_neg hj, ← List.filter_reverse,
      find?_filter_of_kept fun x hx => by simpa [beq_iff_eq.mp hx] using hj]

/-- Settles O9: the row writes a selector, which acts at once. -/
theorem selectorsStandForTheirSession : Obligations.SelectorsStandForTheirSession := by
  intro t p h n v s u x k c w hrow hn hserved
  have hrow : exec c s = w.outcome s ∧ isSelector w.obj = true := by
    simp only [List.mem_cons, Prod.mk.injEq, List.not_mem_nil, or_false] at hrow
    rcases hrow with ⟨rfl, rfl⟩ | ⟨rfl, rfl⟩ | ⟨rfl, rfl⟩ | ⟨rfl, rfl⟩ | ⟨rfl, rfl⟩ | ⟨rfl, rfl⟩ | ⟨rfl, rfl⟩ | ⟨rfl, rfl⟩ | ⟨rfl, rfl⟩
    case inr.inr.inl => exact ⟨if_pos hn, rfl⟩
    all_goals exact ⟨rfl, rfl⟩
  obtain ⟨hexec, hsel⟩ := hrow
  have hobj := hserved.2.2.2.2.2.2
  have hsel' : isSelector k.obj = true := hobj ▸ hsel
  have heffect := isSelector_effect hsel
  refine ⟨u.select (w.asker u x) k (ovNat (w.taken u k)), ?_, rfl, fun d j => State.selected_select u (w.asker u x) d k j _⟩
  have hwrite := write_now w s u x k hserved heffect (exec c s) hexec (State.acceptBar_selector _ hsel') _
    (State.acceptNow_selector _ _ hsel') (isSelector_ne hsel rfl)
  rw [hwrite, RowWrite.answered, heffect]
  rfl

/-- Settles O10: the row writes a boundary object, whose value joins the writes that wait. -/
theorem writesWaitForTheBoundary : Obligations.WritesWaitForTheBoundary := by
  intro t p h n v b s u x k c w hrow hn hserved hbar
  have hrow : exec c s = w.outcome s ∧ w.obj.spec.effect = .boundary ∧ w.obj ≠ .FUNC_ENABLE := by
    simp only [List.mem_cons, Prod.mk.injEq, List.not_mem_nil, or_false] at hrow
    rcases hrow with ⟨rfl, rfl⟩ | ⟨rfl, rfl⟩ | ⟨rfl, rfl⟩ | ⟨rfl, rfl⟩ | ⟨rfl, rfl⟩ | ⟨rfl, rfl⟩ | ⟨rfl, rfl⟩ | ⟨rfl, rfl⟩ | ⟨rfl, rfl⟩ |
      ⟨rfl, rfl⟩ | ⟨rfl, rfl⟩ | ⟨rfl, rfl⟩ | ⟨rfl, rfl⟩ | ⟨rfl, rfl⟩ | ⟨rfl, rfl⟩ | ⟨rfl, rfl⟩ | ⟨rfl, rfl⟩ | ⟨rfl, rfl⟩ | ⟨rfl, rfl⟩ |
      ⟨rfl, rfl⟩ | ⟨rfl, rfl⟩
    case inr.inl | inr.inr.inl | inr.inr.inr.inl => exact ⟨if_pos hn, rfl, nofun⟩
    all_goals exact ⟨rfl, rfl, nofun⟩
  obtain ⟨hexec, heffect, hfunc⟩ := hrow
  refine ⟨u.queueWrite (settingKey k) (w.taken u k), ?_, rfl, fun j => rfl, ?_, fun j hj => ?_⟩
  · have hwrite := write_wait w s u x k hserved (by simp [heffect]) (exec c s) hexec hbar hfunc
    rw [hwrite, RowWrite.answered, heffect]
    rfl
  · rw [State.waitingFor_queueWrite, if_pos rfl]
  · rw [State.waitingFor_queueWrite, if_neg hj]

end Sys2Proof.Machine
end

section
/-! Proofs: the tile audit (spec/06 R253–R255; spec/14 R570, R571), and phases and setpoints (spec/13 R531, R532). -/
namespace Sys2Proof.Machine
open Sys2Proof

/-! ### The tile audit -/

/-- The unrepaired outputs of a capture, which are judged. -/
def Capture.judged (c : Capture) : List (OutNum × Nat) := c.outs.zipIdx.filter (fun x => x.1.state == .ok)

/-- Those of them that fail against the exact value of their aligned digits. -/
def State.auditBad (s : State) (c : Capture) : List Nat :=
  (c.judged.filter (fun x => !auditPass (s.set0 .AUDIT_TOL_TICKS) (s.set0 .AUDIT_TOL_GAIN) c.pass x.1
    (auditExact (s.imageAt c.pass.eng c.pass.tier) c.pass (c.first + x.2)))).map (fun x => c.first + x.2)

/-- The capture leaves the core, and its judged outputs are counted. -/
def State.captureTaken (s : State) (c : Capture) : State :=
  ({ s with kpr := { s.kpr with captures := s.kpr.captures.filter (fun d => !decide (d = c)) } } : State).incK .AUDIT_COUNT c.pass.kw
    c.judged.length

theorem State.captureTaken_engine (s : State) (c : Capture) (e : Nat) : (s.captureTaken c).engine e = s.engine e := by
  rw [State.captureTaken, State.engine, State.incK_eng]
  rfl

/-- Once the capture's outputs that fail have been dealt with, the tier's failures are noted, and the core may be isolated. -/
def State.auditFailed (s : State) (core : Nat) (c : Capture) : State :=
  (s.putTier c.pass.eng c.pass.tier { (s.engine c.pass.eng).tier c.pass.tier with
    auditFails := (s.beat.count :: ((s.engine c.pass.eng).tier c.pass.tier).auditFails).filter (fun b => s.beat.count < b + 1024) }).coreEscalate core

/-- An audit that runs judges the oldest capture of its core. -/
theorem tileAudit_of_quiet {s : State} {core : Nat} {c : Capture} (hquiet : s.quietFor core = true) (hstall : s.pwr.stalled = false)
    (hdue : s.boundaryDue = false) (hcap : s.kpr.captures.find? (fun c => c.core == core) = some c) :
    tileAudit core s =
      if s.auditBad c = [] then
        (s.captureTaken c).putTier c.pass.eng c.pass.tier { ((s.captureTaken c).engine c.pass.eng).tier c.pass.tier with auditBeat := c.beat }
      else (((s.captureTaken c).auditFails c (s.auditBad c)).nameAffectedAll c.pass.eng c.pass.tier c.beat).auditFailed core c := by
  unfold tileAudit
  rw [hcap]
  exact if_neg (by simp [hquiet, hstall, hdue])

/-- Settles O21: by what an audit that runs does, split on whether an output fails. -/
theorem tileAuditJudges : Obligations.TileAuditJudges := by
  intro t core s y c judged bad hcore hquiet hstall hdue hcap hjudged hbad hy
  have hx : exec (.tileAudit t core) s = .next (tileAudit core (s.at t)) := if_pos hcore
  rw [hx, tileAudit_of_quiet (s := s.at t) hquiet hstall hdue hcap]
  have hbad : (s.at t).auditBad c = bad := by rw [hbad, hjudged]; rfl
  have hy : (s.at t).captureTaken c = y := by rw [hy, hjudged]; rfl
  have heng : y.engine c.pass.eng = s.engine c.pass.eng := hy ▸ (s.at t).captureTaken_engine c c.pass.eng
  rw [hbad, hy, heng]
  refine ⟨fun hnil => if_pos hnil ▸ rfl, fun hfail z hz => ?_⟩
  rw [if_neg hfail, ← hz]
  rfl

/-! ### Phases (R531) -/

theorem State.phaseSpare_of_due {s : State} {k b : Nat} (hspare : mapFind s.pwr.spareAt (phaseKey k (s.phasesOn k)) = some b) :
    s.phaseSpare k = decide (b + 100000000 ≤ s.now) := by
  simp only [State.phaseSpare, hspare]

theorem State.phaseSpare_true {s : State} {k : Nat} (h : s.phaseSpare k = true) :
    ∃ b, mapFind s.pwr.spareAt (phaseKey k (s.phasesOn k)) = some b ∧ b + 100000000 ≤ s.now := by
  unfold State.phaseSpare at h
  split at h
  next b hb => exact ⟨b, hb, of_decide_eq_true h⟩
  next => cases h

theorem phaseAdd_of_sheds {s : State} {k : Nat} (hsheds : s.sheds k = true) :
    phaseAdd k s = if s.phasesOn k < s.phasesNeeded k then { s with pwr := { s.pwr with phases := mapSet s.pwr.phases k (s.phasesOn k + 1) } }
      else s := by
  simp [phaseAdd, hsheds]

theorem phaseDrop_of_sheds {s : State} {k : Nat} (hsheds : s.sheds k = true) :
    phaseDrop k s = if s.phasesNeeded k < s.phasesOn k ∧ s.phaseSpare k = true then
      { s with pwr := { s.pwr with phases := mapSet s.pwr.phases k (s.phasesOn k - 1) } } else s := by
  simp [phaseDrop, hsheds]

/-! ### Setpoints (R532) -/

theorem State.setPwr_writes (s : State) (p : PwrS) : Writes [.pwr] s { s with pwr := p } := by
  intro f hf
  cases f with
  | pwr => simp at hf
  | _ => rfl

/-- The die has reported, and unless its slack is above the high mark, not above it. -/
def State.slackSeen (s : State) (die mon : Nat) (slack : Int) : State :=
  { s with pwr := { s.pwr with
      seen := if s.pwr.seen.contains die then s.pwr.seen else s.pwr.seen ++ [die]
      low := if slack > Config.avsHigh die mon then s.pwr.low else if s.pwr.low.contains die then s.pwr.low else s.pwr.low ++ [die] } }

/-- The die's setpoint may rise: it has not risen in the last 10 µs. -/
def State.mayRise (s : State) (die : Nat) : Bool :=
  match mapFind s.pwr.rose die with
  | some b => decide (s.now ≥ b + 10000000)
  | none => true

section
variable {s : State} {die mon : Nat} {slack : Int}

theorem State.mayRise_of {s : State} (h : ∀ b, mapFind s.pwr.rose die = some b → b + 10000000 ≤ s.now) : s.mayRise die = true := by
  unfold State.mayRise
  split
  next b hb => exact decide_eq_true (h b hb)
  next => rfl

theorem State.mayRise_not {s : State} {b : Nat} (hb : mapFind s.pwr.rose die = some b) (h : s.now < b + 10000000) : s.mayRise die = false := by
  simp only [State.mayRise, hb]
  exact decide_eq_false (Nat.not_le.mpr h)

theorem avsReport_of_off (hoff : s.set0 .AVS_ENABLE = 0) : avsReport die mon slack s = s :=
  if_pos (by simp [hoff])

theorem avsReport_of_on (hon : s.set0 .AVS_ENABLE ≠ 0) :
    avsReport die mon slack s =
      if slack < Config.avsLow die mon then
        if s.pwr.vcore.getD die 750 ≥ 850 then (s.slackSeen die mon slack).raise 0x4D07 0xFF (uidDie die)
        else if s.mayRise die then
          { s.slackSeen die mon slack with pwr := { (s.slackSeen die mon slack).pwr with
              vcore := s.pwr.vcore.set die (min 850 (s.pwr.vcore.getD die 750 + 5)), rose := mapSet s.pwr.rose die s.now } }
        else s.slackSeen die mon slack
      else s.slackSeen die mon slack :=
  if_neg (by simp [hon])

end

/-- Settles O48: the phase operations where the domain sheds, and a report by its slack, the setpoint and the last rise. -/
theorem phasesAndSetpoints : Obligations.PhasesAndSetpoints := by
  refine ⟨fun t k s hk hsheds => ?phases, fun t die mon slack s hdie => ?setpoints⟩
  case phases =>
    have hadd : exec (.phaseAdd t k) s = .next _ := (if_pos hk).trans (congrArg Host.Outcome.next (phaseAdd_of_sheds (s := s.at t) hsheds))
    have hdrop : exec (.phaseDrop t k) s = .next _ := (if_pos hk).trans (congrArg Host.Outcome.next (phaseDrop_of_sheds (s := s.at t) hsheds))
    refine ⟨fun hneed => ?_, fun hneed => ?_, fun b hb hneed hdue => ?_, fun hkeep => ?_⟩
    · rw [hadd]
      exact congrArg Host.Outcome.next (if_pos hneed)
    · rw [hadd]
      exact congrArg Host.Outcome.next (if_neg (Nat.not_lt.mpr hneed))
    · rw [hdrop]
      refine congrArg Host.Outcome.next (if_pos ⟨hneed, ?_⟩)
      rw [State.phaseSpare_of_due (s := s.at t) hb]
      exact decide_eq_true hdue
    · rw [hdrop]
      refine congrArg Host.Outcome.next (if_neg ?_)
      rintro ⟨hneed, hspare⟩
      rcases hkeep with hkeep | hkeep
      · exact absurd hneed (Nat.not_lt.mpr hkeep)
      · obtain ⟨b, hb, hdue⟩ := State.phaseSpare_true hspare
        exact absurd (hkeep b hb) (Nat.not_lt.mpr hdue)
  case setpoints =>
    have hx : exec (.avsSlackReport t die mon slack) s = .next (avsReport die mon slack (s.at t)) := if_pos hdie
    refine ⟨fun hoff => ?_, fun hon hhigh => ?_, fun hon hlow hroom => ⟨fun hrise => ?_, fun b hb hrose => ?_⟩, fun hon hlow hmax => ?_⟩
    · rw [hx, avsReport_of_off (s := s.at t) hoff]
    · rw [avsReport_of_on (s := s.at t) hon, if_neg (Int.not_lt.mpr hhigh)] at hx
      exact Does.of_next hx (State.setPwr_writes _ _) ⟨rfl, rfl⟩
    · rw [avsReport_of_on (s := s.at t) hon, if_pos hlow, if_neg (Nat.not_le.mpr (show (s.at t).pwr.vcore.getD die 750 < 850 from hroom)), if_pos (State.mayRise_of (s := s.at t) hrise)] at hx
      exact Does.of_next hx (State.setPwr_writes _ _) ⟨rfl, rfl⟩
    · rw [avsReport_of_on (s := s.at t) hon, if_pos hlow, if_neg (Nat.not_le.mpr (show (s.at t).pwr.vcore.getD die 750 < 850 from hroom)),
        if_neg (by simp [State.mayRise_not (s := s.at t) hb hrose])] at hx
      exact Does.of_next hx (State.setPwr_writes _ _) ⟨rfl, rfl⟩
    · rw [avsReport_of_on (s := s.at t) hon, if_pos hlow, if_pos (show (s.at t).pwr.vcore.getD die 750 ≥ 850 from hmax)] at hx
      exact ⟨(s.at t).slackSeen die mon slack, ((s.at_writes t).mono (by simp)).trans ((State.setPwr_writes _ _).mono (by simp)), rfl, rfl, hx⟩

end Sys2Proof.Machine
end

section
/-! Proofs: attention maps (spec/09 R369). -/
namespace Sys2Proof.Machine
open Sys2Proof

/-- A request that has come as a whole frame is served on its path. -/
def State.serveOn (s : State) (p : GdpPath) (f : Bytes) (q : GReq) : State :=
  match p with
  | .mailbox fn irq => s.serveBox fn irq (s.boxReq fn f) 0 q
  | _ => s.serveRemote p 0 q

theorem State.serveOn_stands {s : State} {p : GdpPath} {f : Bytes} {q : GReq} {x : Session} (hp : s.answersOn p = true)
    (hq : (s.taking p f).stands q x = true) :
    s.serveOn p f q =
      ((s.taking p f).operate q ((s.taking p f).ctxOf q x)).1.replied p q ((s.taking p f).operate q ((s.taking p f).ctxOf q x)).2 := by
  cases p with
  | mailbox fn irq => exact serveBox_stands s fn irq f q x hp hq
  | mgmt a b c => exact serveRemote_stands s _ q x (by simp [pathCode]) hp hq
  | i3c a b c => exact serveRemote_stands s _ q x (by simp [pathCode]) hp hq

/-- A value longer than a frame is such a request, its segments in one. -/
theorem blockIn_serveOn (o : Obj) (inst : Nat) (p : GdpPath) (h : ReqHead) (value f : Bytes) (q : GReq) (s : State)
    (hf : f = gdpFrame 4 h.session h.seq (keyIndex ⟨o, inst, 0⟩) (keySub ⟨o, inst, 0⟩) 0 (h.detail % 256 / 2 * 2 + 1) h.target [])
    (hq : q = { reqOf p f with whole := some value }) : blockIn o inst p h value s = s.serveOn p f q := by
  subst hf hq
  cases p <;> rfl

/-- A closed sequence of an attention map is one value, which waits. -/
theorem State.doWriteBlock_map {u z : State} {q : GReq} {c : Ctx} {k : OKey} {payload : Bytes} {v : OVal × List Clamp} (hwhole : q.whole = some payload)
    (hk : u.lookup c q.index q.sub = some k) (hobj : k.obj = .ATTN_MAP)
    (hz : z = { u with gdp := { u.gdp with blocks := u.gdp.blocks.filter (fun b => !q.mine (settingKey k) b) } })
    (hv : v = z.rangeCheck (settingKey k) (.blob (joinSegs .ATTN_MAP [(0, payload)]))) :
    u.doWriteBlock q c = ((z.queueWrite (settingKey k) v.1).clamped c k v.2, { acceptedAnswer .ATTN_MAP false v with payload := [] }) := by
  have hsegs : u.segments q (settingKey k) = [(0, payload)] := by simp [State.segments, hwhole]
  refine block_closed u q c k _ (acceptedAnswer .ATTN_MAP false v) hk (by simp [GReq.closes, hwhole]) ?_ (acceptedAnswer_status _ _ _)
  rw [← hz, hsegs, hobj, State.accept]
  have htype : (Obj.ATTN_MAP.spec.ty == .blob) = true := rfl
  rw [if_pos htype, ← hv, wait_value z c k v q.buf (by rw [hobj]; nofun) (noBar z k _ (by simp [hobj]) (by simp [hobj]) (by simp [hobj])
    (by simp [hobj])) (by simp [hobj]), hobj]

/-! ### The map that stands for a version -/

/-- The slot's maps once one is put. -/
theorem State.putMap_of_version {s : State} {n : Nat} {b : Bytes} (h : s.versions.any (fun p => p.1 == n && p.2.2.number == leAt b 0 4) = true) :
    (s.putMap n b).kv.maps = s.kv.maps.filter (fun m => !(m.slot == n && m.version == leAt b 0 4)) ++ [⟨n, leAt b 0 4, b⟩] := by
  unfold State.putMap
  dsimp only
  rw [if_pos h, apply_ite State.kv, State.note_kv, ite_self]

theorem State.mapOf_putMap {s : State} {n m : Nat} {b : Bytes} (h : s.versions.any (fun p => p.1 == n && p.2.2.number == leAt b 0 4) = true) :
    (s.putMap n b).mapOf n m = if m = leAt b 0 4 then some b else s.mapOf n m := by
  rw [State.mapOf, State.putMap_of_version h, List.find?_append]
  by_cases hm : m = leAt b 0 4
  · subst hm
    rw [find?_filter_of_dropped fun x hx => by simpa using hx]
    simp
  · rw [find?_filter_of_kept fun x hx => by
      obtain ⟨hslot, hver⟩ : x.slot = n ∧ x.version = m := by simpa using hx
      simp [hver, hm]]
    simp [hm, Ne.symm hm, State.mapOf]

/-- Settles O33: the sequence is a block write that waits; a put map is found for its version alone. -/
theorem attentionMaps : Obligations.AttentionMaps := by
  refine ⟨fun t n p h payload f s u z x k q v hn hp hf hq hu hans hstands hk hobj hz hv => ?accept, fun n v b s hv => ⟨fun hver => ?here, fun hver => ?none⟩⟩
  case accept =>
    have hx : exec (.attnMap t p h n payload) s = .next (blockIn .ATTN_MAP n p h payload (s.at t)) := if_pos ⟨hn, hp⟩
    have hop : u.operate q (u.ctxOf q x) = u.doWriteBlock q (u.ctxOf q x) := by
      have : q.op = 4 := by rw [hq, hf, reqOf_gdpFrame _ _ _ _ _ _ _ _ _ _ (by simp)]
      simp only [State.operate, this]
    have hwhole : q.whole = some payload := by rw [hq]
    rw [hx, blockIn_serveOn _ _ _ _ _ f q _ hf hq, State.serveOn_stands hans (hu ▸ hstands), ← hu, hop,
      State.doWriteBlock_map hwhole hk hobj hz hv]
  case here =>
    obtain ⟨w, c, hmem, hnum⟩ := hver
    have hany : s.versions.any (fun p => p.1 == n && p.2.2.number == leAt b 0 4) = true :=
      List.any_eq_true.mpr ⟨_, hmem, by simp [hnum, hv]⟩
    rw [hv]
    exact ⟨by rw [State.mapOf_putMap hany, if_pos rfl], fun m hm => by rw [State.mapOf_putMap hany, if_neg hm]⟩
  case none =>
    have hany : s.versions.any (fun p => p.1 == n && p.2.2.number == leAt b 0 4) = false := by
      rw [List.any_eq_false]
      rintro ⟨m, w, c⟩ hmem
      simp only [Bool.and_eq_true, beq_iff_eq, not_and]
      rintro rfl
      exact hv ▸ hver w c hmem
    rw [hv]
    exact if_neg (by simp [hany])

end Sys2Proof.Machine
end

section
/-! Proofs: the serving registers (spec/10 R403, R404, R416, R430, R434) and the limits of waiting requests (R408, R438). -/
namespace Sys2Proof.Machine
open Sys2Proof

/-! ### The host's memory -/

/-- What the host writes leaves every other byte. -/
theorem memByte_memLoad_of_not_mem {m : List Host.Cell} {l : List HostCell} {a : Nat} (hm : memWf m = true) (ha : ∀ c, c ∈ l → c.1 ≠ a) :
    memByte (memLoad m l) a = memByte m a := by
  induction l generalizing m with
  | nil => rfl
  | cons c r ih =>
    rw [memLoad, ih (memPut_wf m c.1 c.2 hm) fun d hd => ha d (List.mem_cons_of_mem _ hd), memByte_memPut m c.1 a c.2 hm,
      if_neg (Ne.symm (ha c (List.mem_cons_self ..)))]

/-! ### Cancellation and re-arming (R430, R434) -/

theorem ReqS.active_iff {r : ReqS} : r.active = true ↔ r.state ≠ .free ∧ r.state ≠ .ended := by
  simp [ReqS.active]

section
variable {s : State} {kw i : Nat} (via : Nat)

theorem State.cancelReq_of_active (hactive : (s.req i).active = true) (hkw : (s.req i).kw = kw) (hcancel : (s.req i).cancel = none) :
    s.cancelReq kw i via = s.putReq i { s.req i with cancel := some s.notchTime } := by
  obtain ⟨hfree, hended⟩ := ReqS.active_iff.mp hactive
  simp [State.cancelReq, hfree, hended, hkw, hcancel]

theorem State.cancelReq_of_unknown (h : (s.req i).state = .free ∨ (s.req i).kw ≠ kw) :
    s.cancelReq kw i via = (s.putSub kw { s.sub kw with unknown := true }).raise 0x4A05 kw 0 i via :=
  if_pos (by simpa using h)

/-- An entry that has ended, or is already to be cancelled, stays as it is. -/
theorem State.cancelReq_of_over (hfree : (s.req i).state ≠ .free) (hkw : (s.req i).kw = kw)
    (h : (s.req i).state = .ended ∨ (s.req i).cancel.isSome = true) : s.cancelReq kw i via = s := by
  unfold State.cancelReq
  dsimp only
  rw [if_neg (by simp [hfree, hkw]), if_pos (by simpa using h)]

theorem State.rearmReq_of_disarmed (hactive : (s.req i).active = true) (hkw : (s.req i).kw = kw) (hdis : (s.req i).disarmed = true) :
    s.rearmReq kw i = s.putReq i { s.req i with rearmNext := true } :=
  if_pos (by simp [hactive, hkw, hdis])

theorem State.rearmReq_of_armed (h : (s.req i).active = false ∨ (s.req i).kw ≠ kw ∨ (s.req i).disarmed = false) : s.rearmReq kw i = s := by
  unfold State.rearmReq
  rcases h with h | h | h <;> simp [h]

end

/-! ### The registers of a function -/

theorem submitTail_of_here {fn tail : Nat} {host : List HostCell} {s : State} (hhere : s.fnHere fn = true) (hopen : s.kwClosing fn = false) :
    submitTail fn tail host s = (s.hostWrote host).putSub fn { s.sub fn with tail := tail % 65536 } := by
  have hcond : ¬((!(s.hostWrote host).fnHere fn || (s.hostWrote host).kwClosing fn) = true) := by
    have h1 : (s.hostWrote host).fnHere fn = true := hhere
    have h2 : (s.hostWrote host).kwClosing fn = false := hopen
    simp [h1, h2]
  exact if_neg hcond

theorem submitTail_of_absent {fn tail : Nat} {host : List HostCell} {s : State} (h : s.fnHere fn = false ∨ s.kwClosing fn = true) :
    submitTail fn tail host s = s.hostWrote host := by
  have hcond : (!(s.hostWrote host).fnHere fn || (s.hostWrote host).kwClosing fn) = true := by
    have h : (s.hostWrote host).fnHere fn = false ∨ (s.hostWrote host).kwClosing fn = true := h
    rcases h with h | h <;> simp [h]
  exact if_pos hcond

theorem tokenGapEnd_of_passed {s : State} {fn last : Nat} (hheld : (s.sub fn).irqHeld = true) (hlast : (s.sub fn).irqLast = some last)
    (hpast : s.notchesPast last (s.setK .TOKEN_IRQ_GAP fn) = true) :
    tokenGapEnd fn s =
      (s.putSub fn { s.sub fn with irqHeld := false, irqLast := some s.notchClock }).emit (.msix fn (s.setK .TOKEN_VECTOR fn)) := by
  unfold tokenGapEnd
  simp [hheld, hlast, hpast]

theorem testBit_go {i : Nat} (hi : i < 32768) : (2 ^ 31 + i).testBit 31 = true := by
  rw [Nat.testBit_two_pow_add_eq, Nat.testBit_lt_two_pow (by omega), Bool.not_false]

/-- A write of an object that acts at once without a refusal, answered. -/
theorem RowWrite.outcome_now {w : RowWrite} {s u y : State} {x : Session} {k : OKey} (hserved : Served w s u x k)
    (heffect : w.obj.spec.effect = .now) (hfunc : w.obj ≠ .FUNC_ENABLE) (hbar : u.acceptBar (settingKey k) (w.taken u k) = none)
    (hacc : u.acceptNow (w.asker u x) k (w.taken u k) w.buf = (y, none)) : w.outcome s = .next (w.answered u y x k) := by
  rw [write_now w s u x k hserved heffect (w.outcome s) rfl hbar y hacc hfunc, RowWrite.answered, heffect]
  rfl

section
variable {t fn : Nat} {s : State} (hfn : fn < 64) (hhere : s.fnHere fn = true) (hopen : s.kwClosing fn = false)
include hfn hhere hopen

/-- A write of CANCEL or REARM with GO acts on its entry. -/
theorem exec_cancel_go {i : Nat} (hi : i < 32768) : exec (.cancel t fn (2 ^ 31 + i)) s = .next ((s.at t).cancelReq fn i 0) := by
  have hgo := testBit_go hi
  have hidx : (2 ^ 31 + i) % 32768 = i := by omega
  have hx : exec (.cancel t fn (2 ^ 31 + i)) s = .next (if (s.at t).fnHere fn && !(s.at t).kwClosing fn && (2 ^ 31 + i).testBit 31 then
    (s.at t).cancelReq fn ((2 ^ 31 + i) % 32768) 0 else s.at t) := if_pos hfn
  rw [hx, hidx, hgo, if_pos (by simp [hhere, hopen])]

theorem exec_rearmed_go {i : Nat} (hi : i < 32768) : exec (.rearm t fn (2 ^ 31 + i)) s = .next ((s.at t).rearmReq fn i) := by
  have hgo := testBit_go hi
  have hidx : (2 ^ 31 + i) % 32768 = i := by omega
  have hx : exec (.rearm t fn (2 ^ 31 + i)) s = .next (if (s.at t).fnHere fn && !(s.at t).kwClosing fn && (2 ^ 31 + i).testBit 31 then
    (s.at t).rearmReq fn ((2 ^ 31 + i) % 32768) else s.at t) := if_pos hfn
  rw [hx, hidx, hgo, if_pos (by simp [hhere, hopen])]

end

/-- Settles O34: each register by the lemma of its operation, and REQ_CANCEL and REQ_REARM as writes that act at once. -/
theorem servingRegisters : Obligations.ServingRegisters := by
  refine ⟨fun t fn tail host s y hfn hy => ⟨fun hhere hopen => ?_, fun habsent => ?_, fun a hwf ha => ?_⟩, fun t fn s hfn hhere => ?status,
    fun t fn i s hfn hhere hopen hi => ⟨fun ha hkw hc => ?_, fun h => ?_, fun h => ?_, fun ha hkw hd => ?_, fun h => ?_, fun v hv => ?nogo⟩,
    fun t i n s hi hn ha hd hpos hdue => ?rearm, fun t fn last s hfn hheld hlast hpast => ?gap, fun t p h v s u x k w => ⟨fun hw hserved => ?reqCancel, fun hw hserved => ?reqRearm, fun i kw ha hkw hc => State.cancelReq_of_active 1 ha hkw hc⟩⟩
  · rw [hy]
    exact (if_pos hfn).trans (congrArg Host.Outcome.next (submitTail_of_here (s := s.at t) hhere hopen))
  · rw [hy]
    exact (if_pos hfn).trans (congrArg Host.Outcome.next (submitTail_of_absent (s := s.at t) habsent))
  · rw [hy]
    exact memByte_memLoad_of_not_mem hwf ha
  case status =>
    have hread : serveStatusRead fn (s.at t) = _ := if_neg (by simp [hhere])
    exact (if_pos hfn).trans (congrArg Host.Outcome.next hread)
  · rw [exec_cancel_go hfn hhere hopen hi]
    exact congrArg Host.Outcome.next (State.cancelReq_of_active (s := s.at t) 0 ha hkw hc)
  · rw [exec_cancel_go hfn hhere hopen hi]
    exact congrArg Host.Outcome.next (State.cancelReq_of_unknown (s := s.at t) 0 h)
  · rw [exec_cancel_go hfn hhere hopen hi]
    refine congrArg Host.Outcome.next ?_
    rcases h with ⟨hended, hkw⟩ | ⟨ha, hkw, hc⟩
    · exact State.cancelReq_of_over (s := s.at t) 0 (by simp [hended]) hkw (.inl hended)
    · exact State.cancelReq_of_over (s := s.at t) 0 (ReqS.active_iff.mp ha).1 hkw (.inr hc)
  · rw [exec_rearmed_go hfn hhere hopen hi]
    exact congrArg Host.Outcome.next (State.rearmReq_of_disarmed (s := s.at t) ha hkw hd)
  · rw [exec_rearmed_go hfn hhere hopen hi]
    exact congrArg Host.Outcome.next (State.rearmReq_of_armed (s := s.at t) h)
  case nogo =>
    exact ⟨(if_pos hfn).trans (congrArg Host.Outcome.next (if_neg (by simp [hv]))),
      (if_pos hfn).trans (congrArg Host.Outcome.next (if_neg (by simp [hv])))⟩
  case rearm =>
    have hrearm : specRearm i (s.at t) = _ := if_pos (by simp [ha, hd, ← hn, hpos, hdue])
    exact (if_pos hi).trans (congrArg Host.Outcome.next hrearm)
  case gap =>
    exact (if_pos hfn).trans (congrArg Host.Outcome.next (tokenGapEnd_of_passed (s := s.at t) hheld hlast hpast))
  case reqCancel =>
    have hobj : k.obj = .REQ_CANCEL := by rw [hserved.2.2.2.2.2.2, hw]; rfl
    have hx : exec (.reqCancel t p h v) s = w.outcome s := hw ▸ rfl
    rw [hx]
    exact RowWrite.outcome_now hserved (hw ▸ rfl) (hw ▸ nofun) (noBar u k _ (by simp [hobj]) (by simp [hobj]) (by simp [hobj]) (by simp [hobj]))
      (by simp [State.acceptNow, hobj])
  case reqRearm =>
    have hobj : k.obj = .REQ_REARM := by rw [hserved.2.2.2.2.2.2, hw]; rfl
    have hx : exec (.reqRearm t p h v) s = w.outcome s := hw ▸ rfl
    rw [hx]
    exact RowWrite.outcome_now hserved (hw ▸ rfl) (hw ▸ nofun) (noBar u k _ (by simp [hobj]) (by simp [hobj]) (by simp [hobj]) (by simp [hobj]))
      (by simp [State.acceptNow, hobj])

end Sys2Proof.Machine
end

section
/-! Proofs: the limits of waiting requests and the end they come to (spec/10 R408, R411, R438). -/
namespace Sys2Proof.Machine
open Sys2Proof

/-! ### What ends a request -/

/-- The host's memory and the entries of the ring, which an interrupt leaves. -/
theorem State.tokenIrq_srv (s : State) (kw : Nat) : (s.tokenIrq kw).srv.reqs = s.srv.reqs ∧ (s.tokenIrq kw).hostMem = s.hostMem ∧
    (s.tokenIrq kw).ward = s.ward := by
  unfold State.tokenIrq
  extract_lets x within
  split <;> exact ⟨rfl, rfl, rfl⟩

section
variable {s : State} {i tok flags lp beat pos : Nat} (hdma : (mapGet s.ward.kws (s.req i).kw {}).noDma = false)
include hdma

theorem State.ringWrite_of_dma :
    s.ringWrite i tok flags lp beat pos =
      ((s.dmaWrite (s.req i).kw ((s.req i).field 24 8 + 16 * ((s.req i).ringProd % (s.req i).ringLen))
        (ringEntry (s.req i).ringProd (s.req i).ringLog2 tok flags lp beat pos)).putReq i
        { s.req i with ringProd := ((s.req i).ringProd + 1) % 2 ^ 32 }).tokenIrq (s.req i).kw :=
  if_neg (by simp [hdma])

theorem State.ringWrite_hostMem :
    (s.ringWrite i tok flags lp beat pos).hostMem =
      memWrite s.hostMem ((s.req i).field 24 8 + 16 * ((s.req i).ringProd % (s.req i).ringLen))
        (ringEntry (s.req i).ringProd (s.req i).ringLog2 tok flags lp beat pos) := by
  rw [State.ringWrite_of_dma hdma, (State.tokenIrq_srv _ _).2.1]
  rfl

theorem State.ringWrite_req :
    (s.ringWrite i tok flags lp beat pos).req i = { s.req i with ringProd := ((s.req i).ringProd + 1) % 2 ^ 32 } := by
  rw [State.ringWrite_of_dma hdma, State.req, (State.tokenIrq_srv _ _).1]
  exact (State.req_putReq _ _ _ _).trans (if_pos rfl)

end

/-- A closed entry is ENDED, and the host's memory is left. -/
theorem State.closeReq_hostMem (s : State) (i cause : Nat) : (s.closeReq i cause).hostMem = s.hostMem := by
  unfold State.closeReq
  dsimp only
  split <;> simp [State.logEnd]

theorem State.closeReq_req (s : State) (i cause : Nat) : (s.closeReq i cause).req i =
    { s.req i with state := .ended, hold := .none, ending := none, batch := none, cancel := none } := by
  have hput : (((s.logEnd i).putReq i { s.req i with state := .ended, hold := .none, ending := none, batch := none, cancel := none }).note
      (s.req i).kw (.ended i)).req i = { s.req i with state := .ended, hold := .none, ending := none, batch := none, cancel := none } := by
    rw [State.req, State.note_srv]
    exact (State.req_putReq _ _ _ _).trans (if_pos rfl)
  unfold State.closeReq
  dsimp only
  split
  · rw [State.req, State.raise_srv, State.incK_srv]
    exact hput
  · exact hput

/-- A request whose limit has passed is ended. -/
theorem State.endIf_of_due {s : State} {p : Bool} (i cause : Nat) (h : p = true) : s.endIf i cause p = (s.endReq i cause).flush := if_pos h

/-- Settles O35: each limit by its own condition, the end by the ring write and the entry that is closed. -/
theorem requestLimitsEndRequests : Obligations.RequestLimitsEndRequests := by
  intro t i s r hi hr
  subst hr
  refine ⟨fun hstate hdue => ?_, fun hstate hhold hlimit hdue => ?_, fun hstate hhold hdue => ?_, fun hstate hdue => ?_, fun cause hdma => ⟨?_, ?_⟩⟩
  · exact (if_pos hi).trans (congrArg Host.Outcome.next (State.endIf_of_due i 7 (by simp [hstate, hdue])))
  · exact (if_pos hi).trans (congrArg Host.Outcome.next (State.endIf_of_due i 12 (by simp [hstate, hhold, hlimit, State.heldFor, hdue])))
  · exact (if_pos hi).trans (congrArg Host.Outcome.next (State.endIf_of_due i 13 (by simp [hstate, hhold, State.heldFor, hdue])))
  · exact (if_pos hi).trans (congrArg Host.Outcome.next (State.endIf_of_due i 11 (by simp [hstate, hdue])))
  · rw [State.endReq, State.closeReq_hostMem, State.ringWrite_hostMem hdma]
  · rw [State.endReq, State.closeReq_req, State.ringWrite_req hdma]

end Sys2Proof.Machine
end

section
/-! Proofs: the rounds of a ring sequence (spec/09 R397, R399, R400), operating time and the Ward watchdog (spec/14 R577, R585, R586). -/
namespace Sys2Proof.Machine
open Sys2Proof

/-! ### Rounds of a ring sequence -/

/-- Without the set of the next round a lane's round waits. -/
theorem State.nextRound_of_none {s : State} {y : RingRound}
    (h : y.sets.find? (fun x => x.origin == (s.seqAt y.seq).originOf (y.round + 1)) = none) : s.nextRound y = s := by
  unfold State.nextRound
  dsimp only
  rw [h]
  split <;> rfl

/-- With it the lane's rows take their partials, and the set goes on, or in the last round the rows are merged. -/
theorem State.nextRound_of_set {s : State} {y : RingRound} {x : RingSet} (hbegun : y.begun = true) (hprefill : y.decode = false)
    (hround : y.round + 1 < (s.seqAt y.seq).ringSize) (hstate : (s.seqAt y.seq).state = 1)
    (hset : y.sets.find? (fun x => x.origin == (s.seqAt y.seq).originOf (y.round + 1)) = some x)
    (hkept : ((s.setRows y x 0 y.rows).seqAt y.seq).state = 1) :
    s.nextRound y =
      let z := s.setRows y x 0 y.rows
      let r := { y with round := y.round + 1, since := z.notchClock }
      if y.round + 2 < (s.seqAt y.seq).ringSize then
        (z.putRound r).sendSet (s.seqAt y.seq) y.seq y.lane x.origin (y.round + 2) ((z.putRound r).stepTop (s.seqAt y.seq)) x.pages
      else (z.putRound r).finishRing r := by
  unfold State.nextRound
  dsimp only
  rw [if_neg (by simp [hbegun, hprefill, hstate, hround]), hset]
  dsimp only
  rw [if_neg (by simp [hkept])]

theorem ringTimeout_of_find {s : State} {seq : Nat} {y : RingRound}
    (h : s.kv.rounds.find? (fun y => y.seq == seq && y.begun && s.notchesPast y.since (s.setK .RING_ROUND_TIMEOUT (s.seqAt seq).kw)) = some y) :
    ringTimeout seq s = (((s.raise 0x8902 (s.seqAt seq).kw (uidAttn y.cluster) seq
      ((s.seqAt seq).ringId + 65536 * (s.awaited y).2 + 16777216 * (s.awaited y).1) ((s.seqAt seq).lane y.lane).layer).dropRing seq).faultStep
        (s.seqAt seq).req .ringTimeout) := by
  unfold ringTimeout
  dsimp only
  rw [h]

/-- Settles O32: a round by whether the next set is here, the timeout by the round that it finds. -/
theorem ringRounds : Obligations.RingRounds := by
  refine ⟨fun t seq s hseq => if_pos hseq, fun s y q hq => ⟨fun hnone => ?_, fun x z r hbegun hprefill hround hstate hset hz hkept hr => ⟨fun hmore => ?_, fun hlast => ?_⟩⟩,
    fun t seq s y q hseq hq hfind => ?_⟩
  · exact State.nextRound_of_none (hq ▸ hnone)
  · subst hq hz hr
    exact (State.nextRound_of_set hbegun hprefill hround hstate hset hkept).trans (if_pos hmore)
  · subst hq hz hr
    exact (State.nextRound_of_set hbegun hprefill hround hstate hset hkept).trans (if_neg (Nat.not_lt.mpr hlast))
  · subst hq
    exact (if_pos hseq).trans (congrArg Host.Outcome.next (ringTimeout_of_find (s := s.at t) hfind))

/-! ### Operating time (R577) -/

theorem opHour_of_late {s : State} (hward : s.boot.ward = true) (hlate : s.evt.opSaved < s.opMsNow / 3600000 * 3600000) :
    opHour s = { s with evt := { s.evt with opSaved := s.opMsNow / 3600000 * 3600000 } } :=
  if_pos (by simp [hward, hlate])

theorem opHour_of_saved {s : State} (hsaved : s.opMsNow / 3600000 * 3600000 ≤ s.evt.opSaved) : opHour s = s :=
  if_neg (by simp [hsaved])

/-! ### The Ward watchdog (R585, R586) -/

/-- What the choice of images leaves of the boot: its state and the standby supply. -/
def BootS.supply (b : BootS) : Nat × Bool := (b.state, b.v3p3)

theorem BootS.loadKind_supply (b : BootS) (kind : Nat) : (b.loadKind kind).supply = b.supply := by
  unfold BootS.loadKind
  dsimp only
  (repeat' split) <;> rfl

/-- A bank of a kind that is tried and PENDING takes its result. -/
def BootS.settleKind (st : Nat) (note : Bool) (b : BootS) (kind : Nat) : BootS :=
  match b.running kind with
  | some i => if (b.bank i).state == 2 then
      { b.putBank i { b.bank i with state := st } with fallback := if note then b.fallback ++ [kind] else b.fallback } else b
  | none => b

theorem BootS.settleKind_supply (st : Nat) (note : Bool) (b : BootS) (kind : Nat) : (b.settleKind st note kind).supply = b.supply := by
  unfold BootS.settleKind
  (repeat' split) <;> rfl

theorem BootS.settlePending_supply (b : BootS) (st : Nat) (note : Bool) : (b.settlePending st note).supply = b.supply := by
  have hfold : b.settlePending st note = [1, 2, 3].foldl (BootS.settleKind st note) b := rfl
  simp only [hfold, List.foldl_cons, List.foldl_nil, BootS.settleKind_supply]

/-- The expiries of the last 10 minutes, the present one with them. -/
def State.wdtRecent (s : State) : List Nat := s.evt.wdtTimes.filter (fun x => decide (s.now < x + wdtWindow)) ++ [s.now]

/-- The banks once the Ward is reset: a new image that was tried has failed, and the Ward that is not held loads anew. -/
def State.wdtBanks (s : State) (held : Bool) : BootS :=
  let b := if s.boot.state == 6 || s.boot.state == 7 then s.boot else s.boot.settlePending 3 true
  if held then b else b.loadKind 1

theorem State.wdtBanks_supply (s : State) (held : Bool) : (s.wdtBanks held).supply = s.boot.supply := by
  unfold State.wdtBanks
  dsimp only
  (repeat' split) <;> simp only [BootS.loadKind_supply, BootS.settlePending_supply]

/-- The Ward is reset and counted, and where it is held stops the device. -/
def State.wdtReset (s : State) (held : Bool) : State :=
  { s.putCount ⟨.WARD_WDT_RESETS, 0, 0⟩ (s.count ⟨.WARD_WDT_RESETS, 0, 0⟩ + 1) with
    boot := { s.wdtBanks held with ward := false, recovery := !held && ((s.wdtBanks held).running 1).isNone }
    evt := { s.evt with opMs := s.opMsNow, opSince := none, wdtTimes := s.wdtRecent, wdtLast := s.now, wdtHeld := held, wdtStop := held, wdtBack := !held } }

theorem State.wdtReset_writes (s : State) (held : Bool) : Writes [.cnt, .evt, .boot] s (s.wdtReset held) := by
  intro f hf
  cases f with
  | cnt | evt | boot => simp at hf
  | _ => rfl

theorem State.wdtReset_count (s : State) (held : Bool) :
    (s.wdtReset held).count ⟨.WARD_WDT_RESETS, 0, 0⟩ = s.count ⟨.WARD_WDT_RESETS, 0, 0⟩ + 1 :=
  (State.count_putCount _ _ _ _).trans (if_pos rfl)

/-- With the Ward down the alert stands. -/
theorem State.wdtReset_alertLow {s : State} (held : Bool) (hsupply : s.boot.v3p3 = true) : (s.wdtReset held).alertLow = true := by
  have hkept : (s.wdtBanks held).v3p3 = true := (congrArg Prod.snd (s.wdtBanks_supply held)).trans hsupply
  simp [State.alertLow, State.wdtReset, hkept]

/-- The watchdog is powered, runs, and has not been restarted for 100 ms. -/
def State.wdtDue (s : State) : Prop :=
  s.boot.por = true ∧ s.boot.v3p3 = true ∧ s.railOn 23 = true ∧ s.evt.wdtHeld = false ∧ s.evt.wdtLast + wdtLimit ≤ s.now

theorem wdtExpiry_of_not_due {s : State} (h : ¬s.wdtDue) : wdtExpiry s = s := by
  refine if_pos ?_
  simp only [State.wdtDue, Classical.not_and_iff_not_or_not, Bool.not_eq_true, Bool.not_eq_false, Nat.not_le] at h
  simpa only [Bool.or_eq_true, Bool.not_eq_true', decide_eq_true_eq, or_assoc] using h

theorem wdtExpiry_of_due {s : State} {held : Bool} (h : s.wdtDue) (hcount : s.count ⟨.WARD_WDT_RESETS, 0, 0⟩ + 1 < 2 ^ 32)
    (hheld : held = decide (s.wdtRecent.length ≥ 3)) :
    wdtExpiry s = if held && s.beat.mode == .seeking then (s.wdtReset held).wdtStopNow else s.wdtReset held := by
  obtain ⟨hpor, hsupply, hrail, hrun, hlate⟩ := h
  have hinc : s.inc .WARD_WDT_RESETS = s.putCount ⟨.WARD_WDT_RESETS, 0, 0⟩ (s.count ⟨.WARD_WDT_RESETS, 0, 0⟩ + 1) := State.inc_of_lt hcount
  unfold wdtExpiry
  rw [if_neg (by simp [hpor, hsupply, hrail, hrun, hlate]), hinc, hheld]
  rfl

/-- Settles O53: the watchdog by whether it is due, its reset by the expiries of the last 10 minutes. -/
theorem operatingTimeAndWatchdog : Obligations.OperatingTimeAndWatchdog := by
  refine ⟨fun t s hward => ⟨fun hlate => ?_, fun hsaved => ?_, ?_⟩, fun t s hnot => ?_,
    fun t s recent hpor hsupply hrail hrun hlate hrecent hcount => ⟨fun hfew => ?_, fun hmany hmode => ?_⟩⟩
  · exact congrArg Host.Outcome.next (opHour_of_late (s := s.at t) hward hlate)
  · exact congrArg Host.Outcome.next (opHour_of_saved (s := s.at t) hsaved)
  · exact congrArg Host.Outcome.next (if_pos hward)
  · refine congrArg Host.Outcome.next (wdtExpiry_of_not_due (s := s.at t) ?_)
    rintro ⟨hpor, hsupply, hrail, hrun, hlate⟩
    have hlate : s.evt.wdtLast + 100000000000 ≤ max s.now t := hlate
    rcases hnot with h | h | h | h | h
    · exact absurd (hpor.symm.trans h) nofun
    · exact absurd (hsupply.symm.trans h) nofun
    · exact absurd (hrail.symm.trans h) nofun
    · exact absurd (hrun.symm.trans h) nofun
    · omega
  all_goals
    have hdue : (s.at t).wdtDue := ⟨hpor, hsupply, hrail, hrun, hlate⟩
    have hlen : (s.at t).wdtRecent = recent := hrecent.symm
    have hstate (held : Bool) : ((s.at t).wdtBanks held).state = s.boot.state := congrArg Prod.fst ((s.at t).wdtBanks_supply held)
  · have hx : exec (.wardWdtExpiry t) s = .next _ := congrArg Host.Outcome.next
      (wdtExpiry_of_due (s := s.at t) (held := false) hdue hcount (by simp [hlen, hfew]))
    exact Does.of_next hx (State.wdtReset_writes _ _) ⟨rfl, rfl, rfl, rfl, hlen, rfl, rfl, rfl, rfl, hstate false,
      State.wdtReset_count _ _, State.wdtReset_alertLow (s := s.at t) false hsupply⟩
  · have hx : exec (.wardWdtExpiry t) s = .next _ := congrArg Host.Outcome.next
      ((wdtExpiry_of_due (s := s.at t) (held := true) hdue hcount (by simp [hlen, hmany])).trans (if_neg (by simp [hmode])))
    exact Does.of_next hx (State.wdtReset_writes _ _) ⟨rfl, rfl, rfl, rfl, hlen,
      State.wdtReset_count _ _, State.wdtReset_alertLow (s := s.at t) true hsupply⟩

end Sys2Proof.Machine
end

section
/-! Proofs: power samples and the guard (spec/13 R534, R535), readings of temperatures (R542–R546, R553). -/
namespace Sys2Proof.Machine
open Sys2Proof

/-! ### A power sample -/

/-- The maps of voltages and currents once the domains of a list have been sampled. -/
def PwrS.sampled (p : PwrS) (mv ua : Nat → Nat) (l : List Nat) : PwrS :=
  l.foldl (fun p k => { p with mv := mapSet p.mv k (mv k), ua := mapSet p.ua k (ua k) }) p

section
variable (p : PwrS) (mv ua : Nat → Nat) (l : List Nat)

theorem PwrS.sampled_eq : p.sampled mv ua l = { p with mv := (p.sampled mv ua l).mv, ua := (p.sampled mv ua l).ua } := by
  induction l generalizing p with
  | nil => rfl
  | cons k r ih => exact ih _

theorem PwrS.sampled_mv {k : Nat} : mapFind (p.sampled mv ua l).mv k = if k ∈ l then some (mv k) else mapFind p.mv k := by
  induction l generalizing p with
  | nil => simp [PwrS.sampled]
  | cons j r ih =>
    refine (ih _).trans ?_
    by_cases hr : k ∈ r <;> by_cases hj : j = k <;> simp [hr, hj, Ne.symm]

theorem PwrS.sampled_ua {k : Nat} : mapFind (p.sampled mv ua l).ua k = if k ∈ l then some (ua k) else mapFind p.ua k := by
  induction l generalizing p with
  | nil => simp [PwrS.sampled]
  | cons j r ih =>
    refine (ih _).trans ?_
    by_cases hr : k ∈ r <;> by_cases hj : j = k <;> simp [hr, hj, Ne.symm]

end

/-- The domains' voltages and currents that a sample takes. -/
def State.sampledPwr (s : State) (mv : List Nat) (imon : List Int) : PwrS :=
  s.pwr.sampled (fun k => mv.getD k 0) (fun k => s.imonCurrent k (imon.getD k 0)) (List.range 24)

/-- Package power in mW, of the domains of a list. -/
def State.powerOf (s : State) (ks : List Nat) : Nat := sumNat (ks.map (fun k => mapGet s.pwr.mv k 0 * s.current k)) / 1000000

/-- The phases' needs and the power of a state join its samples. -/
def State.sampleJoins (s : State) (ks : List Nat) : State :=
  { s with pwr := { s.pwr with
      samples := (s.powerOf ks :: s.pwr.samples).take 1000
      energy := s.pwr.energy + s.powerOf ks * 10
      spareAt := (ks.flatMap (fun k => (List.range (phaseCount k)).map (fun n => (k, n + 1)))).foldl (fun (m : Map Nat) x =>
        if x.2 ≤ s.phasesNeeded x.1 then mapDel m (phaseKey x.1 x.2)
        else if (mapFind m (phaseKey x.1 x.2)).isSome then m else mapSet m (phaseKey x.1 x.2) s.now) s.pwr.spareAt } }

theorem State.takeSample_eq (s : State) (mv : List Nat) (imon : List Int) :
    s.takeSample mv imon = State.sampleJoins { s with pwr := s.sampledPwr mv imon } (List.range 24) := by
  unfold State.takeSample State.sampleJoins State.sampledPwr PwrS.sampled State.powerOf
  generalize List.range 24 = ks
  rfl

section
variable (s : State) (ks : List Nat)

theorem State.sampleJoins_mv : (s.sampleJoins ks).pwr.mv = s.pwr.mv := rfl
theorem State.sampleJoins_ua : (s.sampleJoins ks).pwr.ua = s.pwr.ua := rfl
theorem State.sampleJoins_powerOf : (s.sampleJoins ks).powerOf ks = s.powerOf ks := rfl
theorem State.sampleJoins_stalled : (s.sampleJoins ks).pwr.stalled = s.pwr.stalled := rfl
theorem State.sampleJoins_samples : (s.sampleJoins ks).pwr.samples = (s.powerOf ks :: s.pwr.samples).take 1000 := rfl
theorem State.sampleJoins_energy : (s.sampleJoins ks).pwr.energy = s.pwr.energy + s.powerOf ks * 10 := rfl

end

/-- What a sample leaves of the power's state. -/
theorem State.sampledPwr_kept (s : State) (mv : List Nat) (imon : List Int) :
    (s.sampledPwr mv imon).stalled = s.pwr.stalled ∧ (s.sampledPwr mv imon).samples = s.pwr.samples ∧
      (s.sampledPwr mv imon).energy = s.pwr.energy := by
  unfold State.sampledPwr
  rw [PwrS.sampled_eq]
  exact ⟨rfl, rfl, rfl⟩

section
variable (s : State) (mv : List Nat) (imon : List Int)

theorem State.takeSample_mv {k : Nat} (hk : k < 24) : mapGet (s.takeSample mv imon).pwr.mv k 0 = mv.getD k 0 := by
  rw [State.takeSample_eq, State.sampleJoins_mv, mapGet]
  show (mapFind (s.sampledPwr mv imon).mv k).getD 0 = _
  rw [State.sampledPwr, PwrS.sampled_mv, if_pos (List.mem_range.mpr hk), Option.getD_some]

theorem State.takeSample_ua {k : Nat} (hk : k < 24) : mapGet (s.takeSample mv imon).pwr.ua k 0 = s.imonCurrent k (imon.getD k 0) := by
  rw [State.takeSample_eq, State.sampleJoins_ua, mapGet]
  show (mapFind (s.sampledPwr mv imon).ua k).getD 0 = _
  rw [State.sampledPwr, PwrS.sampled_ua, if_pos (List.mem_range.mpr hk), Option.getD_some]

theorem State.takeSample_stalled : (s.takeSample mv imon).pwr.stalled = s.pwr.stalled := by
  rw [State.takeSample_eq, State.sampleJoins_stalled]
  exact (s.sampledPwr_kept mv imon).1

theorem State.takeSample_samples :
    (s.takeSample mv imon).pwr.samples = ((s.takeSample mv imon).powerOf (List.range 24) :: s.pwr.samples).take 1000 := by
  rw [State.takeSample_eq, State.sampleJoins_samples, State.sampleJoins_powerOf]
  exact congrArg (fun l => (_ :: l).take 1000) (s.sampledPwr_kept mv imon).2.1

theorem State.takeSample_energy :
    (s.takeSample mv imon).pwr.energy = s.pwr.energy + 10 * (s.takeSample mv imon).powerOf (List.range 24) := by
  rw [State.takeSample_eq, State.sampleJoins_energy, State.sampleJoins_powerOf, Nat.mul_comm]
  exact congrArg (· + _) (s.sampledPwr_kept mv imon).2.2

end

/-! ### The guard (R535) -/

/-- Package power is above what the guard allows. -/
def State.overPower (s : State) : Prop := s.p1 > 1450000 ∨ 100 * s.p10 > 105 * (1000 * s.guardLimit)

theorem State.guard_running {s : State} (h : s.pwr.stalled = false) : s.guard.pwr.stalled = true ↔ s.overPower := by
  unfold State.guard State.overPower
  simp only [h, Bool.false_eq_true, if_false, Bool.or_eq_true, decide_eq_true_eq]
  split
  next habove => simpa using habove
  next habove => simpa [h] using habove

theorem State.guard_stalled {s : State} (h : s.pwr.stalled = true) :
    s.guard.pwr.stalled = false ↔ ¬s.overPower ∧ 10 * s.p1 < 9 * (1000 * s.guardLimit) := by
  have hcount : s.countStall.pwr.stalled = true := by simp [State.countStall, h]
  have hp1 : s.countStall.p1 = s.p1 := by simp [State.p1, State.countStall]
  unfold State.guard State.overPower
  simp only [h, if_true, hp1]
  split
  next hlow => simpa using hlow
  next hlow => simpa [hcount] using hlow

/-! ### Readings (R542–R546, R553) -/

theorem State.emergencyCheck_sense (s : State) : s.emergencyCheck.sense = s.sense := by
  unfold State.emergencyCheck
  split
  · rfl
  · exact foldl_keeps State.sense _ (fun x c => by simp) _ _

theorem State.emergencyAt_rails (s : State) (c cause : Nat) (reading : Int) : (s.emergencyAt c cause reading).pwr.rails = s.pwr.rails := by
  simp [State.emergencyAt]

theorem State.emergencyCheck_rails (s : State) : s.emergencyCheck.pwr.rails = s.pwr.rails := by
  unfold State.emergencyCheck
  split
  · rfl
  · exact foldl_keeps (fun x => x.pwr.rails) _ (fun x c => x.emergencyAt_rails _ _ _) _ _

/-- Nothing is published: the converter is busy, may not take the channel, or has chosen another that it may take. -/
theorem senseReading_of_other {s : State} {conv chan raw : Nat}
    (h : s.convBusy conv = true ∨ s.syscalHolds chan = true ∨ s.converts conv chan = false ∨
      ∃ n, mapFind s.sense.next conv = some n ∧ n ≠ chan ∧ s.syscalHolds n = false ∧ s.converts conv n = true) :
    senseReading chan conv raw s = s := by
  refine if_pos ?_
  rcases h with h | h | h | ⟨n, hn, hne, hsys, hconv⟩
  · simp [h]
  · simp [State.mayConvert, h]
  · simp [State.mayConvert, h]
  · simp [State.otherNext, hn, hne, State.mayConvert, hsys, hconv]

theorem State.newReading_mod (s : State) (c conv raw : Nat) (v : Int × Bool) :
    s.newReading c conv (raw % 2 ^ 24) v = s.newReading c conv raw v := by
  unfold State.newReading
  rw [Nat.mod_mod]

/-- What of the device a reading leaves: all of the sense block but what it publishes, and the domains. -/
def State.publishes (s x : State) (chan : Nat) (r : Reading) : Prop :=
  x.sense.readings = mapSet s.sense.readings chan r ∧ x.sense.memTemps = s.sense.memTemps ∧ x.sense.mode = s.sense.mode ∧
    x.sense.cal = s.sense.cal ∧ x.pwr.rails = s.pwr.rails

theorem senseReading_of_chosen {s : State} {conv chan raw : Nat} (hbusy : s.convBusy conv = false) (hsys : s.syscalHolds chan = false)
    (hconv : s.converts conv chan = true)
    (hnext : ∀ n, mapFind s.sense.next conv = some n → n = chan ∨ s.syscalHolds n = true ∨ s.converts conv n = false) :
    s.publishes (senseReading chan conv raw s) chan (s.newReading chan conv (raw % 2 ^ 24) (s.chanValue chan (raw % 2 ^ 24))) := by
  have hother : s.otherNext conv chan = false := by
    unfold State.otherNext
    split
    next n hn => rcases hnext n hn with h | h | h <;> simp [h, State.mayConvert]
    next => rfl
  unfold senseReading
  rw [if_neg (by simp [hbusy, hother, State.mayConvert, hsys, hconv])]
  extract_lets v r was u1 u2 die sense u3 u4
  have h2 : u2.sense = s.sense ∧ u2.pwr = s.pwr := by
    have h1 : u1.sense = s.sense ∧ u1.pwr = s.pwr := by
      unfold u1
      split <;> exact ⟨rfl, rfl⟩
    unfold u2
    split
    · exact ⟨(State.inc_sense _ _ _).trans h1.1, (State.inc_pwr _ _ _).trans h1.2⟩
    · exact h1
  have h4 : u4.sense = u3.sense ∧ u4.pwr = u3.pwr := by
    unfold u4
    split <;> exact ⟨rfl, rfl⟩
  have hcheck : u4.emergencyCheck.sense = u3.sense := (State.emergencyCheck_sense u4).trans h4.1
  have hsense : u3.sense = { s.sense with
      readings := mapSet s.sense.readings chan r, latest := u3.sense.latest, tjMax := u3.sense.tjMax, pinFault := u3.sense.pinFault } := by
    rw [← h2.1]
  have hrails : u4.emergencyCheck.pwr.rails = s.pwr.rails := by
    rw [State.emergencyCheck_rails, h4.2]
    exact congrArg PwrS.rails h2.2
  have hset : (u4.emergencyCheck.setNext conv chan).sense = { u4.emergencyCheck.sense with
      next := (u4.emergencyCheck.setNext conv chan).sense.next } := rfl
  unfold State.publishes
  rw [hset, hcheck, hsense, State.newReading_mod]
  exact ⟨rfl, rfl, rfl, rfl, hrails⟩

/-- Settles O50: a sample by the power that joins its samples, the guard by what is above it, a reading by what it publishes. -/
theorem powerAndTemperatures : Obligations.PowerAndTemperatures := by
  refine ⟨fun t mv imon s y hmv himon hy => ?sample, fun t chan conv raw s v hchan hconv hv => ⟨fun h => ?other, fun hbusy hsys hmap hnext => ?chosen⟩,
    fun t stack temp s hstack => ?stack⟩
  case sample =>
    subst hy
    have hstalled : ((s.at t).takeSample mv imon).pwr.stalled = s.pwr.stalled := (s.at t).takeSample_stalled mv imon
    refine ⟨if_pos ⟨hmv, himon⟩, fun k hk => ⟨(s.at t).takeSample_mv mv imon hk, (s.at t).takeSample_ua mv imon hk⟩,
      ⟨((s.at t).takeSample mv imon).powerOf (List.range 24), ?_, (s.at t).takeSample_samples mv imon, (s.at t).takeSample_energy mv imon⟩,
      fun h => State.guard_running (hstalled.trans h), fun h => (State.guard_stalled (hstalled.trans h)).trans ?_⟩
    · exact congrArg (sumNat · / 1000000) (List.map_congr_left fun k hk => by
        rw [(s.at t).takeSample_mv mv imon (List.mem_range.mp hk)])
    · simp only [State.overPower, not_or, Nat.not_lt, and_assoc]
  case other => exact (if_pos ⟨hchan, hconv⟩).trans (congrArg Host.Outcome.next (senseReading_of_other (s := s.at t) h))
  case chosen =>
    obtain ⟨hread, hkept⟩ := senseReading_of_chosen (s := s.at t) (raw := raw) hbusy hsys hmap hnext
    refine ⟨_, if_pos ⟨hchan, hconv⟩, ?_, fun c hc => ?_, hkept⟩
    · rw [hread, mapFind_mapSet, if_pos rfl, hv]
      rfl
    · rw [hread, mapFind_mapSet, if_neg (Ne.symm hc)]
      rfl
  case stack =>
    exact ⟨_, if_pos hstack, State.emergencyCheck_sense _⟩

end Sys2Proof.Machine
end

section
/-! Proofs: the event recorder (spec/14 R575, R576, R578, R579, R582, R583, Table 14.7). -/
namespace Sys2Proof.Machine
open Sys2Proof

/-! ### Fields of a built value -/

theorem leAt_append_skip {a r : Bytes} {off n k : Nat} (ha : a.length = k) (hk : k ≤ off) : leAt (a ++ r) off n = leAt r (off - k) n := by
  subst ha
  unfold leAt
  rw [List.drop_append, List.drop_eq_nil_of_le hk, List.nil_append]

theorem leAt_leBytes_skip {r : Bytes} {off n k v : Nat} (hk : k ≤ off) : leAt (leBytes k v ++ r) off n = leAt r (off - k) n :=
  leAt_append_skip (length_leBytes k v) hk

theorem leAt_leBytes_head (n v : Nat) (r : Bytes) : leAt (leBytes n v ++ r) 0 n = v % 256 ^ n := by
  unfold leAt
  rw [List.drop_zero, List.take_append_of_le_length (by simp), List.take_of_length_le (by simp), leNat_leBytes]

theorem leAt_leBytes_last (n v : Nat) : leAt (leBytes n v) 0 n = v % 256 ^ n := by
  simpa using leAt_leBytes_head n v []

theorem take_drop_middle {a b c : Bytes} {n m : Nat} (ha : a.length = n) (hb : b.length = m) : ((a ++ b ++ c).drop n).take m = b := by
  subst ha hb
  rw [List.append_assoc, List.drop_left, List.take_left]

/-! ### The record's layout (Table 14.7) -/

/-- The record before its CRC. -/
def State.recordBody (s : State) (e : Event) (seq flags : Nat) (payload : Bytes) : Bytes :=
  leBytes 4 seq ++ leBytes 2 e.code ++ leBytes 1 flags ++ leBytes 1 e.kw ++ leBytes 4 s.evt.cycles ++
    leBytes 4 (s.opMsNow / 3600000) ++ leBytes 4 (s.opMsNow % 3600000) ++ leBytes 4 e.unit ++ leBytes 8 e.notch ++ leBytes 2 e.suppressed ++ payload

section
variable (s : State) (e : Event) (seq flags : Nat) {payload : Bytes} (hlen : payload.length = 24)

theorem State.recordBytes_eq (payload : Bytes) : s.recordBytes e seq flags payload =
    s.recordBody e seq flags payload ++ (leBytes 4 (crc32c (s.recordBody e seq flags payload)) ++ leBytes 2 0x5AA5) :=
  List.append_assoc _ _ _

include hlen

theorem State.recordBody_length : (s.recordBody e seq flags payload).length = 58 := by
  simp [State.recordBody, hlen]

theorem State.recordBytes_length : (s.recordBytes e seq flags payload).length = 64 := by
  simp [State.recordBytes_eq, s.recordBody_length e seq flags hlen]

theorem State.recordBytes_crc :
    leAt (s.recordBytes e seq flags payload) 58 4 = crc32c ((s.recordBytes e seq flags payload).take 58) % 2 ^ 32 := by
  have hbody := s.recordBody_length e seq flags hlen
  rw [State.recordBytes_eq, leAt_append_skip hbody (Nat.le_refl _), Nat.sub_self, leAt_leBytes_head, List.take_append_of_le_length (by omega),
    List.take_of_length_le (by omega)] <;> simp only [Nat.reducePow]

theorem State.recordBytes_valid : leAt (s.recordBytes e seq flags payload) 62 2 = 0x5AA5 := by
  rw [State.recordBytes_eq, leAt_append_skip (s.recordBody_length e seq flags hlen) (by omega), leAt_leBytes_skip (by omega)]
  exact leAt_leBytes_last 2 0x5AA5

theorem State.recordBytes_payload : ((s.recordBytes e seq flags payload).drop 34).take 24 = payload := by
  rw [State.recordBytes_eq, State.recordBody]
  exact take_drop_middle (by simp) hlen

end

/-- The fields that stand before the payload. -/
theorem State.recordBytes_fields (s : State) (e : Event) (seq flags : Nat) (payload b : Bytes) (hb : b = s.recordBytes e seq flags payload) :
    leAt b 0 4 = seq % 2 ^ 32 ∧ leAt b 4 2 = e.code % 2 ^ 16 ∧ leAt b 6 1 = flags % 2 ^ 8 ∧ leAt b 7 1 = e.kw % 2 ^ 8 ∧
    leAt b 8 4 = s.evt.cycles % 2 ^ 32 ∧ leAt b 12 4 = s.opMsNow / 3600000 % 2 ^ 32 ∧ leAt b 16 4 = s.opMsNow % 3600000 ∧
    leAt b 20 4 = e.unit % 2 ^ 32 ∧ leAt b 24 8 = e.notch % 2 ^ 64 ∧ leAt b 32 2 = e.suppressed % 2 ^ 16 := by
  subst hb
  have hms : s.opMsNow % 3600000 % 2 ^ 32 = s.opMsNow % 3600000 := by omega
  rw [State.recordBytes_eq]
  simp only [State.recordBody, List.append_assoc]
  refine ⟨leAt_leBytes_head _ _ _, ?_, ?_, ?_, ?_, ?_, ?_, ?_, ?_, ?_⟩
  all_goals simp only [leAt_leBytes_skip, Nat.reduceLeDiff, Nat.reduceSub, leAt_leBytes_head, Nat.reducePow]
  omega

/-! ### The ring (R575, R576) -/

theorem mem_ringAdd_new (l : List EvRecord) (r : EvRecord) : r ∈ ringAdd l r := by
  simp [ringAdd]

theorem mem_ringAdd {l : List EvRecord} {r x : EvRecord} (h : x ∈ ringAdd l r) : x ∈ l ∨ x = r := by
  unfold ringAdd at h
  rw [List.mem_append, List.mem_singleton] at h
  refine h.imp_left fun h => ?_
  split at h
  · exact (List.mem_filter.mp h).1
  · exact h

/-- The records of the other sectors stay. -/
theorem mem_ringAdd_kept {l : List EvRecord} {r x : EvRecord} (hx : x ∈ l) (hseq : r.seq ≤ x.seq + 130048) : x ∈ ringAdd l r := by
  unfold ringAdd
  refine List.mem_append_left _ ?_
  split
  · exact List.mem_filter.mpr ⟨hx, decide_eq_true hseq⟩
  · exact hx

/-- What a report of a record leaves of the recorder. -/
def State.recorded (s : State) : Nat × Bool × List EvRecord := (s.evt.nextSeq, s.evt.loss, s.evt.ring)

theorem State.evtIrq_recorded (s : State) (fn : Nat) : (s.evtIrq fn).recorded = s.recorded := by
  unfold State.evtIrq
  extract_lets within
  split <;> rfl

theorem State.reportRecord_recorded (s : State) (r : EvRecord) : (s.reportRecord r).recorded = s.recorded := by
  unfold State.reportRecord
  extract_lets c u v
  have hu : u.recorded = s.recorded := by
    unfold u
    split <;> rfl
  have hv : v.recorded = s.recorded := by
    unfold v
    split
    · exact hu
    · exact hu
  split
  · exact (foldl_keeps State.recorded State.evtIrq State.evtIrq_recorded _ _).trans hv
  · exact hv

/-- The record that is put: the next SEQ, and LOSS after a loss. -/
theorem State.putRecord_record (s : State) (e : Event) (flags : Nat) (payload : Bytes) :
    (s.putRecord e flags payload).2 = ⟨s.evt.nextSeq, s.recordBytes e s.evt.nextSeq
      (flags + (if s.redacted e.kw then 1 else 0) + (if s.evt.loss then 16 else 0)) (if s.redacted e.kw then zeros 24 else payload)⟩ := rfl

theorem State.putRecord_recorded (s : State) (e : Event) (flags : Nat) (payload : Bytes) :
    (s.putRecord e flags payload).1.recorded = (s.evt.nextSeq + 1, false, ringAdd s.evt.ring (s.putRecord e flags payload).2) :=
  State.reportRecord_recorded _ _

/-! ### The queue (R578) -/

section
variable {v : EvtS} (e : Event)

theorem EvtS.enqueue_full (hfull : 4096 ≤ v.queue.length) :
    v.enqueue e = { v with
      loss := true
      dropped := (match v.dropped.find? (fun p => p.1 == e.kw) with
        | some p => v.dropped.map (fun q => if q.1 == e.kw then (q.1, p.2 + 1) else q)
        | none => v.dropped ++ [(e.kw, 1)]) } :=
  if_pos hfull

theorem EvtS.enqueue_critical (hroom : v.queue.length < 4096) (hclass : evClass e.code = 0xC) :
    v.enqueue e = { v with queue := v.queue.filter (fun x => evClass x.code == 0xC) ++ e :: v.queue.filter (fun x => evClass x.code != 0xC) } :=
  (if_neg (Nat.not_le.mpr hroom)).trans (if_pos (by simp [hclass]))

theorem EvtS.enqueue_other (hroom : v.queue.length < 4096) (hclass : evClass e.code ≠ 0xC) :
    v.enqueue e = { v with queue := v.queue ++ [e] } :=
  (if_neg (Nat.not_le.mpr hroom)).trans (if_neg (by simp [hclass]))

end

/-- The count of an entry that is found rises. -/
theorem find?_map_count {l : List (Nat × Nat)} {kw n : Nat} (h : l.find? (fun p => p.1 == kw) = some (kw, n)) :
    (l.map (fun q => if q.1 == kw then (q.1, n + 1) else q)).find? (fun p => p.1 == kw) = some (kw, n + 1) := by
  have hkey : (fun p : Nat × Nat => p.1 == kw) ∘ (fun q => if q.1 == kw then (q.1, n + 1) else q) = fun p => p.1 == kw := by
    funext q
    by_cases hq : q.1 = kw <;> simp [hq]
  rw [List.find?_map, hkey, h]
  simp

theorem recordWrite_cons {s : State} {e : Event} {q : List Event} (hq : s.evt.queue = e :: q) :
    recordWrite s = if s.boot.ward then ({ s with evt := { s.evt with queue := q } } : State).writeEvent e else s := by
  unfold recordWrite
  rw [hq]

theorem recordWrite_nil {s : State} (hq : s.evt.queue = []) : recordWrite s = s := by
  unfold recordWrite
  rw [hq]

/-! ### Signals, summaries and the heartbeat (R579, R582, R583) -/

theorem evtIrqGap_of_held {s : State} {fn : Nat} (hheld : s.evt.irqHeld.contains fn = true)
    (hpast : ∀ b, mapFind s.evt.irqLast fn = some b → s.notchesPast b 16 = true) :
    evtIrqGap fn s = ({ s with evt := { s.evt with irqHeld := s.evt.irqHeld.filter (· != fn), irqLast := mapSet s.evt.irqLast fn s.notchClock } } :
      State).emit (.msix fn (s.setK .EVT_VECTOR fn)) := by
  unfold evtIrqGap
  extract_lets passed
  have hpassed : passed = true := by
    unfold passed
    split
    next b hb => exact hpast b hb
    next => rfl
  exact if_pos (by rw [hheld, hpassed]; rfl)

theorem evtIrqGap_of_free {s : State} {fn : Nat} (hfree : s.evt.irqHeld.contains fn = false) : evtIrqGap fn s = s := by
  unfold evtIrqGap
  extract_lets passed
  exact if_neg (by rw [hfree]; simp)

/-- The queue with the SUMMARY record that a token of a pair's bucket has taken. -/
def State.summaryTaken (s : State) (b : Bucket) (code kw : Nat) : EvtS :=
  let r := b.refill s.now (s.set0 .EVT_RATE_PERIOD * 1000000000) (s.set0 .EVT_RATE_BURST)
  ({ s.evt with buckets := putBucket s.evt.buckets { r with tokens := r.tokens - 1, suppressed := 0 } } : EvtS).enqueue
    { code, kw, notch := s.notchTime, suppressed := min 65535 b.suppressed, summary := true }

section
variable {s : State} {code kw : Nat} {b : Bucket} (hb : findBucket s.evt.buckets code kw = some b)
include hb

theorem rateToken_of_token (hsup : b.suppressed ≠ 0) (htok : 0 < (b.refill s.now (s.set0 .EVT_RATE_PERIOD * 1000000000) (s.set0 .EVT_RATE_BURST)).tokens) :
    rateToken code kw s = { s with evt := (s.summaryTaken b code kw) } := by
  simp only [rateToken, hb]
  exact if_neg (by simp [hsup, Nat.ne_of_gt htok])

theorem rateToken_of_none
    (h : b.suppressed = 0 ∨ (b.refill s.now (s.set0 .EVT_RATE_PERIOD * 1000000000) (s.set0 .EVT_RATE_BURST)).tokens = 0) :
    rateToken code kw s = s := by
  simp only [rateToken, hb]
  exact if_pos (by simpa using h)

end

/-- Settles O52: the queue by its room and the event's class, the record by its layout, the signals by their gaps. -/
theorem eventsAreRecorded : Obligations.EventsAreRecorded := by
  refine ⟨fun t e q s hq => ⟨fun hward => ?_, fun hward => ?_⟩, fun t s hq => ?_, fun e flags payload s r hr => ?record,
    fun e v => ⟨fun hfull => ?full, fun hroom => ?room⟩, fun e seq flags payload b s hlen hb => ?layout,
    fun t fn s hfn => ⟨fun hheld hpast => ?_, fun hfree => ?_⟩, fun t code kw s b r hb hr => ⟨fun hsup htok => ?_, fun h => ?_⟩,
    fun t s hward hsink hdue => ?_⟩
  · exact congrArg Host.Outcome.next ((recordWrite_cons (s := s.at t) hq).trans (if_pos hward))
  · exact congrArg Host.Outcome.next ((recordWrite_cons (s := s.at t) hq).trans (if_neg (by simp [hward])))
  · exact congrArg Host.Outcome.next (recordWrite_nil (s := s.at t) hq)
  case record =>
    have hrec := State.putRecord_recorded s e flags payload
    simp only [State.recorded, Prod.mk.injEq] at hrec
    obtain ⟨hseq, hloss, hring⟩ := hrec
    subst hr
    exact ⟨rfl, rfl, hseq, hloss, hring, fun x hx => mem_ringAdd hx, mem_ringAdd_new _ _, fun x hx => mem_ringAdd_kept hx⟩
  case full =>
    rw [EvtS.enqueue_full e hfull]
    refine ⟨rfl, rfl, fun n hn => ?_, fun hnone => ?_⟩
    · simpa only [hn] using find?_map_count hn
    · simp only [hnone]
  case room =>
    by_cases hclass : evClass e.code = 0xC
    · rw [EvtS.enqueue_critical e hroom hclass]
      exact ⟨rfl, rfl, fun h => absurd hclass h, fun _ => rfl⟩
    · rw [EvtS.enqueue_other e hroom hclass]
      exact ⟨rfl, rfl, fun _ => rfl, fun h => absurd h hclass⟩
  case layout =>
    obtain ⟨h0, h4, h6, h7, h8, h12, h16, h20, h24, h32⟩ := s.recordBytes_fields e seq flags payload b hb
    subst hb
    exact ⟨s.recordBytes_length e seq flags hlen, h0, h4, h6, h7, h8, h12, h16, h20, h24, h32, s.recordBytes_payload e seq flags hlen,
      s.recordBytes_crc e seq flags hlen, s.recordBytes_valid e seq flags hlen⟩
  · exact (if_pos hfn).trans (congrArg Host.Outcome.next (evtIrqGap_of_held (s := s.at t) hheld hpast))
  · exact (if_pos hfn).trans (congrArg Host.Outcome.next (evtIrqGap_of_free (s := s.at t) hfree))
  · subst hr
    exact congrArg Host.Outcome.next (rateToken_of_token (s := s.at t) hb hsup htok)
  · subst hr
    exact congrArg Host.Outcome.next (rateToken_of_none (s := s.at t) hb h)
  · exact congrArg Host.Outcome.next (if_pos (by simp [hward, hsink, hdue]))

end Sys2Proof.Machine
end

section
/-! Proofs: isolation, step orders and quadrants that open (spec/02 R64–R66, R69). -/
namespace Sys2Proof.Machine
open Sys2Proof

/-! ### What faults of steps leave -/

/-- A fault of a request's step drops its work, or finds none. -/
theorem State.faultStep_kpr (s : State) (i : Nat) (f : StepFault) : (s.faultStep i f).kpr = s.kpr ∨ (s.faultStep i f).kpr = (s.dropWork i).kpr := by
  unfold State.faultStep
  dsimp only
  split
  · exact .inl rfl
  · right
    rw [apply_ite State.kpr]
    simp [State.holdReq]

theorem State.faultStep_hier (s : State) (i : Nat) (f : StepFault) : (s.faultStep i f).hier = s.hier := by
  unfold State.faultStep
  dsimp only
  split
  · rfl
  · rw [apply_ite State.hier]
    simp [State.holdReq, State.dropWork]

theorem State.faultAll_hier (s : State) (f : StepFault) (l : List Nat) : (s.faultAll f l).hier = s.hier := by
  induction l generalizing s with
  | nil => rfl
  | cons i r ih => exact (ih _).trans (s.faultStep_hier i f)

/-- The results in flight of a unit are discarded: no pass of it is done, and those on engines are dropped. -/
def State.discards (s : State) (u : UnitId) (k : KprS) : Prop :=
  (∀ d, d ∈ k.done → d ∈ s.kpr.done ∧ s.unitHoldsTier u d.pass.eng d.pass.tier = false) ∧
    ∀ p, p ∈ k.passes → s.unitHoldsTier u p.eng p.tier = true → p.dropped = true

section
variable {s x : State} {u : UnitId}

theorem State.discards_dropWork (i : Nat) (h : s.discards u x.kpr) : s.discards u (x.dropWork i).kpr := by
  obtain ⟨hdone, hpasses⟩ := h
  refine ⟨fun d hd => hdone d (List.mem_filter.mp hd).1, fun p hp hu => ?_⟩
  obtain ⟨q, hq, rfl⟩ := List.mem_map.mp hp
  by_cases hi : q.req = i
  · simp [hi]
  · simp only [beq_iff_eq, hi, if_false] at hu ⊢
    exact hpasses q hq hu

theorem State.discards_faultAll (f : StepFault) (l : List Nat) (h : s.discards u x.kpr) : s.discards u (x.faultAll f l).kpr := by
  induction l generalizing x with
  | nil => exact h
  | cons i r ih =>
    refine ih ?_
    rcases x.faultStep_kpr i f with hk | hk
    · rwa [hk]
    · rw [hk]
      exact State.discards_dropWork i h

end

theorem State.discardUnit_discards (s : State) (u : UnitId) : s.discards u (s.discardUnit u).kpr := by
  unfold State.discardUnit
  refine State.discards_faultAll _ _ ⟨fun d hd => ?_, fun p hp hu => ?_⟩
  · obtain ⟨hmem, hoff⟩ := List.mem_filter.mp hd
    have hoff : (s.abandonRuns (s.unitHolds u)).unitHoldsTier u d.pass.eng d.pass.tier = false := by simpa using hoff
    exact ⟨hmem, hoff⟩
  · obtain ⟨q, hq, rfl⟩ := List.mem_map.mp hp
    by_cases hon : (s.abandonRuns (s.unitHolds u)).unitHoldsTier u q.eng q.tier = true
    · simp [hon]
    · simp only [hon, Bool.false_eq_true, if_false] at hu ⊢
      exact absurd hu hon

theorem State.discardUnit_hier (s : State) (u : UnitId) : (s.discardUnit u).hier = s.hier :=
  State.faultAll_hier _ _ _

theorem State.isolateFault_hier (s : State) (u : UnitId) :
    (s.isolateFault u).hier = { s.hier with own := mapSet s.hier.own u ((s.ownState u).worse .isolated) } :=
  State.discardUnit_hier _ u

theorem State.isolateNow_writes (s : State) (u : UnitId) : Writes [.hier, .eng] s (s.isolateNow u) := by
  intro f hf
  cases f with
  | hier | eng => simp at hf
  | _ => rfl

theorem quadOpenDone_of_gated {s : State} {q since : Nat} (hopen : mapFind s.hier.opening q = some since) (hgated : s.ownState (uidQuad q) = .gated) :
    quadOpenDone q s = { s with hier := { s.hier with
      own := mapSet s.hier.own (uidQuad q) .online, opening := mapDel s.hier.opening q, opened := s.hier.opened ++ [q] } } := by
  unfold quadOpenDone
  rw [hopen]
  exact if_pos hgated

section
variable {s : State} {v u : UnitId} (t : Nat) (hu : s.canonUnit v = some u)
include hu

theorem exec_isolateManagement : exec (.isolateManagement t v) s = .next (isolateManagement u (s.at t)) := by
  show execIsolateManagement t v s = _
  rw [execIsolateManagement, hu]

theorem exec_isolateFault : exec (.isolateFault t v) s = .next ((s.at t).isolateFault u) := by
  show execIsolateFault t v s = _
  rw [execIsolateFault, hu]

theorem exec_stepOrder : exec (.stepOrder t v) s = .next (stepOrder u (s.at t)) := by
  show execStepOrder t v s = _
  rw [execStepOrder, hu]

end

/-- Settles O8: isolation by what it discards, the orders by the unit's state. -/
theorem isolationAndQuadrants : Obligations.IsolationAndQuadrants := by
  refine ⟨fun t v u s hu => ⟨fun hmode hfree => ?_, fun hmode => ?_, ?_, fun hiso => ?_, fun hiso => ?_⟩, fun t q since s hq hopen hgated => ?_⟩
  · have hx := exec_isolateManagement t hu
    rw [hx, isolateManagement, if_neg (by simp [hmode]), if_neg (by simpa using hfree)]
    rfl
  · have hx := exec_isolateManagement t hu
    rw [isolateManagement, if_pos (by simpa using hmode)] at hx
    exact Does.of_next hx (State.isolateNow_writes _ _) rfl
  · have hx := exec_isolateFault t hu
    obtain ⟨hdone, hpasses⟩ := ((s.at t).setOwn u ((s.ownState u).worse .isolated)).discardUnit_discards u
    exact ⟨_, hx, rfl, State.isolateFault_hier _ _, hdone, hpasses⟩
  · have hx := exec_stepOrder t hu
    rw [hx]
    exact congrArg Host.Outcome.next (if_pos hiso)
  · have hx := exec_stepOrder t hu
    rw [hx]
    exact congrArg Host.Outcome.next (if_neg hiso)
  · exact (if_pos hq).trans (congrArg Host.Outcome.next (quadOpenDone_of_gated (s := s.at t) hopen hgated))

end Sys2Proof.Machine
end

section
/-! Proofs: rail faults, their losses and thermal trips (spec/13 R533, R558–R560, R602). -/
namespace Sys2Proof.Machine
open Sys2Proof

/-! ### Domains turned off -/

/-- A domain turned off in the map of states; one that a fault has shut off stays so. -/
def railOff (m : Map Nat) (k : Nat) : Map Nat := if mapFind m k == some 2 then m else mapSet m k 1

theorem railOff_on (m : Map Nat) (k j : Nat) : (mapFind (railOff m k) j == some 0) = (j != k && mapFind m j == some 0) := by
  unfold railOff
  split
  next h =>
    by_cases hj : j = k
    · subst hj
      simp [beq_iff_eq.mp h]
    · simp [hj]
  next h =>
    by_cases hj : j = k
    · simp [hj]
    · simp [bne_iff_ne.mpr hj, Ne.symm hj]

theorem State.railsOff_railOn (s : State) (l : List Nat) (j : Nat) : (s.railsOff l).railOn j = (!l.contains j && s.railOn j) := by
  have hfold : (mapFind (l.foldl railOff s.pwr.rails) j == some 0) = (!l.contains j && s.railOn j) := by
    unfold State.railOn
    generalize s.pwr.rails = m
    induction l generalizing m with
    | nil => simp
    | cons k r ih =>
      rw [List.foldl_cons, ih, railOff_on]
      by_cases hj : j = k
      · simp [hj]
      · simp [bne_iff_ne.mpr hj, hj]
  exact hfold

/-! ### The device goes dark -/

theorem State.funcsDark_pwr (s : State) : s.funcsDark.pwr = s.pwr :=
  foldl_keeps State.pwr _ (fun x f => by simp) _ _

theorem State.dark_pwr (s : State) : s.dark.pwr = s.pwr := s.funcsDark_pwr

theorem State.beatTo_rails (s : State) (m : BeatMode) : (s.beatTo m).pwr.rails = s.pwr.rails := by
  cases m <;> simp [State.beatTo]

theorem State.hubOff_rails (s : State) : s.hubOff.pwr.rails = s.pwr.rails := s.beatTo_rails .seeking

theorem State.tripNow_railOn (s : State) (k : Nat) : s.tripNow.railOn k = (!(List.range 23).contains k && s.railOn k) := by
  have hrails : s.tripNow.pwr.rails = (s.dark.railsOff (List.range 23)).pwr.rails := State.hubOff_rails _
  have hdark : s.dark.railOn k = s.railOn k := by rw [State.railOn, State.dark_pwr]; rfl
  rw [State.railOn, hrails, ← hdark]
  exact State.railsOff_railOn _ _ _

theorem State.hubOff_srv (s : State) : s.hubOff.srv = s.srv ∧ s.hubOff.kwMem = s.kwMem := by
  exact ⟨State.beatTo_srv s .seeking, State.beatTo_kwMem s .seeking⟩

theorem State.tripNow_dark (s : State) : s.tripNow.srv.reqs = [] ∧ s.tripNow.kwMem = [] := by
  obtain ⟨hsrv, hmem⟩ := (s.dark.railsOff (List.range 23)).hubOff_srv
  exact ⟨congrArg (fun x => x.reqs) hsrv, hmem⟩

/-! ### Faults of domains -/

/-- A domain's unit. -/
def railUnit (k : Nat) : UnitId := if k < 16 then uidQuad k else if k < 20 then uidDie (k - 16) else 0

/-- A fault of a domain is counted and reported. -/
def State.railReported (s : State) (k kind : Nat) : State := (s.inc .RAIL_FAULT_COUNT).raise 0x8D03 0xFF (railUnit k) k kind

theorem State.railReported_pwr (s : State) (k kind : Nat) : (s.railReported k kind).pwr = s.pwr := State.inc_pwr _ _ _

theorem State.railReported_now (s : State) (k kind : Nat) : (s.railReported k kind).now = s.now := State.inc_now _ _ _

theorem State.railFault_monitor (s : State) (k : Nat) :
    s.railFault k 4 = { s.railReported k 4 with pwr := { (s.railReported k 4).pwr with monFault := s.pwr.monFault.filter (· != k) ++ [k] } } := by
  conv => rhs; rw [← congrArg PwrS.monFault (s.railReported_pwr k 4)]
  rfl

/-- Every other kind shuts the domain off, and it is lost. -/
theorem State.railFault_shut (s : State) (k kind : Nat) (hkind : kind ≠ 4) :
    s.railFault k kind = ({ s.railReported k kind with pwr := { (s.railReported k kind).pwr with
      rails := mapSet s.pwr.rails k 2
      lowFrom := if kind = 1 then mapSet s.pwr.lowFrom k s.now else s.pwr.lowFrom } } : State).railLoss k := by
  rw [← s.railReported_now k kind, ← congrArg PwrS.rails (s.railReported_pwr k kind), ← congrArg PwrS.lowFrom (s.railReported_pwr k kind)]
  refine (if_neg (by simp [hkind])).trans ?_
  simp only [beq_iff_eq]
  rfl

theorem railFaultOn_of_off {s : State} {k : Nat} (kind : Nat) (hoff : s.railOn k = false) : railFaultOn k kind s = s := if_neg (by simp [hoff])

theorem railFaultOn_of_on {s : State} {k : Nat} (kind : Nat) (hon : s.railOn k = true) : railFaultOn k kind s = s.railFault k kind := if_pos hon

/-- Each of the four faults of a domain that can run. -/
theorem exec_railFault {t k kind : Nat} {c : Instr} {s : State} (hk : k < 24)
    (hc : (c = .railOvervoltage t k ∧ kind = 1) ∨ (c = .railUndervoltage t k ∧ kind = 2) ∨ (c = .railOvercurrent t k ∧ kind = 3) ∨
      (c = .imonMonitorFault t k ∧ kind = 4 ∧ s.pwr.monFault.contains k = false)) :
    exec c s = .next (railFaultOn k kind (s.at t)) := by
  rcases hc with ⟨rfl, rfl⟩ | ⟨rfl, rfl⟩ | ⟨rfl, rfl⟩ | ⟨rfl, rfl, hmon⟩
  · exact if_pos hk
  · exact if_pos hk
  · exact if_pos hk
  · exact (if_pos hk).trans (congrArg Host.Outcome.next (if_neg (by simpa using hmon)))

/-! ### Losses -/

theorem State.railLoss_quad {s : State} {k : Nat} (hk : k < 16) :
    (s.railLoss k).hier.own = mapSet (mapSet s.hier.own (uidQuad k) ((s.ownState (uidQuad k)).worse .isolated)) (uidQuad k)
      (((s.ownState (uidQuad k)).worse .isolated).worse .faulted) := by
  have hown : (s.isolateFault (uidQuad k)).hier.own = mapSet s.hier.own (uidQuad k) ((s.ownState (uidQuad k)).worse .isolated) :=
    congrArg HierS.own (s.isolateFault_hier (uidQuad k))
  have hstate : (s.isolateFault (uidQuad k)).ownState (uidQuad k) = (s.ownState (uidQuad k)).worse .isolated := by
    rw [State.ownState, hown, mapGet_mapSet, if_pos rfl]
  have hloss : s.railLoss k = (s.isolateFault (uidQuad k)).setOwn (uidQuad k) (((s.isolateFault (uidQuad k)).ownState (uidQuad k)).worse .faulted) :=
    if_pos hk
  rw [hloss, hstate, ← hown]
  rfl

theorem State.railLoss_vaux (s : State) :
    (s.railLoss 23).boot.trip = true ∧ ∀ j, (s.railLoss 23).railOn j = false := by
  have hloss : s.railLoss 23 = ((s.tripNow.afterLoss false s.boot.cause).railsOff [23]).setBoot (fun b => { b with trip := true }) := rfl
  refine ⟨rfl, fun j => ?_⟩
  have hrails : (s.railLoss 23).railOn j = ((s.tripNow.afterLoss false s.boot.cause).railsOff [23]).railOn j := rfl
  have hlost : (s.tripNow.afterLoss false s.boot.cause).railOn j = false := rfl
  rw [hrails, State.railsOff_railOn, hlost, Bool.and_false]

/-- Settles O49: a fault by its kind, a loss by the domain, a trip by what is turned off. -/
theorem railFaultsAndTrips : Obligations.RailFaultsAndTrips := by
  refine ⟨fun t k kind unit c s y hk hc hunit hy => ⟨fun hoff => ?_, fun hon hkind => ?_, fun hon hkind => ?_⟩,
    fun t k unit s y hk hunit hy hstart hup hramp => ?_, fun k s => ⟨State.railLoss_quad, fun hlow hhigh => ?_, fun hlow hhigh => ?_, ?_⟩,
    fun t src s hsrc => ⟨fun hno => ?_, fun htrip hrail => ⟨?_, rfl, ?_, fun k hk => ?_, (s.at t).tripNow_dark⟩⟩⟩
  · rw [exec_railFault hk hc, railFaultOn_of_off (s := s.at t) kind hoff]
  · subst hkind hy hunit
    rw [exec_railFault hk hc, railFaultOn_of_on (s := s.at t) 4 hon, State.railFault_monitor]
    rfl
  · subst hy hunit
    rw [exec_railFault hk hc, railFaultOn_of_on (s := s.at t) kind hon, State.railFault_shut _ _ _ hkind]
    rfl
  · subst hy hunit
    have hstarted : startTimeout k (s.at t) = (s.at t).railFault k 5 := if_pos (by simp only [Bool.and_eq_true]; exact ⟨⟨hstart, hup⟩, by simp [hramp]⟩)
    have hx : exec (.railStartTimeout t k) s = .next (startTimeout k (s.at t)) := if_pos hk
    rw [hx, hstarted, State.railFault_shut _ _ _ (by decide), if_neg (show ¬(5 = 1) by decide),
      ← congrArg PwrS.lowFrom ((s.at t).railReported_pwr k 5)]
    rfl
  · exact (if_neg (by omega)).trans (if_pos hhigh)
  · exact (if_neg (by omega)).trans ((if_neg (by omega)).trans (if_pos hhigh))
  · rintro rfl
    exact ⟨s.railLoss_vaux.1, fun j _ => s.railLoss_vaux.2 j⟩
  · exact (if_pos hsrc).trans (congrArg Host.Outcome.next (if_pos (by simpa using hno)))
  · exact (if_pos hsrc).trans (congrArg Host.Outcome.next (if_neg (by simp [htrip, hrail])))
  · rw [State.tripNow_railOn]
    simp [hrail]
  · rw [State.tripNow_railOn]
    simp [hk]

end Sys2Proof.Machine
end

section
/-! Proofs: the put registers and the request ring (spec/08 R312–R314), and the removal of a keyway (spec/12 R493, R502, R519). -/
namespace Sys2Proof.Machine
open Sys2Proof

/-! ### Maps -/

theorem mapSet_mapSet {α : Type} (m : Map α) (k : Nat) (a b : α) : mapSet (mapSet m k a) k b = mapSet m k b := by
  induction m with
  | nil => simp [mapSet]
  | cons x r ih =>
    obtain ⟨j, v⟩ := x
    by_cases hj : k = j
    · simp [mapSet, hj]
    · by_cases hlt : k < j <;> simp [mapSet, hj, hlt, ih]

theorem mapFind_mapDel {α : Type} (m : Map α) (k j : Nat) : mapFind (mapDel m k) j = if j = k then none else mapFind m j := by
  split
  next h => exact mapFind_filter_of_drops fun x _ => by simp [h]
  next h => exact mapFind_filter_of_keeps fun x _ => by simp [h]

theorem mapGet_mapDel {α : Type} (m : Map α) (k j : Nat) (d : α) : mapGet (mapDel m k) j d = if j = k then d else mapGet m j d := by
  rw [mapGet, mapFind_mapDel]
  split <;> rfl

theorem State.putRing_putRing (s : State) (fn : Nat) (a b : RingS) : (s.putRing fn a).putRing fn b = s.putRing fn b := by
  unfold State.putRing
  dsimp only
  rw [mapSet_mapSet]

theorem State.putRing_dmaWrite (s : State) (fn n a : Nat) (r : RingS) (b : Bytes) :
    (s.putRing fn r).dmaWrite n a b = (s.dmaWrite n a b).putRing fn r := rfl

/-! ### The put registers (R314) -/

section
variable {s : State} {fn lo hi len ctrl : Nat}

/-- The registers once they are written. -/
def State.putRegs (s : State) (fn lo hi len : Nat) : RingS := { s.ring fn with addrLo := lo / 64 * 64, addrHi := hi, len := len }

/-- The put's shard is one that the function's slot has asked for. -/
def State.putKnown (s : State) (fn ctrl : Nat) : Bool :=
  (s.slot (bits ctrl 16 4)).owner == fn && s.setI .SLOT_SOURCE (bits ctrl 16 4) == 0xFFFF &&
    ((s.slot (bits ctrl 16 4)).outstanding (ctrl % 65536)).isSome

/-- The generation of the key that the function names for its puts, where it is active. -/
def State.putGen (s : State) (fn : Nat) : Option Nat :=
  match s.namedSlot .DMA_KEY_SLOT fn with
  | some k => if s.keyActive k fn 0 then some (s.keySlot k).gen else none
  | none => none

theorem shardPut_of_absent (h : s.fnHere fn = false ∨ s.kwClosing fn = true) : shardPut fn lo hi len ctrl s = s :=
  if_pos (by rcases h with h | h <;> simp [h])

variable (hhere : s.fnHere fn = true) (hopen : s.kwClosing fn = false)
include hhere hopen

theorem shardPut_of_registers (hvalid : ctrl.testBit 31 = false) :
    shardPut fn lo hi len ctrl s = s.putRing fn (s.putRegs fn lo hi len) :=
  (if_neg (by simp [hhere, hopen])).trans (if_pos (by simp [hvalid]))

theorem shardPut_of_valid (hvalid : ctrl.testBit 31 = true) :
    shardPut fn lo hi len ctrl s =
      if !s.putKnown fn ctrl || (s.ring fn).puts.length ≥ 64 then s.putRing fn { s.putRegs fn lo hi len with unrequested := true }
      else s.putRing fn { s.putRegs fn lo hi len with
        puts := (s.ring fn).puts ++ [{ slot := bits ctrl 16 4, index := ctrl % 65536, addr := hi * 2 ^ 32 + lo / 64 * 64, len, gen := s.putGen fn }] } := by
  refine (if_neg (by simp [hhere, hopen])).trans ((if_neg (by simp [hvalid])).trans ?_)
  dsimp only
  rw [State.putRing_putRing, State.putRing_putRing]
  rfl

end

/-! ### The request ring (R312, R313) -/

section
variable {s : State} {fn v : Nat}

theorem ringCons_of_absent (h : s.fnHere fn = false ∨ s.kwClosing fn = true) : ringCons fn v s = s :=
  if_pos (by rcases h with h | h <;> simp [h])

theorem ringCons_of_here (hhere : s.fnHere fn = true) (hopen : s.kwClosing fn = false) :
    ringCons fn v s = (s.putRing fn { s.ring fn with cons := v % 65536 }).drainRing fn (s.ring fn).waiting.length :=
  if_neg (by simp [hhere, hopen])

/-- The oldest entry that waits, of a reason that asks for no shard, goes into its place in the ring and is signalled. -/
theorem State.drainRing_one {k slot reason index version attempt : Nat} {rest : List (Nat × Nat × Nat × Nat × Nat)}
    (hwait : (s.ring fn).waiting = (slot, reason, index, version, attempt) :: rest) (hdma : s.kwDma fn = true)
    (hroom : (s.ring fn).unconsumed (s.setK .REQ_RING_LEN fn) < s.setK .REQ_RING_LEN fn) (hreason : 0x80 ≤ reason) :
    s.drainRing fn (k + 1) =
      (((s.dmaWrite fn (s.setK .REQ_RING_ADDR fn + 16 * ((s.ring fn).written % s.setK .REQ_RING_LEN fn))
        (ringSlotBytes (s.ring fn).written (s.setK .REQ_RING_LEN fn) slot reason index version attempt)).putRing fn
          { s.ring fn with written := (s.ring fn).written + 1, waiting := rest }).emit (.msix fn (s.setK .REQ_RING_VECTOR fn))).drainRing fn k := by
  rw [State.drainRing]
  simp only [hwait]
  rw [if_neg (by simp [hdma, hroom]), if_neg (by omega)]
  rfl

end

/-- Settles O25: the put by its VALID bit and whether its shard is asked for, RING_CONS by what waits. -/
theorem putsAndTheRequestRing : Obligations.PutsAndTheRequestRing := by
  intro t fn s hfn
  refine ⟨fun lo hi len ctrl habsent => ⟨?_, ?_⟩, fun lo hi len ctrl r hhere hopen hr => ⟨fun hvalid => ?_, fun hvalid hknown hroom => ?_, fun hvalid hno => ?_⟩,
    if_pos hfn, fun v r hhere hopen hr => ⟨fun hnone => ?_, fun slot index version attempt hone hdma hroom => ?_⟩⟩
  · exact (if_pos hfn).trans (congrArg Host.Outcome.next (shardPut_of_absent (s := s.at t) habsent))
  · exact (if_pos hfn).trans (congrArg Host.Outcome.next (ringCons_of_absent (s := s.at t) habsent))
  · rw [hr]
    exact (if_pos hfn).trans (congrArg Host.Outcome.next (shardPut_of_registers (s := s.at t) hhere hopen hvalid))
  · have hput : (!(s.at t).putKnown fn ctrl || decide (((s.at t).ring fn).puts.length ≥ 64)) = false := by
      obtain ⟨howner, hsource, hasked⟩ := hknown
      have hknown : (s.at t).putKnown fn ctrl = true := by
        simp only [State.putKnown, Bool.and_eq_true, beq_iff_eq]
        exact ⟨⟨howner, hsource⟩, hasked⟩
      simpa [hknown] using hroom
    have hx : exec (.shardPut t fn lo hi len ctrl) s = .next _ := (if_pos hfn).trans (congrArg Host.Outcome.next
      ((shardPut_of_valid (s := s.at t) hhere hopen hvalid).trans (if_neg (by rw [hput]; nofun))))
    refine Does.of_next hx ((s.at t).setSlots_writes _) ⟨s.putGen fn, ?_, fun hn => ?_, fun k hk => ?_⟩
    · rw [State.ring_putRing, if_pos rfl, hr]
      rfl
    · rw [State.putGen, hn]
    · rw [State.putGen, hk]
  · rw [hr]
    refine (if_pos hfn).trans (congrArg Host.Outcome.next ((shardPut_of_valid (s := s.at t) hhere hopen hvalid).trans (if_pos ?_)))
    simp only [Bool.or_eq_true, decide_eq_true_eq, Bool.not_eq_true']
    rcases hno with h | h | h | h
    · exact .inl (by simp [State.putKnown, h])
    · exact .inl (by simp [State.putKnown, h])
    · exact .inl (by
        rw [State.putKnown, show (((s.at t).slot (bits ctrl 16 4)).outstanding (ctrl % 65536)).isSome = false from h, Bool.and_false])
    · exact .inr h
  · have hwait : (s.ring fn).waiting = [] := by rw [hr] at hnone; exact hnone
    have hx : exec (.ringCons t fn v) s = .next _ := (if_pos hfn).trans (congrArg Host.Outcome.next (ringCons_of_here (s := s.at t) hhere hopen))
    rw [hx, show ((s.at t).ring fn).waiting = [] from hwait, hr]
    rfl
  · have hwait : (s.ring fn).waiting = [(slot, 0x80, index, version, attempt)] := by rw [hr] at hone; exact hone
    have hx : exec (.ringCons t fn v) s = .next _ := (if_pos hfn).trans (congrArg Host.Outcome.next (ringCons_of_here (s := s.at t) hhere hopen))
    have hring : ((s.at t).putRing fn r).ring fn = r := (State.ring_putRing _ _ _ _).trans (if_pos rfl)
    have hdrain := State.drainRing_one (s := (s.at t).putRing fn r) (fn := fn) (k := 0) (by rw [hring]; exact hone) hdma (by rw [hring]; exact hroom)
      (Nat.le_refl _)
    rw [hring, State.putRing_dmaWrite, State.putRing_putRing] at hdrain
    have hstart : ((s.at t).ring fn).waiting.length = 0 + 1 := by rw [show ((s.at t).ring fn).waiting = _ from hwait]; rfl
    have hr : { (s.at t).ring fn with cons := v % 65536 } = r := hr.symm
    rw [hx, hstart, hr, hdrain]
    rfl

/-! ### The removal of a keyway -/

section
variable (s : State) (n : Nat)

theorem State.resetFunction_kwState : (s.resetFunction n).kwState n = s.kwState n := rfl

/-- A reset returns the function's registers to their reset values and stops its DMA. -/
theorem State.resetFunction_own :
    (s.resetFunction n).ring n = {} ∧ (s.resetFunction n).sub n = {} ∧ (s.resetFunction n).lregs n = {} ∧
      (s.resetFunction n).kway n = { s.kway n with noDma := true } :=
  ⟨(mapGet_mapDel _ _ _ _).trans (if_pos rfl), (mapGet_mapDel _ _ _ _).trans (if_pos rfl), (mapGet_mapDel _ _ _ _).trans (if_pos rfl),
    (mapGet_mapSet _ _ _ _ _).trans (if_pos rfl)⟩

theorem State.resetFunction_other {m : Nat} (hm : m ≠ n) :
    (s.resetFunction n).ring m = s.ring m ∧ (s.resetFunction n).sub m = s.sub m ∧ (s.resetFunction n).lregs m = s.lregs m ∧
      (s.resetFunction n).kway m = s.kway m :=
  ⟨(mapGet_mapDel _ _ _ _).trans (if_neg hm), (mapGet_mapDel _ _ _ _).trans (if_neg hm), (mapGet_mapDel _ _ _ _).trans (if_neg hm),
    (mapGet_mapSet _ _ _ _ _).trans (if_neg (Ne.symm hm))⟩

variable {s n}

theorem State.kwReset_of_going (h : s.kwState n = .off ∨ s.kwState n = .closing) : s.kwReset n = s.resetFunction n := by
  simp only [State.kwReset, State.resetFunction_kwState]
  rcases h with h | h <;> rw [h]

theorem State.kwReset_of_serving (hoff : s.kwState n ≠ .off) (hclosing : s.kwState n ≠ .closing) :
    s.kwReset n = ((s.resetFunction n).funcTo (.keyway n) .closing).removalBegin n .flr true := by
  unfold State.kwReset
  dsimp only
  rw [State.resetFunction_kwState]
  split
  · exact absurd ‹_› hoff
  · exact absurd ‹_› hclosing
  · rfl

end

theorem firstJob_append {n pages : Nat} {a b : List (Nat × Nat)} (ha : ∀ z, z ∈ a → z.1 ≠ n) : firstJob n (a ++ (n, pages) :: b) = a ++ b := by
  induction a with
  | nil => simp [firstJob]
  | cons z r ih =>
    simp only [List.cons_append, firstJob]
    rw [if_neg (by simpa using ha z (List.mem_cons_self ..)), ih fun y hy => ha y (List.mem_cons_of_mem _ hy)]

/-- Settles O44: a reset by the keyway's state, the drain and the jobs by their lists. -/
theorem keywaysAreRemoved : Obligations.KeywaysAreRemoved := by
  refine ⟨fun t n s y hn hy => ?flr, fun t n s hn hdrain hrun hpast => ?drain, fun t n pages a b s hn hjobs ha => ?zero⟩
  case flr =>
    have hx : exec (.flr t n) s = .next (if (s.at t).fnHere n then (s.at t).kwReset n else s.at t) := if_pos hn
    obtain ⟨hring, hsub, hregs, hkway⟩ := (s.at t).resetFunction_own n
    subst hy
    refine ⟨fun habsent => ?_, fun hhere hgoing => ?_, fun hhere hoff hclosing => ?_, hring, hsub, hregs, hkway, fun m hm => ?_⟩
    · exact hx.trans (congrArg Host.Outcome.next (if_neg (by simp [habsent])))
    · exact hx.trans (congrArg Host.Outcome.next ((if_pos hhere).trans (State.kwReset_of_going (s := s.at t) hgoing)))
    · exact hx.trans (congrArg Host.Outcome.next ((if_pos hhere).trans (State.kwReset_of_serving (s := s.at t) hoff hclosing)))
    · exact (s.at t).resetFunction_other n hm
  case drain =>
    have hdrained : keyDrain n (s.at t) = _ := if_pos (by
      simp only [Bool.and_eq_true]
      exact ⟨⟨by simp [hdrain], by simp [hrun]⟩, hpast⟩)
    exact (if_pos hn).trans (congrArg Host.Outcome.next hdrained)
  case zero =>
    have hx : exec (.zeroingDone t n) s = .next { s.at t with mem := { s.mem with zeroing := firstJob n s.mem.zeroing } } := if_pos hn
    rw [hx, hjobs, firstJob_append ha]

end Sys2Proof.Machine
end

section
/-! Proofs: SPDM, IDE_KM and configuration requests (spec/12 R490, R506, R515; spec/15 R608). -/
namespace Sys2Proof.Machine
open Sys2Proof

/-! ### SPDM -/

section
variable {s : State} {c : SpdmConn} {stage : Nat} (hup : s.spdmUp c = true)
include hup

theorem State.spdmAt_early (f : State → State × SpdmMsg) (h : s.spdmStage c < stage) : s.spdmAt c stage f = s.emit (.spdm c (.error 4)) :=
  (if_neg (by simp [hup])).trans (if_pos h)

theorem State.spdmAt_answers (f : State → State × SpdmMsg) (h : stage ≤ s.spdmStage c) :
    s.spdmAt c stage f = (f s).1.emit (.spdm c (f s).2) :=
  (if_neg (by simp [hup])).trans (if_neg (Nat.not_lt.mpr h))

end

/-! ### IDE_KM -/

/-- What an IDE_KM message makes of a stream. -/
def ideNext (k now : Nat) : Nat := if k = 1 ∧ now = 0 then 1 else if k = 2 ∧ now ≠ 0 then 2 else if k = 3 then 0 else now

theorem ideKm_of_up {s : State} {kw stream : Nat} (k : Nat) (hup : s.spdmUp (.doe kw) = true) :
    ideKm kw stream k s =
      let new := ideNext k (mapGet s.ward.streams stream 0)
      { s with ward := { s.ward with streams := if new == 0 then mapDel s.ward.streams stream else mapSet s.ward.streams stream new } } := by
  refine (if_neg (by simp [hup])).trans ?_
  have hnew : (match k with
      | 1 => if mapGet s.ward.streams stream 0 == 0 then 1 else mapGet s.ward.streams stream 0
      | 2 => if mapGet s.ward.streams stream 0 == 0 then 0 else 2
      | 3 => 0
      | _ => mapGet s.ward.streams stream 0) = ideNext k (mapGet s.ward.streams stream 0) := by
    unfold ideNext
    split
    · simp
    · by_cases h : mapGet s.ward.streams stream 0 = 0 <;> simp [h]
    · simp
    next h1 h2 h3 => rw [if_neg (fun h => h1 h.1), if_neg (fun h => h2 h.1), if_neg h3]
  rw [← hnew] <;> rfl

/-- A stream put, at 0 taken out: it alone reads what was put. -/
theorem mapGet_streamPut (m : Map Nat) (n j v : Nat) :
    mapGet (if v == 0 then mapDel m n else mapSet m n v) j 0 = if j = n then v else mapGet m j 0 := by
  by_cases hv : v = 0
  · simp [hv, mapGet_mapDel]
  · simp [hv, mapGet_mapSet, eq_comm (a := j)]

theorem State.setWard_writes (s : State) (w : WardS) : Writes [.ward] s { s with ward := w } := by
  intro f hf
  cases f with
  | ward => simp at hf
  | _ => rfl

/-! ### Configuration requests (R490, R608) -/

section
variable {s : State} {fn reg v : Nat} {w : Bool} (hlink : s.boot.link = true)
include hlink

theorem configRequest_early (hready : s.boot.ready = false) : configRequest fn w reg v s = s.emit (.config fn .retry) :=
  (if_neg (by simp [hlink])).trans (if_pos (by simp [hready]))

variable (hready : s.boot.ready = true)
include hready

theorem configRequest_absent (habsent : s.fnHere fn = false) : configRequest fn w reg v s = s.emit (.config fn .unsupported) :=
  (if_neg (by simp [hlink])).trans ((if_neg (by simp [hready])).trans (if_pos (by simp [habsent])))

variable (hhere : s.fnHere fn = true)
include hhere

theorem configRequest_write :
    configRequest fn true reg v s =
      (if fn == 0 && reg == 0 && v ≤ 63 then { s with ward := { s.ward with vfs := v } } else s).emit (.config fn (.ok 0)) :=
  (if_neg (by simp [hlink])).trans ((if_neg (by simp [hready])).trans ((if_neg (by simp [hhere])).trans (if_pos rfl)))

theorem configRequest_read :
    configRequest fn false reg v s =
      if fn == 0 && reg < 4 then s.emit (.config fn (.ok ([s.ward.vfs, 63, 1, 1].getD reg 0)))
      else s.drawn.emit (.config fn (.ok (s.freeBelow 4294967296))) :=
  (if_neg (by simp [hlink])).trans ((if_neg (by simp [hready])).trans ((if_neg (by simp [hhere])).trans (if_neg nofun)))

end

/-- Settles O47: each SPDM request by its stage, a stream by its message, a configuration request by its register. -/
theorem attestationAndHostLink : Obligations.AttestationAndHostLink := by
  refine ⟨fun t c s hc hup => ?spdm, fun t kw stream s hkw hstream hup k now hnow => ?ide, fun t fn reg v w s hfn hlink => ?config⟩
  case spdm =>
    have hup : (s.at t).spdmUp c = true := hup
    have hnext {x y : State} (h : x = y) : (if connOk c then .next x else .fault .noSuchUnit : Host.Outcome State Fault Refusal) = .next y :=
      (if_pos hc).trans (congrArg Host.Outcome.next h)
    refine ⟨hnext (State.spdmAt_answers hup _ (Nat.zero_le _)), fun h => hnext (State.spdmAt_early hup _ h), fun h => hnext (State.spdmAt_answers hup _ h),
      fun h => hnext (State.spdmAt_early hup _ h), fun h => hnext (State.spdmAt_answers hup _ h), fun h slot off len which nonce =>
        ⟨hnext (State.spdmAt_early hup _ h), hnext (State.spdmAt_early hup _ h), hnext (State.spdmAt_early hup _ h), hnext (State.spdmAt_early hup _ h)⟩,
      fun h => ⟨hnext (State.spdmAt_answers hup _ h), fun off len hoff => hnext ((State.spdmAt_answers hup _ h).trans ?_),
        fun slot off len hno => hnext ((State.spdmAt_answers hup _ h).trans ?_), fun nonce r hr => hr ▸ hnext (State.spdmAt_answers hup _ h),
        fun which nonce r l hr hl hsome => hnext ((State.spdmAt_answers hup _ h).trans ?_)⟩⟩
    · rw [if_pos (by simpa using hoff)]
      rfl
    · rw [if_neg (by simpa [Decidable.or_iff_not_imp_left] using hno)]
      rfl
    · have hblocks : (if which == 0 then [] else if which == 0xFF then (s.at t).measBlocks c else ((s.at t).measBlocks c).filter (fun b => b.1 == which)) =
          l := by
        rw [hl]
        simp only [beq_iff_eq]
        rfl
      simp only [hblocks]
      rw [if_neg (by simpa [Decidable.or_iff_not_imp_left] using hsome), hr]
      rfl
  case ide =>
    have hx : exec (.ideKm t kw stream k) s = .next _ := (if_pos ⟨hkw, hstream⟩).trans (congrArg Host.Outcome.next (ideKm_of_up (s := s.at t) k hup))
    refine Does.of_next hx (State.setWard_writes _ _) ⟨rfl, fun j hj => ?_, ?_⟩
    · exact (mapGet_streamPut _ _ _ _).trans (if_neg hj)
    · rw [hnow]
      exact (mapGet_streamPut _ _ _ _).trans (if_pos rfl)
  case config =>
    have hnext {w : Bool} {reg v : Nat} {y : State} (h : configRequest fn w reg v (s.at t) = y) : exec (.configRequest t fn w reg v) s = .next y :=
      (if_pos hfn).trans (congrArg Host.Outcome.next h)
    refine ⟨fun hready => hnext (configRequest_early (s := s.at t) hlink hready), fun hready => ⟨fun habsent => hnext (configRequest_absent (s := s.at t) hlink hready habsent),
      fun hzero hreg => ?_, fun hzero hv => ?_, fun hhere hno => ?_, fun hhere hno => ?_⟩⟩
    · subst hzero
      exact hnext ((configRequest_read (s := s.at t) hlink hready rfl).trans (if_pos (by simp [hreg])))
    · subst hzero
      refine hnext ((configRequest_write (s := s.at t) hlink hready rfl).trans ?_)
      rw [if_pos (by simp [hv])]
      rfl
    · refine hnext ((configRequest_write (s := s.at t) hlink hready hhere).trans ?_)
      rw [if_neg (by simp; omega)]
      rfl
    · refine ⟨_, hnext ((configRequest_read (s := s.at t) hlink hready hhere).trans (if_neg (by simp; omega))), fun f hf => ?_, _, ?_, rfl⟩
      · cases f with
        | now | out | free => simp at hf
        | _ => rfl
      · exact Nat.mod_lt _ (by decide)

end Sys2Proof.Machine
end

section
/-! Proofs: requests that are refused by the device's state, and keys (spec/12 R507–R511, R523). -/
namespace Sys2Proof.Machine
open Sys2Proof

/-! ### A request of a proved session, refused or carried out (R631) -/

/-- What an operation on an object answers: a refusal, or what it does. -/
def State.answersTo (u : State) (q : GReq) (x : Session) : State × Answer :=
  match u.refusalFor q (u.ctxOf q x) with
  | some r => (u, { status := r.1, detail := r.2 })
  | none => u.operate q (u.ctxOf q x)

/-- A request that its proved session may make is answered, and the answer is kept with the session. -/
theorem request_asks {u : State} {q : GReq} {x : Session} (h : u.asks q x = true) :
    u.request q = (((u.answersTo q x).1.logResponse q (u.answersTo q x).2).keepReply q (replyFrame q q.sid (u.answersTo q x).2),
      some (replyFrame q q.sid (u.answersTo q x).2)) := by
  simp only [State.asks, Bool.and_eq_true, Bool.not_eq_true', decide_eq_true_eq, beq_iff_eq, bne_iff_ne, Bool.or_eq_true] at h
  obtain ⟨⟨⟨⟨⟨⟨⟨hmute, hver⟩, hrec⟩, hlow⟩, hhigh⟩, hsess⟩, hseq⟩, hproved⟩ := h
  have hopen : (q.op == 16) = false := beq_false_of_ne (by omega)
  have hprove : (q.op == 17) = false := beq_false_of_ne (by omega)
  have hclose : (q.op == 18) = false := beq_false_of_ne (by omega)
  have hrec : (u.boot.recovery && !u.recoveryAnswers q) = false := by rcases hrec with h | h <;> simp [h]
  have hin : u.inSession q x = u.answersTo q x := by
    simp only [State.inSession, hprove, hclose, hproved, Bool.or_self, Bool.and_false, Bool.not_true, Bool.false_eq_true, if_false]
    rfl
  simp only [State.request, hmute, hver, hrec, hsess, hopen, hin, Bool.false_eq_true, if_false, bne_self_eq_false, Bool.and_false,
    beq_false_of_ne hseq]

/-- It is answered on its path. -/
theorem serveRemote_asks {u : State} {p : GdpPath} {q : GReq} {x : Session} (hm : pathCode p ≠ 2) (hp : u.answersOn p = true)
    (h : u.asks q x = true) : u.serveRemote p 0 q = (u.answersTo q x).1.replied p q (u.answersTo q x).2 := by
  have hq : (u.pathUp p && pathTakes p) = true := by cases p <;> simp_all [State.answersOn, pathCode]
  unfold State.serveRemote
  rw [if_neg (by simp [hq]), if_neg (by simp), request_asks h]
  cases p with
  | mailbox fn irq => exact absurd rfl hm
  | mgmt a b c => rfl
  | i3c a b c => rfl

theorem serveBox_asks {s : State} {fn : Nat} {irq : Option Nat} {frame : Bytes} {q : GReq} {x : Session} (ha : s.answersOn (.mailbox fn irq) = true)
    (h : (s.taking (.mailbox fn irq) frame).asks q x = true) :
    s.serveBox fn irq (s.boxReq fn frame) 0 q =
      ((s.taking (.mailbox fn irq) frame).answersTo q x).1.replied (.mailbox fn irq) q ((s.taking (.mailbox fn irq) frame).answersTo q x).2 := by
  rw [serveBox_answers _ _ _ _ _ _ ha]
  have hr := request_asks h
  unfold State.answerBox
  cases irq with
  | none =>
    dsimp only [State.taking] at hr ⊢
    rw [if_neg (by simp), hr]
    rfl
  | some v =>
    dsimp only [State.taking] at hr ⊢
    rw [if_neg (by simp), hr]
    rfl

/-- The request of a write of one object. -/
theorem RowWrite.req_fields (w : RowWrite) (hlen : w.payload.length ≤ 1024) : w.req.op = 2 ∧ w.req.index = keyIndex ⟨w.obj, w.inst, 0⟩ % 65536 := by
  have hreq : w.req = { reqOf w.path (gdpFrame 2 w.head.session w.head.seq (keyIndex ⟨w.obj, w.inst, 0⟩) (keySub ⟨w.obj, w.inst, 0⟩) 0
    w.head.detail w.head.target w.payload) with buf := w.buf } := rfl
  rw [reqOf_gdpFrame _ _ _ _ _ _ _ _ _ _ (by omega)] at hreq
  rw [hreq]
  exact ⟨rfl, rfl⟩

/-- A write of one object that gets past its session's checks is answered as its request is. -/
theorem writeIn_permitted {w : RowWrite} {s u : State} {x : Session} {k : OKey} (h : Permitted w s u x k) :
    writeIn w.obj w.inst w.path w.head w.payload w.buf (s.at w.t) = (u.answersTo w.req x).1.replied w.path w.req (u.answersTo w.req x).2 := by
  obtain ⟨t, o, i, path, hd, pl, bf⟩ := w
  obtain ⟨-, hlen, hu, hans, hperm, -, -⟩ := h
  have hc : frameCause (writeFrame o i hd pl) = 0 := frameCause_gdpFrame _ _ _ _ _ _ _ _ _ hlen
  simp only [State.permits, Bool.and_eq_true] at hperm
  obtain ⟨⟨⟨⟨⟨hasks, -⟩, -⟩, -⟩, -⟩, -⟩ := hperm
  dsimp only at hu hans hasks ⊢
  rw [hu] at hasks ⊢
  unfold writeIn
  dsimp only
  rw [hc]
  cases path
  · exact serveRemote_asks (by simp [pathCode]) hans hasks
  · exact serveRemote_asks (by simp [pathCode]) hans hasks
  · exact serveBox_asks hans hasks

/-- … and where the device's state refuses it, it is answered with that and changes nothing. -/
theorem RowWrite.outcome_refused {w : RowWrite} {s u : State} {x : Session} {k : OKey} {r : Nat × Nat} (h : Permitted w s u x k)
    (hr : u.refusalFor w.req (u.ctxOf w.req x) = some r) : w.outcome s = .next (u.replied w.path w.req { status := r.1, detail := r.2 }) := by
  have hanswer : u.answersTo w.req x = (u, { status := r.1, detail := r.2 }) := by
    unfold State.answersTo
    rw [hr]
  refine (if_pos h.1).trans (congrArg Host.Outcome.next ?_)
  rw [writeIn_permitted h, hanswer]

/-- A refusal of a write, and what accepts it in the same state. -/
theorem RowWrite.outcome_turned_down {w : RowWrite} {s u y : State} {x : Session} {k : OKey} {r : Nat × Nat} (hserved : Served w s u x k)
    (heffect : w.obj.spec.effect = .now) (hbar : u.acceptBar (settingKey k) (w.taken u k) = none)
    (hacc : u.acceptNow (w.asker u x) k (w.taken u k) w.buf = (y, some r)) :
    w.outcome s = .next (y.replied w.path w.req { status := r.1, detail := r.2 }) :=
  write_refused w s u x k hserved heffect (w.outcome s) rfl hbar y r hacc

/-- What the device's state refuses of a write (R631, steps 9 to 12). -/
def State.stateBars (u : State) (q : GReq) (c : Ctx) (o : Obj) : Refused :=
  (((if !u.lcWrites q.index || u.lcBars c o then some (0x10, 5) else none).orElse
    (fun _ => if u.boot.limited != 0 && !limitedWrites q.index then some (0x10, 6) else none)).orElse
    (fun _ => if o == .DEBUG_UNLOCK && u.confBits != 0 then some (0x10, 8) else none)).orElse (fun _ => u.busyFor q c)

/-- Nothing else refuses a write that its session may make. -/
theorem State.refusalFor_of_permits {u : State} {q : GReq} {x : Session} {k : OKey} (hop : q.op = 2) (h : u.permits q x = true)
    (hk : u.lookup (u.ctxOf q x) q.index q.sub = some k) : u.refusalFor q (u.ctxOf q x) = u.stateBars q (u.ctxOf q x) k.obj := by
  simp only [State.permits, Bool.and_eq_true, Bool.not_eq_true', Option.isNone_iff_eq_none, hk, Option.elim_some] at h
  obtain ⟨⟨⟨⟨⟨-, hclaim⟩, hexists⟩, hbarred⟩, hlevel⟩, haccess⟩ := h
  have hexpert : ¬((u.ctxOf q x).expert = false ∧ k.obj.spec.expert = true) := by
    rintro ⟨hc, ho⟩
    simp [hc, ho] at hlevel
  unfold State.refusalFor State.stateBars
  simp only [hk, hclaim, hexists, hbarred, haccess, hop, opWrites, Option.elim_some, Bool.false_eq_true, if_false]
  simp [hexpert]

/-- A write that stands is of none of them. -/
theorem State.stateBars_of_stands {u : State} {q : GReq} {x : Session} {k : OKey} (hop : q.op = 2) (h : u.stands q x = true)
    (hk : u.lookup (u.ctxOf q x) q.index q.sub = some k) :
    u.lcWrites q.index = true ∧ u.lcBars (u.ctxOf q x) k.obj = false ∧ (k.obj = .DEBUG_UNLOCK → u.confBits = 0) := by
  simp only [State.stands, Bool.and_eq_true, Option.isNone_iff_eq_none] at h
  obtain ⟨-, hnone⟩ := h
  unfold State.refusalFor at hnone
  simp only [hk, hop, opWrites, Option.elim_some] at hnone
  split at hnone
  case isTrue => cases hnone
  simp at hnone
  obtain ⟨⟨⟨⟨-, hlc, hbars⟩, -⟩, hconf⟩, -⟩ := hnone
  exact ⟨hlc, hbars, hconf⟩

/-! ### Commands of keys, the life-cycle and tests -/

/-- The commands that are judged as they are accepted. -/
def judgedAtOnce (o : Obj) : Bool :=
  match o with
  | .KEY_INSTALL | .MGMT_KEY_INSTALL | .LC_REQUEST | .DEBUG_UNLOCK | .BIST_AUTH => true
  | _ => false

section
variable {w : RowWrite} {s u y : State} {x : Session} {k : OKey} (hserved : Served w s u x k) (ho : judgedAtOnce w.obj = true)
include hserved ho

theorem judgedAtOnce_facts : w.obj.spec.effect = .now ∧ w.obj ≠ .FUNC_ENABLE ∧ u.acceptBar (settingKey k) (w.taken u k) = none := by
  have hobj : k.obj = w.obj := hserved.2.2.2.2.2.2
  have hcase : w.obj = .KEY_INSTALL ∨ w.obj = .MGMT_KEY_INSTALL ∨ w.obj = .LC_REQUEST ∨ w.obj = .DEBUG_UNLOCK ∨ w.obj = .BIST_AUTH := by
    revert ho
    unfold judgedAtOnce
    split <;> simp_all
  rw [← hobj] at hcase ⊢
  rcases hcase with h | h | h | h | h <;>
    exact ⟨by rw [h]; rfl, by simp [h], noBar u k _ (by simp [h]) (by simp [h]) (by simp [h]) (by simp [h])⟩

theorem RowWrite.outcome_accepted (hacc : u.acceptNow (w.asker u x) k (w.taken u k) w.buf = (y, none)) :
    w.outcome s = .next (w.answered u y x k) := by
  obtain ⟨heffect, hfunc, hbar⟩ := judgedAtOnce_facts hserved ho
  exact RowWrite.outcome_now hserved heffect hfunc hbar hacc

theorem RowWrite.outcome_rejected {r : Nat × Nat} (hacc : u.acceptNow (w.asker u x) k (w.taken u k) w.buf = (y, some r)) :
    w.outcome s = .next (y.replied w.path w.req { status := r.1, detail := r.2 }) := by
  obtain ⟨heffect, -, hbar⟩ := judgedAtOnce_facts hserved ho
  exact write_refused w s u x k hserved heffect (w.outcome s) rfl hbar y r hacc

end

/-- The life-cycle state lets a served write's command run. -/
theorem Served.unbarred {w : RowWrite} {s u : State} {x : Session} {k : OKey} (h : Served w s u x k) :
    u.lcBars (w.asker u x) w.obj = false ∧ (w.obj = .DEBUG_UNLOCK → u.confBits = 0) := by
  obtain ⟨-, hlen, -, -, hstands, hk, hobj⟩ := h
  obtain ⟨-, hbars, hconf⟩ := State.stateBars_of_stands (w.req_fields hlen).1 hstands hk
  rw [hobj] at hbars hconf
  exact ⟨hbars, hconf⟩

/-- … and one that it bars is refused. -/
theorem RowWrite.outcome_barred {w : RowWrite} {s u : State} {x : Session} {k : OKey} (h : Permitted w s u x k)
    (hbars : u.lcBars (w.asker u x) w.obj = true) : w.outcome s = .next (u.replied w.path w.req { status := 0x10, detail := 5 }) := by
  refine RowWrite.outcome_refused (r := (0x10, 5)) h ?_
  obtain ⟨-, hlen, -, -, hperm, hk, hobj⟩ := h
  rw [State.refusalFor_of_permits (w.req_fields hlen).1 hperm hk, hobj]
  unfold State.stateBars
  rw [if_pos (by rw [show u.lcBars (u.ctxOf w.req x) w.obj = true from hbars, Bool.or_true])]
  rfl

/-! ### KEY_INSTALL, MGMT_KEY_INSTALL and the generations of a slot -/

/-- A slot that a KEY_INSTALL may fill (R507, R508). -/
theorem State.keyInstall_of_barred {u : State} {own : Option Nat} {b : Bytes} (h : 128 ≤ leAt b 0 1 ∨ (u.keySlot (leAt b 0 1)).state = 2) :
    u.keyInstall own b = (u, some (0x10, 4)) := by
  refine if_pos ?_
  rcases h with h | h
  · simp [Nat.not_lt.mpr h]
  · simp [h]

theorem State.keyInstall_of_allowed {u : State} {own : Option Nat} {b : Bytes} (hn : leAt b 0 1 < 128) (hstate : (u.keySlot (leAt b 0 1)).state ≠ 2)
    (hown : ∀ o, own = some o → leAt b 1 1 = o ∧ (u.setK .DMA_KEY_SLOT o = leAt b 0 1 ∨ u.setK .LINK_KEY_SLOT o = leAt b 0 1)) :
    u.keyInstall own b = match u.unwrap b with
      | none => u.unwrapFail (leAt b 1 1)
      | some key => ((u.putKeySlot (leAt b 0 1) ((u.keySlot (leAt b 0 1)).install key (leAt b 1 1) (leAt b 2 1))).raise 0x1C01 (leAt b 1 1), none) := by
  refine if_neg ?_
  cases own with
  | none => simp [hn, hstate]
  | some o =>
    obtain ⟨hkw, hslot⟩ := hown o rfl
    simpa [hn, hstate, hkw] using Classical.or_iff_not_imp_left.mp hslot

theorem State.acceptNow_keyInstall {u : State} {c : Ctx} {k : OKey} {v : OVal} {b : Option Bytes} (hobj : k.obj = .KEY_INSTALL) :
    u.acceptNow c k v b = u.keyInstall (pathOwn c.path) (ovBytes v) := by
  unfold State.acceptNow
  rw [hobj]

theorem State.acceptNow_mgmtKeyInstall {u : State} {c : Ctx} {k : OKey} {v : OVal} {b : Option Bytes} (hobj : k.obj = .MGMT_KEY_INSTALL) :
    u.acceptNow c k v b = u.mgmtInstall (u.ward.lc == 2) (ovBytes v) := by
  unfold State.acceptNow
  rw [hobj]

/-- A generation that transfers hold stays until KEY_DRAIN (R511). -/
theorem keyDestroy_of_prev {n at_ : Nat} {old : Bytes} {s : State} (hprev : (s.keySlot n).prev = some (old, at_)) :
    keyDestroy n s = if !s.prevHeld n || s.notchesPast at_ (s.set0 .KEY_DRAIN) then s.putKeySlot n { s.keySlot n with prev := none } else s := by
  unfold keyDestroy
  dsimp only
  rw [hprev]
  rfl

/-- Settles O45: the install by whether its record unwraps, the generations by what holds them. -/
theorem keysAreInstalledAndDestroyed : Obligations.KeysAreInstalledAndDestroyed := by
  refine ⟨fun t p h payload b s u x w k n kw hw hb hn hkw => ?_, fun k key kw usage => ⟨fun hk => ?_, fun hk => ?_⟩,
    fun t p h payload b s u x w k hw hb => ?_, fun t n at_ old s hn hprev => ⟨fun hfree => ?_, fun hheld hdrain => ?_⟩⟩
  · have hobj : w.obj = .KEY_INSTALL := hw ▸ rfl
    have hp : w.path = p := hw ▸ rfl
    have hx : exec (.keyInstall t p h payload) s = w.outcome s := hw ▸ rfl
    subst hp hn hkw
    have hacc (hserved : Served w s u x k) : u.acceptNow (w.asker u x) k (w.taken u k) w.buf = u.keyInstall (pathOwn w.path) b := by
      rw [hb, State.acceptNow_keyInstall (hserved.2.2.2.2.2.2.trans hobj)]
      rfl
    rw [hx]
    refine ⟨fun hperm hlc => ?_, fun hserved => ?_, fun hserved hbad => ?_, fun hserved hn hstate hown => ?_⟩
    · exact RowWrite.outcome_barred hperm (by simp [State.lcBars, hobj, hlc])
    · simpa [State.lcBars, hobj] using hserved.unbarred.1
    · exact RowWrite.outcome_rejected (r := (0x10, 4)) hserved (by rw [hobj]; rfl) ((hacc hserved).trans (State.keyInstall_of_barred hbad))
    · have hin := (hacc hserved).trans (State.keyInstall_of_allowed hn hstate hown)
      refine ⟨fun hun => ?_, fun key hun => ?_⟩
      · rw [hun] at hin
        exact RowWrite.outcome_rejected (r := (0x10, 4)) hserved (by rw [hobj]; rfl) hin
      · rw [hun] at hin
        exact RowWrite.outcome_accepted hserved (by rw [hobj]; rfl) hin
  · have hinstall : k.install key kw usage = { state := 1, kw := kw, usage := usage, gen := 1, key := key } := if_neg (by simp [hk])
    rw [hinstall]
    exact ⟨rfl, rfl, rfl, rfl, rfl⟩
  · unfold KeySlot.install
    rw [if_pos (by simp [hk])]
    exact ⟨rfl, rfl, rfl⟩
  · have hobj : w.obj = .MGMT_KEY_INSTALL := hw ▸ rfl
    have hp : w.path = p := hw ▸ rfl
    have hx : exec (.mgmtKeyInstall t p h payload) s = w.outcome s := hw ▸ rfl
    subst hp
    rw [hx]
    refine ⟨fun hperm hlc hclaim => ?_, fun hserved => ?_⟩
    · refine RowWrite.outcome_barred hperm ?_
      rcases hclaim with hclaim | hclaim <;> simp [State.lcBars, hobj, hlc, hclaim]
    · have hacc : u.acceptNow (w.asker u x) k (w.taken u k) w.buf = u.mgmtInstall (u.ward.lc == 2) b := by
        rw [hb, State.acceptNow_mgmtKeyInstall (hserved.2.2.2.2.2.2.trans hobj)]
      unfold State.mgmtInstall at hacc
      refine ⟨fun hun => ?_, fun key hun => ?_⟩
      · rw [hun] at hacc
        exact RowWrite.outcome_rejected (r := (0x10, 4)) hserved (by rw [hobj]; rfl) hacc
      · rw [hun] at hacc
        refine RowWrite.outcome_accepted hserved (by rw [hobj]; rfl) (hacc.trans ?_)
        by_cases hlc : u.ward.lc = 2 <;> simp [hlc]
  · refine (if_pos hn).trans (congrArg Host.Outcome.next ?_)
    rw [keyDestroy_of_prev (s := s.at t) hprev, if_pos (by rcases hfree with hfree | hfree <;> simp_all)]
    rfl
  · refine (if_pos hn).trans (congrArg Host.Outcome.next ?_)
    rw [keyDestroy_of_prev (s := s.at t) hprev, if_neg (by simp_all)]

end Sys2Proof.Machine
end

section
/-! Proofs: life-cycle requests, debug unlock and the end of erasures (spec/12 R518–R525). -/
namespace Sys2Proof.Machine
open Sys2Proof

theorem State.acceptNow_lcRequest {u : State} {c : Ctx} {k : OKey} {v : OVal} {b : Option Bytes} (hobj : k.obj = .LC_REQUEST) :
    u.acceptNow c k v b = u.lcRequest c.keyed (ovBytes v) := by
  unfold State.acceptNow
  rw [hobj]

theorem State.acceptNow_debugUnlock {u : State} {c : Ctx} {k : OKey} {v : OVal} {b : Option Bytes} (hobj : k.obj = .DEBUG_UNLOCK) :
    u.acceptNow c k v b = u.debugUnlock (ovBytes v) := by
  unfold State.acceptNow
  rw [hobj]

/-- An LC_REQUEST is of a transition of Table 12.9, signed or, to DECOMMISSIONED, under the management key. -/
theorem State.lcAllowed_step {s : State} {target : Nat} {keyed sig : Bool} (hlc : s.ward.lc ≤ 5) (h : s.lcAllowed target keyed sig = true) :
    lcStep s.ward.lc target = true ∧ (sig = true ∨ (keyed = true ∧ target = 5)) := by
  unfold State.lcAllowed at h
  unfold lcStep
  split at h
  case h_6 hpos hlive =>
    refine ⟨?_, by simpa using h⟩
    simp only [imp_false] at hpos hlive
    simp
    omega
  all_goals simp_all

/-- LC_ERASURES_DONE of a transition under way, while the Ward runs. -/
theorem lcErased_of_erasing {s : State} {target : Nat} (herasing : s.ward.erasing = some target) (hward : s.boot.ward = true) :
    lcErased s = (((({ s with
      ward := { s.ward with erasing := none, lc := target
                            returns := if target = 4 then s.ward.returns + 1 else s.ward.returns
                            uds := if target = 5 then false else s.ward.uds || target == 2 }
      store := if target = 5 then [] else s.store } : State).raise 0x1C03 0xFF 0 s.ward.lc target).saveAll).warmRestart 2) := by
  unfold lcErased
  rw [herasing]
  dsimp only
  rw [if_neg (by simp [hward])]
  simp only [beq_iff_eq]

/-- Settles O46: the requests as they are judged when they are accepted, the transition by its erasures. -/
theorem lifeCycleAndDebug : Obligations.LifeCycleAndDebug := by
  refine ⟨fun t p h payload b s u x w k hw hserved hb => ?_, fun s target keyed sig => State.lcAllowed_step,
    fun t p h payload b s u x w k hw hb => ?_, fun t target s y herasing hward hy => ?_⟩
  · have hobj : w.obj = .LC_REQUEST := hw ▸ rfl
    have hp : w.path = p := hw ▸ rfl
    have hx : exec (.lcRequest t p h payload) s = w.outcome s := hw ▸ rfl
    subst hp
    rw [hx]
    have hacc : u.acceptNow (w.asker u x) k (w.taken u k) w.buf = u.lcRequest (w.asker u x).keyed b := by
      rw [hb, State.acceptNow_lcRequest (hserved.2.2.2.2.2.2.trans hobj)]
    refine ⟨fun hok => ?_, fun hno => ?_⟩
    · exact RowWrite.outcome_accepted hserved (by rw [hobj]; rfl) (hacc.trans (if_pos hok))
    · exact RowWrite.outcome_rejected (r := (0x10, 5)) hserved (by rw [hobj]; rfl) (hacc.trans (if_neg (by simp [hno])))
  · have hobj : w.obj = .DEBUG_UNLOCK := hw ▸ rfl
    have hp : w.path = p := hw ▸ rfl
    have hx : exec (.debugUnlock t p h payload) s = w.outcome s := hw ▸ rfl
    subst hp
    rw [hx]
    refine ⟨fun hserved => ?_, fun hperm hlc hconf => ?_, fun hperm hlc => ?_⟩
    · have hacc : u.acceptNow (w.asker u x) k (w.taken u k) w.buf = u.debugUnlock b := by
        rw [hb, State.acceptNow_debugUnlock (hserved.2.2.2.2.2.2.trans hobj)]
      obtain ⟨hbars, hconf⟩ := hserved.unbarred
      refine ⟨?_, hconf hobj, fun hkind hsig y hy => ?_, fun hbad => ?_⟩
      · simp [State.lcBars, hobj] at hbars
        omega
      · subst hy
        exact RowWrite.outcome_accepted hserved (by rw [hobj]; rfl) (hacc.trans (if_pos (by simp [hkind, hsig])))
      · refine RowWrite.outcome_rejected (r := (0x10, 5)) hserved (by rw [hobj]; rfl) (hacc.trans (if_neg ?_))
        rcases hbad with hbad | hbad <;> simp [hbad]
    · refine RowWrite.outcome_refused (r := (0x10, 8)) hperm ?_
      obtain ⟨-, hlen, -, -, hperm, hk, hkobj⟩ := hperm
      obtain ⟨hop, hindex⟩ := w.req_fields hlen
      have hinst : w.inst = 0 := hw ▸ rfl
      have hindex : w.req.index = 0x4000 := by
        rw [hindex, hobj, hinst]
        rfl
      rw [State.refusalFor_of_permits hop hperm hk, hkobj, hobj, State.stateBars, hindex]
      have hwrites : u.lcWrites 0x4000 = true := by rcases hlc with h | h | h <;> simp [State.lcWrites, h]
      have hbars : u.lcBars (u.ctxOf w.req x) .DEBUG_UNLOCK = false := by rcases hlc with h | h | h <;> simp [State.lcBars, h]
      simp [hwrites, hbars, hconf, limitedWrites]
    · refine RowWrite.outcome_barred hperm ?_
      simp [State.lcBars, hobj]
      omega
  · have hx : exec (.lcErasuresDone t) s = .next (((y.raise 0x1C03 0xFF 0 s.ward.lc target).saveAll).warmRestart 2) :=
      congrArg Host.Outcome.next (hy ▸ lcErased_of_erasing (s := s.at t) herasing hward)
    refine ⟨hx, _, hx, ?_⟩
    have hkey := State.warmRestart_key ((y.raise 0x1C03 0xFF 0 s.ward.lc target).saveAll) 2
    rw [State.saveAll_key, State.raise_key, hy] at hkey
    simp only [State.key, keyA, Prod.mk.injEq] at hkey
    obtain ⟨-, -, -, hlc, -, hera⟩ := hkey
    rw [hy]
    exact ⟨hlc, hera⟩

end Sys2Proof.Machine
end

section
/-! Proofs: known-answer tests, BIST authority, logic BIST and the array test (spec/14 R569, R592–R595). -/
namespace Sys2Proof.Machine
open Sys2Proof

/-! ### Quarantine and its test -/

theorem exec_residueQuarantineEnd {t v u : Nat} {s : State} (hu : s.canonUnit v = some u) :
    exec (.residueQuarantineEnd t v) s = .next (quarantineEnd u (s.at t)) := by
  show execResidueQuarantineEnd t v s = _
  unfold execResidueQuarantineEnd
  rw [hu]

theorem exec_katDone {t v u : Nat} {pass : Bool} {s : State} (hu : s.canonUnit v = some u) :
    exec (.katDone t v pass) s = .next (katDone u pass (s.at t)) := by
  show execKatDone t v pass s = _
  unfold execKatDone
  rw [hu]

/-- A known-answer test that ends in a quiet window whose boundary is not due, of a unit in quarantine. -/
theorem katDone_of_waiting {s : State} {u : UnitId} {pass mismatch : Bool} {b : BeatMark} (hkat : s.bist.kat.contains u = true)
    (hphase : s.beat.phase = .quiet) (hdue : s.boundaryDue = false) (hq : mapFind s.evt.quarantine u = some (b, mismatch)) :
    katDone u pass s = ((({ s with
      free := s.free + 3
      evt := { s.evt with quarantine := mapDel s.evt.quarantine u }
      bist := { s.bist with
        kat := s.bist.kat.filter (· != u)
        result := bistResult u 3 (if pass then 0 else 1) (Config.freeNat s.free) 0xFFFFFFFF (Config.freeNat (s.free + 1)) (Config.freeNat (s.free + 2))
        katOk := if pass && !s.earlierMismatch u mismatch then s.bist.katOk ++ [u] else s.bist.katOk
        kept := if pass && !s.earlierMismatch u mismatch then s.bist.kept else s.bist.kept.filter (· != u) ++ [u] }
      hier := if pass && !s.earlierMismatch u mismatch then s.hier else
        { s.hier with own := mapSet s.hier.own u ((s.ownState u).worse .faulted) } } : State).inc .KAT_COUNT).raise
      (if pass then 0x1E03 else 0x8E02) 0xFF u) := by
  unfold katDone
  rw [if_neg (by simp only [hkat, hphase, hdue]; decide), hq]
  dsimp only
  cases pass && !s.earlierMismatch u mismatch <;> rfl

theorem State.acceptNow_bistAuth {u : State} {c : Ctx} {k : OKey} {v : OVal} {b : Option Bytes} (hobj : k.obj = .BIST_AUTH) :
    u.acceptNow c k v b = u.bistAuth (ovBytes v) := by
  unfold State.acceptNow
  rw [hobj]

/-! ### Runs that end -/

/-- The results of a logic BIST run, kept. -/
theorem lbistDone_of_running {s y z : State} {u misr : Nat} {prior : UState} {first : Option Nat} (hrun : s.bist.lbist = some (u, prior))
    (hy : y = { s with
      bist := { s.bist with
        lbist := none
        result := bistResult u 1 (if first = none then 0 else 1) (s.set0 .LBIST_PATTERNS) (first.getD 0xFFFFFFFF)
          (if first = none then Config.lbistSig (uidType u) (s.set0 .LBIST_PATTERNS) else misr)
          (Config.lbistSig (uidType u) (s.set0 .LBIST_PATTERNS))
        lbistOk := if first = none then s.bist.lbistOk.filter (· != u) ++ [u] else s.bist.lbistOk.filter (· != u) }
      hier := { s.hier with isolate := s.hier.isolate.filter (· != u) } })
    (hz : z = if s.ownState u = .isolated then y.setOwn u prior else y) :
    lbistDone first misr s = z.repairs.raise (if first = none then 0x1E04 else 0x8E07) 0xFF u := by
  subst hz hy
  unfold lbistDone
  rw [hrun]
  simp only [Option.isNone_iff_eq_none]
  rfl

/-- The results of an array test, kept. -/
theorem arrayDone_of_running {s : State} {eng : Nat} {bad : List (Nat × Nat × Nat)} {pass : Bool} (hrun : s.bist.array = some eng) :
    arrayDone bad pass s =
      ((((bad.map (fun b => (b.1, b.2.2))).eraseDups).foldl (fun (x : State) c => x.cellRemap eng (c.1 % 4) (c.2 % 512))
        (((List.range 4).filter (fun i => ((s.engine eng).tier i).health != .worn)).foldl (fun (x : State) i => x.arrayTier eng i)
          { s with bist := { s.bist with
            array := none
            result := bistResult (s.uidEngine eng) 2 (if pass then 0 else 1) ((List.range 4).filter (fun i => ((s.engine eng).tier i).health != .worn)).length
              (match (bad.map (fun b => (b.1, b.2.2))).eraseDups with | [] => 0xFFFFFFFF | c :: _ => c.1 % 4 * 16384 + c.2 % 512) bad.length 0
            arrayOk := if pass then s.bist.arrayOk.filter (· != eng) ++ [eng] else s.bist.arrayOk.filter (· != eng) } })).repairs) := by
  unfold arrayDone
  rw [hrun]
  dsimp only
  cases (bad.map (fun b => (b.1, b.2.2))).eraseDups <;> rfl

/-- Settles O54: each test by its result, the authority as it is judged when it is accepted. -/
theorem unitsAreTestedAndRepaired : Obligations.UnitsAreTestedAndRepaired := by
  refine ⟨fun t v u s hu => ⟨fun hover hkat => ?_, fun hover => ?_⟩,
    fun t v u b mismatch pass ok s r hu hkat hphase hdue hq hok hr y hy => ?_,
    fun t p h payload b s u x w k hw hb => ?_,
    fun t n misr want u first prior s y z hrun hn hwant hy hz => ?_,
    fun t eng bad tiers cols pass s y hrun htiers hcols hy => ?_,
    fun t first misr bad pass s => ⟨fun hnone => ?_, fun hnone => ?_⟩⟩
  · exact (exec_residueQuarantineEnd hu).trans (congrArg Host.Outcome.next (if_pos (by rw [hover, State.at_bist, hkat]; rfl)))
  · exact (exec_residueQuarantineEnd hu).trans (congrArg Host.Outcome.next (if_neg (by simp [hover])))
  · subst hy hr hok
    exact (exec_katDone hu).trans (congrArg Host.Outcome.next (katDone_of_waiting (s := s.at t) hkat hphase hdue hq))
  · have hobj : w.obj = .BIST_AUTH := hw ▸ rfl
    have hp : w.path = p := hw ▸ rfl
    have hx : exec (.bistAuth t p h payload) s = w.outcome s := hw ▸ rfl
    subst hp
    rw [hx]
    have hacc (hserved : Served w s u x k) : u.acceptNow (w.asker u x) k (w.taken u k) w.buf = u.bistAuth b := by
      rw [hb, State.acceptNow_bistAuth (hserved.2.2.2.2.2.2.trans hobj)]
    refine ⟨fun hserved hkind hsig => ?_, fun hserved => ⟨?_, fun hbad => ?_⟩, fun hperm hone hfour => ?_⟩
    · exact RowWrite.outcome_accepted hserved (by rw [hobj]; rfl) ((hacc hserved).trans (if_pos (by simp [hkind, hsig])))
    · have hbars := hserved.unbarred.1
      simp [State.lcBars, hobj] at hbars
      omega
    · refine RowWrite.outcome_rejected (r := (0x10, 5)) hserved (by rw [hobj]; rfl) ((hacc hserved).trans (if_neg ?_))
      rcases hbad with hbad | hbad <;> simp [hbad]
    · exact RowWrite.outcome_barred hperm (by simp [State.lcBars, hobj, hone, hfour])
  · subst hn hwant
    exact congrArg Host.Outcome.next (lbistDone_of_running (s := s.at t) hrun hy hz)
  · subst htiers hcols hy
    exact congrArg Host.Outcome.next (arrayDone_of_running (s := s.at t) hrun)
  · refine congrArg Host.Outcome.next ?_
    unfold lbistDone
    rw [show (s.at t).bist.lbist = none from hnone]
  · refine congrArg Host.Outcome.next ?_
    unfold arrayDone
    rw [show (s.at t).bist.array = none from hnone]

end Sys2Proof.Machine
end

section
/-! Proofs: sessions that open, prove and close (spec/03 R94–R99, spec/12 R523). -/
namespace Sys2Proof.Machine
open Sys2Proof

/-- A request of SESSION_OPEN on the management port or on I3C that finds a place opens a session. -/
theorem request_open {u : State} {q : GReq} (hpath : pathCode q.path ≠ 2) (hver : q.ver = 1) (hrec : u.boot.recovery = false)
    (hmute : u.gdp.muted.any (fun m => m.1 == pathSource q.path) = false) (hop : q.op = 0x10) (hlen : q.payload.length = 36)
    (hlevel : leAt q.payload 0 1 ≤ 1) (hplace : u.placesTaken q.path < placesOf q.path)
    (hclaim : u.ward.lc = 2 → pathCode q.path = 1 ∧
      (u.ward.mgmtKey = none → leAt q.payload 0 1 = 1 ∧ u.gdp.sessions.any (fun z => z.2.claim) = false)) :
    u.request q = (({ u with free := u.free + 48 } : State).putSession u.freeSid
      { path := q.path, expert := leAt q.payload 0 1 == 1, claim := u.claimable, nonce := (q.payload.drop 4).take 32
        challenge := randomBytes u.free 48, opened := u.now, active := u.now }, some (replyFrame q u.freeSid { payload := randomBytes u.free 48 })) := by
  have hbar : (u.ward.lc == 2 && (pathCode q.path == 0 || (u.claimable && (leAt q.payload 0 1 == 0 || u.gdp.sessions.any (fun x => x.2.claim))))) = false := by
    by_cases hlc : u.ward.lc = 2
    · obtain ⟨hi3c, hnokey⟩ := hclaim hlc
      cases hkey : u.ward.mgmtKey with
      | none =>
        obtain ⟨hexpert, hone⟩ := hnokey hkey
        simp only [hlc, hi3c, hexpert, hone]
        simp
      | some key => simp [hlc, hi3c, State.claimable, hkey]
    · simp [hlc]
  have hopen : u.openSession q = (({ u with free := u.free + 48 } : State).putSession u.freeSid
      { path := q.path, expert := leAt q.payload 0 1 == 1, claim := u.claimable, nonce := (q.payload.drop 4).take 32
        challenge := randomBytes u.free 48, opened := u.now, active := u.now }, { payload := randomBytes u.free 48 }, u.freeSid) := by
    unfold State.openSession
    dsimp only
    rw [if_neg (by simp [hlen, hlevel]), if_neg (by rw [hbar]; decide), if_neg (by omega)]
    rfl
  unfold State.request
  dsimp only
  rw [if_neg (by simp [hmute]), if_neg (by simp [hver]), if_neg (by simp [hrec]), if_neg (by simp [hpath]), if_pos (by simp [hop]), hopen]
  rfl

/-- A closed session keeps no reply. -/
theorem State.keepReply_of_closed {u : State} {q : GReq} {f : Bytes} (hpath : pathCode q.path ≠ 2) :
    (u.closeSessions (fun n _ => n == q.sid)).keepReply q f = u.closeSessions (fun n _ => n == q.sid) := by
  have hgone : (u.closeSessions (fun n _ => n == q.sid)).sessionOf q = none := by
    have hfind : mapFind (u.closeSessions (fun n _ => n == q.sid)).gdp.sessions q.sid = none :=
      mapFind_filter_of_drops fun x hx => by simp
    unfold State.sessionOf
    split
    · simp_all [pathCode]
    · rw [hfind, ite_self]
  unfold State.keepReply
  rw [hgone]

/-- SESSION_CLOSE of a session that is half-open, or proved and none of a claim. -/
theorem inSession_close {u : State} {q : GReq} {x : Session} (hpath : pathCode q.path ≠ 2) (hop : q.op = 0x12) (hclaim : x.proved = true → x.claim = false) :
    u.inSession q x = (u.closeSessions (fun n _ => n == q.sid), {}) := by
  unfold State.inSession
  dsimp only
  rw [if_neg (by simp [hpath])]
  cases hproved : x.proved with
  | false => rw [if_pos (by simp), if_neg (by simp [hop]), if_pos (by simp [hop])]
  | true =>
    have hnone : u.refusalFor q (u.ctxOf q x) = none := by
      have hc : (u.ctxOf q x).claim = false := by
        show (x.claim && x.proved) = false
        rw [hclaim hproved]
        rfl
      unfold State.refusalFor
      dsimp only
      rw [if_neg (by simp [hc]), if_neg (by simp [hop]), if_pos (by simp [hop])]
    rw [if_neg (by simp), if_neg (by simp [hop]), hnone]
    exact if_pos (by simp [hop])

/-- Settles O12: each request by the session that it finds. -/
theorem sessionsOpenProveClose : Obligations.SessionsOpenProveClose := by
  intro t p f s q hpath hcause hq hver hup htakes hrec hmute
  have hqpath : q.path = p := hq ▸ rfl
  have hans : (s.at t).answersOn p = true := by
    cases p with
    | mailbox fn irq => exact absurd rfl hpath
    | mgmt a b c => exact Bool.and_eq_true_iff.mpr ⟨hup, htakes⟩
    | i3c a b c => exact Bool.and_eq_true_iff.mpr ⟨hup, htakes⟩
  subst hqpath
  refine ⟨fun hop hlen hlevel hplace hclaim n ch y hn hch hy => ?_, fun hop x hx hseq hproved hproof r hr => ?_,
    fun hop x hx hseq hclaim y r hr hy => ?_⟩
  · subst hn hch hy
    exact session_frame t q.path f 0x10 s _ q _ hpath hcause hq hop hans
      (request_open (u := s.at t) hpath hver hrec hmute hop hlen hlevel hplace hclaim)
  · subst hr
    have hin : (s.at t).inSession q x = ((s.at t).putSession q.sid { x with proved := true }, { payload := leBytes 2 q.sid }) := by
      unfold State.inSession
      dsimp only
      rw [if_neg (by simp [hpath]), if_pos (by simp [hproved]), if_pos (by simp [hop])]
      exact if_pos hproof
    exact session_frame t q.path f 0x11 s _ q _ hpath hcause hq hop hans
      (request_session (s.at t) _ q x _ hmute hver hrec (Or.inl hop) hx hseq hin)
  · subst hr hy
    have hreq := request_session (s.at t) _ q x _ hmute hver hrec (Or.inr hop) hx hseq (inSession_close hpath hop hclaim)
    rw [show ((s.at t).closeSessions (fun n _ => n == q.sid)).logResponse q {} = (s.at t).closeSessions (fun n _ => n == q.sid) from rfl,
      State.keepReply_of_closed hpath] at hreq
    exact session_frame t q.path f 0x12 s _ q _ hpath hcause hq hop hans hreq

end Sys2Proof.Machine
end

section
/-! Proofs: sampling, speculation and the cut at a request's end (spec/10 R426–R433). -/
namespace Sys2Proof.Machine
open Sys2Proof

/-! ### The logits of a step -/

/-- A logit, of the model or of the draft, that is not finite. -/
def logitsBad (logits : List (List F32)) (drafts : List (Nat × List F32)) : Bool :=
  logits.any (fun z => z.any (fun a => !F32.finite a)) || drafts.any (fun d => d.2.any (fun a => !F32.finite a))

theorem logitsBad_iff {logits : List (List F32)} {drafts : List (Nat × List F32)} :
    logitsBad logits drafts = true ↔ logits.all (fun z => z.all F32.finite) = false ∨ drafts.all (fun d => d.2.all F32.finite) = false := by
  simp [logitsBad]

/-- What the logits of a request's step do: they fault it, or their tokens are delivered or kept for the train. -/
def State.sampled (s : State) (i n l : Nat) (logits : List (List F32)) (drafts : List (Nat × List F32)) : State :=
  let r := s.req i
  let toks := r.sample.speculate (r.promptLen + r.generated) logits drafts
  if logitsBad logits drafts then ((s.incK .NONFINITE_LOGIT_COUNT r.kw).raise 0x8602 r.kw).faultStep i .nonfiniteLogit
  else if r.handOut then s.handSample i n ((toks.map (fun t => (t.1, t.2.1))).headD (0, 0)) else s.stepTokens i n l toks

/-- A decode step, or a prefill with its last chunk, is sampled once. -/
theorem tokenSample_of_step {s : State} {i n l : Nat} {logits : List (List F32)} {drafts : List (Nat × List F32)} (hfaulted : (s.req i).faulted = false)
    (hsampled : (s.req i).sampled = false)
    (hstep : ((s.req i).batch = some (.decode l) ∧ n = 0) ∨ ((s.req i).batch = some (.prefill n) ∧ l = 0 ∧ (s.req i).prefillDone + n = (s.req i).total))
    (hlogits : logits.length = l + 1) (hdrafts : drafts.length = l) : tokenSample i logits drafts s = s.sampled i n l logits drafts := by
  have hlen : ¬(logits.length != l + 1 || drafts.length != l) = true := by simp [hlogits, hdrafts]
  unfold tokenSample
  dsimp only
  rw [if_neg (by simp [hfaulted, hsampled])]
  rcases hstep with ⟨hbatch, rfl⟩ | ⟨hbatch, rfl, hlast⟩
  · rw [hbatch]
    exact if_neg hlen
  · rw [hbatch]
    dsimp only
    rw [if_pos (by simp [hlast])]
    exact if_neg hlen

/-! ### The tokens of a step, cut at the one that ends the request -/

theorem ReqS.cut_prefix (r : ReqS) (n : Nat) (toks : List (Nat × Nat × Bool)) : (r.cut n toks).map (fun x => (x.1, x.2.1, x.2.2.1)) <+: toks := by
  induction toks generalizing n with
  | nil => exact List.nil_prefix
  | cons x rest ih =>
    obtain ⟨t, lp, d⟩ := x
    unfold ReqS.cut
    split
    · simp
    · simpa using ih (n + 1)

/-- Each token's end is its own, and the one that ends the request is the last. -/
theorem ReqS.cut_ends (r : ReqS) (n : Nat) (toks : List (Nat × Nat × Bool)) (j : Nat) (x : OutTok) (hx : (r.cut n toks)[j]? = some x) :
    x.2.2.2 = r.endOf x.1 (n + j + 1) (r.promptLen + n + j) ∧ (x.2.2.2 ≠ none → j + 1 = (r.cut n toks).length) := by
  induction toks generalizing n j with
  | nil => simp [ReqS.cut] at hx
  | cons y rest ih =>
    obtain ⟨t, lp, d⟩ := y
    unfold ReqS.cut at hx ⊢
    cases hend : r.endOf t (n + 1) (r.promptLen + n) with
    | some c =>
      rw [hend] at hx
      obtain ⟨rfl, rfl⟩ : j = 0 ∧ (t, lp, d, some c) = x := by simpa [List.getElem?_singleton] using hx
      exact ⟨hend.symm, fun _ => rfl⟩
    | none =>
      rw [hend] at hx
      cases j with
      | zero =>
        obtain rfl : (t, lp, d, none) = x := by simpa using hx
        exact ⟨hend.symm, fun h => absurd rfl h⟩
      | succ j =>
        obtain ⟨hown, hlast⟩ := ih (n + 1) j (by simpa using hx)
        refine ⟨?_, fun h => by simpa using hlast h⟩
        rw [hown]
        congr 1 <;> omega

/-- Settles O36: the sampled step by whether its logits are finite, the cut by what ends the request. -/
theorem tokensAreSampled : Obligations.TokensAreSampled := by
  refine ⟨fun t i n l logits drafts s r toks hi hr hfaulted hsampled hstep hlogits hdrafts htoks => ?_, fun c x z zs d qz ds hgreedy => ?_,
    fun r n toks => ⟨r.cut_prefix n toks, r.cut_ends n toks⟩⟩
  · subst hr htoks
    have hx : exec (.tokenSample t i logits drafts) s = .next ((s.at t).sampled i n l logits drafts).flush :=
      (if_pos hi).trans (congrArg (fun y : State => Host.Outcome.next y.flush) (tokenSample_of_step (s := s.at t) hfaulted hsampled hstep hlogits hdrafts))
    refine ⟨fun hfin hdfin => ?_, fun hbad => ?_⟩
    · have hok : logitsBad logits drafts = false := by
        rw [← Bool.not_eq_true, logitsBad_iff]
        simp [hfin, hdfin]
      have hsam : (s.at t).sampled i n l logits drafts = _ := if_neg (by simp [hok])
      refine ⟨fun hhand => ?_, fun hhand => ?_⟩
      · rw [hx, hsam]
        exact congrArg (fun y : State => Host.Outcome.next y.flush) (if_neg (by simp [hhand]))
      · rw [hx, hsam]
        exact congrArg (fun y : State => Host.Outcome.next y.flush) (if_pos hhand)
    · have hsam : (s.at t).sampled i n l logits drafts = _ := if_pos (logitsBad_iff.mpr hbad)
      rw [hx, hsam]
      rfl
  · conv => lhs; unfold SampleCfg.speculate
    dsimp only
    rw [if_pos hgreedy]
    simp only [beq_iff_eq]

end Sys2Proof.Machine
end

section
/-! Proofs: latch frames, the host's operations on other devices' latches, and its latch registers (spec/11 R484, R485, Tables 11.12 to 11.15). -/
namespace Sys2Proof.Machine
open Sys2Proof

/-! ### Frames -/

/-- SIGNAL, SET and READ. -/
def actsNow (op : Nat) : Bool := op == latchSignalOp || op == latchSetOp || op == latchReadOp

/-- What a LATCH_OP that is next in its flow does. -/
def latchAct (g : HFrame) (v : State) : State :=
  let num := leAt g.payload 0 2
  let op := leAt g.payload 2 1
  if op == latchWaitOp then v.latchWait (.remote g.src g.flow g.keyway g.keySlot (leAt g.payload 12 4)) num (leAt g.payload 4 4) (leAt g.payload 8 4)
  else if actsNow op then (v.latchNow g.keyway num op (leAt g.payload 4 4)).1.latchReply g (v.latchNow g.keyway num op (leAt g.payload 4 4)).2.1
    (v.latchNow g.keyway num op (leAt g.payload 4 4)).2.2
  else v

theorem exec_latchOp_of_next {t p : Nat} {f g : HFrame} {s v : State} (h : FrameNext t p 0x40 f s v g) : exec (.latchOp t p f) s = .next (latchAct g v) := by
  have hport : p < 23 := by
    obtain ⟨u, hhere, -, -⟩ := h
    exact hhere.1
  exact (if_pos hport).trans (congrArg Host.Outcome.next (received_next t p 0x40 f s v g latchAct h))

theorem latchReplyIn_of_flow {u : State} {g : HFrame} {x : Flow} {who : LatchUser} {num op : Nat} (hflow : u.replyFlow g = some x)
    (hkind : x.kind = .latch who num op) :
    latchReplyIn g u = (u.dropFlow x.num).remoteEnd who num op (leAt g.payload 0 4) (latchStat g.status) := by
  unfold latchReplyIn
  rw [hflow]
  dsimp only
  rw [hkind]

/-! ### The host's registers -/

/-- A host's SIGNAL of another device's latch: one flow to its owner. -/
theorem latchCommand_signal_remote {fn a num v tag : Nat} {s : State} (hhere : s.fnHere fn = true) (hbusy : (s.lregs fn).busy = false)
    (hother : a % 2048 ≠ s.logAddr) :
    latchCommand (.host fn (some a) tag) num latchSignalOp v 0 s =
      (s.putLregs fn { s.lregs fn with num := num % 16384, addr := 32768 + a % 2048, value := v % 2 ^ 32, timeout := 0, busy := true }).latchRemote
        (.host fn (some a) (tag % 32768)) fn (a % 2048) (num % 16384) 1 (v % 2 ^ 32) 0 (tag % 32768) := by
  unfold latchCommand
  dsimp only
  rw [if_neg (by simp [hhere, hbusy])]
  have haddr : (a % 2048 == (s.putLregs fn { s.lregs fn with
      num := num % 16384, addr := 32768 + a % 2048, value := v % 4294967296, timeout := 0 % 4294967296, busy := latchSignalOp != latchWaitOp }).logAddr) = false :=
    beq_false_of_ne hother
  rw [haddr]
  rfl

/-- A write of LATCH_CPL_CONS makes room, modulo 65,536. -/
theorem cons_add_mod {c n : Nat} (hn : n < 65536) : c + ((c + n) % 65536 % 65536 + 65536 - c % 65536) % 65536 = c + n := by omega

theorem cplWrite_of_waiting {fn : Nat} {s : State} {c : LatchCpl} {rest : List LatchCpl} (hqueue : (s.lregs fn).queue = c :: rest)
    (hroom : (s.lregs fn).prod - (s.lregs fn).cons < s.cplLen fn) (hdma : s.kwDma fn = true) (hhere : s.fnHere fn = true) :
    cplWrite fn s = ((s.dmaWrite fn (s.setK .LATCH_CPL_ADDR fn + 16 * ((s.lregs fn).prod % s.cplLen fn)) (c.record (s.lregs fn).prod (s.cplLen fn))).putLregs fn
      { s.lregs fn with prod := (s.lregs fn).prod + 1, queue := rest }).emit (.msix fn (s.setK .LATCH_VECTOR fn)) := by
  unfold cplWrite
  dsimp only
  rw [hqueue]
  dsimp only
  rw [if_neg (by simp [hdma, hhere, hroom])]
  rfl

/-- Settles O43: the frames by what each does next in its flow, the registers by their operations. -/
theorem latchFramesAndRegisters : Obligations.LatchFramesAndRegisters := by
  refine ⟨fun t p num op f g s v hnext hnum hop => ⟨fun hnow r hr => ?_, fun hwait => ?_⟩, fun t p num op who f g s u x hhere hflow hkind => ?_,
    fun fn num op tag count a st s => ⟨fun hop => ?_, fun hop => ?_⟩,
    fun t fn a num v tag s y z hfn hhere hbusy hother hy hz => ?_,
    fun t fn s hfn hhere => ⟨?_, fun n v hn hv => ?_, fun c rest len hqueue hlen hroom hdma => ?_⟩⟩
  · have hcode : actsNow op = true ∧ (op == latchWaitOp) = false := by rcases hnow with rfl | rfl | rfl <;> decide
    obtain ⟨hacts, hnot⟩ := hcode
    subst hr hnum hop
    rw [exec_latchOp_of_next hnext]
    unfold latchAct
    dsimp only
    rw [hnot, hacts]
    rfl
  · subst hnum hop
    rw [exec_latchOp_of_next hnext]
    exact congrArg Host.Outcome.next (if_pos (by simp [hwait, latchWaitOp]))
  · have hrec : (s.at t).received p 0x41 f (fun s f => latchReplyIn f s) = latchReplyIn g u :=
      received_here t p 0x41 f s u g (fun s f => latchReplyIn f s) hhere
    exact (if_pos hhere.1).trans (congrArg Host.Outcome.next (hrec.trans (latchReplyIn_of_flow hflow hkind)))
  · exact if_neg (by simp [latchWaitOp, hop])
  · exact if_pos (by simp [latchWaitOp, hop])
  · have hx : exec (.latchSignal t (.host fn (some a) tag) num v) s = .next (latchCommand (.host fn (some a) tag) num latchSignalOp v 0 (s.at t)) :=
      if_pos (by simp [latchUserOk, hfn])
    rw [hx, latchCommand_signal_remote (s := s.at t) hhere hbusy hother]
    subst hz hy
    unfold State.latchRemote
    dsimp only
    simp only [Option.isNone_iff_eq_none]
    rfl
  · exact (if_pos hfn).trans (congrArg Host.Outcome.next (if_pos hhere))
  · subst hv
    refine (if_pos hfn).trans (congrArg Host.Outcome.next ((if_pos hhere).trans ?_))
    rw [show ((s.at t).lregs fn).cons = (s.lregs fn).cons from rfl, cons_add_mod hn]
    rfl
  · subst hlen
    refine (if_pos hfn).trans (congrArg Host.Outcome.next ((cplWrite_of_waiting (s := s.at t) hqueue hroom hdma hhere).trans ?_))
    rfl

end Sys2Proof.Machine
end

section
/-! Proofs: resets and the end of the power-down (spec/15 R599–R607, Table 15.3). -/
namespace Sys2Proof.Machine
open Sys2Proof

/-! ### POR_N -/

/-- POR_N has risen at an instant: the supply stands, no trip is held. -/
def BootS.risen (b : BootS) (at_ : Nat) : BootS := { b with por := true, v3p3 := true, trip := false, porAt := at_ }

/-- The loader takes the same bank whatever the supply. -/
theorem BootS.loadKind_risen (b : BootS) (at_ kind : Nat) : (b.risen at_).loadKind kind = (b.loadKind kind).risen at_ := by
  have hfind : (kindBanks kind).find? (fun i => ((b.risen at_).bank i).state == 2) = (kindBanks kind).find? (fun i => (b.bank i).state == 2) := rfl
  have hnew (p : Nat) (x : Bank) : ((b.risen at_).putBank p x).newestBank kind = (b.putBank p x).newestBank kind := rfl
  have hold : (b.risen at_).newestBank kind = b.newestBank kind := rfl
  unfold BootS.loadKind
  dsimp only
  rw [hfind]
  cases (kindBanks kind).find? (fun i => (b.bank i).state == 2) with
  | none =>
    dsimp only
    rw [hold]
    cases b.newestBank kind <;> rfl
  | some p =>
    dsimp only
    rw [show ((b.risen at_).bank p) = b.bank p from rfl, hnew]
    by_cases hgood : (b.bank p).good = true
    · rw [if_pos hgood, if_pos hgood]
      rfl
    · rw [if_neg hgood, if_neg hgood]
      cases (b.putBank p { b.bank p with state := 3 }).newestBank kind <;> rfl

/-- POR_N rises: the Ward ROM starts on VAUX (R599, R600, R613). -/
theorem porRise_of_low {s : State} (h : s.boot.por = false) :
    porRise s = { s with
      boot := { (s.boot.loadKind 1).risen s.now with recovery := ((s.boot.loadKind 1).running 1).isNone, ward := false }
      pwr := { s.pwr with rails := mapSet s.pwr.rails 23 0 }
      evt := { s.evt with wdtLast := s.now } } := by
  have hload : (s.boot.risen s.now).loadKind 1 = (s.boot.loadKind 1).risen s.now := s.boot.loadKind_risen s.now 1
  refine (if_neg (by simp [h])).trans ?_
  show State.romStart { s with boot := s.boot.risen s.now } = _
  unfold State.romStart
  dsimp only
  rw [hload]
  rfl

theorem porRise_writes {s : State} (h : s.boot.por = false) : Writes [.boot, .pwr, .evt] s (porRise s) := by
  rw [porRise_of_low h]
  intro f hf
  cases f with
  | boot | pwr | evt => simp at hf
  | _ => rfl

theorem mapFind_map {α : Type} (m : Map α) (f : α → α) (n : Nat) : mapFind (m.map (fun x => (x.1, f x.2))) n = (mapFind m n).map f := by
  induction m with
  | nil => rfl
  | cons x r ih =>
    obtain ⟨k, v⟩ := x
    simp only [List.map_cons, mapFind]
    split
    · rfl
    · exact ih

/-! ### The power-down -/

theorem State.downStep_railOn (s : State) (j k : Nat) (hk : k ∈ stepRails j) : (s.downStep j).railOn k = false := by
  have hoff : (s.railsOff (stepRails j)).railOn k = false := by
    rw [State.railsOff_railOn]
    simp [hk]
  unfold State.downStep
  dsimp only
  split
  · rw [← hoff, State.railOn, State.hubOff_rails]
    rfl
  · split
    · exact hoff
    · exact hoff

theorem State.downStep_pending (s : State) (j : Nat) : (s.downStep j).pending = s.pending :=
  congrArg Prod.fst (State.downStep_key s j)

/-! ### PERST# -/

/-- A keyway that was started and is enabled is to open again (R607). -/
def State.reopens (s : State) (n : Nat) : Bool :=
  s.boot.started.contains (.keyway n) && s.enabled (.keyway n) && ((s.func (.keyway n)).state == .off || (s.func (.keyway n)).state == .closing)

theorem State.reopens_iff {s : State} {n : Nat} : s.reopens n = true ↔ s.boot.started.contains (.keyway n) = true ∧ s.enabled (.keyway n) = true ∧
    ((s.func (.keyway n)).state = .off ∨ (s.func (.keyway n)).state = .closing) := by
  simp only [State.reopens, Bool.and_eq_true, Bool.or_eq_true, beq_iff_eq, and_assoc]

/-- … by a latched enable. -/
def State.openAgain (s : State) (n : Nat) : State :=
  if s.reopens n then s.putFunc (.keyway n) { s.func (.keyway n) with latched := true } else s

theorem State.putFunc_writes (s : State) (f : Func) (x : FuncS) : Writes [.funcs] s (s.putFunc f x) := by
  intro p hp
  cases p with
  | funcs => simp at hp
  | _ => rfl

theorem State.openAgain_writes (s : State) (n : Nat) : Writes [.funcs] s (s.openAgain n) := by
  unfold State.openAgain
  split
  · exact State.putFunc_writes s _ _
  · exact Writes.refl _ s

/-- A keyway's function after it has been asked. -/
def State.againFunc (s : State) (n : Nat) : FuncS :=
  if s.reopens n then { s.func (.keyway n) with latched := true } else s.func (.keyway n)

theorem State.openAgain_func (s : State) (n : Nat) : (s.openAgain n).func (.keyway n) = s.againFunc n := by
  unfold State.openAgain State.againFunc
  split
  · rw [State.func_putFunc, if_pos rfl]
  · rfl

theorem State.openAgain_func_other {s : State} {n m : Nat} (h : n ≠ m) : (s.openAgain n).func (.keyway m) = s.func (.keyway m) := by
  unfold State.openAgain
  split
  · rw [State.func_putFunc, if_neg (by simpa using h)]
  · rfl

theorem State.openAgain_againFunc_other {s : State} {n m : Nat} (h : n ≠ m) : (s.openAgain n).againFunc m = s.againFunc m := by
  have hreopens : (s.openAgain n).reopens m = s.reopens m := by
    unfold State.reopens
    rw [State.openAgain_func_other h]
    unfold State.openAgain
    split <;> rfl
  unfold State.againFunc
  rw [hreopens, State.openAgain_func_other h]

/-- Each keyway asked once: its own function alone decides, and changes. -/
theorem State.openAgain_foldl_func {l : List Nat} (hnodup : l.Nodup) (s : State) (n : Nat) :
    (l.foldl State.openAgain s).func (.keyway n) = if n ∈ l then s.againFunc n else s.func (.keyway n) := by
  induction l generalizing s with
  | nil => rfl
  | cons a r ih =>
    obtain ⟨ha, hr⟩ := List.nodup_cons.mp hnodup
    rw [List.foldl_cons, ih hr]
    by_cases hn : n = a
    · subst hn
      rw [if_neg ha, if_pos List.mem_cons_self, State.openAgain_func]
    · simp only [List.mem_cons, hn, false_or, State.openAgain_againFunc_other (Ne.symm hn), State.openAgain_func_other (Ne.symm hn)]

theorem State.openAgain_foldl_writes (l : List Nat) (s : State) : Writes [.funcs] s (l.foldl State.openAgain s) := by
  induction l generalizing s with
  | nil => exact Writes.refl _ s
  | cons a r ih => exact (s.openAgain_writes a).trans (ih _)

/-- PERST# rises while it is low (R607). -/
theorem perstHigh_spec {s : State} (h : s.boot.perst = true) :
    Writes [.boot, .funcs] s (perstHigh s) ∧
      (perstHigh s).boot = { s.boot with perst := false, link := s.hubUp && decide (3 ≤ s.boot.state) && s.boot.state != 8 } ∧
      ∀ n, (perstHigh s).func (.keyway n) = if n < 64 then s.againFunc n else s.func (.keyway n) := by
  have hhigh : perstHigh s = (List.range 64).foldl State.openAgain
      { s with boot := { s.boot with perst := false, link := s.hubUp && decide (3 ≤ s.boot.state) && s.boot.state != 8 } } :=
    if_neg (by simp [h])
  rw [hhigh]
  have hfold := State.openAgain_foldl_writes (List.range 64)
    { s with boot := { s.boot with perst := false, link := s.hubUp && decide (3 ≤ s.boot.state) && s.boot.state != 8 } }
  refine ⟨fun f hf => ?_, hfold .boot (by simp), fun n => ?_⟩
  · refine SamePart.trans ?_ (hfold f fun hin => hf (List.mem_cons_of_mem _ hin))
    cases f with
    | boot => simp at hf
    | _ => rfl
  · rw [State.openAgain_foldl_func List.nodup_range]
    simp only [List.mem_range]
    rfl

/-- What the PCIe interface loses at PERST# (R607). -/
def State.hostLost (s : State) : State :=
  { s with
    boot := { s.boot with perst := true, link := false }
    ward := { s.ward with vfs := 0, streams := [], spdm := s.ward.spdm.filter (fun c => match c.1 with | .doe _ => false | .i3c _ => true) }
    gdp := { s.gdp with
      select := s.gdp.select.filter (fun c => decide (c.session < 0x8000))
      blocks := s.gdp.blocks.filter (fun c => decide (c.session < 0x8000)) } }

/-- PERST# falls while it is high (R607). -/
theorem perstLow_of_high {s : State} (hv : s.boot.v3p3 = true) (h : s.boot.perst = false) :
    perstLow s = ((((List.range 64).foldl State.kwReset s).hostLost).inc .HOST_RESETS).raise 0x4F03 0xFF := by
  unfold perstLow
  rw [if_neg (by simp [hv, h])]
  generalize (List.range 64).foldl State.kwReset s = y
  extract_lets y' doe
  have hdoe : y.ward.spdm.filter (fun x => !doe x.1) = y.ward.spdm.filter (fun c => match c.1 with | .doe _ => false | .i3c _ => true) := by
    congr 1
    funext c
    obtain ⟨c, stage⟩ := c
    cases c <;> rfl
  show (State.inc { y with
    boot := { y.boot with perst := true, link := false }
    ward := { y.ward with vfs := 0, streams := [], spdm := y.ward.spdm.filter (fun x => !doe x.1) }
    gdp := { y.gdp with
      select := y.gdp.select.filter (fun c => decide (c.session < 0x8000))
      blocks := y.gdp.blocks.filter (fun c => decide (c.session < 0x8000)) } } .HOST_RESETS).raise 0x4F03 0xFF = _
  rw [hdoe] <;> rfl

/-- What a loss of all volatile state leaves (R600, R606). -/
theorem mapFind_slots_afterLoss (s : State) (cause n : Nat) : mapFind (s.afterLoss false cause).slots.slots n =
    (mapFind s.slots.slots n).map (fun y => { recA := y.recA.map s.recLost, recB := y.recB.map s.recLost }) :=
  mapFind_map s.slots.slots (fun y => { recA := y.recA.map s.recLost, recB := y.recB.map s.recLost }) n

/-- Settles O55: each reset by what it loses and keeps. -/
theorem resetsOfTheDevice : Obligations.ResetsOfTheDevice := by
  refine ⟨fun t s => ⟨fun hpor => ?_, fun hpor => ?_⟩, fun t c s hc => ?_, fun t s hpor => ?_, fun t k r s => ⟨fun hnone => ?_, fun hdown => ?_⟩,
    fun s => ⟨fun hstop => ?_, fun hstop => ?_, fun j => ⟨s.downStep_pending j, fun k hk => s.downStep_railOn j k hk⟩⟩,
    fun t s y hv hperst hy => ?_, fun t s h => ?_, fun t s => ⟨fun hperst => ?_, fun hperst => ?_⟩⟩
  · exact congrArg Host.Outcome.next (if_pos hpor)
  · refine Does.of_next (t := t) rfl (porRise_writes (s := s.at t) hpor) ?_
    rw [porRise_of_low (s := s.at t) hpor]
    refine ⟨rfl, rfl, rfl, rfl, rfl, ?_, rfl, rfl⟩
    show (mapFind (mapSet s.pwr.rails 23 0) 23 == some 0) = true
    rw [mapFind_mapSet, if_pos rfl]
    rfl
  · rcases hc with ⟨rfl, hpor⟩ | rfl
    · refine ⟨_, congrArg Host.Outcome.next (if_neg (by simp [hpor])), ?_⟩
      exact ⟨rfl, (if_pos rfl).symm, rfl, rfl, rfl, rfl, rfl, rfl, rfl, rfl, rfl, rfl, rfl, rfl, rfl, rfl, rfl, rfl, rfl, rfl, rfl, rfl, rfl, rfl,
        fun n _ => mapFind_slots_afterLoss (s.at t) 0 n⟩
    · refine ⟨_, rfl, ?_⟩
      exact ⟨rfl, (if_neg nofun).symm, rfl, rfl, rfl, rfl, rfl, rfl, rfl, rfl, rfl, rfl, rfl, rfl, rfl, rfl, rfl, rfl, rfl, rfl, rfl, rfl, rfl, rfl,
        fun n _ => mapFind_slots_afterLoss (s.at t) 0 n⟩
  · exact congrArg Host.Outcome.next (if_pos (by simp [hpor]))
  · exact congrArg Host.Outcome.next (if_pos (by simp [hnone]))
  · have hx : exec (.powerDownStep t) s = .next ((s.at t).downOn r) :=
      congrArg Host.Outcome.next ((if_neg (by simp [hdown])).trans (by rw [State.at_boot, hdown]; rfl))
    refine ⟨fun j r' hnext => ?_, fun hlast => ?_⟩
    · rw [hx]
      unfold State.downOn
      rw [show r.filter (fun k => (stepRails k).any (s.at t).railOn) = j :: r' from hnext]
      rfl
    · rw [hx]
      unfold State.downOn
      rw [show r.filter (fun k => (stepRails k).any (s.at t).railOn) = [] from hlast]
  · exact if_pos (by simp [hstop, State.setBoot])
  · exact (if_neg (by simp [hstop, State.setBoot])).trans (if_pos (by simp [hstop, State.setBoot]))
  · have hx : exec (.perstAssert t) s = .next (((y.hostLost).inc .HOST_RESETS).raise 0x4F03 0xFF) := by
      rw [hy]
      exact congrArg Host.Outcome.next (perstLow_of_high (s := s.at t) hv hperst)
    have hfold : y.bk = s.bk := by
      rw [hy]
      exact bk_foldl _ (fun x n => x.kwReset_bk n) _ _
    clear hy
    refine ⟨_, hx, rfl, ?_⟩
    have hbk : (((y.hostLost).inc .HOST_RESETS).raise 0x4F03 0xFF).bk = s.bk := by
      rw [State.raise_bk, State.inc_bk]
      exact hfold
    simp only [State.bk, Prod.mk.injEq] at hbk
    exact hbk
  · exact congrArg Host.Outcome.next (if_pos (by simpa using h))
  · exact congrArg Host.Outcome.next (if_pos (by simp [hperst]))
  · obtain ⟨hwrites, hboot, hfunc⟩ := perstHigh_spec (s := s.at t) hperst
    refine Does.of_next (t := t) rfl hwrites ⟨by rw [hboot], by rw [hboot]; rfl, fun n hn => ?_⟩
    rw [hfunc, if_pos hn]
    refine ⟨fun hstart hen hstate => if_pos (State.reopens_iff.mpr ⟨hstart, hen, hstate⟩), fun hno => if_neg fun hyes => ?_⟩
    obtain ⟨hstart, hen, hstate⟩ : s.boot.started.contains (.keyway n) = true ∧ s.enabled (.keyway n) = true ∧
      ((s.func (.keyway n)).state = .off ∨ (s.func (.keyway n)).state = .closing) := State.reopens_iff.mp hyes
    rcases hno with h | h | ⟨hoff, hclosing⟩
    · exact Bool.false_ne_true (h.symm.trans hstart)
    · exact Bool.false_ne_true (h.symm.trans hen)
    · exact hstate.elim hoff hclosing

end Sys2Proof.Machine
end

section
/-! Proofs: the power-up and firmware images (spec/15 R601, R608, R612–R616, Table 15.1). -/
namespace Sys2Proof.Machine
open Sys2Proof

/-! ### What an event leaves of the recorder's clocks -/

/-- The power cycles and the instants of operating time and of the watchdog. -/
def EvtS.clocks (v : EvtS) : Nat × Option Nat × Nat × Bool := (v.cycles, v.opSince, v.wdtLast, v.wdtBack)

theorem EvtS.enqueue_clocks (v : EvtS) (e : Event) : (v.enqueue e).clocks = v.clocks := by
  unfold EvtS.enqueue
  (repeat' split) <;> rfl

theorem EvtS.offer_clocks (v : EvtS) (e : Event) (now period burst : Nat) : (v.offer e now period burst).clocks = v.clocks := by
  unfold EvtS.offer
  dsimp only
  (repeat' split)
  · exact v.enqueue_clocks e
  · exact v.enqueue_clocks e
  · rfl
  · exact v.enqueue_clocks _

/-- What the start of the WARD image goes by: the start-up state, the boots counted, the recorder's clocks, the trust state and the instant. -/
def State.bootView (s : State) : BootS × Nat × (Nat × Option Nat × Nat × Bool) × WardS × Nat := (s.boot, s.fab.bootCount, s.evt.clocks, s.ward, s.now)

theorem State.raise_bootView (s : State) (code kw : Nat) (unit : UnitId) (p0 p1 p2 : Nat) : (s.raise code kw unit p0 p1 p2).bootView = s.bootView := by
  unfold State.bootView
  rw [show (s.raise code kw unit p0 p1 p2).evt.clocks = s.evt.clocks from EvtS.offer_clocks _ _ _ _ _]
  rfl

theorem State.raiseMany_bootView (s : State) (code kw n : Nat) : (s.raiseMany code kw n).bootView = s.bootView := by
  induction n generalizing s with
  | zero => rfl
  | succ n ih => exact (ih _).trans (s.raise_bootView _ _ _ _ _ _)

theorem State.raiseMany_writes (s : State) (code kw n : Nat) : Writes [.evt] s (s.raiseMany code kw n) := by
  induction n generalizing s with
  | zero => exact Writes.refl _ s
  | succ n ih => exact (s.raise_writes _ _ _ _ _ _).trans (ih _)

theorem State.incK_bootView (s : State) (o : Obj) (kw n : Nat) : (s.incK o kw n).bootView = s.bootView := by
  have hadd (y : State) (k : OKey) : (y.addCount k n).bootView = y.bootView := by
    unfold State.addCount
    dsimp only
    split <;> rfl
  exact (hadd _ _).trans (hadd _ _)

theorem State.clampRecord_bootView (s : State) (k : OKey) (session transport kw : Nat) (c : Clamp) :
    (s.clampRecord k session transport kw c).bootView = s.bootView :=
  State.incK_bootView _ _ _ _

theorem State.loadSetting_bootView (s : State) (x : OKey × OVal) : (s.loadSetting x).bootView = s.bootView :=
  foldl_keeps State.bootView _ (fun y c => (State.raise_bootView _ _ _ _ _ _ _).trans (y.clampRecord_bootView _ _ _ _ c)) _ _

theorem State.loadSettings_bootView (s : State) : s.loadSettings.bootView = s.bootView := by
  refine foldl_keeps State.bootView _ (fun y x => ?_) _ _
  dsimp only
  split
  · exact y.loadSetting_bootView x
  · exact y.loadSetting_bootView x

/-! ### The WARD image -/

theorem State.fallbacks_bootView (s : State) :
    s.fallbacks.bootView = ({ s.boot with fallback := [] }, s.fab.bootCount, s.evt.clocks, s.ward, s.now) :=
  State.raiseMany_bootView _ _ _ _

theorem State.milestone_boot (s : State) (row ps : Nat) : ∃ times, (s.milestone row ps).boot = { s.boot with times := times } ∧
    Writes [.boot] s (s.milestone row ps) := by
  unfold State.milestone
  split
  · exact ⟨s.boot.times, rfl, Writes.refl _ s⟩
  · refine ⟨_, rfl, fun f hf => ?_⟩
    cases f with
    | boot => simp at hf
    | _ => rfl

/-- A power-up, before its milestones are noted. -/
def State.wardSet (s : State) : State :=
  let w := s.loadSettings.wardMeasure.wardRuns.scanRing
  { w with
    pwr := { w.pwr with pthr := w.set0 .PWR_LIMIT, limit := w.set0 .PWR_LIMIT, vcore := fusedSetpoints }
    fab := { w.fab with bootCount := w.fab.bootCount + 1 }
    evt := { w.evt with cycles := if w.boot.cold then w.evt.cycles + 1 else w.evt.cycles }
    boot := { w.boot with state := 1, cold := false } }

/-- The Ward runs, and its boot is counted. -/
theorem State.wardSet_starts (s : State) : s.wardSet.boot.ward = true ∧ s.wardSet.boot.state = 1 ∧ s.wardSet.boot.cold = false ∧
    s.wardSet.fab.bootCount = s.fab.bootCount + 1 ∧
    s.wardSet.evt.clocks = (if s.boot.cold then s.evt.cycles + 1 else s.evt.cycles, some s.now, s.now, false) ∧
    s.wardSet.ward.kexId = s.ward.kexId + 1 := by
  have hload := s.loadSettings_bootView
  simp only [State.bootView, EvtS.clocks, Prod.mk.injEq] at hload
  obtain ⟨hboot, hcount, ⟨hcycles, -, -, -⟩, hward, hnow⟩ := hload
  have hclocks : s.wardSet.evt.clocks = (if s.loadSettings.boot.cold then s.loadSettings.evt.cycles + 1 else s.loadSettings.evt.cycles,
    some s.loadSettings.now, s.loadSettings.now, false) := rfl
  have hbooted : s.wardSet.fab.bootCount = s.loadSettings.fab.bootCount + 1 := rfl
  have hkex : s.wardSet.ward.kexId = s.loadSettings.ward.kexId + 1 := rfl
  rw [hclocks, hbooted, hkex, hboot, hcount, hcycles, hward, hnow]
  exact ⟨rfl, rfl, rfl, rfl, rfl, rfl⟩

/-- The start of the WARD image at a power-up. -/
theorem State.wardBoot_starts (s : State) : s.wardBoot.boot.ward = true ∧ s.wardBoot.boot.state = 1 ∧ s.wardBoot.boot.cold = false ∧
    s.wardBoot.fab.bootCount = s.fab.bootCount + 1 ∧
    s.wardBoot.evt.clocks = (if s.boot.cold then s.evt.cycles + 1 else s.evt.cycles, some s.now, s.now, false) ∧
    s.wardBoot.ward.kexId = s.ward.kexId + 1 := by
  obtain ⟨hrun, hstate, hcold, hcount, hclocks, hkex⟩ := s.wardSet_starts
  obtain ⟨times, hboot, hwrites⟩ := s.wardSet.milestone_boot 3 s.wardSet.now
  obtain ⟨times', hx⟩ : ∃ times' : List Nat, s.wardBoot =
      (({ s.wardSet.milestone 3 with boot := { (s.wardSet.milestone 3).boot with times := times' } } : State).drawn.drawn).fallbacks := ⟨_, rfl⟩
  have hview := (({ s.wardSet.milestone 3 with boot := { (s.wardSet.milestone 3).boot with times := times' } } : State).drawn.drawn).fallbacks_bootView
  rw [← hx] at hview
  simp only [State.bootView, Prod.mk.injEq] at hview
  obtain ⟨hvboot, hvcount, hvclocks, hvward, -⟩ := hview
  have hevt : (s.wardSet.milestone 3).evt = s.wardSet.evt := hwrites .evt (by simp)
  have hfab : (s.wardSet.milestone 3).fab = s.wardSet.fab := hwrites .fab (by simp)
  have hward : (s.wardSet.milestone 3).ward = s.wardSet.ward := hwrites .ward (by simp)
  refine ⟨?_, ?_, ?_, ?_, ?_, ?_⟩
  · rw [hvboot]
    exact (congrArg BootS.ward hboot).trans hrun
  · rw [hvboot]
    exact (congrArg BootS.state hboot).trans hstate
  · rw [hvboot]
    exact (congrArg BootS.cold hboot).trans hcold
  · rw [hvcount]
    exact (congrArg FabS.bootCount hfab).trans hcount
  · rw [hvclocks]
    exact (congrArg EvtS.clocks hevt).trans hclocks
  · rw [hvward]
    exact (congrArg WardS.kexId hward).trans hkex

theorem State.fallbacks_writes (s : State) : Writes [.boot, .evt] s s.fallbacks := by
  have hset : Writes [.boot] s (s.setBoot (fun b => { b with fallback := [] })) := by
    intro f hf
    cases f with
    | boot => simp at hf
    | _ => rfl
  exact hset.append (State.raiseMany_writes _ _ _ _)

/-- The Ward's sessions, gone with its reset. -/
def State.wardBack (s : State) : State :=
  let w := s.wardMeasure.wardRuns
  { w with gdp := { w.gdp with sessions := [], select := [], failed := [], muted := [], blocks := [] } }

/-- The Ward runs again after its watchdog's reset (R585): the device goes on without its sessions. -/
theorem State.wardAgain_starts (s : State) : s.wardAgain.boot.ward = true ∧ s.wardAgain.boot.state = s.boot.state ∧
    s.wardAgain.gdp.sessions = [] ∧ s.wardAgain.gdp.select = [] ∧ s.wardAgain.gdp.blocks = [] ∧ s.wardAgain.gdp.boxes = s.gdp.boxes ∧
    s.wardAgain.evt.opSince = some s.now ∧ s.wardAgain.evt.wdtBack = false ∧
    s.wardAgain.srv = s.srv ∧ s.wardAgain.slots = s.slots ∧ s.wardAgain.beat = s.beat := by
  have hx : s.wardAgain = (s.wardBack.raise 0x8E06 0xFF uidWard).fallbacks := rfl
  have hview := (s.wardBack.raise 0x8E06 0xFF uidWard).fallbacks_bootView
  have hraise := s.wardBack.raise_bootView 0x8E06 0xFF uidWard 0 0 0
  simp only [State.bootView, EvtS.clocks, Prod.mk.injEq] at hview hraise
  obtain ⟨hboot, -, ⟨-, hsince, -, hback⟩, -, -⟩ := hview
  obtain ⟨-, -, ⟨-, hrsince, -, hrback⟩, -, -⟩ := hraise
  have hwrites : Writes [.boot, .evt] s.wardBack s.wardAgain :=
    ((State.raise_writes _ _ _ _ _ _ _).mono (by simp)).trans (State.fallbacks_writes _)
  have hgdp : s.wardAgain.gdp = s.wardBack.gdp := hwrites .gdp (by simp)
  rw [hx, hboot, hsince, hback, hrsince, hrback, ← hx, hgdp]
  exact ⟨rfl, rfl, rfl, rfl, rfl, rfl, rfl, rfl, hwrites .srv (by simp), hwrites .slots (by simp), hwrites .beat (by simp)⟩

theorem wardStart_of_up {s : State} (hpor : s.boot.por = true) (hv : s.boot.v3p3 = true) (hoff : s.boot.ward = false) (hrec : s.boot.recovery = false)
    (hheld : s.evt.wdtHeld = false) (hrail : s.railOn 23 = true) :
    wardStart s = if s.boot.state == 0 then (if s.evt.wdtBack then s.wardBoot.raise 0x8E06 0xFF uidWard else s.wardBoot)
      else if s.evt.wdtBack then s.wardAgain else s :=
  if_neg (by simp [hpor, hv, hoff, hrec, hheld, hrail])

/-- The image that runs then answers the mailboxes. -/
theorem exec_wardImageStart {t : Nat} {s x : State} (hx : wardStart (s.at t) = x) (hrun : x.boot.ward = true) :
    exec (.wardImageStart t) s = .next ((List.range 64).foldl State.serveHeld x) := by
  subst hx
  exact congrArg Host.Outcome.next (if_pos hrun)

/-! ### Domains, and the steps of Table 15.1 -/

/-- A domain that has neither come up nor failed comes up. -/
def railUp (m : Map Nat) (k : Nat) : Map Nat := if (mapFind m k).isNone then mapSet m k 0 else m

theorem mapFind_railUp (m : Map Nat) (j k : Nat) : mapFind (railUp m j) k = if j = k ∧ mapFind m k = none then some 0 else mapFind m k := by
  unfold railUp
  by_cases hj : j = k
  · subst hj
    cases h : mapFind m j <;> simp [h]
  · split <;> simp [hj]

theorem mapFind_railUp_foldl (l : List Nat) (m : Map Nat) (k : Nat) :
    mapFind (l.foldl railUp m) k = if k ∈ l ∧ mapFind m k = none then some 0 else mapFind m k := by
  induction l generalizing m with
  | nil => simp
  | cons j r ih =>
    rw [List.foldl_cons, ih, mapFind_railUp]
    by_cases hj : j = k
    · subst hj
      cases h : mapFind m j <;> simp
    · simp [hj, Ne.symm hj]

theorem State.railsUp_railOn (s : State) (step k : Nat) :
    (s.railsUp step).railOn k = if k ∈ upRails step ∧ mapFind s.pwr.rails k = none then true else s.railOn k := by
  have hfind : mapFind (s.railsUp step).pwr.rails k = _ := mapFind_railUp_foldl (upRails step) s.pwr.rails k
  unfold State.railOn
  rw [hfind]
  split <;> rfl

theorem exec_railStepDone {t ms : Nat} {trips : List Nat} {fails : List BistFail} {s : State} (h : ∀ i, i ∈ trips → 1 ≤ i ∧ i ≤ 17) :
    exec (.railStepDone t trips fails ms) s = .next (railStep trips fails ms (s.at t)) := by
  refine if_pos (List.all_eq_true.mpr fun i hi => ?_)
  simp [h i hi]

section
variable {trips : List Nat} {fails : List BistFail} {ms : Nat} {s : State} (h : s.starting = true)
include h

/-- After step 1 the trip self-test. -/
theorem railStep_first (hstep : s.boot.steps = 0) :
    railStep trips fails ms s = (((s.railsUp 1).setBoot (fun b => { b with state := 2 })).milestone 4).selfTest trips := by
  unfold railStep
  rw [if_neg (by simp [h]), hstep]
  rfl

theorem railStep_second (hstep : s.boot.steps = 1) : railStep trips fails ms s =
    if s.boot.limited == 0 then s.railsUp 2 else ((s.railsUp 2).setBoot (fun b => { b with link := !b.perst })).hostReady := by
  unfold railStep
  rw [if_neg (by simp [h]), hstep]
  rfl

theorem railStep_third (hstep : s.boot.steps = 2) : railStep trips fails ms s = s.railsUp 3 := by
  unfold railStep
  rw [if_neg (by simp [h]), hstep]
  rfl

/-- The last step, once its milestones are noted. -/
def State.allUp (s : State) (ms : Nat) : State := (((s.railsUp 4).milestone 5).milestone 6).milestone 7 (s.now + ms * 1000000000)

/-- After step 4 the receiver and memory BIST. -/
theorem railStep_last (hstep : s.boot.steps = 3) : railStep trips fails ms s =
    let z := ({ s.allUp ms with
      beat := { (s.allUp ms).beat with mode := .seeking, since := (s.allUp ms).now, spent := (s.allUp ms).notchClock, seekSpent := (s.allUp ms).seekClock }
      boot := { (s.allUp ms).boot with state := 3, link := !(s.allUp ms).boot.perst } } : State).memoryBist fails ms
    if z.boot.limited == 0 then z else z.enterLimited z.boot.limited := by
  unfold railStep
  rw [if_neg (by simp [h]), hstep]
  rfl

end

theorem State.railsUp_keeps (s : State) (step : Nat) : (s.railsUp step).now = s.now ∧ (s.railsUp step).boot.perst = s.boot.perst := ⟨rfl, rfl⟩

/-- The milestones keep the instant and PERST#. -/
theorem State.allUp_keeps (s : State) (ms : Nat) : (s.allUp ms).now = s.now ∧ (s.allUp ms).boot.perst = s.boot.perst := by
  have hkeep (y : State) (row ps : Nat) : (y.milestone row ps).now = y.now ∧ (y.milestone row ps).boot.perst = y.boot.perst := by
    obtain ⟨times, hboot, hwrites⟩ := y.milestone_boot row ps
    exact ⟨hwrites .now (by simp), by rw [hboot]⟩
  unfold State.allUp
  simp only [(hkeep _ _ _).1, (hkeep _ _ _).2]
  exact s.railsUp_keeps 4

theorem State.bistFail_keeps (s : State) (f : BistFail) : (s.bistFail f).kwMem = s.kwMem ∧ (s.bistFail f).bist.ms = s.bist.ms := by
  unfold State.bistFail
  dsimp only
  (repeat' split) <;> exact ⟨rfl, rfl⟩

/-- Memory BIST leaves every memory zeroed and notes its duration (R590). -/
theorem State.memoryBist_spec (s : State) (l : List BistFail) (ms : Nat) : (s.memoryBist l ms).kwMem = [] ∧ (s.memoryBist l ms).bist.ms = ms :=
  ⟨foldl_keeps State.kwMem _ (fun x f => (x.bistFail_keeps f).1) _ _, foldl_keeps (fun x => x.bist.ms) _ (fun x f => (x.bistFail_keeps f).2) _ _⟩

/-! ### Images -/

theorem State.imageCause_zero_iff (s : State) : s.imageCause = 0 ↔ s.boot.running 2 ≠ none ∧ s.boot.running 3 ≠ none ∧
    qualified [s.boot.runHdr 1, s.boot.runHdr 2, s.boot.runHdr 3] 0xB1 = true := by
  unfold State.imageCause
  cases s.boot.running 2 with
  | none => simp
  | some i =>
    cases s.boot.running 3 with
    | none => simp
    | some j => simp

theorem State.hostReady_ready (s : State) : s.hostReady.boot.ready = true := by
  unfold State.hostReady
  split
  · assumption
  · obtain ⟨times, hboot, -⟩ := (s.setBoot (fun b => { b with ready := true })).milestone_boot 8 s.now
    exact congrArg BootS.ready hboot

theorem firmwareStart_of_ready {s : State} (hward : s.boot.ward = true) (hstate : s.boot.state = 3) (hlimited : s.boot.limited = 0)
    (htrip : s.boot.trip = false) (hdown : s.boot.down = []) :
    firmwareStart s =
      let y := (((s.setBoot (fun b => { (b.loadKind 2).loadKind 3 with state := 4 })).fallbacks).measureImage 2).measureImage 3
      if y.imageCause == 0 then y.firmwareRuns else y.enterLimited y.imageCause :=
  if_neg (by simp [hward, hstate, hlimited, htrip, hdown])

/-! ### Updates -/

/-- A commit's checks, in their order (R616). -/
theorem commitDone_of_commit {s : State} {len : Nat} (h : s.boot.commit = some len) :
    commitDone s =
      if s.boot.image.length != len || 192 + leAt (s.boot.image.take 192) 32 4 != len then s.fwReject 4
      else if !headerOk s.boot.commitKind (s.boot.image.take 192) then s.fwReject 3
      else ({ s with boot := { s.boot with
        commit := none
        result := 2
        staged := []
        banks := s.boot.banks.set (s.boot.inactive s.boot.commitKind) ⟨2, ((s.boot.active s.boot.commitKind).elim 0 (fun i => (s.boot.bank i).seq) + 1) % 4294967296,
          s.boot.image.take 192, s.boot.image.drop 192, sha384 (s.boot.image.drop 192) == ((s.boot.image.take 192).drop 48).take 48⟩ } } : State).raise 0x1F02 0xFF := by
  unfold commitDone
  rw [h]
  rfl

/-- Settles O56: the start by what it goes by, the images by whether they qualify. -/
theorem bootRunsItsImages : Obligations.BootRunsItsImages := by
  refine ⟨fun t s hpor hv hoff hrec hheld hrail => ⟨fun hcold => ?_, fun hwarm hback => ?_⟩, fun fn s => ⟨fun hidle => ?_, fun hbusy hlink hhere f hf hbad => ?_⟩,
    fun t ms trips fails s htrips => ⟨fun hno => ?_, fun hstart => ⟨fun hstep y hy => ⟨fun hnone => ?_, fun hsome => ?_⟩, fun hstep hlim => ?_,
      fun hstep hlim => ?_, fun hstep => ?_, fun hstep y z hy hz => ?_⟩⟩,
    fun step k s => ⟨rfl, fun hin hfree => ?_, fun hout => ?_⟩,
    fun t s y z hward hstate hlimited htrip hdown hy hz => ⟨fun hok => ⟨?_, rfl, ?_⟩, fun hbad => ?_, z.imageCause_zero_iff⟩,
    fun t s hno => ?_, fun t len kind s img hd hcommit hkind himg hhd => ?_, fun t s hnone => ?_⟩
  · have hstart := wardStart_of_up (s := s.at t) hpor hv hoff hrec hheld hrail
    rw [if_pos (by simp [hcold])] at hstart
    obtain ⟨hrun, hstate, hcold', hcount, hclocks, hkex⟩ := (s.at t).wardBoot_starts
    simp only [EvtS.clocks, Prod.mk.injEq] at hclocks
    obtain ⟨hcycles, hsince, hlast, hback⟩ := hclocks
    cases hwdt : s.evt.wdtBack with
    | false =>
      rw [if_neg (by simp [hwdt])] at hstart
      exact ⟨_, exec_wardImageStart hstart hrun, hrun, hstate, hcold', hcount, hcycles, hsince, hlast, hback, hkex⟩
    | true =>
      rw [if_pos (by simp [hwdt])] at hstart
      have hraise := (s.at t).wardBoot.raise_bootView 0x8E06 0xFF uidWard 0 0 0
      simp only [State.bootView, EvtS.clocks, Prod.mk.injEq] at hraise
      obtain ⟨-, -, ⟨hrcycles, hrsince, hrlast, hrback⟩, -, -⟩ := hraise
      exact ⟨_, exec_wardImageStart hstart hrun, hrun, hstate, hcold', hcount, hrcycles.trans hcycles, hrsince.trans hsince, hrlast.trans hlast,
        hrback.trans hback, hkex⟩
  · have hstart := wardStart_of_up (s := s.at t) hpor hv hoff hrec hheld hrail
    rw [if_neg (by simp [hwarm]), if_pos (by simp [hback])] at hstart
    obtain ⟨hrun, hstate, hsess, hsel, hblocks, hboxes, hsince, hback', hsrv, hslots, hbeat⟩ := (s.at t).wardAgain_starts
    exact ⟨_, exec_wardImageStart hstart hrun, hrun, hstate, hsess, hsel, hblocks, hsince, hback', hsrv, hslots, hbeat, hboxes⟩
  · refine if_pos ?_
    rcases hidle with h | h | h <;> simp [h]
  · subst hf
    refine (if_neg (by simp [hbusy, hlink, hhere])).trans (if_pos ?_)
    simpa using hbad
  · exact (exec_railStepDone htrips).trans (congrArg Host.Outcome.next (if_pos (by simp [hno])))
  · rw [exec_railStepDone htrips, railStep_first (s := s.at t) hstart hstep, hy, hnone]
    rfl
  · rw [exec_railStepDone htrips, railStep_first (s := s.at t) hstart hstep, hy]
    exact congrArg Host.Outcome.next (if_neg (by simp [hsome]))
  · rw [exec_railStepDone htrips, railStep_second (s := s.at t) hstart hstep]
    exact congrArg Host.Outcome.next (if_pos (by simp [hlim]))
  · rw [exec_railStepDone htrips, railStep_second (s := s.at t) hstart hstep]
    exact congrArg Host.Outcome.next (if_neg (by simp [hlim]))
  · rw [exec_railStepDone htrips, railStep_third (s := s.at t) hstart hstep]
  · obtain ⟨hnow, hperst⟩ := (s.at t).allUp_keeps ms
    have hnow : y.now = max s.now t := hy ▸ hnow
    have hperst : y.boot.perst = s.boot.perst := hy ▸ hperst
    have hlast := railStep_last (trips := trips) (fails := fails) (ms := ms) (s := s.at t) hstart hstep
    rw [show (s.at t).allUp ms = y from hy.symm, hnow, hperst, ← hz] at hlast
    obtain ⟨hmem, hms⟩ : z.kwMem = [] ∧ z.bist.ms = ms := hz ▸ State.memoryBist_spec _ fails ms
    refine ⟨hmem, hms, ?_⟩
    rw [exec_railStepDone htrips, hlast]
    simp only [beq_iff_eq]
  · rw [State.railsUp_railOn, if_pos ⟨hin, hfree⟩]
  · rw [State.railsUp_railOn, if_neg fun h => hout.elim (fun hno => hno h.1) fun hne => hne h.2]
  · subst hz hy
    refine congrArg Host.Outcome.next ((firmwareStart_of_ready (s := s.at t) hward hstate hlimited htrip hdown).trans (if_pos ?_))
    exact beq_iff_eq.mpr hok
  · exact State.hostReady_ready _
  · subst hz hy
    refine congrArg Host.Outcome.next ((firmwareStart_of_ready (s := s.at t) hward hstate hlimited htrip hdown).trans (if_neg ?_))
    exact fun h => hbad (beq_iff_eq.mp h)
  · refine congrArg Host.Outcome.next (if_pos ?_)
    rcases hno with h | h | h | h | h <;> simp [h]
  · subst hhd himg hkind
    have hx : exec (.fwCommitDone t) s = _ := congrArg Host.Outcome.next (commitDone_of_commit (s := s.at t) hcommit)
    refine ⟨fun hlen => ?_, fun hlen hbody hhdr => ?_, fun hlen hbody hhdr => ?_⟩
    · exact hx.trans (congrArg Host.Outcome.next (if_pos (by simpa using hlen)))
    · exact hx.trans (congrArg Host.Outcome.next ((if_neg (by simp [hlen, hbody])).trans (if_pos (by simp [hhdr]))))
    · exact hx.trans (congrArg Host.Outcome.next ((if_neg (by simp [hlen, hbody])).trans (if_neg (by simp [hhdr]))))
  · refine congrArg Host.Outcome.next ?_
    unfold commitDone
    rw [show (s.at t).boot.commit = none from hnone]

end Sys2Proof.Machine
end

section
/-! Proofs: heartbeats, resets of controllers and held requests (spec/02 R55–R62). -/
namespace Sys2Proof.Machine
open Sys2Proof

/-! ### Controllers' commands -/

section
variable {t c u : Nat} {s : State} (hu : s.canonUnit c = some u) (hctrl : isCtrl u = true)
include hu hctrl

theorem exec_controllerHeartbeat : exec (.controllerHeartbeat t c) s = .next (heartbeat u (s.at t)) := by
  show execControllerHeartbeat t c s = _
  unfold execControllerHeartbeat
  rw [hu]
  exact if_pos hctrl

theorem exec_ctrlReset {ward : Bool} : exec (.ctrlReset t ⟨c, ward⟩) s = .next (ctrlReset u ward (s.at t)) := by
  show execCtrlReset t ⟨c, ward⟩ s = _
  unfold execCtrlReset
  dsimp only
  rw [hu]
  exact if_pos hctrl

theorem exec_ctrlRestartDone : exec (.ctrlRestartDone t c) s = .next (ctrlRestartDone u (s.at t)) := by
  show execCtrlRestartDone t c s = _
  unfold execCtrlRestartDone
  rw [hu]
  exact if_pos hctrl

end

/-! ### Resets -/

/-- The resets that failed to make a controller live, within the last 1,000 beats (R61). -/
def State.failedResets (s : State) (u : UnitId) : List Nat := (mapGet s.hier.resets u []).filter (fun b => s.beat.count < b + 1000)

/-- A silent controller that its parent watches is reset, or is FAULTED. -/
theorem ctrlReset_of_silent {s : State} {u : UnitId} {ward : Bool} (hsilent : s.silent u = true) (hwatched : s.watched u = true) :
    ctrlReset u ward s = if 3 ≤ (s.failedResets u).length then s.ctrlFaulted u else s.ctrlRestart u (s.failedResets u) :=
  if_pos (by simp [hsilent, hwatched])

/-- Another is reset by the Ward's command alone. -/
theorem ctrlReset_of_heard {s : State} {u : UnitId} {ward : Bool} (h : s.silent u = false ∨ s.watched u = false) :
    ctrlReset u ward s = if ward ∧ s.hier.watchFrom.isSome ∧ (s.ownState u = .online ∨ s.ownState u = .resetting) then
      s.ctrlRestart u (s.failedResets u) else s := by
  unfold ctrlReset
  dsimp only
  rw [if_neg (by rcases h with h | h <;> simp [h])]
  simp only [Bool.and_eq_true, Bool.or_eq_true, beq_iff_eq, and_assoc]
  rfl

theorem State.ctrlRestart_eq (s : State) (u : UnitId) (failed : List Nat) : s.ctrlRestart u failed =
    ((({ s with hier := { s.hier with
      own := mapSet s.hier.own u .resetting
      resets := mapSet s.hier.resets u (s.beat.count :: failed)
      resetAt := if s.ownState u = .resetting then s.hier.resetAt else mapSet s.hier.resetAt u s.beat.count
      beatsAt := mapSet s.hier.beatsAt u s.now
      delivered := s.hier.delivered.filter (fun h => some h != haspOf u) } } : State).inc .CTRL_RESET_COUNT).resetWork u).raise 0x4202 0xFF u := by
  unfold State.ctrlRestart
  by_cases h : s.ownState u = .resetting <;> simp [h, State.setOwn]

theorem State.ctrlFaulted_of_steward {s : State} {u : UnitId} (h : haspOf u = none) :
    s.ctrlFaulted u = ((s.setOwn u .faulted).resetWork u).raise 0x8203 0xFF u := by
  unfold State.ctrlFaulted
  rw [h]

theorem State.ctrlFaulted_of_hasp {s : State} {u : UnitId} {hc : Nat} (h : haspOf u = some hc) :
    s.ctrlFaulted u = (((s.setOwn u .faulted).resetWork u).raise 0x8203 0xFF u).mapReqs
      (fun i r => (((s.setOwn u .faulted).resetWork u).raise 0x8203 0xFF u).ownerOf i == hc && r.state == .held && r.hold == .hasp) (fun x i => x.endReq i 10) := by
  unfold State.ctrlFaulted
  rw [h]

theorem State.resetWork_hasp_hier (s : State) {u : UnitId} {hc : Nat} (h : haspOf u = some hc) : (s.resetWork u).hier = s.hier := by
  unfold State.resetWork
  rw [h]
  exact foldl_keeps State.hier (fun x i => x.holdReq i .hasp) (fun x i => rfl) _ _

/-! ### Held requests that fail -/

/-- A held request is failed, and freed at the next item 3 (R62). -/
def State.failHeld (s : State) (i : Nat) : State := s.putReq i { s.req i with ending := some (10, 0) }

theorem State.failHeld_foldl_req (l : List Nat) (s : State) (i : Nat) :
    (l.foldl State.failHeld s).req i = if i ∈ l then { s.req i with ending := some (10, 0) } else s.req i := by
  induction l generalizing s with
  | nil => rfl
  | cons a r ih =>
    have hone : (s.failHeld a).req i = if a = i then { s.req a with ending := some (10, 0) } else s.req i := State.req_putReq _ _ _ _
    rw [List.foldl_cons, ih, hone]
    by_cases ha : a = i
    · subst ha
      simp
    · simp [ha, Ne.symm ha]

theorem State.failHeld_foldl_writes (l : List Nat) (s : State) : Writes [.srv] s (l.foldl State.failHeld s) := by
  induction l generalizing s with
  | nil => exact Writes.refl _ s
  | cons a r ih =>
    refine Writes.trans (fun f hf => ?_) (ih (s.failHeld a))
    cases f with
    | srv => simp at hf
    | _ => rfl

/-- Requests that their Hasp core holds and that have not ended. -/
def State.heldBy (s : State) (hc : Nat) : List Nat :=
  (s.srv.reqs.filter (fun x => s.ownerOf x.1 == hc && x.2.state == .held && x.2.hold == .hasp && x.2.ending.isNone)).map Prod.fst

theorem haspHoldExpiry_of_late {s : State} {hc : Nat} (hlive : s.haspLive hc = false) (hlate : mapGet s.hier.resetAt (uidHasp hc) 0 + 2 ≤ s.beat.count) :
    haspHoldExpiry hc s = (s.heldBy hc).foldl State.failHeld s :=
  if_neg (by simp [hlive, hlate])

/-! ### A Hasp core's work -/

theorem haspWork_of_late {s : State} {hc : Nat} (hlive : s.haspLive hc = true)
    (h : s.boot.stepped = false ∨ s.beat.phase ≠ .open_ ∨ s.set0 .OPEN_END < s.notchNow + 8 ∨ s.hier.merged.contains hc = true)
    (hnew : s.hier.delivered.contains hc = false) : haspWork hc s = { s with hier := { s.hier with delivered := s.hier.delivered ++ [hc] } } := by
  unfold haspWork
  rw [if_neg (by simp [hlive]), if_neg ?_, if_neg (by rw [hnew]; decide)]
  rcases h with h | h | h | h
  · simp [h]
  · simp [h]
  · simp [Nat.not_le.mpr h]
  · rw [h]
    simp

theorem haspWork_of_open {s : State} {hc : Nat} (hlive : s.haspLive hc = true) (hstepped : s.boot.stepped = true) (hphase : s.beat.phase = .open_)
    (hroom : s.notchNow + 8 ≤ s.set0 .OPEN_END) (hnew : s.hier.merged.contains hc = false) : haspWork hc s =
      let y := (s.admitUpTo [hc] s.srv.admitsLeft).buildPart [hc] ⟨(s.admitUpTo [hc] s.srv.admitsLeft).srv.room.1,
        (s.admitUpTo [hc] s.srv.admitsLeft).srv.room.2.1, (s.admitUpTo [hc] s.srv.admitsLeft).srv.room.2.2⟩
      State.flush { y with hier := { y.hier with merged := y.hier.merged ++ [hc] } } := by
  unfold haspWork
  rw [if_neg (by simp [hlive]), if_pos (by rw [hnew]; simp [hstepped, hphase, hroom])]

/-- Settles O7: each command of a controller by its guards. -/
theorem controllersAndTheirResets : Obligations.ControllersAndTheirResets := by
  refine ⟨fun t c u s hu hctrl => exec_controllerHeartbeat hu hctrl,
    fun t hc s hhc hlive => ⟨fun hlate hnew => ?_, fun y hstepped hphase hroom hnew hy => ?_⟩,
    fun t c u ward s y z failed hu hctrl hfailed hy hz => ⟨fun hsilent hwatched => ⟨fun hfew => ?_, fun hmany hsteward => ?_, fun hc hmany hhasp => ?_⟩,
      fun hheard => ?_⟩,
    fun t c u s y hu hctrl hreset hy => ⟨fun hsteward => ?_, fun hc hhasp hsoon => ?_⟩,
    fun t hc s hhc hlive hlate => ?_⟩
  · exact (if_pos hhc).trans (congrArg Host.Outcome.next (haspWork_of_late (s := s.at t) hlive hlate hnew))
  · have hwork := haspWork_of_open (s := s.at t) hlive hstepped hphase hroom hnew
    have hx : exec (.haspWorkDelivery t hc) s = .next (haspWork hc (s.at t)) := if_pos hhc
    rw [hx, hwork, State.at_srv, ← hy]
  · have hf : (s.at t).failedResets u = failed := hfailed.symm
    rw [exec_ctrlReset hu hctrl, ctrlReset_of_silent (s := s.at t) hsilent hwatched, hf, if_neg (Nat.not_le.mpr hfew), State.ctrlRestart_eq, hy]
    rfl
  · have hf : (s.at t).failedResets u = failed := hfailed.symm
    rw [exec_ctrlReset hu hctrl, ctrlReset_of_silent (s := s.at t) hsilent hwatched, hf, if_pos hmany, State.ctrlFaulted_of_steward hsteward, hz]
  · have hf : (s.at t).failedResets u = failed := hfailed.symm
    have howner : z.hier.rangeOwner = s.hier.rangeOwner := by
      have hwork := ((s.at t).setOwn u .faulted).resetWork_hasp_hier hhasp
      rw [hz, State.raise_hier, hwork]
      rfl
    rw [exec_ctrlReset hu hctrl, ctrlReset_of_silent (s := s.at t) hsilent hwatched, hf, if_pos hmany, State.ctrlFaulted_of_hasp hhasp, ← hz]
    simp only [State.ownerOf, howner]
  · have hf : (s.at t).failedResets u = failed := hfailed.symm
    rw [exec_ctrlReset hu hctrl, ctrlReset_of_heard (s := s.at t) hheard, hf, State.ctrlRestart_eq, hy]
    rfl
  · subst hy
    refine (exec_ctrlRestartDone hu hctrl).trans (congrArg Host.Outcome.next ?_)
    unfold ctrlRestartDone
    rw [if_neg (by simp [hreset]), hsteward]
    rfl
  · subst hy
    refine (exec_ctrlRestartDone hu hctrl).trans (congrArg Host.Outcome.next ?_)
    unfold ctrlRestartDone
    rw [if_neg (by simp [hreset]), hhasp]
    exact if_neg (Nat.not_lt.mpr hsoon)
  · have hx : exec (.haspHoldExpiry t hc) s = .next (((s.at t).heldBy hc).foldl State.failHeld (s.at t)) :=
      (if_pos hhc).trans (congrArg Host.Outcome.next (haspHoldExpiry_of_late (s := s.at t) hlive hlate))
    refine Does.of_next hx (State.failHeld_foldl_writes _ _) fun i => ?_
    rw [State.failHeld_foldl_req]
    refine ⟨?_, fun hmem howner hheld hhold hnone => ?_⟩
    · split
      · exact Or.inr rfl
      · exact Or.inl rfl
    · have hin : i ∈ (s.at t).heldBy hc := by
        refine List.mem_map.mpr ⟨(i, s.req i), List.mem_filter.mpr ⟨hmem, ?_⟩, rfl⟩
        simp [show (s.at t).ownerOf i = hc from howner, hheld, hhold, hnone]
      rw [if_pos hin]

end Sys2Proof.Machine
end

section
/-! Proofs: what commands that wait for a boundary do there (spec/03 R103; spec/05 R216; spec/14 R593, R594). -/
namespace Sys2Proof.Machine
open Sys2Proof

/-- A command, of which no setting stands, does what its value does when it takes effect. -/
theorem State.applyWrite_command (s : State) {k : OKey} (v : OVal) (hcmd : k.obj.spec.acc ≠ .rw) (hset : k.obj ≠ .AVS_ENABLE) :
    s.applyWrite (k, v) = s.applyEffect k v := by
  have hacc : (k.obj.spec.acc == Access.rw) = false := beq_false_of_ne hcmd
  have havs : (k.obj == Obj.AVS_ENABLE) = false := beq_false_of_ne hset
  unfold State.applyWrite
  simp only [hacc, havs, Bool.false_and, Bool.false_eq_true, if_false]

/-- An engine that is neither retired nor marked is marked for retirement (R216). -/
theorem State.retireEngine_marks {s : State} {eng : Nat} {c : RetireCause} (hnew : (s.engine eng).retiring = none) (hlive : (s.engine eng).retired = false) :
    ((s.retireEngine eng c).engine eng).retiring = some c := by
  have hrun : s.retireEngine eng c = (s.putEngine eng { s.engine eng with retiring := some c, run := none }).raise 0x8502 0xFF (s.uidEngine eng) :=
    if_neg (by simp [hnew, hlive])
  have heng : (s.putEngine eng { s.engine eng with retiring := some c, run := none }).engine eng = { s.engine eng with retiring := some c, run := none } :=
    (State.engine_putEngine _ _ _ _).trans (if_pos rfl)
  rw [hrun]
  exact congrArg EngS.retiring heng

/-- A tier alone is marked (R211). -/
theorem State.retireTier_marks {s : State} {eng tier : Nat} (htier : tier < (s.engine eng).tiers.length)
    (hlive : ((s.engine eng).tier tier).health ≠ .retired) : (((s.retireTier eng tier).engine eng).tier tier).retiring = true := by
  unfold State.retireTier
  dsimp only
  split
  next h => exact h.resolve_right hlive
  next =>
    have heng : (s.putTier eng tier { (s.engine eng).tier tier with retiring := true }).engine eng =
        (s.engine eng).putTier tier { (s.engine eng).tier tier with retiring := true } := (State.engine_putEngine _ _ _ _).trans (if_pos rfl)
    show (((s.putTier eng tier { (s.engine eng).tier tier with retiring := true }).engine eng).tier tier).retiring = true
    rw [heng, EngS.tier, EngS.putTier, List.getD_eq_getElem?_getD, List.getElem?_set_self htier]
    rfl

theorem State.eraseTier_bist (s : State) (eng tier : Nat) : (s.eraseTier eng tier).bist = s.bist := by
  unfold State.eraseTier
  dsimp only
  split
  · exact (State.inc_bist _ _ _).trans rfl
  · exact (State.inc_bist _ _ _).trans rfl

theorem State.lbistRun_starts {s : State} {v : Nat} {u : UnitId} (hu : s.lbistUnit v = some u) (hfree : s.bist.lbist = none)
    (hbeat : s.beat.mode ≠ .seeking) (hnew : s.hier.isolate.contains u = false) : s.lbistRun v =
      { s with bist := { s.bist with lbist := some (u, s.ownState u) }, hier := { s.hier with isolate := s.hier.isolate ++ [u] } } := by
  unfold State.lbistRun
  rw [hu, hfree]
  refine (if_neg hbeat).trans (if_neg ?_)
  rw [show (({ s with bist := { s.bist with lbist := some (u, s.ownState u) } } : State).hier.isolate.contains u) = s.hier.isolate.contains u from rfl, hnew]
  decide

theorem State.arrayRun_starts {s : State} {v : Nat} {u : UnitId} (hu : s.canonUnit v = some u) (hengine : uidType u = 4) (hfree : s.bist.array = none) :
    (s.arrayRun v).bist = { s.bist with array := some (s.engineOf u) } := by
  unfold State.arrayRun
  rw [hu, hfree]
  dsimp only
  rw [if_neg (by simp [hengine])]
  exact foldl_keeps State.bist _ (fun x i => x.eraseTier_bist _ i) _ _

/-- Settles O16: each command by what it is applied to. -/
theorem commandsActAtTheirBoundary : Obligations.CommandsActAtTheirBoundary := by
  intro s n kw v u
  refine ⟨rfl, rfl, rfl, fun hactive => ?_, rfl, rfl, rfl, fun hu hfree hbeat hnew => ?_, fun hu hengine hfree => ?_, rfl, rfl,
    fun htype hnew hlive => ?_, fun htype htier hlive => ?_, rfl, fun hlive hnone => ?_, fun hvalid => ?_, rfl⟩
  · rw [State.applyWrite_command _ _ (by decide) (by decide)]
    exact if_pos (beq_iff_eq.mpr hactive)
  · rw [State.applyWrite_command _ _ (by decide) (by decide)]
    exact State.lbistRun_starts hu hfree hbeat hnew
  · rw [State.applyWrite_command _ _ (by decide) (by decide)]
    exact State.arrayRun_starts hu hengine hfree
  · rw [State.retireUnit, if_neg (by simp [htype])]
    exact State.retireEngine_marks hnew hlive
  · rw [State.retireUnit, if_pos (by simp [htype])]
    exact State.retireTier_marks htier hlive
  · unfold State.calRequest
    dsimp only
    rw [if_neg (by simp [hlive]), hnone]
  · rw [State.applyWrite_command _ _ (by decide) (by decide)]
    exact if_pos (beq_iff_eq.mpr hvalid)

end Sys2Proof.Machine
end

section
/-! Proofs: functions open, close and fail (spec/03 R123–R125, R628–R630, Table 3.13). -/
namespace Sys2Proof.Machine
open Sys2Proof

/-! ### FUNC_ENABLE -/

theorem funcOfIndex_funcIndex {f : Func} (h : funcExists f = true) : funcOfIndex (funcIndex f) = some f := by
  cases f with
  | slot n =>
    have hn : n < 16 := of_decide_eq_true h
    have hin : (decide (0x2410 ≤ 0x2410 + n) && decide (0x2410 + n < 0x2420)) = true := by simp; omega
    rw [funcOfIndex, funcIndex, if_pos hin, Nat.add_sub_cancel_left]
  | port n =>
    have hn : n < 23 := of_decide_eq_true h
    have hout : ¬(decide (0x2410 ≤ 0x3010 + n) && decide (0x3010 + n < 0x2420)) = true := by simp; omega
    have hin : (decide (0x3010 ≤ 0x3010 + n) && decide (0x3010 + n < 0x3027)) = true := by simp; omega
    rw [funcOfIndex, funcIndex, if_neg hout, if_pos hin, Nat.add_sub_cancel_left]
  | keyway n =>
    have hn : n < 64 := of_decide_eq_true h
    have hout : ¬(decide (0x2410 ≤ 0x8000 + 0x100 * n) && decide (0x8000 + 0x100 * n < 0x2420)) = true := by simp; omega
    have hout' : ¬(decide (0x3010 ≤ 0x8000 + 0x100 * n) && decide (0x8000 + 0x100 * n < 0x3027)) = true := by simp; omega
    have hin : (decide (0x8000 ≤ 0x8000 + 0x100 * n) && decide (0x8000 + 0x100 * n < 0xC000) && (0x8000 + 0x100 * n) % 256 == 0) = true := by
      simp; omega
    rw [funcOfIndex, funcIndex, if_neg hout, if_neg hout', if_pos hin, Nat.add_sub_cancel_left, Nat.mul_div_cancel_left _ (by decide)]

/-- 0 and 1 are taken as written. -/
theorem State.checked_funcEnable (u : State) (f : Func) {v : Nat} (hv : v ≤ 1) :
    u.checked (funcEnableKey f) (leBytes (objSize .FUNC_ENABLE) v) = (.num v, []) := by
  have hnum : leNat (leBytes (objSize .FUNC_ENABLE) v) = v := by
    rw [leNat_leBytes]
    exact Nat.mod_eq_of_lt (show v < 256 by omega)
  have hkeep (d : Nat) : applyScalar .FUNC_ENABLE d v = v := by
    obtain rfl | rfl : v = 0 ∨ v = 1 := by omega
    · rfl
    · rfl
  show u.rangeCheck (funcEnableKey f) (.num (leNat (leBytes (objSize .FUNC_ENABLE) v))) = _
  rw [hnum, State.rangeCheck, show (funcEnableKey f).obj = Obj.FUNC_ENABLE from rfl, hkeep, if_pos (by simp)]

/-- What accepting it does: the write waits, and its function moves or latches. -/
theorem State.acceptAs_funcEnable {u : State} {c : Ctx} {f : Func} {v : Nat} {buf : Option Bytes} (hf : funcExists f = true) :
    u.acceptAs c (funcEnableKey f) (.num v, []) buf =
      (((u.queueWrite (funcEnableKey f) (.num v)).funcWrite f (v != 0)).1,
        { status := if ((u.queueWrite (funcEnableKey f) (.num v)).funcWrite f (v != 0)).2 then 2 else 0, detail := 1, payload := leBytes 1 v }) := by
  have hnote (y : State) : y.noteEnable (funcEnableKey f) (.num v) = y.funcWrite f (v != 0) := by
    unfold State.noteEnable
    rw [show (funcEnableKey f).inst = funcIndex f from rfl, funcOfIndex_funcIndex hf]
    rfl
  have hkey : settingKey (funcEnableKey f) = funcEnableKey f := rfl
  have hbar : u.acceptBar (funcEnableKey f) (.num v) = none := rfl
  have heffect : ((funcEnableKey f).obj.spec.effect == Effect.now) = false := rfl
  unfold State.acceptAs
  dsimp only
  rw [hkey, hbar, heffect]
  simp only [Bool.false_eq_true, if_false, hnote]
  generalize (u.queueWrite (funcEnableKey f) (.num v)).funcWrite f (v != 0) = z
  obtain ⟨y, pending⟩ := z
  cases pending <;> rfl

theorem State.funcWrite_of_closing {u : State} {f : Func} (v : Bool) (h : (u.func f).state = .closing) :
    u.funcWrite f v = (u.putFunc f { u.func f with latched := v }, v) := by
  unfold State.funcWrite
  dsimp only
  rw [h]

theorem State.funcWrite_of_open {u : State} {f : Func} (v : Bool) (h : (u.func f).state ≠ .closing) :
    u.funcWrite f v = (u.putFunc f { u.func f with want := some v }, false) := by
  unfold State.funcWrite
  dsimp only
  split
  · contradiction
  · rfl

/-- A served write of FUNC_ENABLE. -/
theorem exec_funcEnable {t v : Nat} {p : GdpPath} {h : ReqHead} {f : Func} {s u : State} {x : Session} {w : RowWrite} (hf : funcExists f = true)
    (hv : v ≤ 1) (hw : w = .num t .FUNC_ENABLE (funcIndex f) p h v) (hserved : Served w s u x (funcEnableKey f)) :
    exec (.funcEnable t p h f v) s = .next ((((u.queueWrite (funcEnableKey f) (.num v)).funcWrite f (v != 0)).1).replied p w.req
      { status := if ((u.queueWrite (funcEnableKey f) (.num v)).funcWrite f (v != 0)).2 then 2 else 0, detail := 1, payload := leBytes 1 v }) := by
  have hx : exec (.funcEnable t p h f v) s = w.outcome s := hw ▸ if_pos hf
  have hacc := write_acc w s u x (funcEnableKey f) hserved (w.outcome s) rfl
  have hchecked : u.checked (funcEnableKey f) w.payload = (.num v, []) := hw ▸ u.checked_funcEnable f hv
  have hpath : w.path = p := hw ▸ rfl
  rw [hx, hacc, hchecked, State.acceptAs_funcEnable hf, hpath]

/-! ### Openings and closings -/

theorem State.funcTo_writes (s : State) (f : Func) (x : FState) : Writes [.evt, .funcs] s (s.funcTo f x) :=
  (State.raise_writes _ _ _ _ _ _ _).append (State.putFunc_writes _ _ _)

/-- Entering a state changes that function alone. -/
theorem State.funcTo_func (s : State) (f : Func) (x : FState) (g : Func) : (s.funcTo f x).func g = if f = g then
    { s.func f with state := x, beats := 0, since := s.now, want := if x = .on then (s.func f).want.filter (· == false) else none
                    cause := if (s.func f).state = .opening ∧ x = .on then 0 else (s.func f).cause } else s.func g :=
  State.func_putFunc _ _ _ _

/-- Where an OPENING stands by its condition (R331, R449, R494). -/
def State.opened (s : State) : Func → Bool
  | .slot n => s.slotOpened n
  | .port n => s.portReady n
  | .keyway n => s.kwReady n && s.beat.mode == .seeking

theorem openComplete_of_opened {s : State} {f : Func} (hopening : (s.func f).state = .opening) (h : s.opened f = true) :
    openComplete f s = s.funcTo f .on := by
  refine (if_neg (by simp [hopening])).trans ?_
  cases f with
  | slot n => exact if_pos h
  | port n => exact if_pos h
  | keyway n => exact if_pos h

theorem powerupStart_of_up {s : State} {f : Func} (hup : s.ownerUp f = true) (hward : s.boot.ward = true) (hnew : s.boot.started.contains f = false) :
    powerupStart f s =
      let y : State := { s with boot := { s.boot with started := s.boot.started ++ [f] } }
      if (s.func f).state != .off || !s.enabled f then y
      else if s.beat.mode == .seeking then (y.putFunc f { s.func f with want := some true }).funcMove f
      else y.putFunc f { s.func f with want := some true } :=
  if_neg (by simp only [hup, hward, hnew]; decide)

theorem State.funcFail_func (s : State) (f : Func) :
    (s.funcFail f 0).func f = { s.func f with state := .off, beats := 0, since := s.now, want := none, cause := 0x8301 } := by
  unfold State.funcFail
  dsimp only
  rw [State.func_putFunc, if_pos rfl, State.funcTo_func, if_pos rfl]
  simp only [reduceCtorEq, if_false, BEq.rfl, if_true]
  rfl

/-- Settles O14: each function by its state and its time in it. -/
theorem functionsOpenAndClose : Obligations.FunctionsOpenAndClose := by
  refine ⟨fun t p h f v s u x w k hf hv hw hk hserved y hy => ⟨fun hopen => ?_, fun hclosing => ?_⟩,
    fun t f s hf hopening hdone => ?_, fun t f s y hf hopening hlimit hy => ⟨?_, ?_⟩,
    fun t n s hn hclosing hfree => ?_, fun t n s hn hclosing hfree => ?_, fun t n s hn hclosing hseek hzero hzeroed => ?_,
    fun t f s hf hclosing hlimit => ?_, fun t f s hf hup hward hnew hoff hen hbeat => ?_,
    fun t f s y hf hup hward hnew hy => ⟨fun hoff hen hseek => ?_, fun hno => ?_⟩, fun t n s hn hlink hwant => ?_⟩
  · subst hk hy
    rw [exec_funcEnable hf hv hw hserved, State.funcWrite_of_open (u := u.queueWrite (funcEnableKey f) (.num v)) _ hopen]
    rfl
  · subst hk hy
    rw [exec_funcEnable hf hv hw hserved, State.funcWrite_of_closing (u := u.queueWrite (funcEnableKey f) (.num v)) _ hclosing]
    obtain rfl | rfl : v = 0 ∨ v = 1 := by omega
    · rfl
    · rfl
  · have hopened : (s.at t).opened f = true := by
      cases f with
      | slot n => exact hdone
      | port n => exact hdone
      | keyway n => exact Bool.and_eq_true_iff.mpr ⟨hdone.1, beq_iff_eq.mpr hdone.2⟩
    have hx : exec (.funcOpenComplete t f) s = .next ((s.at t).funcTo f .on) :=
      (if_pos hf).trans (congrArg Host.Outcome.next (openComplete_of_opened (s := s.at t) hopening hopened))
    refine Does.of_next hx (((s.at t).funcTo_writes f .on).mono (by simp)) ⟨?_, fun g hg => ?_⟩
    · rw [State.funcTo_func, if_pos rfl, if_pos rfl, if_pos ⟨hopening, rfl⟩]
      rfl
    · rw [State.funcTo_func, if_neg (Ne.symm hg)]
      rfl
  · subst hy
    exact (s.at t).funcFail_func f
  · subst hy
    refine (if_pos hf).trans ?_
    have hpassed : ¬(((s.at t).func f).state != .opening || (s.at t).funcBeats f < openLimit f) = true := by
      simp [hopening, hlimit]
    cases f with
    | slot n => exact congrArg (fun y : State => Host.Outcome.next y.flush) (if_neg hpassed)
    | port n => exact congrArg (fun y : State => Host.Outcome.next y.flush) (if_neg hpassed)
    | keyway n => exact congrArg (fun y : State => Host.Outcome.next y.flush) (if_neg hpassed)
  · exact (if_pos (decide_eq_true hn)).trans (congrArg (fun y : State => Host.Outcome.next y.flush)
      ((if_neg (by simp [hclosing])).trans (if_neg (by simp [hfree]))))
  · exact (if_pos (decide_eq_true hn)).trans (congrArg (fun y : State => Host.Outcome.next y.flush)
      ((if_neg (by simp [hclosing])).trans (if_neg (by simp [hfree]))))
  · have hseekEnd : (s.at t).removalSeek n = (s.at t).removalEnd n := by
      unfold State.removalSeek
      rw [if_neg (by simp [hseek]), show ((s.at t).kway n).removal = .zero from hzero]
      exact if_pos hzeroed
    exact (if_pos (decide_eq_true hn)).trans (congrArg (fun y : State => Host.Outcome.next y.flush) ((if_neg (by simp [hclosing])).trans hseekEnd))
  · refine (if_pos hf).trans ?_
    have hpassed : ¬(((s.at t).func f).state != .closing || (s.at t).funcBeats f < closeLimit f) = true := by
      simp [hclosing, hlimit]
    cases f with
    | slot n => exact congrArg (fun y : State => Host.Outcome.next y.flush) (if_neg hpassed)
    | port n => exact congrArg (fun y : State => Host.Outcome.next y.flush) (if_neg hpassed)
    | keyway n => exact congrArg (fun y : State => Host.Outcome.next y.flush) (if_neg hpassed)
  · refine (if_pos hf).trans (congrArg Host.Outcome.next ?_)
    rw [powerupStart_of_up (s := s.at t) hup hward hnew]
    exact (if_neg (by simp [hoff, hen])).trans (if_neg (by simp [hbeat]))
  · subst hy
    refine (if_pos hf).trans (congrArg Host.Outcome.next ?_)
    rw [powerupStart_of_up (s := s.at t) hup hward hnew]
    exact (if_neg (by simp [hoff, hen])).trans (if_pos (by simp [hseek]))
  · subst hy
    refine (if_pos hf).trans (congrArg Host.Outcome.next ?_)
    rw [powerupStart_of_up (s := s.at t) hup hward hnew]
    exact if_pos (by rcases hno with h | h <;> simp [h])
  · exact (if_pos hn).trans (congrArg Host.Outcome.next (if_pos (by simp [hlink, hwant])))

end Sys2Proof.Machine
end

section
/-! Proofs: in SEEKING what waits takes effect without a boundary (spec/03 R105). -/
namespace Sys2Proof.Machine
open Sys2Proof

/-- The settings whose value does something when it takes effect, beside standing in its object. -/
def actingSettings : List Obj := [.ATTN_MAP, .FABRIC_MAP, .ADAPTER_TABLE, .SYSCAL_CHAN, .FW_SEG, .PWR_LIMIT, .BEAT_NUMBER_SET, .AVS_ENABLE, .SPARES_LOW_MARK]

section
variable {k : OKey} (hacc : k.obj.spec.acc = .rw) (hplain : k.obj ∉ actingSettings)
include hacc hplain

/-- A value of any other setting has no effect of its own. -/
theorem State.applyEffect_setting (s : State) (v : OVal) : s.applyEffect k v = s := by
  have hcmd {o : Obj} (ho : o.spec.acc ≠ .rw) : k.obj ≠ o := fun h => ho (h ▸ hacc)
  have hact {o : Obj} (ho : o ∈ actingSettings) : k.obj ≠ o := fun h => hplain (h ▸ ho)
  unfold State.applyEffect
  dsimp only
  split
  case h_1 h | h_2 h | h_3 h | h_5 h | h_8 h | h_10 h | h_11 h | h_12 h | h_14 h | h_15 h | h_16 h | h_19 h =>
    exact absurd h (hcmd (by decide))
  case h_4 h | h_6 h | h_7 h | h_9 h | h_13 h | h_17 h | h_18 h => exact absurd h (hact (by decide))
  case h_20 => rfl

theorem State.applyWrite_setting (s : State) (v : OVal) : s.applyWrite (k, v) = { s with cfg := cellPut s.cfg k v } := by
  have havs : (k.obj == Obj.AVS_ENABLE) = false := beq_false_of_ne fun h => hplain (h ▸ by decide)
  unfold State.applyWrite
  simp only [hacc, havs, Bool.false_and, Bool.false_eq_true, if_false, BEq.rfl, if_true]
  exact State.applyEffect_setting hacc hplain _ v

/-- A setting that waits alone stands as the setting in force (R103). -/
theorem State.applyWaiting_setting {s : State} {v : OVal} (hwait : s.waiting = [(k, v)]) (heffect : k.obj.spec.effect = .boundary) :
    s.applyWaiting = { s with waiting := [], cfg := cellPut s.cfg k v } := by
  have hcmd : k.obj ≠ .SLOT_CMD := by
    intro h
    rw [h] at hacc
    exact absurd hacc (by decide)
  have hdue : s.isDue (k, v) = true := by simp [State.isDue, heffect, hcmd]
  have hmark : k ≠ ⟨.SPARES_LOW_MARK, 0, 0⟩ := by
    rintro rfl
    exact hplain (by decide)
  have hnow : s.waiting.filter s.isDue = [(k, v)] := by rw [hwait]; simp [hdue]
  have hlater : s.waiting.filter (fun x => !s.isDue x) = [] := by rw [hwait]; simp [hdue]
  unfold State.applyWaiting
  dsimp only
  rw [hnow, hlater, List.foldl_cons, List.foldl_nil, State.applyWrite_setting hacc hplain]
  refine if_pos (Nat.le_of_eq ?_)
  show ovNat ((cellFind (cellPut s.cfg k v) ⟨.SPARES_LOW_MARK, 0, 0⟩).getD _) = _
  rw [cellFind_cellPut, if_neg hmark]
  rfl

end

/-- Settles O15: the waiting writes are applied in order, and a setting that waits alone stands. -/
theorem seekingAppliesWrites : Obligations.SeekingAppliesWrites := by
  intro t s hseek
  refine ⟨_, _, ?_, rfl, rfl, fun k v hwait heffect hacc hplain => State.applyWaiting_setting hacc hplain hwait heffect⟩
  exact congrArg Host.Outcome.next (if_neg (by simp [hseek]))

end Sys2Proof.Machine
end

section
/-! Proofs: a page train comes in (spec/11 R464, R466, R467). -/
namespace Sys2Proof.Machine
open Sys2Proof

/-- A frame out of its flow's order is dropped (R464). -/
theorem received_out_of_order {t p ty : Nat} {f g : HFrame} {s u : State} (k : HFrame → State → State) (h : FrameHere t p ty f s u g)
    (hseq : u.rxNext g ≠ g.seq) : (s.at t).received p ty f (fun s f => s.inOrder f (k f)) = u := by
  rw [received_here t p ty f s u g _ h]
  exact if_neg (by simp [hseq])

theorem FrameNext.port {t p ty : Nat} {f g : HFrame} {s v : State} (h : FrameNext t p ty f s v g) : p < 23 := by
  obtain ⟨u, hhere, -, -⟩ := h
  exact hhere.1

/-! ### The three frames of a train, next in their flow -/

/-- A train is refused: its KIND, its keyway, or ROLE (R436, R467). -/
def State.headRefused (v : State) (g : HFrame) : Bool :=
  let h := padTo 64 g.payload
  !(leAt h 0 1 == 1 || leAt h 0 1 == 2) || leAt h 1 1 != g.keyway || !v.kwServes (leAt h 1 1) || v.roleRefuses (leAt h 0 1)

theorem State.headRefused_of_served {v : State} {g : HFrame}
    (hkind : leAt (padTo 64 g.payload) 0 1 = 1 ∧ v.set0 .ROLE ≠ 1 ∨ leAt (padTo 64 g.payload) 0 1 = 2)
    (hown : leAt (padTo 64 g.payload) 1 1 = g.keyway) (hserves : v.kwServes (leAt (padTo 64 g.payload) 1 1) = true) : v.headRefused g = false := by
  rw [hown] at hserves
  unfold State.headRefused State.roleRefuses
  rcases hkind with ⟨hkind, hrole⟩ | hkind
  · simp [hkind, hrole, hown, hserves]
  · simp [hkind, hown, hserves]

/-- TRAIN_HEAD, next in its flow. -/
def trainHeadNext (g : HFrame) (v : State) : State :=
  let h := padTo 64 g.payload
  if v.headRefused g then v.ackTrain g 6
  else if !v.memFits (leAt h 1 1) (up4k (leAt h 8 8)) then v.ackTrain g 1
  else
    let y := v.memTake (leAt h 1 1) (up4k (leAt h 8 8))
    { y with fab := { y.fab with trains := y.fab.trains.filter (fun x => !(x.src == g.src && x.flow == g.flow)) ++
        [{ src := g.src, flow := g.flow, head := h, bytes := up4k (leAt h 8 8), kw := leAt h 1 1, since := y.notchClock }] } }

theorem exec_trainHead_of_next {t p : Nat} {f g : HFrame} {s v : State} (h : FrameNext t p 0x10 f s v g) :
    exec (.trainHead t p f) s = .next (trainHeadNext g v) :=
  (if_pos h.port).trans (congrArg Host.Outcome.next (received_next t p 0x10 f s v g trainHeadNext h))

/-- TRAIN_PAGE of a train under reception. -/
def trainPageNext (g : HFrame) (v : State) : State :=
  match v.rxTrain g with
  | none => v
  | some x =>
    let ix := leAt g.payload 0 4
    let off := leAt g.payload 4 4
    let b := g.payload.drop 8
    let old := mapGet x.pages ix []
    let x' := { x with pages := mapSet x.pages ix (overlay (padTo (max old.length (off + b.length)) old) off b), order := x.order ++ b, since := v.notchClock }
    let y := { v with fab := { v.fab with trains := v.fab.trains.map (fun y => if y.src == g.src && y.flow == g.flow then x' else y) } }
    if (g.seq + 1) % 64 == 0 then y.ackTrain g 0 else y

theorem exec_trainPage_of_next {t p : Nat} {f g : HFrame} {s v : State} (h : FrameNext t p 0x11 f s v g) :
    exec (.trainPage t p f) s = .next (trainPageNext g v) :=
  (if_pos h.port).trans (congrArg Host.Outcome.next (received_next t p 0x11 f s v g trainPageNext h))

/-- TRAIN_END of a train under reception. -/
def trainEndNext (g : HFrame) (v : State) : State :=
  match v.rxTrain g with
  | none => v
  | some x =>
    if !v.kwServes x.kw then (v.freeTrain x).ackTrain g 6
    else if leAt g.payload 0 4 != crc32c x.order then (v.freeTrain x).ackTrain g 4
    else
      let r := if leAt x.head 0 1 == 1 then v.handTrain x else v.setTrain x
      r.1.ackTrain g r.2

theorem exec_trainEnd_of_next {t p : Nat} {f g : HFrame} {s v : State} (h : FrameNext t p 0x12 f s v g) :
    exec (.trainEnd t p f) s = .next (trainEndNext g v) :=
  (if_pos h.port).trans (congrArg Host.Outcome.next (received_next t p 0x12 f s v g trainEndNext h))

/-- Settles O39: each frame by what it does next in its flow. -/
theorem trainsComeIn : Obligations.TrainsComeIn := by
  refine ⟨fun t p f g s u hseq => ⟨fun h => ?_, fun h => ?_, fun h => ?_⟩,
    fun t p kind kw bytes f g h s v hnext hh hkind hkw hbytes => ⟨fun hbad => ?_, fun hok hown hserves => ⟨fun hno => ?_, fun hfits y hy => ?_⟩⟩,
    fun t p f g s v y x x' old b off hnext hx hold hoff hb hx' hy => ?_,
    fun t p f g s v x hnext hx => ⟨fun hno => ?_, fun hserves hcrc => ?_, fun hserves hcrc r hr => ?_⟩⟩
  · exact (if_pos h.1).trans (congrArg Host.Outcome.next (received_out_of_order trainHeadNext h hseq))
  · exact (if_pos h.1).trans (congrArg Host.Outcome.next (received_out_of_order trainPageNext h hseq))
  · exact (if_pos h.1).trans (congrArg Host.Outcome.next (received_out_of_order trainEndNext h hseq))
  · subst hh hkind hkw hbytes
    rw [exec_trainHead_of_next hnext]
    refine congrArg Host.Outcome.next (if_pos ?_)
    unfold State.headRefused State.roleRefuses
    rcases hbad with ⟨h1, h2⟩ | h | h | ⟨h1, h2⟩
    · simp [h1, h2]
    · simp [h]
    · simp [h]
    · simp [h1, h2]
  · subst hh hkind hkw hbytes
    have hok := State.headRefused_of_served hok hown hserves
    rw [exec_trainHead_of_next hnext]
    exact congrArg Host.Outcome.next ((if_neg (by simp [hok])).trans (if_pos (by simp [hno])))
  · subst hy hh hkind hkw hbytes
    have hok := State.headRefused_of_served hok hown hserves
    rw [exec_trainHead_of_next hnext]
    exact congrArg Host.Outcome.next ((if_neg (by simp [hok])).trans (if_neg (by simp [hfits])))
  · subst hy hx' hb hoff hold
    rw [exec_trainPage_of_next hnext]
    unfold trainPageNext
    rw [hx]
    simp only [beq_iff_eq]
    rfl
  · rw [exec_trainEnd_of_next hnext]
    unfold trainEndNext
    rw [hx]
    exact congrArg Host.Outcome.next (if_pos (by simp [hno]))
  · rw [exec_trainEnd_of_next hnext]
    unfold trainEndNext
    rw [hx]
    exact congrArg Host.Outcome.next ((if_neg (by simp [hserves])).trans (if_pos (by simp [hcrc])))
  · subst hr
    rw [exec_trainEnd_of_next hnext]
    unfold trainEndNext
    rw [hx]
    refine congrArg Host.Outcome.next ((if_neg (by simp [hserves])).trans ((if_neg (by simp [hcrc])).trans ?_))
    simp only [beq_iff_eq]
    rfl

end Sys2Proof.Machine
end

section
/-! Proofs: acknowledgements and timeouts of this device's flows (spec/11 R464, R466–R468). -/
namespace Sys2Proof.Machine
open Sys2Proof

theorem exec_trainAck_of_here {t p : Nat} {f g : HFrame} {s u : State} (h : FrameHere t p 0x13 f s u g) :
    exec (.trainAck t p f) s = .next (trainAck g u).flush :=
  (if_pos h.1).trans (congrArg Host.Outcome.next (received_here t p 0x13 f s u g (fun s f => (trainAck f s).flush) h))

section
variable {g : HFrame} {u : State} {x : Flow} (hflow : u.replyFlow g = some x) (htrain : x.isTrain = true)
include hflow htrain

/-- An acknowledgement moves the window on, and with the last frame the train is done. -/
theorem trainAck_of_ok (hstatus : g.status = 0) : trainAck g u =
    let n := min x.sent (max x.acked (leAt g.payload 0 4 + 1))
    let y := u.mapFlow x.num (fun z =>
      { z with acked := n, since := if n > x.acked then u.now else z.since, progress := if n > x.acked then u.notchClock else z.progress })
    if x.frames.length ≤ n then y.trainDone x else y.pump x.num := by
  unfold trainAck
  rw [hflow]
  dsimp only
  rw [if_neg (by simp [htrain]), hstatus]
  rfl

theorem trainAck_of_corrupt (hstatus : g.status = 4) : trainAck g u = u.trainAgain x := by
  unfold trainAck
  rw [hflow]
  dsimp only
  rw [if_neg (by simp [htrain]), hstatus]
  rfl

theorem trainAck_of_failed (hzero : g.status ≠ 0) (hfour : g.status ≠ 4) : trainAck g u = u.trainFail x g.status := by
  unfold trainAck
  rw [hflow]
  dsimp only
  rw [if_neg (by simp [htrain])]
  split
  next h => exact absurd h hzero
  next h => exact absurd h hfour
  next => rfl

end

/-- A train of this device without progress fails. -/
theorem trainTimeout_eq (num : Nat) (s : State) : ∃ y : State, trainTimeout num s = (y.fab.trains.filter (fun x => x.flow == num && y.trainLate x.since)).foldl State.freeTrain y ∧
    (s.flow num = none → y = s) ∧ ∀ f, s.flow num = some f → f.isTrain = true → s.trainLate f.progress = true → y = s.trainFail f 0xFF := by
  refine ⟨_, rfl, fun hnone => ?_, fun f hf htrain hlate => ?_⟩
  · rw [hnone]
  · rw [hf]
    exact if_pos (by simp [htrain, hlate])

/-- A flow that has had its repetitions: a latch operation but WAIT is LOST, and what has a timeout of its own is left to it. -/
def State.givenUp (s : State) (num : Nat) (f : Flow) : State :=
  match f.kind with
  | .latch who n op => if op == latchWaitOp then s else (s.dropFlow num).remoteLost who n op
  | _ => s.dropFlow num

/-- A flow of one frame without a reply for 20 µs. -/
theorem replyTimeout_of_late {s : State} {num : Nat} {f : Flow} (hflow : s.flow num = some f) (htrain : f.isTrain = false)
    (hlate : f.since + 20000000 ≤ s.now) (hshards : ∀ x, x ∈ s.fab.shards → x.flow ≠ num ∨ x.src ≠ f.dst) : replyTimeout num s =
      if f.resends < 3 then (s.sendAll f.port f.frames).mapFlow num (fun x => { x with resends := x.resends + 1, since := s.now })
      else s.givenUp num f := by
  have hnone : s.fab.shards.any (fun x => x.flow == num && x.src == f.dst) = false := by
    rw [List.any_eq_false]
    intro x hx
    rcases hshards x hx with h | h <;> simp [h]
  unfold replyTimeout
  rw [hflow]
  dsimp only
  rw [if_neg (by simp [htrain, replyLimit, Nat.not_lt.mpr hlate]), hnone]
  rfl

/-- Settles O40: acknowledgements and timeouts by the flow that they find. -/
theorem trainsAndRepliesOfThisDevice : Obligations.TrainsAndRepliesOfThisDevice := by
  refine ⟨fun t p n f g s u y x hhere hflow htrain => ⟨fun hstatus hn hy => ⟨fun hlast => ?_, fun hmore => ?_⟩, fun hstatus => ?_, fun hzero hfour => ?_⟩,
    fun t num s y hy => ?_, fun t num s f hflow htrain hlate hshards => ⟨fun hfew => ?_, fun hmany => ⟨fun who n op hkind hop => ?_,
      fun who n op hkind hop => ?_, fun hkind => ?_⟩⟩⟩
  · subst hy hn
    rw [exec_trainAck_of_here hhere, trainAck_of_ok hflow htrain hstatus]
    exact congrArg (fun y : State => Host.Outcome.next y.flush) (if_pos hlast)
  · subst hy hn
    rw [exec_trainAck_of_here hhere, trainAck_of_ok hflow htrain hstatus]
    exact congrArg (fun y : State => Host.Outcome.next y.flush) (if_neg (Nat.not_le.mpr hmore))
  · rw [exec_trainAck_of_here hhere, trainAck_of_corrupt hflow htrain hstatus]
  · rw [exec_trainAck_of_here hhere, trainAck_of_failed hflow htrain hzero hfour]
  · have hx : exec (.trainTimeout t num) s = .next (trainTimeout num (s.at t)).flush := rfl
    obtain ⟨z, hz, hnone, hsome⟩ := trainTimeout_eq num (s.at t)
    have hyz : z = y := by
      rcases hy with ⟨h, rfl⟩ | ⟨f, hf, htrain, hlate, rfl⟩
      · exact hnone h
      · exact hsome f hf htrain hlate
    rw [hx, hz, hyz]
  · exact congrArg Host.Outcome.next ((replyTimeout_of_late (s := s.at t) hflow htrain hlate hshards).trans (if_pos hfew))
  · refine congrArg Host.Outcome.next ((replyTimeout_of_late (s := s.at t) hflow htrain hlate hshards).trans ((if_neg (Nat.not_lt.mpr hmany)).trans ?_))
    unfold State.givenUp
    rw [hkind]
    exact if_pos (by simp [hop, latchWaitOp])
  · refine congrArg Host.Outcome.next ((replyTimeout_of_late (s := s.at t) hflow htrain hlate hshards).trans ((if_neg (Nat.not_lt.mpr hmany)).trans ?_))
    unfold State.givenUp
    rw [hkind]
    exact if_neg (by simp [hop, latchWaitOp])
  · refine congrArg Host.Outcome.next ((replyTimeout_of_late (s := s.at t) hflow htrain hlate hshards).trans ((if_neg (Nat.not_lt.mpr hmany)).trans ?_))
    unfold State.givenUp
    split
    next h => exact absurd h (hkind _ _ _)
    next => rfl

end Sys2Proof.Machine
end

section
/-! Proofs: shards, ring queries and standby records over the fabric (spec/08 R316, spec/09 R397, R398, spec/11 R464, R477). -/
namespace Sys2Proof.Machine
open Sys2Proof

/-- A routed frame that has come here leaves the slots and the keyways as they were. -/
theorem FrameHere.keeps {t p ty : Nat} {f g : HFrame} {s u : State} (h : FrameHere t p ty f s u g) :
    u.slots = s.slots ∧ u.ward = s.ward := by
  obtain ⟨-, -, -, -, -, -, hopen, -⟩ := h
  unfold State.openHere at hopen
  split at hopen
  · split at hopen
    · rw [← (Prod.mk.inj hopen).1]
      exact ⟨by simp, by simp⟩
    · simp at hopen
  · split at hopen
    · simp at hopen
    · rw [← (Prod.mk.inj hopen).1]
      exact ⟨by simp, by simp⟩

/-- SHARD_REQ, next in its flow. -/
def shardReqNext (g : HFrame) (v : State) : State :=
  if !v.kwServes g.keyway then v.answer g [⟨0x21, 6, leBytes 4 0, .none⟩] else
  match v.shardHeld g.keyway (leAt g.payload 0 8) (leAt g.payload 8 4) (leAt g.payload 12 2) with
  | none => v.answer g [⟨0x21, 1, leBytes 4 0, .none⟩]
  | some b => v.answer g (shardItems b)

theorem exec_shardReq_of_next {t p : Nat} {f g : HFrame} {s v : State} (h : FrameNext t p 0x20 f s v g) :
    exec (.shardReq t p f) s = .next (shardReqNext g v) :=
  (if_pos h.port).trans (congrArg Host.Outcome.next (received_next t p 0x20 f s v g shardReqNext h))

/-- The last SHARD_DATA of a request of a slot: the checks of R316, for a keyway that serves on and a shard still asked for. -/
def State.shardComes (z : State) (slot index : Nat) (b : Bytes) : State :=
  if z.kwClosing (z.slot slot).owner then z else
  match (z.slot slot).outstanding index with
  | none => z
  | some (w, v, q, h) => z.shardArrived slot w v q h (some b) b.length

theorem exec_shardData_here {t p : Nat} {f g : HFrame} {s u : State} (h : FrameHere t p 0x21 f s u g) :
    exec (.shardData t p f) s = .next (shardDataIn g u) :=
  (if_pos h.1).trans (congrArg Host.Outcome.next (received_here t p 0x21 f s u g (fun s f => shardDataIn f s) h))

/-- SHARD_DATA of a request of this device. -/
theorem shardDataIn_of_request {u : State} {g : HFrame} {x : Flow} {slot index : Nat} (hx : u.replyFlow g = some x)
    (hkind : x.kind = .shardReq slot index) :
    shardDataIn g u =
      (if g.seq != (u.rxShard g).next then u
      else if g.seq == 0 && g.status != 0 then ((u.dropFlow x.num).dropShard g).shardMissing slot index
      else
        let y := { u.rxShard g with next := (u.rxShard g).next + 1, bytes := (u.rxShard g).bytes ++ g.payload.drop 4 }
        let z := u.mapFlow x.num (fun z => { z with since := u.now })
        if !hfLast g then { z.dropShard g with fab := { (z.dropShard g).fab with shards := (z.dropShard g).fab.shards ++ [y] } }
        else ((z.dropFlow x.num).dropShard g).shardComes slot index y.bytes) := by
  unfold shardDataIn
  rw [hx]
  dsimp only
  rw [hkind]
  rfl

/-- RING_QUERY, next in its flow. -/
def ringQueryNext (g : HFrame) (v : State) : State :=
  match g.body, v.ringSeq g.keyway (leAt g.payload 0 2) with
  | .ringQuery draft rows, some i =>
    match v.answerRows (v.seqAt i) draft (leAt g.payload 4 2) rows with
    | .ok l => v.answer g [⟨0x31, 0, ringSub (v.seqAt i) (leAt g.payload 4 2) l.length (leAt g.payload 8 8), .ringPartial l⟩]
    | .error (some e) => v.faultSeq i 0 e
    | .error none => v
  | _, _ => v

theorem exec_ringQuery_of_next {t p : Nat} {f g : HFrame} {s v : State} (h : FrameNext t p 0x30 f s v g) :
    exec (.ringQuery t p f) s = .next (ringQueryNext g v) :=
  (if_pos h.port).trans (congrArg Host.Outcome.next (received_next t p 0x30 f s v g ringQueryNext h))

/-- RING_PARTIAL of a round of this device. -/
theorem exec_ringPartial_here {t p : Nat} {f g : HFrame} {s u : State} (h : FrameHere t p 0x31 f s u g) :
    exec (.ringPartial t p f) s = .next (ringPartialIn g u) :=
  (if_pos h.1).trans (congrArg Host.Outcome.next (received_here t p 0x31 f s u g (fun s f => ringPartialIn f s) h))

/-- Standby records, next in their flow. -/
def standbyNext (g : HFrame) (v : State) : State :=
  if !v.idleSpare || groupOf g.src != groupOf v.physAddr then v else
  match g.body with
  | .standby recs => recs.foldl (fun (x : State) r => x.takeRec g.src r) v
  | _ => v

theorem exec_standby_of_next {t p : Nat} {f g : HFrame} {s v : State} (h : FrameNext t p 0x50 f s v g) :
    exec (.standby t p f) s = .next (standbyNext g v) :=
  (if_pos h.port).trans (congrArg Host.Outcome.next (received_next t p 0x50 f s v g standbyNext h))

theorem shardRequest_answered {t p : Nat} {f g : HFrame} {s v : State} (h : FrameNext t p 0x20 f s v g) :
    (v.kwServes g.keyway = false → exec (.shardReq t p f) s = .next (v.answer g [⟨0x21, 6, leBytes 4 0, .none⟩])) ∧
    (v.kwServes g.keyway = true → v.shardHeld g.keyway (leAt g.payload 0 8) (leAt g.payload 8 4) (leAt g.payload 12 2) = none →
      exec (.shardReq t p f) s = .next (v.answer g [⟨0x21, 1, leBytes 4 0, .none⟩])) ∧
    (∀ b, v.kwServes g.keyway = true → v.shardHeld g.keyway (leAt g.payload 0 8) (leAt g.payload 8 4) (leAt g.payload 12 2) = some b →
      exec (.shardReq t p f) s = .next (v.answer g (shardItems b))) := by
  rw [exec_shardReq_of_next h]
  unfold shardReqNext
  refine ⟨fun hno => congrArg Host.Outcome.next (if_pos (by simp [hno])), fun hserves hheld => ?_, fun b hserves hheld => ?_⟩
  · rw [hheld]
    exact congrArg Host.Outcome.next (if_neg (by simp [hserves]))
  · rw [hheld]
    exact congrArg Host.Outcome.next (if_neg (by simp [hserves]))

/-- Settles O41: each frame by what it does next in its flow, the shard by what its keyway and slot still ask for. -/
theorem shardsQueriesAndRecords : Obligations.ShardsQueriesAndRecords := by
  refine ⟨fun t p f g s v h => shardRequest_answered h,
    fun t p slot index f g s u z x y y' h hx hkind hy hy' hz => ?_,
    fun t p i layer draft rows f g s v h hbody hseq hlayer => ?_,
    fun t p seq lane rows f g s u z x y h hx hbody hkind hround hdec hlen hz => ?_,
    fun t p recs f g s v h => ?_⟩
  · obtain ⟨hslots, hward⟩ := h.keeps
    have hcome (z : State) (hs : z.slots = s.slots) (hw : z.ward = s.ward) :
        z.kwClosing (z.slot slot).owner = s.kwClosing (s.slot slot).owner ∧ (z.slot slot).outstanding index = (s.slot slot).outstanding index := by
      unfold State.kwClosing State.kway State.slot
      rw [hs, hw]
      exact ⟨rfl, rfl⟩
    obtain ⟨hclosing, hout⟩ := hcome ((z.dropFlow x.num).dropShard g) (by rw [hz]; exact hslots) (by rw [hz]; exact hward)
    rw [exec_shardData_here h, shardDataIn_of_request hx hkind]
    subst hz hy' hy
    refine ⟨fun hseq => congrArg Host.Outcome.next (if_pos (by simp [hseq])), fun hseq h0 hst => ?_, fun hseq hok hlast => ?_,
      fun w v q hd hseq hok hlast hopen hasked => ?_, fun hseq hok hlast hgone => ?_⟩
    · rw [if_neg (by simp [hseq]), if_pos (by simp [h0, hst])]
    · have hok : ¬((g.seq == 0 && g.status != 0) = true) := by simpa using fun h0 => hok.resolve_left (not_not_intro h0)
      rw [if_neg (by simp [hseq]), if_neg hok]
      exact congrArg Host.Outcome.next (if_pos (by simp [hlast]))
    · have hok : ¬((g.seq == 0 && g.status != 0) = true) := by simpa using fun h0 => hok.resolve_left (not_not_intro h0)
      rw [if_neg (by simp [hseq]), if_neg hok]
      refine congrArg Host.Outcome.next ((if_neg (by simp [hlast])).trans ?_)
      unfold State.shardComes
      rw [hclosing, hopen, hout, hasked]
      rfl
    · have hok : ¬((g.seq == 0 && g.status != 0) = true) := by simpa using fun h0 => hok.resolve_left (not_not_intro h0)
      rw [if_neg (by simp [hseq]), if_neg hok]
      refine congrArg Host.Outcome.next ((if_neg (by simp [hlast])).trans ?_)
      unfold State.shardComes
      rw [hclosing, hout]
      rcases hgone with hgone | hgone
      · exact if_pos hgone
      · rw [hgone]
        exact ite_self _
  · subst hlayer
    rw [exec_ringQuery_of_next h]
    unfold ringQueryNext
    rw [hbody, hseq]
    dsimp only
    refine ⟨fun l hl => ?_, fun e he => ?_⟩
    · rw [hl]
    · rw [he]
  · subst hz
    rw [exec_ringPartial_here h]
    have hround : (u.dropFlow x.num).ringRound seq lane = some y := hround
    unfold ringPartialIn
    rw [hx, hbody]
    dsimp only
    rw [hkind]
    dsimp only
    rw [hround]
    exact congrArg Host.Outcome.next (if_neg (by simp [hdec, hlen]))
  · rw [exec_standby_of_next h]
    unfold standbyNext
    refine ⟨fun hidle hgroup hbody => ?_, fun hno => congrArg Host.Outcome.next (if_pos ?_)⟩
    · rw [hbody]
      exact congrArg Host.Outcome.next (if_neg (by simp [hidle, hgroup]))
    · rcases hno with hno | hno <;> simp [hno]

end Sys2Proof.Machine
end

section
/-! Proofs: the links of the Hinge ports (spec/11 R446–R449, R452, R471, R474). -/
namespace Sys2Proof.Machine
open Sys2Proof

theorem State.addCount_writes (s : State) (k : OKey) (n : Nat) : Writes [.cnt, .free] s (s.addCount k n) := by
  unfold State.addCount
  dsimp only
  split
  · exact (s.putCount_writes _ _).mono (by simp)
  · intro f hf
    cases f with
    | cnt | free => simp at hf
    | _ => rfl

theorem State.putPort_writes (s : State) (p : Nat) (x : PortS) : Writes [.fab] s (s.putPort p x) := by
  intro f hf
  cases f with
  | fab => simp at hf
  | _ => rfl

theorem State.sendOn_writes (s : State) (p : Nat) (f : HFrame) : Writes [.out, .cnt, .free] s (s.sendOn p f) := by
  refine Writes.trans (x := s.incI .TX_BYTES p (hfSize f)) ((s.addCount_writes _ _).mono (by simp)) ?_
  intro f hf
  cases f with
  | out => simp at hf
  | _ => rfl

theorem State.sendOn_out (s : State) (p : Nat) (f : HFrame) : (s.sendOn p f).out = s.out ++ [.frame p f] :=
  congrArg (· ++ [Output.frame p f]) (State.incI_out s _ _ _)

theorem State.sendOn_fab (s : State) (p : Nat) (f : HFrame) : (s.sendOn p f).fab = s.fab := State.incI_fab s _ _ _

theorem State.identFrame_raise (s : State) (code kw : Nat) (unit : UnitId) (p0 p1 p2 : Nat) :
    (s.raise code kw unit p0 p1 p2).identFrame = s.identFrame := rfl

/-- An event of a port, where a condition holds. -/
def State.noteIf (s : State) (c : Bool) (code p : Nat) : State := if c then s.raise code 0xFF (uidPort p) else s

theorem State.noteIf_writes (s : State) (c : Bool) (code p : Nat) : Writes [.evt] s (s.noteIf c code p) := by
  cases c with
  | true => exact s.raise_writes _ _ _ _ _ _
  | false => exact Writes.refl _ s

theorem State.noteIf_fab (s : State) (c : Bool) (code p : Nat) : (s.noteIf c code p).fab = s.fab := s.noteIf_writes c code p .fab (by simp)

theorem State.noteIf_port (s : State) (c : Bool) (code p q : Nat) : (s.noteIf c code p).port q = s.port q := by
  unfold State.port
  rw [State.noteIf_fab]

theorem State.noteIf_out (s : State) (c : Bool) (code p : Nat) : (s.noteIf c code p).out = s.out := s.noteIf_writes c code p .out (by simp)

theorem State.noteIf_identFrame (s : State) (c : Bool) (code p : Nat) : (s.noteIf c code p).identFrame = s.identFrame := by
  cases c with
  | true => exact s.identFrame_raise _ _ _ _ _ _
  | false => rfl

/-- A port whose record and events are written and which then sends IDENT. -/
theorem State.introduce_spec (s : State) (p : Nat) (x : PortS) (c d : Bool) (a b : Nat) :
    let y := ((s.putPort p x).noteIf c a p).noteIf d b p
    Writes [.out, .fab, .evt, .cnt, .free] s (y.sendOn p y.identFrame) ∧ (y.sendOn p y.identFrame).port p = x ∧
      (∀ q, q ≠ p → (y.sendOn p y.identFrame).port q = s.port q) ∧ (y.sendOn p y.identFrame).out = s.out ++ [.frame p s.identFrame] := by
  intro y
  have hw : Writes [.fab, .evt] s y :=
    (((s.putPort_writes p x).mono (by simp)).trans ((State.noteIf_writes _ c a p).mono (by simp))).trans ((State.noteIf_writes _ d b p).mono (by simp))
  have hfab : (y.sendOn p y.identFrame).fab = (s.putPort p x).fab :=
    (State.sendOn_fab _ _ _).trans ((State.noteIf_fab _ _ _ _).trans (State.noteIf_fab _ _ _ _))
  have hport (q : Nat) : (y.sendOn p y.identFrame).port q = (s.putPort p x).port q := by
    unfold State.port
    rw [hfab]
  have hid : y.identFrame = s.identFrame := (State.noteIf_identFrame _ _ _ _).trans (State.noteIf_identFrame _ _ _ _)
  refine ⟨(hw.mono (by simp)).trans ((State.sendOn_writes _ _ _).mono (by simp)), ?_, fun q hq => ?_, ?_⟩
  · exact (hport p).trans ((State.port_putPort _ _ _ _).trans (if_pos rfl))
  · exact (hport q).trans ((State.port_putPort _ _ _ _).trans (if_neg (Ne.symm hq)))
  · rw [State.sendOn_out, hid]
    exact congrArg (· ++ _) ((State.noteIf_out _ _ _ _).trans (State.noteIf_out _ _ _ _))

theorem linkDown_of_up {s : State} {p : Nat} (hup : 2 ≤ (s.port p).link) (hfence : (s.port p).link ≠ 5) :
    linkDown p s = ((s.putPort p { s.port p with link := 0, ident := false, resent := 0 }).raise 0x4B01 0xFF (uidPort p)).rerouteDead :=
  if_neg (by simp [hfence]; omega)

theorem State.incI_port (s : State) (o : Obj) (i n p : Nat) : (s.incI o i n).port p = s.port p := by
  unfold State.port
  rw [State.incI_fab]

/-- The record of a port that has trained on these lanes. -/
def PortS.trainedOn (x : PortS) (half : Bool) (lanes : Nat) : PortS :=
  { x with link := if half then 3 else 2, half := half, lanes := if lanes == 15 && half then x.lanes else lanes
           marked := true, misses := 0, marks := 0 }

/-- A port that has trained: its record, the events that are due, and IDENT. -/
theorem linkTrained_of_training {s : State} {p lanes : Nat} {half : Bool} (hlink : (s.port p).link < 2) (hlanes : lanes = 15 ∨ lanes = 3 ∨ lanes = 12)
    (hfunc : (s.func (.port p)).state ≠ .off) (hhalf : half = ((s.port p).half || lanes != 15)) :
    ∃ c d y, y = ((s.putPort p ((s.port p).trainedOn half lanes)).noteIf c 0x4B02 p).noteIf d 0x1B01 p ∧
      linkTrained p lanes s = y.sendOn p y.identFrame := by
  subst hhalf
  have hguard : ¬((decide ((s.port p).link ≥ 2) || !([15, 3, 12].contains lanes) || (s.func (.port p)).state == .off) = true) := by
    rcases hlanes with h | h | h <;> simp [h, hfunc, hlink]
  exact ⟨((s.port p).half || lanes != 15) && !(s.port p).half,
    (((s.putPort p ((s.port p).trainedOn ((s.port p).half || lanes != 15) lanes)).noteIf (((s.port p).half || lanes != 15) && !(s.port p).half) 0x4B02 p).func
      (.port p)).state == .on, _, rfl, if_neg hguard⟩

theorem laneDegraded_of_pair {s : State} {p lanes : Nat} (hfence : (s.port p).link ≠ 5) (hhalf : (s.port p).half = false)
    (hlanes : lanes = 3 ∨ lanes = 12) (hfunc : (s.func (.port p)).state ≠ .off) :
    ∃ y, y = ((s.putPort p { s.port p with half := true, lanes := lanes, link := if (s.port p).link = 4 then 4 else 3, up := 3 }).noteIf
        true 0x4B02 p).noteIf false 0 p ∧
      laneDegraded p lanes s = if (s.port p).link < 2 then y.sendOn p y.identFrame else y := by
  have hguard : ¬(((s.port p).link == 5 || (s.port p).half || !([3, 12].contains lanes) || (s.func (.port p)).state == .off) = true) := by
    rcases hlanes with h | h <;> simp [h, hfunc, hfence, hhalf]
  unfold laneDegraded
  simp only [if_neg hguard, beq_iff_eq (a := (s.port p).link)]
  exact ⟨_, rfl, rfl⟩

theorem frameReplay_of_up {s y : State} {p n : Nat} {again : Bool} (hup : 2 ≤ (s.port p).link) (hn : n = if again then (s.port p).resent + 1 else 1)
    (hy : y = ((s.putPort p { s.port p with resent := n }).incI .LINK_RETRIES p).incI .FEC_UNCORR p) :
    frameReplay p again s = if 8 ≤ n then linkDown p y else y := by
  subst hn hy
  exact if_neg (by omega)

theorem identArrived_of_ident {s y : State} {p trip phys logical part step boot epoch : Nat} {f : HFrame} (htype : f.type = 0x02)
    (hfunc : (s.func (.port p)).state ≠ .off) (hfence : (s.port p).link ≠ 5) (hbody : f.body = .ident phys logical part step boot epoch)
    (hy : y = (s.incI .RX_BYTES p (hfSize f)).putPort p { s.port p with
      partner := phys, logical := logical, delay := trip / 2, ident := true, epoch := epoch, boot := boot }) :
    identArrived p f trip s = ((if epoch != s.fab.epoch then y.raise 0x4B04 0xFF (uidPort p) else y).relive logical).rerouteDead := by
  have hguard : ¬((f.type != 0x02 || (s.func (.port p)).state == .off || (s.port p).link == 5) = true) := by simp [htype, hfunc, hfence]
  have hepoch : y.fab.epoch = s.fab.epoch := by
    rw [hy]
    exact congrArg (·.epoch) (State.incI_fab s _ _ _)
  unfold identArrived
  rw [if_neg hguard, hbody]
  dsimp only
  rw [State.incI_port, ← hy, hepoch]

/-- Settles O37: each change of a link writes the record of its port and the events that are due; the rest is what the record says. -/
theorem linksOfPorts : Obligations.LinksOfPorts := by
  refine ⟨fun t p lanes s x half hp hx hlink hlanes hfunc hhalf => ?_, fun t p trip phys logical part step boot epoch f s y hp htype hfunc hfence hbody hy => ?_,
    fun t p s hp hup hfence => ⟨?_, fun again n y hn hy => ⟨fun hlt => ?_, fun hge => ?_⟩⟩,
    fun t p lanes s x hp hx hfence hhalf hlanes hfunc => ?_, fun t p s y hp hlive hmiss hy => ?_⟩
  · subst hx
    obtain ⟨c, d, y, hy, htrained⟩ := linkTrained_of_training (s := s.at t) hlink hlanes hfunc hhalf
    obtain ⟨hw, hp', hq, hout⟩ := State.introduce_spec (s.at t) p _ c d 0x4B02 0x1B01
    rw [← hy] at hw hp' hq hout
    have hexec : exec (.linkTrained t p lanes) s = .next (y.sendOn p y.identFrame) := (if_pos hp).trans (congrArg Host.Outcome.next htrained)
    refine ⟨_, hexec, ((s.at_writes t).mono (by simp)).trans (hw.mono (by simp)), hp'.trans ?_, hq, hout⟩
    unfold PortS.trainedOn
    simp only [Bool.and_eq_true, beq_iff_eq]
    rfl
  · have harrived := identArrived_of_ident (s := s.at t) htype hfunc hfence hbody hy
    have hexec : exec (.ident t p f trip) s = .next (identArrived p f trip (s.at t)).flush := if_pos hp
    rw [hexec, harrived]
    refine ⟨fun h => ?_, fun h => ?_⟩
    · rw [if_neg (by exact fun hne => (bne_iff_ne.mp hne) h)]
    · rw [if_pos (by exact bne_iff_ne.mpr h)]
  · exact (if_pos hp).trans (congrArg (fun y => Host.Outcome.next (State.flush y)) (linkDown_of_up (s := s.at t) hup hfence))
  · refine (if_pos hp).trans (congrArg (fun y => Host.Outcome.next (State.flush y)) ?_)
    exact (frameReplay_of_up (s := s.at t) hup hn hy).trans (if_neg (by omega))
  · refine (if_pos hp).trans (congrArg (fun y => Host.Outcome.next (State.flush y)) ?_)
    have hport : y.port p = { s.port p with resent := n } := by
      rw [hy, State.incI_port, State.incI_port]
      exact (State.port_putPort _ _ _ _).trans (if_pos rfl)
    rw [frameReplay_of_up (s := s.at t) hup hn hy, if_pos hge, linkDown_of_up (by rw [hport]; exact hup) (by rw [hport]; exact hfence), hport]
  · subst hx
    obtain ⟨y, hy, hlanes'⟩ := laneDegraded_of_pair (s := s.at t) hfence hhalf hlanes hfunc
    have hexec : exec (.fabLaneDegraded t p lanes) s = .next (laneDegraded p lanes (s.at t)) := if_pos hp
    rw [hlanes'] at hexec
    by_cases hdown : (s.port p).link < 2
    · obtain ⟨hw, hp', hq, hout⟩ := State.introduce_spec (s.at t) p _ true false 0x4B02 0
      rw [← hy] at hw hp' hq hout
      exact ⟨_, hexec.trans (congrArg Host.Outcome.next (if_pos hdown)), ((s.at_writes t).mono (by simp)).trans (hw.mono (by simp)),
        hp', hq, hout.trans (if_pos hdown).symm⟩
    · have hw : Writes [.fab, .evt] (s.at t) y := by
        rw [hy]
        exact ((State.putPort_writes _ _ _).mono (by simp)).trans ((State.noteIf_writes _ true _ _).mono (by simp))
      refine Does.of_next (hexec.trans (congrArg Host.Outcome.next (if_neg hdown))) (hw.mono (by simp)) ⟨?_, fun q hq => ?_, ?_⟩
      · rw [hy, State.noteIf_port, State.noteIf_port]
        exact (State.port_putPort _ _ _ _).trans (if_pos rfl)
      · rw [hy, State.noteIf_port, State.noteIf_port]
        exact (State.port_putPort _ _ _ _).trans (if_neg (Ne.symm hq))
      · exact Eq.trans (hw .out (by simp)) (if_neg hdown).symm
  · refine (if_pos hp).trans (congrArg (fun y => Host.Outcome.next (State.flush y)) ?_)
    rw [hy]
    exact if_neg (by simp [hlive]; omega)

end Sys2Proof.Machine
end

section
/-! Proofs: reach, floods, lost members and spares (spec/11 R453, R458, R472, R473, R477). -/
namespace Sys2Proof.Machine
open Sys2Proof

/-! ### REACH -/

theorem State.sendOn_port (s : State) (p q : Nat) (f : HFrame) : (s.sendOn p f).port q = s.port q := by
  unfold State.port
  rw [State.sendOn_fab]

theorem State.sendOn_logAddr (s : State) (p : Nat) (f : HFrame) : (s.sendOn p f).logAddr = s.logAddr := by
  have hcfg : (s.sendOn p f).cfg = s.cfg := State.incI_cfg s _ _ _
  have hpart : (s.sendOn p f).part = s.part := State.incI_part s _ _ _
  unfold State.logAddr State.physAddr State.set0 State.setting
  rw [State.sendOn_fab, hcfg, hpart]

/-- A REACH frame on each of these ports, addressed to its partner. -/
def State.sendReach (own : List (Nat × Nat × Nat)) (links : List (Nat × Nat)) (x : State) (p : Nat) : State :=
  x.sendOn p { type := 0x03, dst := (x.port p).logical, src := x.logAddr, body := .reach own links }

theorem State.sendReach_foldl (own : List (Nat × Nat × Nat)) (links : List (Nat × Nat)) (l : List Nat) (s : State) :
    Writes [.out, .cnt, .free] s (l.foldl (State.sendReach own links) s) ∧
      (l.foldl (State.sendReach own links) s).out = s.out ++
        l.map (fun p => .frame p { type := 0x03, dst := (s.port p).logical, src := s.logAddr, body := .reach own links }) := by
  induction l generalizing s with
  | nil => exact ⟨Writes.refl _ s, by simp⟩
  | cons p l ih =>
    obtain ⟨hw, hout⟩ := ih (s.sendReach own links p)
    refine ⟨(State.sendOn_writes s p _).trans hw, ?_⟩
    rw [List.foldl_cons, hout]
    unfold State.sendReach
    simp only [State.sendOn_out, State.sendOn_port, State.sendOn_logAddr, List.append_assoc, List.singleton_append, List.map_cons]

/-! ### Floods -/

theorem State.floodIn_known {s y : State} {p ty : Nat} {f : HFrame} {k : State → State} (htype : f.type = ty) (hlive : (s.port p).live = true)
    (hy : y = s.incI .RX_BYTES p (hfSize f)) (hknown : s.fab.floods.contains (f.src, f.flow) = true) : s.floodIn p ty f k = y := by
  subst hy
  have hfab : (s.incI .RX_BYTES p (hfSize f)).fab = s.fab := State.incI_fab s _ _ _
  exact (if_neg (by simp [htype, hlive])).trans (if_pos (by rw [hfab]; exact hknown))

theorem State.floodIn_new {s y : State} {p ty : Nat} {f : HFrame} {k : State → State} (htype : f.type = ty) (hlive : (s.port p).live = true)
    (hy : y = s.incI .RX_BYTES p (hfSize f)) (hnew : s.fab.floods.contains (f.src, f.flow) = false) :
    s.floodIn p ty f k = k ((y.noteFlood f.src f.flow).floodOn (some p) { f with hops := f.hops + 1 }) := by
  subst hy
  have hfab : (s.incI .RX_BYTES p (hfSize f)).fab = s.fab := State.incI_fab s _ _ _
  exact (if_neg (by simp [htype, hlive])).trans (if_neg (by rw [hfab, hnew]; exact Bool.false_ne_true))

/-! ### A loss that the lead has confirmed -/

theorem lossDecision_of_confirmed {s y : State} {m a : Nat} (ha : a = s.memberLogical m) (hlead : s.isLead = true)
    (hconfirm : s.set0 .LOSS_CONFIRM_BEATS ≤ mapGet s.fab.confirm m 0) (hlost : s.fab.lost.contains a = false)
    (hy : y = (s.flood 0x04 (noticePayload a s.beat.number)).partnerLost a) :
    lossDecision m s = match (s.idleSpares.filter (· != m)).head? with
      | none => y.raise 0x8B02 0xFF
      | some k =>
        if y.set0 .SPARE_AUTO != 1 || !!(s.isSpare a) then y else
        (y.flood 0x05 (adoptPayload a (16 * groupOf y.physAddr + k) y.beat.number)).adoptNamed a (16 * groupOf y.physAddr + k) y.beat.number := by
  have hguard : ¬((!s.isLead || decide (mapGet s.fab.confirm m 0 < s.set0 .LOSS_CONFIRM_BEATS) || s.fab.lost.contains a) = true) := by
    rw [hlead, hlost, Bool.or_false, decide_eq_false (by omega)]
    exact Bool.false_ne_true
  unfold lossDecision
  dsimp only
  rw [← ha, if_neg hguard, ← hy] <;> rfl

/-! ### SPARE_ADOPT -/

theorem State.acceptNow_spareAdopt {u : State} {c : Ctx} {k : OKey} {v : OVal} {buf : Option Bytes} (hobj : k.obj = .SPARE_ADOPT) :
    u.acceptNow c k v buf = if u.mayAdopt (ovNat v) then (u.spareAdopt (ovNat v), none) else (u, some (0x10, 4)) := by
  unfold State.acceptNow
  rw [hobj]

theorem spareAdopt_outcome {w : RowWrite} {s u : State} {x : Session} {k : OKey} {n : Nat} (hserved : Served w s u x k)
    (hobj : w.obj = .SPARE_ADOPT) (hn : n = ovNat (w.taken u k)) :
    (u.mayAdopt n = true → w.outcome s = .next (w.answered u ((u.flood 0x05 (adoptPayload n u.physAddr u.beat.number)).adoptNamed n u.physAddr u.beat.number) x k)) ∧
    (u.mayAdopt n = false → w.outcome s = .next (u.replied w.path w.req { status := 0x10, detail := 4 })) := by
  have hk : k.obj = .SPARE_ADOPT := hserved.2.2.2.2.2.2.trans hobj
  have heffect : w.obj.spec.effect = .now := by rw [hobj]; rfl
  have hbar := noBar u k (w.taken u k) (by simp [hk]) (by simp [hk]) (by simp [hk]) (by simp [hk])
  have hacc := State.acceptNow_spareAdopt (u := u) (c := w.asker u x) (v := w.taken u k) (buf := w.buf) hk
  rw [← hn] at hacc
  refine ⟨fun h => ?_, fun h => ?_⟩
  · rw [if_pos h, State.spareAdopt, if_pos h] at hacc
    exact RowWrite.outcome_now hserved heffect (by simp [hobj]) hbar hacc
  · rw [if_neg (by simp [h])] at hacc
    exact RowWrite.outcome_turned_down (r := (0x10, 4)) hserved heffect hbar hacc

/-- Settles O38: REACH by induction on the ports it goes out on, floods by whether they were seen, the lead and the spare by their guards. -/
theorem reachAndFloods : Obligations.ReachAndFloods := by
  refine ⟨fun t occ s => ⟨fun hoff => ?_, fun hon own links hown hlinks => ?_⟩,
    fun t p f s y globals links hp htype hlive hpartner hon hbody hy => ?_,
    fun t p f s y z hp hlive hy hz => ⟨fun hknown => ⟨fun h4 => ?_, fun h5 => ?_⟩, fun hnew => ⟨fun h4 => ?_, fun h5 => ?_⟩⟩,
    fun t m a s y hm ha hlead hconfirm hlost hy => ?_,
    fun t p h v s u x k w n hw hserved hn => ?_⟩
  · exact congrArg Host.Outcome.next (if_pos (by simpa using hoff))
  · have hexec : exec (.reachSend t occ) s = .next
        ((s.at t).localLive.foldl (State.sendReach own links) { s.at t with fab := { s.fab with own := own } }) := by
      subst hown hlinks
      exact congrArg Host.Outcome.next (if_neg (by simpa using hon))
    obtain ⟨hw, hout⟩ := State.sendReach_foldl own links (s.at t).localLive { s.at t with fab := { s.fab with own := own } }
    refine ⟨_, hexec, ((s.at_writes t).mono (by simp)).trans (Writes.trans (x := { s.at t with fab := { s.fab with own := own } }) ?_ (hw.mono (by simp))),
      hw .fab (by simp), hout⟩
    intro f hf
    cases f with
    | fab => simp at hf
    | _ => rfl
  · have hguard : ¬((f.type != 0x03 || decide (p ≥ 15) || !((s.at t).port p).live || ((s.at t).port p).partner == 0xFFFF || !(s.at t).fabricOn) = true) := by
      have hport : (s.at t).port p = s.port p := rfl
      have hon : (s.at t).fabricOn = true := hon
      simp only [hport, hon, htype, hlive]
      simp [hpartner, hp]
    refine (if_pos (by omega)).trans (congrArg (fun y => Host.Outcome.next (State.flush y)) ?_)
    unfold reachArrived
    rw [if_neg hguard, hbody, hy]
    rfl
  · exact (if_pos hp).trans (congrArg (fun y => Host.Outcome.next (State.flush y)) (State.floodIn_known (s := s.at t) h4 hlive hy hknown))
  · exact (if_pos hp).trans (congrArg Host.Outcome.next (State.floodIn_known (s := s.at t) h5 hlive hy hknown))
  · rw [hz]
    exact (if_pos hp).trans (congrArg (fun y => Host.Outcome.next (State.flush y)) (State.floodIn_new (s := s.at t) h4 hlive hy hnew))
  · rw [hz]
    exact (if_pos hp).trans (congrArg Host.Outcome.next (State.floodIn_new (s := s.at t) h5 hlive hy hnew))
  · have hexec : exec (.lossDecision t m) s = .next (lossDecision m (s.at t)).flush := if_pos hm
    have hspares : (s.at t).idleSpares = s.idleSpares := rfl
    rw [hexec, lossDecision_of_confirmed (s := s.at t) ha hlead hconfirm hlost hy, hspares]
    refine ⟨fun hnone => by rw [hnone], fun k hk => ?_⟩
    rw [hk]
    have hspare : (s.at t).isSpare a = s.isSpare a := rfl
    dsimp only
    rw [hspare]
    refine ⟨fun hserved hauto => ?_, fun hno => ?_⟩
    · rw [if_neg (by simp [hserved, hauto])]
    · rw [if_pos (by rcases hno with h | h <;> simp [h])]
  · have hx : exec (.spareAdopt t p h v) s = w.outcome s := hw ▸ rfl
    have hpath : w.path = p := hw ▸ rfl
    obtain ⟨hyes, hno⟩ := spareAdopt_outcome hserved (hw ▸ rfl) hn
    rw [hx]
    refine ⟨fun hidle hlost hgroup => hyes (by rw [State.mayAdopt, hidle, hlost, hgroup, beq_self_eq_true]; rfl), fun h => ?_⟩
    rw [← hpath]
    refine hno ?_
    unfold State.mayAdopt
    rcases h with h | h | h
    · rw [h, Bool.false_and, Bool.false_and]
    · rw [h, Bool.and_false, Bool.false_and]
    · rw [beq_false_of_ne h, Bool.and_false]

end Sys2Proof.Machine
end

section
/-! Proofs: shards that arrive, fail their checks or are late (spec/08 R314–R318, spec/12 R513). -/
namespace Sys2Proof.Machine
open Sys2Proof

/-! ### The oldest put -/

/-- A put taken from its function's registers. -/
def State.putTaken (s : State) (fn : Nat) (rest : List Put) : State := s.putRing fn { s.ring fn with puts := rest }

/-- … and read by DMA. -/
def State.putRead (s : State) (fn : Nat) (p : Put) (rest : List Put) : State := (s.putTaken fn rest).emit (.dma fn false p.addr p.len)

/-- A put whose bytes were read: what its shard comes to. -/
def State.putArrives (y : State) (fn : Nat) (buf : Option Bytes) (p : Put) : State :=
  match (y.slot p.slot).outstanding p.index with
  | none => y
  | some (w, v, q, h) =>
    match p.gen with
    | none => y.shardArrived p.slot w v q h buf p.len
    | some g =>
      let key := match y.namedSlot .DMA_KEY_SLOT fn with
        | some k => (y.keySlot k).keyOf g
        | none => none
      let plain := match key, buf with
        | some k, some b => if p.len == 160 + h.payLen && b.length == p.len then openSealed k fn 1 b else none
        | _, _ => none
      let full := match buf with | some b => p.len == 160 + h.payLen && b.length == p.len | none => false
      match plain with
      | some b => y.shardArrived p.slot w v q h (some b) b.length
      | none => (if full then y.sealedFail fn else y).shardArrived p.slot w v q h none 0

section
variable {s : State} {fn : Nat} {buf : Option Bytes} {p : Put} {rest : List Put} (hputs : (s.ring fn).puts = p :: rest)
include hputs

theorem shardArrival_of_dead (hlive : s.slotOwnerLive p.slot = false) : shardArrival fn buf s = s := by
  unfold shardArrival
  dsimp only
  rw [hputs]
  exact if_pos (by rw [hlive]; rfl)

theorem shardArrival_of_closed (hlive : s.slotOwnerLive p.slot = true) (hno : s.kwClosing fn = true ∨ s.kwDma fn = false) :
    shardArrival fn buf s = s.putTaken fn rest := by
  have hclosed : (s.kwClosing fn || !s.kwDma fn) = true := by
    rcases hno with h | h <;> simp [h]
  unfold shardArrival
  dsimp only
  rw [hputs]
  exact (if_neg (by rw [hlive]; exact Bool.false_ne_true)).trans (if_pos hclosed)

theorem shardArrival_of_read (hlive : s.slotOwnerLive p.slot = true) (hopen : s.kwClosing fn = false) (hdma : s.kwDma fn = true) :
    shardArrival fn buf s = (s.putRead fn p rest).putArrives fn buf p := by
  have hread : ¬((s.kwClosing fn || !s.kwDma fn) = true) := by simp [hopen, hdma]
  unfold shardArrival
  dsimp only
  rw [hputs]
  exact (if_neg (by rw [hlive]; exact Bool.false_ne_true)).trans (if_neg hread)

end

theorem State.putArrives_unasked {y : State} {fn : Nat} {buf : Option Bytes} {p : Put} (hout : (y.slot p.slot).outstanding p.index = none) :
    y.putArrives fn buf p = y := by
  unfold State.putArrives
  rw [hout]

section
variable {y : State} {fn : Nat} {buf : Option Bytes} {p : Put} {w : Which} {v : Version} {q : ShardReq} {h : ShardHdr}
  (hout : (y.slot p.slot).outstanding p.index = some (w, v, q, h))
include hout

theorem State.putArrives_clear (hgen : p.gen = none) : y.putArrives fn buf p = y.shardArrived p.slot w v q h buf p.len := by
  unfold State.putArrives
  rw [hout]
  dsimp only
  rw [hgen]

theorem State.putArrives_sealed {g k : Nat} {key b : Bytes} (hgen : p.gen = some g) (hslot : y.namedSlot .DMA_KEY_SLOT fn = some k)
    (hkey : (y.keySlot k).keyOf g = some key) (hbuf : buf = some b) (hlen : p.len = 160 + h.payLen) (hb : b.length = p.len) :
    y.putArrives fn buf p = match openSealed key fn 1 b with
      | some x => y.shardArrived p.slot w v q h (some x) x.length
      | none => (y.sealedFail fn).shardArrived p.slot w v q h none 0 := by
  have hfull : (p.len == 160 + h.payLen && b.length == p.len) = true := by simp [hb, hlen]
  unfold State.putArrives
  rw [hout]
  dsimp only
  rw [hgen, hslot, hbuf]
  dsimp only
  rw [hkey]
  dsimp only
  rw [if_pos hfull, if_pos hfull]

end

/-! ### The checks of a shard -/

section
variable {y : State} {n len : Nat} {w : Which} {v : Version} {q : ShardReq} {h : ShardHdr} {buf : Option Bytes} {exact : Bool}
  (hexact : exact = decide (h.kind ≤ 2 ∧ (h.exactJoin = true ∨ y.set0 .JOIN_MODE_DEFAULT = 1)))
include hexact

theorem State.shardArrived_eq : y.shardArrived n w v q h buf len = match shardCheck exact h buf len with
    | .ok pay => y.acceptShard n w v h pay
    | .code7 => if (y.slot n).phase = .none then y.retryReq n v q 3 else y.loadFail n 7
    | .bad reason => (y.raise 0x4801 (y.slot n).owner 0 n h.index (reason + 256 * q.attempt)).retryReq n v q reason := by
  have he : (decide (h.kind ≤ 2) && (h.exactJoin || y.set0 .JOIN_MODE_DEFAULT == 1)) = exact := by
    rw [hexact, Bool.decide_and, Bool.decide_or, Bool.decide_eq_true]
    rfl
  unfold State.shardArrived
  rw [he] <;> rfl

end

/-! ### A request with no put in time -/

theorem shardTimeout_of_late {s : State} {slot index : Nat} {w : Which} {v : Version} {q : ShardReq} {h : ShardHdr}
    (hout : (s.slot slot).outstanding index = some (w, v, q, h)) (hlate : s.shardLate q = true) (hlive : s.slotOwnerLive slot = true)
    (hput : ∀ p, p ∈ (s.ring (s.slot slot).owner).puts → p.slot ≠ slot ∨ p.index ≠ index) : shardTimeout slot index s = s.retryReq slot v q 4 := by
  have hany : (s.ring (s.slot slot).owner).puts.any (fun p => p.slot == slot && p.index == index) = false := by
    rw [List.any_eq_false]
    intro p hp
    rcases hput p hp with h | h <;> simp [h]
  unfold shardTimeout
  rw [hout]
  dsimp only
  rw [hlate, hlive, hany]
  rfl

theorem State.retryReq_again {s y : State} {n reason : Nat} {v : Version} {q r : ShardReq}
    (hy : y = s.putSlot n { s.slot n with retries := (s.slot n).retries + 1 }) (hmax : q.attempt ≤ y.set0 .SHARD_RETRY_MAX)
    (hr : r = { q with reason := reason, attempt := q.attempt + 1, issued := true, beat := none }) :
    s.retryReq n v q reason = (y.mapReq n v.number q.index (fun _ => r)).issueReq n v r := by
  unfold State.retryReq
  dsimp only
  rw [← hy, if_neg (by omega), ← hr]

theorem State.retryReq_over {s y : State} {n reason : Nat} {v : Version} {q : ShardReq}
    (hy : y = s.putSlot n { s.slot n with retries := (s.slot n).retries + 1 }) (hmax : y.set0 .SHARD_RETRY_MAX < q.attempt)
    (hphase : (s.slot n).phase ≠ .none) : s.retryReq n v q reason = y.loadFail n (if reason == 4 then 6 else 5) := by
  unfold State.retryReq
  dsimp only
  rw [← hy, if_pos (by omega), if_neg hphase]

/-- Settles O26: the oldest put by its guards, its shard by what the checks come to, a late request by its attempts. -/
theorem shardsArriveOrAreLate : Obligations.ShardsArriveOrAreLate := by
  refine ⟨fun t fn buf s y p rest w v q h exact hfn hputs hlive hopen hdma hout hexact hy => ?_,
    fun t fn buf s y p rest hfn hputs hy => ⟨fun hdead => ?_, fun hlive hno => ?_, fun hlive hopen hdma hout => ?_⟩,
    fun t slot index s y w v q h hslot hout hlate hlive hput hy => ⟨fun hmax r hr => ?_, fun hmax hphase => ?_⟩⟩
  · have harrives : exec (.shardArrival t fn buf) s = .next (y.putArrives fn buf p) := by
      rw [hy]
      exact (if_pos hfn).trans (congrArg Host.Outcome.next (shardArrival_of_read (s := s.at t) hputs hlive hopen hdma))
    have hslot : y.slot p.slot = s.slot p.slot := by rw [hy]; rfl
    have hexact : exact = decide (h.kind ≤ 2 ∧ (h.exactJoin = true ∨ y.set0 .JOIN_MODE_DEFAULT = 1)) := by rw [hy]; exact hexact
    have hout : (y.slot p.slot).outstanding p.index = some (w, v, q, h) := by rw [hslot]; exact hout
    rw [harrives]
    refine ⟨fun hgen => ?_, fun g k key b hgen hnamed hkey hbuf hlen hb => ?_⟩
    · rw [State.putArrives_clear hout hgen, State.shardArrived_eq hexact, hslot]
      exact ⟨fun pay h => by rw [h], fun reason h => by rw [h], fun h hphase => by rw [h]; exact congrArg Host.Outcome.next (if_neg hphase),
        fun h hphase => by rw [h]; exact congrArg Host.Outcome.next (if_pos hphase)⟩
    · have hnamed : y.namedSlot .DMA_KEY_SLOT fn = some k := by rw [hy]; exact hnamed
      have hkey : (y.keySlot k).keyOf g = some key := by rw [hy]; exact hkey
      rw [State.putArrives_sealed hout hgen hnamed hkey hbuf hlen hb]
      exact ⟨fun x h => by rw [h], fun h => by rw [h]⟩
  · exact (if_pos hfn).trans (congrArg Host.Outcome.next (shardArrival_of_dead (s := s.at t) hputs hdead))
  · rw [hy]
    exact (if_pos hfn).trans (congrArg Host.Outcome.next (shardArrival_of_closed (s := s.at t) hputs hlive hno))
  · rw [hy]
    refine (if_pos hfn).trans (congrArg Host.Outcome.next ?_)
    rw [shardArrival_of_read (s := s.at t) hputs hlive hopen hdma]
    exact State.putArrives_unasked hout
  · refine (if_pos hslot).trans (congrArg Host.Outcome.next ?_)
    rw [shardTimeout_of_late (s := s.at t) hout hlate hlive hput]
    exact State.retryReq_again hy (by rw [hy]; exact hmax) hr
  · refine (if_pos hslot).trans (congrArg Host.Outcome.next ?_)
    rw [shardTimeout_of_late (s := s.at t) hout hlate hlive hput]
    exact State.retryReq_over (s := s.at t) hy (by rw [hy]; exact hmax) hphase

end Sys2Proof.Machine
end

section
/-! Proofs: ADAPTER_LOAD (spec/08 R320, spec/12 R492, R513). -/
namespace Sys2Proof.Machine
open Sys2Proof

/-- The key under which an adapter comes sealed: that of the keyway's DMA key slot, where it is ACTIVE. -/
def State.adapterKey (y : State) (kw : Nat) : Option Bytes :=
  match y.namedSlot .DMA_KEY_SLOT kw with
  | some n => if y.keyActive n kw 0 then some (y.keySlot n).key else none
  | none => none

/-- An opened adapter shard is written, with its records. -/
def State.putAdapter (y : State) (kw : Nat) (r b : Bytes) : State × Bool :=
  if !adapterShardOk b then (y, false) else
  match y.fillKw kw (leAt r 24 8) (b.drop 128) with
  | none => (y, false)
  | some z => (z.noteAdapters kw ((z.adapterEntries kw).filter (fun d => leAt d 0 2 == leAt r 0 2)), true)

/-- A buffer of the stated length. -/
def State.openAdapter (y : State) (kw : Nat) (r b : Bytes) : State × Bool :=
  match y.adapterKey kw with
  | none => y.putAdapter kw r b
  | some c =>
    match openSealed c kw 3 b with
    | none => (y.sealedFail kw, false)
    | some x => y.putAdapter kw r x

theorem State.adapterLoad_of_closed {u : State} {kw : Nat} {r : Bytes} {buf : Option Bytes} (h : u.kwClosing kw = true ∨ u.kwDma kw = false) :
    u.adapterLoad kw r buf = (u, false) :=
  if_pos (by rcases h with h | h <;> simp [h])

theorem State.adapterLoad_of_open {u : State} {kw : Nat} {r : Bytes} {buf : Option Bytes} (hopen : u.kwClosing kw = false) (hdma : u.kwDma kw = true) :
    u.adapterLoad kw r buf = match buf with
      | none => (u.emit (.dma kw false (leAt r 8 8) (leAt r 16 4)), false)
      | some b => if b.length ≠ leAt r 16 4 then (u.emit (.dma kw false (leAt r 8 8) (leAt r 16 4)), false)
        else (u.emit (.dma kw false (leAt r 8 8) (leAt r 16 4))).openAdapter kw r b := by
  have hguard : ¬((u.kwClosing kw || !u.kwDma kw) = true) := by simp [hopen, hdma]
  unfold State.adapterLoad
  dsimp only
  rw [if_neg hguard]
  cases buf with
  | none => rfl
  | some b =>
    simp only [bne_iff_ne]
    rfl

theorem State.putAdapter_fits {y z : State} {kw : Nat} {r b : Bytes} (hok : adapterShardOk b = true)
    (hz : y.fillKw kw (leAt r 24 8) (b.drop 128) = some z) :
    y.putAdapter kw r b = (z.noteAdapters kw ((z.adapterEntries kw).filter (fun d => leAt d 0 2 == leAt r 0 2)), true) := by
  unfold State.putAdapter
  rw [if_neg (by simp [hok]), hz]

theorem State.acceptNow_adapterLoad {u : State} {c : Ctx} {k : OKey} {v : OVal} {buf : Option Bytes} (hobj : k.obj = .ADAPTER_LOAD) :
    u.acceptNow c k v buf = ((u.adapterLoad c.kw (ovBytes v) buf).1, if (u.adapterLoad c.kw (ovBytes v) buf).2 then none else some (0x10, 4)) := by
  unfold State.acceptNow
  rw [hobj]

/-- The command is answered as the load came out. -/
theorem adapterLoad_outcome {w : RowWrite} {s u z : State} {x : Session} {k : OKey} {done : Bool} (hserved : Served w s u x k)
    (hobj : w.obj = .ADAPTER_LOAD) (hload : u.adapterLoad (w.asker u x).kw (ovBytes (w.taken u k)) w.buf = (z, done)) :
    w.outcome s = .next (if done then w.answered u z x k else z.replied w.path w.req { status := 0x10, detail := 4 }) := by
  have hk : k.obj = .ADAPTER_LOAD := hserved.2.2.2.2.2.2.trans hobj
  have heffect : w.obj.spec.effect = .now := by rw [hobj]; rfl
  have hbar := noBar u k (w.taken u k) (by simp [hk]) (by simp [hk]) (by simp [hk]) (by simp [hk])
  have hacc := State.acceptNow_adapterLoad (u := u) (c := w.asker u x) (v := w.taken u k) (buf := w.buf) hk
  rw [hload] at hacc
  cases done with
  | true => exact RowWrite.outcome_now hserved heffect (by simp [hobj]) hbar hacc
  | false => exact RowWrite.outcome_turned_down (r := (0x10, 4)) hserved heffect hbar hacc

/-! ### A keyway's memory -/

theorem State.fillKw_spec {u z : State} {kw a : Nat} {b : Bytes} (h : u.fillKw kw a b = some z) :
    a + b.length ≤ u.setK .QUOTA_MEM_PAGES kw * 2097152 ∧ z.kwMem = mapSet u.kwMem kw (memWrite (u.kwCells kw) a b) := by
  unfold State.fillKw at h
  dsimp only at h
  split at h
  · cases h
  next hfits =>
    cases h
    simp only [Bool.or_eq_true, not_or, Bool.not_eq_true', Bool.not_eq_false, State.kwMapped, decide_eq_true_eq] at hfits
    exact ⟨hfits.1, rfl⟩

theorem State.fillKw_bytes {u z : State} {kw a : Nat} {b : Bytes} (h : u.fillKw kw a b = some z) (i : Nat) (hwf : memWf (u.kwCells kw) = true) :
    memByte (z.kwCells kw) i = (if a ≤ i ∧ i < a + b.length then b.getD (i - a) 0 else memByte (u.kwCells kw) i) ∧
      a + b.length ≤ u.setK .QUOTA_MEM_PAGES kw * 2097152 ∧ ∀ j, j ≠ kw → z.kwCells j = u.kwCells j := by
  obtain ⟨hfits, hmem⟩ := State.fillKw_spec h
  have hcells (j : Nat) : z.kwCells j = if kw = j then memWrite (u.kwCells kw) a b else u.kwCells j := by
    unfold State.kwCells
    rw [hmem]
    exact mapGet_mapSet _ _ _ _ _
  refine ⟨?_, hfits, fun j hj => (hcells j).trans (if_neg (Ne.symm hj))⟩
  rw [hcells kw, if_pos rfl]
  exact memByte_memWrite _ _ _ _ hwf

/-- Settles O27: the command is answered as the load came out; the bytes written are those of a write to the keyway's memory. -/
theorem adaptersAreLoaded : Obligations.AdaptersAreLoaded := by
  intro t p h payload r buf s u y x w k kw key hw hserved hkw hr hy hkey
  have hx : exec (.adapterLoad t p h payload buf) s = w.outcome s := hw ▸ rfl
  have hobj : w.obj = .ADAPTER_LOAD := hw ▸ rfl
  have hpath : w.path = p := hw ▸ rfl
  have hbuf : w.buf = buf := hw ▸ rfl
  have houtcome {z : State} {done : Bool} (hload : u.adapterLoad kw r buf = (z, done)) :
      w.outcome s = .next (if done then w.answered u z x k else z.replied p w.req { status := 0x10, detail := 4 }) := by
    rw [hkw, hr, ← hbuf] at hload
    rw [← hpath]
    exact adapterLoad_outcome hserved hobj hload
  have hykey : y.adapterKey kw = key := by
    rw [hy, hkey]
    rfl
  rw [hx]
  refine ⟨fun hclosed => ?_, fun hopen hdma => ⟨fun b pl z hb hlen hpl hok hz => ?_, fun hno => ?_, fun b c hb hlen hc hsealed => ?_⟩,
    fun b z a i hfill hwf => State.fillKw_bytes hfill i hwf⟩
  · exact houtcome (State.adapterLoad_of_closed hclosed)
  all_goals have hload := State.adapterLoad_of_open (r := r) (buf := buf) hopen hdma; rw [← hy] at hload
  · have hput : y.openAdapter kw r b = y.putAdapter kw r pl := by
      unfold State.openAdapter
      rw [hykey]
      cases key with
      | none => rw [hpl]
      | some c =>
        dsimp only at hpl ⊢
        rw [hpl]
    refine houtcome (done := true) (hload.trans ?_)
    rw [hb]
    exact (if_neg (not_not_intro hlen)).trans (hput.trans (State.putAdapter_fits hok hz))
  · obtain hnone | ⟨b, hb, hbad⟩ := hno
    · exact houtcome (done := false) (hload.trans (by rw [hnone]))
    · by_cases hlen : b.length = leAt r 16 4
      · obtain ⟨hclear, hbad⟩ := hbad.resolve_left (not_not_intro hlen)
        have hput : y.openAdapter kw r b = (y, false) := by
          unfold State.openAdapter
          rw [hykey, hclear]
          exact if_pos (by simp [hbad])
        refine houtcome (done := false) (hload.trans ?_)
        rw [hb]
        exact (if_neg (not_not_intro hlen)).trans hput
      · refine houtcome (done := false) (hload.trans ?_)
        rw [hb]
        exact if_pos hlen
  · have hput : y.openAdapter kw r b = (y.sealedFail kw, false) := by
      unfold State.openAdapter
      rw [hykey, hc]
      dsimp only
      rw [hsealed]
    refine houtcome (done := false) (hload.trans ?_)
    rw [hb]
    exact (if_neg (not_not_intro hlen)).trans hput

end Sys2Proof.Machine
end

section
/-! Proofs: scrub, digests and replacements that are tried again (spec/08 R333, R342, R344, R345). -/
namespace Sys2Proof.Machine
open Sys2Proof

/-! ### A replacement that found no place -/

theorem replaceRetry_of_due {s : State} {slot chunk b : Nat} {v : Version} (hlive : s.slotOwnerLive slot = true) (hcur : (s.slot slot).cur = some v)
    (hretry : mapFind v.retry chunk = some b) (hdue : b + 256 ≤ s.beat.count) : replaceRetry slot chunk s = s.replaceChunk slot .cur v chunk := by
  unfold replaceRetry
  dsimp only
  have hver : (s.slot slot).ver .cur = some v := hcur
  rw [if_pos hlive, List.findSome?_cons, hver]
  dsimp only
  rw [hretry]
  dsimp only
  rw [if_pos hdue]

/-! ### A scrub read-back -/

/-- What a scrub's mismatches come to. -/
def State.scrubFinds (s : State) (eng tier n : Nat) (m : List (Nat × Nat)) : State :=
  ((s.inc .SCRUB_MISMATCH_COUNT m.length).raise 0x4802 ((s.inc .SCRUB_MISMATCH_COUNT m.length).slot n).owner
    ((s.inc .SCRUB_MISMATCH_COUNT m.length).uidTier eng tier) m.length
    ((m.map Prod.snd).eraseDups.foldl min ((m.map Prod.snd).eraseDups.headD 0)) (if m.all (fun p => p.1 ≥ 512) then 0xFF else n)).flagColumns eng tier
      (m.map Prod.snd).eraseDups

theorem scrubReadback_of_next {s q y : State} {eng tier n : Nat} {cells : List CellRead} {w : Which} {v : Version} {z : Tile}
    (htile : s.tileAt eng tier = some (n, w, v, z)) (hnext : s.scrubNext eng tier = true) (hq : q = s.readBack eng tier)
    (hy : y = (q.putTier eng tier { (q.engine eng).tier tier with
      scrubHour := q.opHours, overdue := false, scrubAt := q.notchClock, scrubIn := some s.beat.count }).inc .SCRUB_TIERS_COUNT)
    (hbeat : q.beat = s.beat) :
    scrubReadback eng tier cells s =
      if z.imageBad || z.badNext then y.twoWay eng tier n w z cells
      else
        let m := ((q.engine eng).tier tier).mismatches z.image cells
        if m.isEmpty then y else y.scrubFinds eng tier n m := by
  have hguard : ¬((!s.scrubNext eng tier) = true) := by rw [hnext]; exact Bool.false_ne_true
  unfold scrubReadback
  rw [htile]
  dsimp only
  rw [if_neg hguard, ← hq, hbeat, ← hy]
  rfl

theorem scrubReadback_facts {s q y : State} {eng tier : Nat} (x : TierS) (hq : q = s.readBack eng tier)
    (hy : y = (q.putTier eng tier x).inc .SCRUB_TIERS_COUNT) : q.beat = s.beat ∧ y.slots = s.slots ∧ y.part = s.part := by
  rw [hy, State.inc_slots, State.putTier_slots, State.inc_part, State.putTier_part, hq]
  exact ⟨State.readBack_beat _ _ _, State.readBack_slots _ _ _, State.readBack_part _ _ _⟩

theorem State.scrubFinds_eq {s y : State} {eng tier n : Nat} {m : List (Nat × Nat)} (hslots : y.slots = s.slots) (hpart : y.part = s.part) :
    y.scrubFinds eng tier n m = ((y.inc .SCRUB_MISMATCH_COUNT m.length).raise 0x4802 (s.slot n).owner (s.uidTier eng tier) m.length
      ((m.map Prod.snd).eraseDups.foldl min ((m.map Prod.snd).eraseDups.headD 0)) (if m.all (fun p => p.1 ≥ 512) then 0xFF else n)).flagColumns eng tier
        (m.map Prod.snd).eraseDups := by
  have hslot : (y.inc .SCRUB_MISMATCH_COUNT m.length).slot n = s.slot n := by
    unfold State.slot
    rw [State.inc_slots, hslots]
  have huid : (y.inc .SCRUB_MISMATCH_COUNT m.length).uidTier eng tier = s.uidTier eng tier := by
    unfold State.uidTier State.uidEngine State.uidCore State.coresPer
    rw [State.inc_part, hpart]
  unfold State.scrubFinds
  rw [hslot, huid]

/-! ### Digests -/

theorem imageCheck_of_tile {s : State} {eng tier n : Nat} {flips : List (Nat × Byte)} {w : Which} {v : Version} {z : Tile}
    (htile : s.tileAt eng tier = some (n, w, v, z)) :
    imageCheck eng tier flips s = if sha384 (applyFlips z.image flips) = z.digest then s
      else s.mapTile eng tier (fun y => { y with image := applyFlips z.image flips, badNext := true }) := by
  unfold imageCheck
  rw [htile]
  simp only [beq_iff_eq]

/-- A digital shard whose digest is checked: the copy found, in the current version. -/
theorem digitalCheck_of_held {s : State} {slot index : Nat} {flips : List (Nat × Byte)} {v : Version} {p : Nat × Bytes} {h : ShardHdr}
    (hcur : (s.slot slot).cur = some v) (hheld : v.held.find? (fun p => p.1 == index) = some p) (hshard : v.shards.find? (fun h => h.index == index) = some h)
    (hgood : v.badHeld.contains index = false) :
    digitalCheck slot index flips s = if shardDigest h.bytes (applyFlips p.2 flips) = hdrDigest h.bytes then s else
      let y := (s.mapVer slot .cur (fun v =>
        let v := v.ask index 7
        if h.kind == 2 then { v with held := v.held.filter (fun q => q.1 != index) }
        else { v with held := v.held.map (fun q => if q.1 == index then (index, applyFlips p.2 flips) else q), badHeld := v.badHeld ++ [index] }))
      let z := y.raise 0x8803 (y.slot slot).owner 0 slot v.number index
      (if h.kind == 3 then z.faultAll .layerLost (z.inStep (fun r => r.slot == slot && r.version == v.number)) else z).issueSlot slot := by
  have hver : (s.slot slot).ver .cur = some v := hcur
  have hany : v.held.any (fun p => p.1 == index) = true :=
    List.any_eq_true.mpr ⟨p, List.mem_of_find?_eq_some hheld, List.find?_some (p := fun p : Nat × Bytes => p.1 == index) hheld⟩
  unfold digitalCheck
  rw [List.findSome?_cons, hver, Option.bind_some, if_pos hany]
  dsimp only
  rw [hheld, hshard]
  dsimp only
  rw [hgood, Bool.or_false]
  simp only [beq_iff_eq (a := shardDigest _ _)]

theorem State.mapVer_cur {s : State} {n : Nat} {v : Version} (f : Version → Version) (h : (s.slot n).cur = some v) :
    s.mapVer n .cur f = s.putSlot n { s.slot n with cur := some (f v) } := by
  have hver : (s.slot n).ver .cur = some v := h
  unfold State.mapVer
  dsimp only
  rw [hver]
  rfl

/-- Settles O29: the scrub by the tier's next place, the digests by whether they hold. -/
theorem scrubAndDigests : Obligations.ScrubAndDigests := by
  refine ⟨fun t slot chunk b v s hslot hlive hcur hretry hdue => ?_,
    fun t eng tier n cells w v z s q y heng htier htile hnext hq hy => ?_,
    fun t eng tier n flips w v z s heng htier htile => ⟨fun hok => ?_, fun hbad => ?_⟩,
    fun t slot index flips v p h s y hslot hcur hheld hshard hgood => ⟨fun hok => ?_, fun hbad hkind hy => ?_, fun hbad hkind hy => ?_⟩⟩
  · exact (if_pos hslot).trans (congrArg Host.Outcome.next (replaceRetry_of_due (s := s.at t) hlive hcur hretry hdue))
  · obtain ⟨hbeat, hslots, hpart⟩ := scrubReadback_facts (s := s.at t) _ hq hy
    have hexec : exec (.scrubReadback t eng tier cells) s = .next (scrubReadback eng tier cells (s.at t)) := if_pos ⟨heng, htier⟩
    rw [hexec, scrubReadback_of_next (s := s.at t) htile hnext hq hy hbeat]
    refine ⟨fun hbad => ?_, fun himage hbad m hm => ⟨fun hnone => ?_, fun hsome cols hcols => ?_⟩⟩
    · rw [if_pos (by simpa using hbad)]
    · subst hm
      rw [if_neg (by simp [himage, hbad])]
      exact congrArg Host.Outcome.next (if_pos (by simp [hnone]))
    · subst hm hcols
      rw [if_neg (by simp [himage, hbad])]
      exact congrArg Host.Outcome.next ((if_neg (by simpa using hsome)).trans (State.scrubFinds_eq hslots hpart))
  · exact (if_pos ⟨heng, htier⟩).trans (congrArg Host.Outcome.next ((imageCheck_of_tile (s := s.at t) htile).trans (if_pos hok)))
  · exact (if_pos ⟨heng, htier⟩).trans (congrArg Host.Outcome.next ((imageCheck_of_tile (s := s.at t) htile).trans (if_neg hbad)))
  · exact (if_pos hslot).trans (congrArg Host.Outcome.next ((digitalCheck_of_held (s := s.at t) hcur hheld hshard hgood).trans (if_pos hok)))
  all_goals
    refine (if_pos hslot).trans (congrArg Host.Outcome.next ((digitalCheck_of_held (s := s.at t) hcur hheld hshard hgood).trans ((if_neg hbad).trans ?_)))
    have howner : (y.slot slot).owner = (s.slot slot).owner := by
      rw [hy]
      unfold State.slot State.putSlot
      rw [mapGet_mapSet, if_pos rfl]
    rw [State.mapVer_cur (s := s.at t) _ hcur, ← howner]
    simp only [hkind]
    rw [hy]
    rfl

end Sys2Proof.Machine
end

section
/-! Proofs: the lane tasks of the attention engines (spec/09 R356, R357, R369–R371, R391, R397, R398). -/
namespace Sys2Proof.Machine
open Sys2Proof

/-! ### The settings of a step -/

/-- The settings that work of a step runs under, and how the state stands again after it: those in force, unless the step's own were kept. -/
def State.StepSettings (s : State) (beat : Nat) (cfg : List (OKey × OVal)) (back : State → State) : Prop :=
  (mapFind s.kpr.stepCfg beat = none ∧ cfg = s.cfg ∧ back = id) ∨
    (∃ l, mapFind s.kpr.stepCfg beat = some l ∧ cfg = l ++ s.cfg.filter (fun x => !isStepSetting x.1) ∧ back = fun x => { x with cfg := s.cfg })

theorem State.inStepCfg_of_settings {s : State} {beat : Nat} {cfg : List (OKey × OVal)} {back : State → State} (h : s.StepSettings beat cfg back)
    (f : State → State) : s.inStepCfg beat f = back (f { s with cfg := cfg }) := by
  unfold State.inStepCfg
  rcases h with ⟨hnone, rfl, rfl⟩ | ⟨l, hsome, rfl, rfl⟩
  · rw [hnone]
    rfl
  · rw [hsome]

/-- Work that comes to the same under any settings, and leaves them alone. -/
theorem State.inStepCfg_of_free {s y : State} {beat : Nat} {f : State → State} (hcfg : y.cfg = s.cfg)
    (h : ∀ cfg, f { s with cfg := cfg } = { y with cfg := cfg }) : s.inStepCfg beat f = y := by
  unfold State.inStepCfg
  split
  · exact (h s.cfg).trans (by rw [← hcfg])
  · rw [h, ← hcfg]

/-! ### A task -/

theorem State.stepSeq_facts (s : State) (i : Nat) :
    (s.stepSeq i).state = (s.seqAt i).state ∧ (s.stepSeq i).req = (s.seqAt i).req := by
  unfold State.stepSeq
  dsimp only
  split <;> exact ⟨rfl, rfl⟩

theorem laneTask_of_refused {w : LaneWork} {s : State} (hattn : s.attnState w.cluster ≠ .online) :
    laneTask w s = s.emit (.orderRefused (uidAttn w.cluster)) :=
  if_pos hattn

theorem laneTask_of_idle {w : LaneWork} {s : State} (hattn : s.attnState w.cluster = .online)
    (hidle : (s.seqAt w.seq).state ≠ 1 ∨ s.laneFits w = false) : laneTask w s = s := by
  refine (if_neg (not_not_intro hattn)).trans (if_pos ?_)
  rw [(s.stepSeq_facts w.seq).1]
  rcases hidle with h | h <;> simp [h]

/-- A task of its step: the epoch it takes, what it writes and its rows. -/
theorem laneTask_of_fits {w : LaneWork} {s y z : State} (hattn : s.attnState w.cluster = .online) (hstate : (s.seqAt w.seq).state = 1)
    (hfits : s.laneFits w = true)
    (hy : y = { s with kv := { s.kv with epochs := s.kv.epochs ++ [(s.stepOf (s.seqAt w.seq), .lane w.seq w.lane)]
                                         laneUse := s.kv.laneUse ++ [(w.cluster, (s.seqAt w.seq).req)] } })
    (hz : y.writeAll w.seq w.lane w.cluster (s.stepSeq w.seq) w.first (w.keys.zip w.vals) = (z, true)) :
    laneTask w s = z.rows w.seq w.lane w.cluster (s.stepSeq w.seq) 0 w.rows := by
  obtain ⟨hst, hreq⟩ := s.stepSeq_facts w.seq
  have hstep : s.stepOf (s.stepSeq w.seq) = s.stepOf (s.seqAt w.seq) := by
    unfold State.stepOf
    rw [hreq]
  have hguard : ¬(((s.stepSeq w.seq).state != 1 || !s.laneFits w) = true) := by simp [hst, hstate, hfits]
  unfold laneTask
  dsimp only
  rw [if_neg (not_not_intro hattn), if_neg hguard, hstep, hreq, ← hy, hz]

theorem ringTask_of_none {w : LaneWork} {s : State} (hstall : s.pwr.stalled = false)
    (hran : s.attnState w.cluster ≠ .online ∨ (s.seqAt w.seq).state ≠ 1 ∨ s.laneFits w = false) : ringTask w s = laneTask w s := by
  have hguard : (s.attnState w.cluster == .online && (s.seqAt w.seq).state == 1 && s.laneFits w) = false := by
    rcases hran with h | h | h <;> simp [h]
  unfold ringTask
  dsimp only
  rw [hstall, hguard]
  rfl

theorem ringTask_of_ran {w : LaneWork} {s r : State} (hstall : s.pwr.stalled = false) (hattn : s.attnState w.cluster = .online)
    (hstate : (s.seqAt w.seq).state = 1) (hfits : s.laneFits w = true) (hr : laneTask w s = r) :
    ringTask w s = if !(r.seqAt w.seq).ring || (r.seqAt w.seq).state != 1 then r else
      match (r.req (r.seqAt w.seq).req).batch with
      | some (.prefill _) => r.beginPrefill w (r.seqAt w.seq)
      | some (.decode _) => r.beginDecode w (r.seqAt w.seq)
      | none => r := by
  have hguard : (s.attnState w.cluster == .online && (s.seqAt w.seq).state == 1 && s.laneFits w) = true := by simp [hattn, hstate, hfits]
  unfold ringTask
  dsimp only
  rw [hstall, hguard, hr]
  rfl

theorem exec_laneTask {t : Nat} {w : LaneWork} {s : State} (hcluster : w.cluster < 64) (hseq : w.seq < 32768) :
    exec (.laneTask t w) s = .next ((s.at t).inStepCfg (s.stepOf (s.seqAt w.seq)) (ringTask w)) :=
  if_pos ⟨hcluster, hseq⟩

/-! ### Rows -/

theorem State.rows_single {s : State} {i n cluster k : Nat} {q : SeqS} {r : QRow} {a : RowAcc} (hring : q.ring = false)
    (ha : rowPartial (q.lane n) r (s.kv.look q (q.lane n) n) ((q.lane n).visible q.full r) (RowAcc.start (32 * (q.lane n).dims)) = .ok a) :
    (s.rows i n cluster q k [r]).kv.outputs =
      s.kv.outputs.filter (fun x => !(x.1 == i && x.2.1 == n && x.2.2.1 == k)) ++ [(i, n, k, (q.lane n).outBytes a.finish)] := by
  unfold State.rows
  dsimp only
  rw [ha]
  dsimp only
  rw [hring]
  rfl

theorem Lane.mem_visible (l : Lane) (r : QRow) (p : Nat) : p ∈ l.visible false r ↔ p ≤ r.pos ∧
    (r.head ∈ l.full ∨ l.window = 0 ∨ r.pos < p + l.window ∨ p ∈ l.globals ∨ p = r.pos) := by
  unfold Lane.visible
  simp [List.mem_filter, Nat.lt_succ_iff, or_assoc]

/-- Settles O30: a task runs under the settings of its step, or comes to the same under any. -/
theorem laneTasks : Obligations.LaneTasks := by
  refine ⟨fun t w s hcluster hseq hstall => ⟨fun hattn => ?_, fun hattn hidle => ?_,
      fun hattn hstate hfits beat cfg back hbeat hset q y z hq hy hz r hr => ?_⟩,
    fun i n cluster k q r s l a hl hring ha => ?_, fun l r p => l.mem_visible r p, fun t seq lane b rest s hseq hep => ?_⟩
  · rw [exec_laneTask hcluster hseq]
    refine congrArg Host.Outcome.next (State.inStepCfg_of_free rfl fun cfg => ?_)
    exact (ringTask_of_none (s := { s.at t with cfg := cfg }) hstall (.inl hattn)).trans (laneTask_of_refused (s := { s.at t with cfg := cfg }) hattn)
  · rw [exec_laneTask hcluster hseq]
    refine congrArg Host.Outcome.next (State.inStepCfg_of_free rfl fun cfg => ?_)
    exact (ringTask_of_none (s := { s.at t with cfg := cfg }) hstall (.inr hidle)).trans (laneTask_of_idle (s := { s.at t with cfg := cfg }) hattn hidle)
  · have hlane : laneTask w { s.at t with cfg := cfg } = r := by
      rw [hbeat] at hy
      rw [hq] at hz
      rw [hr, hq]
      exact laneTask_of_fits (s := { s.at t with cfg := cfg }) (y := y) hattn hstate hfits hy hz
    have hexec : exec (.laneTask t w) s = .next (back (ringTask w { s.at t with cfg := cfg })) := by
      rw [exec_laneTask hcluster hseq, ← hbeat, State.inStepCfg_of_settings (s := s.at t) hset]
    rw [hexec, ringTask_of_ran (s := { s.at t with cfg := cfg }) hstall hattn hstate hfits hlane]
    refine ⟨fun hno => ?_, fun hring hst => ?_⟩
    · rcases hno with h | h | h
      · rw [if_pos (by simp [h])]
      · rw [if_pos (by simp [h])]
      · rw [h]
        exact congrArg (fun x => Host.Outcome.next (back x)) (ite_self _)
    · rw [if_neg (by simp [hring, hst])]
      exact ⟨fun n h => by rw [h], fun l h => by rw [h]⟩
  · subst hl
    exact State.rows_single hring ha
  · refine (if_pos hseq).trans (congrArg Host.Outcome.next ?_)
    unfold laneDone
    have hdrop : dropEpoch (.lane seq lane) (s.at t).kv.epochs = rest := by
      have hat : (s.at t).kv.epochs = (b, .lane seq lane) :: rest := hep
      rw [hat]
      exact if_pos rfl
    rw [hdrop]
    rfl

end Sys2Proof.Machine
end

section
/-! Proofs: the stages of a calibration run (spec/07 R273–R281, R283, R287). -/
namespace Sys2Proof.Machine
open Sys2Proof

/-! ### A stage that begins -/

/-- The run that a first stage begins. -/
def State.newRun (s : State) (eng : Nat) : CalRun :=
  { cls := (s.engine eng).due.getD 0, stages := (s.engine eng).stages, firstBeat := s.beat.count
    settings := calObjs.map (fun o => (⟨o, 0, 0⟩, s.setting ⟨o, 0, 0⟩)) }

/-- The engine record with its first stage under way. -/
def State.firstStage (s : State) (eng st : Nat) (rest : List Nat) : EngS :=
  { s.engine eng with
    run := some { s.newRun eng with stages := rest, running := some st, tqs := [((s.tq eng).map Reading.value).getD 0] }
    shadow := (s.engine eng).active
    lastTier := if st == 0 then (s.engine eng).lastTier else some (stageTier st) }

/-- What a stage that begins sets up: the reference selected anew where its tier is another, the engine's record, and its core's stage. -/
def State.stageBegun (s : State) (eng : Nat) (select : Bool) (e : EngS) : State :=
  let y := (if select then s.chargeSelect else s).putEngine eng e
  { y with cal := { y.cal with stageEngs := (y.cal.stageEngs ++ [eng]).eraseDups } }

theorem State.stageBegun_writes (s : State) (eng : Nat) (select : Bool) (e : EngS) :
    Writes [.eng, .cal, .kpr] s (s.stageBegun eng select e) := by
  intro f hf
  cases f with
  | eng | cal | kpr => simp at hf
  | _ => cases select <;> rfl

theorem State.stageBegun_engine (s : State) (eng : Nat) (select : Bool) (e : EngS) : (s.stageBegun eng select e).engine eng = e :=
  (mapGet_mapSet _ _ _ _ _).trans (if_pos rfl)

theorem State.beginStage_of_first {s : State} {eng st : Nat} {rest : List Nat} (hrun : (s.engine eng).run = none)
    (hleft : (s.engine eng).leftStages (s.newRun eng) = st :: rest)
    (hfits : s.boot.stepped = true → s.fits ((s.engine eng).stagePs st ((s.newRun eng).set .CAL_REPEATS)) = true) :
    ∃ select, s.beginStage eng = s.stageBegun eng select (s.firstStage eng st rest) := by
  have hguard : ¬((s.boot.stepped && !s.fits ((s.engine eng).stagePs st ((s.newRun eng).set .CAL_REPEATS))) = true) := by
    intro h
    simp only [Bool.and_eq_true, Bool.not_eq_true'] at h
    exact absurd (hfits h.1) (by simp [h.2])
  obtain ⟨tq, htq⟩ : ∃ tq, tq = s.tq eng := ⟨_, rfl⟩
  unfold State.beginStage State.firstStage
  dsimp only
  split
  next heq =>
    rw [hrun] at heq
    exact absurd (hleft.symm.trans heq) (by simp)
  next st' rest' heq =>
    rw [hrun] at heq ⊢
    obtain ⟨rfl, rfl⟩ := List.cons.inj (hleft.symm.trans heq)
    rw [← htq]
    rw [if_neg (by exact hguard)]
    by_cases hsame : ((if (st == 0) = true then (s.engine eng).lastTier else some (stageTier st)) == (s.engine eng).lastTier) = true
    · rw [if_pos hsame]
      exact ⟨false, by cases tq <;> rfl⟩
    · rw [if_neg hsame]
      exact ⟨true, by cases tq <;> rfl⟩

/-! ### Stages that end -/

theorem calRampDone_of_run {s y z : State} {eng : Nat} {x : List (List RampSum)} {r : CalRun} {o : RampOut} (hrun : (s.engine eng).stageNow 0 = some r)
    (hy : y = s.chargeStage eng 0 (r.set .CAL_REPEATS)) (ho : o = rampResult (y.engine eng).shadow (r.set .CAL_RAMP_FAIL_PCT) x)
    (hz : z = y.rampEvents eng o.fresh) :
    calRampDone eng x s =
      if o.dead then (z.raise 0x8702 0xFF (z.uidEngine eng)).retireEngine eng .rampSources
      else if o.new < -128 ∨ 127 < o.new then z.discardRun eng
      else (z.putEngine eng { z.engine eng with
        shadow := { (z.engine eng).shadow with rampFailed := o.failed, rampSel := o.sel, rampTrim := o.new } }).endStage eng r := by
  unfold calRampDone
  rw [hrun]
  dsimp only
  rw [← hy, ← ho, ← hz]

theorem calCoarseDone_of_run {s y z : State} {eng tier : Nat} {cs : List ColSum} {r : CalRun} {res : List (Nat × Option Nat)} {new : Map Nat}
    {bad : List Nat} (hrun : (s.engine eng).stageNow (2 * tier + 1) = some r) (hy : y = s.chargeStage eng (2 * tier + 1) (r.set .CAL_REPEATS))
    (hres : res = (openColumns r tier cs).map (fun c => (c.col, coarseColumn r (mapGet ((y.engine eng).active.trims.getD tier []) c.col 0)
      (mapGet ((y.engine eng).shadow.trims.getD tier []) c.col 0) c)))
    (hnew : new = res.foldl (fun (m : Map Nat) x => match x.2 with
      | some w => mapSet m x.1 w
      | none => m) ((y.engine eng).shadow.trims.getD tier []))
    (hbad : bad = (res.filter (fun x => x.2.isNone)).map Prod.fst)
    (hz : z = (y.putEngine eng { y.engine eng with shadow := { (y.engine eng).shadow with trims := (y.engine eng).shadow.trims.set tier new } }).rejectColumns
      eng tier bad) :
    calCoarseDone eng tier cs s = if (z.engine eng).run.isNone then z
      else z.endStage eng { r with rejected := r.rejected ++ bad.map (fun c => (tier, c)) } := by
  unfold calCoarseDone
  rw [hrun]
  dsimp only
  rw [← hy, ← hres, ← hbad, hz, hnew] <;> rfl

theorem calFineDone_of_run {s y z : State} {eng tier : Nat} {cs : List ColSum} {r r' : CalRun} {res : List (Nat × Option Nat)} {new : Map Nat}
    {bad : List Nat} (hrun : (s.engine eng).stageNow (2 * tier + 2) = some r) (hy : y = s.chargeStage eng (2 * tier + 2) (r.set .CAL_REPEATS))
    (hres : res = (openColumns r tier cs).map (fun c => (c.col, fineColumn r c)))
    (hnew : new = res.foldl (fun (m : Map Nat) x => match x.2 with
      | some w => mapSet m x.1 w
      | none => m) ((y.engine eng).shadow.resid.getD tier []))
    (hbad : bad = (res.filter (fun x => x.2.isNone)).map Prod.fst)
    (hz : z = (y.putEngine eng { y.engine eng with shadow := { (y.engine eng).shadow with resid := (y.engine eng).shadow.resid.set tier new } }).rejectColumns
      eng tier bad)
    (hr' : r' = { r with rejected := r.rejected ++ bad.map (fun c => (tier, c)) }) :
    calFineDone eng tier cs s = if (z.engine eng).run.isNone then z else if z.runFails r' then z.discardRun eng else z.endStage eng r' := by
  unfold calFineDone
  rw [hrun]
  dsimp only
  rw [← hy, ← hres, ← hbad, hr', hz, hnew] <;> rfl

/-- Settles O23: the first stage by the record it begins, the others by the shadow they end with. -/
theorem stagesOfACalibration : Obligations.StagesOfACalibration := by
  refine ⟨fun t eng s st rest r0 heng hallowed hstall hrun hr0 hleft hfits => ?_,
    fun t eng x s y r o heng hrun hy ho z hz => ⟨fun hdead => ?_, fun halive hout => ?_, fun halive hlo hhi => ?_⟩,
    fun t eng tier cs s y z r res new bad heng htier hrun hy hres hnew hbad hz => ?_,
    fun t eng tier cs s y z r r' res new bad heng htier hrun hy hres hnew hbad hz hr' hsome => ?_⟩
  · subst hr0
    obtain ⟨select, hbegin⟩ := State.beginStage_of_first (s := s.at t) hrun hleft hfits
    have hexec : exec (.calStageStart t eng) s = .next ((s.at t).stageBegun eng select ((s.at t).firstStage eng st rest)) := by
      refine (if_pos heng).trans (congrArg Host.Outcome.next (Eq.trans (if_pos ?_) hbegin))
      simpa [hallowed] using hstall
    refine Does.of_next hexec (State.stageBegun_writes _ _ _ _) ((State.stageBegun_engine _ _ _ _).trans ?_)
    unfold State.firstStage
    simp only [beq_iff_eq]
    rfl
  · exact (if_pos heng).trans (congrArg Host.Outcome.next ((calRampDone_of_run (s := s.at t) hrun hy ho hz).trans (if_pos hdead)))
  · refine (if_pos heng).trans (congrArg Host.Outcome.next ((calRampDone_of_run (s := s.at t) hrun hy ho hz).trans ?_))
    rw [if_neg (by simp [halive]), if_pos hout]
  · refine (if_pos heng).trans (congrArg Host.Outcome.next ((calRampDone_of_run (s := s.at t) hrun hy ho hz).trans ?_))
    rw [if_neg (by simp [halive]), if_neg (by omega)]
  · exact (if_pos ⟨heng, htier⟩).trans (congrArg Host.Outcome.next (calCoarseDone_of_run (s := s.at t) hrun hy hres hnew hbad hz))
  · refine (if_pos ⟨heng, htier⟩).trans (congrArg Host.Outcome.next ((calFineDone_of_run (s := s.at t) hrun hy hres hnew hbad hz hr').trans ?_))
    rw [if_neg]
    rw [Option.isSome_iff_ne_none] at hsome
    simpa using hsome

end Sys2Proof.Machine
end

section
/-! Proofs: a core slot starts or refuses its passes (spec/05 R174, R176, R177, R181, R184, R185, spec/06 R232, R233). -/
namespace Sys2Proof.Machine
open Sys2Proof

/-! ### Orders -/

theorem State.takeOrder_of_fits {s : State} {o : PassOrder} (hmay : s.mayPass o.eng o.tier = true) (hhalf : s.halfFits o = true) :
    s.takeOrder o = { s with kpr := { s.kpr with queue := s.kpr.queue ++ [o] } } :=
  if_pos (by rw [hmay, hhalf]; rfl)

theorem State.takeOrder_of_refused {s : State} {o : PassOrder} (h : s.mayPass o.eng o.tier = false ∨ s.halfFits o = false) :
    s.takeOrder o = if s.tierState o.eng o.tier = .isolated then (s.emit (.orderRefused (s.uidTier o.eng o.tier))).faultStep o.req .unitIsolated
      else s.emit (.orderRefused (s.uidTier o.eng o.tier)) := by
  have hguard : ¬((s.mayPass o.eng o.tier && s.halfFits o) = true) := by
    rcases h with h | h <;> simp [h]
  unfold State.takeOrder State.refuseOrder
  simp only [if_neg hguard, beq_iff_eq]

/-! ### A pass that starts -/

theorem State.incK_writes (s : State) (o : Obj) (kw n : Nat) : Writes [.cnt, .free] s (s.incK o kw n) :=
  (s.addCount_writes _ _).trans (State.addCount_writes _ _ _)

theorem State.startPass_spec (s : State) (o : PassOrder) :
    (s.startPass o).kpr.passes = s.kpr.passes ++ [s.passOf o] ∧ (s.startPass o).kpr.queue = s.kpr.queue.erase o ∧
      (s.startPass o).engine o.eng = { s.engine o.eng with lastTier := some o.tier } ∧ Writes [.cnt, .free, .eng, .kpr] s (s.startPass o) := by
  obtain ⟨y, hy⟩ : ∃ y, y = s.incK .ALIGN_DIGITS_ZEROED (s.passOf o).kw (zeroedBy o) := ⟨_, rfl⟩
  have hw : Writes [.cnt, .free] s y := by
    rw [hy]
    exact s.incK_writes _ _ _
  have hkpr : y.kpr = s.kpr := hw .kpr (by simp)
  have heng : y.engine o.eng = s.engine o.eng := by
    have hmap : y.eng = s.eng := hw .eng (by simp)
    unfold State.engine
    rw [hmap]
  unfold State.startPass
  dsimp only
  rw [← hy]
  refine ⟨?_, ?_, ?_, ?_⟩
  · exact congrArg (fun k => k.passes ++ [s.passOf o]) hkpr
  · exact congrArg (fun k => k.queue.erase o) hkpr
  · refine ((mapGet_mapSet _ _ _ _ _).trans (if_pos rfl)).trans ?_
    rw [heng]
  · refine (hw.mono (by simp)).trans (fun f hf => ?_)
    cases f with
    | cnt | free | eng | kpr => simp at hf
    | _ => rfl

theorem State.startPasses_writes (l : List PassOrder) (s : State) : Writes [.cnt, .free, .eng, .kpr] s (s.startPasses l) := by
  induction l generalizing s with
  | nil => exact Writes.refl _ s
  | cons o l ih => exact (s.startPass_spec o).2.2.2.trans (ih _)

/-! ### A slot -/

theorem coreSlot_of_idle {s : State} {core : Nat} {l : List PassOrder} (h : s.pwr.stalled = true ∨ s.beat.busyCores.contains core = false) :
    coreSlot core l s = s :=
  if_pos (by
    rcases h with h | h
    · rw [h]
      rfl
    · rw [h]
      exact Bool.or_true _)

theorem State.uidCore_of_part {s y : State} (h : y.part = s.part) (n : Nat) : y.uidCore n = s.uidCore n := by
  unfold State.uidCore State.coresPer
  rw [h]

theorem State.part_of_key {s y : State} (h : y.key = s.key) : y.part = s.part := congrArg (fun k => k.2.2.1) h

/-- A slot whose outlier load exceeds its budget is counted and reported. -/
def State.derated (y : State) (core kw load base : Nat) : State :=
  let z := (y.incK .OUTLIER_DERATE_COUNT kw).incK .OUTLIER_DERATE_NS kw (max base (4 * ((load + 6143) / 6144)) - base)
  z.raise 0x4601 kw (z.uidCore core)

theorem State.derated_eq {s y : State} (hpart : y.part = s.part) (core kw load base : Nat) :
    y.derated core kw load base = ((y.incK .OUTLIER_DERATE_COUNT kw).incK .OUTLIER_DERATE_NS kw
      (max base (4 * ((load + 6143) / 6144)) - base)).raise 0x4601 kw (s.uidCore core) := by
  unfold State.derated
  dsimp only
  rw [State.uidCore_of_part (s := s) (by rw [State.incK_part, State.incK_part, hpart])]

/-- The keyway that a slot's outlier load is counted for: that of its first pass. -/
def State.slotKeyway (y : State) (picks : List PassOrder) : Nat := match picks with | o :: _ => (y.req o.req).kw | [] => 0xFF

theorem coreSlot_of_working {s y : State} {core : Nat} {l picks : List PassOrder} {kw load base : Nat} (hstall : s.pwr.stalled = false)
    (hbusy : s.beat.busyCores.contains core = true) (hy : y = (s.sweepQueue core).takeOrders l)
    (hpicks : picks = (List.range 16).filterMap (fun e => y.nextOrder (16 * core + e))) (hload : load = y.outlierLoad picks)
    (hbase : base = y.slotLength picks) (hkw : kw = y.slotKeyway picks) :
    coreSlot core l s = if load > y.set0 .OUTLIER_LOAD_BUDGET then (y.startPasses picks).derated core kw load base else y.startPasses picks := by
  have hguard : ¬((s.pwr.stalled || !s.beat.busyCores.contains core) = true) := by rw [hstall, hbusy]; exact Bool.false_ne_true
  unfold coreSlot
  rw [if_neg hguard]
  dsimp only
  rw [← hy, ← hpicks, ← hload, ← hbase, hkw]
  rfl

/-- Settles O17: orders by whether they fit, the slot by the passes that start and their load. -/
theorem coreSlotStartsPasses : Obligations.CoreSlotStartsPasses := by
  refine ⟨fun t core l picks s y kw load base hcore horders => ⟨fun hidle => ?_, fun hstall hbusy hcfg hy hpicks hload hbase hkw => ?_⟩,
    fun o s => ⟨State.takeOrder_of_fits, State.takeOrder_of_refused, s.startPass_spec o⟩⟩
  · refine (if_pos ⟨hcore, horders⟩).trans (congrArg Host.Outcome.next (State.inStepCfg_of_free rfl fun cfg => ?_))
    exact coreSlot_of_idle (s := { s.at t with cfg := cfg }) hidle
  · have hpart : (y.startPasses picks).part = s.part := by
      rw [(State.startPasses_writes picks y) .part (by simp), hy]
      exact State.part_of_key (s := s.at t) (by rw [State.takeOrders_key, State.sweepQueue_key])
    have hexec : exec (.coreSlot t core l) s = .next (coreSlot core l (s.at t)) := by
      refine (if_pos ⟨hcore, horders⟩).trans (congrArg Host.Outcome.next ?_)
      exact State.inStepCfg_of_settings (s := s.at t) (.inl ⟨hcfg, rfl, rfl⟩) _
    rw [hexec, coreSlot_of_working (s := s.at t) hstall hbusy hy hpicks hload hbase hkw]
    refine ⟨fun hle => ?_, fun hgt => ?_⟩
    · rw [if_neg (by omega)]
    · rw [if_pos hgt, State.derated_eq hpart]

end Sys2Proof.Machine
end

section
/-! Proofs: count words retry, split or end a pass (spec/05 R187–R193, spec/06 R226). -/
namespace Sys2Proof.Machine
open Sys2Proof

theorem State.engine_passes_charged (s : State) (eng n sA : Nat) (selected : Bool) :
    ((s.chargePasses eng n sA selected).engine eng).passes = (s.engine eng).passes + n := by
  have heng : ((s.putEngine eng { s.engine eng with passes := (s.engine eng).passes + n }).inc .PASS_COUNT n).eng =
      (s.putEngine eng { s.engine eng with passes := (s.engine eng).passes + n }).eng := State.inc_eng _ _ _
  unfold State.engine
  exact congrArg EngS.passes ((congrArg (fun m => mapGet m eng {}) heng).trans ((mapGet_mapSet _ _ _ _ _).trans (if_pos rfl)))

/-! ### The four ends -/

/-- Count words of the pass on its engine: charged as in `y`, its words and range failures as in `z`. -/
theorem countWords_of_pass {s y z : State} {r : PassResult} {p : Pass} {ws : List Nat}
    (hp : s.kpr.passes.find? (fun p => p.eng == r.eng && !p.split) = some p)
    (hy : y = s.chargePasses p.eng 1 (driveSum p.drive) (p.selected && !p.retry)) (hws : ws = y.wordsOf p (driveSum p.drive) r.ticks)
    (hz : z = y.rangeFailAll p (failedCols ws)) :
    countWords r s =
      if p.dropped then y.leavePass p
      else if p.retry then z.settle { p with retry := false } (mergeWords p.plan p.words ws (outsIn (outputs p p.words) (fun o => o == .saturated)))
      else if (outputs p ws).any (fun o => o.state == .saturated) && z.set0 .SAT_RETRY == 1 && p.gain < 3 && y.mayPass p.eng p.tier then
        (z.inc .SAT_RETRY_COUNT).rePass { p with retry := true, words := ws }
      else z.settle p ws := by
  unfold countWords
  rw [hp]
  dsimp only
  rw [← hy, ← hws, ← hz]

/-! ### A pass that ends well -/

theorem State.commitEngine_kpr (s : State) (eng : Nat) (r : CalRun) : (s.commitEngine eng r).kpr = s.kpr := by
  unfold State.commitEngine
  exact State.inc_kpr _ _ _

theorem State.swapRemap_kpr (s : State) (eng tier : Nat) : (s.swapRemap eng tier).kpr = s.kpr := by
  unfold State.swapRemap
  dsimp only
  split
  · rfl
  · split <;> rfl

theorem State.lateSwap_kpr (s : State) (eng : Nat) : (s.lateSwap eng).kpr = s.kpr := by
  have hswap (y : State) : ([0, 1, 2, 3].foldl (fun (x : State) t => x.swapRemap eng t) y).kpr = y.kpr :=
    foldl_keeps State.kpr _ (fun y t => y.swapRemap_kpr eng t) _ _
  unfold State.lateSwap
  dsimp only
  split
  · rfl
  · rw [hswap]
    split
    · split
      · exact State.commitEngine_kpr _ _ _
      · rfl
    · rfl

theorem State.capture_off {s : State} {p : Pass} {ws : List Nat} {outs : List OutNum} (h : s.set0 .AUDIT_ENABLE = 0) : s.capture p ws outs = s :=
  if_pos (.inl (by rw [h]; exact Nat.zero_ne_one))

theorem outsIn_eq_nil {outs : List OutNum} {f : OutState → Bool} (h : ∀ o ∈ outs, f o.state = false) : outsIn outs f = [] := by
  unfold outsIn
  rw [List.map_eq_nil_iff, List.filter_eq_nil_iff]
  rintro ⟨o, i⟩ ho
  simp [h o (List.fst_mem_of_mem_zipIdx ho)]

theorem State.endPass_kpr (s : State) (d : PassDone) : (s.endPass d).kpr = { s.kpr with
    passes := s.kpr.passes.filter (fun q => q.eng != d.pass.eng), done := s.kpr.done ++ [d]
    open_ := if d.pass.half = .h then mapSet s.kpr.open_ d.pass.eng d.pass else s.kpr.open_ } := by
  unfold State.endPass State.leavePass
  simp only [beq_iff_eq]

/-- The SAT counts of a pass's engine and of the device, increased. -/
def State.satCounted (s : State) (p : Pass) (n : Nat) : State :=
  (s.putEngine p.eng { s.engine p.eng with sat := (s.engine p.eng).sat + n }).inc .SAT_COUNT n

theorem State.satCounted_facts (s : State) (p : Pass) (n : Nat) :
    (s.satCounted p n).kpr = s.kpr ∧ (s.satCounted p n).set0 .AUDIT_ENABLE = s.set0 .AUDIT_ENABLE := by
  have hcfg : (s.satCounted p n).cfg = s.cfg := State.inc_cfg _ _ _
  have hpart : (s.satCounted p n).part = s.part := State.inc_part _ _ _
  refine ⟨State.inc_kpr _ _ _, ?_⟩
  unfold State.set0 State.setting
  rw [hcfg, hpart]

/-- Nothing of a pass is saturated or failed, and no audit takes it: its counts go to the Keeper as they are. -/
theorem State.settle_sound {s : State} {p : Pass} {ws : List Nat}
    (hgood : (outputs p ws).any (fun o => o.state == .saturated || o.state == .failed) = false) (haudit : s.set0 .AUDIT_ENABLE = 0) :
    (s.settle p ws).kpr = { s.kpr with
      passes := s.kpr.passes.filter (fun q => q.eng != p.eng), done := s.kpr.done ++ [⟨p, ws, outputs p ws, [], []⟩]
      open_ := if p.half = .h then mapSet s.kpr.open_ p.eng p else s.kpr.open_ } := by
  have hstate (o : OutNum) (ho : o ∈ outputs p ws) : (o.state == .saturated) = false ∧ (o.state == .failed) = false := by
    simpa using List.any_eq_false.mp hgood o ho
  have hsat : outsIn (outputs p ws) (fun o => o == .saturated) = [] := outsIn_eq_nil fun o ho => (hstate o ho).1
  have hbad : outsIn (outputs p ws) OutState.bad = [] := by
    refine outsIn_eq_nil fun o ho => ?_
    have := hstate o ho
    revert this
    cases o.state <;> simp [OutState.bad]
  obtain ⟨hkpr, hset⟩ := s.satCounted_facts p 0
  have hsettle : s.settle p ws = (s.satCounted p 0).endPass ⟨p, ws, outputs p ws, [], []⟩ := by
    unfold State.settle
    dsimp only
    rw [hsat, hbad]
    change (if (!List.isEmpty [] && _ && _) = true then _ else State.endPass (State.capture (s.satCounted p 0) p ws (outputs p ws)) _) = _
    rw [State.capture_off (hset.trans haudit)]
    rfl
  rw [hsettle, State.endPass_kpr, hkpr]

theorem exec_countWords {t : Nat} {r : PassResult} {s : State} (heng : r.eng < s.numEngines)
    (hcfg : mapFind s.kpr.stepCfg (s.coreBeat (r.eng / 16)) = none) :
    exec (.countWordsReady t r) s = .next ((countWords r (s.at t)).lateSwap r.eng) :=
  (if_pos heng).trans (congrArg (fun x => Host.Outcome.next (State.lateSwap x r.eng))
    (State.inStepCfg_of_settings (s := s.at t) (.inl ⟨hcfg, rfl, rfl⟩) (countWords r)))

/-- Settles O18: the four ends of a pass, and the last of them where nothing is repaired. -/
theorem countWordsEndAPass : Obligations.CountWordsEndAPass := by
  intro t r s y z p ws heng hp hcfg hy hws hz
  have hexec := exec_countWords (t := t) heng hcfg
  rw [countWords_of_pass (s := s.at t) hp hy hws hz] at hexec
  have hend (hdrop : p.dropped = false) (hfirst : p.retry = false)
      (hno : (outputs p ws).any (fun o => o.state == .saturated) = false ∨ z.set0 .SAT_RETRY ≠ 1 ∨ 3 ≤ p.gain ∨ y.mayPass p.eng p.tier = false) :
      exec (.countWordsReady t r) s = .next ((z.settle p ws).lateSwap r.eng) := by
    rw [hexec, if_neg (by simp [hdrop]), if_neg (by simp [hfirst]), if_neg]
    rcases hno with h | h | h | h
    · simp [h]
    · simp [h]
    · simp; omega
    · simp [h]
  refine ⟨hy ▸ State.engine_passes_charged _ _ _ _ _, fun hdrop => ?_, fun hdrop hfirst hsat hset hgain hmay => ?_, fun hdrop hretry => ?_,
    hend, fun hdrop hfirst hgood haudit => ?_⟩
  · rw [hexec, if_pos hdrop]
  · rw [hexec, if_neg (by simp [hdrop]), if_neg (by simp [hfirst]), if_pos (by rw [hsat, hset, hmay]; simpa using hgain)]
  · rw [hexec, if_neg (by simp [hdrop]), if_pos hretry]
  · have hsat : (outputs p ws).any (fun o => o.state == .saturated) = false := by
      rw [List.any_eq_false] at hgood ⊢
      intro o ho h
      exact hgood o ho (by rw [h]; rfl)
    exact ⟨_, hend hdrop hfirst (.inl hsat), (State.lateSwap_kpr _ _).trans (State.settle_sound hgood haudit)⟩

end Sys2Proof.Machine
end

section
/-! Proofs: diagnosis read-back and spares (spec/05 R186, R200–R205, R207, R210, spec/08 R348). -/
namespace Sys2Proof.Machine
open Sys2Proof

/-! ### A tier that is read -/

theorem diagReadback_of_verify {s : State} {eng tier n : Nat} {cells : List CellRead} {w : Which} {v : Version} {x : Tile} (hstall : s.pwr.stalled = false)
    (htile : s.tileAt eng tier = some (n, w, v, x)) (hstate : x.state = .verify) :
    diagReadback eng tier cells s = (s.readBack eng tier).verifyTile eng tier cells := by
  unfold diagReadback
  rw [htile]
  exact (if_neg (by simp [hstall])).trans (if_pos (by simp [hstate]))

theorem diagReadback_of_diag {s : State} {eng tier : Nat} {cells : List CellRead} (hmay : s.mayDiagRead eng = true)
    (htile : ∀ n w v x, s.tileAt eng tier = some (n, w, v, x) → x.state ≠ .verify) : diagReadback eng tier cells s = s.diagRead eng tier cells := by
  have hstall : s.pwr.stalled = false := by
    simp only [State.mayDiagRead, Bool.and_eq_true, Bool.not_eq_true'] at hmay
    obtain ⟨⟨⟨⟨⟨⟨⟨-, hstall⟩, -⟩, -⟩, -⟩, -⟩, -⟩, -⟩ := hmay
    exact hstall
  unfold diagReadback
  split
  next n w v x heq =>
    rw [if_neg (by simp [hstall]), if_neg (by simp [htile _ _ _ _ heq]), if_pos hmay]
  · exact if_pos hmay

theorem State.diagRead_of_next {s z : State} {eng tier : Nat} {cells : List CellRead} {d d' : Diag} {rest : List Nat}
    (hdiag : (s.engine eng).diag = some d) (hread : d.toRead = tier :: rest) (hz : z = s.readBack eng tier)
    (hd' : d' = { d with bad := d.bad ++ (z.mismatchesAt eng tier cells).map (fun x => (tier, x.1, x.2)), toRead := rest, readAt := some z.beat.count }) :
    s.diagRead eng tier cells = if rest.isEmpty then (z.diagEnd eng d' ((List.range 4).filter (fun t => ((z.engine eng).tier t).health != .retired))).deEscalate eng
      else z.putEngine eng { z.engine eng with diag := some d' } := by
  unfold State.diagRead
  dsimp only
  rw [hdiag]
  dsimp only
  rw [if_neg (by simp [hread]), ← hz, hread, hd']
  rfl

/-! ### A spare column -/

theorem spareVerified_of_job {s u : State} {eng tier spare energy : Nat} {ok : Bool} {j : SpareJob} (hmay : s.maySpare eng = true)
    (hjob : (s.engine eng).spares.find? (fun j => j.spare == spare && j.left.contains tier) = some j)
    (hu : u = { s with kpr := { s.kpr with energy := s.kpr.energy + energy * 1000000 * 2 ^ 32 } }) :
    spareVerified eng tier spare ok energy s = u.spareTried eng tier j ok := by
  unfold spareVerified
  rw [hjob, hu]
  exact if_pos hmay

theorem spareJob_spare {l : List SpareJob} {spare tier : Nat} {j : SpareJob}
    (hjob : l.find? (fun j => j.spare == spare && j.left.contains tier) = some j) : spare = j.spare := by
  have h := List.find?_some hjob
  simp only [Bool.and_eq_true, beq_iff_eq] at h
  exact h.1.symm

/-- Settles O19: the tier read by what its tile and its diagnosis ask, the spare by the job that it serves. -/
theorem diagnosisAndSpares : Obligations.DiagnosisAndSpares := by
  refine ⟨fun t eng tier cells s z d d' rest heng htier hmay htile hdiag hread hz hd' => ?_,
    fun t eng tier n w v x cells s heng htier hstall htile hstate => ?_,
    fun t eng tier spare energy s u j heng htier hspare hmay hjob hu => ⟨fun e j' hj' he y hy => ?_, fun e he y hy => ?_⟩⟩
  · have hbeat : z.beat = s.beat := by rw [hz]; exact State.readBack_beat _ _ _
    have hdiagRead := State.diagRead_of_next (s := s.at t) hdiag hread hz (hbeat ▸ hd')
    have hexec : exec (.diagReadbackDone t eng tier cells) s = .next ((s.at t).diagRead eng tier cells) :=
      (if_pos ⟨heng, htier⟩).trans (congrArg Host.Outcome.next (diagReadback_of_diag (s := s.at t) hmay htile))
    rw [hexec, hdiagRead]
    exact ⟨fun hrest => by rw [if_neg (by simpa using hrest)], fun hrest => by rw [if_pos (by simp [hrest])]⟩
  · exact (if_pos ⟨heng, htier⟩).trans (congrArg Host.Outcome.next (diagReadback_of_verify (s := s.at t) hstall htile hstate))
  · refine (if_pos ⟨heng, htier, hspare⟩).trans (congrArg Host.Outcome.next ((spareVerified_of_job (s := s.at t) hmay hjob hu).trans ?_))
    rw [hy, he, hj', hu, spareJob_spare hjob]
    rfl
  · refine (if_pos ⟨heng, htier, hspare⟩).trans (congrArg Host.Outcome.next ((spareVerified_of_job (s := s.at t) hmay hjob hu).trans ?_))
    rw [hy, he, hu, spareJob_spare hjob]
    rfl

end Sys2Proof.Machine
end

section
/-! Proofs: Keeper work items and split passes (spec/02 R51–R53, spec/04 R149, spec/06 R228, R229, R235–R238, spec/14 R568). -/
namespace Sys2Proof.Machine
open Sys2Proof

/-! ### What faults of steps leave of counts, requests and tests -/

theorem State.count_addCount_ne (s : State) (k j : OKey) (n : Nat) (h : k ≠ j) : (s.addCount k n).count j = s.count j := by
  unfold State.addCount
  dsimp only
  split
  · exact (State.count_putCount _ _ _ _).trans (if_neg h)
  · exact (State.count_putCount _ _ _ _).trans (if_neg h)

theorem State.count_incK_ne (s : State) (o : Obj) (kw n : Nat) (j : OKey) (h : o ≠ j.obj) : (s.incK o kw n).count j = s.count j :=
  ((s.addCount _ n).count_addCount_ne _ j n (fun e => h (congrArg OKey.obj e))).trans (s.count_addCount_ne _ j n (fun e => h (congrArg OKey.obj e)))

theorem State.putReq_writes (s : State) (i : Nat) (r : ReqS) : Writes [.srv] s (s.putReq i r) := by
  intro f hf
  cases f with
  | srv => simp at hf
  | _ => rfl

theorem State.req_putReq_same (s : State) (i : Nat) (r : ReqS) : (s.putReq i r).req i = r :=
  (mapGet_mapSet _ _ _ _ _).trans (if_pos rfl)

theorem State.holdReq_faulted (s : State) (i : Nat) (h : Hold) : ((s.holdReq i h).req i).faulted = (s.req i).faulted := by
  unfold State.holdReq
  dsimp only
  rw [State.req_putReq_same]

/-- A faulted record put in place, held for a retry or not. -/
theorem State.putFaulted_faulted {y : State} {i : Nat} {again : Bool} {r q : ReqS} (hr : r.faulted = true) (hq : q.faulted = true) :
    ((if again then (y.putReq i r).holdReq i .retry else y.putReq i q).req i).faulted = true := by
  cases again with
  | true => exact (State.holdReq_faulted _ _ _).trans ((congrArg ReqS.faulted (State.req_putReq_same _ _ _)).trans hr)
  | false => exact (congrArg ReqS.faulted (State.req_putReq_same _ _ _)).trans hq

theorem State.putFaulted_writes (y : State) (i : Nat) (again : Bool) (r q : ReqS) :
    Writes [.srv] y (if again then (y.putReq i r).holdReq i .retry else y.putReq i q) := by
  cases again with
  | true => exact (State.putReq_writes _ _ _).trans (State.putReq_writes _ _ _)
  | false => exact State.putReq_writes _ _ _

/-- A fault of a step that runs drops the step's work, is counted and reported, and marks its request; another fault changes nothing. -/
theorem State.faultStep_cases (s : State) (i : Nat) (f : StepFault) :
    ((s.req i).batch.isNone = true ∨ (s.req i).faulted = true) ∧ s.faultStep i f = s ∨
    ¬((s.req i).batch.isNone = true ∨ (s.req i).faulted = true) ∧ ((s.faultStep i f).req i).faulted = true ∧
      ∃ p1, Writes [.srv] (((s.dropWork i).incK .STEPS_FAULTED (s.req i).kw).raise 0x8A01 (s.req i).kw 0 i p1 (s.req i).userTag) (s.faultStep i f) := by
  by_cases hidle : (s.req i).batch.isNone = true ∨ (s.req i).faulted = true
  · exact .inl ⟨hidle, if_pos hidle⟩
  · refine .inr ⟨hidle, ?_⟩
    unfold State.faultStep
    dsimp only
    rw [if_neg hidle]
    exact ⟨State.putFaulted_faulted rfl rfl, _, State.putFaulted_writes _ _ _ _ _⟩

theorem State.count_of_writes {l : List StatePart} {s x : State} (h : Writes l s x) (hcnt : .cnt ∉ l) (hpart : .part ∉ l) (j : OKey) :
    x.count j = s.count j := by
  have hcnt : x.cnt = s.cnt := h .cnt hcnt
  have hpart : x.part = s.part := h .part hpart
  unfold State.count
  rw [hcnt, hpart]

/-- A step that is faulted counts STEPS_FAULTED, of no other count. -/
theorem State.count_faultStep (s : State) (i : Nat) (f : StepFault) (j : OKey) (h : j.obj ≠ .STEPS_FAULTED) : (s.faultStep i f).count j = s.count j := by
  obtain ⟨-, hsame⟩ | ⟨-, -, p1, hw⟩ := s.faultStep_cases i f
  · rw [hsame]
  · rw [State.count_of_writes hw (by simp) (by simp), State.count_of_writes (State.raise_writes _ _ _ _ _ _ _) (by simp) (by simp)]
    exact (s.dropWork i).count_incK_ne _ _ _ j (Ne.symm h)

theorem State.faultStep_faulted (s : State) (i : Nat) (f : StepFault) (hbatch : (s.req i).batch ≠ none) (hok : (s.req i).faulted = false) :
    ((s.faultStep i f).req i).faulted = true := by
  obtain ⟨hidle, -⟩ | ⟨-, hfaulted, -⟩ := s.faultStep_cases i f
  · simp [hbatch, hok] at hidle
  · exact hfaulted

/-- What a unit's test goes by: the beat, the instant, the units in quarantine, their mismatches and the time in operation. -/
def State.testView (s : State) : BeatS × Nat × (Map (BeatMark × Bool)) × List (UnitId × Nat) × Nat × Option Nat :=
  (s.beat, s.now, s.evt.quarantine, s.evt.mismatches, s.evt.opMs, s.evt.opSince)

/-- The same of the recorder alone. -/
def EvtS.tests (v : EvtS) : (Map (BeatMark × Bool)) × List (UnitId × Nat) × Nat × Option Nat := (v.quarantine, v.mismatches, v.opMs, v.opSince)

theorem EvtS.enqueue_tests (v : EvtS) (e : Event) : (v.enqueue e).tests = v.tests := by
  unfold EvtS.enqueue
  (repeat' split) <;> rfl

theorem EvtS.offer_tests (v : EvtS) (e : Event) (now period burst : Nat) : (v.offer e now period burst).tests = v.tests := by
  unfold EvtS.offer
  dsimp only
  (repeat' split)
  · exact v.enqueue_tests e
  · exact v.enqueue_tests e
  · rfl
  · exact v.enqueue_tests _

theorem State.raise_testView (s : State) (code kw : Nat) (unit : UnitId) (p0 p1 p2 : Nat) : (s.raise code kw unit p0 p1 p2).testView = s.testView :=
  congrArg (fun v => (s.beat, s.now, v)) (EvtS.offer_tests _ _ _ _ _)

theorem State.testView_of_writes {l : List StatePart} {s x : State} (h : Writes l s x) (hbeat : .beat ∉ l) (hnow : .now ∉ l) (hevt : .evt ∉ l) :
    x.testView = s.testView := by
  have hbeat : x.beat = s.beat := h .beat hbeat
  have hnow : x.now = s.now := h .now hnow
  have hevt : x.evt = s.evt := h .evt hevt
  unfold State.testView
  rw [hbeat, hnow, hevt]

theorem State.inc_testView (s : State) (o : Obj) (n : Nat) : (s.inc o n).testView = s.testView :=
  State.testView_of_writes (s.addCount_writes ⟨o, 0, 0⟩ n) (by simp) (by simp) (by simp)

theorem State.faultStep_testView (s : State) (i : Nat) (f : StepFault) : (s.faultStep i f).testView = s.testView := by
  obtain ⟨-, hsame⟩ | ⟨-, -, p1, hw⟩ := s.faultStep_cases i f
  · rw [hsame]
  · rw [State.testView_of_writes hw (by simp) (by simp) (by simp), State.raise_testView]
    exact State.testView_of_writes (s := s.dropWork i) ((s.dropWork i).incK_writes _ _ _) (by simp) (by simp) (by simp)

theorem State.faultAll_testView (s : State) (f : StepFault) (l : List Nat) : (s.faultAll f l).testView = s.testView := by
  induction l generalizing s with
  | nil => rfl
  | cons i r ih => exact (ih _).trans (s.faultStep_testView i f)

theorem State.isolateFault_testView (s : State) (u : UnitId) : (s.isolateFault u).testView = s.testView :=
  State.faultAll_testView _ _ _

/-! ### Work items -/

/-- Its core ONLINE, its place on the MAC array free and power allowing, an item is worked. -/
theorem exec_keeperWork {t core : Nat} {w : KeeperWork} {s : State} (hcore : core < s.numCores)
    (hcfg : mapFind s.kpr.stepCfg (s.coreBeat core) = none) : exec (.keeperWorkItem t core w) s = .next (keeperWork core w (s.at t)) :=
  (if_pos hcore).trans (congrArg Host.Outcome.next (State.inStepCfg_of_settings (s := s.at t) (.inl ⟨hcfg, rfl, rfl⟩) (keeperWork core w)))

section
variable {core : Nat} {w : KeeperWork} {s : State} (hstall : s.pwr.stalled = false)
include hstall

theorem keeperWork_of_refused (hcore : s.coreState core ≠ .online) : keeperWork core w s = s.emit (.orderRefused (s.uidCore core)) :=
  (if_neg (by simp [hstall])).trans (if_pos hcore)

variable (hcore : s.coreState core = .online)
include hcore

theorem keeperWork_of_waiting (hbusy : s.macFree core w = false) : keeperWork core w s = s :=
  (if_neg (by simp [hstall])).trans ((if_neg (not_not_intro hcore)).trans (if_pos (by simp [hbusy])))

theorem keeperWork_of_free (hfree : s.macFree core w = true) : keeperWork core w s = match w with
    | .promote k tier engs half => s.promoteChunk core k tier engs half
    | .repair k tier engs eng blocks => s.repairOut core k tier engs eng blocks
    | .splitTerm k tier engs eng half => s.addSplit core k tier engs eng half
    | .outlier k tier engs eng row value => s.addOutlier core k tier engs eng row value
    | .adapter k x => s.adapterWork k x
    | .exactTier k shard blocks => s.exactTierWork core k shard blocks
    | .finish k => s.finishTotal k
    | .reduce req x => s.reduceWork req x
    | .narrow req place x => s.narrowWork core req place x
    | .readBlock req fmt used data scale => s.readBlockWork req fmt used data scale
    | .sramRead req unit row addr ecc => if s.reaches core unit addr then s.sramRead req unit row addr ecc else s
    | .sramWrite unit addr => if s.reaches core unit addr then s.sramWrite unit addr else s
    | .transfer req unit addr ecc => s.transfer req unit addr ecc
    | .residue => s.residueMismatch (s.uidCore core) := by
  refine (if_neg (by simp [hstall])).trans ((if_neg (not_not_intro hcore)).trans ((if_neg (by simp [hfree])).trans ?_))
  cases w <;> rfl

end

/-! ### What the items do -/

theorem State.promoteChunk_of_ready {s : State} {core tier j : Nat} {k : TotalKey} {engs : List Nat} {half : PassHalf} {v : Version} {ts : List Tile}
    {ds : List PassDone} (hchunk : s.chunkAt core k tier engs = some (v, ts, j))
    (hready : ts.all (fun x => (s.halvesOf v x (s.req k.req).kw).contains half && s.partReady core k tier engs half j x) = true)
    (hds : ds = ts.filterMap (fun x => s.doneOf x.eng tier k half)) :
    s.promoteChunk core k tier engs half = if (chunkSum ds j).natAbs ≤ 8388607 then
        s.addTerm k (termPlace core tier (lowestEng engs) 0 (halfCode half)) (promote (chunkSum ds j) ((ts.head?.map Tile.plan).getD 1) half
          ((ds.head?.map (fun d => d.pass.ca)).getD (-128)) (chunkCode ts j))
      else s.chunkOverflow core k tier engs j := by
  unfold State.promoteChunk
  rw [hchunk]
  dsimp only
  rw [if_neg (by rw [hready]; exact Bool.false_ne_true), ← hds]
  rfl

theorem State.raiseMany_kpr (s : State) (code kw n : Nat) : (s.raiseMany code kw n).kpr = s.kpr := State.raiseMany_writes s code kw n .kpr (by simp)

theorem State.total_putTotal (s : State) (z : Total) (k : TotalKey) : (s.putTotal z).total k = if z.key = k then some z else s.total k := by
  unfold State.total State.putTotal
  rw [List.find?_append]
  by_cases hk : z.key = k
  · have hnone : (s.kpr.totals.filter (fun y => !decide (y.key = z.key))).find? (fun y => y.key = k) = none := by
      rw [List.find?_eq_none]
      intro y hy
      simpa [hk] using (List.mem_filter.mp hy).2
    rw [hnone, if_pos hk]
    simp [hk]
  · have hkept : (s.kpr.totals.filter (fun y => !decide (y.key = z.key))).find? (fun y => y.key = k) = s.kpr.totals.find? (fun y => y.key = k) := by
      refine find?_filter_of_kept fun y hy => ?_
      have hy : y.key = k := by simpa using hy
      simp [hy, Ne.symm hk]
    rw [hkept, if_neg hk]
    simp [hk]

theorem State.finishTotal_spec {s : State} {k : TotalKey} {z : Total} (hz : s.total k = some z) (hopen : z.value = none) :
    (s.finishTotal k).total k = some { z with value := some (totalOf z.exact (z.terms.map Prod.snd)).1 } ∧
      ∀ j, j ≠ k → (s.finishTotal k).total j = s.total j := by
  have hkey : z.key = k := by simpa using List.find?_some hz
  have hrest (y : State) (hy : y.kpr = s.kpr) (j : TotalKey) : y.total j = s.total j := by
    unfold State.total
    rw [hy]
  unfold State.finishTotal
  rw [hz]
  dsimp only
  rw [hopen]
  refine ⟨?_, fun j hj => ?_⟩
  · exact (State.total_putTotal _ _ _).trans (if_pos hkey)
  · refine (State.total_putTotal _ _ _).trans ((if_neg (fun h => hj (h.symm.trans hkey))).trans (hrest _ ?_ j))
    exact (State.raiseMany_kpr _ _ _ _).trans (State.incK_kpr _ _ _ _)

theorem State.countNarrow_kpr (s : State) (kw : Nat) (n : Narrowed) : (s.countNarrow kw n).kpr = s.kpr := by
  unfold State.countNarrow
  dsimp only
  split
  · exact (State.raise_kpr _ _ _ _ _ _ _).trans ((State.incK_kpr _ _ _ _).trans (State.incK_kpr _ _ _ _))
  · exact State.incK_kpr _ _ _ _

theorem State.narrowInto_of_some {s : State} {core req fmt : Nat} {edge octaves : Bool} {x : List F32} {digital : List Bool} {n : Narrowed}
    (h : narrow (s.narrowCfg (s.req req).kw fmt edge octaves) x digital = some n) :
    (s.narrowInto core req fmt edge octaves x digital).kpr = { s.kpr with
      blocks := s.kpr.blocks ++ [⟨core, req, fmt, unsigned 8 n.code, encodeBlock fmt n.d, outlierPlane n.outs⟩] } := by
  have hkpr := s.countNarrow_kpr (s.req req).kw n
  unfold State.narrowInto State.narrowFor
  dsimp only
  rw [h]
  exact congrArg (fun k : KprS => { k with
    blocks := k.blocks ++ [(⟨core, req, fmt, unsigned 8 n.code, encodeBlock fmt n.d, outlierPlane n.outs⟩ : NarrowBlk)] }) hkpr

theorem State.narrowInto_of_none {s : State} {core req fmt : Nat} {edge octaves : Bool} {x : List F32} {digital : List Bool}
    (h : narrow (s.narrowCfg (s.req req).kw fmt edge octaves) x digital = none) :
    s.narrowInto core req fmt edge octaves x digital = (s.nonfinite (s.req req).kw).faultStep req .nonfiniteAct := by
  unfold State.narrowInto State.narrowFor
  dsimp only
  rw [h]

theorem State.narrowWork_keeper {s : State} {core req fmt : Nat} {x : List F32} {r : FmtRow} (hrow : fmtRow fmt = some r) (hscaled : r.scaled = true) :
    s.narrowWork core req (.keeper fmt) x = s.narrowInto core req fmt false false x (List.replicate 32 false) := by
  unfold State.narrowWork
  dsimp only
  rw [hrow]
  exact if_pos hscaled

theorem State.narrowWork_edge {s : State} {core req layer row : Nat} {draft : Bool} {x : List F32} {v : Version} {h : ShardHdr}
    (hv : s.servedBy req draft = some v) (hlayer : v.layerHdr layer = some h) (hkind : h.kind ≠ 3) :
    s.narrowWork core req (.arrayEdge draft layer row) x =
      s.narrowInto core req (s.driveFormat (some h) (s.req req).kw) true (s.exactOf v layer).isSome x (v.digitalRows layer row) := by
  unfold State.narrowWork
  dsimp only
  rw [hv]
  dsimp only
  rw [hlayer]
  exact if_neg (by simp [hkind])

theorem State.sramRead_clean {s : State} {req row addr : Nat} {unit : UnitId} (hclean : s.hier.poisoned.contains ⟨unit, addr⟩ = false) :
    s.sramRead req unit row addr .clean = s :=
  if_neg (by rw [hclean]; exact Bool.false_ne_true)

theorem State.sramRead_double {s : State} {req row addr : Nat} {unit : UnitId} (hclean : s.hier.poisoned.contains ⟨unit, addr⟩ = false) :
    s.sramRead req unit row addr .double = s.uncorrectable req unit addr :=
  if_neg (by rw [hclean]; exact Bool.false_ne_true)

/-- A double error as it is recorded and reported, before the fault of the step. -/
def State.doubleNoted (s : State) (req : Nat) (unit : UnitId) (addr : Nat) : State :=
  let y := ({ s with hier := { s.hier with poisoned := s.hier.poisoned ++ [Poison.mk unit addr] } } : State).inc .SRAM_UNCORR_COUNT
  let y := (y.putCount ⟨.SRAM_LAST_ERR_UNIT, 0, 0⟩ unit).putCount ⟨.SRAM_LAST_ERR_ADDR, 0, 0⟩ addr
  y.raise 0x8201 (y.req req).kw unit

theorem State.uncorrectable_spec (s : State) (req : Nat) (unit : UnitId) (addr : Nat) :
    (s.uncorrectable req unit addr).hier.poisoned = s.hier.poisoned ++ [⟨unit, addr⟩] ∧
      (s.uncorrectable req unit addr).count ⟨.SRAM_LAST_ERR_UNIT, 0, 0⟩ = unit ∧
      (s.uncorrectable req unit addr).count ⟨.SRAM_LAST_ERR_ADDR, 0, 0⟩ = addr ∧
      ((s.req req).batch ≠ none → (s.req req).faulted = false → ((s.uncorrectable req unit addr).req req).faulted = true) := by
  have hfault : s.uncorrectable req unit addr = (s.doubleNoted req unit addr).faultStep req .doubleBit := rfl
  have hreq : (s.doubleNoted req unit addr).req req = s.req req := by
    have hsrv : (s.doubleNoted req unit addr).srv = s.srv := State.inc_srv _ _ _
    unfold State.req
    rw [hsrv]
  rw [hfault]
  refine ⟨?_, ?_, ?_, fun hbatch hok => State.faultStep_faulted _ _ _ (by rw [hreq]; exact hbatch) (by rw [hreq]; exact hok)⟩
  · rw [State.faultStep_hier]
    exact congrArg HierS.poisoned (State.inc_hier _ _ _)
  · rw [State.count_faultStep _ _ _ _ (by simp)]
    exact (State.count_putCount _ _ _ _).trans ((if_neg (by simp)).trans ((State.count_putCount _ _ _ _).trans (if_pos rfl)))
  · rw [State.count_faultStep _ _ _ _ (by simp)]
    exact (State.count_putCount _ _ _ _).trans (if_pos rfl)

/-- An isolated unit in quarantine with its mismatch, before the mismatch is counted and reported. -/
def State.mismatchNoted (i : State) (u : UnitId) : State :=
  { i with evt := { i.evt with quarantine := mapSet i.evt.quarantine u (i.beatMark, true), mismatches := i.evt.mismatches ++ [(u, i.opMsNow)] } }

theorem State.residueMismatch_eq (s : State) (u : UnitId) :
    s.residueMismatch u = (((s.isolateFault u).mismatchNoted u).inc .RESIDUE_MISMATCH_COUNT).raise 0x8E01 0xFF u := by
  unfold State.residueMismatch State.quarantine
  generalize s.isolateFault u = i
  rfl

theorem State.mismatchCounted_testView (i : State) (u : UnitId) :
    (((i.mismatchNoted u).inc .RESIDUE_MISMATCH_COUNT).raise 0x8E01 0xFF u).testView = (i.mismatchNoted u).testView :=
  (State.raise_testView _ _ _ _ _ _ _).trans (State.inc_testView _ _ _)

/-- The marks that a mismatch is noted with. -/
def State.testMarks (s : State) : BeatMark × Nat × List (UnitId × Nat) := (s.beatMark, s.opMsNow, s.evt.mismatches)

theorem State.testMarks_of_view {s i : State} (h : i.testView = s.testView) : i.testMarks = s.testMarks := by
  have hbeat : i.beat = s.beat := congrArg (fun v => v.1) h
  have hnow : i.now = s.now := congrArg (fun v => v.2.1) h
  have hmism : i.evt.mismatches = s.evt.mismatches := congrArg (fun v => v.2.2.2.1) h
  have hms : i.evt.opMs = s.evt.opMs := congrArg (fun v => v.2.2.2.2.1) h
  have hsince : i.evt.opSince = s.evt.opSince := congrArg (fun v => v.2.2.2.2.2) h
  unfold State.testMarks State.beatMark State.seekClock State.notchesIn State.opMsNow
  rw [hbeat, hnow, hmism, hms, hsince]

theorem State.residueMismatch_spec (s : State) (u : UnitId) :
    (s.residueMismatch u).ownState u = (s.ownState u).worse .isolated ∧
      mapFind (s.residueMismatch u).evt.quarantine u = some (s.beatMark, true) ∧
      (s.residueMismatch u).evt.mismatches = s.evt.mismatches ++ [(u, s.opMsNow)] := by
  have hmarks := State.testMarks_of_view (s.isolateFault_testView u)
  have hhier := s.isolateFault_hier u
  rw [s.residueMismatch_eq u]
  revert hmarks hhier
  generalize s.isolateFault u = i
  intro hmarks hhier
  obtain ⟨hmark, hop, hmism⟩ : i.beatMark = s.beatMark ∧ i.opMsNow = s.opMsNow ∧ i.evt.mismatches = s.evt.mismatches :=
    ⟨congrArg (fun v => v.1) hmarks, congrArg (fun v => v.2.1) hmarks, congrArg (fun v => v.2.2) hmarks⟩
  have hview := i.mismatchCounted_testView u
  refine ⟨?_, ?_, ?_⟩
  · have hsame : (((i.mismatchNoted u).inc .RESIDUE_MISMATCH_COUNT).raise 0x8E01 0xFF u).hier = i.hier := State.inc_hier _ _ _
    unfold State.ownState
    rw [hsame, hhier]
    exact (mapGet_mapSet _ _ _ _ _).trans (if_pos rfl)
  · refine (congrArg (fun v => mapFind v.2.2.1 u) hview).trans ?_
    rw [← hmark]
    exact (mapFind_mapSet _ _ _ _).trans (if_pos rfl)
  · refine (congrArg (fun v => v.2.2.2.1) hview).trans ?_
    rw [← hmism, ← hop]
    rfl

/-! ### Split passes -/

/-- A pass whose eight sub-passes have been charged as in `y`. -/
theorem splitDone_of_pass {s y : State} {r : SplitResult} {p : Pass} {ws : List (List Nat)} {bad lost : List Nat} {d : PassDone}
    (hp : s.kpr.passes.find? (fun p => p.eng == r.eng && p.split) = some p)
    (hy : y = (List.range 8).foldl (fun s m => s.chargePasses p.eng 1 (driveSum (subDrive p.drive m)) false) s) (hws : ws = y.subWords p r.ticks)
    (hbad : bad = outsIn (outputs p p.words) OutState.bad) (hlost : lost = bad.filter (subBad p ws))
    (hd : d = ⟨{ p with split := false }, p.words, (outputs p p.words).zipIdx.map (fun x =>
      if bad.contains x.2 && !lost.contains x.2 then ⟨.split, 0, 3, splitTerm p ws x.2⟩ else x.1),
      outsIn (outputs p p.words) (fun o => o == .saturated), bad⟩) :
    splitDone r s = if p.dropped then y.leavePass p else ((y.subRange p ws).endPass d).repairFailedAll d.pass lost := by
  unfold splitDone
  rw [hp]
  dsimp only
  rw [← hy, ← hbad, ← hws, ← hlost, hd]

theorem exec_splitDone {t : Nat} {r : SplitResult} {s : State} (heng : r.eng < s.numEngines)
    (hcfg : mapFind s.kpr.stepCfg (s.coreBeat (r.eng / 16)) = none) :
    exec (.splitRecomputeDone t r) s = .next ((splitDone r (s.at t)).lateSwap r.eng) :=
  (if_pos heng).trans (congrArg (fun x => Host.Outcome.next (State.lateSwap x r.eng))
    (State.inStepCfg_of_settings (s := s.at t) (.inl ⟨hcfg, rfl, rfl⟩) (splitDone r)))

section
variable {t core : Nat} {s : State} (hcore : core < s.numCores) (hstall : s.pwr.stalled = false)
  (hcfg : mapFind s.kpr.stepCfg (s.coreBeat core) = none) (hon : s.coreState core = .online)
include hcore hstall hcfg hon

theorem exec_promote {k : TotalKey} {tier j : Nat} {engs : List Nat} {half : PassHalf} {v : Version} {ts : List Tile} {ds : List PassDone}
    (hchunk : s.chunkAt core k tier engs = some (v, ts, j))
    (hready : ts.all (fun x => (s.halvesOf v x (s.req k.req).kw).contains half && s.partReady core k tier engs half j x) = true)
    (hds : ds = ts.filterMap (fun x => s.doneOf x.eng tier k half)) :
    exec (.keeperWorkItem t core (.promote k tier engs half)) s = .next (if (chunkSum ds j).natAbs ≤ 8388607 then
        (s.at t).addTerm k (termPlace core tier (lowestEng engs) 0 (halfCode half)) (promote (chunkSum ds j) ((ts.head?.map Tile.plan).getD 1) half
          ((ds.head?.map (fun d => d.pass.ca)).getD (-128)) (chunkCode ts j))
      else (s.at t).chunkOverflow core k tier engs j) :=
  (exec_keeperWork hcore hcfg).trans (congrArg Host.Outcome.next
    ((keeperWork_of_free (s := s.at t) hstall hon rfl).trans (State.promoteChunk_of_ready (s := s.at t) hchunk hready hds)))

theorem exec_finish (k : TotalKey) : exec (.keeperWorkItem t core (.finish k)) s = .next ((s.at t).finishTotal k) :=
  (exec_keeperWork hcore hcfg).trans (congrArg Host.Outcome.next (keeperWork_of_free (s := s.at t) hstall hon rfl))

theorem exec_narrow (req : Nat) (place : NarrowPlace) (x : List F32) :
    exec (.keeperWorkItem t core (.narrow req place x)) s = .next ((s.at t).narrowWork core req place x) :=
  (exec_keeperWork hcore hcfg).trans (congrArg Host.Outcome.next (keeperWork_of_free (s := s.at t) hstall hon rfl))

theorem exec_reduce (req : Nat) (x : List F32) :
    exec (.keeperWorkItem t core (.reduce req x)) s = .next ((s.at t).reduceWork req x) :=
  (exec_keeperWork hcore hcfg).trans (congrArg Host.Outcome.next (keeperWork_of_free (s := s.at t) hstall hon rfl))

theorem exec_sramRead (req : Nat) (unit : UnitId) (row addr : Nat) (e : EccResult) :
    exec (.keeperWorkItem t core (.sramRead req unit row addr e)) s =
      .next (if s.reaches core unit addr then (s.at t).sramRead req unit row addr e else s.at t) :=
  (exec_keeperWork hcore hcfg).trans (congrArg Host.Outcome.next (keeperWork_of_free (s := s.at t) hstall hon rfl))

theorem exec_sramWrite (unit : UnitId) (addr : Nat) :
    exec (.keeperWorkItem t core (.sramWrite unit addr)) s = .next (if s.reaches core unit addr then (s.at t).sramWrite unit addr else s.at t) :=
  (exec_keeperWork hcore hcfg).trans (congrArg Host.Outcome.next (keeperWork_of_free (s := s.at t) hstall hon rfl))

theorem exec_residue : exec (.keeperWorkItem t core .residue) s = .next ((s.at t).residueMismatch (s.uidCore core)) :=
  (exec_keeperWork hcore hcfg).trans (congrArg Host.Outcome.next (keeperWork_of_free (s := s.at t) hstall hon rfl))

end

/-- Settles O20: the items one by one, and the pass whose sub-passes have come. -/
theorem keeperWorkItems : Obligations.KeeperWork := by
  refine ⟨fun t core s hcore hstall hcfg => ⟨fun w hoff => ?refused, fun hon => ⟨fun w hbusy => ?waits,
      fun k tier engs half v ts j ds hchunk hready hds => ⟨fun hfits => ?sum, fun hover => ?overflow⟩, fun k z hz hopen => ?finish,
      fun req fmt r x hrow hscaled => ⟨fun n hn => ?narrowed, fun hn => ?nonfinite⟩,
      fun req layer row fmt draft v h x n hv hlayer hkind hfmt hn => ?edge, fun req x => ?reduce,
      fun req unit row addr hreach hclean => ⟨?clean, ?double⟩, fun unit addr hreach => ?write, fun req unit row addr e hreach => ⟨?noRead, ?noWrite⟩,
      ?residue⟩⟩,
    fun t r s y p ws bad lost heng hp hcfg hy hws hbad hlost => ⟨fun hdrop => ?dropped, fun d hdrop hd => ?split⟩⟩
  case refused =>
    exact (exec_keeperWork hcore hcfg).trans (congrArg Host.Outcome.next (keeperWork_of_refused (s := s.at t) hstall hoff))
  case waits =>
    exact (exec_keeperWork hcore hcfg).trans (congrArg Host.Outcome.next (keeperWork_of_waiting (s := s.at t) hstall hon hbusy))
  case sum => rw [exec_promote hcore hstall hcfg hon hchunk hready hds, if_pos hfits]
  case overflow => rw [exec_promote hcore hstall hcfg hon hchunk hready hds, if_neg (by omega)]
  case finish => exact ⟨_, exec_finish hcore hstall hcfg hon k, State.finishTotal_spec (s := s.at t) hz hopen⟩
  case narrowed =>
    refine ⟨_, exec_narrow hcore hstall hcfg hon req _ x, ?_⟩
    rw [State.narrowWork_keeper hrow hscaled]
    exact State.narrowInto_of_some (s := s.at t) hn
  case nonfinite =>
    rw [exec_narrow hcore hstall hcfg hon, State.narrowWork_keeper hrow hscaled]
    exact congrArg Host.Outcome.next (State.narrowInto_of_none (s := s.at t) hn)
  case edge =>
    refine ⟨_, exec_narrow hcore hstall hcfg hon req _ x, ?_⟩
    rw [State.narrowWork_edge (s := s.at t) hv hlayer hkind, hfmt]
    rw [hfmt] at hn
    exact State.narrowInto_of_some (s := s.at t) hn
  case reduce => exact exec_reduce hcore hstall hcfg hon req x
  case clean =>
    rw [exec_sramRead hcore hstall hcfg hon, if_pos hreach]
    exact congrArg Host.Outcome.next (State.sramRead_clean (s := s.at t) hclean)
  case double =>
    refine ⟨_, (exec_sramRead hcore hstall hcfg hon req unit row addr .double).trans (congrArg Host.Outcome.next (if_pos hreach)), ?_⟩
    rw [State.sramRead_double (s := s.at t) hclean]
    exact (s.at t).uncorrectable_spec req unit addr
  case write =>
    rw [exec_sramWrite hcore hstall hcfg hon, if_pos hreach]
    rfl
  case noRead => rw [exec_sramRead hcore hstall hcfg hon, if_neg (by simp [hreach])]
  case noWrite => rw [exec_sramWrite hcore hstall hcfg hon, if_neg (by simp [hreach])]
  case residue => exact ⟨_, exec_residue hcore hstall hcfg hon, (s.at t).residueMismatch_spec (s.uidCore core)⟩
  case dropped =>
    rw [exec_splitDone heng hcfg, splitDone_of_pass (s := s.at t) hp hy hws hbad hlost rfl, if_pos hdrop]
  case split =>
    have hexec := exec_splitDone (t := t) heng hcfg
    rw [splitDone_of_pass (s := s.at t) hp hy hws hbad hlost hd, if_neg (by simp [hdrop])] at hexec
    refine ⟨hexec, fun hnone => ⟨_, hexec, ?_⟩⟩
    rw [hnone]
    exact (congrArg KprS.done (State.lateSwap_kpr _ _)).trans (congrArg KprS.done (State.endPass_kpr _ d))

end Sys2Proof.Machine
end

section
/-! Proofs: a due beat boundary begins the next beat in its open phase (spec/01 R35, R42). -/
namespace Sys2Proof.Machine
open Sys2Proof

/-! ### The number of the next beat -/

theorem State.applyWrite_numberSet (s : State) (v : OVal) :
    (s.applyWrite (⟨.BEAT_NUMBER_SET, 0, 0⟩, v)).beat = { s.beat with numberSet := some (ovNat v) } := rfl

/-- A write of BEAT_NUMBER_SET that waits is taken up. -/
theorem State.applyNumber_beat_of_waiting {s : State} {v : OVal} (h : s.waitingFor ⟨.BEAT_NUMBER_SET, 0, 0⟩ = some v) :
    s.applyNumber.beat = { s.beat with numberSet := some (ovNat v) } := by
  unfold State.applyNumber
  rw [h]
  exact State.applyWrite_numberSet _ v

theorem State.applyNumber_of_none {s : State} (h : s.waitingFor ⟨.BEAT_NUMBER_SET, 0, 0⟩ = none) : s.applyNumber = s := by
  unfold State.applyNumber
  rw [h]

/-- The waiting writes and the beat say what the number's write does to the beat. -/
theorem State.applyNumber_beat_congr {s x : State} (hwaiting : x.waiting = s.waiting) (hbeat : x.beat = s.beat) :
    x.applyNumber.beat = s.applyNumber.beat := by
  have hwait : x.waitingFor ⟨.BEAT_NUMBER_SET, 0, 0⟩ = s.waitingFor ⟨.BEAT_NUMBER_SET, 0, 0⟩ := by
    unfold State.waitingFor
    rw [hwaiting]
  rcases h : s.waitingFor ⟨.BEAT_NUMBER_SET, 0, 0⟩ with _ | v
  · rw [State.applyNumber_of_none h, State.applyNumber_of_none (hwait.trans h), hbeat]
  · rw [State.applyNumber_beat_of_waiting h, State.applyNumber_beat_of_waiting (hwait.trans h), hbeat]

theorem State.applyNumber_next (s : State) : s.applyNumber.beat.next = s.beat.next := by
  rcases h : s.waitingFor ⟨.BEAT_NUMBER_SET, 0, 0⟩ with _ | v
  · rw [State.applyNumber_of_none h]
  · rw [State.applyNumber_beat_of_waiting h]

theorem State.commitSeq_beat (s : State) (i n : Nat) (toks : List Nat) : (s.commitSeq i n toks).beat = s.beat := by
  unfold State.commitSeq
  dsimp only
  split <;> rfl

theorem State.leaveStep_beat (s : State) (i : Nat) : (s.leaveStep i).beat = s.beat := by
  unfold State.leaveStep
  dsimp only
  split
  · rfl
  · split
    · rfl
    · split
      · rfl
      · split
        · split
          · exact State.commitSeq_beat _ _ _ _
          · rfl
        · rfl

theorem State.leaveSteps_beat (s : State) : s.leaveSteps.beat = s.beat := foldl_keeps State.beat _ State.leaveStep_beat _ _

/-! ### The next beat -/

theorem State.beginBeat_bk (s : State) : s.beginBeat.bk = (s.beat.nextNumber, s.beat.next, .open_) := by
  unfold State.beginBeat
  dsimp only
  split
  · rfl
  · rw [State.takeSource_bk]
    rfl

/-- The beat that ends gives way to the one that its predicted boundary begins. -/
theorem State.endBeat_bk (s : State) : s.endBeat.bk = (s.applyNumber.beat.nextNumber, s.beat.next, .open_) := by
  have hbeat : s.keepStepCfg.applyNumber.leaveSteps.beat = s.applyNumber.beat := by
    rw [State.leaveSteps_beat]
    exact State.applyNumber_beat_congr rfl rfl
  unfold State.endBeat
  dsimp only
  rw [State.dropCaptures_bk, State.overruns_bk, State.beginBeat_bk, hbeat, State.applyNumber_next]

/-- All of a boundary but what may stop the device. -/
def State.boundaryWork (s : State) (host : List HostCell) (costs : List StepCost) (quiet work : Nat) (frees admits : Option Nat) : State :=
  let y := (s.hostWrote host).endBeat.notchZero
  ((((y.itemOne (s.beat.phase != .none)).rootSwaps.itemThree frees).itemFour admits).itemFive costs quiet work).slotsPost.handSends.deadRounds.sendMarkers

section
variable (s : State) (host : List HostCell) (costs : List StepCost) (quiet work : Nat) (frees admits : Option Nat)

theorem State.boundaryWork_bk : (s.boundaryWork host costs quiet work frees admits).bk = (s.applyNumber.beat.nextNumber, s.beat.next, .open_) := by
  have hnumber : (s.hostWrote host).applyNumber.beat = s.applyNumber.beat := State.applyNumber_beat_congr rfl rfl
  unfold State.boundaryWork
  dsimp only
  rw [State.sendMarkers_bk, State.deadRounds_bk, State.handSends_bk, State.slotsPost_bk, State.itemFive_bk, State.itemFour_bk, State.itemThree_bk,
    State.rootSwaps_bk, State.itemOne_bk, State.notchZero_bk, State.endBeat_bk, hnumber]
  rfl

theorem State.boundaryWork_key : (s.boundaryWork host costs quiet work frees admits).key = s.key := by
  unfold State.boundaryWork
  dsimp only
  rw [State.sendMarkers_key, State.deadRounds_key, State.handSends_key, State.slotsPost_key, State.itemFive_key, State.itemFour_key, State.itemThree_key,
    State.rootSwaps_key, State.itemOne_key, State.notchZero_key, State.endBeat_key, State.hostWrote_key]

variable {s}

theorem beatBoundary_of_due (hdue : s.boundaryDue = true) :
    beatBoundary host costs quiet work frees admits s =
      (s.boundaryWork host costs quiet work frees admits).lcBoundary.devPower.wdtStopNow.flush :=
  if_neg (by rw [hdue]; exact Bool.false_ne_true)

end

theorem State.devPower_idle {s : State} (h : s.boot.command = 0) : s.devPower = s := if_pos (by simp [h])

theorem State.wdtStopNow_idle {s : State} (h : s.evt.wdtStop = false) : s.wdtStopNow = s := if_pos (by simp [h])

/-- Settles O6: the work of a boundary leaves number, begin and phase as the next beat has them. -/
theorem boundaryBeginsNextBeat : Obligations.BoundaryBeginsNextBeat := by
  intro t host costs quiet work frees admits s hmode htrans hnext
  have hdue : (s.at t).boundaryDue = true := by
    have htrans : s.beat.trans.isNone = true := by rw [htrans]; rfl
    have hmode : (s.beat.mode != .seeking) = true := bne_iff_ne.mpr hmode
    show (s.beat.mode != .seeking && s.beat.trans.isNone && decide (max s.now t ≥ s.beat.next)) = true
    rw [hmode, htrans, decide_eq_true hnext]
    rfl
  have hnumber : (s.at t).applyNumber.beat = s.applyNumber.beat := State.applyNumber_beat_congr rfl rfl
  obtain ⟨u, hu⟩ : ∃ u, u = (s.at t).boundaryWork host costs quiet work frees admits := ⟨_, rfl⟩
  have hexec : exec (.beatBoundary t host costs quiet ⟨work, frees, admits⟩) s = .next u.lcBoundary.devPower.wdtStopNow.flush := by
    rw [hu]
    exact congrArg Host.Outcome.next (beatBoundary_of_due host costs quiet work frees admits hdue)
  have hbk : u.bk = (s.applyNumber.beat.nextNumber, s.beat.next, .open_) := by
    rw [hu, State.boundaryWork_bk, hnumber]
    rfl
  have hkey : u.key = (s.at t).key := by
    rw [hu]
    exact State.boundaryWork_key _ _ _ _ _ _ _
  refine ⟨u, hexec, congrArg (fun b => b.1) hbk, congrArg (fun b => b.2.1) hbk, congrArg (fun b => b.2.2) hbk, congrArg (fun k => k.2.1) hkey,
    congrArg (fun k => k.1) hkey, congrArg (fun k => k.2.2.1) hkey, fun hcommand hstop => ?_⟩
  rw [State.devPower_idle hcommand, State.wdtStopNow_idle hstop] at hexec
  have hend : u.lcBoundary.flush.bk = (s.applyNumber.beat.nextNumber, s.beat.next, .open_) := by
    rw [State.flush_bk, State.lcBoundary_bk, hbk]
  have hnow : u.lcBoundary.flush.now = max s.now t := by
    have hkeyA : keyA u.lcBoundary.flush.key = keyA (s.at t).key := by
      rw [State.flush_key, State.lcBoundary_keyA, hkey]
    exact congrArg (fun k => k.2.1) hkeyA
  exact ⟨_, hexec, congrArg (fun b => b.1) hend, congrArg (fun b => b.2.1) hend, congrArg (fun b => b.2.2) hend, hnow⟩

end Sys2Proof.Machine
end
